-- ==== Sys2Proof/Word.lean ====
section
/-! DEFINITION. The words of the Galval GV8420: a register is 32 bits (spec/00 R5), memory is bytes, stored least
significant byte first (00 R4). -/

namespace Sys2Proof

/-- A register word (00 R5). -/
abbrev Word := BitVec 32

/-- One byte of an addressed memory. -/
abbrev Byte := BitVec 8

end Sys2Proof
end

