-- ==== Sys2Proof/Syntax.lean ====
section
/-! DEFINITION. The commands the block takes: what stands at its pins, what its ports and media bring it, what its cores, its host and its
clock do to it, one constructor for each row of spec/opcode_table.json in the table's order; and the operands the commands carry. -/

namespace Sys2Proof

/-- The motor ADCs' codes of a PWM period (05 R158): SP_IU, SP_IV, SP_IW, SP_VU, SP_VV, SP_VW, SP_CT, SP_VM. -/
structure PwmSample where
  iu : Fin 4096
  iv : Fin 4096
  iw : Fin 4096
  vu : Fin 4096
  vv : Fin 4096
  vw : Fin 4096
  ct : Fin 4096
  vm : Fin 4096
  deriving DecidableEq, Repr

/-- A wedge at the port of an actuator (06 R211, R212, R218, R237): the interval since the last wedge in 1.25 ns, the SHK_ROT ADC's code, the 320
samples of each of the four lanes PAn_RDP[3:0], one a servo bit. -/
structure WedgeSample where
  interval : Nat
  rot : BitVec 12
  lanes : List (List Int)
  deriving DecidableEq, Repr

/-- What has gone wrong in a Shepherd's stores at a fetch (07 R258, R286): the bits of the stored micro-word and nanoword, parity bits above them, that
read inverted, and whether a remap table's entry fails its parity. -/
structure MicroFetch where
  micro : BitVec 17
  nano : BitVec 136
  remap : Bool
  deriving DecidableEq, Repr

/-- The ALU fields of a nanoword (07 R266). -/
structure AluFields where
  srcA : Fin 32
  srcB : Fin 32
  dst : Fin 32
  we : Bool
  bImm : Bool
  sat : Bool
  imm : Nat
  deriving DecidableEq, Repr

/-- How a store reload ended (07 R287, R294): every word read and the copy's digest recomputed, or a parity failure met. -/
inductive ReloadOutcome where
  | done | parity
  deriving DecidableEq, Repr

/-- What the lanes deliver from the start of a sector attempt (09 R330, R348): the ADC codes of lanes A and B at bits -16 to 95; whether the
synthesiser reports loss of lock (R367). -/
structure AttemptCodes where
  a : List Int
  b : List Int
  synthLost : Bool
  deriving DecidableEq, Repr

/-- A stretch of at most 16 bits past bit 95 (09 R330, R339): the ADC codes of both lanes and the tentative detector's decisions â (true for +1). -/
structure BitCodes where
  a : List Int
  b : List Int
  plus : List Bool
  deriving DecidableEq, Repr

/-- What goes wrong in a slice's decode (10 R411): a parity failure in a slot, message or code memory; a run past 1.5 times its clocks. -/
inductive DecodeFault where
  | none | parity | overrun
  deriving DecidableEq, Repr

/-- What a read of a Granary line meets (12 R475 to R478): no error, a corrected symbol, an uncorrectable codeword. -/
inductive DramRead where
  | good
  | corrected (symbol : Nat)
  | uncorrectable
  deriving DecidableEq, Repr

/-- A request accepted by the DDR block (12 R471, R472): its class, direction, byte address in the data capacity and, for a write, its
bytes. -/
structure DramAsk where
  cls : Fin 4
  write : Bool
  addr : Nat
  bytes : List Nat
  deriving DecidableEq, Repr

/-- How an append to the Tally ends (18 R737, R744): written; written after the two Keccak cores disagreed once about its CHAIN; not made, for they
disagreed twice; or the store could not be written. -/
inductive AppendEnd where
  | good | redone | disagreed | failed
  deriving DecidableEq, Repr

/-- Who uses a tile (12 R495): the write channel of a stream takes the next sector of its queue; the others name the tile. -/
inductive TileUser where
  | channel (st : Fin 8)
  | porter (tile : Nat)
  | parity (tile : Nat)
  deriving DecidableEq, Repr

/-- The outcome of a word's SEC-DED check (13 R531). -/
inductive Ecc where
  | clean | single | double
  deriving DecidableEq, Repr

/-- What a core does at an address (01 R33, R38; 13 R510); `insn`: it executes a whole instruction. -/
inductive MemOp where
  | load | store | fetch | lr | sc
  | amoSwap | amoAdd | amoXor | amoAnd | amoOr | amoMin | amoMax | amoMinu | amoMaxu
  | fence | csrRead | csrWrite | csrSet | csrClear | mret | ecall | ebreak | insn
  deriving DecidableEq, Repr

/-- An access of a Reeve core or of the Drover: what it does, the internal address (of a CSR instruction the register's number), the bytes
(1, 2, 4 or 8), the value stored (of a whole instruction its word, which the core has fetched). And what it meets: an L1 parity error (19 R779), the words' checks (13 R529, R531),
the Granary's answer, the read-back after a write to a faulting word (13 R541), the victim lines whose write-backs have been
issued (13 R526), and how far the maintenance engine has come, in lines (13 R521, R523). -/
structure CoreAccess where
  op : MemOp
  addr : Nat
  len : Nat
  data : Nat
  l1Parity : Bool
  word : Ecc
  tag : Ecc
  dram : DramRead
  back : Bool
  issued : List Nat
  engine : Nat
  deriving DecidableEq, Repr

/-- A non-caching agent's access to the Granary (13 R504): direction, byte address in the data capacity, the bytes written or their
number; the service class of the agent (12 R472). -/
structure GranAccess where
  write : Bool
  cls : Fin 4
  addr : Nat
  len : Nat
  bytes : List Nat
  dram : DramRead
  deriving DecidableEq, Repr

/-- How a Porter burst ends (14 R556, R572): with its data, or with what its reads and its link met. Host data come with it; `intact` is
false where a source tile fails its CRC. -/
structure BurstEnd where
  host : List Nat
  dram : DramRead
  word : Ecc
  intact : Bool
  hostError : Bool
  deriving DecidableEq, Repr

/-- A configuration request (15 R585, R591 to R593): a read of a dword, or a write of a base address register by its dword, of MSI-X Message
Control, of the Command register, of Link Control, of Device Control (128 bytes shifted left by each size) or of Device Control 2. -/
inductive ConfigAsk where
  | read (dw : Fin 1024)
  | bar (dw : Fin 1024) (v : BitVec 32)
  | msix (enable mask : Bool)
  | command (memory busMaster : Bool)
  | linkControl (aspmL1 : Bool)
  | deviceControl (mps mrrs : Fin 6)
  | timeout (disable : Bool)
  deriving DecidableEq, Repr

/-- An error of the link (15 R588, R620): a receiver error on a physical lane, or another error with its AER status bit. -/
inductive LinkErr where
  | receiver (lane : Fin 8)
  | correctable (bit : Fin 32)
  | uncorrectable (bit : Fin 32) (header : Nat)
  deriving DecidableEq, Repr

/-- A read of the load that fails (03 R104): its slot, the directory index of the section (64 for the header and directory, 65 and 66 for
selector copies 0 and 1), whether it ends without the data strobe or else brings other bytes, whether the repeated read fails the same
way. -/
structure FlashFault where
  slot : Fin 2
  item : Nat
  strobe : Bool
  again : Bool
  deriving DecidableEq, Repr

/-- What training finds (12 R453, R457 to R460), one bit per rank, 3 × subchannel + rank: the ranks that answer, those that fail at
3,200 MT/s, those that fail the retraining of R458; and whether the devices have 16 Gb. -/
structure RankFacts where
  answer : Nat
  failed : Nat
  retrain : Nat
  dense : Bool
  deriving DecidableEq, Repr

/-- A Granary rank fault while the load copies the section of a directory index of a slot (03 R122). -/
structure RankLoss where
  slot : Fin 2
  item : Fin 64
  sc : Fin 2
  rank : Fin 3
  deriving DecidableEq, Repr

/-- The configuration flash as a load meets it (03 R86 to R91): whether it answers the SFDP read with the profile table, log2 of its size,
the bytes it came with as runs (any other byte reads erased; what the device has written since stands over them), the reads that fail, the
rank faults met, the Granary's training, the load's milliseconds. -/
structure Flash where
  answers : Bool
  profile : Bool
  density : Nat
  runs : List (Nat × List Nat)
  faults : List FlashFault
  losses : List RankLoss
  ranks : RankFacts
  ms : Nat
  deriving DecidableEq, Repr

/-- A self-test failure (04 R139): the bit of its test, the unit (macro, core, actuator, role or stream), the failing words of a macro, or
whether a spare is left. -/
structure TestFail where
  bit : Fin 7
  unit : Nat
  words : List Nat
  spare : Bool
  deriving DecidableEq, Repr

/-- Host memory as a command's reads meet it: runs of bytes (any other byte reads what the device knows of it), and the byte of the
command's data at which a read ends HOST_ERROR. -/
structure HostView where
  runs : List (Nat × List Nat)
  error : Option Nat
  deriving DecidableEq, Repr

/-- What the policy code answers to a drive-maker command (16 R671): its status, DETAIL and DETAIL_HI, the bytes it moves to the host. -/
structure PolicyAnswer where
  status : BitVec 16
  detail : BitVec 32
  hi : BitVec 16
  bytes : List Nat
  deriving DecidableEq, Repr

/-- The commands. -/
inductive Instr where
  /-- Release of PORST_N starts a cold BOOT with clock bring-up and the configuration load (R134). -/
  | porstNRelease
  /-- A PORST_N low of 10 µs or more resets the whole device; shorter lows are ignored or taken whole (R865). -/
  | porstNAssert (ns : Nat) (taken : Bool)
  /-- Power-on of the always-on domain increments and commits the power-cycle count (R792). -/
  | aonPowerOn
  /-- VDDIO below range with VDD_AON in range is taken as PORST_N asserted and VDDIO balls float (R875). -/
  | vddioLoss
  /-- PWRFAIL_N falling takes every write gate and assist line inactive within 100 ns (R148). -/
  | pwrfailFall
  /-- PWRFAIL_N still low 2 µs after falling commits the Harvest and starts its park, power-down and tail write (R148). -/
  | harvestCommit
  /-- PWRFAIL_N rising before commitment restores the gates; after commitment the Harvest completes and the device restarts (R151). -/
  | pwrfailRise
  /-- The journal tail and its end marker are programmed and MOD_HARV_STAT.DONE is set (R148). -/
  | harvestTailWritten (ms : Nat)
  /-- A PORST_N held off during a committed Harvest is honoured at DONE or after 1.2 s (R151). -/
  | harvestHoldoffEnd
  /-- The ROSC amplitude detector is satisfied (R52). -/
  | roscQualified
  /-- 4,096 slow-ring cycles have been counted since PORST_N release (R52). -/
  | slowRingCounted
  /-- The slow ring fails to reach 4,096 cycles within 2^19 ROSC cycles, holding reset and driving FAULT_N low (R53). -/
  | slowRingTimeout (reached : Nat)
  /-- A 1,024-ROSC-cycle window ends and its XIN count is judged against the band or CREF (R56). -/
  | monitorWindow (count : Nat)
  /-- The 64-window learning phase ends, CREF is set and tracking begins (R55). -/
  | learningEnd
  /-- A start-up vote over 64 slow-ring cycles completes and settles the disagreement (R61). -/
  | clockVote (xin rosc : Nat)
  /-- No XIN rising edge for 8 ROSC cycles declares XIN failed or out of band (R59). -/
  | xinEdgeTimeout
  /-- 64 consecutive good tracking windows requalify XIN (R69). -/
  | xinRequalified
  /-- Loss of ROSC amplitude in tracking sets PHASE ROSC_LOST and records 0x0109 (R82). -/
  | roscAmplitudeLost
  /-- In ROSC_LOST, XIN is judged against the slow ring every 64 slow-ring cycles (R82). -/
  | coarseXinCheck (xin : Nat)
  /-- A write of 1 to CLK_PLLp_CTRL.EN starts lock attempts (R69). -/
  | pllEnableWrite (p : Fin 5)
  /-- A write of 0 to EN stops the PLL or is refused while an island uses it (R82). -/
  | pllDisableWrite (p : Fin 5)
  /-- A lock-check window of a PLL ends; four good windows in a row declare it locked (R62). -/
  | pllLockWindow (p : Fin 5) (count : Nat)
  /-- A lock attempt not locked within 2^14 ROSC cycles fails and restarts (R63). -/
  | pllLockTimeout (p : Fin 5)
  /-- A write to CLK_ISL_CTRL.SRC starts a stop-switch-restart of the selected island (R70). -/
  | islandSourceSwitch (src : Fin 4)
  /-- The island receives its first edge of the new source after the fixed gap (R70). -/
  | islandSwitchDone (island : Fin 29)
  /-- A write of 1 to CLK_ISL_CTRL.GATE waits for the island's bus interface to drain (R72). -/
  | islandGateRequest
  /-- A write of 0 to CLK_ISL_CTRL.GATE restarts the island's clock (R72). -/
  | islandUngate
  /-- The bus interface drains and the island's clock stops (R72). -/
  | islandDrained (island : Fin 29) (part : Fin 4)
  /-- A gate request not drained within 4,096 island cycles is refused (R73). -/
  | gateTimeout (island : Fin 29) (part : Fin 4) (outstanding : Nat)
  /-- A write of 0 to a CLK_PD_CTRL bit starts the domain drain (R78). -/
  | powerDownRequest (dom : Fin 10)
  /-- The domain's islands are gated, outputs isolated and the supply switch opens (R78). -/
  | powerDownDone (dom : Fin 10)
  /-- A write of 1 to a CLK_PD_CTRL bit powers the domain up (R80). -/
  | powerUpRequest (dom : Fin 10)
  /-- The domain is powered and CLK_PD_STAT.BUSY reads 0 (R80). -/
  | powerUpDone (dom : Fin 10)
  /-- A write of 1 to CLK_PD_DROPWR.CLEAR sets COUNT to zero (R83). -/
  | dropwrClear
  /-- A write to a register with no row of its own acts per its access codes (R7); `wide` for the 64 bits of a register pair (R6). -/
  | registerWrite (byHost : Bool) (addr : BitVec 40) (wide : Bool) (v : BitVec 64)
  /-- A Reeve core load, store, AMO or fetch is performed or raises an access or misalignment fault (R42). -/
  | reeveAccess (core : Fin 4) (x : CoreAccess)
  /-- The boot ROM loads, checks and copies the configuration image once clock bring-up is done (R102). -/
  | configLoad (fl : Flash)
  /-- The flash reports no write in progress and the load proceeds (R89). -/
  | flashReady (fl : Flash)
  /-- After DONE the self-test runs and masks, fences or sends failures to SAFE (R139). -/
  | selfTest (l : List TestFail)
  /-- The boot ROM appends the signed KIND 1 boot record and BOOT_COUNT increments (R735). -/
  | talAppendBoot (how : AppendEnd)
  /-- A write to MOD_REQ requests EASE, REST or SERVE or is refused (R136). -/
  | modReqWrite (t : Fin 8)
  /-- A write of 1 to MOD_CTRL.REBOOT starts a warm BOOT when its conditions hold (R143). -/
  | modReboot
  /-- A write to MOD_EASE_IDLE sets EASE_IDLE or is refused out of range (R152). -/
  | modEaseIdleWrite (v : BitVec 17)
  /-- A write to MOD_REST_IDLE sets REST_IDLE or is refused out of range (R152). -/
  | modRestIdleWrite (v : BitVec 17)
  /-- A write to MOD_EASE_RPM sets EASE_RPM or is refused out of range (R152). -/
  | modEaseRpmWrite (v : BitVec 13)
  /-- Idle time reaching EASE_IDLE takes SERVE to EASE (R134). -/
  | easeIdleExpire
  /-- Idle time reaching REST_IDLE starts the REST entry sequence (R134). -/
  | restIdleExpire
  /-- Each 25 µs PWM period samples currents, runs the observer and closes the current loops (R162). -/
  | pwmPeriod (p : PwmSample)
  /-- Re-acquisition not locked within 20 ms fails, retracts and listens again or stops (R182). -/
  | reacquireTimeout
  /-- 60 s locked in RUN returns MIL_OBS.FAILS to zero (R185). -/
  | obsFailsClear
  /-- Listening ends and the Mill enters RUN, BRAKE or SENSE (R170). -/
  | listenEnd
  /-- The short-braked spindle falls below 0.5 % of BASE_RPM and SENSE starts (R204). -/
  | brakeDone
  /-- A backward-start short brake not done in 10 s fails the attempt (R171). -/
  | brakeTimeout
  /-- The sensing pulses end and the rotor is aligned (R172). -/
  | senseDone
  /-- 150 ms of alignment ends and the open-loop ramp starts (R172). -/
  | alignDone
  /-- The observer agrees with open loop for 20 ms and RUN is entered (R172). -/
  | handoverMet
  /-- Hand-over not met within 100 ms fails the start attempt (R174). -/
  | handoverTimeout
  /-- The 300 ms retry brake ends and a new attempt starts from SENSE (R174). -/
  | retryBrakeEnd
  /-- Speed below 0.5 % of BASE_RPM for 1 s puts the Mill in STOPPED (R178). -/
  | spindleAtRest
  /-- SP_VM out of range for 1 ms puts the Mill in COAST with 0x1013 (R204). -/
  | motorSupplyFault
  /-- Each second in SERVE the Miller updates demand and computes a candidate target (R190). -/
  | millerSecond
  /-- With no stripe write on the medium, PENDING passes to RAMP (R194). -/
  | rampStart
  /-- The set-point reaches the target and SETTLE begins (R194). -/
  | rampTargetReached
  /-- 8 revolutions within ±0.05 % end SETTLE and release the write hold (R194). -/
  | rampSettled
  /-- A gas-density sample is taken once per second at steady speed (R199). -/
  | gasSample
  /-- A servo wedge is demodulated into position, PES and the write-fault decision (R214). -/
  | wedge (n : Fin 4) (w : WedgeSample)
  /-- No SAM in its window runs the wedge on predicted timing and inhibits writing (R220). -/
  | missedWedge (n : Fin 4) (rot : BitVec 12)
  /-- A load request with the Mill in RUN and the Miller STEADY drives the heads off the ramp (R221). -/
  | loadRequest (n : Fin 4)
  /-- The heads leave the ramp and ACQUIRE begins (R238). -/
  | headsOffRamp (n : Fin 4)
  /-- 500 ms without acquisition unloads and retries or fences the actuator (R221). -/
  | acquireTimeout (n : Fin 4)
  /-- SEEK and SETTLE exceeding twice the table time restart the seek or enter LOST (R225). -/
  | seekTimeout (n : Fin 4)
  /-- 50 ms in LOST without recovery unloads the heads (R221). -/
  | lostTimeout (n : Fin 4)
  /-- The heads reach the ramp and the Shepherd reads PARKED or FENCED (R221). -/
  | headOnRamp (n : Fin 4)
  /-- Not parked 300 ms after the decision asserts RETRACT_N and enters RETRACTED (R240). -/
  | retractTimeout (n : Fin 4)
  /-- The 100 ms hardware park current ends (R240). -/
  | hardwareParkDone (n : Fin 4)
  /-- A write of 1 to SHP_CTRL.FENCE fences the actuator (R221). -/
  | shpFenceWrite (n : Fin 4)
  /-- Every 100 ms the head-stack temperature is read and θ chosen (R229). -/
  | preampTempRead (n : Fin 4)
  /-- A preamp serial frame completes and its read data is checked (R245). -/
  | preampFrameDone (n : Fin 4) (answer : BitVec 17)
  /-- A write of GO to SHP_PA_CMD queues a runtime preamp frame or refuses it (R252). -/
  | paCmdGo (n : Fin 4) (v : BitVec 24)
  /-- PAn_FLT_N low asserts the preamp inhibit source and queues the FLT read (R250). -/
  | preampFault (n : Fin 4)
  /-- The store reload and hardware park complete and microcode restarts (R293). -/
  | storeReloadDone (n : Fin 4) (o : ReloadOutcome)
  /-- A NEXT micro-word runs its nanoword and continues at the next address (R261). -/
  | microNext (n : Fin 4) (f : MicroFetch)
  /-- A BRANCH micro-word goes to TARGET when the condition holds (R261). -/
  | microBranch (n : Fin 4) (f : MicroFetch)
  /-- A LOOP micro-word decrements CTR and branches while non-zero (R261). -/
  | microLoop (n : Fin 4) (f : MicroFetch)
  /-- A CALL micro-word pushes the return address and goes to TARGET (R261). -/
  | microCall (n : Fin 4) (f : MicroFetch)
  /-- A RETURN micro-word pops the return stack (R261). -/
  | microReturn (n : Fin 4) (f : MicroFetch)
  /-- A WAIT micro-word repeats until its condition holds, then acts once (R263). -/
  | microWait (n : Fin 4) (f : MicroFetch)
  /-- TRET restores flags and banked registers and resumes the interrupted routine (R279). -/
  | microTret (n : Fin 4) (f : MicroFetch)
  /-- A FAULT micro-word is a microcode fault (R281). -/
  | microFault (n : Fin 4) (f : MicroFetch)
  /-- ALU NOP computes nothing (R268). -/
  | aluNop (n : Fin 4) (f : AluFields)
  /-- ALU ADD computes A + B (R268). -/
  | aluAdd (n : Fin 4) (f : AluFields)
  /-- ALU SUB computes A − B (R268). -/
  | aluSub (n : Fin 4) (f : AluFields)
  /-- ALU AND computes A and B (R268). -/
  | aluAnd (n : Fin 4) (f : AluFields)
  /-- ALU OR computes A or B (R268). -/
  | aluOr (n : Fin 4) (f : AluFields)
  /-- ALU XOR computes A xor B (R268). -/
  | aluXor (n : Fin 4) (f : AluFields)
  /-- ALU SHL shifts A left by B[4:0] (R268). -/
  | aluShl (n : Fin 4) (f : AluFields)
  /-- ALU SAR shifts A right arithmetically by B[4:0] (R268). -/
  | aluSar (n : Fin 4) (f : AluFields)
  /-- ALU MUL computes A × B / 2^29 rounded (R268). -/
  | aluMul (n : Fin 4) (f : AluFields)
  /-- ALU MAC adds the MUL result to DST (R268). -/
  | aluMac (n : Fin 4) (f : AluFields)
  /-- ALU MIN takes the lesser of A and B (R268). -/
  | aluMin (n : Fin 4) (f : AluFields)
  /-- ALU MAX takes the greater of A and B (R268). -/
  | aluMax (n : Fin 4) (f : AluFields)
  /-- ALU CLAMP limits A to ±|B| (R268). -/
  | aluClamp (n : Fin 4) (f : AluFields)
  /-- ALU ABS takes |A| (R268). -/
  | aluAbs (n : Fin 4) (f : AluFields)
  /-- ALU PASS passes A (R268). -/
  | aluPass (n : Fin 4) (f : AluFields)
  /-- ALU LDI loads IMM (R268). -/
  | aluLdi (n : Fin 4) (f : AluFields)
  /-- A nanoword with CLOAD loads loop counter CTR from IMM (R266). -/
  | counterLoad (n c : Fin 4) (imm : BitVec 32)
  /-- A write to MA0 or MA1 sets a microactuator output, clamped to reach (R271). -/
  | portMaWrite (n : Fin 4) (k : Fin 2) (v : BitVec 32)
  /-- A write to TGT0 or TGT1 sets a channel's target (R270). -/
  | portTgtWrite (n : Fin 4) (k : Fin 2) (v : BitVec 32)
  /-- A write to VCM_IREF sets the VCM current reference (R270). -/
  | portVcmIrefWrite (n : Fin 4) (v : BitVec 32)
  /-- A write to STATE sets SHP_STAT.STATE unless FENCED or RETRACTED (R273). -/
  | portStateWrite (n : Fin 4) (v : BitVec 32)
  /-- A write to HEADSEL queues a head switch with read-back (R232). -/
  | portHeadselWrite (n : Fin 4) (v : BitVec 32)
  /-- A write to WGEN requests write permission, granted only under R236 (R272). -/
  | portWgenWrite (n : Fin 4) (v : BitVec 32)
  /-- DRV_RET SELECT chooses the descriptor word shown at DRV_CMD (R690). -/
  | drvRetSelect (n w : Fin 4)
  /-- DRV_RET TAKEN removes the offered piece and starts its seek (R690). -/
  | drvRetTaken (n : Fin 4)
  /-- DRV_RET READY tells the Drover a channel has settled (R690). -/
  | drvRetReady (n : Fin 4) (k : Fin 2)
  /-- DRV_RET RETURN files an unfinished piece back into the grid (R690). -/
  | drvRetReturn (n : Fin 4) (k : Fin 2) (left : BitVec 16)
  /-- A write to EVENT reports a servo event code (R270). -/
  | portEventWrite (n : Fin 4) (v : BitVec 32)
  /-- A write to TABLE_ADDR selects a seek or calibration table word (R270). -/
  | portTableAddrWrite (n : Fin 4) (v : BitVec 32)
  /-- A write to TIMER starts or stops the one-shot timer (R270). -/
  | portTimerWrite (n : Fin 4) (v : BitVec 32)
  /-- The microcode timer expires and latches the TIMER cause (R274). -/
  | ucTimerExpire (n : Fin 4)
  /-- A qualifying latched cause is taken, its frame written and its vector fetched (R276). -/
  | trapTake (n : Fin 4)
  /-- At a role's period tick the engine samples and computes its output; `err` and `spareErr` are zero in sound engines (R308, R315). -/
  | loopTick (r : Fin 23) (m : Int) (err : Int) (spareErr : Int)
  /-- A close request moves a role to CLOSE_PEND and its next tick starts the soft start (R311). -/
  | loopCloseRequest (r : Fin 23) (byCtrl : Bool)
  /-- An open request sets the role's output to OPEN_OUT (R311). -/
  | loopOpenRequest (r : Fin 23) (byCtrl : Bool)
  /-- A write to an RWO loop register takes effect only while OPEN or FENCED (R314). -/
  | lpeCoefWrite (r : Fin 23) (off : Fin 64) (v : BitVec 32)
  /-- The spare finishes 64 shadow periods of a role and moves to the next (R315). -/
  | patrolComplete
  /-- The reference computation ends and the spare takes or leaves the role (R316). -/
  | referenceTestDone (spareOk formerOk : Bool)
  /-- A sector attempt starts with START and passes through its acquisition phases (R348). -/
  | sectorAttemptStart (st : Fin 8) (x : AttemptCodes)
  /-- Each 16-bit block the tap, gain, offset and asymmetry loops update (R342). -/
  | adaptBlock (st : Fin 8) (x : BitCodes)
  /-- A lane's thermal-asperity flag sets or clears (R344). -/
  | taFlagChange (st : Fin 8) (x : BitCodes)
  /-- A lane's defect flag sets or clears (R345). -/
  | defectFlagChange (st : Fin 8) (x : BitCodes)
  /-- The END marker follows the last bit of the attempt (R341). -/
  | sectorAttemptEnd (st : Fin 8) (parity : Bool)
  /-- An attempt is abandoned with a cause and samples stop (R365). -/
  | sectorAttemptAbandon (st : Fin 8) (cause : Fin 8)
  /-- A servo window switches the lanes to the servo clock and holds the loops (R335). -/
  | servoWindowOpen (st : Fin 8)
  /-- The lanes return to the synthesiser clock at the phase they would have had (R336). -/
  | servoWindowClose (st : Fin 8)
  /-- A write of 1 to RCH_Sx_CTRL.RESEED reseeds at the next START (R354). -/
  | rchReseedWrite (st : Fin 8)
  /-- A write of 1 to RCH_Sx_CTRL.FENCE fences the stream (R367). -/
  | rchFenceWrite (st : Fin 8)
  /-- A write to an RWO field takes effect only while PHASE is IDLE (R369). -/
  | rchRwoWrite (st : Fin 8) (off : Fin 256) (v : BitVec 32)
  /-- The slice searches SM1 and SM2 and sets the codeword start (R387). -/
  | syncFraming (q : Fin 9)
  /-- A detector pass and its local iterations end and the decode is judged (R393). -/
  | globalIterationEnd (q : Fin 9) (fault : DecodeFault)
  /-- A waiting off-line decode starts on a free slice (R403). -/
  | offlineDecodeStart
  /-- An off-line decode ends released or failed (R400). -/
  | offlineDecodeEnd (q : Fin 9) (fault : DecodeFault)
  /-- A write of 1 to DET_Qq_CTRL.FENCE is a slice fault (R411). -/
  | detFenceWrite (q : Fin 9)
  /-- A write of 1 to DET_Qq_CTRL.KAT runs the known-answer test at the next IDLE (R412). -/
  | detKatWrite (q : Fin 9)
  /-- Every 60 s each slice becomes due for its known-answer test (R412). -/
  | katDue (q : Fin 9)
  /-- A known-answer test ends passed or as a slice fault (R412). -/
  | katDone (q : Fin 9) (right : Bool)
  /-- Eight bits before a written segment the channel opens its gate or reports NOT_STARTED (R427). -/
  | segmentStart (st : Fin 8)
  /-- A sector's postamble ends and it is reported WRITTEN or TORN (R439). -/
  | writeSectorEnd (st : Fin 8) (flips : List Nat) (mon : List Int)
  /-- A shock comparator trips and the kill net forces every gate inactive (R435). -/
  | shockTrip (n : Fin 2)
  /-- The comparator returns inside its release window and SHK_HOLD starts (R435). -/
  | shockRelease (n : Fin 2)
  /-- SHK_HOLD ends and writing may resume under R235 (R436). -/
  | shkHoldExpire
  /-- A write of 1 to WCH_CTRL.FORCE asserts the FORCE inhibit source (R434). -/
  | wchForceWrite
  /-- A write of 1 to WCH_CTRL.RELEASE withdraws FORCE (R436). -/
  | wchReleaseWrite
  /-- A write of 1 to WCH_CTRL.SHK_TEST trips both comparators for 1 µs (R438). -/
  | wchShkTestWrite
  /-- The 1 µs test trip ends and SHK_HOLD runs (R438). -/
  | shkTestEnd
  /-- A write to WCH_SHK sets thresholds and hold, ignoring zero thresholds (R435). -/
  | wchShkWrite (v : BitVec 32)
  /-- A written sector is read on a later revolution and passes or is TORN cause VERIFY (R443). -/
  | verifyRead (st : Fin 8) (fault : DecodeFault)
  /-- A Granary request is issued under ordering and class rules (R471). -/
  | dramRequest (asks : List DramAsk) (i : Nat) (o : DramRead)
  /-- A request waiting past its age limit moves up one class (R473). -/
  | agePromotion (i : Nat)
  /-- A row open 4 µs without access is precharged (R474). -/
  | rowIdlePrecharge (sc : Fin 2) (rank : Fin 3) (bg : Fin 8) (ba : Fin 4)
  /-- Every 100 ms a rank pauses to correct write DQS delays (R461). -/
  | shortPause (sc : Fin 2) (rank : Fin 3) (ok : Bool)
  /-- Every 60 s or on a refresh change a rank repeats read training (R462). -/
  | longPause (sc : Fin 2) (rank : Fin 3) (ok : Bool) (rate : Fin 3)
  /-- A patrol read checks a line of every rank over 24 hours (R481). -/
  | dramPatrolRead (x : Nat) (spare : Bool) (o : DramRead)
  /-- The hour of operating time ends and corrected-error counts restart (R483). -/
  | ceHourEnd
  /-- One 64-byte line of a faulted rank is copied to the spare (R484). -/
  | migrationLineCopy (sc : Fin 2) (o : DramRead)
  /-- A write to DDR_MAP_LO or HI changes region orders, keeping region 0 at 0 (R490). -/
  | ddrMapWrite (high : Bool) (v : BitVec 32)
  /-- A producing port writes a pool tile in ascending order (R492). -/
  | tileProduceWrite (producer : Fin 3) (t off : Nat) (bytes : List Nat)
  /-- A checked use reads a whole tile and compares its CRC (R495). -/
  | tileUse (u : TileUser) (intact : Bool)
  /-- The tile test returns the tile EMPTY or RETIRED (R496). -/
  | tileTestDone (t : Nat) (pass : Bool)
  /-- A port request to the metadata cache hits or starts a fill (R505). -/
  | cacheRequest (port : Fin 5) (x : CoreAccess)
  /-- A fill completes and the waiting miss is answered (R506). -/
  | cacheFillDone (port : Option (Fin 5)) (o : DramRead)
  /-- A non-caching agent's Granary access snoops the cache and victim buffer (R504). -/
  | noncachingAccess (x : GranAccess)
  /-- A victim line's write-back reaches the Granary (R526). -/
  | victimWritebackDone (line : Nat)
  /-- A write to MCC_LOCK raises or lowers the locked ways or is ignored (R515). -/
  | mccLockWrite (v : BitVec 32)
  /-- The newly locked ways are cleaned and the new size takes effect (R515). -/
  | lockChangeDone
  /-- GO with OP CLEAN writes dirty lines of the range back (R518). -/
  | maintClean
  /-- GO with OP INVALIDATE discards lines of the range (R518). -/
  | maintInvalidate
  /-- GO with OP CLEAN_INVALIDATE writes back then discards lines (R518). -/
  | maintCleanInvalidate
  /-- A range operation ends and MAINT returns to 0 (R518). -/
  | maintDone
  /-- A write of 0 to MCC_CTRL.ENABLE starts the drain (R522). -/
  | cacheDisable
  /-- A write of 1 to ENABLE enables the empty cache, or is ignored during a drain (R524). -/
  | cacheEnable
  /-- The drain ends and the cache reads disabled (R522). -/
  | drainDone
  /-- The SRAM patrol reads a valid word and applies SEC-DED (R533). -/
  | sramPatrol (m : Fin 96) (word : Fin 8192) (o : Ecc)
  /-- Every LB_LEAK_MS each macro's bucket falls by one (R538). -/
  | bucketLeak
  /-- A write of 1 to SRM_FLIP_CTRL.ARMED arms the flip mask for one write (R540). -/
  | flipArm (v : BitVec 32)
  /-- A write of GO starts a channel at PC if the owner permits (R580). -/
  | porterGo (c : Fin 32) (byCore : Bool) (v : BitVec 30)
  /-- A write of ABORT ends the channel ABORTED after its started burst (R576). -/
  | porterAbort (c : Fin 32) (v : BitVec 30)
  /-- A MOVE instruction moves LENGTH bytes in bursts (R552). -/
  | porterMove (c : Fin 32) (o : DramRead) (word : Ecc)
  /-- A LOOP instruction counts, steps a parameter and branches back (R558). -/
  | porterLoop (c : Fin 32) (o : DramRead) (word : Ecc)
  /-- A WAIT instruction waits for a request, counter or time (R559). -/
  | porterWait (c : Fin 32) (o : DramRead) (word : Ecc)
  /-- A SIGNAL instruction bumps a counter, raises IRQ or notifies the owner (R560). -/
  | porterSignal (c : Fin 32) (o : DramRead) (word : Ecc)
  /-- A burst completes and the MOVE continues (R556). -/
  | porterBurstDone (c : Fin 32) (x : BurstEnd)
  /-- An awaited request, counter or time arrives and the channel continues (R559). -/
  | porterWaitSatisfied (c : Fin 32) (left : Nat)
  /-- Every byte written has arrived and the next instruction may start (R566). -/
  | porterBarrierMet (c : Fin 32)
  /-- The channel watchdog expires and the channel enters STALLED (R574). -/
  | porterWatchdog (c : Fin 32)
  /-- A write to POR_SWREQ adds a request to a software line (R564). -/
  | porSwreqWrite (v : BitVec 32)
  /-- A write to POR_OWNER changes owners of IDLE or DONE channels (R551). -/
  | porOwnerWrite (v : BitVec 32)
  /-- A write to an RWO channel field takes effect only while IDLE or DONE (R582). -/
  | porterRwoWrite (c : Fin 32) (off : Fin 128) (v : BitVec 32)
  /-- The link reaches L0 and the function answers configuration requests (R591). -/
  | linkL0 (w : Fin 4) (r : Fin 5) (rev : Bool)
  /-- The link leaves L0 for Detect and host bursts end HOST_ERROR (R619). -/
  | linkDetect
  /-- A failed lane takes the link through Recovery to a narrower width (R588). -/
  | laneFailure (lane : Fin 8)
  /-- A Hot Reset, DL_Down or FLR resets the function, windows, rings and queued commands (R590). -/
  | functionReset (kind : Fin 3)
  /-- A configuration request is answered without retry status (R591). -/
  | configRequest (q : ConfigAsk)
  /-- After L1_IDLE without traffic the Galval requests ASPM L1 (R592). -/
  | l1Request
  /-- A poisoned write TLP to a BAR is dropped and reported through AER (R619). -/
  | poisonedTlp (header : BitVec 32)
  /-- A host write to the MSI-X table; an unmask sends a pending message (R619). -/
  | msixTableWrite (v : Fin 64) (dw : Fin 4) (value : BitVec 32)
  /-- A write to TWN_W_CMDi stores command bytes or is ignored when not FREE (R597). -/
  | twnCmdWrite (w : Fin 256) (start : Fin 16) (l : List (BitVec 32 × BitVec 4))
  /-- A GO write is checked and answered ACCEPTED or REFUSED in the same cycle (R598). -/
  | twnGo (w : Fin 256) (v : BitVec 32) (all : Bool)
  /-- A write of ACK releases a DONE window (R604). -/
  | twnAck (w : Fin 256)
  /-- A host read of BAR0 or BAR2 at an offset; one of a BUSY window's results returns zero and advances the early-read counters (R594, R603). -/
  | earlyRead (bar2 : Bool) (off : BitVec 20) (len : Fin 65)
  /-- A write to TWN_CTRL.PAUSE stops or resumes acceptance (R605). -/
  | twnPauseWrite (v : Bool)
  /-- A HEAD write consumes completions and re-arms the ring, or is ignored out of range (R610). -/
  | ringHeadWrite (r : Fin 16) (v : BitVec 32)
  /-- A write of 1 to ENABLE resets HEAD, TAIL and phase (R607). -/
  | ringEnable (r : Fin 16) (v : BitVec 31)
  /-- A write of 0 to ENABLE disables the ring unless completions remain (R607). -/
  | ringDisable (r : Fin 16) (v : BitVec 31)
  /-- A write to BASE, IEN, LOG2 or VECTOR applies only while disabled (R607). -/
  | ringConfigWrite (r : Fin 16) (which : Fin 4) (v : BitVec 64)
  /-- A committed completion is written to its ring when data has arrived and room exists (R608). -/
  | completionPost (n : Nat) (arrived : Bool)
  /-- A status mirror register is refreshed after its source changes (R616). -/
  | statusMirrorRefresh (i : Fin 18)
  /-- A dispatched READ serves each sector from tiles, the medium, LOST or zeros (R702). -/
  | read (n : Nat) (v : HostView) (bad : List Nat)
  /-- A dispatched WRITE moves host data into tiles and commits, or waits for durability with FUA (R636). -/
  | write (n : Nat) (v : HostView)
  /-- FLUSH commits when earlier committed writes are durable (R646). -/
  | flush (n : Nat)
  /-- RELEASE trims map entries of the range (R705). -/
  | release (n : Nat)
  /-- VERIFY reads and checks the range without moving data (R641). -/
  | verify (n : Nat) (bad : List Nat)
  /-- ABORT ends its target according to the target's state (R648). -/
  | abort (n : Nat)
  /-- STREAM_OPEN admits a committed stream (R650). -/
  | streamOpen (n : Nat)
  /-- STREAM_CLOSE commits when the stream's earlier commands are committed (R653). -/
  | streamClose (n : Nat)
  /-- SEAL_BAND without CLOSE creates an append-only band (R654). -/
  | sealBandCreate (n : Nat)
  /-- SEAL_BAND with CLOSE closes the band (R656). -/
  | sealBandClose (n : Nat)
  /-- IDENTIFY returns the 4,096-byte identity structure (R658). -/
  | identify (n : Nat) (v : HostView)
  /-- LOG_READ returns a log page (R659). -/
  | logRead (n : Nat) (v : HostView) (lost : List Nat)
  /-- FEATURE_GET returns a feature's value (R660). -/
  | featureGet (n : Nat)
  /-- FEATURE_SET POWER_MODE makes a MOD_REQ write (R660). -/
  | featurePowerMode (n : Nat)
  /-- FEATURE_SET EASE_IDLE sets MOD_EASE_IDLE (R660). -/
  | featureEaseIdle (n : Nat)
  /-- FEATURE_SET REST_IDLE sets MOD_REST_IDLE (R660). -/
  | featureRestIdle (n : Nat)
  /-- FEATURE_SET EASE_RPM sets MOD_EASE_RPM (R660). -/
  | featureEaseRpm (n : Nat)
  /-- FEATURE_SET KEY_ROTATE increments the identity-key epoch after its Tally entry (R757). -/
  | featureKeyRotate (n : Nat)
  /-- FEATURE_SET DEBUG_UNLOCK sets or clears DEBUG (R757). -/
  | featureDebugUnlock (n : Nat)
  /-- FEATURE_SET SVN_FLOOR raises the security floor (R757). -/
  | featureSvnFloor (n : Nat)
  /-- FEATURE_SET UNSEAL_BAND removes a closed band (R757). -/
  | featureUnsealBand (n : Nat)
  /-- FW_DOWNLOAD writes the inactive slot and checks it at LAST (R661). -/
  | fwDownload (n : Nat) (v : HostView)
  /-- FW_ACTIVATE pauses, drains, rewrites the selector and starts a warm BOOT (R663). -/
  | fwActivate (n : Nat)
  /-- At the activation timeout QUEUED contexts complete ABORTED_ACTIVATION (R663). -/
  | activationTimeout
  /-- RESYNC builds the summary page and copies it and the tag bitmap (R668). -/
  | resync (n : Nat) (v : HostView)
  /-- ATTEST with P0 zero signs a fresh attestation over the nonce (R741). -/
  | attestFresh (n : Nat) (v : HostView)
  /-- ATTEST with P0 non-zero returns a stored boot record (R742). -/
  | attestBootRecord (n : Nat) (v : HostView)
  /-- An accepted vendor opcode is passed to the policy code (R671). -/
  | driveMakerCommand (n : Nat) (v : HostView) (a : PolicyAnswer)
  /-- A channel without a piece gets one from streams, age, a run pass or the grid (R687). -/
  | decisionPoint (st : Fin 8) (bad : List Nat)
  /-- The journal tail is programmed into the log area at 64 KiB or 1 s age (R711). -/
  | journalProgram
  /-- At half log use a checkpoint and new superblock are written (R712). -/
  | checkpoint
  /-- The map is restored from superblock, checkpoint and log replay (R713). -/
  | mapRestore (bad : Fin 4) (stop : Option Nat) (ms : Nat)
  /-- The peers of a rung 3 sector are read and XORed into a new tile (R715). -/
  | rebuildDone (stripe member : Nat) (bad : List Nat)
  /-- A surface rebuild completes or stops for lack of capacity (R718). -/
  | surfaceRebuildEnd
  /-- TAL_APPEND with KIND 4 appends a KEY_ROTATE entry under presence (R757). -/
  | talAppendKeyRotate
  /-- TAL_APPEND with KIND 5 appends an SVN_FLOOR entry under presence (R757). -/
  | talAppendSvnFloor
  /-- TAL_APPEND with KIND 6 appends a DEBUG_UNLOCK entry under presence (R757). -/
  | talAppendDebugUnlock
  /-- TAL_APPEND with KIND 7 appends an UNSEAL_BAND entry under presence (R757). -/
  | talAppendUnsealBand
  /-- TAL_APPEND with KIND 0x10 signs an attestation that is not stored (R741). -/
  | talAppendAttestation
  /-- A Tally request is signed and stored, or refused or failed (R764). -/
  | talRequestDone (how : AppendEnd) (bad : List (BitVec 32))
  /-- An appended entry is programmed into the Tally mirror partition (R738). -/
  | mirrorProgram
  /-- A Keccak computation ends with both cores agreeing (R743). -/
  | sealComputationDone (agree : Bool) (stored : List (BitVec 8))
  /-- A write of GO to SEA_JOB starts a runtime KMAC job (R751). -/
  | seaJobGo (v : BitVec 31)
  /-- A 64-bit write to SEA_DATA supplies 8 input bytes (R751). -/
  | seaDataWrite (v : BitVec 64)
  /-- A write of FINISH completes the input and produces the output (R751). -/
  | seaJobFinish (v : BitVec 30)
  /-- PRES_J is sampled each millisecond and presence established after 2,000 lows (R753). -/
  | presSample (low : Bool)
  /-- Presence ends 600 s after establishment (R754). -/
  | presenceExpire
  /-- A write of 1 to PRS_CTRL.REVOKE ends presence (R754). -/
  | prsRevokeWrite
  /-- SEAL_B is sampled after each SEAL_A change and the loop judged (R761). -/
  | sealLoopSample (b : Bool)
  /-- The pending SEAL_OPENED or SEAL_CLOSED entry is appended (R762). -/
  | sealEntryAppend (how : AppendEnd)
  /-- JTAG instruction BYPASS selects the bypass register (R759). -/
  | jtagBypass
  /-- JTAG instruction IDCODE returns 0x0842_0547 (R759). -/
  | jtagIdcode
  /-- JTAG SAMPLE/PRELOAD is accepted while DEBUG is set (R759). -/
  | jtagSamplePreload (pattern : Nat)
  /-- JTAG EXTEST drives the balls only in SAFE (R759). -/
  | jtagExtest (pattern : Nat)
  /-- JTAG DBG accesses the Reeve debug module while DEBUG is set (R759). -/
  | jtagDbg
  /-- JTAG OTPPROG programs ROOTKEY_DIGEST and sets ROOT_LOCK (R759). -/
  | jtagOtpprog (digest : BitVec 512)
  /-- A TRST_N low of 100 ns resets the TAP (R866). -/
  | jtagTapReset
  /-- A block reports an event to its Watch port, raising FAULT and SAFE lines as needed (R772). -/
  | eventReport (code : BitVec 16) (p0 p1 p2 p3 : BitVec 32)
  /-- FAULT_N returns to LEVEL 2 µs after the latest FAULT rise (R784). -/
  | faultnPulseEnd
  /-- The Watch takes one event from a port and records it (R772). -/
  | watchTake
  /-- Once per second discarded events are reported per port with 0x6007 (R772). -/
  | discardReport
  /-- A write of 1 to WAT_KICKn arms or restarts a core watchdog (R780). -/
  | watKickWrite (n : Fin 4)
  /-- A core watchdog expires and the core is fenced (R781). -/
  | coreWatchdogExpire (n : Fin 4)
  /-- A write of 1 to WAT_CTRL.FORCE_SAFE takes the SAFE decision (R778). -/
  | watForceSafe
  /-- A write to WAT_FAULTN.LEVEL sets FAULT_N outside pulses (R785). -/
  | watFaultnWrite (level : Bool)
  /-- A Watch parity mismatch takes SAFE by hardware and holds FAULT_N low (R788). -/
  | watchRegFault (off byte : BitVec 32)
  /-- A staged record is committed to the non-volatile array (R796). -/
  | daybookCommit (ok : Bool)
  /-- Once per second gathered repeat increments are committed (R798). -/
  | repeatCommit (ok : Bool)
  /-- The Day-Book token bucket refills at DBK_RATE (R800). -/
  | tokenRefill
  /-- A write of 1 to DBK_CTRL.FREEZE freezes the records (R806). -/
  | dbkFreezeWrite
  /-- A write of 0 to FREEZE ends the freeze and commits staged records (R807). -/
  | dbkThawWrite
  /-- A freeze ends after FREEZE_MAX_S (R807). -/
  | freezeExpire
  /-- A write to DBK_CURSOR refills the record window (R803). -/
  | dbkCursorWrite (v : BitVec 48)
  /-- A write of 1 to DBK_CTRL.NEXT advances the cursor past the shown record (R804). -/
  | dbkNextWrite
  /-- The window refill ends and WIN_BUSY returns to 0 (R804). -/
  | dbkWindowRefilled (readable : Bool)
  /-- The sub-second accumulator passes a whole second and the counter increments (R793). -/
  | opsecTick
  /-- Every 60 s the operating-seconds counter is committed (R793). -/
  | opsecCommit
  /-- Each millisecond every sensor is sampled and the reported junction formed (R820). -/
  | thermalSample (l : List Int)
  /-- Every 100 ms THERM_EXT is converted and judged (R825). -/
  | enclosureSample (code : Fin 4096)
  /-- A consumer without a step for 2 ms applies step 5 (R881). -/
  | stepStale
  /-- A write to PIO_UART_TX appends a byte or drops it when full (R871). -/
  | uartTxWrite (b : BitVec 8)
  /-- A byte leaves the transmit FIFO on UART_TX (R867). -/
  | uartByteSent
  /-- A byte received is kept or dropped for framing or overrun (R867). -/
  | uartRxByte (b : BitVec 8) (stop : Bool)
  /-- A write of 1 to PIO_UART_POP removes the oldest byte (R872). -/
  | uartPopWrite
  /-- A write to PIO_UART_CFG sets the rate or is ignored below 8 (R871). -/
  | pioUartCfgWrite (v : BitVec 32)
  /-- A write to PIO_GPIO_FN sets GPIO functions or is ignored whole (R871). -/
  | pioGpioFnWrite (v : BitVec 32)
  /-- A write to PIO_GPIO_PULL sets pulls or is ignored whole on a conflict (R871). -/
  | pioGpioPullWrite (v : BitVec 32)
  /-- PAn_FLT_N returning high, after the clearing write has been sent, releases the preamp source of the kill net so writing may resume
      (R250). -/
  | preampFaultClear (n : Fin 4)
  /-- A supply rail falls out of range, cutting a Harvest if VDD_CORE collapses early, and on loss of VDD_AON ending presence, clearing the
      history queue and losing staged Day-Book records and up to 60 s of operating time (R852). -/
  | railFall (r : Fin 7)
  /-- A host read request that receives no completion within the PCI Express completion-timeout range ends its Porter channel with HOST_ERROR
      (R572). -/
  | completionTimeout (c : Fin 32)
  /-- A due same-bank or all-bank refresh is issued and closes the bank's open row, leaving the page-close predictor unchanged (R474). -/
  | dramRefresh (sc : Fin 2) (rank : Fin 3) (ba : Option (Fin 4))
  /-- A receiver error or an AER-reported error on the link is counted per lane and in HIF_AER_CE or HIF_AER_UE, and records 0x4005 or 0x4006
      (R588). -/
  | linkError (e : LinkErr)
  deriving DecidableEq, Repr

end Sys2Proof
end

