-- ==== Sys2Proof/Decode.lean ====
section
/-! DEFINITION. The words of the command table. Its rows give a command no bits (spec/opcode_table.json: no field in any row), so no word
spells a command: a command comes from a pin, a port, the medium, the host or a core, with its operands beside it. -/

namespace Sys2Proof

/-- The command that a word of `nbits` bits spells by the table: none, since the table gives no row any bit. -/
def decodeTableWord (nbits w : Nat) : Option Instr :=
  match nbits, w with
  | _, _ => none

end Sys2Proof
end

