-- ==== Sys2Proof/Machine/Bits.lean ====
section
/-! DEFINITION. Small helpers over natural numbers read as words: saturating sums, bit masks, two's complement,
byte order (spec/00 R4), list places. -/

namespace Sys2Proof.Machine

/-- `v + k` held at the greatest value of `w` bits. -/
def satAdd (w v k : Nat) : Nat := min (v + k) (2 ^ w - 1)

/-- `v` with bit `n` set or cleared. -/
def withBit (v n : Nat) (b : Bool) : Nat :=
  if b then v ||| (2 ^ n) else v - (v &&& (2 ^ n))

/-- Bits `lo` to `lo + w - 1` of `v`. -/
def slice (v lo w : Nat) : Nat := v / 2 ^ lo % 2 ^ w

/-- `v` with bits `lo` to `lo + w - 1` replaced by `x`. -/
def withSlice (v lo w x : Nat) : Nat := v - slice v lo w * 2 ^ lo + x % 2 ^ w * 2 ^ lo

/-- The two's complement number of `w` bits held in `v`. -/
def toSigned (w v : Nat) : Int :=
  if v % 2 ^ w < 2 ^ (w - 1) then (v % 2 ^ w : Nat) else (v % 2 ^ w : Nat) - (2 ^ w : Nat)

/-- The `w` bits of an integer in two's complement. -/
def ofSigned (w : Nat) (z : Int) : Nat := (z % (2 ^ w : Nat)).toNat

/-- An integer limited to the interval from `lo` to `hi`. -/
def clampInt (lo hi z : Int) : Int := if z < lo then lo else if hi < z then hi else z

/-- An integer limited to the two's complement numbers of `w` bits. -/
def clampSigned (w : Nat) (z : Int) : Int := clampInt (-(2 ^ (w - 1) : Nat)) ((2 ^ (w - 1) : Nat) - 1) z

/-- The number of one bits among the low `n` bits of `v`. -/
def popCount : Nat → Nat → Nat
  | 0, _ => 0
  | n + 1, v => v % 2 + popCount n (v / 2)

/-- The smallest `n` below `k` for which `p` holds. -/
def firstBelow (k : Nat) (p : Nat → Bool) : Option Nat := (List.range k).find? p

/-- The element at place `n`, or `d` past the end. -/
def at' {α : Type} (l : List α) (n : Nat) (d : α) : α := l.getD n d

/-- The value of `n` bytes, the least significant first (00 R4). -/
def leValue : List Nat → Nat
  | [] => 0
  | b :: r => b % 256 + 256 * leValue r

/-- The `n` low bytes of `v`, the least significant first (00 R4). -/
def leBytes : Nat → Nat → List Nat
  | 0, _ => []
  | n + 1, v => v % 256 :: leBytes n (v / 256)

/-- The quotient rounded up; zero for a zero divisor. -/
def ceilDiv (a b : Nat) : Nat := if b = 0 then 0 else (a + b - 1) / b

/-- The quotient rounded to the nearest integer, halves up. -/
def roundDiv (a b : Nat) : Nat := if b = 0 then 0 else (2 * a + b) / (2 * b)

/-- A quotient of integers rounded to the nearest, ties away from zero (log entry 22). -/
def roundAway (a b : Int) : Int :=
  if b = 0 then 0
  else
    let q : Int := ((2 * a.natAbs + b.natAbs) / (2 * b.natAbs) : Nat)
    if (0 ≤ a) = (0 ≤ b) then q else -q

/-- The whole part of the square root of a number below 2^80. -/
def sqrtFloor (n : Nat) : Nat :=
  (List.range 40).reverse.foldl (fun r k => if (r + 2 ^ k) * (r + 2 ^ k) ≤ n then r + 2 ^ k else r) 0

/-- The square root rounded to the nearest integer. -/
def sqrtRound (n : Nat) : Nat :=
  let r := sqrtFloor n
  if r * r + r < n then r + 1 else r

/-- The distance of two numbers. -/
def gap (a b : Nat) : Nat := if a ≤ b then b - a else a - b

end Sys2Proof.Machine
end

