-- ==== Sys2Proof/Machine/Keccak.lean ====
section
/-! DEFINITION. The signing unit's and the Seal engine's functions (spec/18 R725, R726, R743): SHAKE256 of FIPS 202, KMAC256 of
SP 800-185, Ed448 of RFC 8032. Byte strings are lists of numbers below 256. -/

namespace Sys2Proof.Machine

/-! ### Keccak -/

/-- A lane turned towards its high end. -/
def laneTurn (n v : Nat) : Nat := v * 2 ^ n % 2 ^ 64 + v / 2 ^ (64 - n)

/-- The state as five planes of five lanes. -/
def planes : Nat → List Nat → List (List Nat)
  | 0, _ => []
  | n + 1, a => a.take 5 :: planes n (a.drop 5)

def xorLanes (p q : List Nat) : List Nat := List.zipWith (fun u v => u ^^^ v) p q

/-- θ: every column takes in the parities of its two neighbours. -/
def stepTheta (s : List (List Nat)) : List (List Nat) :=
  let parity := s.foldl xorLanes (List.replicate 5 0)
  let effect := xorLanes (parity.rotateRight 1) ((parity.rotateLeft 1).map (laneTurn 1))
  s.map (xorLanes effect)

/-- ρ and π together: the lanes are met along (x, y) → (y, 2x + 3y) from (1, 0), the t-th turned by (t + 1)(t + 2)/2 and put where the walk
goes next. -/
def stepRhoPi (a : List Nat) : List Nat :=
  let walk := (List.range 24).foldl (fun (w : List Nat × Nat × Nat) t =>
    let x := w.2.1
    let y := w.2.2
    let y' := (2 * x + 3 * y) % 5
    (w.1.set (5 * y' + y) (laneTurn ((t + 1) * (t + 2) / 2 % 64) (at' a (5 * y + x) 0)), y, y')) (a, 1, 0)
  walk.1

/-- χ on one plane. -/
def stepChi (p : List Nat) : List Nat :=
  xorLanes p (List.zipWith (fun u v => v - (u &&& v)) (p.rotateLeft 1) (p.rotateLeft 2))

/-- The register behind the round constants, modulo x^8 + x^6 + x^5 + x^4 + 1. -/
def iotaNext (r : Nat) : Nat := if r < 128 then 2 * r else 2 * r ^^^ 0x171

/-- ι: seven bits of the register enter lane 0 at bits 2^j - 1. -/
def stepIota (r : Nat) (v : Nat) : Nat × Nat :=
  (List.range 7).foldl (fun (x : Nat × Nat) j => (iotaNext x.1, if x.1.testBit 0 then x.2 ^^^ 2 ^ (2 ^ j - 1) else x.2)) (r, v)

/-- A round on the register and the 25 lanes. -/
def permRound (s : Nat × List Nat) : Nat × List Nat :=
  match (planes 5 (stepRhoPi (stepTheta (planes 5 s.2)).flatten)).flatMap stepChi with
  | [] => (s.1, [])
  | v :: l => let x := stepIota s.1 v; (x.1, x.2 :: l)

/-- The permutation of 1,600 bits: 24 rounds. -/
def permute (a : List Nat) : List Nat := ((List.range 24).foldl (fun s _ => permRound s) (1, a)).2

/-- A block of 136 bytes enters the lanes. -/
def blockIn (a block : List Nat) : List Nat :=
  xorLanes a ((List.range 25).map (fun i => if i < 17 then leValue ((block.drop (8 * i)).take 8) else 0))

/-- The blocks of a padded message enter one after another. -/
def absorbed (blocks : Nat) (m : List Nat) : List Nat :=
  (List.range blocks).foldl (fun a i => permute (blockIn a (m.drop (136 * i)))) (List.replicate 25 0)

/-- Blocks of output. -/
def squeezed : Nat → List Nat → List Nat
  | 0, _ => []
  | n + 1, a => (a.take 17).flatMap (leBytes 8) ++ squeezed n (permute a)

/-- The sponge of capacity 512 with the suffix byte `sfx`, `n` bytes of output. -/
def sponge (sfx : Nat) (m : List Nat) (n : Nat) : List Nat :=
  let blocks := m.length / 136 + 1
  let zeros := blocks * 136 - m.length - 1
  let padded := if zeros = 0 then m ++ [sfx + 128] else m ++ [sfx] ++ List.replicate (zeros - 1) 0 ++ [128]
  (squeezed (ceilDiv n 136) (absorbed blocks padded)).take n

/-- SHAKE256 with `n` bytes of output. -/
def shake256 (m : List Nat) (n : Nat) : List Nat := sponge 0x1F m n

/-- SHAKE256-512. -/
def digest64 (m : List Nat) : List Nat := shake256 m 64

/-- The big-endian bytes of a number, at least one. -/
def beBytes (n : Nat) : List Nat :=
  let k := max 1 (ceilDiv (Nat.log2 n + 1) 8)
  (leBytes k n).reverse

def leftEncode (n : Nat) : List Nat := (beBytes n).length :: beBytes n
def rightEncode (n : Nat) : List Nat := beBytes n ++ [(beBytes n).length]
def encodeString (s : List Nat) : List Nat := leftEncode (8 * s.length) ++ s
def bytePad (s : List Nat) : List Nat :=
  let x := leftEncode 136 ++ s
  x ++ List.replicate ((136 - x.length % 136) % 136) 0

/-- KMAC256 of `x` under `k`, `n` bytes of output, customisation `s`. -/
def kmac256 (k x : List Nat) (n : Nat) (s : List Nat) : List Nat :=
  sponge 0x04 (bytePad (encodeString [0x4B, 0x4D, 0x41, 0x43] ++ encodeString s) ++ bytePad (encodeString k) ++ x ++ rightEncode (8 * n)) n

/-! ### Ed448 -/

def edP : Nat := 2 ^ 448 - 2 ^ 224 - 1
def edD : Nat := edP - 39081
def edL : Nat := 2 ^ 446 - 13818066809895115352007386748515426880336692474882178609894547503885

/-- `b` to the power `e` modulo `m`, `e` below 2 to the `f`. -/
def powMod (m : Nat) : Nat → Nat → Nat → Nat
  | 0, _, _ => 1
  | f + 1, b, e => let h := powMod m f (b * b % m) (e / 2); if e % 2 = 1 then b * h % m else h

def edInv (x : Nat) : Nat := powMod edP 448 x (edP - 2)

/-- A projective point. -/
structure EdPoint where
  x : Nat
  y : Nat
  z : Nat
  deriving DecidableEq, Repr

def edZero : EdPoint := ⟨0, 1, 1⟩

def edBase : EdPoint :=
  ⟨224580040295924300187604334099896036246789641632564134246125461686950415467406032909029192869357953282578032075146446173674602635247710,
   298819210078481492676017930443930673437544040154080242095928241372331506189835876003536878655418784733982303233503462500531545062832660, 1⟩

def edSub (a b : Nat) : Nat := (a + edP - b % edP) % edP

def edAdd (p q : EdPoint) : EdPoint :=
  let a := p.z * q.z % edP
  let b := a * a % edP
  let c := p.x * q.x % edP
  let d := p.y * q.y % edP
  let e := edD * c % edP * d % edP
  let f := edSub b e
  let g := (b + e) % edP
  let h := (p.x + p.y) * (q.x + q.y) % edP
  ⟨a * f % edP * edSub (edSub h c) d % edP, a * g % edP * edSub d c % edP, f * g % edP⟩

/-- `e` times a point, `e` below 2 to the `f`. -/
def edMul : Nat → Nat → EdPoint → EdPoint
  | 0, _, _ => edZero
  | f + 1, e, p => let h := edMul f (e / 2) (edAdd p p); if e % 2 = 1 then edAdd p h else h

def edSame (p q : EdPoint) : Bool := p.x * q.z % edP == q.x * p.z % edP && p.y * q.z % edP == q.y * p.z % edP

def edEncode (p : EdPoint) : List Nat :=
  let i := edInv p.z
  leBytes 56 (p.y * i % edP) ++ [p.x * i % edP % 2 * 128]

def edDecode (b : List Nat) : Option EdPoint :=
  let y := leValue (b.take 56)
  let last := at' b 56 0
  if b.length != 57 || edP ≤ y || last % 128 != 0 then none
  else
    let u := edSub (y * y) 1
    let v := edSub (edD * (y * y % edP)) 1
    let u3 := u * u % edP * u % edP
    let u5v3 := u3 * u % edP * u % edP * (v * v % edP * v % edP) % edP
    let x := u3 * v % edP * powMod edP 448 u5v3 ((edP - 3) / 4) % edP
    if v * (x * x % edP) % edP != u then none
    else if x = 0 && last = 128 then none
    else some ⟨if x % 2 = last / 128 then x else (edP - x) % edP, y, 1⟩

def edDom : List Nat := [0x53, 0x69, 0x67, 0x45, 0x64, 0x34, 0x34, 0x38, 0, 0]

/-- The secret scalar and the prefix of a 57-byte seed. -/
def edSecret (seed : List Nat) : Nat × List Nat :=
  let h := shake256 seed 114
  let s := leValue (h.take 56)
  (s / 4 * 4 % 2 ^ 447 + 2 ^ 447, h.drop 57)

def edPublic (seed : List Nat) : List Nat := edEncode (edMul 448 (edSecret seed).1 edBase)

/-- The signature of RFC 8032 over `m`. -/
def edSign (seed m : List Nat) : List Nat :=
  let s := edSecret seed
  let a := edPublic seed
  let r := leValue (shake256 (edDom ++ s.2 ++ m) 114) % edL
  let big := edEncode (edMul 448 r edBase)
  let k := leValue (shake256 (edDom ++ big ++ a ++ m) 114) % edL
  big ++ leBytes 57 ((r + k * s.1) % edL)

/-- Does a signature verify (RFC 8032, with the cofactor)? -/
def edVerify (a m sig : List Nat) : Bool :=
  let s := leValue (sig.drop 57)
  match edDecode a, edDecode (sig.take 57) with
  | some p, some r =>
    let k := leValue (shake256 (edDom ++ sig.take 57 ++ a ++ m) 114) % edL
    sig.length == 114 && decide (s < edL)
      && edSame (edMul 448 (4 * s % edL) edBase) (edMul 3 4 (edAdd r (edMul 448 k p)))
  | _, _ => false

end Sys2Proof.Machine
end

