-- ==== Sys2Proof/Machine/Events.lean ====
section
/-! DEFINITION. Every event code the device records, with its severity, from the event tables of spec/ chapters 02 to
20 (19 R769, R818), and the codes whose reaction is SAFE (19 R775, 20 R841). -/

namespace Sys2Proof.Machine.Events

/-- Codes of high byte 0x01: code, severity. -/
def codes01 : List (Nat × Nat) :=
  [(0x0101, 0), (0x0102, 3), (0x0103, 4), (0x0104, 4), (0x0105, 4), (0x0106, 4), (0x0107, 4),
   (0x0108, 1), (0x0109, 3), (0x010A, 2), (0x010B, 4), (0x010C, 3), (0x010D, 1), (0x010E, 1),
   (0x010F, 3)]

/-- Codes of high byte 0x02: code, severity. -/
def codes02 : List (Nat × Nat) :=
  [(0x0201, 0), (0x0202, 0), (0x0203, 3), (0x0204, 3), (0x0205, 3), (0x0206, 2), (0x0207, 2),
   (0x0208, 1), (0x0209, 1), (0x020A, 0), (0x020B, 1), (0x020C, 3)]

/-- Codes of high byte 0x03: code, severity. -/
def codes03 : List (Nat × Nat) :=
  [(0x0301, 0), (0x0302, 0), (0x0303, 2), (0x0304, 4), (0x0305, 4), (0x0306, 1), (0x0307, 1),
   (0x0308, 3), (0x0309, 3), (0x030A, 1), (0x030B, 3), (0x030C, 1), (0x030D, 3), (0x030E, 3)]

/-- Codes of high byte 0x10: code, severity. -/
def codes10 : List (Nat × Nat) :=
  [(0x1001, 0), (0x1002, 2), (0x1003, 3), (0x1004, 0), (0x1005, 0), (0x1006, 2), (0x1007, 3),
   (0x1008, 3), (0x1009, 1), (0x100A, 0), (0x100B, 0), (0x100C, 1), (0x100D, 3), (0x100E, 0),
   (0x1010, 1), (0x1011, 3), (0x1012, 0), (0x1013, 3)]

/-- Codes of high byte 0x11: code, severity. -/
def codes11 : List (Nat × Nat) :=
  [(0x1101, 0), (0x1102, 2), (0x1103, 3), (0x1104, 2), (0x1105, 2), (0x1106, 2), (0x1107, 0),
   (0x1108, 1), (0x1109, 1), (0x110A, 2), (0x110B, 2), (0x110C, 3), (0x110D, 0), (0x110E, 3),
   (0x110F, 1)]

/-- Codes of high byte 0x12: code, severity. -/
def codes12 : List (Nat × Nat) :=
  [(0x1201, 0), (0x1202, 2), (0x1203, 2), (0x1204, 3), (0x1205, 3), (0x1206, 3), (0x1207, 3),
   (0x1208, 1)]

/-- Codes of high byte 0x13: code, severity. -/
def codes13 : List (Nat × Nat) :=
  [(0x1301, 0), (0x1302, 2), (0x1303, 3), (0x1304, 4), (0x1305, 1), (0x1306, 1), (0x1307, 2)]

/-- Codes of high byte 0x20: code, severity. -/
def codes20 : List (Nat × Nat) :=
  [(0x2001, 0), (0x2002, 1), (0x2003, 1), (0x2004, 1), (0x2005, 1), (0x2006, 2), (0x2007, 0),
   (0x2008, 3), (0x2009, 2), (0x200A, 1)]

/-- Codes of high byte 0x21: code, severity. -/
def codes21 : List (Nat × Nat) :=
  [(0x2101, 0), (0x2102, 0), (0x2103, 1), (0x2104, 1), (0x2105, 2), (0x2106, 2), (0x2107, 2),
   (0x2108, 2), (0x2109, 1), (0x210A, 2), (0x210B, 3), (0x210C, 2), (0x210D, 1), (0x210E, 1)]

/-- Codes of high byte 0x22: code, severity. -/
def codes22 : List (Nat × Nat) :=
  [(0x2201, 2), (0x2202, 0), (0x2203, 1), (0x2204, 3), (0x2205, 2), (0x2206, 1), (0x2207, 1),
   (0x2208, 0), (0x2209, 3)]

/-- Codes of high byte 0x30: code, severity. -/
def codes30 : List (Nat × Nat) :=
  [(0x3001, 0), (0x3002, 2), (0x3003, 4), (0x3004, 1), (0x3005, 2), (0x3006, 3), (0x3007, 3),
   (0x3008, 2), (0x3009, 4), (0x300A, 1), (0x300B, 1), (0x300C, 1), (0x300D, 1), (0x3010, 3),
   (0x3011, 1), (0x3012, 2), (0x3013, 1), (0x3014, 1)]

/-- Codes of high byte 0x31: code, severity. -/
def codes31 : List (Nat × Nat) :=
  [(0x3101, 0), (0x3102, 1), (0x3103, 1), (0x3104, 2), (0x3105, 3), (0x3106, 3), (0x3107, 3),
   (0x3108, 3), (0x3109, 2), (0x310A, 2), (0x310B, 3), (0x310C, 4), (0x310D, 1), (0x310E, 1)]

/-- Codes of high byte 0x32: code, severity. -/
def codes32 : List (Nat × Nat) :=
  [(0x3201, 0), (0x3202, 1), (0x3203, 1), (0x3204, 0), (0x3205, 1), (0x3206, 1), (0x3207, 0),
   (0x3208, 1), (0x3209, 1)]

/-- Codes of high byte 0x40: code, severity. -/
def codes40 : List (Nat × Nat) :=
  [(0x4001, 0), (0x4002, 1), (0x4003, 2), (0x4004, 1), (0x4005, 2), (0x4006, 3), (0x4007, 1),
   (0x4008, 1), (0x4009, 1), (0x400A, 1), (0x400B, 0), (0x400C, 1)]

/-- Codes of high byte 0x41: code, severity. -/
def codes41 : List (Nat × Nat) :=
  [(0x4101, 1), (0x4102, 3), (0x4104, 1), (0x4105, 0), (0x4106, 1), (0x4107, 1), (0x4108, 1),
   (0x4109, 1), (0x410A, 0), (0x410B, 1), (0x410C, 0), (0x410D, 2), (0x410E, 0), (0x410F, 3),
   (0x4110, 0), (0x4111, 1), (0x4112, 1)]

/-- Codes of high byte 0x42: code, severity. -/
def codes42 : List (Nat × Nat) :=
  [(0x4201, 0), (0x4202, 1), (0x4203, 2), (0x4204, 2), (0x4205, 3), (0x4206, 2), (0x4207, 3),
   (0x4208, 1), (0x4209, 1), (0x420A, 3), (0x420B, 2), (0x420C, 1), (0x420D, 1), (0x420E, 4),
   (0x420F, 3)]

/-- Codes of high byte 0x50: code, severity. -/
def codes50 : List (Nat × Nat) :=
  [(0x5001, 0), (0x5002, 1), (0x5003, 0), (0x5004, 3), (0x5005, 1), (0x5006, 1), (0x5007, 1),
   (0x5008, 1), (0x5009, 1), (0x500A, 0), (0x500B, 1), (0x500C, 0), (0x500D, 1), (0x500E, 2),
   (0x500F, 3), (0x5010, 1), (0x5011, 2), (0x5012, 3), (0x5013, 4)]

/-- Codes of high byte 0x60: code, severity. -/
def codes60 : List (Nat × Nat) :=
  [(0x6001, 0), (0x6002, 3), (0x6003, 4), (0x6004, 2), (0x6005, 3), (0x6006, 4), (0x6007, 1),
   (0x6008, 3)]

/-- Codes of high byte 0x61: code, severity. -/
def codes61 : List (Nat × Nat) :=
  [(0x6101, 0), (0x6102, 1), (0x6103, 2), (0x6104, 3), (0x6105, 1), (0x6106, 2)]

/-- Codes of high byte 0x70: code, severity. -/
def codes70 : List (Nat × Nat) :=
  [(0x7001, 1), (0x7002, 0), (0x7003, 2), (0x7004, 3), (0x7005, 1), (0x7006, 3), (0x7007, 2),
   (0x7008, 4), (0x7009, 0)]

/-- The table of one reporting block's codes, by the high byte (00 R14). -/
def table : Nat → List (Nat × Nat)
  | 0x01 => codes01
  | 0x02 => codes02
  | 0x03 => codes03
  | 0x10 => codes10
  | 0x11 => codes11
  | 0x12 => codes12
  | 0x13 => codes13
  | 0x20 => codes20
  | 0x21 => codes21
  | 0x22 => codes22
  | 0x30 => codes30
  | 0x31 => codes31
  | 0x32 => codes32
  | 0x40 => codes40
  | 0x41 => codes41
  | 0x42 => codes42
  | 0x50 => codes50
  | 0x60 => codes60
  | 0x61 => codes61
  | 0x70 => codes70
  | _ => []

/-- The severity of a code; none for a code that is never recorded (19 R818). -/
def severity (code : Nat) : Option Nat :=
  ((table (code / 256)).find? (fun r => r.1 == code)).map (fun r => r.2)

/-- The reporting blocks' high bytes in the order of 00 R14: the ports of the Watch. -/
def portBytes : List Nat :=
  [0x01, 0x02, 0x03, 0x10, 0x11, 0x12, 0x13, 0x20, 0x21, 0x22, 0x30, 0x31, 0x32, 0x40, 0x41, 0x42, 0x50, 0x60, 0x61, 0x70]

/-- The port of a code: its block's place in `portBytes`. -/
def port (code : Nat) : Nat := portBytes.findIdx (fun b => b == code / 256)

/-- The U-class codes whose reaction is SAFE without escalation (19 R775; 20 R841 for 0x7006). -/
def safeCodes : List Nat := [0x1003, 0x1008, 0x1011, 0x1013, 0x5012, 0x6008, 0x7006]

end Sys2Proof.Machine.Events
end

