-- ==== Sys2Proof/Machine/Field.lean ====
section
/-! DEFINITION. What a register field is: its identity, its width, its reset value and, in a register's layout, its
place and its access code (spec/00 R5, R7, R8). -/

namespace Sys2Proof.Machine

/-- A register field: a number of its own, its width in bits and the value it resets to. -/
structure Field where
  key : Nat
  width : Nat
  reset : Nat
  deriving DecidableEq, Repr

/-- The access codes of 00 R7. -/
inductive Access where
  | ro | rw | wo | w1s | w1c | rwo
  deriving DecidableEq, Repr

/-- A field at its place in a register: bits `lo` and up. Bits no place names are reserved and read zero (00 R8). -/
structure Place where
  field : Field
  lo : Nat
  access : Access
  deriving DecidableEq, Repr

/-- One register name: the address of its first instance, two instance counts with their strides, its fields.
Instance `i * n2 + j` lies at `addr + i * stride1 + j * stride2`. -/
structure RegRow where
  addr : Nat
  n1 : Nat
  stride1 : Nat
  n2 : Nat
  stride2 : Nat
  places : List Place
  deriving DecidableEq, Repr

end Sys2Proof.Machine
end

