-- ==== Sys2Proof/Machine/Registers.lean ====
section
/-! DEFINITION. The named fields of every block register, from the field maps of spec/ chapters 02 to 21:
one constant per field, with its number, its width and its reset value (the field map's; where the map says held, NV or
OTP, the value of assumption log entry 3). The names are the spec's: register name, underscore, field name. -/
namespace Sys2Proof.Machine.F

/-! ### CLK -/
def CLK_ID_BLOCK : Field := ⟨0, 16, 3100⟩
def CLK_ID_VERSION : Field := ⟨1, 16, 176⟩
def CLK_MON_STAT_PHASE : Field := ⟨2, 3, 0⟩
def CLK_MON_STAT_ROSC_QUAL : Field := ⟨3, 1, 0⟩
def CLK_MON_STAT_SLOW_COUNTED : Field := ⟨4, 1, 0⟩
def CLK_MON_STAT_XIN_OK : Field := ⟨5, 1, 0⟩
def CLK_MON_STAT_ON_ROSC : Field := ⟨6, 1, 0⟩
def CLK_MON_STAT_DISAGREE : Field := ⟨7, 1, 0⟩
def CLK_MON_REF_CREF : Field := ⟨8, 11, 1280⟩
def CLK_MON_LAST_COUNT : Field := ⟨9, 11, 0⟩
def CLK_VOTE_STAT_OUTCOME : Field := ⟨10, 3, 0⟩
def CLK_VOTE_STAT_UNRESOLVED : Field := ⟨11, 3, 0⟩
def CLK_VOTE_STAT_XIN_CNT : Field := ⟨12, 13, 0⟩
def CLK_VOTE_STAT_ROSC_CNT : Field := ⟨13, 13, 0⟩
def CLK_PLL_CTRL_EN : Field := ⟨14, 1, 0⟩
def CLK_PLL_STAT_EN_REFUSED : Field := ⟨15, 1, 0⟩
def CLK_PLL_STAT_ATTEMPTS : Field := ⟨16, 2, 0⟩
def CLK_PLL_STAT_FAILED : Field := ⟨17, 1, 0⟩
def CLK_PLL_STAT_LOCKED : Field := ⟨18, 1, 0⟩
def CLK_ISL_SEL_ISLAND : Field := ⟨19, 5, 0⟩
def CLK_ISL_CTRL_GATE : Field := ⟨20, 1, 0⟩
def CLK_ISL_CTRL_SRC : Field := ⟨21, 2, 1⟩
def CLK_ISL_STAT_SWITCHING : Field := ⟨22, 1, 0⟩
def CLK_ISL_STAT_GATED : Field := ⟨23, 1, 0⟩
def CLK_ISL_STAT_GATE_PENDING : Field := ⟨24, 1, 0⟩
def CLK_ISL_STAT_GATE_TIMEOUT : Field := ⟨25, 1, 0⟩
def CLK_ISL_STAT_WRITE_IGNORED : Field := ⟨26, 1, 0⟩
def CLK_ISL_STAT_SRC_NOW : Field := ⟨27, 2, 1⟩
def CLK_PD_CTRL_ON : Field := ⟨28, 10, 1023⟩
def CLK_PD_STAT_REFUSED : Field := ⟨29, 10, 0⟩
def CLK_PD_STAT_BUSY : Field := ⟨30, 10, 0⟩
def CLK_PD_STAT_OFF : Field := ⟨31, 10, 0⟩
def CLK_PD_DROPWR_CLEAR : Field := ⟨32, 1, 0⟩
def CLK_PD_DROPWR_COUNT : Field := ⟨33, 16, 0⟩
def CLK_INT_STAT_PD_REFUSED : Field := ⟨34, 1, 0⟩
def CLK_INT_STAT_GATE_TIMEOUT : Field := ⟨35, 1, 0⟩
def CLK_INT_STAT_SWITCH_DONE : Field := ⟨36, 1, 0⟩
def CLK_INT_STAT_PLL_FAIL : Field := ⟨37, 1, 0⟩
def CLK_INT_STAT_ROSC_LOST : Field := ⟨38, 1, 0⟩
def CLK_INT_STAT_XIN_REGAINED : Field := ⟨39, 1, 0⟩
def CLK_INT_STAT_XIN_LOST : Field := ⟨40, 1, 0⟩
def CLK_INT_EN_PD_REFUSED : Field := ⟨41, 1, 0⟩
def CLK_INT_EN_GATE_TIMEOUT : Field := ⟨42, 1, 0⟩
def CLK_INT_EN_SWITCH_DONE : Field := ⟨43, 1, 0⟩
def CLK_INT_EN_PLL_FAIL : Field := ⟨44, 1, 0⟩
def CLK_INT_EN_ROSC_LOST : Field := ⟨45, 1, 0⟩
def CLK_INT_EN_XIN_REGAINED : Field := ⟨46, 1, 0⟩
def CLK_INT_EN_XIN_LOST : Field := ⟨47, 1, 0⟩
/-! ### CFG -/
def CFG_ID_BLOCK : Field := ⟨48, 16, 3312⟩
def CFG_ID_VERSION : Field := ⟨49, 16, 176⟩
def CFG_STAT_FLASH_SLOW : Field := ⟨50, 1, 0⟩
def CFG_STAT_FALLBACK : Field := ⟨51, 1, 0⟩
def CFG_STAT_SLOT : Field := ⟨52, 1, 0⟩
def CFG_STAT_PHASE : Field := ⟨53, 4, 0⟩
def CFG_SEL_COPY : Field := ⟨54, 1, 0⟩
def CFG_SEL_COPY1_VALID : Field := ⟨55, 1, 0⟩
def CFG_SEL_COPY0_VALID : Field := ⟨56, 1, 0⟩
def CFG_IMAGE_VALUE : Field := ⟨57, 32, 0⟩
def CFG_BUILD_ID_VALUE : Field := ⟨58, 32, 0⟩
def CFG_SVN_VALUE : Field := ⟨59, 32, 0⟩
def CFG_SLOT_A_ERR_TYPE : Field := ⟨60, 16, 0⟩
def CFG_SLOT_A_ERR_SECTION : Field := ⟨61, 8, 0⟩
def CFG_SLOT_A_ERR_CODE : Field := ⟨62, 8, 0⟩
def CFG_SLOT_B_ERR_TYPE : Field := ⟨63, 16, 0⟩
def CFG_SLOT_B_ERR_SECTION : Field := ⟨64, 8, 0⟩
def CFG_SLOT_B_ERR_CODE : Field := ⟨65, 8, 0⟩
def CFG_ADMIT_COUNT : Field := ⟨66, 8, 0⟩
def CFG_ADMIT_STREAM : Field := ⟨67, 6, 0⟩
def CFG_ADMIT_REASON : Field := ⟨68, 8, 0⟩
def CFG_ADMIT_RESULT : Field := ⟨69, 2, 0⟩
def CFG_LOAD_TIME_MS : Field := ⟨70, 16, 0⟩
def CFG_FLASH_PROFILE_OK : Field := ⟨71, 1, 0⟩
def CFG_FLASH_DENSITY : Field := ⟨72, 5, 0⟩
def CFG_DIR_DIGEST_BYTES : Field := ⟨73, 32, 0⟩
def CFG_INT_STAT_ADMIT_REFUSED : Field := ⟨74, 1, 0⟩
def CFG_INT_STAT_HOLD : Field := ⟨75, 1, 0⟩
def CFG_INT_STAT_FALLBACK : Field := ⟨76, 1, 0⟩
def CFG_INT_STAT_DONE : Field := ⟨77, 1, 0⟩
def CFG_INT_EN_ADMIT_REFUSED : Field := ⟨78, 1, 0⟩
def CFG_INT_EN_HOLD : Field := ⟨79, 1, 0⟩
def CFG_INT_EN_FALLBACK : Field := ⟨80, 1, 0⟩
def CFG_INT_EN_DONE : Field := ⟨81, 1, 0⟩
/-! ### MOD -/
def MOD_ID_BLOCK : Field := ⟨82, 16, 3597⟩
def MOD_ID_VERSION : Field := ⟨83, 16, 176⟩
def MOD_STAT_REQ_REFUSED : Field := ⟨84, 1, 0⟩
def MOD_STAT_HARVEST : Field := ⟨85, 1, 0⟩
def MOD_STAT_TRANSIT : Field := ⟨86, 1, 0⟩
def MOD_STAT_WARM : Field := ⟨87, 1, 0⟩
def MOD_STAT_MODE : Field := ⟨88, 3, 0⟩
def MOD_CAUSE_EVENT : Field := ⟨89, 16, 0⟩
def MOD_CAUSE_FROM : Field := ⟨90, 3, 0⟩
def MOD_CAUSE_TO : Field := ⟨91, 3, 0⟩
def MOD_REQ_TARGET : Field := ⟨92, 3, 0⟩
def MOD_CTRL_REBOOT : Field := ⟨93, 1, 0⟩
def MOD_EASE_IDLE_SECONDS : Field := ⟨94, 17, 60⟩
def MOD_REST_IDLE_SECONDS : Field := ⟨95, 17, 0⟩
def MOD_EASE_RPM_RPM : Field := ⟨96, 13, 3600⟩
def MOD_IDLE_NOW_SECONDS : Field := ⟨97, 17, 0⟩
def MOD_SERVE_TIME_MS : Field := ⟨98, 16, 0⟩
def MOD_SELFTEST_DONE : Field := ⟨99, 8, 0⟩
def MOD_SELFTEST_SPARED : Field := ⟨100, 8, 0⟩
def MOD_SELFTEST_FAIL : Field := ⟨101, 8, 0⟩
def MOD_HARV_STAT_VALID : Field := ⟨102, 1, 0⟩
def MOD_HARV_STAT_DONE : Field := ⟨103, 1, 0⟩
def MOD_HARV_STAT_RETRACT_USED : Field := ⟨104, 1, 0⟩
def MOD_HARV_STAT_TAIL_DONE : Field := ⟨105, 1, 0⟩
def MOD_HARV_STAT_PARKED : Field := ⟨106, 4, 0⟩
def MOD_HARV_DATA_MS : Field := ⟨107, 11, 0⟩
def MOD_HARV_DATA_TAIL_KIB : Field := ⟨108, 11, 0⟩
def MOD_LOST_SECTORS : Field := ⟨109, 32, 0⟩
def MOD_INT_STAT_HARVEST_INCOMPLETE : Field := ⟨110, 1, 0⟩
def MOD_INT_STAT_SELFTEST_FAIL : Field := ⟨111, 1, 0⟩
def MOD_INT_STAT_REQ_REFUSED : Field := ⟨112, 1, 0⟩
def MOD_INT_STAT_SAFE : Field := ⟨113, 1, 0⟩
def MOD_INT_STAT_MODE_CHANGE : Field := ⟨114, 1, 0⟩
def MOD_INT_EN_HARVEST_INCOMPLETE : Field := ⟨115, 1, 0⟩
def MOD_INT_EN_SELFTEST_FAIL : Field := ⟨116, 1, 0⟩
def MOD_INT_EN_REQ_REFUSED : Field := ⟨117, 1, 0⟩
def MOD_INT_EN_SAFE : Field := ⟨118, 1, 0⟩
def MOD_INT_EN_MODE_CHANGE : Field := ⟨119, 1, 0⟩
/-! ### MIL -/
def MIL_ID_BLOCK : Field := ⟨120, 16, 273⟩
def MIL_ID_VERSION : Field := ⟨121, 16, 176⟩
def MIL_STAT_MILLER : Field := ⟨122, 2, 0⟩
def MIL_STAT_FW_ACTIVE : Field := ⟨123, 1, 0⟩
def MIL_STAT_WRITE_HOLD : Field := ⟨124, 1, 0⟩
def MIL_STAT_INHIBIT : Field := ⟨125, 1, 0⟩
def MIL_STAT_DIR : Field := ⟨126, 1, 0⟩
def MIL_STAT_LOCK : Field := ⟨127, 1, 0⟩
def MIL_STAT_STATE : Field := ⟨128, 4, 0⟩
def MIL_SPEED_SRC : Field := ⟨129, 1, 0⟩
def MIL_SPEED_RPM16 : Field := ⟨130, 20, 0⟩
def MIL_TARGET_TARGET : Field := ⟨131, 13, 0⟩
def MIL_TARGET_SETPOINT : Field := ⟨132, 13, 0⟩
def MIL_LIMITS_CEILING : Field := ⟨133, 13, 7200⟩
def MIL_LIMITS_FLOOR : Field := ⟨134, 13, 7200⟩
def MIL_CEIL_LIMITER : Field := ⟨135, 2, 0⟩
def MIL_CEIL_GAS_CEIL : Field := ⟨136, 13, 7200⟩
def MIL_CEIL_EFFECTIVE : Field := ⟨137, 13, 7200⟩
def MIL_DEMAND_NEED : Field := ⟨138, 13, 0⟩
def MIL_DEMAND_E : Field := ⟨139, 11, 0⟩
def MIL_RAMP_HOLD_LEFT : Field := ⟨140, 16, 0⟩
def MIL_RAMP_COUNT : Field := ⟨141, 16, 0⟩
def MIL_IDQ_IQ : Field := ⟨142, 16, 0⟩
def MIL_IDQ_ID : Field := ⟨143, 16, 0⟩
def MIL_VM_MOD : Field := ⟨144, 8, 0⟩
def MIL_VM_VM : Field := ⟨145, 16, 0⟩
def MIL_TORQUE_DRAG : Field := ⟨146, 16, 0⟩
def MIL_GAS_BASE : Field := ⟨147, 16, 0⟩
def MIL_GAS_DENSITY : Field := ⟨148, 16, 0⟩
def MIL_START_KIND : Field := ⟨149, 4, 0⟩
def MIL_START_ATTEMPTS : Field := ⟨150, 4, 0⟩
def MIL_START_REASON : Field := ⟨151, 4, 0⟩
def MIL_START_MS : Field := ⟨152, 16, 0⟩
def MIL_OBS_FAILS : Field := ⟨153, 2, 0⟩
def MIL_OBS_LOSSES : Field := ⟨154, 8, 0⟩
def MIL_OBS_RESID : Field := ⟨155, 16, 0⟩
def MIL_INT_STAT_GAS : Field := ⟨156, 1, 0⟩
def MIL_INT_STAT_SETTLED : Field := ⟨157, 1, 0⟩
def MIL_INT_STAT_RAMP : Field := ⟨158, 1, 0⟩
def MIL_INT_STAT_LOST : Field := ⟨159, 1, 0⟩
def MIL_INT_STAT_START_FAIL : Field := ⟨160, 1, 0⟩
def MIL_INT_STAT_RUN : Field := ⟨161, 1, 0⟩
def MIL_INT_EN_GAS : Field := ⟨162, 1, 0⟩
def MIL_INT_EN_SETTLED : Field := ⟨163, 1, 0⟩
def MIL_INT_EN_RAMP : Field := ⟨164, 1, 0⟩
def MIL_INT_EN_LOST : Field := ⟨165, 1, 0⟩
def MIL_INT_EN_START_FAIL : Field := ⟨166, 1, 0⟩
def MIL_INT_EN_RUN : Field := ⟨167, 1, 0⟩
/-! ### SHP -/
def SHP_ID_BLOCK : Field := ⟨168, 16, 1508⟩
def SHP_ID_VERSION : Field := ⟨169, 16, 176⟩
def SHP_STAT_PAIRED : Field := ⟨170, 1, 0⟩
def SHP_STAT_WR_OK : Field := ⟨171, 1, 0⟩
def SHP_STAT_INHIBIT : Field := ⟨172, 1, 0⟩
def SHP_STAT_RVFF : Field := ⟨173, 1, 0⟩
def SHP_STAT_ACQ_FAILS : Field := ⟨174, 2, 0⟩
def SHP_STAT_CH1_ACTIVE : Field := ⟨175, 1, 0⟩
def SHP_STAT_CH0_ACTIVE : Field := ⟨176, 1, 0⟩
def SHP_STAT_STATE : Field := ⟨177, 4, 0⟩
def SHP_HEAD_CH1_VALID : Field := ⟨178, 1, 0⟩
def SHP_HEAD_CH1_HEAD : Field := ⟨179, 3, 0⟩
def SHP_HEAD_CH0_VALID : Field := ⟨180, 1, 0⟩
def SHP_HEAD_CH0_HEAD : Field := ⟨181, 3, 0⟩
def SHP_WEDGE_REVS : Field := ⟨182, 16, 0⟩
def SHP_WEDGE_WEDGE : Field := ⟨183, 10, 0⟩
def SHP_INTERVAL_CYCLES : Field := ⟨184, 20, 0⟩
def SHP_POS_TRACK : Field := ⟨185, 24, 0⟩
def SHP_POS_FRAC : Field := ⟨186, 8, 0⟩
def SHP_PES_PES1 : Field := ⟨187, 16, 0⟩
def SHP_PES_PES0 : Field := ⟨188, 16, 0⟩
def SHP_TARGET_TRACK : Field := ⟨189, 24, 0⟩
def SHP_TARGET_FRAC : Field := ⟨190, 8, 0⟩
def SHP_REACH_REACH0 : Field := ⟨191, 8, 0⟩
def SHP_REACH_REACH1 : Field := ⟨192, 8, 0⟩
def SHP_REACH_PAIR : Field := ⟨193, 8, 0⟩
def SHP_REACH_GUARD : Field := ⟨194, 8, 0⟩
def SHP_TEMP_VALID : Field := ⟨195, 1, 0⟩
def SHP_TEMP_SRC : Field := ⟨196, 2, 0⟩
def SHP_TEMP_TEMP : Field := ⟨197, 16, 0⟩
def SHP_FAULTS_TRACK_ID : Field := ⟨198, 8, 0⟩
def SHP_FAULTS_MISSED : Field := ⟨199, 8, 0⟩
def SHP_FAULTS_WRITE_FAULTS : Field := ⟨200, 8, 0⟩
def SHP_FAULTS_LOST : Field := ⟨201, 8, 0⟩
def SHP_SEEK_CNT_COUNT : Field := ⟨202, 32, 0⟩
def SHP_SEEK_DIST_DIST : Field := ⟨203, 24, 0⟩
def SHP_SEEK_TIME_US : Field := ⟨204, 16, 0⟩
def SHP_PA_CMD_GO : Field := ⟨205, 1, 0⟩
def SHP_PA_CMD_RW : Field := ⟨206, 1, 0⟩
def SHP_PA_CMD_ADDR : Field := ⟨207, 7, 0⟩
def SHP_PA_CMD_DATA : Field := ⟨208, 16, 0⟩
def SHP_PA_RESP_BUSY : Field := ⟨209, 1, 0⟩
def SHP_PA_RESP_DONE : Field := ⟨210, 1, 0⟩
def SHP_PA_RESP_PERR : Field := ⟨211, 1, 0⟩
def SHP_PA_RESP_REFUSED : Field := ⟨212, 1, 0⟩
def SHP_PA_RESP_DATA : Field := ⟨213, 16, 0⟩
def SHP_PA_FLT_ACTIVE : Field := ⟨214, 1, 0⟩
def SHP_PA_FLT_LAST : Field := ⟨215, 16, 0⟩
def SHP_RV_SAMPLE : Field := ⟨216, 16, 0⟩
def SHP_CTRL_RVFF_EN : Field := ⟨217, 1, 0⟩
def SHP_CTRL_FENCE : Field := ⟨218, 1, 0⟩
def SHP_UC_STAT_RELOADS : Field := ⟨219, 8, 0⟩
def SHP_UC_STAT_MICRO_SPARES : Field := ⟨220, 7, 0⟩
def SHP_UC_STAT_NANO_SPARES : Field := ⟨221, 5, 0⟩
def SHP_UC_STAT_TRAP_DEPTH : Field := ⟨222, 2, 0⟩
def SHP_UC_STAT_LOADED : Field := ⟨223, 1, 0⟩
def SHP_UC_PC_NANO : Field := ⟨224, 9, 0⟩
def SHP_UC_PC_MICRO : Field := ⟨225, 12, 0⟩
def SHP_INT_STAT_UC_CHECK : Field := ⟨226, 1, 0⟩
def SHP_INT_STAT_PA_FAULT : Field := ⟨227, 1, 0⟩
def SHP_INT_STAT_PAIR_BROKEN : Field := ⟨228, 1, 0⟩
def SHP_INT_STAT_WRITE_FAULT : Field := ⟨229, 1, 0⟩
def SHP_INT_STAT_LOST : Field := ⟨230, 1, 0⟩
def SHP_INT_STAT_PARKED : Field := ⟨231, 1, 0⟩
def SHP_INT_STAT_ACQUIRED : Field := ⟨232, 1, 0⟩
def SHP_INT_STAT_PA_DONE : Field := ⟨233, 1, 0⟩
def SHP_INT_EN_UC_CHECK : Field := ⟨234, 1, 0⟩
def SHP_INT_EN_PA_FAULT : Field := ⟨235, 1, 0⟩
def SHP_INT_EN_PAIR_BROKEN : Field := ⟨236, 1, 0⟩
def SHP_INT_EN_WRITE_FAULT : Field := ⟨237, 1, 0⟩
def SHP_INT_EN_LOST : Field := ⟨238, 1, 0⟩
def SHP_INT_EN_PARKED : Field := ⟨239, 1, 0⟩
def SHP_INT_EN_ACQUIRED : Field := ⟨240, 1, 0⟩
def SHP_INT_EN_PA_DONE : Field := ⟨241, 1, 0⟩
/-! ### LPE -/
def LPE_ID_BLOCK : Field := ⟨242, 16, 373⟩
def LPE_ID_VERSION : Field := ⟨243, 16, 176⟩
def LPE_STAT_SPARE : Field := ⟨244, 2, 0⟩
def LPE_STAT_SPARE_ROLE : Field := ⟨245, 5, 0⟩
def LPE_STAT_SPARE_PHYS : Field := ⟨246, 5, 23⟩
def LPE_STAT_PATROLS : Field := ⟨247, 16, 0⟩
def LPE_FENCED_MASK : Field := ⟨248, 24, 0⟩
def LPE_RETIRED_MASK : Field := ⟨249, 24, 0⟩
def LPE_INT_STAT_SAT : Field := ⟨250, 1, 0⟩
def LPE_INT_STAT_WR_IGN : Field := ⟨251, 1, 0⟩
def LPE_INT_STAT_FENCE : Field := ⟨252, 1, 0⟩
def LPE_INT_STAT_SPARE : Field := ⟨253, 1, 0⟩
def LPE_INT_EN_SAT : Field := ⟨254, 1, 0⟩
def LPE_INT_EN_WR_IGN : Field := ⟨255, 1, 0⟩
def LPE_INT_EN_FENCE : Field := ⟨256, 1, 0⟩
def LPE_INT_EN_SPARE : Field := ⟨257, 1, 0⟩
def LPE_L_CTRL_OPEN : Field := ⟨258, 1, 0⟩
def LPE_L_CTRL_CLOSE : Field := ⟨259, 1, 0⟩
def LPE_L_STAT_PHYS : Field := ⟨260, 5, 0⟩
def LPE_L_STAT_SAT : Field := ⟨261, 4, 0⟩
def LPE_L_STAT_WR_IGN : Field := ⟨262, 1, 0⟩
def LPE_L_STAT_CLAMPED : Field := ⟨263, 1, 0⟩
def LPE_L_STAT_STALE : Field := ⟨264, 1, 0⟩
def LPE_L_STAT_SET : Field := ⟨265, 8, 0⟩
def LPE_L_STAT_STATE : Field := ⟨266, 3, 0⟩
def LPE_L_MODE_FF_MODE : Field := ⟨267, 2, 0⟩
def LPE_L_MODE_VNOM : Field := ⟨268, 16, 0⟩
def LPE_L_KP_EXP : Field := ⟨269, 6, 0⟩
def LPE_L_KP_MANT : Field := ⟨270, 18, 0⟩
def LPE_L_KI_EXP : Field := ⟨271, 6, 0⟩
def LPE_L_KI_MANT : Field := ⟨272, 18, 0⟩
def LPE_L_KD_EXP : Field := ⟨273, 6, 0⟩
def LPE_L_KD_MANT : Field := ⟨274, 18, 0⟩
def LPE_L_ALPHA_EXP : Field := ⟨275, 6, 0⟩
def LPE_L_ALPHA_MANT : Field := ⟨276, 18, 0⟩
def LPE_L_KF_EXP : Field := ⟨277, 6, 0⟩
def LPE_L_KF_MANT : Field := ⟨278, 18, 0⟩
def LPE_L_ILIM_EXP : Field := ⟨279, 6, 0⟩
def LPE_L_ILIM_MANT : Field := ⟨280, 18, 0⟩
def LPE_L_BIAS_EXP : Field := ⟨281, 6, 0⟩
def LPE_L_BIAS_MANT : Field := ⟨282, 18, 0⟩
def LPE_L_OUTLIM_OUT_MAX : Field := ⟨283, 16, 0⟩
def LPE_L_OUTLIM_OUT_MIN : Field := ⟨284, 16, 0⟩
def LPE_L_RAMP_RATE : Field := ⟨285, 32, 0⟩
def LPE_L_OUT_OUT : Field := ⟨286, 16, 0⟩
def LPE_L_OUT_OPEN_OUT : Field := ⟨287, 16, 0⟩
def LPE_L_SETPT_VALUE : Field := ⟨288, 32, 0⟩
def LPE_L_TARGET_VALUE : Field := ⟨289, 32, 0⟩
def LPE_L_MEAS_VALUE : Field := ⟨290, 32, 0⟩
/-! ### RCH -/
def RCH_ID_BLOCK : Field := ⟨291, 16, 3078⟩
def RCH_ID_VERSION : Field := ⟨292, 16, 176⟩
def RCH_STAT_READING : Field := ⟨293, 8, 0⟩
def RCH_STAT_FENCED : Field := ⟨294, 8, 0⟩
def RCH_SEED_BASE_LO_ADDR : Field := ⟨295, 32, 0⟩
def RCH_SEED_BASE_HI_ADDR : Field := ⟨296, 8, 0⟩
def RCH_INT_STAT_WR_IGN : Field := ⟨297, 1, 0⟩
def RCH_INT_STAT_FENCE : Field := ⟨298, 1, 0⟩
def RCH_INT_STAT_RANGE : Field := ⟨299, 1, 0⟩
def RCH_INT_STAT_DEFECT : Field := ⟨300, 1, 0⟩
def RCH_INT_STAT_TA : Field := ⟨301, 1, 0⟩
def RCH_INT_STAT_ABANDON : Field := ⟨302, 1, 0⟩
def RCH_INT_EN_WR_IGN : Field := ⟨303, 1, 0⟩
def RCH_INT_EN_FENCE : Field := ⟨304, 1, 0⟩
def RCH_INT_EN_RANGE : Field := ⟨305, 1, 0⟩
def RCH_INT_EN_DEFECT : Field := ⟨306, 1, 0⟩
def RCH_INT_EN_TA : Field := ⟨307, 1, 0⟩
def RCH_INT_EN_ABANDON : Field := ⟨308, 1, 0⟩
def RCH_S_CTRL_RESEED : Field := ⟨309, 1, 0⟩
def RCH_S_CTRL_FENCE : Field := ⟨310, 1, 0⟩
def RCH_S_STAT_WR_IGN : Field := ⟨311, 1, 0⟩
def RCH_S_STAT_ACQ_LATE : Field := ⟨312, 1, 0⟩
def RCH_S_STAT_LAST_ABANDON : Field := ⟨313, 4, 0⟩
def RCH_S_STAT_FROZEN : Field := ⟨314, 1, 0⟩
def RCH_S_STAT_DEF_B : Field := ⟨315, 1, 0⟩
def RCH_S_STAT_DEF_A : Field := ⟨316, 1, 0⟩
def RCH_S_STAT_TA_B : Field := ⟨317, 1, 0⟩
def RCH_S_STAT_TA_A : Field := ⟨318, 1, 0⟩
def RCH_S_STAT_LOCKED : Field := ⟨319, 1, 0⟩
def RCH_S_STAT_PHASE : Field := ⟨320, 4, 0⟩
def RCH_S_ZONE_HEAD : Field := ⟨321, 5, 0⟩
def RCH_S_ZONE_ZONE : Field := ⟨322, 8, 0⟩
def RCH_S_SYNTH_RATIO : Field := ⟨323, 32, 0⟩
def RCH_S_BPW_BPW : Field := ⟨324, 20, 0⟩
def RCH_S_TIMING_F : Field := ⟨325, 16, 0⟩
def RCH_S_TIMING_PHI : Field := ⟨326, 6, 0⟩
def RCH_S_TLOOP_LOCK_THR : Field := ⟨327, 16, 2048⟩
def RCH_S_TLOOP_KI_TRK : Field := ⟨328, 4, 12⟩
def RCH_S_TLOOP_KP_TRK : Field := ⟨329, 4, 6⟩
def RCH_S_TLOOP_KI_ACQ : Field := ⟨330, 4, 8⟩
def RCH_S_TLOOP_KP_ACQ : Field := ⟨331, 4, 3⟩
def RCH_S_MU_MU_A : Field := ⟨332, 4, 12⟩
def RCH_S_MU_MU_O : Field := ⟨333, 4, 9⟩
def RCH_S_MU_MU_G : Field := ⟨334, 4, 8⟩
def RCH_S_MU_MU_F : Field := ⟨335, 4, 10⟩
def RCH_S_TARGET0_G3 : Field := ⟨336, 8, 16⟩
def RCH_S_TARGET0_G2 : Field := ⟨337, 8, 48⟩
def RCH_S_TARGET0_G1 : Field := ⟨338, 8, 96⟩
def RCH_S_TARGET0_G0 : Field := ⟨339, 8, 64⟩
def RCH_S_TARGET1_MAIN : Field := ⟨340, 4, 6⟩
def RCH_S_TARGET1_G4 : Field := ⟨341, 8, 0⟩
def RCH_S_TADET_FLAG_MAX : Field := ⟨342, 16, 4096⟩
def RCH_S_TADET_DEF_THR : Field := ⟨343, 8, 64⟩
def RCH_S_TADET_TA_THR : Field := ⟨344, 8, 24⟩
def RCH_S_CLEAR_VALID : Field := ⟨345, 1, 0⟩
def RCH_S_CLEAR_CLEARANCE : Field := ⟨346, 16, 0⟩
def RCH_S_SECTORS_COUNT : Field := ⟨347, 32, 0⟩
def RCH_S_ABANDON_COUNT : Field := ⟨348, 32, 0⟩
def RCH_S_FLAGGED_TA : Field := ⟨349, 16, 0⟩
def RCH_S_FLAGGED_DEFECT : Field := ⟨350, 16, 0⟩
def RCH_S_LANE_AFE_CUT : Field := ⟨351, 4, 8⟩
def RCH_S_LANE_AFE_BOOST : Field := ⟨352, 4, 4⟩
def RCH_S_LANE_AFE_GAIN : Field := ⟨353, 8, 128⟩
def RCH_S_LANE_OFFS_ASYM : Field := ⟨354, 8, 0⟩
def RCH_S_LANE_OFFS_OFFSET : Field := ⟨355, 8, 0⟩
def RCH_S_TAP_TAP_B : Field := ⟨356, 10, 0⟩
def RCH_S_TAP_TAP_A : Field := ⟨357, 10, 0⟩
/-! ### DET -/
def DET_ID_BLOCK : Field := ⟨358, 16, 3559⟩
def DET_ID_VERSION : Field := ⟨359, 16, 176⟩
def DET_STAT_FAILED : Field := ⟨360, 9, 0⟩
def DET_STAT_OFFLINE : Field := ⟨361, 9, 0⟩
def DET_STAT_ONLINE : Field := ⟨362, 9, 0⟩
def DET_XBAR_SLICE_0 : Field := ⟨363, 4, 0⟩
def DET_XBAR_SLICE_1 : Field := ⟨364, 4, 1⟩
def DET_XBAR_SLICE_2 : Field := ⟨365, 4, 2⟩
def DET_XBAR_SLICE_3 : Field := ⟨366, 4, 3⟩
def DET_XBAR_SLICE_4 : Field := ⟨367, 4, 4⟩
def DET_XBAR_SLICE_5 : Field := ⟨368, 4, 5⟩
def DET_XBAR_SLICE_6 : Field := ⟨369, 4, 6⟩
def DET_XBAR_SLICE_7 : Field := ⟨370, 4, 7⟩
def DET_SPARE_STREAM : Field := ⟨371, 4, 0⟩
def DET_SPARE_STATE : Field := ⟨372, 2, 0⟩
def DET_CAP_GLOBAL_CAP : Field := ⟨373, 4, 8⟩
def DET_CAP_STEP : Field := ⟨374, 4, 0⟩
def DET_CAP_LOCAL : Field := ⟨375, 5, 4⟩
def DET_OFFLINE_DONE : Field := ⟨376, 16, 0⟩
def DET_OFFLINE_QUEUED : Field := ⟨377, 16, 0⟩
def DET_SAMPLE_BASE_LO_ADDR : Field := ⟨378, 32, 0⟩
def DET_SAMPLE_BASE_HI_ADDR : Field := ⟨379, 8, 0⟩
def DET_SAMPLE_SETS_IN_USE : Field := ⟨380, 16, 0⟩
def DET_SAMPLE_SETS_SIZE : Field := ⟨381, 16, 0⟩
def DET_RECOV_RUNG2 : Field := ⟨382, 9, 0⟩
def DET_RECOV_RUNG1 : Field := ⟨383, 9, 0⟩
def DET_RUNG1_COUNT : Field := ⟨384, 32, 0⟩
def DET_RUNG2_COUNT : Field := ⟨385, 32, 0⟩
def DET_HANDOFF_COUNT : Field := ⟨386, 32, 0⟩
def DET_FORMAT_CODES : Field := ⟨387, 3, 0⟩
def DET_FORMAT_TITHE_DATA : Field := ⟨388, 8, 0⟩
def DET_FORMAT_ZONES : Field := ⟨389, 8, 0⟩
def DET_INT_STAT_STORE_FULL : Field := ⟨390, 1, 0⟩
def DET_INT_STAT_SLICE_FAULT : Field := ⟨391, 1, 0⟩
def DET_INT_STAT_HANDOFF : Field := ⟨392, 1, 0⟩
def DET_INT_STAT_RECOVERED : Field := ⟨393, 1, 0⟩
def DET_INT_STAT_CHECK : Field := ⟨394, 1, 0⟩
def DET_INT_STAT_DEFER : Field := ⟨395, 1, 0⟩
def DET_INT_EN_STORE_FULL : Field := ⟨396, 1, 0⟩
def DET_INT_EN_SLICE_FAULT : Field := ⟨397, 1, 0⟩
def DET_INT_EN_HANDOFF : Field := ⟨398, 1, 0⟩
def DET_INT_EN_RECOVERED : Field := ⟨399, 1, 0⟩
def DET_INT_EN_CHECK : Field := ⟨400, 1, 0⟩
def DET_INT_EN_DEFER : Field := ⟨401, 1, 0⟩
def DET_Q_CTRL_KAT : Field := ⟨402, 1, 0⟩
def DET_Q_CTRL_FENCE : Field := ⟨403, 1, 0⟩
def DET_Q_STAT_STREAM : Field := ⟨404, 4, 0⟩
def DET_Q_STAT_SLOTS : Field := ⟨405, 4, 0⟩
def DET_Q_STAT_STATE : Field := ⟨406, 3, 0⟩
def DET_Q_FRAME_RESULT : Field := ⟨407, 3, 0⟩
def DET_Q_FRAME_SM1_OFF : Field := ⟨408, 8, 0⟩
def DET_Q_FRAME_SM2_OFF : Field := ⟨409, 8, 0⟩
def DET_Q_FRAME_SM1_DIST : Field := ⟨410, 4, 0⟩
def DET_Q_FRAME_SM2_DIST : Field := ⟨411, 4, 0⟩
def DET_Q_ITER_UNSAT : Field := ⟨412, 16, 0⟩
def DET_Q_ITER_GLOBAL : Field := ⟨413, 4, 0⟩
def DET_Q_ITER_CODE : Field := ⟨414, 2, 0⟩
def DET_Q_ITER_LOCAL : Field := ⟨415, 8, 0⟩
def DET_Q_NSCALE_NSCALE : Field := ⟨416, 19, 0⟩
def DET_Q_SECTORS_COUNT : Field := ⟨417, 32, 0⟩
def DET_Q_FIRST_FAIL_COUNT : Field := ⟨418, 32, 0⟩
def DET_Q_DEFERRED_COUNT : Field := ⟨419, 32, 0⟩
def DET_Q_CHECKS_CRCF : Field := ⟨420, 16, 0⟩
def DET_Q_CHECKS_TAG : Field := ⟨421, 16, 0⟩
def DET_Q_SYNC_SM2_WINS : Field := ⟨422, 16, 0⟩
def DET_Q_SYNC_WIDE : Field := ⟨423, 16, 0⟩
def DET_Q_KAT_PASSES : Field := ⟨424, 16, 0⟩
def DET_Q_KAT_AGE : Field := ⟨425, 16, 0⟩
/-! ### WCH -/
def WCH_ID_BLOCK : Field := ⟨426, 16, 3080⟩
def WCH_ID_VERSION : Field := ⟨427, 16, 176⟩
def WCH_CTRL_SHK_TEST : Field := ⟨428, 1, 0⟩
def WCH_CTRL_RELEASE : Field := ⟨429, 1, 0⟩
def WCH_CTRL_FORCE : Field := ⟨430, 1, 0⟩
def WCH_INHIBIT_ACTIVE : Field := ⟨431, 1, 0⟩
def WCH_INHIBIT_CAUSE : Field := ⟨432, 4, 0⟩
def WCH_INHIBIT_SOURCES : Field := ⟨433, 11, 0⟩
def WCH_SHK_HOLD : Field := ⟨434, 16, 500⟩
def WCH_SHK_ROT_THR : Field := ⟨435, 8, 64⟩
def WCH_SHK_LIN_THR : Field := ⟨436, 8, 64⟩
def WCH_INH_COUNT_SHOCK : Field := ⟨437, 16, 0⟩
def WCH_INH_COUNT_OTHER : Field := ⟨438, 16, 0⟩
def WCH_VERIFY_GLOBAL : Field := ⟨439, 4, 2⟩
def WCH_VERIFY_MODE : Field := ⟨440, 2, 1⟩
def WCH_INT_STAT_ENCODE : Field := ⟨441, 1, 0⟩
def WCH_INT_STAT_BAD_TILE : Field := ⟨442, 1, 0⟩
def WCH_INT_STAT_VERIFY : Field := ⟨443, 1, 0⟩
def WCH_INT_STAT_RESUMED : Field := ⟨444, 1, 0⟩
def WCH_INT_STAT_INHIBIT : Field := ⟨445, 1, 0⟩
def WCH_INT_EN_ENCODE : Field := ⟨446, 1, 0⟩
def WCH_INT_EN_BAD_TILE : Field := ⟨447, 1, 0⟩
def WCH_INT_EN_VERIFY : Field := ⟨448, 1, 0⟩
def WCH_INT_EN_RESUMED : Field := ⟨449, 1, 0⟩
def WCH_INT_EN_INHIBIT : Field := ⟨450, 1, 0⟩
def WCH_W_STAT_ENC_FAILS : Field := ⟨451, 2, 0⟩
def WCH_W_STAT_BUFFERS : Field := ⟨452, 2, 0⟩
def WCH_W_STAT_LAST : Field := ⟨453, 3, 0⟩
def WCH_W_STAT_STATE : Field := ⟨454, 3, 0⟩
def WCH_W_ZONE_HEAD : Field := ⟨455, 5, 0⟩
def WCH_W_ZONE_ZONE_LO : Field := ⟨456, 4, 0⟩
def WCH_W_ZONE_ZONE_HI : Field := ⟨457, 2, 0⟩
def WCH_W_ZONE_PC_2 : Field := ⟨458, 5, 0⟩
def WCH_W_ZONE_PC_1 : Field := ⟨459, 5, 0⟩
def WCH_W_ZONE_PC_0 : Field := ⟨460, 5, 0⟩
def WCH_W_ASSIST_PC_3 : Field := ⟨461, 5, 0⟩
def WCH_W_ASSIST_WA_LAG : Field := ⟨462, 4, 2⟩
def WCH_W_ASSIST_WA_LEAD : Field := ⟨463, 4, 2⟩
def WCH_W_MON_VALID : Field := ⟨464, 1, 0⟩
def WCH_W_MON_LEVEL : Field := ⟨465, 16, 0⟩
def WCH_W_SECTORS_COUNT : Field := ⟨466, 32, 0⟩
def WCH_W_TORN_COUNT : Field := ⟨467, 32, 0⟩
def WCH_W_VERIFY_FAILED : Field := ⟨468, 16, 0⟩
def WCH_W_VERIFY_PASSED : Field := ⟨469, 16, 0⟩
/-! ### GRN -/
def GRN_ID_BLOCK : Field := ⟨470, 16, 3081⟩
def GRN_ID_VERSION : Field := ⟨471, 16, 176⟩
def GRN_POOL_BASE_TILES : Field := ⟨472, 24, 0⟩
def GRN_POOL_TILES_TILES : Field := ⟨473, 24, 0⟩
def GRN_SIDE_BASE_TILES : Field := ⟨474, 24, 0⟩
def GRN_BAD_RETIRED : Field := ⟨475, 16, 0⟩
def GRN_BAD_BAD : Field := ⟨476, 16, 0⟩
def GRN_MISMATCH_COUNT : Field := ⟨477, 32, 0⟩
def GRN_LAST_CONSUMER : Field := ⟨478, 4, 0⟩
def GRN_LAST_PRODUCER : Field := ⟨479, 4, 0⟩
def GRN_LAST_TILE : Field := ⟨480, 24, 0⟩
def GRN_REFUSED_USES : Field := ⟨481, 16, 0⟩
def GRN_REFUSED_WRITES : Field := ⟨482, 16, 0⟩
def GRN_TITHE_REBUILDING : Field := ⟨483, 1, 0⟩
def GRN_TITHE_SURFACE : Field := ⟨484, 5, 0⟩
def GRN_TITHE_PERMILLE : Field := ⟨485, 16, 0⟩
def GRN_TITHE_WIDTH : Field := ⟨486, 8, 0⟩
def GRN_TITHE_RETIRED_VALUE : Field := ⟨487, 32, 0⟩
def GRN_TITHE_SPARE_VALUE : Field := ⟨488, 32, 0⟩
def GRN_TITHE_LOST_VALUE : Field := ⟨489, 32, 0⟩
def GRN_INT_STAT_RETIRED : Field := ⟨490, 1, 0⟩
def GRN_INT_STAT_REFUSED : Field := ⟨491, 1, 0⟩
def GRN_INT_STAT_SURFACE : Field := ⟨492, 1, 0⟩
def GRN_INT_STAT_MISMATCH : Field := ⟨493, 1, 0⟩
def GRN_INT_EN_RETIRED : Field := ⟨494, 1, 0⟩
def GRN_INT_EN_REFUSED : Field := ⟨495, 1, 0⟩
def GRN_INT_EN_SURFACE : Field := ⟨496, 1, 0⟩
def GRN_INT_EN_MISMATCH : Field := ⟨497, 1, 0⟩
/-! ### DDR -/
def DDR_ID_BLOCK : Field := ⟨498, 16, 3541⟩
def DDR_ID_VERSION : Field := ⟨499, 16, 176⟩
def DDR_STAT_MIGRATING : Field := ⟨500, 1, 0⟩
def DDR_STAT_PAUSE : Field := ⟨501, 1, 0⟩
def DDR_STAT_RATE : Field := ⟨502, 1, 0⟩
def DDR_STAT_STATE : Field := ⟨503, 3, 0⟩
def DDR_CONFIG_CAP_GIB : Field := ⟨504, 8, 0⟩
def DDR_CONFIG_ACTIVE : Field := ⟨505, 2, 0⟩
def DDR_CONFIG_SPARE : Field := ⟨506, 1, 0⟩
def DDR_CONFIG_DENSITY : Field := ⟨507, 1, 0⟩
def DDR_RANKS_ROLES_B : Field := ⟨508, 6, 0⟩
def DDR_RANKS_ROLES_A : Field := ⟨509, 6, 0⟩
def DDR_MAP_LO_ORDER0 : Field := ⟨510, 2, 0⟩
def DDR_MAP_LO_ORDER1 : Field := ⟨511, 2, 0⟩
def DDR_MAP_LO_ORDER2 : Field := ⟨512, 2, 0⟩
def DDR_MAP_LO_ORDER3 : Field := ⟨513, 2, 0⟩
def DDR_MAP_LO_ORDER4 : Field := ⟨514, 2, 0⟩
def DDR_MAP_LO_ORDER5 : Field := ⟨515, 2, 0⟩
def DDR_MAP_LO_ORDER6 : Field := ⟨516, 2, 0⟩
def DDR_MAP_LO_ORDER7 : Field := ⟨517, 2, 0⟩
def DDR_MAP_LO_ORDER8 : Field := ⟨518, 2, 0⟩
def DDR_MAP_LO_ORDER9 : Field := ⟨519, 2, 0⟩
def DDR_MAP_LO_ORDER10 : Field := ⟨520, 2, 0⟩
def DDR_MAP_LO_ORDER11 : Field := ⟨521, 2, 0⟩
def DDR_MAP_LO_ORDER12 : Field := ⟨522, 2, 0⟩
def DDR_MAP_LO_ORDER13 : Field := ⟨523, 2, 0⟩
def DDR_MAP_LO_ORDER14 : Field := ⟨524, 2, 0⟩
def DDR_MAP_LO_ORDER15 : Field := ⟨525, 2, 0⟩
def DDR_MAP_HI_ORDER16 : Field := ⟨526, 2, 0⟩
def DDR_MAP_HI_ORDER17 : Field := ⟨527, 2, 0⟩
def DDR_MAP_HI_ORDER18 : Field := ⟨528, 2, 0⟩
def DDR_MAP_HI_ORDER19 : Field := ⟨529, 2, 0⟩
def DDR_MAP_HI_ORDER20 : Field := ⟨530, 2, 0⟩
def DDR_MAP_HI_ORDER21 : Field := ⟨531, 2, 0⟩
def DDR_MAP_HI_ORDER22 : Field := ⟨532, 2, 0⟩
def DDR_MAP_HI_ORDER23 : Field := ⟨533, 2, 0⟩
def DDR_MAP_HI_ORDER24 : Field := ⟨534, 2, 0⟩
def DDR_MAP_HI_ORDER25 : Field := ⟨535, 2, 0⟩
def DDR_MAP_HI_ORDER26 : Field := ⟨536, 2, 0⟩
def DDR_MAP_HI_ORDER27 : Field := ⟨537, 2, 0⟩
def DDR_MAP_HI_ORDER28 : Field := ⟨538, 2, 0⟩
def DDR_MAP_HI_ORDER29 : Field := ⟨539, 2, 0⟩
def DDR_MAP_HI_ORDER30 : Field := ⟨540, 2, 0⟩
def DDR_MAP_HI_ORDER31 : Field := ⟨541, 2, 0⟩
def DDR_MIG_ACTIVE : Field := ⟨542, 1, 0⟩
def DDR_MIG_SC : Field := ⟨543, 1, 0⟩
def DDR_MIG_FROM : Field := ⟨544, 2, 0⟩
def DDR_MIG_TO : Field := ⟨545, 2, 0⟩
def DDR_MIG_CAUSE : Field := ⟨546, 2, 0⟩
def DDR_MIG_MS : Field := ⟨547, 16, 0⟩
def DDR_MIG_PTR_PTR : Field := ⟨548, 22, 0⟩
def DDR_CE_A_RANK2 : Field := ⟨549, 8, 0⟩
def DDR_CE_A_RANK1 : Field := ⟨550, 8, 0⟩
def DDR_CE_A_RANK0 : Field := ⟨551, 8, 0⟩
def DDR_CE_B_RANK2 : Field := ⟨552, 8, 0⟩
def DDR_CE_B_RANK1 : Field := ⟨553, 8, 0⟩
def DDR_CE_B_RANK0 : Field := ⟨554, 8, 0⟩
def DDR_UE_POISON : Field := ⟨555, 16, 0⟩
def DDR_UE_UNCORR : Field := ⟨556, 16, 0⟩
def DDR_ERR_ADDR_LO_ADDR : Field := ⟨557, 32, 0⟩
def DDR_ERR_ADDR_HI_ADDR : Field := ⟨558, 8, 0⟩
def DDR_ERR_INFO_KIND : Field := ⟨559, 2, 0⟩
def DDR_ERR_INFO_SYMBOL : Field := ⟨560, 8, 0⟩
def DDR_ERR_INFO_SC : Field := ⟨561, 1, 0⟩
def DDR_ERR_INFO_RANK : Field := ⟨562, 2, 0⟩
def DDR_RETRAIN_LONG : Field := ⟨563, 16, 0⟩
def DDR_RETRAIN_SHORT : Field := ⟨564, 16, 0⟩
def DDR_REFRESH_RATE : Field := ⟨565, 12, 0⟩
def DDR_PAGE_HIT_COUNT : Field := ⟨566, 32, 0⟩
def DDR_PAGE_MISS_COUNT : Field := ⟨567, 32, 0⟩
def DDR_AGE_BG : Field := ⟨568, 10, 320⟩
def DDR_AGE_META : Field := ⟨569, 10, 40⟩
def DDR_AGE_HOST : Field := ⟨570, 10, 20⟩
def DDR_PROMOTED_COUNT : Field := ⟨571, 32, 0⟩
def DDR_INT_STAT_RATE_LOW : Field := ⟨572, 1, 0⟩
def DDR_INT_STAT_POISON : Field := ⟨573, 1, 0⟩
def DDR_INT_STAT_MIG_DONE : Field := ⟨574, 1, 0⟩
def DDR_INT_STAT_UNCORR : Field := ⟨575, 1, 0⟩
def DDR_INT_STAT_CORR : Field := ⟨576, 1, 0⟩
def DDR_INT_EN_RATE_LOW : Field := ⟨577, 1, 0⟩
def DDR_INT_EN_POISON : Field := ⟨578, 1, 0⟩
def DDR_INT_EN_MIG_DONE : Field := ⟨579, 1, 0⟩
def DDR_INT_EN_UNCORR : Field := ⟨580, 1, 0⟩
def DDR_INT_EN_CORR : Field := ⟨581, 1, 0⟩
/-! ### MCC -/
def MCC_ID_BLOCK : Field := ⟨582, 16, 3083⟩
def MCC_ID_VERSION : Field := ⟨583, 16, 176⟩
def MCC_CTRL_ENABLE : Field := ⟨584, 1, 0⟩
def MCC_STAT_WR_IGN : Field := ⟨585, 1, 0⟩
def MCC_STAT_LOCK_BUSY : Field := ⟨586, 1, 0⟩
def MCC_STAT_MAINT : Field := ⟨587, 1, 0⟩
def MCC_STAT_DRAINING : Field := ⟨588, 1, 0⟩
def MCC_STAT_BUSY : Field := ⟨589, 1, 0⟩
def MCC_LOCK_WAYS : Field := ⟨590, 4, 0⟩
def MCC_FENCE_WAYS : Field := ⟨591, 16, 0⟩
def MCC_ATTR_PREFETCH0 : Field := ⟨592, 1, 0⟩
def MCC_ATTR_POLICY0 : Field := ⟨593, 2, 0⟩
def MCC_ATTR_PREFETCH1 : Field := ⟨594, 1, 0⟩
def MCC_ATTR_POLICY1 : Field := ⟨595, 2, 0⟩
def MCC_ATTR_PREFETCH2 : Field := ⟨596, 1, 0⟩
def MCC_ATTR_POLICY2 : Field := ⟨597, 2, 0⟩
def MCC_ATTR_PREFETCH3 : Field := ⟨598, 1, 0⟩
def MCC_ATTR_POLICY3 : Field := ⟨599, 2, 0⟩
def MCC_ATTR_PREFETCH4 : Field := ⟨600, 1, 0⟩
def MCC_ATTR_POLICY4 : Field := ⟨601, 2, 0⟩
def MCC_ATTR_PREFETCH5 : Field := ⟨602, 1, 0⟩
def MCC_ATTR_POLICY5 : Field := ⟨603, 2, 0⟩
def MCC_ATTR_PREFETCH6 : Field := ⟨604, 1, 0⟩
def MCC_ATTR_POLICY6 : Field := ⟨605, 2, 0⟩
def MCC_ATTR_PREFETCH7 : Field := ⟨606, 1, 0⟩
def MCC_ATTR_POLICY7 : Field := ⟨607, 2, 0⟩
def MCC_MAINT_ADDR_LO_ADDR : Field := ⟨608, 26, 0⟩
def MCC_MAINT_ADDR_HI_ADDR : Field := ⟨609, 8, 0⟩
def MCC_MAINT_LEN_LINES : Field := ⟨610, 32, 0⟩
def MCC_MAINT_CTRL_GO : Field := ⟨611, 1, 0⟩
def MCC_MAINT_CTRL_OP : Field := ⟨612, 2, 0⟩
def MCC_HIT_COUNT : Field := ⟨613, 32, 0⟩
def MCC_MISS_COUNT : Field := ⟨614, 32, 0⟩
def MCC_WB_COUNT : Field := ⟨615, 32, 0⟩
def MCC_PREFETCH_ISSUED : Field := ⟨616, 16, 0⟩
def MCC_PREFETCH_USED : Field := ⟨617, 16, 0⟩
def MCC_VICTIM_HITS : Field := ⟨618, 16, 0⟩
def MCC_VICTIM_CANCELLED : Field := ⟨619, 16, 0⟩
def MCC_INT_STAT_WR_IGN : Field := ⟨620, 1, 0⟩
def MCC_INT_STAT_FENCE : Field := ⟨621, 1, 0⟩
def MCC_INT_STAT_FILL_ERR : Field := ⟨622, 1, 0⟩
def MCC_INT_STAT_LOCK_DONE : Field := ⟨623, 1, 0⟩
def MCC_INT_STAT_OP_DONE : Field := ⟨624, 1, 0⟩
def MCC_INT_EN_WR_IGN : Field := ⟨625, 1, 0⟩
def MCC_INT_EN_FENCE : Field := ⟨626, 1, 0⟩
def MCC_INT_EN_FILL_ERR : Field := ⟨627, 1, 0⟩
def MCC_INT_EN_LOCK_DONE : Field := ⟨628, 1, 0⟩
def MCC_INT_EN_OP_DONE : Field := ⟨629, 1, 0⟩
/-! ### SRM -/
def SRM_ID_BLOCK : Field := ⟨630, 16, 3084⟩
def SRM_ID_VERSION : Field := ⟨631, 16, 176⟩
def SRM_LB_CFG_LEAK_MS : Field := ⟨632, 16, 1000⟩
def SRM_LB_CFG_THRESH : Field := ⟨633, 8, 64⟩
def SRM_LB_CFG_INC : Field := ⟨634, 8, 16⟩
def SRM_FLIP_CTRL_ARMED : Field := ⟨635, 1, 0⟩
def SRM_FLIP_CTRL_CHECK_MASK : Field := ⟨636, 8, 0⟩
def SRM_FLIP_CTRL_MACRO : Field := ⟨637, 7, 0⟩
def SRM_FLIP_MASK_LO_MASK : Field := ⟨638, 32, 0⟩
def SRM_FLIP_MASK_HI_MASK : Field := ⟨639, 32, 0⟩
def SRM_CE_TOTAL_COUNT : Field := ⟨640, 32, 0⟩
def SRM_UE_TOTAL_COUNT : Field := ⟨641, 32, 0⟩
def SRM_LAST_ERR_KIND : Field := ⟨642, 2, 0⟩
def SRM_LAST_ERR_MACRO : Field := ⟨643, 7, 0⟩
def SRM_LAST_ERR_WORD : Field := ⟨644, 13, 0⟩
def SRM_SEL_MACRO : Field := ⟨645, 7, 0⟩
def SRM_MACRO_STAT_CE : Field := ⟨646, 16, 0⟩
def SRM_MACRO_STAT_REMAPS : Field := ⟨647, 4, 0⟩
def SRM_MACRO_STAT_EXHAUSTED : Field := ⟨648, 1, 0⟩
def SRM_MACRO_STAT_BUCKET : Field := ⟨649, 8, 0⟩
def SRM_REMAP_VALID : Field := ⟨650, 1, 0⟩
def SRM_REMAP_CAUSE : Field := ⟨651, 2, 0⟩
def SRM_REMAP_WORD : Field := ⟨652, 13, 0⟩
def SRM_OVER_MASK : Field := ⟨653, 32, 0⟩
def SRM_INT_STAT_EXHAUSTED : Field := ⟨654, 1, 0⟩
def SRM_INT_STAT_UNCORR : Field := ⟨655, 1, 0⟩
def SRM_INT_STAT_REMAP : Field := ⟨656, 1, 0⟩
def SRM_INT_STAT_BUCKET : Field := ⟨657, 1, 0⟩
def SRM_INT_EN_EXHAUSTED : Field := ⟨658, 1, 0⟩
def SRM_INT_EN_UNCORR : Field := ⟨659, 1, 0⟩
def SRM_INT_EN_REMAP : Field := ⟨660, 1, 0⟩
def SRM_INT_EN_BUCKET : Field := ⟨661, 1, 0⟩
/-! ### POR -/
def POR_ID_BLOCK : Field := ⟨662, 16, 3085⟩
def POR_ID_VERSION : Field := ⟨663, 16, 176⟩
def POR_STAT_RUNNING : Field := ⟨664, 32, 0⟩
def POR_OWNER_DROVER : Field := ⟨665, 32, 16777215⟩
def POR_SWREQ_LINE : Field := ⟨666, 32, 0⟩
def POR_SWPEND_PENDING : Field := ⟨667, 32, 0⟩
def POR_HWREQ_ASSERTED : Field := ⟨668, 16, 0⟩
def POR_PROG_ENTRIES : Field := ⟨669, 16, 0⟩
def POR_PROG_SLOTS : Field := ⟨670, 16, 0⟩
def POR_CH_INT_CH : Field := ⟨671, 32, 0⟩
def POR_CH_EN_CH : Field := ⟨672, 32, 0⟩
def POR_INT_STAT_OVERFLOW : Field := ⟨673, 1, 0⟩
def POR_INT_STAT_WR_IGN : Field := ⟨674, 1, 0⟩
def POR_INT_EN_OVERFLOW : Field := ⟨675, 1, 0⟩
def POR_INT_EN_WR_IGN : Field := ⟨676, 1, 0⟩
def POR_EVCNT_COUNT : Field := ⟨677, 16, 0⟩
def POR_C_CTRL_GO : Field := ⟨678, 1, 0⟩
def POR_C_CTRL_ABORT : Field := ⟨679, 1, 0⟩
def POR_C_CTRL_RESUMABLE : Field := ⟨680, 1, 0⟩
def POR_C_CTRL_IRQ_DONE : Field := ⟨681, 1, 0⟩
def POR_C_CTRL_PRIO : Field := ⟨682, 2, 0⟩
def POR_C_STAT_WR_IGN : Field := ⟨683, 1, 0⟩
def POR_C_STAT_OVERLAP_SEEN : Field := ⟨684, 1, 0⟩
def POR_C_STAT_DIR : Field := ⟨685, 1, 0⟩
def POR_C_STAT_DOMAIN : Field := ⟨686, 4, 0⟩
def POR_C_STAT_STATUS : Field := ⟨687, 4, 0⟩
def POR_C_STAT_LINE : Field := ⟨688, 6, 0⟩
def POR_C_STAT_STATE : Field := ⟨689, 3, 0⟩
def POR_C_PC_LO_PC : Field := ⟨690, 27, 0⟩
def POR_C_PC_HI_PC : Field := ⟨691, 8, 0⟩
def POR_C_WDOG_US : Field := ⟨692, 20, 1000⟩
def POR_C_REMAIN_REMAIN : Field := ⟨693, 25, 0⟩
def POR_C_MOVED_MOVED : Field := ⟨694, 32, 0⟩
def POR_C_LOOPS_LC1 : Field := ⟨695, 16, 0⟩
def POR_C_LOOPS_LC0 : Field := ⟨696, 16, 0⟩
def POR_C_ERR_ADDR_LO_ADDR : Field := ⟨697, 32, 0⟩
def POR_C_ERR_ADDR_HI_ADDR : Field := ⟨698, 32, 0⟩
def POR_C_NOTIFY_VALUE : Field := ⟨699, 32, 0⟩
def POR_C_PARAM_LO_VALUE : Field := ⟨700, 32, 0⟩
def POR_C_PARAM_HI_VALUE : Field := ⟨701, 32, 0⟩
/-! ### HIF -/
def HIF_ID_BLOCK : Field := ⟨702, 16, 3086⟩
def HIF_ID_VERSION : Field := ⟨703, 16, 176⟩
def HIF_LINK_STATE : Field := ⟨704, 4, 0⟩
def HIF_LINK_RATE : Field := ⟨705, 4, 0⟩
def HIF_LINK_WIDTH : Field := ⟨706, 4, 0⟩
def HIF_LANES_REVERSED : Field := ⟨707, 1, 0⟩
def HIF_LANES_FAILED : Field := ⟨708, 8, 0⟩
def HIF_AER_CE_COUNT : Field := ⟨709, 32, 0⟩
def HIF_AER_UE_COUNT : Field := ⟨710, 32, 0⟩
def HIF_INT_STAT_UE : Field := ⟨711, 1, 0⟩
def HIF_INT_STAT_DEGRADE : Field := ⟨712, 1, 0⟩
def HIF_INT_STAT_RESET : Field := ⟨713, 1, 0⟩
def HIF_INT_STAT_LINK : Field := ⟨714, 1, 0⟩
def HIF_INT_EN_UE : Field := ⟨715, 1, 0⟩
def HIF_INT_EN_DEGRADE : Field := ⟨716, 1, 0⟩
def HIF_INT_EN_RESET : Field := ⟨717, 1, 0⟩
def HIF_INT_EN_LINK : Field := ⟨718, 1, 0⟩
def HIF_RING_BASE_LO_ADDR : Field := ⟨719, 26, 0⟩
def HIF_RING_BASE_HI_ADDR : Field := ⟨720, 32, 0⟩
def HIF_RING_CFG_ENABLE : Field := ⟨721, 1, 0⟩
def HIF_RING_CFG_IEN : Field := ⟨722, 1, 0⟩
def HIF_RING_CFG_VECTOR : Field := ⟨723, 6, 0⟩
def HIF_RING_CFG_LOG2 : Field := ⟨724, 5, 4⟩
def HIF_RING_HEAD_HEAD : Field := ⟨725, 16, 0⟩
def HIF_RING_TAIL_PHASE : Field := ⟨726, 1, 1⟩
def HIF_RING_TAIL_TAIL : Field := ⟨727, 16, 0⟩
def HIF_RING_STAT_WAITING : Field := ⟨728, 16, 0⟩
def HIF_RING_STAT_CFG_IGN : Field := ⟨729, 1, 0⟩
def HIF_RING_STAT_HEAD_BAD : Field := ⟨730, 1, 0⟩
def HIF_ASYNC_CFG_EN : Field := ⟨731, 1, 0⟩
def HIF_ASYNC_CFG_VECTOR : Field := ⟨732, 6, 0⟩
def HIF_ASYNC_CAUSE_CAUSE : Field := ⟨733, 5, 0⟩
/-! ### TWN -/
def TWN_ID_BLOCK : Field := ⟨734, 16, 3087⟩
def TWN_ID_VERSION : Field := ⟨735, 16, 176⟩
def TWN_CTRL_PAUSE : Field := ⟨736, 1, 0⟩
def TWN_ACCEPTED_COUNT : Field := ⟨737, 32, 0⟩
def TWN_REFUSED_COUNT : Field := ⟨738, 32, 0⟩
def TWN_IGNORED_COUNT : Field := ⟨739, 32, 0⟩
def TWN_EARLY_COUNT : Field := ⟨740, 32, 0⟩
def TWN_BUSY_MASK : Field := ⟨741, 32, 0⟩
def TWN_INT_STAT_RING_FULL : Field := ⟨742, 1, 0⟩
def TWN_INT_STAT_HEAD_BAD : Field := ⟨743, 1, 0⟩
def TWN_INT_STAT_IGNORED : Field := ⟨744, 1, 0⟩
def TWN_INT_EN_RING_FULL : Field := ⟨745, 1, 0⟩
def TWN_INT_EN_HEAD_BAD : Field := ⟨746, 1, 0⟩
def TWN_INT_EN_IGNORED : Field := ⟨747, 1, 0⟩
/-! ### DRV -/
def DRV_ID_BLOCK : Field := ⟨748, 16, 3088⟩
def DRV_ID_VERSION : Field := ⟨749, 16, 176⟩
def DRV_STAT_FORMATTED : Field := ⟨750, 1, 0⟩
def DRV_STAT_RESTORED : Field := ⟨751, 1, 0⟩
def DRV_STAT_CKPT : Field := ⟨752, 1, 0⟩
def DRV_STAT_CLEANING : Field := ⟨753, 1, 0⟩
def DRV_STAT_WRITES_HELD : Field := ⟨754, 1, 0⟩
def DRV_STAT_SPEED_HOLD : Field := ⟨755, 1, 0⟩
def DRV_STAT_MAP_FULL : Field := ⟨756, 1, 0⟩
def DRV_STAT_DISPATCHING : Field := ⟨757, 1, 0⟩
def DRV_CONTEXTS_IN_USE : Field := ⟨758, 21, 0⟩
def DRV_LOCKS_IN_USE : Field := ⟨759, 11, 0⟩
def DRV_MAP_LIMIT : Field := ⟨760, 16, 0⟩
def DRV_MAP_ENTRIES : Field := ⟨761, 16, 0⟩
def DRV_BANDS_FREE : Field := ⟨762, 16, 0⟩
def DRV_BANDS_OPEN : Field := ⟨763, 16, 0⟩
def DRV_TAIL_BYTES : Field := ⟨764, 21, 0⟩
def DRV_SEQ_LO_VALUE : Field := ⟨765, 32, 0⟩
def DRV_SEQ_HI_VALUE : Field := ⟨766, 16, 0⟩
def DRV_JSEQ_LO_VALUE : Field := ⟨767, 32, 0⟩
def DRV_JSEQ_HI_VALUE : Field := ⟨768, 16, 0⟩
def DRV_A_STAT_PIECES : Field := ⟨769, 16, 0⟩
def DRV_A_STAT_BUSY : Field := ⟨770, 1, 0⟩
def DRV_A_STAT_PAIRED : Field := ⟨771, 1, 0⟩
def DRV_A_STAT_CH : Field := ⟨772, 2, 0⟩
def DRV_A_STAT_LAST : Field := ⟨773, 2, 0⟩
def DRV_RUNG3_COUNT : Field := ⟨774, 32, 0⟩
def DRV_RUNG4_COUNT : Field := ⟨775, 32, 0⟩
def DRV_INT_STAT_LOST : Field := ⟨776, 1, 0⟩
def DRV_INT_STAT_SURFACE : Field := ⟨777, 1, 0⟩
def DRV_INT_STAT_HELD : Field := ⟨778, 1, 0⟩
def DRV_INT_STAT_RESTORED : Field := ⟨779, 1, 0⟩
def DRV_INT_EN_LOST : Field := ⟨780, 1, 0⟩
def DRV_INT_EN_SURFACE : Field := ⟨781, 1, 0⟩
def DRV_INT_EN_HELD : Field := ⟨782, 1, 0⟩
def DRV_INT_EN_RESTORED : Field := ⟨783, 1, 0⟩
/-! ### TAL -/
def TAL_ID_BLOCK : Field := ⟨784, 16, 3089⟩
def TAL_ID_VERSION : Field := ⟨785, 16, 176⟩
def TAL_STAT_RESULT : Field := ⟨786, 3, 0⟩
def TAL_STAT_BUSY : Field := ⟨787, 1, 0⟩
def TAL_STAT_DEBUG : Field := ⟨788, 1, 0⟩
def TAL_STAT_LOST_PERM : Field := ⟨789, 1, 0⟩
def TAL_STAT_NV_FAULT : Field := ⟨790, 1, 0⟩
def TAL_STAT_TAMPER : Field := ⟨791, 1, 0⟩
def TAL_STAT_ROOT_LOCK : Field := ⟨792, 1, 0⟩
def TAL_BOOT_COUNT_VALUE : Field := ⟨793, 32, 0⟩
def TAL_INDEX_VALUE : Field := ⟨794, 32, 0⟩
def TAL_ENTRIES_DROPPED : Field := ⟨795, 16, 0⟩
def TAL_ENTRIES_STORED : Field := ⟨796, 16, 0⟩
def TAL_SVN_FLOOR_FLOOR : Field := ⟨797, 32, 0⟩
def TAL_KEY_EPOCH_EPOCH : Field := ⟨798, 16, 0⟩
def TAL_MIRROR_BEHIND : Field := ⟨799, 16, 0⟩
def TAL_APPEND_GO : Field := ⟨800, 1, 0⟩
def TAL_APPEND_KIND : Field := ⟨801, 8, 0⟩
def TAL_SEL_INDEX : Field := ⟨802, 32, 0⟩
def TAL_MEASURE_BYTES : Field := ⟨803, 32, 0⟩
def TAL_ROOT_BYTES : Field := ⟨804, 32, 0⟩
def TAL_LAST_BYTES : Field := ⟨805, 32, 0⟩
def TAL_PAYLOAD_BYTES : Field := ⟨806, 32, 0⟩
def TAL_INT_STAT_NV : Field := ⟨807, 1, 0⟩
def TAL_INT_STAT_REFUSED : Field := ⟨808, 1, 0⟩
def TAL_INT_STAT_DONE : Field := ⟨809, 1, 0⟩
def TAL_INT_EN_NV : Field := ⟨810, 1, 0⟩
def TAL_INT_EN_REFUSED : Field := ⟨811, 1, 0⟩
def TAL_INT_EN_DONE : Field := ⟨812, 1, 0⟩
def TAL_ENTRY_BYTES : Field := ⟨813, 32, 0⟩
/-! ### SEA -/
def SEA_ID_BLOCK : Field := ⟨814, 16, 3090⟩
def SEA_ID_VERSION : Field := ⟨815, 16, 176⟩
def SEA_STAT_JOB : Field := ⟨816, 1, 0⟩
def SEA_STAT_SUSPENDED : Field := ⟨817, 4, 0⟩
def SEA_STAT_ACTIVE : Field := ⟨818, 1, 0⟩
def SEA_STAT_CLASS : Field := ⟨819, 2, 0⟩
def SEA_STAT_HOLD_APPENDS : Field := ⟨820, 1, 0⟩
def SEA_JOB_GO : Field := ⟨821, 1, 0⟩
def SEA_JOB_FINISH : Field := ⟨822, 1, 0⟩
def SEA_JOB_WR_IGN : Field := ⟨823, 1, 0⟩
def SEA_JOB_INLEN_LAST : Field := ⟨824, 8, 0⟩
def SEA_JOB_L64 : Field := ⟨825, 1, 0⟩
def SEA_JOB_KEYLEN : Field := ⟨826, 6, 0⟩
def SEA_JOB_CUSTLEN : Field := ⟨827, 4, 0⟩
def SEA_CUST_LO_BYTES : Field := ⟨828, 32, 0⟩
def SEA_CUST_HI_BYTES : Field := ⟨829, 32, 0⟩
def SEA_DATA_BYTES : Field := ⟨830, 32, 0⟩
def SEA_COUNT_COUNT : Field := ⟨831, 32, 0⟩
def SEA_DISAGREE_COUNT : Field := ⟨832, 32, 0⟩
def SEA_KEY_BYTES : Field := ⟨833, 32, 0⟩
def SEA_RESULT_BYTES : Field := ⟨834, 32, 0⟩
def SEA_INT_STAT_DISAGREE : Field := ⟨835, 1, 0⟩
def SEA_INT_STAT_DONE : Field := ⟨836, 1, 0⟩
def SEA_INT_EN_DISAGREE : Field := ⟨837, 1, 0⟩
def SEA_INT_EN_DONE : Field := ⟨838, 1, 0⟩
/-! ### PRS -/
def PRS_ID_BLOCK : Field := ⟨839, 16, 3091⟩
def PRS_ID_VERSION : Field := ⟨840, 16, 176⟩
def PRS_STAT_REMAIN_S : Field := ⟨841, 16, 0⟩
def PRS_STAT_TAMPER : Field := ⟨842, 1, 0⟩
def PRS_STAT_LOOP_OPEN : Field := ⟨843, 1, 0⟩
def PRS_STAT_LOOP_FITTED : Field := ⟨844, 1, 0⟩
def PRS_STAT_REARM_WAIT : Field := ⟨845, 1, 0⟩
def PRS_STAT_JUMPER : Field := ⟨846, 1, 0⟩
def PRS_STAT_PRESENT : Field := ⟨847, 1, 0⟩
def PRS_HOLD_MS : Field := ⟨848, 16, 0⟩
def PRS_COUNT_OPENINGS : Field := ⟨849, 16, 0⟩
def PRS_COUNT_PRESENCES : Field := ⟨850, 16, 0⟩
def PRS_LOOP_MISMATCH : Field := ⟨851, 16, 0⟩
def PRS_CTRL_REVOKE : Field := ⟨852, 1, 0⟩
def PRS_INT_STAT_TAMPER : Field := ⟨853, 1, 0⟩
def PRS_INT_STAT_ENDED : Field := ⟨854, 1, 0⟩
def PRS_INT_STAT_PRESENT : Field := ⟨855, 1, 0⟩
def PRS_INT_EN_TAMPER : Field := ⟨856, 1, 0⟩
def PRS_INT_EN_ENDED : Field := ⟨857, 1, 0⟩
def PRS_INT_EN_PRESENT : Field := ⟨858, 1, 0⟩
/-! ### WAT -/
def WAT_ID_BLOCK : Field := ⟨859, 16, 3092⟩
def WAT_ID_VERSION : Field := ⟨860, 16, 176⟩
def WAT_STAT_PENDING : Field := ⟨861, 8, 0⟩
def WAT_STAT_REG_FAULT : Field := ⟨862, 1, 0⟩
def WAT_STAT_SAFE : Field := ⟨863, 1, 0⟩
def WAT_STAT_PULSE : Field := ⟨864, 1, 0⟩
def WAT_STAT_FAULTN_LOW : Field := ⟨865, 1, 0⟩
def WAT_CTRL_FORCE_SAFE : Field := ⟨866, 1, 0⟩
def WAT_FAULTN_LEVEL : Field := ⟨867, 1, 1⟩
def WAT_COUNT_C_COUNT : Field := ⟨868, 32, 0⟩
def WAT_COUNT_U_COUNT : Field := ⟨869, 32, 0⟩
def WAT_COUNT_F_COUNT : Field := ⟨870, 32, 0⟩
def WAT_DROP_COUNT : Field := ⟨871, 32, 0⟩
def WAT_CORES_FENCED : Field := ⟨872, 4, 0⟩
def WAT_KICK_KICK : Field := ⟨873, 1, 0⟩
def WAT_WDOG_MS : Field := ⟨874, 14, 100⟩
def WAT_HIST_PTR_TOTAL : Field := ⟨875, 16, 0⟩
def WAT_HIST_PTR_NEWEST : Field := ⟨876, 4, 0⟩
def WAT_HIST_PTR_ENTRIES : Field := ⟨877, 5, 0⟩
def WAT_INT_STAT_DROP : Field := ⟨878, 1, 0⟩
def WAT_INT_STAT_CORE : Field := ⟨879, 1, 0⟩
def WAT_INT_STAT_UF : Field := ⟨880, 1, 0⟩
def WAT_INT_STAT_C : Field := ⟨881, 1, 0⟩
def WAT_INT_EN_DROP : Field := ⟨882, 1, 0⟩
def WAT_INT_EN_CORE : Field := ⟨883, 1, 0⟩
def WAT_INT_EN_UF : Field := ⟨884, 1, 0⟩
def WAT_INT_EN_C : Field := ⟨885, 1, 0⟩
def WAT_HIST_BYTES : Field := ⟨886, 32, 0⟩
/-! ### DBK -/
def DBK_ID_BLOCK : Field := ⟨887, 16, 3093⟩
def DBK_ID_VERSION : Field := ⟨888, 16, 176⟩
def DBK_STAT_WIN_BUSY : Field := ⟨889, 1, 0⟩
def DBK_STAT_FROZEN : Field := ⟨890, 1, 0⟩
def DBK_STAT_BUDGET_EMPTY : Field := ⟨891, 1, 0⟩
def DBK_STAT_RECORDS : Field := ⟨892, 14, 0⟩
def DBK_CTRL_NEXT : Field := ⟨893, 1, 0⟩
def DBK_CTRL_FREEZE : Field := ⟨894, 1, 0⟩
def DBK_CAP_RETIRED : Field := ⟨895, 16, 0⟩
def DBK_CAP_CAPACITY : Field := ⟨896, 16, 8192⟩
def DBK_SEQ_LO_SEQ : Field := ⟨897, 32, 0⟩
def DBK_SEQ_HI_SEQ : Field := ⟨898, 16, 0⟩
def DBK_CURSOR_LO_CURSOR : Field := ⟨899, 32, 0⟩
def DBK_CURSOR_HI_CURSOR : Field := ⟨900, 16, 0⟩
def DBK_WIN_SEQ_LO_SEQ : Field := ⟨901, 32, 0⟩
def DBK_WIN_SEQ_HI_VALID : Field := ⟨902, 1, 0⟩
def DBK_WIN_SEQ_HI_SEQ : Field := ⟨903, 16, 0⟩
def DBK_OPSEC_SECONDS : Field := ⟨904, 32, 0⟩
def DBK_PCYCLES_CYCLES : Field := ⟨905, 32, 0⟩
def DBK_LOST_A_SEV1 : Field := ⟨906, 16, 0⟩
def DBK_LOST_A_SEV0 : Field := ⟨907, 16, 0⟩
def DBK_LOST_B_SEV3 : Field := ⟨908, 16, 0⟩
def DBK_LOST_B_SEV2 : Field := ⟨909, 16, 0⟩
def DBK_FROZEN_SEV4 : Field := ⟨910, 8, 0⟩
def DBK_FROZEN_SEV3 : Field := ⟨911, 8, 0⟩
def DBK_FROZEN_SEV2 : Field := ⟨912, 8, 0⟩
def DBK_FROZEN_SEV01 : Field := ⟨913, 8, 0⟩
def DBK_BUDGET_TOKENS : Field := ⟨914, 16, 32768⟩
def DBK_BUDGET_STARVED : Field := ⟨915, 16, 0⟩
def DBK_WIN_BYTES : Field := ⟨916, 32, 0⟩
def DBK_INT_STAT_ROW : Field := ⟨917, 1, 0⟩
def DBK_INT_STAT_FREEZE_END : Field := ⟨918, 1, 0⟩
def DBK_INT_STAT_BUDGET : Field := ⟨919, 1, 0⟩
def DBK_INT_STAT_LOST : Field := ⟨920, 1, 0⟩
def DBK_INT_EN_ROW : Field := ⟨921, 1, 0⟩
def DBK_INT_EN_FREEZE_END : Field := ⟨922, 1, 0⟩
def DBK_INT_EN_BUDGET : Field := ⟨923, 1, 0⟩
def DBK_INT_EN_LOST : Field := ⟨924, 1, 0⟩
/-! ### THM -/
def THM_ID_BLOCK : Field := ⟨925, 16, 3094⟩
def THM_ID_VERSION : Field := ⟨926, 16, 176⟩
def THM_STAT_TRIP : Field := ⟨927, 1, 0⟩
def THM_STAT_ENC_HOLD : Field := ⟨928, 1, 0⟩
def THM_STAT_GUARD : Field := ⟨929, 1, 0⟩
def THM_STAT_LEARNING : Field := ⟨930, 1, 1⟩
def THM_STAT_STEP : Field := ⟨931, 3, 0⟩
def THM_MAX_VALID : Field := ⟨932, 1, 0⟩
def THM_MAX_TEMP : Field := ⟨933, 16, 0⟩
def THM_ENC_VALID : Field := ⟨934, 1, 0⟩
def THM_ENC_TEMP : Field := ⟨935, 16, 0⟩
def THM_VALID_DROPPED : Field := ⟨936, 14, 0⟩
def THM_VALID_VALID : Field := ⟨937, 14, 16383⟩
def THM_LIMITS_STREAMS : Field := ⟨938, 4, 8⟩
def THM_LIMITS_SEEK_PCT : Field := ⟨939, 8, 100⟩
def THM_LIMITS_GLOBAL_CAP : Field := ⟨940, 4, 8⟩
def THM_AT_RISK_LO_MASK : Field := ⟨941, 32, 0⟩
def THM_AT_RISK_HI_MASK : Field := ⟨942, 32, 0⟩
def THM_SENSOR_VALID : Field := ⟨943, 1, 1⟩
def THM_SENSOR_DROPPED : Field := ⟨944, 1, 0⟩
def THM_SENSOR_TEMP : Field := ⟨945, 16, 0⟩
def THM_INT_STAT_RISK : Field := ⟨946, 1, 0⟩
def THM_INT_STAT_SENSOR : Field := ⟨947, 1, 0⟩
def THM_INT_STAT_STEP : Field := ⟨948, 1, 0⟩
def THM_INT_EN_RISK : Field := ⟨949, 1, 0⟩
def THM_INT_EN_SENSOR : Field := ⟨950, 1, 0⟩
def THM_INT_EN_STEP : Field := ⟨951, 1, 0⟩
/-! ### PIO -/
def PIO_ID_BLOCK : Field := ⟨952, 16, 3095⟩
def PIO_ID_VERSION : Field := ⟨953, 16, 176⟩
def PIO_GPIO_FN_FN0 : Field := ⟨954, 4, 0⟩
def PIO_GPIO_FN_FN1 : Field := ⟨955, 4, 0⟩
def PIO_GPIO_FN_FN2 : Field := ⟨956, 4, 0⟩
def PIO_GPIO_FN_FN3 : Field := ⟨957, 4, 0⟩
def PIO_GPIO_FN_FN4 : Field := ⟨958, 4, 0⟩
def PIO_GPIO_FN_FN5 : Field := ⟨959, 4, 0⟩
def PIO_GPIO_FN_FN6 : Field := ⟨960, 4, 0⟩
def PIO_GPIO_FN_FN7 : Field := ⟨961, 4, 0⟩
def PIO_GPIO_OUT_LEVEL : Field := ⟨962, 8, 0⟩
def PIO_GPIO_IN_LEVEL : Field := ⟨963, 8, 0⟩
def PIO_GPIO_PULL_UP : Field := ⟨964, 8, 0⟩
def PIO_GPIO_PULL_DOWN : Field := ⟨965, 8, 255⟩
def PIO_UART_CFG_EN : Field := ⟨966, 1, 1⟩
def PIO_UART_CFG_DIV_INT : Field := ⟨967, 16, 217⟩
def PIO_UART_CFG_DIV_FRAC : Field := ⟨968, 4, 0⟩
def PIO_UART_STAT_RX_LEVEL : Field := ⟨969, 8, 0⟩
def PIO_UART_STAT_TX_LEVEL : Field := ⟨970, 8, 0⟩
def PIO_UART_STAT_TX_DROP : Field := ⟨971, 1, 0⟩
def PIO_UART_STAT_FRAME_ERR : Field := ⟨972, 1, 0⟩
def PIO_UART_STAT_OVERRUN : Field := ⟨973, 1, 0⟩
def PIO_UART_TX_DATA : Field := ⟨974, 8, 0⟩
def PIO_UART_RX_VALID : Field := ⟨975, 1, 0⟩
def PIO_UART_RX_DATA : Field := ⟨976, 8, 0⟩
def PIO_UART_POP_POP : Field := ⟨977, 1, 0⟩
def PIO_INT_STAT_WR_IGN : Field := ⟨978, 1, 0⟩
def PIO_INT_STAT_ERR : Field := ⟨979, 1, 0⟩
def PIO_INT_STAT_TX_EMPTY : Field := ⟨980, 1, 0⟩
def PIO_INT_STAT_RX : Field := ⟨981, 1, 0⟩
def PIO_INT_EN_WR_IGN : Field := ⟨982, 1, 0⟩
def PIO_INT_EN_ERR : Field := ⟨983, 1, 0⟩
def PIO_INT_EN_TX_EMPTY : Field := ⟨984, 1, 0⟩
def PIO_INT_EN_RX : Field := ⟨985, 1, 0⟩

/-- The field numbers of the block whose 64 KiB region is number `n` (01 R17): from the first up to the second. -/
def blockRange : Nat → Nat × Nat
  | 0 => (0, 48)
  | 1 => (48, 82)
  | 2 => (82, 120)
  | 3 => (120, 168)
  | 4 => (168, 242)
  | 5 => (242, 291)
  | 6 => (291, 358)
  | 7 => (358, 426)
  | 8 => (426, 470)
  | 9 => (470, 498)
  | 10 => (498, 582)
  | 11 => (582, 630)
  | 12 => (630, 662)
  | 13 => (662, 702)
  | 14 => (702, 734)
  | 15 => (734, 748)
  | 16 => (748, 784)
  | 17 => (784, 814)
  | 18 => (814, 839)
  | 19 => (839, 859)
  | 20 => (859, 887)
  | 21 => (887, 925)
  | 22 => (925, 952)
  | 23 => (952, 986)
  | _ => (0, 0)

/-- The stream a value of a per-stream RCH or WCH field belongs to (09 R369, 11 R446); none for other fields. -/
def streamOf (key inst : Nat) : Option Nat :=
  if (309 ≤ key ∧ key ≤ 357) ∨ (451 ≤ key ∧ key ≤ 469) then
    some (if [356, 357] |>.contains key then inst / 16 else if [351, 352, 353, 354, 355] |>.contains key then inst / 2 else inst)
  else none

end Sys2Proof.Machine.F
end

