-- ==== Sys2Proof/Machine/Layout.lean ====
section
/-! DEFINITION. Where every block register lies (spec/ 01 R17 to R20 and each chapter's register list) and which bits
of it each field takes, with the field's access code (00 R7). One row per register name; a register that repeats
per instance gives its counts and strides. -/
namespace Sys2Proof.Machine.Layout

/-- The CLK registers. -/
def clk : List RegRow :=
  [ ⟨0x20000000, 1, 0x0, 1, 0x0, [⟨F.CLK_ID_BLOCK, 16, .ro⟩, ⟨F.CLK_ID_VERSION, 0, .ro⟩]⟩,
    ⟨0x20000004, 1, 0x0, 1, 0x0, [⟨F.CLK_MON_STAT_PHASE, 5, .ro⟩, ⟨F.CLK_MON_STAT_ROSC_QUAL, 4, .ro⟩, ⟨F.CLK_MON_STAT_SLOW_COUNTED, 3, .ro⟩, ⟨F.CLK_MON_STAT_XIN_OK, 2, .ro⟩, ⟨F.CLK_MON_STAT_ON_ROSC, 1, .ro⟩, ⟨F.CLK_MON_STAT_DISAGREE, 0, .ro⟩]⟩,
    ⟨0x20000008, 1, 0x0, 1, 0x0, [⟨F.CLK_MON_REF_CREF, 0, .ro⟩]⟩,
    ⟨0x2000000C, 1, 0x0, 1, 0x0, [⟨F.CLK_MON_LAST_COUNT, 0, .ro⟩]⟩,
    ⟨0x20000010, 1, 0x0, 1, 0x0, [⟨F.CLK_VOTE_STAT_OUTCOME, 29, .ro⟩, ⟨F.CLK_VOTE_STAT_UNRESOLVED, 26, .ro⟩, ⟨F.CLK_VOTE_STAT_XIN_CNT, 13, .ro⟩, ⟨F.CLK_VOTE_STAT_ROSC_CNT, 0, .ro⟩]⟩,
    ⟨0x20000020, 5, 0x8, 1, 0x0, [⟨F.CLK_PLL_CTRL_EN, 0, .rw⟩]⟩,
    ⟨0x20000024, 5, 0x8, 1, 0x0, [⟨F.CLK_PLL_STAT_EN_REFUSED, 5, .w1c⟩, ⟨F.CLK_PLL_STAT_ATTEMPTS, 3, .ro⟩, ⟨F.CLK_PLL_STAT_FAILED, 2, .ro⟩, ⟨F.CLK_PLL_STAT_LOCKED, 1, .ro⟩]⟩,
    ⟨0x20000080, 1, 0x0, 1, 0x0, [⟨F.CLK_ISL_SEL_ISLAND, 0, .rw⟩]⟩,
    ⟨0x20000084, 1, 0x0, 1, 0x0, [⟨F.CLK_ISL_CTRL_GATE, 2, .rw⟩, ⟨F.CLK_ISL_CTRL_SRC, 0, .rw⟩]⟩,
    ⟨0x20000088, 1, 0x0, 1, 0x0, [⟨F.CLK_ISL_STAT_SWITCHING, 6, .ro⟩, ⟨F.CLK_ISL_STAT_GATED, 5, .ro⟩, ⟨F.CLK_ISL_STAT_GATE_PENDING, 4, .ro⟩, ⟨F.CLK_ISL_STAT_GATE_TIMEOUT, 3, .w1c⟩, ⟨F.CLK_ISL_STAT_WRITE_IGNORED, 2, .w1c⟩, ⟨F.CLK_ISL_STAT_SRC_NOW, 0, .ro⟩]⟩,
    ⟨0x200000A0, 1, 0x0, 1, 0x0, [⟨F.CLK_PD_CTRL_ON, 0, .rw⟩]⟩,
    ⟨0x200000A4, 1, 0x0, 1, 0x0, [⟨F.CLK_PD_STAT_REFUSED, 20, .w1c⟩, ⟨F.CLK_PD_STAT_BUSY, 10, .ro⟩, ⟨F.CLK_PD_STAT_OFF, 0, .ro⟩]⟩,
    ⟨0x200000A8, 1, 0x0, 1, 0x0, [⟨F.CLK_PD_DROPWR_CLEAR, 31, .wo⟩, ⟨F.CLK_PD_DROPWR_COUNT, 0, .ro⟩]⟩,
    ⟨0x200000B0, 1, 0x0, 1, 0x0, [⟨F.CLK_INT_STAT_PD_REFUSED, 6, .w1c⟩, ⟨F.CLK_INT_STAT_GATE_TIMEOUT, 5, .w1c⟩, ⟨F.CLK_INT_STAT_SWITCH_DONE, 4, .w1c⟩, ⟨F.CLK_INT_STAT_PLL_FAIL, 3, .w1c⟩, ⟨F.CLK_INT_STAT_ROSC_LOST, 2, .w1c⟩, ⟨F.CLK_INT_STAT_XIN_REGAINED, 1, .w1c⟩, ⟨F.CLK_INT_STAT_XIN_LOST, 0, .w1c⟩]⟩,
    ⟨0x200000B4, 1, 0x0, 1, 0x0, [⟨F.CLK_INT_EN_PD_REFUSED, 6, .rw⟩, ⟨F.CLK_INT_EN_GATE_TIMEOUT, 5, .rw⟩, ⟨F.CLK_INT_EN_SWITCH_DONE, 4, .rw⟩, ⟨F.CLK_INT_EN_PLL_FAIL, 3, .rw⟩, ⟨F.CLK_INT_EN_ROSC_LOST, 2, .rw⟩, ⟨F.CLK_INT_EN_XIN_REGAINED, 1, .rw⟩, ⟨F.CLK_INT_EN_XIN_LOST, 0, .rw⟩]⟩ ]

/-- The CFG registers. -/
def cfg : List RegRow :=
  [ ⟨0x20010000, 1, 0x0, 1, 0x0, [⟨F.CFG_ID_BLOCK, 16, .ro⟩, ⟨F.CFG_ID_VERSION, 0, .ro⟩]⟩,
    ⟨0x20010004, 1, 0x0, 1, 0x0, [⟨F.CFG_STAT_FLASH_SLOW, 9, .ro⟩, ⟨F.CFG_STAT_FALLBACK, 8, .ro⟩, ⟨F.CFG_STAT_SLOT, 7, .ro⟩, ⟨F.CFG_STAT_PHASE, 0, .ro⟩]⟩,
    ⟨0x20010008, 1, 0x0, 1, 0x0, [⟨F.CFG_SEL_COPY, 2, .ro⟩, ⟨F.CFG_SEL_COPY1_VALID, 1, .ro⟩, ⟨F.CFG_SEL_COPY0_VALID, 0, .ro⟩]⟩,
    ⟨0x2001000C, 1, 0x0, 1, 0x0, [⟨F.CFG_IMAGE_VALUE, 0, .ro⟩]⟩,
    ⟨0x20010010, 1, 0x0, 1, 0x0, [⟨F.CFG_BUILD_ID_VALUE, 0, .ro⟩]⟩,
    ⟨0x20010014, 1, 0x0, 1, 0x0, [⟨F.CFG_SVN_VALUE, 0, .ro⟩]⟩,
    ⟨0x20010018, 1, 0x0, 1, 0x0, [⟨F.CFG_SLOT_A_ERR_TYPE, 16, .ro⟩, ⟨F.CFG_SLOT_A_ERR_SECTION, 8, .ro⟩, ⟨F.CFG_SLOT_A_ERR_CODE, 0, .ro⟩]⟩,
    ⟨0x2001001C, 1, 0x0, 1, 0x0, [⟨F.CFG_SLOT_B_ERR_TYPE, 16, .ro⟩, ⟨F.CFG_SLOT_B_ERR_SECTION, 8, .ro⟩, ⟨F.CFG_SLOT_B_ERR_CODE, 0, .ro⟩]⟩,
    ⟨0x20010020, 1, 0x0, 1, 0x0, [⟨F.CFG_ADMIT_COUNT, 16, .ro⟩, ⟨F.CFG_ADMIT_STREAM, 10, .ro⟩, ⟨F.CFG_ADMIT_REASON, 2, .ro⟩, ⟨F.CFG_ADMIT_RESULT, 0, .ro⟩]⟩,
    ⟨0x20010024, 1, 0x0, 1, 0x0, [⟨F.CFG_LOAD_TIME_MS, 0, .ro⟩]⟩,
    ⟨0x20010028, 1, 0x0, 1, 0x0, [⟨F.CFG_FLASH_PROFILE_OK, 8, .ro⟩, ⟨F.CFG_FLASH_DENSITY, 0, .ro⟩]⟩,
    ⟨0x20010040, 16, 0x4, 1, 0x0, [⟨F.CFG_DIR_DIGEST_BYTES, 0, .ro⟩]⟩,
    ⟨0x20010080, 1, 0x0, 1, 0x0, [⟨F.CFG_INT_STAT_ADMIT_REFUSED, 3, .w1c⟩, ⟨F.CFG_INT_STAT_HOLD, 2, .w1c⟩, ⟨F.CFG_INT_STAT_FALLBACK, 1, .w1c⟩, ⟨F.CFG_INT_STAT_DONE, 0, .w1c⟩]⟩,
    ⟨0x20010084, 1, 0x0, 1, 0x0, [⟨F.CFG_INT_EN_ADMIT_REFUSED, 3, .rw⟩, ⟨F.CFG_INT_EN_HOLD, 2, .rw⟩, ⟨F.CFG_INT_EN_FALLBACK, 1, .rw⟩, ⟨F.CFG_INT_EN_DONE, 0, .rw⟩]⟩ ]

/-- The MOD registers. -/
def mod : List RegRow :=
  [ ⟨0x20020000, 1, 0x0, 1, 0x0, [⟨F.MOD_ID_BLOCK, 16, .ro⟩, ⟨F.MOD_ID_VERSION, 0, .ro⟩]⟩,
    ⟨0x20020004, 1, 0x0, 1, 0x0, [⟨F.MOD_STAT_REQ_REFUSED, 12, .w1c⟩, ⟨F.MOD_STAT_HARVEST, 11, .ro⟩, ⟨F.MOD_STAT_TRANSIT, 10, .ro⟩, ⟨F.MOD_STAT_WARM, 9, .ro⟩, ⟨F.MOD_STAT_MODE, 0, .ro⟩]⟩,
    ⟨0x20020008, 1, 0x0, 1, 0x0, [⟨F.MOD_CAUSE_EVENT, 16, .ro⟩, ⟨F.MOD_CAUSE_FROM, 8, .ro⟩, ⟨F.MOD_CAUSE_TO, 0, .ro⟩]⟩,
    ⟨0x2002000C, 1, 0x0, 1, 0x0, [⟨F.MOD_REQ_TARGET, 0, .wo⟩]⟩,
    ⟨0x20020010, 1, 0x0, 1, 0x0, [⟨F.MOD_CTRL_REBOOT, 0, .wo⟩]⟩,
    ⟨0x20020014, 1, 0x0, 1, 0x0, [⟨F.MOD_EASE_IDLE_SECONDS, 0, .rw⟩]⟩,
    ⟨0x20020018, 1, 0x0, 1, 0x0, [⟨F.MOD_REST_IDLE_SECONDS, 0, .rw⟩]⟩,
    ⟨0x2002001C, 1, 0x0, 1, 0x0, [⟨F.MOD_EASE_RPM_RPM, 0, .rw⟩]⟩,
    ⟨0x20020020, 1, 0x0, 1, 0x0, [⟨F.MOD_IDLE_NOW_SECONDS, 0, .ro⟩]⟩,
    ⟨0x20020024, 1, 0x0, 1, 0x0, [⟨F.MOD_SERVE_TIME_MS, 0, .ro⟩]⟩,
    ⟨0x20020028, 1, 0x0, 1, 0x0, [⟨F.MOD_SELFTEST_DONE, 16, .ro⟩, ⟨F.MOD_SELFTEST_SPARED, 8, .ro⟩, ⟨F.MOD_SELFTEST_FAIL, 0, .ro⟩]⟩,
    ⟨0x20020030, 1, 0x0, 1, 0x0, [⟨F.MOD_HARV_STAT_VALID, 7, .ro⟩, ⟨F.MOD_HARV_STAT_DONE, 6, .ro⟩, ⟨F.MOD_HARV_STAT_RETRACT_USED, 5, .ro⟩, ⟨F.MOD_HARV_STAT_TAIL_DONE, 4, .ro⟩, ⟨F.MOD_HARV_STAT_PARKED, 0, .ro⟩]⟩,
    ⟨0x20020034, 1, 0x0, 1, 0x0, [⟨F.MOD_HARV_DATA_MS, 16, .ro⟩, ⟨F.MOD_HARV_DATA_TAIL_KIB, 0, .ro⟩]⟩,
    ⟨0x20020038, 1, 0x0, 1, 0x0, [⟨F.MOD_LOST_SECTORS, 0, .ro⟩]⟩,
    ⟨0x20020040, 1, 0x0, 1, 0x0, [⟨F.MOD_INT_STAT_HARVEST_INCOMPLETE, 4, .w1c⟩, ⟨F.MOD_INT_STAT_SELFTEST_FAIL, 3, .w1c⟩, ⟨F.MOD_INT_STAT_REQ_REFUSED, 2, .w1c⟩, ⟨F.MOD_INT_STAT_SAFE, 1, .w1c⟩, ⟨F.MOD_INT_STAT_MODE_CHANGE, 0, .w1c⟩]⟩,
    ⟨0x20020044, 1, 0x0, 1, 0x0, [⟨F.MOD_INT_EN_HARVEST_INCOMPLETE, 4, .rw⟩, ⟨F.MOD_INT_EN_SELFTEST_FAIL, 3, .rw⟩, ⟨F.MOD_INT_EN_REQ_REFUSED, 2, .rw⟩, ⟨F.MOD_INT_EN_SAFE, 1, .rw⟩, ⟨F.MOD_INT_EN_MODE_CHANGE, 0, .rw⟩]⟩ ]

/-- The MIL registers. -/
def mil : List RegRow :=
  [ ⟨0x20030000, 1, 0x0, 1, 0x0, [⟨F.MIL_ID_BLOCK, 16, .ro⟩, ⟨F.MIL_ID_VERSION, 0, .ro⟩]⟩,
    ⟨0x20030004, 1, 0x0, 1, 0x0, [⟨F.MIL_STAT_MILLER, 12, .ro⟩, ⟨F.MIL_STAT_FW_ACTIVE, 11, .ro⟩, ⟨F.MIL_STAT_WRITE_HOLD, 10, .ro⟩, ⟨F.MIL_STAT_INHIBIT, 9, .ro⟩, ⟨F.MIL_STAT_DIR, 8, .ro⟩, ⟨F.MIL_STAT_LOCK, 7, .ro⟩, ⟨F.MIL_STAT_STATE, 0, .ro⟩]⟩,
    ⟨0x20030008, 1, 0x0, 1, 0x0, [⟨F.MIL_SPEED_SRC, 31, .ro⟩, ⟨F.MIL_SPEED_RPM16, 0, .ro⟩]⟩,
    ⟨0x2003000C, 1, 0x0, 1, 0x0, [⟨F.MIL_TARGET_TARGET, 16, .ro⟩, ⟨F.MIL_TARGET_SETPOINT, 0, .ro⟩]⟩,
    ⟨0x20030010, 1, 0x0, 1, 0x0, [⟨F.MIL_LIMITS_CEILING, 16, .ro⟩, ⟨F.MIL_LIMITS_FLOOR, 0, .ro⟩]⟩,
    ⟨0x20030014, 1, 0x0, 1, 0x0, [⟨F.MIL_CEIL_LIMITER, 30, .ro⟩, ⟨F.MIL_CEIL_GAS_CEIL, 16, .ro⟩, ⟨F.MIL_CEIL_EFFECTIVE, 0, .ro⟩]⟩,
    ⟨0x20030018, 1, 0x0, 1, 0x0, [⟨F.MIL_DEMAND_NEED, 16, .ro⟩, ⟨F.MIL_DEMAND_E, 0, .ro⟩]⟩,
    ⟨0x2003001C, 1, 0x0, 1, 0x0, [⟨F.MIL_RAMP_HOLD_LEFT, 16, .ro⟩, ⟨F.MIL_RAMP_COUNT, 0, .ro⟩]⟩,
    ⟨0x20030020, 1, 0x0, 1, 0x0, [⟨F.MIL_IDQ_IQ, 16, .ro⟩, ⟨F.MIL_IDQ_ID, 0, .ro⟩]⟩,
    ⟨0x20030024, 1, 0x0, 1, 0x0, [⟨F.MIL_VM_MOD, 16, .ro⟩, ⟨F.MIL_VM_VM, 0, .ro⟩]⟩,
    ⟨0x20030028, 1, 0x0, 1, 0x0, [⟨F.MIL_TORQUE_DRAG, 0, .ro⟩]⟩,
    ⟨0x2003002C, 1, 0x0, 1, 0x0, [⟨F.MIL_GAS_BASE, 16, .ro⟩, ⟨F.MIL_GAS_DENSITY, 0, .ro⟩]⟩,
    ⟨0x20030030, 1, 0x0, 1, 0x0, [⟨F.MIL_START_KIND, 24, .ro⟩, ⟨F.MIL_START_ATTEMPTS, 20, .ro⟩, ⟨F.MIL_START_REASON, 16, .ro⟩, ⟨F.MIL_START_MS, 0, .ro⟩]⟩,
    ⟨0x20030034, 1, 0x0, 1, 0x0, [⟨F.MIL_OBS_FAILS, 24, .ro⟩, ⟨F.MIL_OBS_LOSSES, 16, .ro⟩, ⟨F.MIL_OBS_RESID, 0, .ro⟩]⟩,
    ⟨0x20030040, 1, 0x0, 1, 0x0, [⟨F.MIL_INT_STAT_GAS, 5, .w1c⟩, ⟨F.MIL_INT_STAT_SETTLED, 4, .w1c⟩, ⟨F.MIL_INT_STAT_RAMP, 3, .w1c⟩, ⟨F.MIL_INT_STAT_LOST, 2, .w1c⟩, ⟨F.MIL_INT_STAT_START_FAIL, 1, .w1c⟩, ⟨F.MIL_INT_STAT_RUN, 0, .w1c⟩]⟩,
    ⟨0x20030044, 1, 0x0, 1, 0x0, [⟨F.MIL_INT_EN_GAS, 5, .rw⟩, ⟨F.MIL_INT_EN_SETTLED, 4, .rw⟩, ⟨F.MIL_INT_EN_RAMP, 3, .rw⟩, ⟨F.MIL_INT_EN_LOST, 2, .rw⟩, ⟨F.MIL_INT_EN_START_FAIL, 1, .rw⟩, ⟨F.MIL_INT_EN_RUN, 0, .rw⟩]⟩ ]

/-- The SHP registers. -/
def shp : List RegRow :=
  [ ⟨0x20040000, 4, 0x4000, 1, 0x0, [⟨F.SHP_ID_BLOCK, 16, .ro⟩, ⟨F.SHP_ID_VERSION, 0, .ro⟩]⟩,
    ⟨0x20040004, 4, 0x4000, 1, 0x0, [⟨F.SHP_STAT_PAIRED, 23, .ro⟩, ⟨F.SHP_STAT_WR_OK, 22, .ro⟩, ⟨F.SHP_STAT_INHIBIT, 21, .ro⟩, ⟨F.SHP_STAT_RVFF, 20, .ro⟩, ⟨F.SHP_STAT_ACQ_FAILS, 10, .ro⟩, ⟨F.SHP_STAT_CH1_ACTIVE, 9, .ro⟩, ⟨F.SHP_STAT_CH0_ACTIVE, 8, .ro⟩, ⟨F.SHP_STAT_STATE, 0, .ro⟩]⟩,
    ⟨0x20040008, 4, 0x4000, 1, 0x0, [⟨F.SHP_HEAD_CH1_VALID, 15, .ro⟩, ⟨F.SHP_HEAD_CH1_HEAD, 8, .ro⟩, ⟨F.SHP_HEAD_CH0_VALID, 7, .ro⟩, ⟨F.SHP_HEAD_CH0_HEAD, 0, .ro⟩]⟩,
    ⟨0x2004000C, 4, 0x4000, 1, 0x0, [⟨F.SHP_WEDGE_REVS, 16, .ro⟩, ⟨F.SHP_WEDGE_WEDGE, 0, .ro⟩]⟩,
    ⟨0x20040010, 4, 0x4000, 1, 0x0, [⟨F.SHP_INTERVAL_CYCLES, 0, .ro⟩]⟩,
    ⟨0x20040014, 4, 0x4000, 2, 0x4, [⟨F.SHP_POS_TRACK, 8, .ro⟩, ⟨F.SHP_POS_FRAC, 0, .ro⟩]⟩,
    ⟨0x2004001C, 4, 0x4000, 1, 0x0, [⟨F.SHP_PES_PES1, 16, .ro⟩, ⟨F.SHP_PES_PES0, 0, .ro⟩]⟩,
    ⟨0x20040020, 4, 0x4000, 2, 0x4, [⟨F.SHP_TARGET_TRACK, 8, .ro⟩, ⟨F.SHP_TARGET_FRAC, 0, .ro⟩]⟩,
    ⟨0x20040028, 4, 0x4000, 1, 0x0, [⟨F.SHP_REACH_REACH0, 24, .ro⟩, ⟨F.SHP_REACH_REACH1, 16, .ro⟩, ⟨F.SHP_REACH_PAIR, 8, .ro⟩, ⟨F.SHP_REACH_GUARD, 0, .ro⟩]⟩,
    ⟨0x2004002C, 4, 0x4000, 1, 0x0, [⟨F.SHP_TEMP_VALID, 31, .ro⟩, ⟨F.SHP_TEMP_SRC, 29, .ro⟩, ⟨F.SHP_TEMP_TEMP, 0, .ro⟩]⟩,
    ⟨0x20040030, 4, 0x4000, 1, 0x0, [⟨F.SHP_FAULTS_TRACK_ID, 24, .ro⟩, ⟨F.SHP_FAULTS_MISSED, 16, .ro⟩, ⟨F.SHP_FAULTS_WRITE_FAULTS, 8, .ro⟩, ⟨F.SHP_FAULTS_LOST, 0, .ro⟩]⟩,
    ⟨0x20040034, 4, 0x4000, 1, 0x0, [⟨F.SHP_SEEK_CNT_COUNT, 0, .ro⟩]⟩,
    ⟨0x20040038, 4, 0x4000, 1, 0x0, [⟨F.SHP_SEEK_DIST_DIST, 0, .ro⟩]⟩,
    ⟨0x2004003C, 4, 0x4000, 1, 0x0, [⟨F.SHP_SEEK_TIME_US, 0, .ro⟩]⟩,
    ⟨0x20040040, 4, 0x4000, 1, 0x0, [⟨F.SHP_PA_CMD_GO, 31, .wo⟩, ⟨F.SHP_PA_CMD_RW, 23, .rw⟩, ⟨F.SHP_PA_CMD_ADDR, 16, .rw⟩, ⟨F.SHP_PA_CMD_DATA, 0, .rw⟩]⟩,
    ⟨0x20040044, 4, 0x4000, 1, 0x0, [⟨F.SHP_PA_RESP_BUSY, 31, .ro⟩, ⟨F.SHP_PA_RESP_DONE, 30, .ro⟩, ⟨F.SHP_PA_RESP_PERR, 29, .ro⟩, ⟨F.SHP_PA_RESP_REFUSED, 28, .ro⟩, ⟨F.SHP_PA_RESP_DATA, 0, .ro⟩]⟩,
    ⟨0x20040048, 4, 0x4000, 1, 0x0, [⟨F.SHP_PA_FLT_ACTIVE, 31, .ro⟩, ⟨F.SHP_PA_FLT_LAST, 0, .ro⟩]⟩,
    ⟨0x2004004C, 4, 0x4000, 1, 0x0, [⟨F.SHP_RV_SAMPLE, 0, .ro⟩]⟩,
    ⟨0x20040050, 4, 0x4000, 1, 0x0, [⟨F.SHP_CTRL_RVFF_EN, 1, .rw⟩, ⟨F.SHP_CTRL_FENCE, 0, .w1s⟩]⟩,
    ⟨0x20040070, 4, 0x4000, 1, 0x0, [⟨F.SHP_UC_STAT_RELOADS, 24, .ro⟩, ⟨F.SHP_UC_STAT_MICRO_SPARES, 16, .ro⟩, ⟨F.SHP_UC_STAT_NANO_SPARES, 8, .ro⟩, ⟨F.SHP_UC_STAT_TRAP_DEPTH, 4, .ro⟩, ⟨F.SHP_UC_STAT_LOADED, 0, .ro⟩]⟩,
    ⟨0x20040074, 4, 0x4000, 1, 0x0, [⟨F.SHP_UC_PC_NANO, 16, .ro⟩, ⟨F.SHP_UC_PC_MICRO, 0, .ro⟩]⟩,
    ⟨0x20040080, 4, 0x4000, 1, 0x0, [⟨F.SHP_INT_STAT_UC_CHECK, 7, .w1c⟩, ⟨F.SHP_INT_STAT_PA_FAULT, 6, .w1c⟩, ⟨F.SHP_INT_STAT_PAIR_BROKEN, 5, .w1c⟩, ⟨F.SHP_INT_STAT_WRITE_FAULT, 4, .w1c⟩, ⟨F.SHP_INT_STAT_LOST, 3, .w1c⟩, ⟨F.SHP_INT_STAT_PARKED, 2, .w1c⟩, ⟨F.SHP_INT_STAT_ACQUIRED, 1, .w1c⟩, ⟨F.SHP_INT_STAT_PA_DONE, 0, .w1c⟩]⟩,
    ⟨0x20040084, 4, 0x4000, 1, 0x0, [⟨F.SHP_INT_EN_UC_CHECK, 7, .rw⟩, ⟨F.SHP_INT_EN_PA_FAULT, 6, .rw⟩, ⟨F.SHP_INT_EN_PAIR_BROKEN, 5, .rw⟩, ⟨F.SHP_INT_EN_WRITE_FAULT, 4, .rw⟩, ⟨F.SHP_INT_EN_LOST, 3, .rw⟩, ⟨F.SHP_INT_EN_PARKED, 2, .rw⟩, ⟨F.SHP_INT_EN_ACQUIRED, 1, .rw⟩, ⟨F.SHP_INT_EN_PA_DONE, 0, .rw⟩]⟩ ]

/-- The LPE registers. -/
def lpe : List RegRow :=
  [ ⟨0x20050000, 1, 0x0, 1, 0x0, [⟨F.LPE_ID_BLOCK, 16, .ro⟩, ⟨F.LPE_ID_VERSION, 0, .ro⟩]⟩,
    ⟨0x20050004, 1, 0x0, 1, 0x0, [⟨F.LPE_STAT_SPARE, 30, .ro⟩, ⟨F.LPE_STAT_SPARE_ROLE, 24, .ro⟩, ⟨F.LPE_STAT_SPARE_PHYS, 16, .ro⟩, ⟨F.LPE_STAT_PATROLS, 0, .ro⟩]⟩,
    ⟨0x20050008, 1, 0x0, 1, 0x0, [⟨F.LPE_FENCED_MASK, 0, .ro⟩]⟩,
    ⟨0x2005000C, 1, 0x0, 1, 0x0, [⟨F.LPE_RETIRED_MASK, 0, .ro⟩]⟩,
    ⟨0x20050010, 1, 0x0, 1, 0x0, [⟨F.LPE_INT_STAT_SAT, 3, .w1c⟩, ⟨F.LPE_INT_STAT_WR_IGN, 2, .w1c⟩, ⟨F.LPE_INT_STAT_FENCE, 1, .w1c⟩, ⟨F.LPE_INT_STAT_SPARE, 0, .w1c⟩]⟩,
    ⟨0x20050014, 1, 0x0, 1, 0x0, [⟨F.LPE_INT_EN_SAT, 3, .rw⟩, ⟨F.LPE_INT_EN_WR_IGN, 2, .rw⟩, ⟨F.LPE_INT_EN_FENCE, 1, .rw⟩, ⟨F.LPE_INT_EN_SPARE, 0, .rw⟩]⟩,
    ⟨0x20050100, 23, 0x40, 1, 0x0, [⟨F.LPE_L_CTRL_OPEN, 1, .wo⟩, ⟨F.LPE_L_CTRL_CLOSE, 0, .wo⟩]⟩,
    ⟨0x20050104, 23, 0x40, 1, 0x0, [⟨F.LPE_L_STAT_PHYS, 27, .ro⟩, ⟨F.LPE_L_STAT_SAT, 20, .w1c⟩, ⟨F.LPE_L_STAT_WR_IGN, 19, .w1c⟩, ⟨F.LPE_L_STAT_CLAMPED, 18, .ro⟩, ⟨F.LPE_L_STAT_STALE, 17, .ro⟩, ⟨F.LPE_L_STAT_SET, 8, .ro⟩, ⟨F.LPE_L_STAT_STATE, 0, .ro⟩]⟩,
    ⟨0x20050108, 23, 0x40, 1, 0x0, [⟨F.LPE_L_MODE_FF_MODE, 16, .rwo⟩, ⟨F.LPE_L_MODE_VNOM, 0, .rwo⟩]⟩,
    ⟨0x2005010C, 23, 0x40, 1, 0x0, [⟨F.LPE_L_KP_EXP, 18, .rwo⟩, ⟨F.LPE_L_KP_MANT, 0, .rwo⟩]⟩,
    ⟨0x20050110, 23, 0x40, 1, 0x0, [⟨F.LPE_L_KI_EXP, 18, .rwo⟩, ⟨F.LPE_L_KI_MANT, 0, .rwo⟩]⟩,
    ⟨0x20050114, 23, 0x40, 1, 0x0, [⟨F.LPE_L_KD_EXP, 18, .rwo⟩, ⟨F.LPE_L_KD_MANT, 0, .rwo⟩]⟩,
    ⟨0x20050118, 23, 0x40, 1, 0x0, [⟨F.LPE_L_ALPHA_EXP, 18, .rwo⟩, ⟨F.LPE_L_ALPHA_MANT, 0, .rwo⟩]⟩,
    ⟨0x2005011C, 23, 0x40, 1, 0x0, [⟨F.LPE_L_KF_EXP, 18, .rwo⟩, ⟨F.LPE_L_KF_MANT, 0, .rwo⟩]⟩,
    ⟨0x20050120, 23, 0x40, 1, 0x0, [⟨F.LPE_L_ILIM_EXP, 18, .rwo⟩, ⟨F.LPE_L_ILIM_MANT, 0, .rwo⟩]⟩,
    ⟨0x20050124, 23, 0x40, 1, 0x0, [⟨F.LPE_L_BIAS_EXP, 18, .rwo⟩, ⟨F.LPE_L_BIAS_MANT, 0, .rwo⟩]⟩,
    ⟨0x20050128, 23, 0x40, 1, 0x0, [⟨F.LPE_L_OUTLIM_OUT_MAX, 16, .rwo⟩, ⟨F.LPE_L_OUTLIM_OUT_MIN, 0, .rwo⟩]⟩,
    ⟨0x2005012C, 23, 0x40, 1, 0x0, [⟨F.LPE_L_RAMP_RATE, 0, .rwo⟩]⟩,
    ⟨0x20050130, 23, 0x40, 1, 0x0, [⟨F.LPE_L_OUT_OUT, 16, .ro⟩, ⟨F.LPE_L_OUT_OPEN_OUT, 0, .rw⟩]⟩,
    ⟨0x20050134, 23, 0x40, 1, 0x0, [⟨F.LPE_L_SETPT_VALUE, 0, .ro⟩]⟩,
    ⟨0x20050138, 23, 0x40, 1, 0x0, [⟨F.LPE_L_TARGET_VALUE, 0, .ro⟩]⟩,
    ⟨0x2005013C, 23, 0x40, 1, 0x0, [⟨F.LPE_L_MEAS_VALUE, 0, .ro⟩]⟩ ]

/-- The RCH registers. -/
def rch : List RegRow :=
  [ ⟨0x20060000, 1, 0x0, 1, 0x0, [⟨F.RCH_ID_BLOCK, 16, .ro⟩, ⟨F.RCH_ID_VERSION, 0, .ro⟩]⟩,
    ⟨0x20060004, 1, 0x0, 1, 0x0, [⟨F.RCH_STAT_READING, 8, .ro⟩, ⟨F.RCH_STAT_FENCED, 0, .ro⟩]⟩,
    ⟨0x20060008, 1, 0x0, 1, 0x0, [⟨F.RCH_SEED_BASE_LO_ADDR, 0, .ro⟩]⟩,
    ⟨0x2006000C, 1, 0x0, 1, 0x0, [⟨F.RCH_SEED_BASE_HI_ADDR, 0, .ro⟩]⟩,
    ⟨0x20060010, 1, 0x0, 1, 0x0, [⟨F.RCH_INT_STAT_WR_IGN, 5, .w1c⟩, ⟨F.RCH_INT_STAT_FENCE, 4, .w1c⟩, ⟨F.RCH_INT_STAT_RANGE, 3, .w1c⟩, ⟨F.RCH_INT_STAT_DEFECT, 2, .w1c⟩, ⟨F.RCH_INT_STAT_TA, 1, .w1c⟩, ⟨F.RCH_INT_STAT_ABANDON, 0, .w1c⟩]⟩,
    ⟨0x20060014, 1, 0x0, 1, 0x0, [⟨F.RCH_INT_EN_WR_IGN, 5, .rw⟩, ⟨F.RCH_INT_EN_FENCE, 4, .rw⟩, ⟨F.RCH_INT_EN_RANGE, 3, .rw⟩, ⟨F.RCH_INT_EN_DEFECT, 2, .rw⟩, ⟨F.RCH_INT_EN_TA, 1, .rw⟩, ⟨F.RCH_INT_EN_ABANDON, 0, .rw⟩]⟩,
    ⟨0x20060100, 8, 0x100, 1, 0x0, [⟨F.RCH_S_CTRL_RESEED, 1, .wo⟩, ⟨F.RCH_S_CTRL_FENCE, 0, .w1s⟩]⟩,
    ⟨0x20060104, 8, 0x100, 1, 0x0, [⟨F.RCH_S_STAT_WR_IGN, 31, .w1c⟩, ⟨F.RCH_S_STAT_ACQ_LATE, 30, .ro⟩, ⟨F.RCH_S_STAT_LAST_ABANDON, 26, .ro⟩, ⟨F.RCH_S_STAT_FROZEN, 25, .ro⟩, ⟨F.RCH_S_STAT_DEF_B, 24, .ro⟩, ⟨F.RCH_S_STAT_DEF_A, 23, .ro⟩, ⟨F.RCH_S_STAT_TA_B, 22, .ro⟩, ⟨F.RCH_S_STAT_TA_A, 21, .ro⟩, ⟨F.RCH_S_STAT_LOCKED, 20, .ro⟩, ⟨F.RCH_S_STAT_PHASE, 0, .ro⟩]⟩,
    ⟨0x20060108, 8, 0x100, 1, 0x0, [⟨F.RCH_S_ZONE_HEAD, 16, .ro⟩, ⟨F.RCH_S_ZONE_ZONE, 0, .ro⟩]⟩,
    ⟨0x2006010C, 8, 0x100, 1, 0x0, [⟨F.RCH_S_SYNTH_RATIO, 0, .ro⟩]⟩,
    ⟨0x20060110, 8, 0x100, 1, 0x0, [⟨F.RCH_S_BPW_BPW, 0, .ro⟩]⟩,
    ⟨0x20060114, 8, 0x100, 1, 0x0, [⟨F.RCH_S_TIMING_F, 16, .ro⟩, ⟨F.RCH_S_TIMING_PHI, 0, .ro⟩]⟩,
    ⟨0x20060118, 8, 0x100, 1, 0x0, [⟨F.RCH_S_TLOOP_LOCK_THR, 16, .rwo⟩, ⟨F.RCH_S_TLOOP_KI_TRK, 12, .rwo⟩, ⟨F.RCH_S_TLOOP_KP_TRK, 8, .rwo⟩, ⟨F.RCH_S_TLOOP_KI_ACQ, 4, .rwo⟩, ⟨F.RCH_S_TLOOP_KP_ACQ, 0, .rwo⟩]⟩,
    ⟨0x2006011C, 8, 0x100, 1, 0x0, [⟨F.RCH_S_MU_MU_A, 12, .rwo⟩, ⟨F.RCH_S_MU_MU_O, 8, .rwo⟩, ⟨F.RCH_S_MU_MU_G, 4, .rwo⟩, ⟨F.RCH_S_MU_MU_F, 0, .rwo⟩]⟩,
    ⟨0x20060120, 8, 0x100, 1, 0x0, [⟨F.RCH_S_TARGET0_G3, 24, .ro⟩, ⟨F.RCH_S_TARGET0_G2, 16, .ro⟩, ⟨F.RCH_S_TARGET0_G1, 8, .ro⟩, ⟨F.RCH_S_TARGET0_G0, 0, .ro⟩]⟩,
    ⟨0x20060124, 8, 0x100, 1, 0x0, [⟨F.RCH_S_TARGET1_MAIN, 8, .ro⟩, ⟨F.RCH_S_TARGET1_G4, 0, .ro⟩]⟩,
    ⟨0x20060128, 8, 0x100, 1, 0x0, [⟨F.RCH_S_TADET_FLAG_MAX, 16, .rwo⟩, ⟨F.RCH_S_TADET_DEF_THR, 8, .rwo⟩, ⟨F.RCH_S_TADET_TA_THR, 0, .rwo⟩]⟩,
    ⟨0x2006012C, 8, 0x100, 1, 0x0, [⟨F.RCH_S_CLEAR_VALID, 31, .ro⟩, ⟨F.RCH_S_CLEAR_CLEARANCE, 0, .ro⟩]⟩,
    ⟨0x20060130, 8, 0x100, 1, 0x0, [⟨F.RCH_S_SECTORS_COUNT, 0, .ro⟩]⟩,
    ⟨0x20060134, 8, 0x100, 1, 0x0, [⟨F.RCH_S_ABANDON_COUNT, 0, .ro⟩]⟩,
    ⟨0x20060138, 8, 0x100, 1, 0x0, [⟨F.RCH_S_FLAGGED_TA, 16, .ro⟩, ⟨F.RCH_S_FLAGGED_DEFECT, 0, .ro⟩]⟩,
    ⟨0x20060140, 8, 0x100, 2, 0x4, [⟨F.RCH_S_LANE_AFE_CUT, 12, .ro⟩, ⟨F.RCH_S_LANE_AFE_BOOST, 8, .ro⟩, ⟨F.RCH_S_LANE_AFE_GAIN, 0, .ro⟩]⟩,
    ⟨0x20060148, 8, 0x100, 2, 0x4, [⟨F.RCH_S_LANE_OFFS_ASYM, 8, .ro⟩, ⟨F.RCH_S_LANE_OFFS_OFFSET, 0, .ro⟩]⟩,
    ⟨0x20060180, 8, 0x100, 16, 0x4, [⟨F.RCH_S_TAP_TAP_B, 16, .ro⟩, ⟨F.RCH_S_TAP_TAP_A, 0, .ro⟩]⟩ ]

/-- The DET registers. -/
def det : List RegRow :=
  [ ⟨0x20070000, 1, 0x0, 1, 0x0, [⟨F.DET_ID_BLOCK, 16, .ro⟩, ⟨F.DET_ID_VERSION, 0, .ro⟩]⟩,
    ⟨0x20070004, 1, 0x0, 1, 0x0, [⟨F.DET_STAT_FAILED, 18, .ro⟩, ⟨F.DET_STAT_OFFLINE, 9, .ro⟩, ⟨F.DET_STAT_ONLINE, 0, .ro⟩]⟩,
    ⟨0x20070008, 1, 0x0, 1, 0x0, [⟨F.DET_XBAR_SLICE_7, 28, .ro⟩, ⟨F.DET_XBAR_SLICE_6, 24, .ro⟩, ⟨F.DET_XBAR_SLICE_5, 20, .ro⟩, ⟨F.DET_XBAR_SLICE_4, 16, .ro⟩, ⟨F.DET_XBAR_SLICE_3, 12, .ro⟩, ⟨F.DET_XBAR_SLICE_2, 8, .ro⟩, ⟨F.DET_XBAR_SLICE_1, 4, .ro⟩, ⟨F.DET_XBAR_SLICE_0, 0, .ro⟩]⟩,
    ⟨0x2007000C, 1, 0x0, 1, 0x0, [⟨F.DET_SPARE_STREAM, 4, .ro⟩, ⟨F.DET_SPARE_STATE, 0, .ro⟩]⟩,
    ⟨0x20070010, 1, 0x0, 1, 0x0, [⟨F.DET_CAP_GLOBAL_CAP, 12, .ro⟩, ⟨F.DET_CAP_STEP, 8, .ro⟩, ⟨F.DET_CAP_LOCAL, 0, .ro⟩]⟩,
    ⟨0x20070014, 1, 0x0, 1, 0x0, [⟨F.DET_OFFLINE_DONE, 16, .ro⟩, ⟨F.DET_OFFLINE_QUEUED, 0, .ro⟩]⟩,
    ⟨0x20070018, 1, 0x0, 1, 0x0, [⟨F.DET_SAMPLE_BASE_LO_ADDR, 0, .ro⟩]⟩,
    ⟨0x2007001C, 1, 0x0, 1, 0x0, [⟨F.DET_SAMPLE_BASE_HI_ADDR, 0, .ro⟩]⟩,
    ⟨0x20070020, 1, 0x0, 1, 0x0, [⟨F.DET_SAMPLE_SETS_IN_USE, 16, .ro⟩, ⟨F.DET_SAMPLE_SETS_SIZE, 0, .ro⟩]⟩,
    ⟨0x20070024, 1, 0x0, 1, 0x0, [⟨F.DET_RECOV_RUNG2, 16, .ro⟩, ⟨F.DET_RECOV_RUNG1, 0, .ro⟩]⟩,
    ⟨0x20070028, 1, 0x0, 1, 0x0, [⟨F.DET_RUNG1_COUNT, 0, .ro⟩]⟩,
    ⟨0x2007002C, 1, 0x0, 1, 0x0, [⟨F.DET_RUNG2_COUNT, 0, .ro⟩]⟩,
    ⟨0x20070030, 1, 0x0, 1, 0x0, [⟨F.DET_HANDOFF_COUNT, 0, .ro⟩]⟩,
    ⟨0x20070034, 1, 0x0, 1, 0x0, [⟨F.DET_FORMAT_CODES, 16, .ro⟩, ⟨F.DET_FORMAT_TITHE_DATA, 8, .ro⟩, ⟨F.DET_FORMAT_ZONES, 0, .ro⟩]⟩,
    ⟨0x20070040, 1, 0x0, 1, 0x0, [⟨F.DET_INT_STAT_STORE_FULL, 5, .w1c⟩, ⟨F.DET_INT_STAT_SLICE_FAULT, 4, .w1c⟩, ⟨F.DET_INT_STAT_HANDOFF, 3, .w1c⟩, ⟨F.DET_INT_STAT_RECOVERED, 2, .w1c⟩, ⟨F.DET_INT_STAT_CHECK, 1, .w1c⟩, ⟨F.DET_INT_STAT_DEFER, 0, .w1c⟩]⟩,
    ⟨0x20070044, 1, 0x0, 1, 0x0, [⟨F.DET_INT_EN_STORE_FULL, 5, .rw⟩, ⟨F.DET_INT_EN_SLICE_FAULT, 4, .rw⟩, ⟨F.DET_INT_EN_HANDOFF, 3, .rw⟩, ⟨F.DET_INT_EN_RECOVERED, 2, .rw⟩, ⟨F.DET_INT_EN_CHECK, 1, .rw⟩, ⟨F.DET_INT_EN_DEFER, 0, .rw⟩]⟩,
    ⟨0x20070100, 9, 0x80, 1, 0x0, [⟨F.DET_Q_CTRL_KAT, 1, .wo⟩, ⟨F.DET_Q_CTRL_FENCE, 0, .w1s⟩]⟩,
    ⟨0x20070104, 9, 0x80, 1, 0x0, [⟨F.DET_Q_STAT_STREAM, 28, .ro⟩, ⟨F.DET_Q_STAT_SLOTS, 8, .ro⟩, ⟨F.DET_Q_STAT_STATE, 0, .ro⟩]⟩,
    ⟨0x20070108, 9, 0x80, 1, 0x0, [⟨F.DET_Q_FRAME_RESULT, 29, .ro⟩, ⟨F.DET_Q_FRAME_SM1_OFF, 16, .ro⟩, ⟨F.DET_Q_FRAME_SM2_OFF, 8, .ro⟩, ⟨F.DET_Q_FRAME_SM1_DIST, 4, .ro⟩, ⟨F.DET_Q_FRAME_SM2_DIST, 0, .ro⟩]⟩,
    ⟨0x2007010C, 9, 0x80, 1, 0x0, [⟨F.DET_Q_ITER_UNSAT, 16, .ro⟩, ⟨F.DET_Q_ITER_GLOBAL, 12, .ro⟩, ⟨F.DET_Q_ITER_CODE, 10, .ro⟩, ⟨F.DET_Q_ITER_LOCAL, 0, .ro⟩]⟩,
    ⟨0x20070110, 9, 0x80, 1, 0x0, [⟨F.DET_Q_NSCALE_NSCALE, 0, .ro⟩]⟩,
    ⟨0x20070114, 9, 0x80, 1, 0x0, [⟨F.DET_Q_SECTORS_COUNT, 0, .ro⟩]⟩,
    ⟨0x20070118, 9, 0x80, 1, 0x0, [⟨F.DET_Q_FIRST_FAIL_COUNT, 0, .ro⟩]⟩,
    ⟨0x2007011C, 9, 0x80, 1, 0x0, [⟨F.DET_Q_DEFERRED_COUNT, 0, .ro⟩]⟩,
    ⟨0x20070120, 9, 0x80, 1, 0x0, [⟨F.DET_Q_CHECKS_CRCF, 16, .ro⟩, ⟨F.DET_Q_CHECKS_TAG, 0, .ro⟩]⟩,
    ⟨0x20070124, 9, 0x80, 1, 0x0, [⟨F.DET_Q_SYNC_SM2_WINS, 16, .ro⟩, ⟨F.DET_Q_SYNC_WIDE, 0, .ro⟩]⟩,
    ⟨0x20070128, 9, 0x80, 1, 0x0, [⟨F.DET_Q_KAT_PASSES, 16, .ro⟩, ⟨F.DET_Q_KAT_AGE, 0, .ro⟩]⟩ ]

/-- The WCH registers. -/
def wch : List RegRow :=
  [ ⟨0x20080000, 1, 0x0, 1, 0x0, [⟨F.WCH_ID_BLOCK, 16, .ro⟩, ⟨F.WCH_ID_VERSION, 0, .ro⟩]⟩,
    ⟨0x20080004, 1, 0x0, 1, 0x0, [⟨F.WCH_CTRL_SHK_TEST, 2, .wo⟩, ⟨F.WCH_CTRL_RELEASE, 1, .wo⟩, ⟨F.WCH_CTRL_FORCE, 0, .w1s⟩]⟩,
    ⟨0x20080008, 1, 0x0, 1, 0x0, [⟨F.WCH_INHIBIT_ACTIVE, 31, .ro⟩, ⟨F.WCH_INHIBIT_CAUSE, 16, .ro⟩, ⟨F.WCH_INHIBIT_SOURCES, 0, .ro⟩]⟩,
    ⟨0x2008000C, 1, 0x0, 1, 0x0, [⟨F.WCH_SHK_HOLD, 16, .rw⟩, ⟨F.WCH_SHK_ROT_THR, 8, .rw⟩, ⟨F.WCH_SHK_LIN_THR, 0, .rw⟩]⟩,
    ⟨0x20080010, 1, 0x0, 1, 0x0, [⟨F.WCH_INH_COUNT_SHOCK, 16, .ro⟩, ⟨F.WCH_INH_COUNT_OTHER, 0, .ro⟩]⟩,
    ⟨0x20080014, 1, 0x0, 1, 0x0, [⟨F.WCH_VERIFY_GLOBAL, 4, .ro⟩, ⟨F.WCH_VERIFY_MODE, 0, .ro⟩]⟩,
    ⟨0x20080020, 1, 0x0, 1, 0x0, [⟨F.WCH_INT_STAT_ENCODE, 4, .w1c⟩, ⟨F.WCH_INT_STAT_BAD_TILE, 3, .w1c⟩, ⟨F.WCH_INT_STAT_VERIFY, 2, .w1c⟩, ⟨F.WCH_INT_STAT_RESUMED, 1, .w1c⟩, ⟨F.WCH_INT_STAT_INHIBIT, 0, .w1c⟩]⟩,
    ⟨0x20080024, 1, 0x0, 1, 0x0, [⟨F.WCH_INT_EN_ENCODE, 4, .rw⟩, ⟨F.WCH_INT_EN_BAD_TILE, 3, .rw⟩, ⟨F.WCH_INT_EN_VERIFY, 2, .rw⟩, ⟨F.WCH_INT_EN_RESUMED, 1, .rw⟩, ⟨F.WCH_INT_EN_INHIBIT, 0, .rw⟩]⟩,
    ⟨0x20080100, 8, 0x40, 1, 0x0, [⟨F.WCH_W_STAT_ENC_FAILS, 8, .ro⟩, ⟨F.WCH_W_STAT_BUFFERS, 6, .ro⟩, ⟨F.WCH_W_STAT_LAST, 3, .ro⟩, ⟨F.WCH_W_STAT_STATE, 0, .ro⟩]⟩,
    ⟨0x20080104, 8, 0x40, 1, 0x0, [⟨F.WCH_W_ZONE_HEAD, 27, .ro⟩, ⟨F.WCH_W_ZONE_ZONE_LO, 20, .ro⟩, ⟨F.WCH_W_ZONE_ZONE_HI, 18, .ro⟩, ⟨F.WCH_W_ZONE_PC_2, 10, .ro⟩, ⟨F.WCH_W_ZONE_PC_1, 5, .ro⟩, ⟨F.WCH_W_ZONE_PC_0, 0, .ro⟩]⟩,
    ⟨0x20080108, 8, 0x40, 1, 0x0, [⟨F.WCH_W_ASSIST_PC_3, 8, .ro⟩, ⟨F.WCH_W_ASSIST_WA_LAG, 4, .ro⟩, ⟨F.WCH_W_ASSIST_WA_LEAD, 0, .ro⟩]⟩,
    ⟨0x2008010C, 8, 0x40, 1, 0x0, [⟨F.WCH_W_MON_VALID, 31, .ro⟩, ⟨F.WCH_W_MON_LEVEL, 0, .ro⟩]⟩,
    ⟨0x20080110, 8, 0x40, 1, 0x0, [⟨F.WCH_W_SECTORS_COUNT, 0, .ro⟩]⟩,
    ⟨0x20080114, 8, 0x40, 1, 0x0, [⟨F.WCH_W_TORN_COUNT, 0, .ro⟩]⟩,
    ⟨0x20080118, 8, 0x40, 1, 0x0, [⟨F.WCH_W_VERIFY_FAILED, 16, .ro⟩, ⟨F.WCH_W_VERIFY_PASSED, 0, .ro⟩]⟩ ]

/-- The GRN registers. -/
def grn : List RegRow :=
  [ ⟨0x20090000, 1, 0x0, 1, 0x0, [⟨F.GRN_ID_BLOCK, 16, .ro⟩, ⟨F.GRN_ID_VERSION, 0, .ro⟩]⟩,
    ⟨0x20090004, 1, 0x0, 1, 0x0, [⟨F.GRN_POOL_BASE_TILES, 0, .ro⟩]⟩,
    ⟨0x20090008, 1, 0x0, 1, 0x0, [⟨F.GRN_POOL_TILES_TILES, 0, .ro⟩]⟩,
    ⟨0x2009000C, 1, 0x0, 1, 0x0, [⟨F.GRN_SIDE_BASE_TILES, 0, .ro⟩]⟩,
    ⟨0x20090010, 1, 0x0, 1, 0x0, [⟨F.GRN_BAD_RETIRED, 16, .ro⟩, ⟨F.GRN_BAD_BAD, 0, .ro⟩]⟩,
    ⟨0x20090014, 1, 0x0, 1, 0x0, [⟨F.GRN_MISMATCH_COUNT, 0, .ro⟩]⟩,
    ⟨0x20090018, 1, 0x0, 1, 0x0, [⟨F.GRN_LAST_CONSUMER, 28, .ro⟩, ⟨F.GRN_LAST_PRODUCER, 24, .ro⟩, ⟨F.GRN_LAST_TILE, 0, .ro⟩]⟩,
    ⟨0x2009001C, 1, 0x0, 1, 0x0, [⟨F.GRN_REFUSED_USES, 16, .ro⟩, ⟨F.GRN_REFUSED_WRITES, 0, .ro⟩]⟩,
    ⟨0x20090020, 1, 0x0, 1, 0x0, [⟨F.GRN_TITHE_REBUILDING, 31, .ro⟩, ⟨F.GRN_TITHE_SURFACE, 24, .ro⟩, ⟨F.GRN_TITHE_PERMILLE, 8, .ro⟩, ⟨F.GRN_TITHE_WIDTH, 0, .ro⟩]⟩,
    ⟨0x20090024, 1, 0x0, 1, 0x0, [⟨F.GRN_TITHE_RETIRED_VALUE, 0, .ro⟩]⟩,
    ⟨0x20090028, 1, 0x0, 1, 0x0, [⟨F.GRN_TITHE_SPARE_VALUE, 0, .ro⟩]⟩,
    ⟨0x2009002C, 1, 0x0, 1, 0x0, [⟨F.GRN_TITHE_LOST_VALUE, 0, .ro⟩]⟩,
    ⟨0x20090040, 1, 0x0, 1, 0x0, [⟨F.GRN_INT_STAT_RETIRED, 3, .w1c⟩, ⟨F.GRN_INT_STAT_REFUSED, 2, .w1c⟩, ⟨F.GRN_INT_STAT_SURFACE, 1, .w1c⟩, ⟨F.GRN_INT_STAT_MISMATCH, 0, .w1c⟩]⟩,
    ⟨0x20090044, 1, 0x0, 1, 0x0, [⟨F.GRN_INT_EN_RETIRED, 3, .rw⟩, ⟨F.GRN_INT_EN_REFUSED, 2, .rw⟩, ⟨F.GRN_INT_EN_SURFACE, 1, .rw⟩, ⟨F.GRN_INT_EN_MISMATCH, 0, .rw⟩]⟩ ]

/-- The DDR registers. -/
def ddr : List RegRow :=
  [ ⟨0x200A0000, 1, 0x0, 1, 0x0, [⟨F.DDR_ID_BLOCK, 16, .ro⟩, ⟨F.DDR_ID_VERSION, 0, .ro⟩]⟩,
    ⟨0x200A0004, 1, 0x0, 1, 0x0, [⟨F.DDR_STAT_MIGRATING, 5, .ro⟩, ⟨F.DDR_STAT_PAUSE, 4, .ro⟩, ⟨F.DDR_STAT_RATE, 3, .ro⟩, ⟨F.DDR_STAT_STATE, 0, .ro⟩]⟩,
    ⟨0x200A0008, 1, 0x0, 1, 0x0, [⟨F.DDR_CONFIG_CAP_GIB, 8, .ro⟩, ⟨F.DDR_CONFIG_ACTIVE, 6, .ro⟩, ⟨F.DDR_CONFIG_SPARE, 5, .ro⟩, ⟨F.DDR_CONFIG_DENSITY, 4, .ro⟩]⟩,
    ⟨0x200A000C, 1, 0x0, 1, 0x0, [⟨F.DDR_RANKS_ROLES_B, 8, .ro⟩, ⟨F.DDR_RANKS_ROLES_A, 0, .ro⟩]⟩,
    ⟨0x200A0010, 1, 0x0, 1, 0x0, [⟨F.DDR_MAP_LO_ORDER15, 30, .rw⟩, ⟨F.DDR_MAP_LO_ORDER14, 28, .rw⟩, ⟨F.DDR_MAP_LO_ORDER13, 26, .rw⟩, ⟨F.DDR_MAP_LO_ORDER12, 24, .rw⟩, ⟨F.DDR_MAP_LO_ORDER11, 22, .rw⟩, ⟨F.DDR_MAP_LO_ORDER10, 20, .rw⟩, ⟨F.DDR_MAP_LO_ORDER9, 18, .rw⟩, ⟨F.DDR_MAP_LO_ORDER8, 16, .rw⟩, ⟨F.DDR_MAP_LO_ORDER7, 14, .rw⟩, ⟨F.DDR_MAP_LO_ORDER6, 12, .rw⟩, ⟨F.DDR_MAP_LO_ORDER5, 10, .rw⟩, ⟨F.DDR_MAP_LO_ORDER4, 8, .rw⟩, ⟨F.DDR_MAP_LO_ORDER3, 6, .rw⟩, ⟨F.DDR_MAP_LO_ORDER2, 4, .rw⟩, ⟨F.DDR_MAP_LO_ORDER1, 2, .rw⟩, ⟨F.DDR_MAP_LO_ORDER0, 0, .rw⟩]⟩,
    ⟨0x200A0014, 1, 0x0, 1, 0x0, [⟨F.DDR_MAP_HI_ORDER31, 30, .rw⟩, ⟨F.DDR_MAP_HI_ORDER30, 28, .rw⟩, ⟨F.DDR_MAP_HI_ORDER29, 26, .rw⟩, ⟨F.DDR_MAP_HI_ORDER28, 24, .rw⟩, ⟨F.DDR_MAP_HI_ORDER27, 22, .rw⟩, ⟨F.DDR_MAP_HI_ORDER26, 20, .rw⟩, ⟨F.DDR_MAP_HI_ORDER25, 18, .rw⟩, ⟨F.DDR_MAP_HI_ORDER24, 16, .rw⟩, ⟨F.DDR_MAP_HI_ORDER23, 14, .rw⟩, ⟨F.DDR_MAP_HI_ORDER22, 12, .rw⟩, ⟨F.DDR_MAP_HI_ORDER21, 10, .rw⟩, ⟨F.DDR_MAP_HI_ORDER20, 8, .rw⟩, ⟨F.DDR_MAP_HI_ORDER19, 6, .rw⟩, ⟨F.DDR_MAP_HI_ORDER18, 4, .rw⟩, ⟨F.DDR_MAP_HI_ORDER17, 2, .rw⟩, ⟨F.DDR_MAP_HI_ORDER16, 0, .rw⟩]⟩,
    ⟨0x200A0018, 1, 0x0, 1, 0x0, [⟨F.DDR_MIG_ACTIVE, 31, .ro⟩, ⟨F.DDR_MIG_SC, 30, .ro⟩, ⟨F.DDR_MIG_FROM, 28, .ro⟩, ⟨F.DDR_MIG_TO, 26, .ro⟩, ⟨F.DDR_MIG_CAUSE, 24, .ro⟩, ⟨F.DDR_MIG_MS, 0, .ro⟩]⟩,
    ⟨0x200A001C, 1, 0x0, 1, 0x0, [⟨F.DDR_MIG_PTR_PTR, 0, .ro⟩]⟩,
    ⟨0x200A0020, 1, 0x0, 1, 0x0, [⟨F.DDR_CE_A_RANK2, 16, .ro⟩, ⟨F.DDR_CE_A_RANK1, 8, .ro⟩, ⟨F.DDR_CE_A_RANK0, 0, .ro⟩]⟩,
    ⟨0x200A0024, 1, 0x0, 1, 0x0, [⟨F.DDR_CE_B_RANK2, 16, .ro⟩, ⟨F.DDR_CE_B_RANK1, 8, .ro⟩, ⟨F.DDR_CE_B_RANK0, 0, .ro⟩]⟩,
    ⟨0x200A0028, 1, 0x0, 1, 0x0, [⟨F.DDR_UE_POISON, 16, .ro⟩, ⟨F.DDR_UE_UNCORR, 0, .ro⟩]⟩,
    ⟨0x200A002C, 1, 0x0, 1, 0x0, [⟨F.DDR_ERR_ADDR_LO_ADDR, 0, .ro⟩]⟩,
    ⟨0x200A0030, 1, 0x0, 1, 0x0, [⟨F.DDR_ERR_ADDR_HI_ADDR, 0, .ro⟩]⟩,
    ⟨0x200A0034, 1, 0x0, 1, 0x0, [⟨F.DDR_ERR_INFO_KIND, 16, .ro⟩, ⟨F.DDR_ERR_INFO_SYMBOL, 8, .ro⟩, ⟨F.DDR_ERR_INFO_SC, 7, .ro⟩, ⟨F.DDR_ERR_INFO_RANK, 5, .ro⟩]⟩,
    ⟨0x200A0038, 1, 0x0, 1, 0x0, [⟨F.DDR_RETRAIN_LONG, 16, .ro⟩, ⟨F.DDR_RETRAIN_SHORT, 0, .ro⟩]⟩,
    ⟨0x200A003C, 1, 0x0, 1, 0x0, [⟨F.DDR_REFRESH_RATE, 0, .ro⟩]⟩,
    ⟨0x200A0040, 1, 0x0, 1, 0x0, [⟨F.DDR_PAGE_HIT_COUNT, 0, .ro⟩]⟩,
    ⟨0x200A0044, 1, 0x0, 1, 0x0, [⟨F.DDR_PAGE_MISS_COUNT, 0, .ro⟩]⟩,
    ⟨0x200A0048, 1, 0x0, 1, 0x0, [⟨F.DDR_AGE_BG, 20, .ro⟩, ⟨F.DDR_AGE_META, 10, .ro⟩, ⟨F.DDR_AGE_HOST, 0, .ro⟩]⟩,
    ⟨0x200A004C, 1, 0x0, 1, 0x0, [⟨F.DDR_PROMOTED_COUNT, 0, .ro⟩]⟩,
    ⟨0x200A0060, 1, 0x0, 1, 0x0, [⟨F.DDR_INT_STAT_RATE_LOW, 4, .w1c⟩, ⟨F.DDR_INT_STAT_POISON, 3, .w1c⟩, ⟨F.DDR_INT_STAT_MIG_DONE, 2, .w1c⟩, ⟨F.DDR_INT_STAT_UNCORR, 1, .w1c⟩, ⟨F.DDR_INT_STAT_CORR, 0, .w1c⟩]⟩,
    ⟨0x200A0064, 1, 0x0, 1, 0x0, [⟨F.DDR_INT_EN_RATE_LOW, 4, .rw⟩, ⟨F.DDR_INT_EN_POISON, 3, .rw⟩, ⟨F.DDR_INT_EN_MIG_DONE, 2, .rw⟩, ⟨F.DDR_INT_EN_UNCORR, 1, .rw⟩, ⟨F.DDR_INT_EN_CORR, 0, .rw⟩]⟩ ]

/-- The MCC registers. -/
def mcc : List RegRow :=
  [ ⟨0x200B0000, 1, 0x0, 1, 0x0, [⟨F.MCC_ID_BLOCK, 16, .ro⟩, ⟨F.MCC_ID_VERSION, 0, .ro⟩]⟩,
    ⟨0x200B0004, 1, 0x0, 1, 0x0, [⟨F.MCC_CTRL_ENABLE, 0, .rw⟩]⟩,
    ⟨0x200B0008, 1, 0x0, 1, 0x0, [⟨F.MCC_STAT_WR_IGN, 4, .w1c⟩, ⟨F.MCC_STAT_LOCK_BUSY, 3, .ro⟩, ⟨F.MCC_STAT_MAINT, 2, .ro⟩, ⟨F.MCC_STAT_DRAINING, 1, .ro⟩, ⟨F.MCC_STAT_BUSY, 0, .ro⟩]⟩,
    ⟨0x200B000C, 1, 0x0, 1, 0x0, [⟨F.MCC_LOCK_WAYS, 0, .rw⟩]⟩,
    ⟨0x200B0010, 1, 0x0, 1, 0x0, [⟨F.MCC_FENCE_WAYS, 0, .ro⟩]⟩,
    ⟨0x200B0020, 4, 0x4, 1, 0x0, [⟨F.MCC_ATTR_PREFETCH7, 31, .rw⟩, ⟨F.MCC_ATTR_POLICY7, 28, .rw⟩, ⟨F.MCC_ATTR_PREFETCH6, 27, .rw⟩, ⟨F.MCC_ATTR_POLICY6, 24, .rw⟩, ⟨F.MCC_ATTR_PREFETCH5, 23, .rw⟩, ⟨F.MCC_ATTR_POLICY5, 20, .rw⟩, ⟨F.MCC_ATTR_PREFETCH4, 19, .rw⟩, ⟨F.MCC_ATTR_POLICY4, 16, .rw⟩, ⟨F.MCC_ATTR_PREFETCH3, 15, .rw⟩, ⟨F.MCC_ATTR_POLICY3, 12, .rw⟩, ⟨F.MCC_ATTR_PREFETCH2, 11, .rw⟩, ⟨F.MCC_ATTR_POLICY2, 8, .rw⟩, ⟨F.MCC_ATTR_PREFETCH1, 7, .rw⟩, ⟨F.MCC_ATTR_POLICY1, 4, .rw⟩, ⟨F.MCC_ATTR_PREFETCH0, 3, .rw⟩, ⟨F.MCC_ATTR_POLICY0, 0, .rw⟩]⟩,
    ⟨0x200B0030, 1, 0x0, 1, 0x0, [⟨F.MCC_MAINT_ADDR_LO_ADDR, 6, .rw⟩]⟩,
    ⟨0x200B0034, 1, 0x0, 1, 0x0, [⟨F.MCC_MAINT_ADDR_HI_ADDR, 0, .rw⟩]⟩,
    ⟨0x200B0038, 1, 0x0, 1, 0x0, [⟨F.MCC_MAINT_LEN_LINES, 0, .rw⟩]⟩,
    ⟨0x200B003C, 1, 0x0, 1, 0x0, [⟨F.MCC_MAINT_CTRL_GO, 31, .wo⟩, ⟨F.MCC_MAINT_CTRL_OP, 0, .rw⟩]⟩,
    ⟨0x200B0040, 1, 0x0, 1, 0x0, [⟨F.MCC_HIT_COUNT, 0, .ro⟩]⟩,
    ⟨0x200B0044, 1, 0x0, 1, 0x0, [⟨F.MCC_MISS_COUNT, 0, .ro⟩]⟩,
    ⟨0x200B0048, 1, 0x0, 1, 0x0, [⟨F.MCC_WB_COUNT, 0, .ro⟩]⟩,
    ⟨0x200B004C, 1, 0x0, 1, 0x0, [⟨F.MCC_PREFETCH_ISSUED, 16, .ro⟩, ⟨F.MCC_PREFETCH_USED, 0, .ro⟩]⟩,
    ⟨0x200B0050, 1, 0x0, 1, 0x0, [⟨F.MCC_VICTIM_HITS, 16, .ro⟩, ⟨F.MCC_VICTIM_CANCELLED, 0, .ro⟩]⟩,
    ⟨0x200B0060, 1, 0x0, 1, 0x0, [⟨F.MCC_INT_STAT_WR_IGN, 4, .w1c⟩, ⟨F.MCC_INT_STAT_FENCE, 3, .w1c⟩, ⟨F.MCC_INT_STAT_FILL_ERR, 2, .w1c⟩, ⟨F.MCC_INT_STAT_LOCK_DONE, 1, .w1c⟩, ⟨F.MCC_INT_STAT_OP_DONE, 0, .w1c⟩]⟩,
    ⟨0x200B0064, 1, 0x0, 1, 0x0, [⟨F.MCC_INT_EN_WR_IGN, 4, .rw⟩, ⟨F.MCC_INT_EN_FENCE, 3, .rw⟩, ⟨F.MCC_INT_EN_FILL_ERR, 2, .rw⟩, ⟨F.MCC_INT_EN_LOCK_DONE, 1, .rw⟩, ⟨F.MCC_INT_EN_OP_DONE, 0, .rw⟩]⟩ ]

/-- The SRM registers. -/
def srm : List RegRow :=
  [ ⟨0x200C0000, 1, 0x0, 1, 0x0, [⟨F.SRM_ID_BLOCK, 16, .ro⟩, ⟨F.SRM_ID_VERSION, 0, .ro⟩]⟩,
    ⟨0x200C0004, 1, 0x0, 1, 0x0, [⟨F.SRM_LB_CFG_LEAK_MS, 16, .ro⟩, ⟨F.SRM_LB_CFG_THRESH, 8, .ro⟩, ⟨F.SRM_LB_CFG_INC, 0, .ro⟩]⟩,
    ⟨0x200C0008, 1, 0x0, 1, 0x0, [⟨F.SRM_FLIP_CTRL_ARMED, 31, .w1s⟩, ⟨F.SRM_FLIP_CTRL_CHECK_MASK, 8, .rw⟩, ⟨F.SRM_FLIP_CTRL_MACRO, 0, .rw⟩]⟩,
    ⟨0x200C000C, 1, 0x0, 1, 0x0, [⟨F.SRM_FLIP_MASK_LO_MASK, 0, .rw⟩]⟩,
    ⟨0x200C0010, 1, 0x0, 1, 0x0, [⟨F.SRM_FLIP_MASK_HI_MASK, 0, .rw⟩]⟩,
    ⟨0x200C0014, 1, 0x0, 1, 0x0, [⟨F.SRM_CE_TOTAL_COUNT, 0, .ro⟩]⟩,
    ⟨0x200C0018, 1, 0x0, 1, 0x0, [⟨F.SRM_UE_TOTAL_COUNT, 0, .ro⟩]⟩,
    ⟨0x200C001C, 1, 0x0, 1, 0x0, [⟨F.SRM_LAST_ERR_KIND, 30, .ro⟩, ⟨F.SRM_LAST_ERR_MACRO, 20, .ro⟩, ⟨F.SRM_LAST_ERR_WORD, 0, .ro⟩]⟩,
    ⟨0x200C0020, 1, 0x0, 1, 0x0, [⟨F.SRM_SEL_MACRO, 0, .rw⟩]⟩,
    ⟨0x200C0024, 1, 0x0, 1, 0x0, [⟨F.SRM_MACRO_STAT_CE, 16, .ro⟩, ⟨F.SRM_MACRO_STAT_REMAPS, 12, .ro⟩, ⟨F.SRM_MACRO_STAT_EXHAUSTED, 8, .ro⟩, ⟨F.SRM_MACRO_STAT_BUCKET, 0, .ro⟩]⟩,
    ⟨0x200C0030, 8, 0x4, 1, 0x0, [⟨F.SRM_REMAP_VALID, 31, .ro⟩, ⟨F.SRM_REMAP_CAUSE, 29, .ro⟩, ⟨F.SRM_REMAP_WORD, 0, .ro⟩]⟩,
    ⟨0x200C0050, 3, 0x4, 1, 0x0, [⟨F.SRM_OVER_MASK, 0, .ro⟩]⟩,
    ⟨0x200C0060, 1, 0x0, 1, 0x0, [⟨F.SRM_INT_STAT_EXHAUSTED, 3, .w1c⟩, ⟨F.SRM_INT_STAT_UNCORR, 2, .w1c⟩, ⟨F.SRM_INT_STAT_REMAP, 1, .w1c⟩, ⟨F.SRM_INT_STAT_BUCKET, 0, .w1c⟩]⟩,
    ⟨0x200C0064, 1, 0x0, 1, 0x0, [⟨F.SRM_INT_EN_EXHAUSTED, 3, .rw⟩, ⟨F.SRM_INT_EN_UNCORR, 2, .rw⟩, ⟨F.SRM_INT_EN_REMAP, 1, .rw⟩, ⟨F.SRM_INT_EN_BUCKET, 0, .rw⟩]⟩ ]

/-- The POR registers. -/
def por : List RegRow :=
  [ ⟨0x200D0000, 1, 0x0, 1, 0x0, [⟨F.POR_ID_BLOCK, 16, .ro⟩, ⟨F.POR_ID_VERSION, 0, .ro⟩]⟩,
    ⟨0x200D0004, 1, 0x0, 1, 0x0, [⟨F.POR_STAT_RUNNING, 0, .ro⟩]⟩,
    ⟨0x200D0008, 1, 0x0, 1, 0x0, [⟨F.POR_OWNER_DROVER, 0, .rw⟩]⟩,
    ⟨0x200D000C, 1, 0x0, 1, 0x0, [⟨F.POR_SWREQ_LINE, 0, .wo⟩]⟩,
    ⟨0x200D0010, 1, 0x0, 1, 0x0, [⟨F.POR_SWPEND_PENDING, 0, .ro⟩]⟩,
    ⟨0x200D0014, 1, 0x0, 1, 0x0, [⟨F.POR_HWREQ_ASSERTED, 0, .ro⟩]⟩,
    ⟨0x200D0018, 1, 0x0, 1, 0x0, [⟨F.POR_PROG_ENTRIES, 16, .ro⟩, ⟨F.POR_PROG_SLOTS, 0, .ro⟩]⟩,
    ⟨0x200D0020, 1, 0x0, 1, 0x0, [⟨F.POR_CH_INT_CH, 0, .w1c⟩]⟩,
    ⟨0x200D0024, 1, 0x0, 1, 0x0, [⟨F.POR_CH_EN_CH, 0, .rw⟩]⟩,
    ⟨0x200D0028, 1, 0x0, 1, 0x0, [⟨F.POR_INT_STAT_OVERFLOW, 1, .w1c⟩, ⟨F.POR_INT_STAT_WR_IGN, 0, .w1c⟩]⟩,
    ⟨0x200D002C, 1, 0x0, 1, 0x0, [⟨F.POR_INT_EN_OVERFLOW, 1, .rw⟩, ⟨F.POR_INT_EN_WR_IGN, 0, .rw⟩]⟩,
    ⟨0x200D0040, 16, 0x4, 1, 0x0, [⟨F.POR_EVCNT_COUNT, 0, .rw⟩]⟩,
    ⟨0x200D0100, 32, 0x80, 1, 0x0, [⟨F.POR_C_CTRL_GO, 31, .wo⟩, ⟨F.POR_C_CTRL_ABORT, 30, .wo⟩, ⟨F.POR_C_CTRL_RESUMABLE, 5, .rwo⟩, ⟨F.POR_C_CTRL_IRQ_DONE, 4, .rwo⟩, ⟨F.POR_C_CTRL_PRIO, 0, .rwo⟩]⟩,
    ⟨0x200D0104, 32, 0x80, 1, 0x0, [⟨F.POR_C_STAT_WR_IGN, 31, .w1c⟩, ⟨F.POR_C_STAT_OVERLAP_SEEN, 30, .ro⟩, ⟨F.POR_C_STAT_DIR, 29, .ro⟩, ⟨F.POR_C_STAT_DOMAIN, 24, .ro⟩, ⟨F.POR_C_STAT_STATUS, 20, .ro⟩, ⟨F.POR_C_STAT_LINE, 14, .ro⟩, ⟨F.POR_C_STAT_STATE, 0, .ro⟩]⟩,
    ⟨0x200D0108, 32, 0x80, 1, 0x0, [⟨F.POR_C_PC_LO_PC, 5, .rwo⟩]⟩,
    ⟨0x200D010C, 32, 0x80, 1, 0x0, [⟨F.POR_C_PC_HI_PC, 0, .rwo⟩]⟩,
    ⟨0x200D0110, 32, 0x80, 1, 0x0, [⟨F.POR_C_WDOG_US, 0, .rwo⟩]⟩,
    ⟨0x200D0114, 32, 0x80, 1, 0x0, [⟨F.POR_C_REMAIN_REMAIN, 0, .ro⟩]⟩,
    ⟨0x200D0118, 32, 0x80, 1, 0x0, [⟨F.POR_C_MOVED_MOVED, 0, .ro⟩]⟩,
    ⟨0x200D011C, 32, 0x80, 1, 0x0, [⟨F.POR_C_LOOPS_LC1, 16, .ro⟩, ⟨F.POR_C_LOOPS_LC0, 0, .ro⟩]⟩,
    ⟨0x200D0120, 32, 0x80, 1, 0x0, [⟨F.POR_C_ERR_ADDR_LO_ADDR, 0, .ro⟩]⟩,
    ⟨0x200D0124, 32, 0x80, 1, 0x0, [⟨F.POR_C_ERR_ADDR_HI_ADDR, 0, .ro⟩]⟩,
    ⟨0x200D0128, 32, 0x80, 1, 0x0, [⟨F.POR_C_NOTIFY_VALUE, 0, .ro⟩]⟩,
    ⟨0x200D0140, 32, 0x80, 8, 0x8, [⟨F.POR_C_PARAM_LO_VALUE, 0, .rwo⟩]⟩,
    ⟨0x200D0144, 32, 0x80, 8, 0x8, [⟨F.POR_C_PARAM_HI_VALUE, 0, .rwo⟩]⟩ ]

/-- The HIF registers. -/
def hif : List RegRow :=
  [ ⟨0x200E0000, 1, 0x0, 1, 0x0, [⟨F.HIF_ID_BLOCK, 16, .ro⟩, ⟨F.HIF_ID_VERSION, 0, .ro⟩]⟩,
    ⟨0x200E0004, 1, 0x0, 1, 0x0, [⟨F.HIF_LINK_STATE, 8, .ro⟩, ⟨F.HIF_LINK_RATE, 4, .ro⟩, ⟨F.HIF_LINK_WIDTH, 0, .ro⟩]⟩,
    ⟨0x200E0008, 1, 0x0, 1, 0x0, [⟨F.HIF_LANES_REVERSED, 8, .ro⟩, ⟨F.HIF_LANES_FAILED, 0, .ro⟩]⟩,
    ⟨0x200E000C, 1, 0x0, 1, 0x0, [⟨F.HIF_AER_CE_COUNT, 0, .ro⟩]⟩,
    ⟨0x200E0010, 1, 0x0, 1, 0x0, [⟨F.HIF_AER_UE_COUNT, 0, .ro⟩]⟩,
    ⟨0x200E0020, 1, 0x0, 1, 0x0, [⟨F.HIF_INT_STAT_UE, 3, .w1c⟩, ⟨F.HIF_INT_STAT_DEGRADE, 2, .w1c⟩, ⟨F.HIF_INT_STAT_RESET, 1, .w1c⟩, ⟨F.HIF_INT_STAT_LINK, 0, .w1c⟩]⟩,
    ⟨0x200E0024, 1, 0x0, 1, 0x0, [⟨F.HIF_INT_EN_UE, 3, .rw⟩, ⟨F.HIF_INT_EN_DEGRADE, 2, .rw⟩, ⟨F.HIF_INT_EN_RESET, 1, .rw⟩, ⟨F.HIF_INT_EN_LINK, 0, .rw⟩]⟩,
    ⟨0x200E1000, 16, 0x20, 1, 0x0, [⟨F.HIF_RING_BASE_LO_ADDR, 6, .rwo⟩]⟩,
    ⟨0x200E1004, 16, 0x20, 1, 0x0, [⟨F.HIF_RING_BASE_HI_ADDR, 0, .rwo⟩]⟩,
    ⟨0x200E1008, 16, 0x20, 1, 0x0, [⟨F.HIF_RING_CFG_ENABLE, 31, .rw⟩, ⟨F.HIF_RING_CFG_IEN, 30, .rwo⟩, ⟨F.HIF_RING_CFG_VECTOR, 16, .rwo⟩, ⟨F.HIF_RING_CFG_LOG2, 0, .rwo⟩]⟩,
    ⟨0x200E100C, 16, 0x20, 1, 0x0, [⟨F.HIF_RING_HEAD_HEAD, 0, .rw⟩]⟩,
    ⟨0x200E1010, 16, 0x20, 1, 0x0, [⟨F.HIF_RING_TAIL_PHASE, 16, .ro⟩, ⟨F.HIF_RING_TAIL_TAIL, 0, .ro⟩]⟩,
    ⟨0x200E1014, 16, 0x20, 1, 0x0, [⟨F.HIF_RING_STAT_WAITING, 16, .ro⟩, ⟨F.HIF_RING_STAT_CFG_IGN, 1, .w1c⟩, ⟨F.HIF_RING_STAT_HEAD_BAD, 0, .w1c⟩]⟩,
    ⟨0x200E1200, 1, 0x0, 1, 0x0, [⟨F.HIF_ASYNC_CFG_EN, 31, .rw⟩, ⟨F.HIF_ASYNC_CFG_VECTOR, 0, .rw⟩]⟩,
    ⟨0x200E1204, 1, 0x0, 1, 0x0, [⟨F.HIF_ASYNC_CAUSE_CAUSE, 0, .w1c⟩]⟩ ]

/-- The TWN registers. -/
def twn : List RegRow :=
  [ ⟨0x200F0000, 1, 0x0, 1, 0x0, [⟨F.TWN_ID_BLOCK, 16, .ro⟩, ⟨F.TWN_ID_VERSION, 0, .ro⟩]⟩,
    ⟨0x200F0004, 1, 0x0, 1, 0x0, [⟨F.TWN_CTRL_PAUSE, 0, .rw⟩]⟩,
    ⟨0x200F0008, 1, 0x0, 1, 0x0, [⟨F.TWN_ACCEPTED_COUNT, 0, .ro⟩]⟩,
    ⟨0x200F000C, 1, 0x0, 1, 0x0, [⟨F.TWN_REFUSED_COUNT, 0, .ro⟩]⟩,
    ⟨0x200F0010, 1, 0x0, 1, 0x0, [⟨F.TWN_IGNORED_COUNT, 0, .ro⟩]⟩,
    ⟨0x200F0014, 1, 0x0, 1, 0x0, [⟨F.TWN_EARLY_COUNT, 0, .ro⟩]⟩,
    ⟨0x200F0020, 8, 0x4, 1, 0x0, [⟨F.TWN_BUSY_MASK, 0, .ro⟩]⟩,
    ⟨0x200F0040, 1, 0x0, 1, 0x0, [⟨F.TWN_INT_STAT_RING_FULL, 2, .w1c⟩, ⟨F.TWN_INT_STAT_HEAD_BAD, 1, .w1c⟩, ⟨F.TWN_INT_STAT_IGNORED, 0, .w1c⟩]⟩,
    ⟨0x200F0044, 1, 0x0, 1, 0x0, [⟨F.TWN_INT_EN_RING_FULL, 2, .rw⟩, ⟨F.TWN_INT_EN_HEAD_BAD, 1, .rw⟩, ⟨F.TWN_INT_EN_IGNORED, 0, .rw⟩]⟩ ]

/-- The DRV registers. -/
def drv : List RegRow :=
  [ ⟨0x20100000, 1, 0x0, 1, 0x0, [⟨F.DRV_ID_BLOCK, 16, .ro⟩, ⟨F.DRV_ID_VERSION, 0, .ro⟩]⟩,
    ⟨0x20100004, 1, 0x0, 1, 0x0, [⟨F.DRV_STAT_FORMATTED, 7, .ro⟩, ⟨F.DRV_STAT_RESTORED, 6, .ro⟩, ⟨F.DRV_STAT_CKPT, 5, .ro⟩, ⟨F.DRV_STAT_CLEANING, 4, .ro⟩, ⟨F.DRV_STAT_WRITES_HELD, 3, .ro⟩, ⟨F.DRV_STAT_SPEED_HOLD, 2, .ro⟩, ⟨F.DRV_STAT_MAP_FULL, 1, .ro⟩, ⟨F.DRV_STAT_DISPATCHING, 0, .ro⟩]⟩,
    ⟨0x20100008, 1, 0x0, 1, 0x0, [⟨F.DRV_CONTEXTS_IN_USE, 0, .ro⟩]⟩,
    ⟨0x2010000C, 1, 0x0, 1, 0x0, [⟨F.DRV_LOCKS_IN_USE, 0, .ro⟩]⟩,
    ⟨0x20100010, 1, 0x0, 1, 0x0, [⟨F.DRV_MAP_LIMIT, 16, .ro⟩, ⟨F.DRV_MAP_ENTRIES, 0, .ro⟩]⟩,
    ⟨0x20100014, 1, 0x0, 1, 0x0, [⟨F.DRV_BANDS_FREE, 16, .ro⟩, ⟨F.DRV_BANDS_OPEN, 0, .ro⟩]⟩,
    ⟨0x20100018, 1, 0x0, 1, 0x0, [⟨F.DRV_TAIL_BYTES, 0, .ro⟩]⟩,
    ⟨0x20100020, 1, 0x0, 1, 0x0, [⟨F.DRV_SEQ_LO_VALUE, 0, .ro⟩]⟩,
    ⟨0x20100024, 1, 0x0, 1, 0x0, [⟨F.DRV_SEQ_HI_VALUE, 0, .ro⟩]⟩,
    ⟨0x20100028, 1, 0x0, 1, 0x0, [⟨F.DRV_JSEQ_LO_VALUE, 0, .ro⟩]⟩,
    ⟨0x2010002C, 1, 0x0, 1, 0x0, [⟨F.DRV_JSEQ_HI_VALUE, 0, .ro⟩]⟩,
    ⟨0x20100030, 4, 0x4, 1, 0x0, [⟨F.DRV_A_STAT_PIECES, 16, .ro⟩, ⟨F.DRV_A_STAT_BUSY, 7, .ro⟩, ⟨F.DRV_A_STAT_PAIRED, 6, .ro⟩, ⟨F.DRV_A_STAT_CH, 4, .ro⟩, ⟨F.DRV_A_STAT_LAST, 0, .ro⟩]⟩,
    ⟨0x20100040, 1, 0x0, 1, 0x0, [⟨F.DRV_RUNG3_COUNT, 0, .ro⟩]⟩,
    ⟨0x20100044, 1, 0x0, 1, 0x0, [⟨F.DRV_RUNG4_COUNT, 0, .ro⟩]⟩,
    ⟨0x20100080, 1, 0x0, 1, 0x0, [⟨F.DRV_INT_STAT_LOST, 3, .w1c⟩, ⟨F.DRV_INT_STAT_SURFACE, 2, .w1c⟩, ⟨F.DRV_INT_STAT_HELD, 1, .w1c⟩, ⟨F.DRV_INT_STAT_RESTORED, 0, .w1c⟩]⟩,
    ⟨0x20100084, 1, 0x0, 1, 0x0, [⟨F.DRV_INT_EN_LOST, 3, .rw⟩, ⟨F.DRV_INT_EN_SURFACE, 2, .rw⟩, ⟨F.DRV_INT_EN_HELD, 1, .rw⟩, ⟨F.DRV_INT_EN_RESTORED, 0, .rw⟩]⟩ ]

/-- The TAL registers. -/
def tal : List RegRow :=
  [ ⟨0x20110000, 1, 0x0, 1, 0x0, [⟨F.TAL_ID_BLOCK, 16, .ro⟩, ⟨F.TAL_ID_VERSION, 0, .ro⟩]⟩,
    ⟨0x20110004, 1, 0x0, 1, 0x0, [⟨F.TAL_STAT_RESULT, 6, .ro⟩, ⟨F.TAL_STAT_BUSY, 5, .ro⟩, ⟨F.TAL_STAT_DEBUG, 4, .ro⟩, ⟨F.TAL_STAT_LOST_PERM, 3, .ro⟩, ⟨F.TAL_STAT_NV_FAULT, 2, .w1c⟩, ⟨F.TAL_STAT_TAMPER, 1, .ro⟩, ⟨F.TAL_STAT_ROOT_LOCK, 0, .ro⟩]⟩,
    ⟨0x20110008, 1, 0x0, 1, 0x0, [⟨F.TAL_BOOT_COUNT_VALUE, 0, .ro⟩]⟩,
    ⟨0x2011000C, 1, 0x0, 1, 0x0, [⟨F.TAL_INDEX_VALUE, 0, .ro⟩]⟩,
    ⟨0x20110010, 1, 0x0, 1, 0x0, [⟨F.TAL_ENTRIES_DROPPED, 16, .ro⟩, ⟨F.TAL_ENTRIES_STORED, 0, .ro⟩]⟩,
    ⟨0x20110014, 1, 0x0, 1, 0x0, [⟨F.TAL_SVN_FLOOR_FLOOR, 0, .ro⟩]⟩,
    ⟨0x20110018, 1, 0x0, 1, 0x0, [⟨F.TAL_KEY_EPOCH_EPOCH, 0, .ro⟩]⟩,
    ⟨0x2011001C, 1, 0x0, 1, 0x0, [⟨F.TAL_MIRROR_BEHIND, 0, .ro⟩]⟩,
    ⟨0x20110020, 1, 0x0, 1, 0x0, [⟨F.TAL_APPEND_GO, 31, .wo⟩, ⟨F.TAL_APPEND_KIND, 0, .rw⟩]⟩,
    ⟨0x20110024, 1, 0x0, 1, 0x0, [⟨F.TAL_SEL_INDEX, 0, .rw⟩]⟩,
    ⟨0x20110040, 16, 0x4, 1, 0x0, [⟨F.TAL_MEASURE_BYTES, 0, .ro⟩]⟩,
    ⟨0x20110080, 16, 0x4, 1, 0x0, [⟨F.TAL_ROOT_BYTES, 0, .ro⟩]⟩,
    ⟨0x201100C0, 16, 0x4, 1, 0x0, [⟨F.TAL_LAST_BYTES, 0, .ro⟩]⟩,
    ⟨0x20110100, 16, 0x4, 1, 0x0, [⟨F.TAL_PAYLOAD_BYTES, 0, .rw⟩]⟩,
    ⟨0x20110180, 1, 0x0, 1, 0x0, [⟨F.TAL_INT_STAT_NV, 2, .w1c⟩, ⟨F.TAL_INT_STAT_REFUSED, 1, .w1c⟩, ⟨F.TAL_INT_STAT_DONE, 0, .w1c⟩]⟩,
    ⟨0x20110184, 1, 0x0, 1, 0x0, [⟨F.TAL_INT_EN_NV, 2, .rw⟩, ⟨F.TAL_INT_EN_REFUSED, 1, .rw⟩, ⟨F.TAL_INT_EN_DONE, 0, .rw⟩]⟩,
    ⟨0x20110200, 128, 0x4, 1, 0x0, [⟨F.TAL_ENTRY_BYTES, 0, .ro⟩]⟩ ]

/-- The SEA registers. -/
def sea : List RegRow :=
  [ ⟨0x20120000, 1, 0x0, 1, 0x0, [⟨F.SEA_ID_BLOCK, 16, .ro⟩, ⟨F.SEA_ID_VERSION, 0, .ro⟩]⟩,
    ⟨0x20120004, 1, 0x0, 1, 0x0, [⟨F.SEA_STAT_JOB, 8, .ro⟩, ⟨F.SEA_STAT_SUSPENDED, 4, .ro⟩, ⟨F.SEA_STAT_ACTIVE, 3, .ro⟩, ⟨F.SEA_STAT_CLASS, 1, .ro⟩, ⟨F.SEA_STAT_HOLD_APPENDS, 0, .ro⟩]⟩,
    ⟨0x20120008, 1, 0x0, 1, 0x0, [⟨F.SEA_JOB_GO, 31, .wo⟩, ⟨F.SEA_JOB_FINISH, 30, .wo⟩, ⟨F.SEA_JOB_WR_IGN, 29, .w1c⟩, ⟨F.SEA_JOB_INLEN_LAST, 16, .rwo⟩, ⟨F.SEA_JOB_L64, 13, .rwo⟩, ⟨F.SEA_JOB_KEYLEN, 7, .rwo⟩, ⟨F.SEA_JOB_CUSTLEN, 3, .rwo⟩]⟩,
    ⟨0x2012000C, 1, 0x0, 1, 0x0, [⟨F.SEA_CUST_LO_BYTES, 0, .rwo⟩]⟩,
    ⟨0x20120010, 1, 0x0, 1, 0x0, [⟨F.SEA_CUST_HI_BYTES, 0, .rwo⟩]⟩,
    ⟨0x20120018, 1, 0x0, 1, 0x0, [⟨F.SEA_DATA_BYTES, 0, .wo⟩]⟩,
    ⟨0x20120020, 1, 0x0, 1, 0x0, [⟨F.SEA_COUNT_COUNT, 0, .ro⟩]⟩,
    ⟨0x20120024, 1, 0x0, 1, 0x0, [⟨F.SEA_DISAGREE_COUNT, 0, .ro⟩]⟩,
    ⟨0x20120040, 16, 0x4, 1, 0x0, [⟨F.SEA_KEY_BYTES, 0, .wo⟩]⟩,
    ⟨0x20120080, 16, 0x4, 1, 0x0, [⟨F.SEA_RESULT_BYTES, 0, .ro⟩]⟩,
    ⟨0x201200C0, 1, 0x0, 1, 0x0, [⟨F.SEA_INT_STAT_DISAGREE, 1, .w1c⟩, ⟨F.SEA_INT_STAT_DONE, 0, .w1c⟩]⟩,
    ⟨0x201200C4, 1, 0x0, 1, 0x0, [⟨F.SEA_INT_EN_DISAGREE, 1, .rw⟩, ⟨F.SEA_INT_EN_DONE, 0, .rw⟩]⟩ ]

/-- The PRS registers. -/
def prs : List RegRow :=
  [ ⟨0x20130000, 1, 0x0, 1, 0x0, [⟨F.PRS_ID_BLOCK, 16, .ro⟩, ⟨F.PRS_ID_VERSION, 0, .ro⟩]⟩,
    ⟨0x20130004, 1, 0x0, 1, 0x0, [⟨F.PRS_STAT_REMAIN_S, 16, .ro⟩, ⟨F.PRS_STAT_TAMPER, 6, .ro⟩, ⟨F.PRS_STAT_LOOP_OPEN, 5, .ro⟩, ⟨F.PRS_STAT_LOOP_FITTED, 4, .ro⟩, ⟨F.PRS_STAT_REARM_WAIT, 3, .ro⟩, ⟨F.PRS_STAT_JUMPER, 2, .ro⟩, ⟨F.PRS_STAT_PRESENT, 1, .ro⟩]⟩,
    ⟨0x20130008, 1, 0x0, 1, 0x0, [⟨F.PRS_HOLD_MS, 0, .ro⟩]⟩,
    ⟨0x2013000C, 1, 0x0, 1, 0x0, [⟨F.PRS_COUNT_OPENINGS, 16, .ro⟩, ⟨F.PRS_COUNT_PRESENCES, 0, .ro⟩]⟩,
    ⟨0x20130010, 1, 0x0, 1, 0x0, [⟨F.PRS_LOOP_MISMATCH, 16, .ro⟩]⟩,
    ⟨0x20130014, 1, 0x0, 1, 0x0, [⟨F.PRS_CTRL_REVOKE, 0, .wo⟩]⟩,
    ⟨0x20130020, 1, 0x0, 1, 0x0, [⟨F.PRS_INT_STAT_TAMPER, 2, .w1c⟩, ⟨F.PRS_INT_STAT_ENDED, 1, .w1c⟩, ⟨F.PRS_INT_STAT_PRESENT, 0, .w1c⟩]⟩,
    ⟨0x20130024, 1, 0x0, 1, 0x0, [⟨F.PRS_INT_EN_TAMPER, 2, .rw⟩, ⟨F.PRS_INT_EN_ENDED, 1, .rw⟩, ⟨F.PRS_INT_EN_PRESENT, 0, .rw⟩]⟩ ]

/-- The WAT registers. -/
def wat : List RegRow :=
  [ ⟨0x20140000, 1, 0x0, 1, 0x0, [⟨F.WAT_ID_BLOCK, 16, .ro⟩, ⟨F.WAT_ID_VERSION, 0, .ro⟩]⟩,
    ⟨0x20140004, 1, 0x0, 1, 0x0, [⟨F.WAT_STAT_PENDING, 16, .ro⟩, ⟨F.WAT_STAT_REG_FAULT, 4, .ro⟩, ⟨F.WAT_STAT_SAFE, 3, .ro⟩, ⟨F.WAT_STAT_PULSE, 2, .ro⟩, ⟨F.WAT_STAT_FAULTN_LOW, 1, .ro⟩]⟩,
    ⟨0x20140008, 1, 0x0, 1, 0x0, [⟨F.WAT_CTRL_FORCE_SAFE, 0, .wo⟩]⟩,
    ⟨0x2014000C, 1, 0x0, 1, 0x0, [⟨F.WAT_FAULTN_LEVEL, 0, .rw⟩]⟩,
    ⟨0x20140010, 1, 0x0, 1, 0x0, [⟨F.WAT_COUNT_C_COUNT, 0, .ro⟩]⟩,
    ⟨0x20140014, 1, 0x0, 1, 0x0, [⟨F.WAT_COUNT_U_COUNT, 0, .ro⟩]⟩,
    ⟨0x20140018, 1, 0x0, 1, 0x0, [⟨F.WAT_COUNT_F_COUNT, 0, .ro⟩]⟩,
    ⟨0x2014001C, 1, 0x0, 1, 0x0, [⟨F.WAT_DROP_COUNT, 0, .ro⟩]⟩,
    ⟨0x20140020, 1, 0x0, 1, 0x0, [⟨F.WAT_CORES_FENCED, 0, .ro⟩]⟩,
    ⟨0x20140024, 4, 0x4, 1, 0x0, [⟨F.WAT_KICK_KICK, 0, .wo⟩]⟩,
    ⟨0x20140034, 1, 0x0, 1, 0x0, [⟨F.WAT_WDOG_MS, 0, .ro⟩]⟩,
    ⟨0x20140040, 1, 0x0, 1, 0x0, [⟨F.WAT_HIST_PTR_TOTAL, 16, .ro⟩, ⟨F.WAT_HIST_PTR_NEWEST, 8, .ro⟩, ⟨F.WAT_HIST_PTR_ENTRIES, 0, .ro⟩]⟩,
    ⟨0x20140080, 1, 0x0, 1, 0x0, [⟨F.WAT_INT_STAT_DROP, 3, .w1c⟩, ⟨F.WAT_INT_STAT_CORE, 2, .w1c⟩, ⟨F.WAT_INT_STAT_UF, 1, .w1c⟩, ⟨F.WAT_INT_STAT_C, 0, .w1c⟩]⟩,
    ⟨0x20140084, 1, 0x0, 1, 0x0, [⟨F.WAT_INT_EN_DROP, 3, .rw⟩, ⟨F.WAT_INT_EN_CORE, 2, .rw⟩, ⟨F.WAT_INT_EN_UF, 1, .rw⟩, ⟨F.WAT_INT_EN_C, 0, .rw⟩]⟩,
    ⟨0x20140100, 16, 0x10, 4, 0x4, [⟨F.WAT_HIST_BYTES, 0, .ro⟩]⟩ ]

/-- The DBK registers. -/
def dbk : List RegRow :=
  [ ⟨0x20150000, 1, 0x0, 1, 0x0, [⟨F.DBK_ID_BLOCK, 16, .ro⟩, ⟨F.DBK_ID_VERSION, 0, .ro⟩]⟩,
    ⟨0x20150004, 1, 0x0, 1, 0x0, [⟨F.DBK_STAT_WIN_BUSY, 31, .ro⟩, ⟨F.DBK_STAT_FROZEN, 30, .ro⟩, ⟨F.DBK_STAT_BUDGET_EMPTY, 29, .ro⟩, ⟨F.DBK_STAT_RECORDS, 0, .ro⟩]⟩,
    ⟨0x20150008, 1, 0x0, 1, 0x0, [⟨F.DBK_CTRL_NEXT, 1, .wo⟩, ⟨F.DBK_CTRL_FREEZE, 0, .rw⟩]⟩,
    ⟨0x2015000C, 1, 0x0, 1, 0x0, [⟨F.DBK_CAP_RETIRED, 16, .ro⟩, ⟨F.DBK_CAP_CAPACITY, 0, .ro⟩]⟩,
    ⟨0x20150010, 1, 0x0, 1, 0x0, [⟨F.DBK_SEQ_LO_SEQ, 0, .ro⟩]⟩,
    ⟨0x20150014, 1, 0x0, 1, 0x0, [⟨F.DBK_SEQ_HI_SEQ, 0, .ro⟩]⟩,
    ⟨0x20150018, 1, 0x0, 1, 0x0, [⟨F.DBK_CURSOR_LO_CURSOR, 0, .rw⟩]⟩,
    ⟨0x2015001C, 1, 0x0, 1, 0x0, [⟨F.DBK_CURSOR_HI_CURSOR, 0, .rw⟩]⟩,
    ⟨0x20150020, 1, 0x0, 1, 0x0, [⟨F.DBK_WIN_SEQ_LO_SEQ, 0, .ro⟩]⟩,
    ⟨0x20150024, 1, 0x0, 1, 0x0, [⟨F.DBK_WIN_SEQ_HI_VALID, 31, .ro⟩, ⟨F.DBK_WIN_SEQ_HI_SEQ, 0, .ro⟩]⟩,
    ⟨0x20150028, 1, 0x0, 1, 0x0, [⟨F.DBK_OPSEC_SECONDS, 0, .ro⟩]⟩,
    ⟨0x2015002C, 1, 0x0, 1, 0x0, [⟨F.DBK_PCYCLES_CYCLES, 0, .ro⟩]⟩,
    ⟨0x20150030, 1, 0x0, 1, 0x0, [⟨F.DBK_LOST_A_SEV1, 16, .ro⟩, ⟨F.DBK_LOST_A_SEV0, 0, .ro⟩]⟩,
    ⟨0x20150034, 1, 0x0, 1, 0x0, [⟨F.DBK_LOST_B_SEV3, 16, .ro⟩, ⟨F.DBK_LOST_B_SEV2, 0, .ro⟩]⟩,
    ⟨0x20150038, 1, 0x0, 1, 0x0, [⟨F.DBK_FROZEN_SEV4, 24, .ro⟩, ⟨F.DBK_FROZEN_SEV3, 16, .ro⟩, ⟨F.DBK_FROZEN_SEV2, 8, .ro⟩, ⟨F.DBK_FROZEN_SEV01, 0, .ro⟩]⟩,
    ⟨0x2015003C, 1, 0x0, 1, 0x0, [⟨F.DBK_BUDGET_TOKENS, 16, .ro⟩, ⟨F.DBK_BUDGET_STARVED, 0, .ro⟩]⟩,
    ⟨0x20150040, 8, 0x4, 1, 0x0, [⟨F.DBK_WIN_BYTES, 0, .ro⟩]⟩,
    ⟨0x20150060, 1, 0x0, 1, 0x0, [⟨F.DBK_INT_STAT_ROW, 3, .w1c⟩, ⟨F.DBK_INT_STAT_FREEZE_END, 2, .w1c⟩, ⟨F.DBK_INT_STAT_BUDGET, 1, .w1c⟩, ⟨F.DBK_INT_STAT_LOST, 0, .w1c⟩]⟩,
    ⟨0x20150064, 1, 0x0, 1, 0x0, [⟨F.DBK_INT_EN_ROW, 3, .rw⟩, ⟨F.DBK_INT_EN_FREEZE_END, 2, .rw⟩, ⟨F.DBK_INT_EN_BUDGET, 1, .rw⟩, ⟨F.DBK_INT_EN_LOST, 0, .rw⟩]⟩ ]

/-- The THM registers. -/
def thm : List RegRow :=
  [ ⟨0x20160000, 1, 0x0, 1, 0x0, [⟨F.THM_ID_BLOCK, 16, .ro⟩, ⟨F.THM_ID_VERSION, 0, .ro⟩]⟩,
    ⟨0x20160004, 1, 0x0, 1, 0x0, [⟨F.THM_STAT_TRIP, 6, .ro⟩, ⟨F.THM_STAT_ENC_HOLD, 5, .ro⟩, ⟨F.THM_STAT_GUARD, 4, .ro⟩, ⟨F.THM_STAT_LEARNING, 3, .ro⟩, ⟨F.THM_STAT_STEP, 0, .ro⟩]⟩,
    ⟨0x20160008, 1, 0x0, 1, 0x0, [⟨F.THM_MAX_VALID, 31, .ro⟩, ⟨F.THM_MAX_TEMP, 0, .ro⟩]⟩,
    ⟨0x2016000C, 1, 0x0, 1, 0x0, [⟨F.THM_ENC_VALID, 31, .ro⟩, ⟨F.THM_ENC_TEMP, 0, .ro⟩]⟩,
    ⟨0x20160010, 1, 0x0, 1, 0x0, [⟨F.THM_VALID_DROPPED, 16, .ro⟩, ⟨F.THM_VALID_VALID, 0, .ro⟩]⟩,
    ⟨0x20160014, 1, 0x0, 1, 0x0, [⟨F.THM_LIMITS_STREAMS, 16, .ro⟩, ⟨F.THM_LIMITS_SEEK_PCT, 8, .ro⟩, ⟨F.THM_LIMITS_GLOBAL_CAP, 4, .ro⟩]⟩,
    ⟨0x20160018, 1, 0x0, 1, 0x0, [⟨F.THM_AT_RISK_LO_MASK, 0, .ro⟩]⟩,
    ⟨0x2016001C, 1, 0x0, 1, 0x0, [⟨F.THM_AT_RISK_HI_MASK, 0, .ro⟩]⟩,
    ⟨0x20160040, 14, 0x4, 1, 0x0, [⟨F.THM_SENSOR_VALID, 31, .ro⟩, ⟨F.THM_SENSOR_DROPPED, 30, .ro⟩, ⟨F.THM_SENSOR_TEMP, 0, .ro⟩]⟩,
    ⟨0x20160080, 1, 0x0, 1, 0x0, [⟨F.THM_INT_STAT_RISK, 2, .w1c⟩, ⟨F.THM_INT_STAT_SENSOR, 1, .w1c⟩, ⟨F.THM_INT_STAT_STEP, 0, .w1c⟩]⟩,
    ⟨0x20160084, 1, 0x0, 1, 0x0, [⟨F.THM_INT_EN_RISK, 2, .rw⟩, ⟨F.THM_INT_EN_SENSOR, 1, .rw⟩, ⟨F.THM_INT_EN_STEP, 0, .rw⟩]⟩ ]

/-- The PIO registers. -/
def pio : List RegRow :=
  [ ⟨0x20170000, 1, 0x0, 1, 0x0, [⟨F.PIO_ID_BLOCK, 16, .ro⟩, ⟨F.PIO_ID_VERSION, 0, .ro⟩]⟩,
    ⟨0x20170004, 1, 0x0, 1, 0x0, [⟨F.PIO_GPIO_FN_FN7, 28, .rw⟩, ⟨F.PIO_GPIO_FN_FN6, 24, .rw⟩, ⟨F.PIO_GPIO_FN_FN5, 20, .rw⟩, ⟨F.PIO_GPIO_FN_FN4, 16, .rw⟩, ⟨F.PIO_GPIO_FN_FN3, 12, .rw⟩, ⟨F.PIO_GPIO_FN_FN2, 8, .rw⟩, ⟨F.PIO_GPIO_FN_FN1, 4, .rw⟩, ⟨F.PIO_GPIO_FN_FN0, 0, .rw⟩]⟩,
    ⟨0x20170008, 1, 0x0, 1, 0x0, [⟨F.PIO_GPIO_OUT_LEVEL, 0, .rw⟩]⟩,
    ⟨0x2017000C, 1, 0x0, 1, 0x0, [⟨F.PIO_GPIO_IN_LEVEL, 0, .ro⟩]⟩,
    ⟨0x20170010, 1, 0x0, 1, 0x0, [⟨F.PIO_GPIO_PULL_UP, 8, .rw⟩, ⟨F.PIO_GPIO_PULL_DOWN, 0, .rw⟩]⟩,
    ⟨0x20170020, 1, 0x0, 1, 0x0, [⟨F.PIO_UART_CFG_EN, 31, .rw⟩, ⟨F.PIO_UART_CFG_DIV_INT, 4, .rw⟩, ⟨F.PIO_UART_CFG_DIV_FRAC, 0, .rw⟩]⟩,
    ⟨0x20170024, 1, 0x0, 1, 0x0, [⟨F.PIO_UART_STAT_RX_LEVEL, 16, .ro⟩, ⟨F.PIO_UART_STAT_TX_LEVEL, 8, .ro⟩, ⟨F.PIO_UART_STAT_TX_DROP, 3, .w1c⟩, ⟨F.PIO_UART_STAT_FRAME_ERR, 2, .w1c⟩, ⟨F.PIO_UART_STAT_OVERRUN, 1, .w1c⟩]⟩,
    ⟨0x20170028, 1, 0x0, 1, 0x0, [⟨F.PIO_UART_TX_DATA, 0, .wo⟩]⟩,
    ⟨0x2017002C, 1, 0x0, 1, 0x0, [⟨F.PIO_UART_RX_VALID, 31, .ro⟩, ⟨F.PIO_UART_RX_DATA, 0, .ro⟩]⟩,
    ⟨0x20170030, 1, 0x0, 1, 0x0, [⟨F.PIO_UART_POP_POP, 0, .wo⟩]⟩,
    ⟨0x20170040, 1, 0x0, 1, 0x0, [⟨F.PIO_INT_STAT_WR_IGN, 3, .w1c⟩, ⟨F.PIO_INT_STAT_ERR, 2, .w1c⟩, ⟨F.PIO_INT_STAT_TX_EMPTY, 1, .w1c⟩, ⟨F.PIO_INT_STAT_RX, 0, .w1c⟩]⟩,
    ⟨0x20170044, 1, 0x0, 1, 0x0, [⟨F.PIO_INT_EN_WR_IGN, 3, .rw⟩, ⟨F.PIO_INT_EN_ERR, 2, .rw⟩, ⟨F.PIO_INT_EN_TX_EMPTY, 1, .rw⟩, ⟨F.PIO_INT_EN_RX, 0, .rw⟩]⟩ ]

/-- The rows of the block whose 64 KiB region is number `n` (01 R17). -/
def block : Nat → List RegRow
  | 0 => clk
  | 1 => cfg
  | 2 => mod
  | 3 => mil
  | 4 => shp
  | 5 => lpe
  | 6 => rch
  | 7 => det
  | 8 => wch
  | 9 => grn
  | 10 => ddr
  | 11 => mcc
  | 12 => srm
  | 13 => por
  | 14 => hif
  | 15 => twn
  | 16 => drv
  | 17 => tal
  | 18 => sea
  | 19 => prs
  | 20 => wat
  | 21 => dbk
  | 22 => thm
  | 23 => pio
  | _ => []

end Sys2Proof.Machine.Layout
end

