-- ==== Sys2Proof/Config.lean ====
section
/-! DEFINITION. The values the spec leaves open or leaves to each part: each is an opaque constant with no body, applied to
plain data, so that nothing in Lean can know it (assumption log entries 5 and 6). -/

namespace Sys2Proof.Config

/-- A value the spec leaves open where the machine goes on: applied to the running number `Dev.freeCount`. -/
opaque freeValue : Nat → Nat

/-- The observer's gains g_e, k_p, k_i and floor e_min, which the Mill fixes from POLE_PAIRS, R_PHASE, L_PHASE and HANDOVER_RPM and shows in no register
(05 R166). -/
opaque observerGain : Nat → Nat → Nat → Nat → Nat × Nat × Nat × Nat

/-- The last place of a sine (05, field-oriented control). -/
opaque sineRounding : Nat → Nat

/-- The q-axis current, from SP_VM and HARV_VM in mV, that holds SP_VM during the Harvest (05 R186). -/
opaque rectifyCurrent : Nat → Nat → Nat

/-- The coil current, in mA, that drives a VCM in velocity mode from the reference and the measured velocity (tracks/ms and 1/256 of them, signed), the
velocity estimated from VCMn_ISNS and the PWM duty, and the current that holds a load at its constant velocity (06 R224, R238). -/
opaque velocityCurrent : Int → Int → Int
opaque coilVelocity : Int → Int → Int
opaque loadCurrent : Int → Int

/-- The addresses in the data capacity of the lines that the dispatch of a command reads, its context's and those of the map: by its number, its first
LBA and its sectors. The runtime places these structures (12, Capacity; 16 R634). -/
opaque commandLines : Nat → Nat → Nat → List Nat

/-- The bytes of the boot ROM (01 R40, 18 R723). -/
opaque bootRom : Nat → Nat

/-- The bytes of the part's unique device secret and of its serial number (18 R725, R728). -/
opaque uds : Nat → Nat
opaque serial : Nat → Nat

end Sys2Proof.Config
end

