-- ==== Sys2Proof/Machine/State.lean ====
section
/-! DEFINITION. The machine's whole state, as plain data (assumption log entries 1 to 4): the register fields as one sparse
list, and beside it what the blocks hold that no register shows, each with the rule of spec/ that names it. State.reset
is the machine after power is first applied. -/

namespace Sys2Proof.Machine

/-! ### Shared types -/

/-- The six modes (04 R127, R128). -/
inductive Mode where
  | boot | spin | serve | ease | rest | safe
  deriving DecidableEq, Repr

/-- One value of a register field: the field's number, the instance, the value. -/
structure RegCell where
  field : Nat
  inst : Nat
  val : Nat
  deriving DecidableEq, Repr

/-- An event of 00 R14: its code and up to four parameters, unused ones zero (19 R795). -/
structure Event where
  code : Nat
  p0 : Nat := 0
  p1 : Nat := 0
  p2 : Nat := 0
  p3 : Nat := 0
  deriving DecidableEq, Repr

/-! ### Clocks (spec/02) -/

/-- What the clock monitor, the PLL judges and the island and domain sequencers hold beside their registers. -/
structure Clk where
  /-- Reset held until PORST_N is next asserted or VDD_AON is lost (R53, R61). -/
  held : Bool := false
  /-- FAULT_N held low by the holds of R53, R61 and R82 (R786). -/
  faultLow : Bool := false
  /-- Islands outside AON released from reset (text before R62). -/
  released : Bool := false
  /-- Every non-AON island stopped (R82, last row). -/
  stopped : Bool := false
  /-- Waiting for a whole window in the start-up band before learning restarts (R61). -/
  awaitXin : Bool := false
  /-- A start-up vote is due (R54). -/
  voteDue : Bool := false
  /-- Event 0x0102 recorded since PORST_N release (R61). -/
  noted0102 : Bool := false
  /-- Learning windows taken and the sum of their counts (R55). -/
  learnN : Nat := 0
  learnSum : Nat := 0
  /-- The 8 fraction bits of CREF (R57). -/
  crefFrac : Nat := 0
  /-- Consecutive disagreeing tracking windows (R58). -/
  badRun : Nat := 0
  /-- XIN has been declared failed and not requalified (R58, R69). -/
  xinFailed : Bool := false
  /-- Consecutive good windows since XIN failed (R69). -/
  goodRun : Nat := 0
  /-- Good lock-check windows in a row and whether an attempt runs, per PLL (R62, R63). -/
  pllGood : List Nat := [0, 0, 0, 0, 0]
  pllRun : List Bool := [false, false, false, false, false]
  /-- The source an island is switching to (R70); none while it switches to nothing. -/
  swTo : List (Option Nat) := List.replicate 29 none
  /-- A gate request waiting for a switch to complete (R82). -/
  gateAfter : List Bool := List.replicate 29 false
  /-- A power-up waiting for the domain's power-down to complete (R82), per domain. -/
  upAfter : List Bool := List.replicate 10 false
  /-- Domains now draining, one bit each (R78). -/
  draining : Nat := 0
  /-- Port parts gated: RCH parts 0 to 3, then WCH parts 0 to 3 (R882). -/
  parts : List Bool := List.replicate 8 false
  /-- Islands of a draining domain not yet drained, per domain (R78). -/
  drain : List (List Nat) := List.replicate 10 []
  deriving DecidableEq, Repr

/-! ### The configuration (spec/03) -/

/-- A loaded section: TYPE, INSTANCE, FLAGS and its bytes. -/
structure Section where
  typ : Nat
  inst : Nat
  bytes : List Nat
  deriving DecidableEq, Repr

/-- The selector in use (R91): SEQ, ACTIVE and the layout. -/
structure Selector where
  copy : Nat
  seq : Nat
  active : Nat
  slotA : Nat
  slotB : Nat
  slotSize : Nat
  jOff : Nat
  jSize : Nat
  tOff : Nat
  tSize : Nat
  deriving DecidableEq, Repr

/-- Flash bytes that the device has written itself (R90): the `len` bytes from `off` hold `bytes` and, after them, erased bytes. -/
structure FlashRun where
  off : Nat
  len : Nat
  bytes : List Nat
  deriving DecidableEq, Repr

/-- What the configuration loader holds beside its registers. -/
structure Cfg where
  /-- The sections copied to where they run (R102), in directory order. -/
  sections : List Section := []
  sel : Option Selector := none
  /-- XSPI_RST_N has been pulsed and the software reset issued since PORST_N release; the status poll of R89 runs or is done. -/
  flashReset : Bool := false
  /-- The status poll of R89 has ended since PORST_N release. -/
  flashReady : Bool := false
  /-- What FW_DOWNLOAD and FW_ACTIVATE have written to the flash, the latest first; no reset loses it (R90, R94). -/
  flash : List FlashRun := []
  /-- Streams that admission assumes where no policy says: two per actuator fitted, less those fenced at load (R100). -/
  openStreams : Nat := 0
  /-- The flash clock is lowered to 100 MHz for the rest of the load (R104). -/
  slow : Bool := false
  /-- Header and directory bytes kept on die (R107). -/
  dir : List Nat := []
  svn : Nat := 0
  build : Nat := 0
  /-- Built-in training has been done in this BOOT (R111). -/
  trained : Bool := false
  deriving DecidableEq, Repr

/-! ### Modes and Harvest (spec/04) -/

/-- Why a mode change is under way: a mode and, for the REST entry, the step of R135. -/
structure Transit where
  target : Mode
  step : Nat
  cause : Nat
  /-- A STREAM_OPEN was admitted in step 3 or 4 of a REST entry: REST is left at once (R151). -/
  stream : Bool := false
  deriving DecidableEq, Repr

/-- What the mode logic holds beside its registers. -/
structure Mod where
  /-- The one mode (R128), read as MOD_STAT.MODE. -/
  mode : Mode := .boot
  /-- The mode the present warm BOOT was entered from (R129, R134). -/
  bootFrom : Option Mode := none
  /-- A mode change in progress (MOD_STAT.TRANSIT). -/
  transit : Option Transit := none
  /-- BOOT is in recovery hold (03 R112). -/
  recovery : Bool := false
  /-- The self-test has passed or failed since the load (R139). -/
  selfTested : Bool := false
  /-- The boot record has been appended in this BOOT (18 R735). -/
  bootRecorded : Bool := false
  /-- PWRFAIL_N is low at the ball and step 1 of R148 is done. -/
  pwrfailLow : Bool := false
  /-- PWRFAIL_N has risen during the committed Harvest, which restarts the device when done (R151). -/
  restartAfterHarvest : Bool := false
  /-- PORST_N is asserted but held off by the Harvest (R151). -/
  porstHeldOff : Bool := false
  /-- PORST_N has risen again while held off (R151). -/
  porstRose : Bool := false
  /-- The Harvest-started flag of the always-on domain (R149). -/
  harvStarted : Bool := false
  /-- PORST_N is high at the ball, as the filter of R865 takes it. -/
  porstHigh : Bool := false
  /-- Milliseconds since PORST_N release or the warm BOOT began (MOD_SERVE_TIME, R152). -/
  bootMs : Nat := 0
  /-- The free-running millisecond count that commands' times are taken from (16 R651, R701). -/
  clockMs : Nat := 0
  /-- Acknowledged sectors not on the medium at the SAFE decision (R142). -/
  lostAtSafe : Nat := 0
  /-- Actuators whose fencing at servo acquisition in this SPIN is recorded, one bit each (R134, event 0x030D). -/
  fenceNoted : Nat := 0
  /-- SERVE has been reached since BOOT began (event 0x0302). -/
  served : Bool := false
  /-- The parks of the present SAFE entry or Harvest have all ended (R141 step 5, R148 step 8). -/
  parkDone : Bool := false
  deriving DecidableEq, Repr

/-! ### The Mill and the Miller (spec/05) -/

/-- The back-EMF observer's variables (05 R166): the predicted current in µA, the back-EMF in µV, the angle in 2^-32 turn, the speed in 2^-48
turn per PWM period, the residual in µA. -/
structure Observer where
  ia : Int := 0
  ib : Int := 0
  ea : Int := 0
  eb : Int := 0
  w : Int := 0
  th : Nat := 0
  resid : Nat := 0
  deriving DecidableEq, Repr

/-- The zero crossings of the three phases since listening or a short brake began (05 R168, R169, R171): PWM periods passed, each phase's sign and
its peak since its last crossing, the counted crossings (first, last, how many, the last interval, the last one's phase and edge), those in
forward and in backward order. -/
structure Crossings where
  now : Nat := 0
  signs : List (Option Bool) := [none, none, none]
  peaks : List Nat := [0, 0, 0]
  first : Nat := 0
  last : Nat := 0
  count : Nat := 0
  gap : Nat := 0
  phase : Nat := 0
  rising : Bool := false
  forward : Nat := 0
  backward : Nat := 0
  deriving DecidableEq, Repr

/-- What the Mill and the Miller hold beside their registers. -/
structure Mil where
  /-- Overcurrent in each of the last 64 PWM periods, the newest in bit 0 (R159). -/
  ocWindow : Nat := 0
  /-- Consecutive periods with the residual below OBS_RESID, and above it (R166, R167). -/
  lockRun : Nat := 0
  overRun : Nat := 0
  /-- The field-weakening integrator, in 1/25,600 mA (R165). -/
  fwInteg : Int := 0
  /-- The observer (R166). -/
  obs : Observer := {}
  /-- The phases' zero crossings (R168, R171). -/
  cross : Crossings := {}
  /-- The rotor-frame currents of the last period, mA: the measured values of roles 1 and 2 (R162; 08 R297). -/
  idNow : Int := 0
  iqNow : Int := 0
  /-- The high sides' times in the PWM period, ns (R155), and whether the gates are cut for the rest of it (R159). -/
  duty : List Nat := [0, 0, 0]
  cut : Bool := false
  /-- STOPPING brakes regeneratively (R177). -/
  regen : Bool := false
  /-- The q-axis reference outside RUN, mA (R177, R186). -/
  iqRef : Int := 0
  /-- PWM periods in SENSE, and the largest current of each vector direction's pulses, µA (R172, R173). -/
  senseT : Nat := 0
  peaks : List Nat := [0, 0, 0, 0, 0, 0]
  /-- The angle of the current vector in ALIGN and OPEN, 2^-32 turn, and the open-loop speed in 1/1,000 rpm (R172). -/
  openTh : Nat := 0
  openMilli : Nat := 0
  /-- Consecutive PWM periods at HANDOVER_RPM in which the observer agrees with the open loop (R172). -/
  agree : Nat := 0
  /-- Consecutive PWM periods with SP_VM out of range (R204). -/
  vmRun : Nat := 0
  /-- The Shepherds reload the heads once the speed has settled (R183). -/
  reload : Bool := false
  /-- Currents gathered over the present speed-loop period and its PWM periods so far (R162, R206). -/
  iqSum : Int := 0
  idSum : Int := 0
  periods : Nat := 0
  /-- The d-axis reference of the last period, mA (R165, 08 R297). -/
  idRef : Int := 0
  /-- SP_VM at RUN entry, mV (R204). -/
  vmAtRun : Nat := 0
  /-- The rectification mode in force: active or diode (R186). -/
  rectActive : Option Bool := none
  /-- Milliseconds since the start request, and in RAMP and SETTLE (R206, R208). -/
  startMs : Nat := 0
  rampMs : Nat := 0
  /-- Milliseconds in STEADY (R198). -/
  steadyMs : Nat := 0
  /-- The set-point in 1/1,000 rpm (R195). -/
  setMilli : Nat := 0
  /-- The heads were commanded to retract in the present loss (R181, R182). -/
  retracted : Bool := false
  /-- Why the present stop runs: 0 REST, 1 SAFE, 2 re-acquisition (event 0x1012). -/
  stopCause : Nat := 0
  /-- Why the present ramp runs (event 0x100A), and whether it began in PENDING (R194). -/
  rampCause : Nat := 0
  fromPending : Bool := false
  /-- The set-point moves at ACCEL, after a start, a catch or a re-acquisition (R195). -/
  atAccel : Bool := false
  /-- The first target after SPIN has not been reached (event 0x1005). -/
  spinning : Bool := false
  /-- The demand estimate of R189 in 1/65,536. -/
  demand : Nat := 0
  /-- Gas samples since BOOT and the reported density in 1/65,536 of 0.0001 kg/m³ (R200). -/
  gasSamples : Nat := 0
  gasFine : Int := 0
  /-- Samples taken in SERVE since the first BOOT that lacks GAS_BASE, and whether MIL_GAS.BASE came from an image's key (R201). -/
  gasServe : Nat := 0
  gasKey : Bool := false
  /-- The row of R202's table reached in this boot: 0 none, 1 below 0.90, 2 below 0.80. -/
  gasBand : Nat := 0
  /-- The present second of the gas gauge (R198, R199): the q-axis current in µA summed over its PWM periods, their number, and whether the speed has
  left ±0.1 % of the target. -/
  gasIq : Int := 0
  gasN : Nat := 0
  gasOff : Bool := false
  /-- The present second of the Miller (R189): its milliseconds, and those in which each actuator had medium work. -/
  secMs : Nat := 0
  busyMs : List Nat := [0, 0, 0, 0]
  deriving DecidableEq, Repr

/-! ### The Shepherds (spec/06) and their microcode (spec/07) -/

/-- A frame of the preamp serial port, in the priority order of 06 R248. -/
inductive Frame where
  /-- CHk_HEAD is written: channel, head on the actuator. -/
  | headSelect (ch head : Nat)
  /-- CHk_HEAD is read back. -/
  | readBack (ch head : Nat)
  /-- FLT is read after PAn_FLT_N falls. -/
  | fltRead
  /-- The bits read are written back to clear them. -/
  | fltClear (bits : Nat)
  /-- A Loop Engine's heater or laser output. -/
  | loopOut (addr data : Nat)
  /-- The frame of SHP_PA_CMD, as its register read at GO. -/
  | command (read : Bool) (addr data : Nat)
  /-- TEMP is read (R229). -/
  | tempRead
  /-- The head's RD_BIAS or WR_CUR is written after its select (R242). -/
  | calib (addr data : Nat)
  deriving DecidableEq, Repr

/-- A head that drove the inhibit path (06 R235): its channel, the kill net's source, the consecutive valid wedges inside 3 × WFL / 4. -/
structure ShpCause where
  ch : Nat
  src : Nat
  run : Nat
  deriving DecidableEq, Repr

/-- One channel of a Shepherd: its last two valid positions, its microactuator, its settling, its write permission. -/
structure ShpChan where
  /-- Positions of the last two valid wedges, 1/256 track, and how many are known (R215). -/
  p1 : Int := 0
  p2 : Int := 0
  known : Nat := 0
  /-- The velocity from the last two valid wedges, 1/256 track per ms (R224), and the runs of missed wedges and track-ID errors (R221). -/
  vel : Int := 0
  missedRun : Nat := 0
  idErrRun : Nat := 0
  /-- The displacement commanded at the previous wedge (m_h of R226), the bias, the MAn_OUT code and the one before it. -/
  y : Int := 0
  bias : Int := 0
  maOut : Int := 0
  maPrev : Int := 0
  /-- The microactuator compensator's past inputs and outputs. -/
  biquads : List Int := List.replicate 8 0
  /-- Consecutive valid wedges inside the settle limit, and wedges still wanted after a head switch (R225, R232). -/
  settleRun : Nat := 0
  newHead : Nat := 0
  /-- The channel's command: does it move, does it write, has it settled. -/
  moving : Bool := false
  writes : Bool := false
  settled : Bool := false
  /-- Write permission granted (R236, R272). -/
  permit : Bool := false
  /-- Wedges since the last valid one (11 R441), and good wedges counted toward a resume after a shock (R436). -/
  sinceValid : Nat := 0
  shockRun : Nat := 0
  deriving DecidableEq, Repr

/-- A micro-trap frame (07 R278). -/
structure TrapFrame where
  cause : Nat
  waiting : Bool
  z : Bool
  n : Bool
  v : Bool
  sdepth : Nat
  resume : Nat
  deriving DecidableEq, Repr

/-- The microcode machine of one Shepherd (spec/07). -/
structure Uc where
  /-- The micro-words and nanowords stored, from address 0, each with its parity bits above it (R257, R258, R282). -/
  micro : List Nat := []
  nano : List Nat := []
  /-- The microcode runs. -/
  run : Bool := false
  /-- S0 to S27, the three banks of S28 to S31, LC0 to LC2 and the three banks of LC3 (R267). -/
  s : List Nat := List.replicate 28 0
  sBank : List (List Nat) := List.replicate 3 (List.replicate 4 0)
  lc : List Nat := List.replicate 3 0
  lc3 : List Nat := List.replicate 3 0
  z : Bool := false
  n : Bool := false
  v : Bool := false
  /-- The return stack, newest first, and the open trap frames, newest first (R265, R278). -/
  stack : List Nat := []
  frames : List TrapFrame := []
  /-- Latched causes, one bit each (R274), and consecutive overruns per cause (R277). -/
  latch : Nat := 0
  overruns : List Nat := List.replicate 10 0
  /-- The present word is a WAIT still waiting; consecutive HOLD words executed; the last word had HOLD set. -/
  waiting : Bool := false
  holdRun : Nat := 0
  /-- Words that raised a machine check since the BOOT (0 micro, 1 nano, 2 remap table), and the checks' times, ms. -/
  checked : List (Nat × Nat) := []
  checkTimes : List Nat := []
  /-- Logical addresses remapped to spares (R288). -/
  remapMicro : List Nat := []
  remapNano : List Nat := []
  /-- The spares' words, in the order of the entries (R257, R288). -/
  spareMicro : List Nat := []
  spareNano : List Nat := []
  /-- A reload runs; it has already been restarted once; it is complete and waits for the park (R287, R293, R294). -/
  reloading : Bool := false
  restarted : Bool := false
  reloaded : Bool := false
  /-- Stopped by a microcode fault until the next BOOT (R281). -/
  faulted : Bool := false
  deriving DecidableEq, Repr

/-- What one Shepherd holds beside its registers. -/
structure Shp where
  ch : List ShpChan := [{}, {}]
  /-- The last wedge number, the run counts of R221 and R239, the interval estimate J in 1/65,536 of 1.25 ns (R219). -/
  lastWedge : Option Nat := none
  samRun : Nat := 0
  validRun : Nat := 0
  jFine : Nat := 0
  /-- The WSTAT port (07 R270). -/
  wstat : Nat := 0
  /-- Seek timeouts of the present seek, its time in interval units, whether a seek waits for FOLLOW again (R221). -/
  seekTries : Nat := 0
  seekCycles : Nat := 0
  reseek : Bool := false
  /-- Velocity reference of R224, tracks/ms, and the velocity estimate of a load (R238). -/
  vRef : Int := 0
  loadVel : Int := 0
  /-- Milliseconds since acquisition or the park began. -/
  acqMs : Nat := 0
  parkMs : Nat := 0
  parkCause : Nat := 0
  /-- A retract deadline runs: 0 SAFE, 1 Harvest, 2 R181; and the state at the decision (R221, event 0x110E). -/
  retractDue : Option Nat := none
  retractState : Nat := 0
  /-- FENCED once parked; load again once PARKED; a load waits for STEADY. -/
  fenceDue : Bool := false
  reload : Bool := false
  loadWait : Bool := false
  /-- Acquisition has failed three times in this SPIN (04 R134). -/
  fenced : Bool := false
  /-- RETRACT_N was asserted for this actuator. -/
  retracted : Bool := false
  /-- A hardware park runs; a park still moves outward under servo (R240). -/
  hwPark : Bool := false
  parkOut : Bool := false
  /-- The heads that caused the inhibit in force (R235). -/
  causes : List ShpCause := []
  /-- The VCM compensator's state, the speed at the last revolution in 1/16 rpm, the last SHK_ROT samples. -/
  vcmBiquads : List Int := List.replicate 16 0
  /-- The VCM current reference, mA (R226), and the intervals gathered in this revolution with their number (R163). -/
  iRef : Int := 0
  revCycles : Nat := 0
  revWedges : Nat := 0
  revRpm16 : Nat := 0
  rv : List Int := List.replicate 8 0
  /-- The preamp port: the frame in progress, the frames waiting, a read being repeated, the milliseconds since each FLT
  bit was last cleared, whether the clearing write has been sent since the last fall (R246 to R251). -/
  paNow : Option Frame := none
  paWait : List Frame := []
  paRetry : Bool := false
  fltAges : List (Option Nat) := List.replicate 11 none
  clearSent : Bool := false
  /-- The register address of the last write frame sent (event 0x110F). -/
  paLast : Nat := 0
  /-- A temperature has been read or has failed in this BOOT (R229). -/
  tempRead : Bool := false
  /-- A paired command is on the channels: the published |d| is checked against SHP_REACH.PAIR. -/
  paired : Bool := false
  /-- Descriptor word shown at DRV_CMD, the TABLE_ADDR offset, the TIMER port's microseconds (07 R270). -/
  drvSelect : Nat := 0
  tableAddr : Nat := 0
  timer : Nat := 0
  uc : Uc := {}
  deriving DecidableEq, Repr

/-! ### Loop Engines (spec/08) -/

/-- What a role's engine holds beside its registers: I and D as mantissa and exponent (R309), m[n-1] and s[n-1], the clamp of
the last output, the output that takes effect at the next tick (R310). -/
structure Role where
  i : Int × Nat := (0, 0)
  dv : Int × Nat := (0, 0)
  mPrev : Int := 0
  sPrev : Int := 0
  atMax : Bool := false
  atMin : Bool := false
  next : Option Int := none
  /-- A stage has saturated since the loop closed (R306). -/
  satSeen : Bool := false
  /-- The last value sent to the preamp (R299); a close waits for the first measured value (R303). -/
  sent : Option Nat := none
  closeDue : Bool := false
  /-- VCMn_PWM of roles 3 to 6 (21 R862): how many of the period's 4,000 steps of 1.25 ns it is high, and the duty carried on, in 1/32,768 step. -/
  pwmHigh : Nat := 0
  pwmCarry : Nat := 0
  deriving DecidableEq, Repr

/-- The roles; the role of the spare's reference computation under way (R316); the state that the patrolling spare holds of its role and how many
periods it has compared (R315). -/
structure Lpe where
  roles : List Role := List.replicate 23 {}
  testing : Option Nat := none
  shadow : Option Role := none
  shadowTicks : Nat := 0
  deriving DecidableEq, Repr

/-! ### The read front end (spec/09) -/

/-- The adaptive values of a stream, as a snapshot keeps them (R356): GAIN, OFFSET and ASYM of lanes A and B, the taps. -/
structure Adaptive where
  gain : List Nat
  offset : List Nat
  asym : List Nat
  tapA : List Nat
  tapB : List Nat
  deriving DecidableEq, Repr

/-- A lane's flag detector (R344, R345): bits in a row past the threshold, bits in a row within it, bits that the flag has stood. -/
structure FlagRun where
  past : Nat := 0
  within : Nat := 0
  bits : Nat := 0
  deriving DecidableEq, Repr

/-- What a lane holds of an attempt: its last 48 codes, the newest first; its detectors; the sum of |codes| over bits 32 to 95; its codes at an end of
the range, its first code and whether every code was that one (R367). -/
structure Lane where
  hist : List Int := []
  ta : FlagRun := {}
  df : FlagRun := {}
  env : Nat := 0
  full : Nat := 0
  first : Int := 0
  same : Bool := true
  deriving DecidableEq, Repr

/-- What a stream unit holds beside its registers. -/
structure Fe where
  /-- A seeding is due at the next sector start: of the zone values (R354) and of the loop values (R355). -/
  seedDue : Bool := true
  loopDue : Bool := true
  /-- The snapshot, and the cause of a restore due at the next sector start (R356, R368). -/
  snap : Option Adaptive := none
  restoreDue : Option Nat := none
  /-- KC, C_REF and G_REF of the seeded zone entry (R360). -/
  kc : Nat := 0
  cRef : Nat := 0
  gRef : Nat := 0
  /-- The attempt: its bits so far and in all, whether it is a data read, its rung 1 step (10 R404); the phase before a servo window. -/
  bits : Nat := 0
  total : Nat := 0
  dataRead : Bool := false
  step : Nat := 0
  prior : Nat := 0
  /-- F in 2^-24 UI a bit and φ in 2^-24 UI (R350). -/
  f : Int := 0
  phi : Int := 0
  /-- Acquisition gains are kept past bit 96 (R352). -/
  acquiring : Bool := false
  /-- Bits still to pass before the loops run after the last flag cleared (R346). -/
  hold : Nat := 0
  /-- Sums of squares of the last 16 blocks of each lane, newest first (R342). -/
  powA : List Nat := []
  powB : List Nat := []
  /-- Bits with ERASE set in a row; the last 256 |Δ|, newest first; bits in a row with F at its clamp (R347, R352, R353). -/
  eraseRun : Nat := 0
  deltas : List Nat := []
  clampRun : Nat := 0
  /-- The lanes; bits seen since the detectors started; y and d of the last bit, the last symbols, newest first (R337 to R339). -/
  lanes : List Lane := [{}, {}]
  seen : Nat := 0
  yPrev : Int := 0
  dPrev : Int := 0
  syms : List Bool := []
  /-- The block in progress, newest first: (e, d) of its bits (R342). -/
  block : List (Int × Int) := []
  /-- The preamble: the phase counter, z of its first eight bits, newest first, how far the pattern lies off START, the bits without a flag
  (R348, R349, R368). -/
  phase : Nat := 0
  z : List Int := []
  shift : Nat := 0
  clean : Nat := 0
  /-- Consecutive attempts with a synthesiser loss, and with lane A and lane B saturated (R367). -/
  lossRun : Nat := 0
  satRun : List Nat := [0, 0]
  /-- Clearance samples since the last tick: sum and count (R363). -/
  clearSum : Int := 0
  clearN : Nat := 0
  deriving DecidableEq, Repr

/-! ### Detection and decoding (spec/10) -/

/-- What a medium read is for (17 R685). -/
inductive PieceKind where
  | read | verify | rung1 | peer | scrub | clean | verifyRead | writePass
  deriving DecidableEq, Repr

/-- A sector of a piece: its index on the track, its LBA or TAG, its global stripe and member. -/
structure Sec where
  idx : Nat
  lba : Nat
  stripe : Nat
  member : Nat
  deriving DecidableEq, Repr

/-- Whom a read serves: its kind, its context by acceptance number, the sector in rung 3 that it is a peer of (stripe and member),
the stream whose written sector it verifies with the SEQ written. -/
structure Purpose where
  kind : PieceKind
  ctx : Option Nat := none
  parent : Option (Nat × Nat) := none
  verifies : Option (Nat × Nat) := none
  deriving DecidableEq, Repr

/-- A read of one sector: where it lies, whom it serves, its rung and its rung 1 step. -/
structure ReadOp where
  sec : Sec
  head : Nat
  track : Nat
  why : Purpose
  rung : Nat
  step : Nat
  deriving DecidableEq, Repr

/-- A sector attempt in a slot (R398): its stream, the read, whether END has come, its codeword start once framed, the global
iterations done, the cap of R398; its sample words (09 R340), the newest first; NSCALE (R390) and the a-priori values of the next global iteration. -/
structure Attempt where
  stream : Nat
  op : ReadOp
  ended : Bool := false
  start : Option Nat := none
  words : List Nat := []
  nscale : Nat := 0
  apriori : List Int := []
  globals : Nat := 0
  locals : Nat := 0
  capOne : Bool := false
  deriving DecidableEq, Repr

/-- A stored sample set (R401, R402): the read whose samples it keeps, its stream, its codeword start and its words from START. -/
structure SampleSet where
  op : ReadOp
  stream : Nat
  start : Nat
  words : List Nat
  deriving DecidableEq, Repr

/-- An off-line job: a deferred decode, or rung 2 of a sector at a try of R406 (R400, R403); the slice that runs it. -/
structure Job where
  id : Nat
  stream : Nat
  op : ReadOp
  rung2 : Bool
  turn : Nat := 0
  slice : Option Nat := none
  deriving DecidableEq, Repr

/-- A slice: its slots in arrival order, a known-answer test due or held (R412). -/
structure Slice where
  slots : List Attempt := []
  katDue : Bool := false
  deriving DecidableEq, Repr

/-- A sector at rungs 1 to 3 (R404 to R409, 17 R715): the read, its attempts, and for rung 3 the peers still out, the tiles of
those read, the members lost. -/
structure Recovery where
  op : ReadOp
  stream : Nat
  attempts : Nat
  peers : Nat := 0
  got : List Nat := []
  lost : Nat := 0
  /-- The sector failed its seal check after release; the check is made again after the rebuild (16 R657). -/
  sealCheck : Bool := false
  /-- It is at rung 3 only for a fence: it is not rewritten (17 R717; 01 R32). -/
  fenced : Bool := false
  deriving DecidableEq, Repr

/-- What the slices and the recovery hold beside their registers: the slices, the sample sets (oldest first), the jobs, the
sectors in recovery and those that wait for an entry (R409). -/
structure Det where
  slices : List Slice := List.replicate 9 {}
  sets : List SampleSet := []
  jobs : List Job := []
  nextJob : Nat := 0
  recov : List Recovery := []
  waiting : List Recovery := []
  deriving DecidableEq, Repr

/-! ### Writing (spec/11) -/

/-- A sector handed to a write channel: its LBA, its tile, TAG and SEQ, its stripe and member, and whether it is already
whole in a buffer (R420, R422), whose 4,112 bytes are then `bytes`. -/
structure WSector where
  lba : Nat
  tile : Nat
  tag : Nat
  seq : Nat
  stripe : Nat
  member : Nat
  loaded : Bool := false
  bytes : List Nat := []
  deriving DecidableEq, Repr

/-- What a write channel holds beside its registers. -/
structure WChan where
  /-- Sectors dispatched and not begun, in order (R420, R690). -/
  queue : List WSector := []
  /-- The sector being written, and whether its last report is still due. -/
  cur : Option WSector := none
  /-- The segment of it that is under way, and whether a servo window follows that segment now (R425, R427). -/
  segment : Nat := 0
  windowed : Bool := false
  /-- Sectors written that wait for their verify read (R442, R443). -/
  verify : List WSector := []
  /-- Assist-monitor codes since the last LASER tick: sum and count (R431). -/
  monSum : Int := 0
  monN : Nat := 0
  deriving DecidableEq, Repr

/-- What the write path holds as a whole. -/
structure Wch where
  ch : List WChan := List.replicate 8 {}
  /-- Comparators tripped at the ball: bit 0 SHK_LIN, bit 1 SHK_ROT (R435). -/
  tripped : Nat := 0
  /-- SHK_TEST drives the comparators (R438). -/
  testing : Bool := false
  /-- SHK_HOLD has been running since the last comparator released (R436). -/
  holding : Bool := false
  /-- Streams whose head must still meet the criterion of R235 after a shock (R436). -/
  await : List Nat := []
  /-- Ports whose preamp holds the preamp source (R250), one bit each. -/
  preamp : Nat := 0
  deriving DecidableEq, Repr

/-! ### The Granary (spec/12) -/

/-- A request accepted by the DDR block and not yet issued (R471, R472): its present class, its direction, its byte address in
the data capacity and, for a write, its bytes. -/
structure DramReq where
  cls : Nat
  write : Bool
  addr : Nat
  bytes : List Nat
  deriving DecidableEq, Repr

/-- The page state of a bank (R474): the bank's number, its predictor, the row open, the row last opened. -/
structure Bank where
  num : Nat
  p : Nat := 2
  row : Option Nat := none
  last : Option Nat := none
  deriving DecidableEq, Repr

/-- A migration (R484): its subchannel, the ranks, the cause, the lines copied, the milliseconds so far. -/
structure Migration where
  sc : Nat
  src : Nat
  dst : Nat
  cause : Nat
  lines : Nat := 0
  ms : Nat := 0
  deriving DecidableEq, Repr

/-- What the DDR block holds beside its registers. -/
structure Ddr where
  queue : List DramReq := []
  /-- Banks whose page state differs from the start. -/
  banks : List Bank := []
  /-- Poisoned lines, by their place in the devices (R478). -/
  poison : List Nat := []
  migs : List Migration := []
  /-- The physical rank that serves active rank RK of a subchannel: (subchannel, RK, rank), where it is not RK (R460, R487). -/
  served : List (Nat × Nat × Nat) := []
  deriving DecidableEq, Repr

/-- Side-table STATE values (R489). -/
inductive TileState where
  | empty | opened | sealed | bad | test | retired
  deriving DecidableEq, Repr

/-- A pool tile's side-table entry and its production's progress (R489, R492). -/
structure Tile where
  num : Nat
  crc : Nat := 0
  state : TileState := .empty
  producer : Nat := 0
  gen : Nat := 0
  /-- The next byte a production writes. -/
  next : Nat := 0
  /-- Writes that wait for the end of a test: (agent, offset, bytes) (R494). -/
  held : List (Nat × Nat × List Nat) := []
  deriving DecidableEq, Repr

/-- What the GRN block holds beside its registers: the side-table entries that are not EMPTY with GEN zero. -/
structure Grn where
  tiles : List Tile := []
  deriving DecidableEq, Repr

/-! ### The metadata cache and the SRAM macros (spec/13) -/

/-- A cached line: its number in the data capacity, its way, whether it is dirty, whether a prefetch brought it and nothing has
hit it yet, its 64 bytes. -/
structure CLine where
  line : Nat
  way : Nat
  dirty : Bool
  pre : Bool
  data : List Nat
  deriving DecidableEq, Repr

/-- A line in the victim buffer (R526): whether its write-back has been issued. -/
structure Victim where
  line : Nat
  data : List Nat
  issued : Bool
  deriving DecidableEq, Repr

/-- An access of a port: internal address, bytes, what it does, the value stored; the POLICY of its region as it was accepted (R509), and
what the words and the Granary give it. -/
structure Access1 where
  addr : Nat
  len : Nat
  op : MemOp
  data : Nat
  pol : Nat
  word : Ecc
  tag : Ecc
  dram : DramRead
  deriving DecidableEq, Repr

/-- A miss outstanding or waiting at a port (R506, R526, R527): the fill has come and waits for a victim entry. -/
structure Miss where
  port : Nat
  acc : Access1
  filled : Bool
  deriving DecidableEq, Repr

/-- What the cache holds beside its registers. -/
structure Mcc where
  lines : List CLine := []
  victims : List Victim := []
  /-- The pseudo-LRU tree of a set that differs from zero: (set, 15 bits) (R512). -/
  plru : List (Nat × Nat) := []
  /-- Misses outstanding, one a port, and accesses that wait behind them, in order. -/
  misses : List Miss := []
  waiting : List Miss := []
  /-- The line of the outstanding prefetch (R511). -/
  prefetch : Option Nat := none
  /-- The range operation under way: operation, first line, lines (R518). -/
  maint : Option (Nat × Nat × Nat) := none
  /-- The lines the maintenance engine has examined, and those the drain has written back (R519, R521 to R523). -/
  pos : Nat := 0
  written : Nat := 0
  /-- A drain starts when the range operation ends (R542); the power-down of MEM waits for it (R525). -/
  drainAfter : Bool := false
  /-- The size a lock change is bringing (R515). -/
  lockTo : Nat := 0
  deriving DecidableEq, Repr

/-- An SRAM macro whose protection state differs from the start (R534 to R541). -/
structure Macro where
  num : Nat
  ce : Nat := 0
  /-- The last four corrected word indices, newest first. -/
  recent : List Nat := []
  /-- Words remapped, spare 0 first, with the cause. -/
  remaps : List (Nat × Nat) := []
  exhausted : Bool := false
  bucket : Nat := 0
  /-- Words that fault until they are written (R541). -/
  bad : List Nat := []
  /-- Words stored altered by the flip mask: word, data bits altered, check bits altered (R540). -/
  flipped : List (Nat × Nat × Nat) := []
  deriving DecidableEq, Repr

/-- What the SRM block holds beside its registers: the macros, the words whose valid bit is set (8,192 × macro + word),
and the milliseconds since the buckets last drained (R538). -/
structure Srm where
  macros : List Macro := []
  valid : List Nat := []
  deriving DecidableEq, Repr

/-! ### The Porter (spec/14) -/

/-- A MOVE in progress (R552): its fields with its addresses formed. -/
structure Move where
  srcSpace : Nat
  dstSpace : Nat
  src : Nat
  dst : Nat
  seq : Nat
  length : Nat
  req : Nat
  paced : Bool
  barrier : Bool
  /-- The copy runs in descending order (R568), or unit by unit through the staging buffer (R569, R571). -/
  down : Bool := false
  staged : Bool := false
  deriving DecidableEq, Repr

/-- What a channel waits for. -/
inductive PWait where
  /-- A request on a line, for a burst or a WAIT. -/
  | line (n : Nat)
  /-- An event counter of at least a value. -/
  | counter (n value : Nat)
  /-- Microseconds. -/
  | time (us : Nat)
  /-- The read data of the burst issued. -/
  | data
  /-- The bytes written have not all arrived (R566). -/
  | barrier
  deriving DecidableEq, Repr

/-- What a Porter channel holds beside its registers. -/
structure PChan where
  move : Option Move := none
  wait : Option PWait := none
  /-- The burst was paced by a request it has claimed already. -/
  claimed : Bool := false
  /-- An input arrived while the channel was paused (R581). -/
  held : Bool := false
  /-- The domain that pauses the channel, and whether it was waiting, for what. -/
  paused : Option Nat := none
  /-- Writes of this channel that have not arrived (R566). -/
  outstanding : Bool := false
  /-- The instruction in progress ends the program (R561). -/
  last : Bool := false
  /-- The 4 KiB staging buffer (R569), and whether the tile in it passed its checked use (R571). -/
  stage : List Nat := []
  checked : Bool := false
  deriving DecidableEq, Repr

/-- What the Porter holds beside its registers: its channels, the pending requests of software lines 16 to 47, the bursts
claimed of each write channel's room (lines 0 to 7), the unclaimed room of the Drover's lines 8 to 15. -/
structure Por where
  ch : List PChan := List.replicate 32 {}
  sw : List Nat := List.replicate 32 0
  claims : List Nat := List.replicate 8 0
  room : List Nat := List.replicate 8 0
  deriving DecidableEq, Repr

/-! ### The host link and the task windows (spec/15) -/

/-- A task window (R597): the command words, the answer (0 NONE, 1 ACCEPTED, 2 REFUSED), EARLY, REASON, the phase apart from PAUSED
(0 FREE, 1 BUSY, 2 DONE), the results. -/
structure Window where
  words : List Nat := List.replicate 12 0
  answer : Nat := 0
  early : Nat := 0
  reason : Nat := 0
  phase : Nat := 0
  lo : Nat := 0
  hi : Nat := 0
  deriving DecidableEq, Repr

/-- An MSI-X table entry: message address, data, mask bit (R585, R614). -/
structure Vector16 where
  addr : Nat := 0
  data : Nat := 0
  masked : Bool := true
  deriving DecidableEq, Repr

/-- What the link and the windows hold beside their registers. -/
structure Hif where
  wins : List Window := List.replicate 256 {}
  /-- Rings armed, and rings whose fullness is recorded (R609, R613). -/
  armed : List Bool := List.replicate 16 false
  full : List Bool := List.replicate 16 false
  msix : List Vector16 := List.replicate 64 {}
  /-- MSI-X pending bits. -/
  pend : List Bool := List.replicate 64 false
  /-- Configuration space as far as this model reads it: a request has been answered since L0, MSI-X enable and function mask, bus
  master enable, ASPM L1 enabled. -/
  seenL0 : Bool := false
  /-- Memory Space Enable, and the addresses that the host gave BAR0 and BAR2 (R593). -/
  memOn : Bool := false
  bars : List Nat := [0, 0]
  /-- The LTR value reported, µs (R592). -/
  ltrUs : Nat := 100
  msixOn : Bool := false
  fnMask : Bool := false
  master : Bool := false
  l1On : Bool := false
  /-- The host has disabled completion timeouts; the MRRS and MPS programmed, bytes. -/
  noTimeout : Bool := false
  /-- Receiver errors of each lane in the present second (R588). -/
  laneErr : List Nat := List.replicate 8 0
  mrrs : Nat := 512
  mps : Nat := 128
  /-- The status mirror as last refreshed, by word (R616). -/
  mirror : List Nat := List.replicate 18 0
  /-- The summary page as built, its SEQ inside (16 R670), and the GEN of the summary page and of each log page (R615). -/
  summary : List Nat := []
  summaryGen : Nat := 0
  logGen : List Nat := List.replicate 240 0
  /-- The log pages as last built: the page's number and its 4,096 bytes (R614). -/
  pages : List (Nat × List Nat) := []
  deriving DecidableEq, Repr

/-- The answer to the last access: to a Reeve core or to the host. `fault` is none, or the exception of 01 R37, R38, R39, R42. -/
inductive BusFault where
  | none | loadMisaligned | storeMisaligned | loadAccess | storeAccess | fetchAccess
  | illegal | breakpoint | callUser | callMachine
  deriving DecidableEq, Repr

/-- An instruction of a core whose access has no answer yet: the destination, the bytes of the value and whether it is sign-extended, the pc
after it. -/
structure Waits where
  rd : Nat
  len : Nat
  signed : Bool
  npc : Nat
  deriving DecidableEq, Repr

/-- A Reeve core (01 R33 to R36). -/
structure Core where
  /-- The program counter and the registers x0 to x31, of 64 bits. -/
  pc : Nat := 0
  x : List Nat := List.replicate 32 0
  /-- The instruction whose access has no answer yet. -/
  waits : Option Waits := none
  /-- User mode; machine mode where false. -/
  user : Bool := false
  /-- mstatus: MIE, MPIE, whether MPP names user mode, MPRV. -/
  mie : Bool := false
  mpie : Bool := false
  mpp : Bool := true
  mprv : Bool := false
  /-- The register mie. -/
  mieReg : Nat := 0
  /-- mtvec, mscratch, mepc, mcause and mtval. -/
  mtvec : Nat := 0
  mscratch : Nat := 0
  mepc : Nat := 0
  mcause : Nat := 0
  mtval : Nat := 0
  /-- The 16 protection entries: the bytes of pmpcfg and the addresses, 54 bits (R35). -/
  pmpCfg : List Nat := List.replicate 16 0
  pmpAddr : List Nat := List.replicate 16 0
  deriving DecidableEq, Repr

/-- The Reeve cores and the last answer to an access (01 R33 to R42). -/
structure Bus where
  /-- The value and the fault last answered. -/
  value : Nat := 0
  fault : BusFault := .none
  /-- The address each Reeve core holds reserved (01 R33, R38). -/
  resv : List (Option Nat) := [none, none, none, none]
  /-- The cores 0 to 3 (R36). -/
  cores : List Core := [{}, {}, {}, {}]
  deriving DecidableEq, Repr

/-! ### Commands, contexts and completion (spec/16) -/

/-- The state of a context (R632). -/
inductive CtxState where
  | queued | dispatched | committed
  deriving DecidableEq, Repr

/-- A context (R634, R701): the 48 command bytes as twelve 32-bit words, the window it came through, and its progress.
`num` counts acceptances. -/
structure Ctx where
  num : Nat
  words : List Nat
  window : Nat
  ring : Nat
  hold : Bool
  state : CtxState := .queued
  covered : Bool := false
  abortSeen : Bool := false
  locked : Bool := false
  rung : Nat := 0
  /-- Sectors still wanted from the medium or from recovery, sectors done, and the first failing LBA with its status. -/
  left : Nat := 0
  done : Nat := 0
  failed : Option (Nat × Nat) := none
  acceptUs : Nat := 0
  /-- WRITE acknowledgements it must see named, FLUSH and FUA (R646, R647): the order up to which it waits. -/
  waitOrder : Nat := 0
  status : Nat := 0
  detail : Nat := 0
  detailHi : Nat := 0
  /-- The contexts an ABORT waits for before its own entry (R648). -/
  after : Option Nat := none
  /-- The data list resolved: host address and bytes of each data entry, in order (R628). -/
  segs : List (Nat × Nat) := []
  /-- Its completion waits for room in its ring (R609). -/
  waiting : Bool := false
  /-- Bytes moved to host memory that have not arrived (R611). -/
  moving : Bool := false
  deriving DecidableEq, Repr

/-- A committed stream's record (03 R116). -/
structure Stream where
  id : Nat
  write : Bool
  fua : Bool
  bw : Nat
  req : Nat
  deadline : Nat
  start : Nat
  count : Nat
  /-- Opened by STREAM_OPEN, closing; completions later than the deadline since it opened. -/
  byHost : Bool := false
  late : Nat := 0
  /-- Commands accepted in the last DEADLINE µs: (µs, bytes) (R651). -/
  recent : List (Nat × Nat) := []
  deriving DecidableEq, Repr

/-- An activation under way (R663): the context, the step, the timeout in µs, the contexts ended at the timeout. -/
structure Activation where
  ctx : Nat
  step : Nat
  ended : Nat
  /-- Started in SAFE or recovery hold (R666). -/
  short : Bool := false
  deriving DecidableEq, Repr

/-- What the command block holds. -/
structure Cmd where
  ctxs : List Ctx := []
  accepted : Nat := 0
  /-- Tags whose entry is written and not consumed: (ring, tag), oldest first (R633, POSTED). -/
  posted : List (Nat × Nat) := []
  /-- Refusals since the last 0x4101 and whether one was recorded in this second, per REASON (R631 text). -/
  refusals : List (Nat × Nat) := []
  noted : List Nat := []
  /-- FW_DOWNLOAD: a series is open, bytes written, the bytes themselves, the image checked (R661, R662). -/
  series : Bool := false
  written : Nat := 0
  image : List Nat := []
  checked : Bool := false
  act : Option Activation := none
  /-- RESYNC commands since BOOT. -/
  resyncs : Nat := 0
  deriving DecidableEq, Repr

/-! ### The Drover (spec/17) -/

/-- How far a piece has come: filed in the grid, offered at DRV_CMD, taken by the Shepherd, settled (R690). -/
inductive Stage where
  | filed | offered | taken | ready
  deriving DecidableEq, Repr

/-- A piece of medium work (R685). -/
structure Piece where
  id : Nat
  why : Purpose
  rung : Nat := 0
  step : Nat := 0
  act : Nat
  head : Nat
  track : Nat
  secs : List Sec
  /-- When it was filed, µs, and its deadline where the command is covered (R703). -/
  filed : Nat
  deadline : Option Nat := none
  /-- The stream whose channel holds it. -/
  hold : Option Nat := none
  stage : Stage := .filed
  deriving DecidableEq, Repr

/-- Where a stripe member's data came from, in the filling order of R693; parity and filler beside them. -/
inductive MemberKind where
  | rewrite | rebuild | host | clean | parity | filler
  deriving DecidableEq, Repr

/-- A member of a stripe of the present run: its data, its place and the report of R440 once it has come. -/
structure Member where
  kind : MemberKind
  lba : Nat
  tile : Nat
  tag : Nat
  seq : Nat
  head : Nat
  track : Nat
  idx : Nat
  /-- The data index that the map gave the LBA when a copy of it was placed. -/
  old : Option Nat := none
  report : Option Nat := none
  deriving DecidableEq, Repr

/-- A stripe placed and not yet named or abandoned (R693, R696, R697). -/
structure Stripe where
  num : Nat
  band : Nat
  members : List Member
  deriving DecidableEq, Repr

/-- A band of R682 that is not FREE with its format-time values: 0 FREE, 1 OPEN, 2 FULL, 3 CLEANING, 4 DEAD. -/
structure Band where
  num : Nat
  state : Nat
  surfaces : Nat
  stripes : Nat
  next : Nat := 0
  live : Nat := 0
  defects : List (Nat × Nat) := []
  /-- Surfaces removed from the band at its next opening (R717). -/
  dropped : Nat := 0
  /-- The defects its placement in force honours (R684). -/
  used : List (Nat × Nat) := []
  deriving DecidableEq, Repr

/-- A DATA or LOST entry of the extent map (R704). -/
structure Extent where
  lba : Nat
  count : Nat
  lost : Bool
  dstart : Nat
  aux : Nat
  deriving DecidableEq, Repr

/-- A sealed band (R654, R704 BAND). -/
structure SealBand where
  idx : Nat
  lba : Nat
  count : Nat
  ptr : Nat
  closed : Bool
  /-- LBA after the last sector written to the band (text after R657). -/
  written : Nat
  /-- The check values of data sectors that the Drover holds: sector and 32 bytes (18 R749). -/
  tags : List (Nat × List Nat) := []
  deriving DecidableEq, Repr

/-- Data not yet named: the write-back index of R702. `order` counts acknowledgements, from 1, and data in the place of older waiting data
keeps the older order; it is 0 for data not acknowledged; `ctx` is the FUA WRITE that waits for the data, or 0. -/
structure WriteBack where
  lba : Nat
  tile : Nat
  order : Nat
  ctx : Nat
  deriving DecidableEq, Repr

/-- A journal record of R710: its KIND and its payload bytes. -/
structure JRec where
  kind : Nat
  payload : List Nat
  deriving DecidableEq, Repr

/-- A pass of a run on one track (R694): the actuator, the track, one or two heads on it still to be written. -/
structure Pass where
  act : Nat
  track : Nat
  heads : List Nat
  deriving DecidableEq, Repr

/-- A surface being rebuilt (R718): the surface, the next band, the sectors rebuilt, the seconds. -/
structure SurfaceRebuild where
  surface : Nat
  band : Nat
  sectors : Nat
  seconds : Nat
  deriving DecidableEq, Repr

/-- A journal block in the log area (R710): the first JSEQ and the records. -/
structure JBlock where
  first : Nat
  recs : List JRec
  deriving DecidableEq, Repr

/-- A checkpoint's contents (R709). -/
structure Ckpt where
  jseq : Nat
  bands : List Band
  map : List Extent
  seals : List SealBand
  deriving DecidableEq, Repr

/-- The journal partition in the flash (R707, R708): log blocks, the two checkpoint areas, the superblock copies
(SEQ, AREA, CKPT_JSEQ), and whether the partition reads erased. -/
structure Journal where
  blocks : List JBlock := []
  areas : List (Option Ckpt) := [none, none]
  supers : List (Option (Nat × Nat × Nat)) := [none, none]
  erased : Bool := true
  deriving DecidableEq, Repr

/-- What the Drover holds beside its registers. -/
structure Drv where
  pieces : List Piece := []
  nextPiece : Nat := 0
  /-- Bands that differ from FREE with no defects, by number. -/
  bands : List Band := []
  map : List Extent := []
  seals : List SealBand := []
  wb : List WriteBack := []
  acks : Nat := 0
  /-- Sectors named in the tail and not yet programmed (16 R645): the order of acknowledgement, the context. -/
  unprog : List (Nat × Nat) := []
  /-- Stripes of the present run; the passes still to dispatch; sectors to rewrite,
  rebuild or relocate, as (LBA, tile). -/
  run : List Stripe := []
  passes : List Pass := []
  rewrites : List (Nat × Nat) := []
  rebuilt : List (Nat × Nat) := []
  moved : List (Nat × Nat) := []
  surf : Option SurfaceRebuild := none
  surfQueue : List Nat := []
  /-- The next SEQ and the highest reserved (R699); the next JSEQ. -/
  seq : Nat := 0
  reserved : Nat := 0
  jseq : Nat := 0
  /-- The unprogrammed tail, oldest first, and the age of its oldest record in ms (R711). -/
  tail : List JRec := []
  tailMs : Nat := 0
  /-- The journal partition. -/
  jrn : Journal := {}
  /-- Pool tiles the Drover has in use. -/
  tiles : List Nat := []
  /-- The map has been restored in this BOOT. -/
  restored : Bool := false
  /-- Sectors that returned BUFFER_ERROR, MEDIA_ERROR and SEAL_MISMATCH completions since BOOT (16 R659 page 0x02). -/
  mediaErr : Nat := 0
  bufErr : Nat := 0
  sealErr : Nat := 0
  deriving DecidableEq, Repr

/-! ### Trust (spec/18) -/

/-- A Tally request in progress (R764): its KIND, the PAYLOAD taken at GO, the context it is made for. -/
structure TalReq where
  kind : Nat
  payload : List Nat
  ctx : Option Nat := none
  deriving DecidableEq, Repr

/-- What the TAL block holds beside its registers. -/
structure Tal where
  /-- The entries of the store, oldest first, each 512 bytes (R730, R733). -/
  entries : List (List Nat) := []
  /-- The attestation signed last (R764, TAL_SEL 0xFFFF_FFFF). -/
  attest : List Nat := []
  req : Option TalReq := none
  /-- Pending seal entries, oldest first: opened or closed, operating seconds at detection (R762). -/
  pending : List (Bool × Nat) := []
  /-- The mirror partition: ring place and entry; and the INDEX of each entry it still lacks (R738). -/
  mirror : List (Nat × List Nat) := []
  lacking : List Nat := []
  /-- ROM_DIGEST, DIR_DIGEST, the directory entries measured, BOOT_FLAGS, SVN and BUILD_ID of the present boot (R727, R730). -/
  rom : List Nat := []
  dir : List Nat := []
  sections : Nat := 0
  flags : Nat := 0
  deriving DecidableEq, Repr

/-- A keyed computation (R745): its class; for a sealed sector the band, the LBA, the 4,096 bytes, the context and whether it is
the check made again after a rebuild; whether it is being recomputed (R744). -/
structure Comp where
  cls : Nat
  band : Nat := 0
  lba : Nat := 0
  data : List Nat := []
  ctx : Option Nat := none
  again : Bool := false
  redo : Bool := false
  deriving DecidableEq, Repr

/-- What the Seal engine holds beside its registers: the computation, the suspended ones, those waiting, the job's key and input. -/
structure Sea where
  cur : Option Comp := none
  susp : List Comp := []
  queue : List Comp := []
  key : List Nat := List.replicate 64 0
  input : List Nat := []
  finished : Bool := false
  deriving DecidableEq, Repr

/-- What the PRS block holds beside its registers: high samples in a row, milliseconds of presence left, the sequence of R761, the
runs of differing and matching samples, whether the present BOOT's first judgement is still to come. -/
structure Prs where
  highRun : Nat := 0
  msLeft : Nat := 0
  lfsr : Nat := 0xACE1
  differ : Nat := 0
  same : Nat := 0
  deriving DecidableEq, Repr

/-! ### The Watch and the Day-Book (spec/19) -/

/-- A severity 3 or 4 event in a port's fault part, with the REACTION its lines took (R773, R790). -/
structure PortFault where
  event : Event
  reaction : Nat
  deriving DecidableEq, Repr

/-- One block's port to the Watch (R772): eight ordinary places, the fault part, the events discarded since the
port's last 0x6007. -/
structure Port where
  ordinary : List Event := []
  faults : List PortFault := []
  dropped : Nat := 0
  deriving DecidableEq, Repr

/-- A Day-Book record (R795). -/
structure Rec where
  event : Event
  sev : Nat
  seconds : Nat
  cycles : Nat
  rep : Nat := 0
  deriving DecidableEq, Repr

/-- A row of the non-volatile array (R808) that has been used: its number, its write count, whether it is retired, the
repeat commits its record has taken, and the record with its sequence number. Rows not listed are free and unworn. -/
structure Row where
  num : Nat
  writes : Nat
  retired : Bool := false
  repeats : Nat := 0
  held : Option (Nat × Rec) := none
  deriving DecidableEq, Repr

/-- What the Watch and the Day-Book hold beside their registers. -/
structure Wat where
  /-- One port per reporting block, in the order of the high bytes of R14 (00). -/
  ports : List Port := List.replicate 20 {}
  /-- The port served last, for the round robin of R772. -/
  served : Nat := 0
  /-- Escalated codes loaded at DONE, with their keys (R773, R776). -/
  escalated : List (Nat × Nat) := []
  /-- Events 0x6004 of the present second, per core (R781). -/
  l1Errors : List Nat := [0, 0, 0, 0]
  /-- Watchdogs armed by a first kick after DONE, per core (R780). -/
  armed : List Bool := [false, false, false, false]
  /-- FAULT_N has been driven by the Watch since PORST_N was asserted (R783). -/
  driven : Bool := false
  /-- A SAFE line has risen in this command and the decision is not yet taken (R773, R774), with the code that raised it. -/
  safeDue : Option (Nat × Nat) := none
  deriving DecidableEq, Repr

/-- What the Day-Book front end and its array hold. -/
structure Dbk where
  /-- Staged records, oldest first, at most 32 (R796). -/
  staged : List Rec := []
  /-- The rows that have been used (R808). -/
  rows : List Row := []
  /-- Repeat increments of the newest committed record, gathered and not yet committed (R798). -/
  gathered : Nat := 0
  /-- The bucket has been empty since it last held a token (R800). -/
  emptied : Bool := false
  /-- The operating-seconds value last committed to the array (R793). -/
  opsecNv : Nat := 0
  deriving DecidableEq, Repr

/-! ### Thermal (spec/20) -/

/-- What the thermal unit holds beside its registers. -/
structure Thm where
  /-- Samples taken of each sensor, at most 64 counted, and the disagreement counts (R822, R823). -/
  samples : List Nat := List.replicate 14 0
  disagree : List Nat := List.replicate 14 0
  /-- Consecutive samples hot and cool (R828), milliseconds since the last rise, at most 100 counted. -/
  hot : Nat := 0
  cool : Nat := 0
  riseMs : Nat := 100
  /-- Consecutive samples at 150 °C, samples of cooling since, and whether a trip stands (R836). -/
  tripRun : Nat := 0
  tripCool : Nat := 0
  tripped : Bool := false
  /-- Event 0x7004 has been recorded since BOOT; the enclosure reading is known to be invalid (R823, R826). -/
  guarded : Bool := false
  encBad : Bool := false
  /-- A ramp forced by the thermal ceiling, from its adoption until SETTLE ends (R834). -/
  forced : Bool := false
  /-- A consumer has had no step for 2 ms and applies step 5 (R881). -/
  stale : Bool := false
  deriving DecidableEq, Repr

/-! ### Balls (spec/21) -/

/-- Levels that the block holds on balls where no register shows them, the UART's bytes, the JTAG port. -/
structure Pins where
  /-- RETRACT_N is driven low, until the next BOOT (06 R240). -/
  retractLow : Bool := false
  /-- SEAL_A as driven (18 R761). -/
  sealA : Bool := false
  /-- The UART's FIFOs, oldest first (R867). -/
  tx : List Nat := []
  rx : List Nat := []
  /-- The JTAG instruction in force, what its data register captured, and the boundary pattern preloaded, as numbers (18 R759). -/
  ir : Nat := 1
  dr : Nat := 0
  boundary : Nat := 0
  /-- Rails below their range, one bit each in the order of R849: VDD_CORE, VDD_AON, VDDA_CH, VDDQ, VDD_PE_L, VDD_PE_H, VDDIO. The
  outputs on a rail named here are high-impedance (R851). -/
  rails : Nat := 0
  deriving DecidableEq, Repr

/-! ### The device -/

/-- Everything but the command queue. -/
structure Dev where
  regs : List RegCell := []
  freeCount : Nat := 0
  pol : List (Nat × Nat) := []
  streams : List Stream := []
  cfg : Cfg := {}
  clk : Clk := {}
  mod : Mod := {}
  mil : Mil := {}
  shps : List Shp := List.replicate 4 {}
  wch : Wch := {}
  cmd : Cmd := {}
  drv : Drv := {}
  wat : Wat := {}
  dbk : Dbk := {}
  thm : Thm := {}
  pins : Pins := {}
  lpe : Lpe := {}
  ddr : Ddr := {}
  grn : Grn := {}
  mcc : Mcc := {}
  srm : Srm := {}
  por : Por := {}
  mem : List Host.Cell := []
  hostMem : List Host.Cell := []
  fe : List Fe := List.replicate 8 {}
  det : Det := {}
  hif : Hif := {}
  bus : Bus := {}
  tal : Tal := {}
  sea : Sea := {}
  prs : Prs := {}
  deriving DecidableEq, Repr

/-- The machine: the device and the commands that wait, the first in front. -/
structure State extends Dev where
  pending : List Instr
  deriving DecidableEq, Repr

/-- No command faults the block: what the spec calls an error is state (an event, a status, a refusal register). -/
inductive Fault where
  /-- Raised by no command (safe): it keeps the type inhabited. -/
  | none
  deriving DecidableEq, Repr

/-- Why a command has no meaning. -/
inductive Refusal where
  /-- A command whose arm still waits for its meaning; raised by the dispatch only; safe. -/
  | notModelled (mnemonic : String)
  deriving DecidableEq, Repr

/-- The machine right after reset. -/
def State.reset : State := { pending := [] }

end Sys2Proof.Machine
end

