-- ==== Sys2Proof/Machine/RegOps.lean ====
section
/-! DEFINITION. The named operations over the register fields (spec/00 R5 to R8) and over the event ports (spec/19): every
other file reads and writes registers and reports events through them. -/

namespace Sys2Proof.Machine

/-! ### Registers -/

/-- The value listed for a field instance. -/
def cellsFind : List RegCell → Nat → Nat → Option Nat
  | [], _, _ => none
  | c :: r, k, i => if c.field = k ∧ c.inst = i then some c.val else cellsFind r k i

/-- Does cell `(k, i)` stand before cell `c` in the list's order? -/
def cellBefore (k i : Nat) (c : RegCell) : Bool := k < c.field || (k == c.field && i < c.inst)

/-- The list with the cell `(k, i)` removed. -/
def cellsDrop (l : List RegCell) (k i : Nat) : List RegCell := l.filter (fun c => !(c.field == k && c.inst == i))

/-- The list with the cell `(k, i)` holding `v`, in its place. -/
def cellsInsert : List RegCell → Nat → Nat → Nat → List RegCell
  | [], k, i, v => [⟨k, i, v⟩]
  | c :: r, k, i, v =>
    if c.field = k ∧ c.inst = i then ⟨k, i, v⟩ :: r
    else if cellBefore k i c then ⟨k, i, v⟩ :: c :: r
    else c :: cellsInsert r k i v

/-- What a field instance that no cell lists holds: its reset value, with the resets that depend on the instance
(02 R83 for the AON islands, 08 R320, 09 R369, 10 R417). -/
def resetValue (f : Field) (i : Nat) : Nat :=
  if f.key = F.CLK_ISL_CTRL_SRC.key ∨ f.key = F.CLK_ISL_STAT_SRC_NOW.key then
    if [0x00, 0x13, 0x14, 0x15, 0x1C].contains i then 2 else f.reset
  else if f.key = F.LPE_L_STAT_PHYS.key then i
  else if f.key = F.RCH_S_TAP_TAP_A.key ∨ f.key = F.RCH_S_TAP_TAP_B.key then if i % 16 = 6 then 128 else 0
  else if f.key = F.DET_Q_STAT_STREAM.key then if i = 8 then 15 else i
  else if f.key = F.DET_Q_STAT_STATE.key then if i = 8 then 7 else 0
  else f.reset

/-- The cells with field instance `(f, i)` holding `v`: none is listed for the reset value. -/
def cellsPut (l : List RegCell) (f : Field) (i v : Nat) : List RegCell :=
  if v = resetValue f i then cellsDrop l f.key i else cellsInsert l f.key i v

/-- The value of instance `i` of a field. -/
def Dev.getI (d : Dev) (f : Field) (i : Nat) : Nat := (cellsFind d.regs f.key i).getD (resetValue f i)

/-- The value of a field of a register that has one instance. -/
def Dev.get (d : Dev) (f : Field) : Nat := d.getI f 0

/-- Instance `i` of a field takes `v`, truncated to the field's width. -/
def Dev.putI (d : Dev) (f : Field) (i v : Nat) : Dev := { d with regs := cellsPut d.regs f i (v % 2 ^ f.width) }

def Dev.put (d : Dev) (f : Field) (v : Nat) : Dev := d.putI f 0 v

/-- A field read as a truth value. -/
def Dev.onI (d : Dev) (f : Field) (i : Nat) : Bool := d.getI f i != 0

def Dev.on (d : Dev) (f : Field) : Bool := d.onI f 0

def Dev.flagI (d : Dev) (f : Field) (i : Nat) (b : Bool) : Dev := d.putI f i (if b then 1 else 0)

def Dev.flag (d : Dev) (f : Field) (b : Bool) : Dev := d.flagI f 0 b

/-- A counter field advances by `k` and stays at its greatest value. -/
def Dev.addI (d : Dev) (f : Field) (i k : Nat) : Dev := d.putI f i (satAdd f.width (d.getI f i) k)

def Dev.add (d : Dev) (f : Field) (k : Nat) : Dev := d.addI f 0 k

def Dev.inc (d : Dev) (f : Field) : Dev := d.addI f 0 1

def Dev.incI (d : Dev) (f : Field) (i : Nat) : Dev := d.addI f i 1

/-- A counter field falls by `k` and stops at zero. -/
def Dev.subI (d : Dev) (f : Field) (i k : Nat) : Dev := d.putI f i (d.getI f i - k)

/-- Bit `n` of a field that holds one bit per unit. -/
def Dev.bit (d : Dev) (f : Field) (n : Nat) : Bool := (d.get f).testBit n

def Dev.setBit (d : Dev) (f : Field) (n : Nat) (b : Bool) : Dev := d.put f (withBit (d.get f) n b)

/-- `d` changed by `g` where `b` holds. -/
def Dev.when (d : Dev) (b : Bool) (g : Dev → Dev) : Dev := if b then g d else d

/-- `g` applied for each number of a list, in order. -/
def Dev.each {α : Type} (d : Dev) (l : List α) (g : Dev → α → Dev) : Dev := l.foldl g d

/-- A fresh value the spec leaves open (log entry 5), and the state with the running number advanced. -/
def Dev.fresh (d : Dev) : Nat × Dev := (Config.freeValue d.freeCount, { d with freeCount := d.freeCount + 1 })

/-- The cells of a block lose what they hold and read their reset values again. -/
def Dev.clearBlock (d : Dev) (b : Nat) : Dev :=
  { d with regs := d.regs.filter (fun c => !((F.blockRange b).1 ≤ c.field && c.field < (F.blockRange b).2)) }

/-- Is a power domain's supply on (02 R76)? -/
def Dev.powered (d : Dev) (dom : Nat) : Bool := !(d.bit F.CLK_PD_STAT_OFF dom)

/-! ### Events: the port, the lines, the staging (spec/19) -/

/-- The 32-bit parameters of an event, from a list of at most four. -/
def mkEvent (code : Nat) (ps : List Nat) : Event :=
  ⟨code, ps.getD 0 0 % 2 ^ 32, ps.getD 1 0 % 2 ^ 32, ps.getD 2 0 % 2 ^ 32, ps.getD 3 0 % 2 ^ 32⟩

/-- Which escalated key names a code, if one does (19 R773, R776). -/
def Dev.escalation (d : Dev) (code : Nat) : Option Nat := (d.wat.escalated.find? (fun e => e.1 == code)).map (fun e => e.2)

/-- Is the SAFE line raised for a code of this severity (19 R773)? -/
def Dev.safeLine (d : Dev) (code sev : Nat) : Bool :=
  sev == 4 || Events.safeCodes.contains code || (d.escalation code).isSome

/-- The REACTION an event takes (19 R790, R777). -/
def Dev.reaction (d : Dev) (code sev : Nat) : Nat :=
  if sev < 3 then 0
  else if !d.safeLine code sev then 1
  else if d.on F.MOD_STAT_HARVEST then 5
  else if d.on F.WAT_STAT_SAFE || d.wat.safeDue.isSome then 4
  else if (d.escalation code).isSome && sev != 4 && !Events.safeCodes.contains code then 3
  else 2

/-- An event enters its block's port (19 R772); a FAULT line starts or extends the FAULT_N pulse (R773, R784); a SAFE line
leaves the decision due, which the command's end takes (R774). -/
def Dev.post (d : Dev) (code : Nat) (ps : List Nat) : Dev :=
  match Events.severity code with
  | none => d
  | some sev =>
    let n := Events.port code
    let p := at' d.wat.ports n {}
    if sev < 3 then
      if p.ordinary.length < 8 then
        { d with wat := { d.wat with ports := d.wat.ports.set n { p with ordinary := p.ordinary ++ [mkEvent code ps] } } }
      else
        let d := { d with wat := { d.wat with ports := d.wat.ports.set n { p with dropped := p.dropped + 1 } } }
        (d.inc F.WAT_DROP_COUNT).flag F.WAT_INT_STAT_DROP true
    else
      let r := d.reaction code sev
      let due := if r == 2 || r == 3 then some (code, (d.escalation code).getD 0) else d.wat.safeDue
      let d := { d with wat := { d.wat with
        ports := d.wat.ports.set n { p with faults := p.faults ++ [(⟨mkEvent code ps, r⟩ : PortFault)] }, driven := true, safeDue := due } }
      d.flag F.WAT_STAT_PULSE true

/-- The newest record the Day-Book holds: the number of its row, its sequence number and the record. -/
def Dev.newestRow (d : Dev) : Option (Nat × Nat × Rec) :=
  d.dbk.rows.foldl (fun best r =>
    match r.held, best with
    | some (q, x), some (n, q', x') => if q' < q then some (r.num, q, x) else some (n, q', x')
    | some (q, x), none => some (r.num, q, x)
    | none, b => b) none

/-- The place of the newest staged record whose severity is below `s` (19 R876). -/
def newestBelow (l : List Rec) (s : Nat) : Option Nat :=
  ((List.range l.length).reverse).find? (fun i => (at' l i ⟨⟨0, 0, 0, 0, 0⟩, 9, 0, 0, 0⟩).sev < s)

/-- A record not kept is counted in DBK_LOST_A or DBK_LOST_B by its severity (19 R799, R876). -/
def Dev.countLost (d : Dev) (sev : Nat) : Dev :=
  let d := d.flag F.DBK_INT_STAT_LOST true
  if sev = 0 then d.inc F.DBK_LOST_A_SEV0
  else if sev = 1 then d.inc F.DBK_LOST_A_SEV1
  else if sev = 2 then d.inc F.DBK_LOST_B_SEV2
  else if sev = 3 then d.inc F.DBK_LOST_B_SEV3
  else d

/-- An event without room during a freeze is counted in DBK_FROZEN by its severity (19 R806). -/
def Dev.countFrozen (d : Dev) (sev : Nat) : Dev :=
  if sev ≤ 1 then d.inc F.DBK_FROZEN_SEV01
  else if sev = 2 then d.inc F.DBK_FROZEN_SEV2
  else if sev = 3 then d.inc F.DBK_FROZEN_SEV3
  else d.inc F.DBK_FROZEN_SEV4

/-- The records 0x6102 and 0x6105 are committed whether or not a token remains (19 R800). -/
def tokenExempt (code sev : Nat) : Bool := 2 ≤ sev || code == 0x6102 || code == 0x6105

/-- An event arrives at the Day-Book's front end (19 R795 to R800, R806, R876). -/
def Dev.stage (d : Dev) (e : Event) (sev : Nat) : Dev :=
  let frozen := d.on F.DBK_STAT_FROZEN
  let rec0 : Rec := ⟨e, sev, d.get F.DBK_OPSEC_SECONDS, d.get F.DBK_PCYCLES_CYCLES, 0⟩
  let st := d.dbk.staged
  let lastSame := match st.getLast? with | some r => r.event == e | none => false
  let rowSame := st.isEmpty && (match d.newestRow with | some (_, _, x) => x.event == e | none => false)
  if !frozen && lastSame then
    { d with dbk := { d.dbk with staged := st.dropLast ++
        (match st.getLast? with | some r => [{ r with rep := satAdd 32 r.rep 1 }] | none => []) } }
  else if !frozen && rowSame then { d with dbk := { d.dbk with gathered := d.dbk.gathered + 1 } }
  else if d.get F.DBK_BUDGET_TOKENS = 0 && !tokenExempt e.code sev then d.inc F.DBK_BUDGET_STARVED
  else if st.length < 32 then { d with dbk := { d.dbk with staged := st ++ [rec0] } }
  else if frozen && sev < 2 then d.countFrozen sev
  else
    match newestBelow st sev with
    | some i =>
      let old := at' st i rec0
      let d := { d with dbk := { d.dbk with staged := st.eraseIdx i ++ [rec0] } }
      if frozen then d.countFrozen old.sev else d.countLost old.sev
    | none => if frozen then d.countFrozen sev else d.countLost sev

/-- Is every staging place taken by a record of severity 4 other than `e` (19 R876)? -/
def Dev.stagingFull (d : Dev) (e : Event) : Bool :=
  !d.on F.DBK_STAT_FROZEN && d.dbk.staged.length == 32 && d.dbk.staged.all (fun (r : Rec) => r.sev == 4)
    && (d.dbk.staged.getLast?.map (fun (r : Rec) => r.event)) != some e

/-- An event written into the Day-Book's front end past the Watch's ports (19 R771). One of severity 4 that finds no place is held in its port (R876;
log entry 157). -/
def Dev.stageDirect (d : Dev) (code : Nat) (ps : List Nat) : Dev :=
  match Events.severity code with
  | none => d
  | some sev =>
    let e := mkEvent code ps
    if sev = 4 && d.stagingFull e then
      let n := Events.port code
      let p := at' d.wat.ports n {}
      { d with wat := { d.wat with ports := d.wat.ports.set n { p with faults := p.faults ++ [(⟨e, d.reaction code sev⟩ : PortFault)] } } }
    else d.stage e sev

/-! ### A register by its address (00 R5 to R10) -/

/-- The islands of the AON domain (02 R51, R75). -/
def aonIsland (i : Nat) : Bool := [0x00, 0x13, 0x14, 0x15, 0x1C].contains i

/-- The power domain of an island (02 R51); RCH and WCH lie in the four CHPn by their port parts (02 R882). -/
def islandDomain (i : Nat) : Nat :=
  if aonIsland i then 0
  else if [0x03, 0x04, 0x05].contains i then 2
  else if i = 0x06 ∨ i = 0x08 then 3
  else if i = 0x07 then 7
  else if i = 0x09 ∨ i = 0x0A then 8
  else if i = 0x0E then 9
  else 1

/-- The instance of a row that lies at an internal address. -/
def rowInst (row : RegRow) (addr : Nat) : Option Nat :=
  if addr < row.addr then none
  else
    (List.range (row.n1 * row.n2)).find? (fun i => row.addr + i / row.n2 * row.stride1 + i % row.n2 * row.stride2 == addr)

def rowSearch : List RegRow → Nat → Option (RegRow × Nat)
  | [], _ => none
  | r :: l, a => match rowInst r a with | some i => some (r, i) | none => rowSearch l a

/-- The register at an internal address, with its instance; none where no register lies (00 R10). -/
def regFind (addr : Nat) : Option (RegRow × Nat) :=
  if addr < 0x20000000 then none else rowSearch (Layout.block ((addr - 0x20000000) / 0x10000)) addr

/-- The power domain a register lies in (02 R51, R81; 09 R369, 11 R446). -/
def rowDomain (row : RegRow) (inst : Nat) : Nat :=
  let b := (row.addr - 0x20000000) / 0x10000
  if b = 6 ∨ b = 8 then
    match row.places.head? with
    | none => 1
    | some p => match F.streamOf p.field.key inst with | some s => 3 + s / 2 | none => 1
  else islandDomain b

/-- The value of a register as its fields give it: write-only fields read zero (00 R7, R8). -/
def Dev.readRow (d : Dev) (row : RegRow) (inst : Nat) : Nat :=
  row.places.foldl (fun v p => if p.access = .wo then v else v + d.getI p.field inst * 2 ^ p.lo) 0

/-- A write of a field by its access code (00 R7): `ok` says whether RWO fields may be written. -/
def Dev.writeField (d : Dev) (p : Place) (inst v : Nat) (ok : Bool) : Dev :=
  let x := slice v p.lo p.field.width
  match p.access with
  | .ro => d
  | .wo => d
  | .rw => d.putI p.field inst x
  | .w1s => d.putI p.field inst (d.getI p.field inst ||| x)
  | .w1c => d.putI p.field inst (d.getI p.field inst - (d.getI p.field inst &&& x))
  | .rwo => if ok then d.putI p.field inst x else d

/-- A write of a register, field by field. -/
def Dev.writeRow (d : Dev) (row : RegRow) (inst v : Nat) (ok : Bool) : Dev := d.each row.places (fun d p => d.writeField p inst v ok)

/-- A write to a register of a domain that is off is dropped and counted (02 R81). -/
def Dev.droppedWrite (d : Dev) : Dev := d.inc F.CLK_PD_DROPWR_COUNT

/-- A register write in a domain: dropped while the domain is off (02 R81). -/
def Dev.inPower (d : Dev) (dom : Nat) (f : Dev → Dev) : Dev := if d.powered dom then f d else d.droppedWrite

end Sys2Proof.Machine
end

