-- ==== Sys2Proof/Machine/Image.lean ====
section
/-! DEFINITION. Reading the loaded configuration (spec/03): sections as bytes, the policy records, the zone and format table
(10 R372 to R378), the seek tables (06 R222, R223), the per-head calibration records (06 R241, R242, R880). -/

namespace Sys2Proof.Machine

/-- The value of `n` bytes at offset `off`, the least significant first; bytes past the end read zero. -/
def leAt (l : List Nat) (off n : Nat) : Nat := leValue ((l.drop off).take n)

/-- The two's complement number of `n` bytes at offset `off`. -/
def sleAt (l : List Nat) (off n : Nat) : Int := toSigned (8 * n) (leAt l off n)

/-- The bytes of the section of a type and instance; none are there for an absent section. -/
def sectionBytes (l : List Section) (typ inst : Nat) : List Nat :=
  ((l.find? (fun s => s.typ == typ && s.inst == inst)).map (fun s => s.bytes)).getD []

def Dev.sect (d : Dev) (typ inst : Nat) : List Nat := sectionBytes d.cfg.sections typ inst

/-- Is the section loaded? -/
def Dev.hasSect (d : Dev) (typ inst : Nat) : Bool := d.cfg.sections.any (fun s => s.typ == typ && s.inst == inst)

/-- The sections with a retained copy in the Granary, in directory order (03 R107). -/
def Dev.retained (d : Dev) : List Section := d.cfg.sections.filter (fun s => s.typ == 0x30 || s.typ == 0x40 || s.typ == 0x50)

/-! ### The directory of a slot (03 R97, R98) -/

structure DirEntry where
  typ : Nat
  inst : Nat
  flags : Nat
  off : Nat
  len : Nat
  ver : Nat
  digest : List Nat
  deriving DecidableEq, Repr

def DirEntry.signed (e : DirEntry) : Bool := e.flags.testBit 0

def dirEntry (dir : List Nat) (i : Nat) : DirEntry :=
  let b := (dir.drop (0x100 + 96 * i)).take 96
  ⟨leAt b 0 2, leAt b 2 2, leAt b 4 4, leAt b 8 4, leAt b 0x0C 4, leAt b 0x10 4, (b.drop 0x20).take 64⟩

def imageSections (dir : List Nat) : Nat := leAt dir 0x0C 2

/-- The offset and length of a section's retained copy: the copies stand one after another from the Granary's first byte. -/
def Dev.retainedAt (d : Dev) (typ inst : Nat) : Nat × Nat :=
  let before := d.retained.takeWhile (fun s => !(s.typ == typ && s.inst == inst))
  ((before.map (fun s => s.bytes.length)).sum, (d.sect typ inst).length)

/-- The (KEY, VALUE) pairs of a policy-records section (03 R100). -/
def policyPairs : Nat → List Nat → List (Nat × Nat)
  | 0, _ => []
  | n + 1, l => if l.length < 8 then [] else (leAt l 0 2, leAt l 4 4) :: policyPairs n (l.drop 8)

/-- A policy key's value, or the default where the image has none (03 R100). -/
def Dev.policy (d : Dev) (key dflt : Nat) : Nat := ((d.pol.find? (fun p => p.1 == key)).map (fun p => p.2)).getD dflt

/-- Is a policy key present in the loaded image? -/
def Dev.hasPolicy (d : Dev) (key : Nat) : Bool := d.pol.any (fun p => p.1 == key)

/-- BASE_RPM, CEILING and FLOOR (05 R158, R188). -/
def Dev.baseRpm (d : Dev) : Nat := d.policy 0x1005 7200
def Dev.ceilingRpm (d : Dev) : Nat := d.policy 0x1009 7200
def Dev.floorRpm (d : Dev) : Nat := d.policy 0x100A d.ceilingRpm

/-! ### The zone and format table -/

/-- One zone entry (10 R373). -/
structure Zone where
  first : Nat
  last : Nat
  bpw : Nat
  spt : Nat
  code : Nat
  guard : Nat
  gap : Nat
  rate : Nat
  deriving DecidableEq, Repr

/-- Zone entry `z` of a zone and format section. -/
def zoneAt (b : List Nat) (z : Nat) : Zone :=
  let e := b.drop (0x20 + 32 * z)
  ⟨leAt e 0 4, leAt e 4 4, leAt e 8 4, leAt e 12 2, leAt e 14 1, leAt e 16 2, leAt e 18 2, leAt e 20 4⟩

def Dev.zoneTab (d : Dev) : List Nat := d.sect 0x10 0
def Dev.actuators (d : Dev) : Nat := leAt d.zoneTab 0 1
def Dev.zoneCount (d : Dev) : Nat := leAt d.zoneTab 1 1
/-- W, servo wedges per revolution (06 R209). -/
def Dev.wedges (d : Dev) : Nat := leAt d.zoneTab 2 2
def Dev.headsOn (d : Dev) (n : Nat) : Nat := if n < 4 then leAt d.zoneTab (4 + n) 1 else 0
def Dev.refRpm (d : Dev) : Nat := leAt d.zoneTab 8 2
/-- W of the Tithe stripe (17 R678). -/
def Dev.titheData (d : Dev) : Nat := leAt d.zoneTab 10 1
def Dev.tracks (d : Dev) : Nat := leAt d.zoneTab 12 4

/-- A position or target of SHP_POS or SHP_TARGET in 1/256 track (06 R214, R216): the upper half of the track numbers that TRACKS leaves free lies
outside track 0 (log entry 161). -/
def Dev.signedTrack (d : Dev) (v : Nat) : Int := if v / 256 < d.tracks + (2 ^ 24 - d.tracks) / 2 then (v : Int) else (v : Int) - 2 ^ 32

/-- A channel's position, in 1/256 track. -/
def Dev.posn (d : Dev) (n k : Nat) : Nat := d.getI F.SHP_POS_TRACK (2 * n + k) * 256 + d.getI F.SHP_POS_FRAC (2 * n + k)
def Dev.posAt (d : Dev) (n k : Nat) : Int := d.signedTrack (d.posn n k)

/-- The data track a position belongs to: the first where it lies outside it. -/
def trackIn (p : Int) : Nat := (p / 256).toNat
def Dev.zone (d : Dev) (z : Nat) : Zone := zoneAt d.zoneTab z

/-- The zone of a track; the last zone past the end (10 R374). -/
def Dev.zoneOf (d : Dev) (track : Nat) : Nat :=
  ((List.range d.zoneCount).find? (fun z => track ≤ (d.zone z).last)).getD (d.zoneCount - 1)

/-- Is actuator `n` fitted? -/
def Dev.actuatorFitted (d : Dev) (n : Nat) : Bool := n < d.actuators

/-- The heads fitted, as 10 R375 numbers them, in the interleaved order of 17 R677. -/
def Dev.headList (d : Dev) : List Nat :=
  (List.range 8).flatMap (fun s => ((List.range 4).filter (fun a => a < d.actuators && s < d.headsOn a)).map (fun a => 8 * a + s))

/-- Codeword bits N of a CODE (10 R382). -/
def codeBits (code : Nat) : Nat := if code = 0 then 38400 else if code = 1 then 36864 else 36000

/-- SVW of 10 R376. -/
def servoWindowBits (bpw : Nat) : Nat := ceilDiv (bpw * 5) 36

/-- D of 10 R376: channel bits of a data region. -/
def dataRegionBits (z : Zone) : Nat := z.bpw - servoWindowBits z.bpw - 2 * z.guard

/-- The place after `left` more bits, in regions of `dw` bits, where sectors start only in the first `w` regions
(10 R377); none where the sector does not end. -/
def layoutSkip (fuel dw w region pos left : Nat) : Option (Nat × Nat) :=
  match fuel with
  | 0 => none
  | f + 1 =>
    if dw - pos < left then (if region + 1 = w then none else layoutSkip f dw w (region + 1) 0 (left - (dw - pos)))
    else some (region, pos + left)

/-- The sectors of a track by 10 R377: (region, position) of each start, sector 0 first. -/
def layoutSectors (fuel dw w size region pos : Nat) : List (Nat × Nat) :=
  match fuel with
  | 0 => []
  | f + 1 =>
    let start := if dw - pos < 224 then (region + 1, 0) else (region, pos)
    if start.1 = w then []
    else
      match layoutSkip (w + 1) dw w start.1 start.2 size with
      | none => []
      | some p => start :: layoutSectors f dw w size p.1 p.2

/-- The sector starts of a zone; none where its D is below 224. -/
def sectorStarts (z : Zone) (w : Nat) : List (Nat × Nat) :=
  let dw := dataRegionBits z
  if dw < 224 then [] else layoutSectors (w * dw / 224 + 1) dw w (160 + codeBits z.code + 32 + z.gap) 0 0

/-- A code record of 10 R383 with its edges as (COL, ROW, SHIFT). -/
structure CodeRec where
  code : Nat
  rows : Nat
  cols : Nat
  edges : List (Nat × Nat × Nat)
  deriving DecidableEq, Repr

def codeEdge (w : Nat) : Nat × Nat × Nat := (slice w 21 11, slice w 13 8, slice w 0 5)

/-- The code records from CODE_OFF on; none where they do not fill the section or hold a reserved bit. -/
def codeRecs : Nat → List Nat → Option (List CodeRec)
  | 0, _ => none
  | f + 1, b =>
    if b.isEmpty then some []
    else
      let n := leAt b 6 2
      let ws := (List.range n).map (fun i => leAt b (8 + 4 * i) 4)
      if b.length < 8 + 4 * n || leAt b 1 1 != 0 || ws.any (fun w => slice w 5 8 != 0) then none
      else (codeRecs f (b.drop (8 + 4 * n))).map (fun r => ⟨leAt b 0 1, leAt b 2 2, leAt b 4 2, ws.map codeEdge⟩ :: r)

/-! ### The seek tables -/

/-- SEEK[i] of a seek section: DIST, T_RD, T_WR. -/
def seekEntry (b : List Nat) (i : Nat) : Nat × Nat × Nat :=
  let e := b.drop (0x110 + 16 * i)
  (leAt e 0 4, leAt e 4 4, leAt e 8 4)

/-- The seek time of a distance, µs (06 R223). -/
def seekTime (b : List Nat) (x : Nat) (write : Bool) : Nat :=
  let n := leAt b 2 1
  let e := seekEntry b (((List.range n).find? (fun i => x ≤ (seekEntry b i).1)).getD (n - 1))
  if write then e.2.2 else e.2.1

def Dev.seekSect (d : Dev) (n : Nat) : List Nat := d.sect 0x11 n

/-- The largest T_WR over all actuators fitted (06 R223). -/
def Dev.worstSeek (d : Dev) : Nat :=
  (List.range d.actuators).foldl (fun m n =>
    (List.range (leAt (d.seekSect n) 2 1)).foldl (fun m i => max m (seekEntry (d.seekSect n) i).2.2) m) 0

/-! ### The per-head calibration -/

/-- The body of the first record of a type among calibration records (06 R241). -/
def recordBody : Nat → List Nat → Nat → Option (List Nat)
  | 0, _, _ => none
  | f + 1, l, t =>
    if l.length < 4 then none
    else if leAt l 0 2 = t then some ((l.drop 4).take (leAt l 2 2))
    else recordBody f (l.drop (4 + (leAt l 2 2 + 3) / 4 * 4)) t

/-- A record of head `h` (06 R242, 09 R359, 11 R432). -/
def Dev.headRecord (d : Dev) (h t : Nat) : Option (List Nat) :=
  let b := d.sect 0x20 h
  if b.isEmpty then none else recordBody b.length (b.drop 4) t

/-- A head's GEOMETRY, with the values of R880 where it has no calibration section. -/
structure Geometry where
  reader : Nat
  resume : Nat
  kn : Nat
  kq : Nat
  wfl : Nat
  parkI : Nat
  deriving DecidableEq, Repr

def Dev.geometry (d : Dev) (h : Nat) : Geometry :=
  match d.headRecord h 0x100 with
  | some b => ⟨leAt b 0 1, leAt b 1 1, leAt b 2 2, leAt b 4 2, leAt b 6 2, leAt b 8 2⟩
  | none => ⟨0, 8, 128, 128, 32, 200⟩

/-- O_h of a zone, 1/256 track (06 R226, R242, R880). -/
def Dev.headOffset (d : Dev) (h z : Nat) : Int :=
  match d.headRecord h 0x100 with
  | some b => sleAt b (12 + 4 * z) 4
  | none => 0

/-- The guard G and MA_GAIN of a head; none without a section. -/
def Dev.headGuard (d : Dev) (h : Nat) : Nat :=
  match d.headRecord h 0x101 with
  | some b => leAt b 8 1
  | none => 0

def Dev.maGain (d : Dev) (h : Nat) : Nat :=
  match d.headRecord h 0x101 with
  | some b => leAt b 12 4
  | none => 0

/-- The reach of a table of eight points at θ in 1/16 °C, whole tracks rounded down (06 R228); the least value where no
temperature is valid (R229). -/
def reachAt (tab : List Nat) (theta : Option Int) : Nat :=
  let r := fun i => at' tab i 0
  match theta with
  | none => (tab.take 8).foldl min (r 0)
  | some t =>
    if t ≤ -80 then r 0
    else if 1600 ≤ t then r 7
    else
      let k := ((t + 80) / 240).toNat
      let frac := (t + 80) % 240
      (((r k : Int) * 240 + ((r (k + 1) : Int) - (r k : Int)) * frac) / 240).toNat

/-- reach_h of R228 and R229; zero without a section (03 R115). -/
def Dev.headReach (d : Dev) (h : Nat) (theta : Option Int) : Nat :=
  match d.headRecord h 0x101 with
  | some b => reachAt b theta
  | none => 0

end Sys2Proof.Machine
end

