-- ==== Sys2Proof/Machine/Interrupts.lean ====
section
/-! DEFINITION. The interrupt that each block raises to the Reeve cores: while a bit of a cause register and its enable are both 1 (spec/02 R84,
03 R125, 04 R153, 05 R207, 06 R255, 08 R321, 09 R370, 10 R418, 11 R447, 12 R501, 13 R545, 14 R583, 15 R622, 17 R721, 18 R767, 19 R816,
20 R839, 21 R874). -/

namespace Sys2Proof.Machine

/-- The offset of each block's INT_STAT from its base, by block number (01 R17); its INT_EN is the next register. -/
def intOffset : List Nat :=
  [0xB0, 0x80, 0x40, 0x40, 0x80, 0x10, 0x10, 0x40, 0x20, 0x40, 0x60, 0x60, 0x60, 0x28, 0x20, 0x40, 0x80, 0x180, 0xC0, 0x20, 0x80, 0x60, 0x80, 0x40]

/-- A whole register by its address. -/
def Dev.regAt (d : Dev) (a : Nat) : Nat := match regFind a with | some (r, i) => d.readRow r i | none => 0

/-- Is a bit of the register at `stat` set with its bit of the register after it? -/
def Dev.causeEnabled (d : Dev) (stat : Nat) : Bool := d.regAt stat &&& d.regAt (stat + 4) != 0

/-- The interrupt line of block `b`; of the Shepherds' block that of instance `n` (06 R255). The Porter's has the channels' causes beside the
block's own (14 R583). -/
def Dev.interrupt (d : Dev) (b n : Nat) : Bool :=
  let base := 0x20000000 + 0x10000 * b + (if b = 4 then 0x4000 * n else 0)
  d.causeEnabled (base + at' intOffset b 0) || (b == 13 && d.causeEnabled (base + 0x20))

/-- Does any block raise its interrupt to the Reeve cores? -/
def Dev.interrupts (d : Dev) : Bool := (List.range 24).any (fun b => (List.range (if b = 4 then 4 else 1)).any (d.interrupt b))

end Sys2Proof.Machine
end

