-- ==== Sys2Proof/Machine/MemOps.lean ====
section
/-! DEFINITION. The named operations over memory: the canonical byte list, the Granary's address map (spec/12), its symbol code
and ranks, the pool's tiles, the SRAM macros and the cache's snoops (spec/13). -/

namespace Sys2Proof.Machine

/-! ### Bytes in canonical form: addresses rising, no zero listed -/

/-- The byte at a key; a byte no cell lists reads zero (log entry 2). -/
def memAt : List Host.Cell → Nat → Nat
  | [], _ => 0
  | c :: r, k => if c.1 = k then c.2.toNat else memAt r k

def memDrop (l : List Host.Cell) (k : Nat) : List Host.Cell := l.filter (fun c => c.1 != k)

def memInsert : List Host.Cell → Nat → BitVec 8 → List Host.Cell
  | [], k, v => [(k, v)]
  | c :: r, k, v =>
    if c.1 = k then (k, v) :: r
    else if k < c.1 then (k, v) :: c :: r
    else c :: memInsert r k v

/-- The byte at a key takes `v`. -/
def memPut (l : List Host.Cell) (k v : Nat) : List Host.Cell :=
  let b := BitVec.ofNat 8 v
  if b = 0#8 then memDrop l k else memInsert l k b

/-- The canonical form: keys strictly rising, no byte zero. -/
def Memory.wf : List Host.Cell → Bool
  | [] => true
  | [c] => c.2 != 0#8
  | c :: e :: r => c.2 != 0#8 && decide (c.1 < e.1) && Memory.wf (e :: r)

/-- Bytes at rising keys. -/
def memPutAll (l : List Host.Cell) (key : Nat → Nat) : Nat → List Nat → List Host.Cell
  | _, [] => l
  | a, b :: r => memPutAll (memPut l (key a) b) key (a + 1) r

/-! ### Host memory as the device has written it -/

/-- A posted write to host memory. -/
def Dev.hostWrite (d : Dev) (addr : Nat) (bytes : List Nat) : Dev :=
  { d with hostMem := memPutAll d.hostMem id addr bytes }

/-! ### The Granary's address map -/

/-- The Granary window's first internal address (01 R40). -/
def granBase : Nat := 2 ^ 32

/-- The data capacity in bytes (12 R454). -/
def Dev.capacity (d : Dev) : Nat := d.get F.DDR_CONFIG_CAP_GIB * 2 ^ 30

/-- ORDERr of DDR_MAP_LO and DDR_MAP_HI. -/
def orderField (r : Nat) : Field := ⟨F.DDR_MAP_LO_ORDER0.key + r, 2, 0⟩

def Dev.order (d : Dev) (r : Nat) : Nat := d.get (orderField r)

/-- Where a line lies in the devices (12 R467): the bank group and bank are those used. -/
structure DPlace where
  sc : Nat
  bg : Nat
  ba : Nat
  col : Nat
  row : Nat
  rk : Nat
  deriving DecidableEq, Repr

/-- The bank bits of the density fitted (12 R467). -/
def Dev.baBits (d : Dev) : Nat := if d.on F.DDR_CONFIG_DENSITY then 2 else 1

/-- The place of byte `x` of the data capacity (12 R467 to R469). -/
def Dev.dramPlace (d : Dev) (x : Nat) : DPlace :=
  let o := d.order (x / 2 ^ 30)
  let w := d.baBits
  let q := x / 128
  let bg := if o % 2 = 0 then q % 8 else q / 64 % 8
  let col := if o % 2 = 0 then q / 8 % 64 else q % 64
  let ba := q / 512 % 2 ^ w
  let row := q / 512 / 2 ^ w % 65536
  let rk := q / 512 / 2 ^ w / 65536
  if 2 ≤ o then ⟨x / 64 % 2, bg ^^^ (row % 8), ba ^^^ (row / 8 % 2 ^ w), col, row, rk⟩
  else ⟨x / 64 % 2, bg, ba, col, row, rk⟩

/-- The number of a line's place: the same for every address that reaches the place. -/
def Dev.placeKey (d : Dev) (p : DPlace) : Nat :=
  p.sc + 2 * (p.bg + 8 * (p.col + 64 * (p.ba + 2 ^ d.baBits * (p.row + 65536 * p.rk))))

/-- The key under which byte `x` of the data capacity is held. -/
def Dev.dramKey (d : Dev) (x : Nat) : Nat := granBase + 64 * d.placeKey (d.dramPlace x) + x % 64

/-- The line number `dramKey` gives the line that holds byte `x`. -/
def Dev.lineKey (d : Dev) (x : Nat) : Nat := d.placeKey (d.dramPlace x)

/-- Bytes of the devices from byte `x` of the capacity on. -/
def Dev.dramRead (d : Dev) (x n : Nat) : List Nat := (List.range n).map (fun i => memAt d.mem (d.dramKey (x + i)))

/-- The line numbers of `n` bytes from byte `x`. -/
def linesOf (x n : Nat) : List Nat :=
  if n = 0 then [] else (List.range ((x + n - 1) / 64 - x / 64 + 1)).map (fun i => x / 64 + i)

/-- Bytes written to the devices: a line written whole loses its poison (12 R480). -/
def Dev.dramWrite (d : Dev) (x : Nat) (bytes : List Nat) : Dev :=
  let whole := (linesOf x bytes.length).filter (fun l => x ≤ 64 * l && 64 * l + 64 ≤ x + bytes.length)
  let keys := whole.map (fun l => d.lineKey (64 * l))
  { d with mem := memPutAll d.mem d.dramKey x bytes,
           ddr := { d.ddr with poison := d.ddr.poison.filter (fun k => !keys.contains k) } }

/-- Is the line of byte `x` poisoned in the devices? -/
def Dev.poisoned (d : Dev) (x : Nat) : Bool := d.ddr.poison.contains (d.lineKey x)

/-- The line of byte `x` takes the poison pattern (12 R478). -/
def Dev.poisonLine (d : Dev) (x : Nat) : Dev :=
  if d.poisoned x then d else { d with ddr := { d.ddr with poison := d.lineKey x :: d.ddr.poison } }

/-! ### The pool and the side table (12 R489) -/

def Dev.poolTiles (d : Dev) : Nat := d.get F.GRN_POOL_TILES_TILES

/-- The first byte of tile `t` in the data capacity. -/
def Dev.tileBase (d : Dev) (t : Nat) : Nat := (d.get F.GRN_POOL_BASE_TILES + t) * 4096

/-- The pool tile that byte `x` of the capacity lies in. -/
def Dev.tileOf (d : Dev) (x : Nat) : Option Nat :=
  let b := d.get F.GRN_POOL_BASE_TILES
  if b ≤ x / 4096 ∧ x / 4096 < b + d.poolTiles then some (x / 4096 - b) else none

/-- Does byte `x` of the capacity lie in the side table? -/
def Dev.inSideTable (d : Dev) (x : Nat) : Bool :=
  let b := d.get F.GRN_SIDE_BASE_TILES * 4096
  0 < d.poolTiles && b ≤ x && x < b + 16 * d.poolTiles

def Dev.tile (d : Dev) (t : Nat) : Tile := (d.grn.tiles.find? (fun e => e.num == t)).getD { num := t }

/-- STATE as the side table codes it (12 R489). -/
def TileState.code : TileState → Nat
  | .empty => 0
  | .opened => 1
  | .sealed => 2
  | .bad => 3
  | .test => 4
  | .retired => 5

/-- Byte `x` of the side table: byte x mod 16 of its tile's entry (12 R489). -/
def Dev.sideByte (d : Dev) (x : Nat) : Nat :=
  let o := x - d.get F.GRN_SIDE_BASE_TILES * 4096
  let e := d.tile (o / 16)
  at' (leBytes 8 e.crc ++ [e.state.code, e.producer, 0, 0] ++ leBytes 4 e.gen) (o % 16) 0

/-! ### The cache as every other agent meets it (13 R504, R526) -/

def Dev.cline (d : Dev) (l : Nat) : Option CLine := d.mcc.lines.find? (fun c => c.line == l)

def Dev.victim (d : Dev) (l : Nat) : Option Victim := d.mcc.victims.find? (fun v => v.line == l)

def Dev.dropLine (d : Dev) (l : Nat) : Dev :=
  { d with mcc := { d.mcc with lines := d.mcc.lines.filter (fun (c : CLine) => c.line != l) } }

def Dev.dropVictim (d : Dev) (l : Nat) : Dev :=
  { d with mcc := { d.mcc with victims := d.mcc.victims.filter (fun (v : Victim) => v.line != l) } }

/-- A dirty line reaches the Granary (MCC_WB). -/
def Dev.writeBack (d : Dev) (l : Nat) (data : List Nat) : Dev := (d.dramWrite (64 * l) data).inc F.MCC_WB_COUNT

/-! ### SRAM macros (spec/13) -/

def Dev.macro (d : Dev) (m : Nat) : Macro := (d.srm.macros.find? (fun e => e.num == m)).getD { num := m }

def Dev.setMacro (d : Dev) (e : Macro) : Dev :=
  let l := d.srm.macros
  { d with srm := { d.srm with macros := if l.any (fun (x : Macro) => x.num == e.num) then l.map (fun (x : Macro) => if x.num == e.num then e else x)
                                         else l ++ [e] } }

/-- The macro and word of on-die SRAM (R530) or of the scratchpad window (R514, R530). -/
def sramWord (addr : Nat) : Nat × Nat :=
  if addr < 0x10400000 then ((addr - 0x10000000) / 65536, (addr - 0x10000000) % 65536 / 8)
  else
    let o := addr - 0x10400000
    let set := o / 64 % 4096
    (16 + 4 * (o / 2 ^ 18) + set / 1024, set % 1024 * 8 + o % 64 / 8)

/-- The data macro and word of a byte of a cached line, and the tag macro and word (R530). -/
def lineWord (line way off : Nat) : Nat × Nat := (16 + 4 * way + line % 4096 / 1024, line % 1024 * 8 + off / 8)

/-- Is a macro on-die SRAM or a data macro of a locked way? -/
def Dev.plainMacro (d : Dev) (m : Nat) : Bool := m < 16 || (m < 80 && (m - 16) / 4 < d.get F.MCC_LOCK_WAYS)

/-- The cache way whose words a macro holds. -/
def macroWay (m : Nat) : Nat := if m < 80 then (m - 16) / 4 else m - 80

/-- An unlocked cache way is fenced: its lines are cleaned and leave the cache (R536). -/
def Dev.wayFence (d : Dev) (w m : Nat) : Dev :=
  if d.bit F.MCC_FENCE_WAYS w then d
  else
    let mine := d.mcc.lines.filter (fun (c : CLine) => c.way == w)
    let d := d.each mine (fun d c => (if c.dirty then d.writeBack c.line c.data else d).dropLine c.line)
    ((d.setBit F.MCC_FENCE_WAYS w true).put F.MCC_INT_STAT_FENCE 1).post 0x3107 [w, m]

/-- A failing word is remapped to a spare, or no spare is left (R534 to R536): `cause` 0 march test, 1 repeat, 2 read-back. -/
def Dev.wordRemap (d : Dev) (m word cause : Nat) : Dev :=
  let e := d.macro m
  if e.remaps.any (fun r => r.1 == word) then d
  else if e.remaps.length < 8 then
    let d := d.setMacro { e with remaps := e.remaps ++ [(word, cause)], bad := e.bad.filter (fun x => x != word),
                                 flipped := e.flipped.filter (fun x => x.1 != word) }
    (d.put F.SRM_INT_STAT_REMAP 1).post 0x310A [m, word, e.remaps.length + 1, cause]
  else
    let d := (d.setMacro { e with exhausted := true }).put F.SRM_INT_STAT_EXHAUSTED 1
    if m < 16 || macroWay m < d.get F.MCC_LOCK_WAYS then d.post 0x3108 [m, word] else d.wayFence (macroWay m) m

/-- SRM_OVERi. -/
def Dev.setOver (d : Dev) (m : Nat) (b : Bool) : Dev :=
  d.putI F.SRM_OVER_MASK (m / 32) (withBit (d.getI F.SRM_OVER_MASK (m / 32)) (m % 32) b)

def Dev.over (d : Dev) (m : Nat) : Bool := (d.getI F.SRM_OVER_MASK (m / 32)).testBit (m % 32)

/-- The bucket of a macro takes `v` (R539). -/
def Dev.setBucket (d : Dev) (m v : Nat) : Dev :=
  let e := d.macro m
  let d := d.setMacro { e with bucket := v }
  let thr := d.get F.SRM_LB_CFG_THRESH
  if d.over m then (if 2 * v < thr then d.setOver m false else d)
  else if thr ≤ v then ((d.setOver m true).put F.SRM_INT_STAT_BUCKET 1).post 0x3109 [m, v, e.ce]
  else d

/-- The last error shown. -/
def Dev.showSram (d : Dev) (kind m word : Nat) : Dev :=
  ((d.put F.SRM_LAST_ERR_KIND kind).put F.SRM_LAST_ERR_MACRO m).put F.SRM_LAST_ERR_WORD word

/-- A double-bit error is counted. -/
def Dev.sramDouble (d : Dev) (m word : Nat) : Dev :=
  ((d.inc F.SRM_UE_TOTAL_COUNT).showSram 2 m word).put F.SRM_INT_STAT_UNCORR 1

/-- Is a word's valid bit set (R532)? -/
def Dev.wordValid (d : Dev) (m word : Nat) : Bool := d.srm.valid.contains (8192 * m + word)

/-- The error a read of a word meets: none in a word whose valid bit is clear or of which the flip mask is the whole story, else what
the array gives (R532, R540). -/
def Dev.wordEcc (d : Dev) (m word : Nat) (o : Ecc) : Ecc :=
  if !d.wordValid m word then .clean
  else
    match (d.macro m).flipped.find? (fun e => e.1 == word) with
    | some e =>
      let k := popCount 64 e.2.1 + popCount 8 e.2.2
      if k = 1 then .single else if k = 2 then .double else o
    | none => if (d.macro m).bad.contains word then .double else o

/-- A word is written: its valid bit sets, it faults no longer, and an armed flip mask alters what is stored (R532, R540, R541). `back`
is false where the read-back of a faulting word fails. -/
def Dev.wordWritten (d : Dev) (m word : Nat) (back : Bool) : Dev :=
  let e := d.macro m
  let wasBad := e.bad.contains word
  let d := d.setMacro { e with bad := e.bad.filter (fun x => x != word), flipped := e.flipped.filter (fun x => x.1 != word) }
  let d := if d.wordValid m word then d else { d with srm := { d.srm with valid := (8192 * m + word) :: d.srm.valid } }
  let d := if wasBad && !back then d.wordRemap m word 2 else d
  if d.on F.SRM_FLIP_CTRL_ARMED && d.get F.SRM_FLIP_CTRL_MACRO = m then
    let mask := d.get F.SRM_FLIP_MASK_LO_MASK + 2 ^ 32 * d.get F.SRM_FLIP_MASK_HI_MASK
    let ck := d.get F.SRM_FLIP_CTRL_CHECK_MASK
    let e := d.macro m
    let d := if mask = 0 ∧ ck = 0 then d else d.setMacro { e with flipped := (word, mask, ck) :: e.flipped }
    (d.put F.SRM_FLIP_CTRL_ARMED 0).post 0x310D [m, word, ck]
  else d

/-- A single-bit error is corrected and the corrected word written back (R531, R535, R538). -/
def Dev.sramCorrected (d : Dev) (m word : Nat) : Dev :=
  let e := d.macro m
  let d := d.setMacro { e with ce := satAdd 16 e.ce 1, recent := (word :: e.recent).take 4 }
  let d := ((d.inc F.SRM_CE_TOTAL_COUNT).showSram 1 m word).setBucket m (min 255 (e.bucket + d.get F.SRM_LB_CFG_INC))
  let d := d.wordWritten m word true
  if e.recent.contains word then d.wordRemap m word 1 else d

/-! ### Lines leave the cache -/

/-- The words of a cached line are read: single-bit errors are corrected; the macro of an uncorrectable word (R529, R531). -/
def Dev.lineWords (d : Dev) (c : CLine) : Dev × Option Nat :=
  let words := (List.range 8).map (fun i => lineWord c.line c.way (8 * i))
  match words.find? (fun w => d.wordEcc w.1 w.2 .clean == .double) with
  | some w => (d.sramDouble w.1 w.2, some w.1)
  | none => (d.each (words.filter (fun w => d.wordEcc w.1 w.2 .clean == .single)) (fun d w => d.sramCorrected w.1 w.2), none)

/-- A dirty line with an uncorrectable word is written back with poison (R529). -/
def Dev.poisonBack (d : Dev) (c : CLine) (m : Nat) : Dev :=
  let addr := granBase + 64 * c.line
  (((d.writeBack c.line c.data).poisonLine (64 * c.line)).put F.MCC_INT_STAT_FILL_ERR 1).post 0x3106 [m, addr % 2 ^ 32, addr / 2 ^ 32]

/-- A line is written back where it is dirty. -/
def Dev.castOut (d : Dev) (c : CLine) : Dev :=
  if !c.dirty then d
  else
    let r := d.lineWords c
    match r.2 with
    | some m => r.1.poisonBack c m
    | none => r.1.writeBack c.line c.data

/-- A non-caching write finds a line: written back if dirty, and invalidated (13 R504). -/
def Dev.snoopInvalidate (d : Dev) (l : Nat) : Dev :=
  let d := match d.cline l with
    | none => d
    | some c => (d.castOut c).dropLine l
  match d.victim l with
  | none => d
  | some v => (d.writeBack l v.data).dropVictim l

/-- A write to the line of a core's reservation ends the reservation (01 R38). -/
def Dev.dropResv (d : Dev) (addr n : Nat) : Dev :=
  { d with bus := { d.bus with resv := d.bus.resv.map (fun r => match r with
    | some a => if addr < (a / 64 + 1) * 64 && a / 64 * 64 < addr + n then none else some a
    | none => none) } }

/-- A write of a non-caching agent to the Granary, from byte `x` of the capacity (13 R504). -/
def Dev.granWrite (d : Dev) (x : Nat) (bytes : List Nat) : Dev :=
  ((d.each (linesOf x bytes.length) Dev.snoopInvalidate).dramWrite x bytes).dropResv (granBase + x) bytes.length

/-- A byte as a non-caching read sees it: a dirty line's data come from the cache (13 R504). -/
def Dev.granByte (d : Dev) (x : Nat) : Nat :=
  match d.cline (x / 64) with
  | some c => if c.dirty then at' c.data (x % 64) 0 else if d.inSideTable x then d.sideByte x else memAt d.mem (d.dramKey x)
  | none =>
    match d.victim (x / 64) with
    | some v => at' v.data (x % 64) 0
    | none => if d.inSideTable x then d.sideByte x else memAt d.mem (d.dramKey x)

def Dev.granRead (d : Dev) (x n : Nat) : List Nat := (List.range n).map (fun i => d.granByte (x + i))

/-- Does a non-caching read of the bytes meet poison? -/
def Dev.granPoisoned (d : Dev) (x n : Nat) : Bool :=
  (linesOf x n).any (fun l => d.poisoned (64 * l) && !(match d.cline l with | some c => c.dirty | none => (d.victim l).isSome))

/-! ### Ranks, errors, migrations (spec/12) -/

/-- DDR_RANKS roles. -/
def roleAbsent : Nat := 0
def roleActive : Nat := 1
def roleSpare : Nat := 2
def roleRetired : Nat := 3

def rolesField (sc : Nat) : Field := if sc = 0 then F.DDR_RANKS_ROLES_A else F.DDR_RANKS_ROLES_B

def Dev.rankRole (d : Dev) (sc rank : Nat) : Nat := slice (d.get (rolesField sc)) (2 * rank) 2

def Dev.setRank (d : Dev) (sc rank role : Nat) : Dev :=
  d.put (rolesField sc) (withSlice (d.get (rolesField sc)) (2 * rank) 2 role)

/-- The physical rank that serves active rank `rk` of a subchannel. -/
def Dev.physRank (d : Dev) (sc rk : Nat) : Nat :=
  ((d.ddr.served.find? (fun e => e.1 == sc && e.2.1 == rk)).map (fun e => e.2.2)).getD rk

/-- The active rank number a physical rank serves as. -/
def Dev.rkOf (d : Dev) (sc rank : Nat) : Option Nat := (List.range 2).find? (fun rk => d.physRank sc rk == rank)

def ceField (sc rank : Nat) : Field :=
  if sc = 0 then (if rank = 0 then F.DDR_CE_A_RANK0 else if rank = 1 then F.DDR_CE_A_RANK1 else F.DDR_CE_A_RANK2)
  else if rank = 0 then F.DDR_CE_B_RANK0 else if rank = 1 then F.DDR_CE_B_RANK1 else F.DDR_CE_B_RANK2

/-- DDR_STAT.STATE values. -/
def ddrRun : Nat := 2
def ddrSelfRefresh : Nat := 3
def ddrFailed : Nat := 4

def Dev.migration (d : Dev) (sc : Nat) : Option Migration := d.ddr.migs.find? (fun m => m.sc == sc)

def Dev.setMigs (d : Dev) (l : List Migration) : Dev :=
  ({ d with ddr := { d.ddr with migs := l } }.flag F.DDR_STAT_MIGRATING (!l.isEmpty)).flag F.DDR_MIG_ACTIVE (!l.isEmpty)

/-- Lines of a rank's data. -/
def Dev.rankLines (d : Dev) : Nat := 2 ^ (8 + 6 + d.baBits + 16) / 32

/-- The place of a line in ascending order of the rank's data (12 R484). -/
def Dev.rankLine (d : Dev) (p : DPlace) : Nat := p.bg + 8 * (p.col + 64 * (p.ba + 2 ^ d.baBits * p.row))

/-- The physical rank that serves a place now: below a migration's pointer the spare (12 R485). -/
def Dev.servingRank (d : Dev) (p : DPlace) : Nat :=
  let r := d.physRank p.sc p.rk
  match d.migration p.sc with
  | some m => if m.src = r && d.rankLine p < m.lines then m.dst else r
  | none => r

/-- Does a migration run from the rank that serves a tile (12 R484)? -/
def Dev.tileMigrates (d : Dev) (t : Nat) : Bool :=
  let p := d.dramPlace (d.tileBase t)
  d.ddr.migs.any (fun m => m.src == d.physRank m.sc p.rk)

/-- DDR_MIG and DDR_MIG_PTR show a migration. -/
def Dev.showMig (d : Dev) (m : Migration) : Dev :=
  let d := ((d.put F.DDR_MIG_SC m.sc).put F.DDR_MIG_FROM m.src).put F.DDR_MIG_TO m.dst
  ((d.put F.DDR_MIG_CAUSE m.cause).put F.DDR_MIG_MS (min m.ms 65535)).put F.DDR_MIG_PTR_PTR (m.lines / 64)

/-- A rank fault (12 R483, R488, R498): `cause` 0 uncorrectable, 1 retraining, 2 CE_LIMIT. -/
def Dev.rankFault (d : Dev) (sc rank cause : Nat) : Dev :=
  let role := d.rankRole sc rank
  if role = roleSpare then
    match d.migration sc with
    | some _ => d.post 0x3009 [sc, rank]
    | none => (d.setRank sc rank roleRetired).post 0x3007 [sc, rank, cause, 1]
  else if role = roleActive then
    match d.migration sc with
    | some m => if m.src = rank then d else d.post 0x3009 [sc, rank]
    | none =>
      match (List.range 3).find? (fun r => d.rankRole sc r == roleSpare) with
      | none => d.post 0x3009 [sc, rank]
      | some t =>
        let m : Migration := { sc := sc, src := rank, dst := t, cause := cause }
        ((d.setMigs (d.ddr.migs ++ [m])).showMig m).post 0x3007 [sc, rank, cause, 0]
  else d

/-- The error registers show a line, by its internal address (12 R499). -/
def Dev.showError (d : Dev) (kind symbol sc rank addr : Nat) : Dev :=
  let d := (d.put F.DDR_ERR_ADDR_LO_ADDR addr).put F.DDR_ERR_ADDR_HI_ADDR (addr / 2 ^ 32)
  (((d.put F.DDR_ERR_INFO_KIND kind).put F.DDR_ERR_INFO_SYMBOL symbol).put F.DDR_ERR_INFO_SC sc).put F.DDR_ERR_INFO_RANK rank

/-- A corrected read (12 R477, R483). -/
def Dev.correctedRead (d : Dev) (sc rank symbol addr : Nat) : Dev :=
  let d := (d.inc (ceField sc rank)).put F.DDR_INT_STAT_CORR 1
  let d := (d.showError 0 symbol sc rank addr).post 0x3005 [sc, rank, symbol, addr % 2 ^ 32]
  if d.get (ceField sc rank) = d.policy 0x3002 64 then d.rankFault sc rank 2 else d

/-- An uncorrectable read (12 R478, R483). -/
def Dev.uncorrectableRead (d : Dev) (sc rank addr : Nat) : Dev :=
  let d := (d.inc F.DDR_UE_UNCORR).put F.DDR_INT_STAT_UNCORR 1
  let d := (d.showError 1 0xFF sc rank addr).post 0x3006 [sc, rank, addr % 2 ^ 32, addr / 2 ^ 32]
  d.rankFault sc rank 0

/-- A poisoned line is read (12 R478). -/
def Dev.poisonRead (d : Dev) (x cls : Nat) : Dev :=
  let p := d.dramPlace x
  let addr := granBase + x / 64 * 64
  let d := (d.inc F.DDR_UE_POISON).put F.DDR_INT_STAT_POISON 1
  (d.showError 2 0xFF p.sc (d.servingRank p) addr).post 0x300A [addr % 2 ^ 32, cls]

/-- Every open row of the ranks `which` names is closed; predictors stay (12 R474). -/
def Dev.closeRows (d : Dev) (which : Nat → Bool) : Dev :=
  { d with ddr := { d.ddr with banks := d.ddr.banks.map (fun (b : Bank) => if which b.num then { b with row := none } else b) } }

/-- Every rank enters self-refresh (12 R465, R498): `cause` 0 XIN failure, which abandons a migration, 1 MEM power-down. -/
def Dev.selfRefresh (d : Dev) (cause : Nat) : Dev :=
  if d.get F.DDR_STAT_STATE != ddrRun then d
  else
    let d := if cause = 0 then
        (d.each d.ddr.migs (fun d m => d.setRank m.sc m.src roleRetired)).setMigs []
      else d
    ((d.closeRows (fun _ => true)).put F.DDR_STAT_STATE ddrSelfRefresh).post 0x300B [cause]

/-- Self-refresh is left once the DDR island is back on PLL2 with MEM powered: every rank is retrained at the rate in force before a request is
accepted (12 R466; log entry 148). -/
def Dev.selfRefreshExit (d : Dev) : Dev :=
  if d.get F.DDR_STAT_STATE = ddrSelfRefresh && d.powered 8 && d.getI F.CLK_ISL_STAT_SRC_NOW 0x0A == 0 then d.put F.DDR_STAT_STATE ddrRun else d

/-! ### Tiles (spec/12) -/

/-- The CRC-64 of 12 R491 (ECMA-182): one byte, most significant bit first. -/
def crcBit (c : Nat) : Nat :=
  if c.testBit 63 then (c * 2 % 2 ^ 64) ^^^ 0x42F0E1EBA9EA3693 else c * 2

def crcByte (c b : Nat) : Nat :=
  crcBit (crcBit (crcBit (crcBit (crcBit (crcBit (crcBit (crcBit (c ^^^ (b % 256 * 2 ^ 56)))))))))

def crc64 (l : List Nat) : Nat := l.foldl crcByte 0

/-- A tile's entry in the side table is written: a cached line of it leaves the cache (13 R504). -/
def Dev.setTile (d : Dev) (e : Tile) : Dev :=
  let d := if 0 < d.poolTiles then d.snoopInvalidate ((d.get F.GRN_SIDE_BASE_TILES * 4096 + 16 * e.num) / 64) else d
  let l := d.grn.tiles
  { d with grn := { d.grn with tiles := if l.any (fun (x : Tile) => x.num == e.num) then l.map (fun (x : Tile) => if x.num == e.num then e else x)
                                        else l ++ [e] } }

/-- GRN_BAD counts the tiles BAD or in TEST, and the tiles RETIRED. -/
def Dev.countTiles (d : Dev) : Dev :=
  let n := fun (p : Tile → Bool) => (d.grn.tiles.filter p).length
  (d.put F.GRN_BAD_BAD (min 65535 (n (fun e => e.state == .bad || e.state == .test)))).put F.GRN_BAD_RETIRED
    (min 65535 (n (fun e => e.state == .retired)))

/-- A write to a pool tile or the side table is refused (12 R493): `agent` 0 Reeve core, 1 Porter, 2 out of sequence. -/
def Dev.writeRefused (d : Dev) (t agent : Nat) : Dev :=
  ((d.inc F.GRN_REFUSED_WRITES).put F.GRN_INT_STAT_REFUSED 1).post 0x3014 [t, agent]

/-- PRODUCER values of the side table: slice, Porter, parity engine. -/
def prodSlice : Nat := 1
def prodPorter : Nat := 2
def prodParity : Nat := 3

/-- A producing port writes bytes of a tile (12 R492 to R494), with whether the write was performed. A write to a tile in TEST
waits and is counted as performed here. -/
def Dev.tileWrite (d : Dev) (producer t off : Nat) (bytes : List Nat) : Dev × Bool :=
  let e := d.tile t
  let start := off = 0 && (e.state == .empty || e.state == .sealed)
  let goes := e.state == .opened && e.next = off && e.producer = producer && off != 0
  let refused := if e.state = .bad ∨ e.state = .retired then (if producer = prodPorter then 1 else 2) else 2
  if e.state = .test then (d.setTile { e with held := e.held ++ [(producer, off, bytes)] }, true)
  else if (!start && !goes) || bytes.isEmpty || 4096 < off + bytes.length || d.poolTiles ≤ t then (d.writeRefused t refused, false)
  else
    let d := d.granWrite (d.tileBase t + off) bytes
    let e := if start then { e with state := .opened, producer := producer, gen := (e.gen + 1) % 2 ^ 32 } else e
    let e := { e with next := off + bytes.length }
    let e := if e.next = 4096 then { e with state := .sealed, next := 0, crc := crc64 (d.granRead (d.tileBase t) 4096) } else e
    (d.setTile e, true)

/-- A whole tile is produced at once. -/
def Dev.tileFill (d : Dev) (producer t : Nat) (bytes : List Nat) : Dev × Bool := d.tileWrite producer t 0 bytes

/-- The answer to a checked use (12 R495, R496). -/
inductive UseAnswer where
  | good | notSealed | mismatch
  deriving DecidableEq, Repr

/-- A checked use of a tile (12 R495, R496, R498): `consumer` 0 write channel, 1 Porter, 2 parity engine; `intact` is false where the
bytes read differ from the bytes the devices were given. A mismatch sets the tile BAD and its test begins, so its state is TEST. -/
def Dev.tileUse (d : Dev) (t consumer : Nat) (intact : Bool) : Dev × UseAnswer :=
  let e := d.tile t
  if e.state != .sealed then
    (((d.inc F.GRN_REFUSED_USES).put F.GRN_INT_STAT_REFUSED 1).post 0x3013 [t, consumer, e.state.code], .notSealed)
  else if intact && !d.granPoisoned (d.tileBase t) 4096 && crc64 (d.granRead (d.tileBase t) 4096) == e.crc then (d, .good)
  else
    let d := (d.setTile { e with state := .test, next := 0 }).countTiles
    let d := (d.inc F.GRN_MISMATCH_COUNT).put F.GRN_INT_STAT_MISMATCH 1
    let d := ((d.put F.GRN_LAST_CONSUMER consumer).put F.GRN_LAST_PRODUCER e.producer).put F.GRN_LAST_TILE t
    (d.post 0x3010 [t, consumer, e.producer, e.gen], .mismatch)

/-! ### On-die SRAM and the scratchpad (spec/13) -/

/-- Does an address lie in on-die SRAM, or in the locked part of the scratchpad window (01 R40, R42, 13 R513)? -/
def Dev.isSram (d : Dev) (addr : Nat) : Bool :=
  (0x10000000 ≤ addr && addr < 0x10100000) ||
  (0x10400000 ≤ addr && addr < 0x10400000 + d.get F.MCC_LOCK_WAYS * 2 ^ 18)

/-- Is a Granary address within the data capacity? -/
def Dev.isGranary (d : Dev) (addr : Nat) : Bool := granBase ≤ addr && addr < granBase + d.capacity

/-- Bytes of on-die SRAM or the scratchpad as they are held. -/
def Dev.sramRead (d : Dev) (addr n : Nat) : List Nat := (List.range n).map (fun i => memAt d.mem (addr + i))

/-- Bytes written to on-die SRAM or the scratchpad. -/
def Dev.sramWrite (d : Dev) (addr : Nat) (bytes : List Nat) (back : Bool) : Dev :=
  let d := { d with mem := memPutAll d.mem id addr bytes }
  let words := if bytes.isEmpty then [] else
    (List.range ((addr + bytes.length - 1) / 8 - addr / 8 + 1)).map (fun i => sramWord (8 * (addr / 8 + i)))
  (d.each words (fun d w => d.wordWritten w.1 w.2 back)).dropResv addr bytes.length

/-! ### Memory as the Porter and the boot ROM meet it: no cache between -/

/-- May a Porter or other non-caching access touch these bytes (01 R42, R43)? -/
def Dev.reachable (d : Dev) (addr n : Nat) : Bool :=
  n != 0 && ((d.isSram addr && d.isSram (addr + n - 1) && ((addr < 0x10100000) == (addr + n ≤ 0x10100000))) ||
    (d.isGranary addr && d.isGranary (addr + n - 1)))

def Dev.busRead (d : Dev) (addr n : Nat) : List Nat :=
  if granBase ≤ addr then d.granRead (addr - granBase) n else d.sramRead addr n

def Dev.busWrite (d : Dev) (addr : Nat) (bytes : List Nat) : Dev :=
  if granBase ≤ addr then d.granWrite (addr - granBase) bytes else d.sramWrite addr bytes true

end Sys2Proof.Machine
end

