-- ==== Sys2Proof/Machine/Channel.lean ====
section
/-! DEFINITION. The signal between a sector's bytes and its samples (spec/09 R337 to R340, spec/10 R379 to R393): the partial-response target, the
sample word, the written sector, the scrambler, the codes' checks, the detector and the decoder. -/

namespace Sys2Proof.Machine

/-! ### Symbols and the target (09 R337 to R340; 10 R379) -/

def intAt (l : List Int) (i : Nat) : Int := at' l i 0

/-- The symbol of a written bit (10 R379). -/
def symbol (b : Bool) : Int := if b then 1 else -1

/-- d of R338 from the symbols of the bit and the four before it. -/
def idealOut (g : List Int) (sym : Nat → Int) : Int := (List.range 5).foldl (fun (z : Int) j => z + intAt g j * sym j) 0

/-- Preamble bit `k`, counted from any multiple of 4: 0b1100 repeated (09 R339, 10 R379). -/
def preBit (k : Nat) : Bool := k % 4 < 2

/-- d at preamble bit `k`. -/
def preIdeal (g : List Int) (k : Nat) : Int := idealOut g (fun j => symbol (preBit (k + 8 - j)))

/-- A sample word as it crosses the crossbar (09 R340). -/
def sampleWord (erase ta : Bool) (y a b : Int) : Nat :=
  (if erase then 2 ^ 31 else 0) + (if ta then 2 ^ 30 else 0) + ofSigned 10 y * 2 ^ 20 + ofSigned 7 b * 2 ^ 7 + ofSigned 7 a

/-- A sample word as the sample store holds it (10 R401). -/
def storedSample (w : Nat) : Nat := slice w 31 1 * 2 ^ 15 + slice w 30 1 * 2 ^ 14 + slice w 20 10

/-- ERASE and Y of a stored sample. -/
def sampleErased (w : Nat) : Bool := w.testBit 15
def sampleY (w : Nat) : Int := toSigned 10 w

/-! ### The written sector (10 R379 to R381) -/

def syncMark1 : Nat := 0x0E9B35
def syncMark2 : Nat := 0x35B90E

/-- The `n` low bits of a word, the most significant first. -/
def msbBits (n w : Nat) : List Bool := (List.range n).map (fun i => w.testBit (n - 1 - i))

/-- Bytes as bits, each byte's most significant first (10 R380). -/
def byteBits (l : List Nat) : List Bool := l.flatMap (msbBits 8)

/-- Bits as bytes. -/
def bitBytes : Nat → List Bool → List Nat
  | 0, _ => []
  | n + 1, l => ((l.take 8).foldl (fun v b => 2 * v + b.toNat) 0) :: bitBytes n (l.drop 8)

/-- One step of x^23 + x^18 + 1 (10 R381): the bit put out enters the register at its low end (log entry 143). -/
def scrambleStep (r : Nat) : Bool × Nat :=
  let b := r.testBit 22 != r.testBit 17
  (b, (2 * r + b.toNat) % 2 ^ 23)

/-- Bits XORed with the scrambler's output from register `r` on. -/
def scramble : Nat → List Bool → List Bool
  | _, [] => []
  | r, b :: l => let s := scrambleStep r; (b != s.1) :: scramble s.2 l

/-- The seed of sector `i` of track `t` (10 R381). -/
def scrambleSeed (t i : Nat) : Nat := 0x400000 + t % 2048 * 2048 + i % 2048

/-- Information bits of every code (10 R382). -/
def infoBits : Nat := 32896

/-- The edges of base row `r` as (column, shift). -/
def CodeRec.row (c : CodeRec) (r : Nat) : List (Nat × Nat) := (c.edges.filter (fun e => e.2.1 == r)).map (fun e => (e.1, e.2.2))

/-- The codeword bits of check 32r + t (10 R384). -/
def checkBits (row : List (Nat × Nat)) (t : Nat) : List Nat := row.map (fun e => 32 * e.1 + (t + e.2) % 32)

/-- The parity of a word's bits at some places. -/
def parityAt (w : Array Bool) (places : List Nat) : Bool := places.foldl (fun p i => p != w.getD i false) false

/-- The checks of a row that a word does not satisfy. -/
def rowUnsat (w : Array Bool) (row : List (Nat × Nat)) : Nat := ((List.range 32).filter (fun t => parityAt w (checkBits row t))).length

def CodeRec.baseRows (c : CodeRec) : List (List (Nat × Nat)) := (List.range c.rows).map c.row

/-- The checks that a word leaves unsatisfied (10 R384). -/
def CodeRec.unsat (c : CodeRec) (w : Array Bool) : Nat := (c.baseRows.map (rowUnsat w)).sum

/-- A codeword from its data bits, the parity computed row by row: column 1,028 + j stands on row j's diagonal (10 R385; 11 R423). -/
def CodeRec.encode (c : CodeRec) (data : List Bool) : Array Bool :=
  (List.range c.rows).foldl (fun (w : Array Bool) j =>
    let row := (c.row j).filter (fun e => e.1 != 1028 + j)
    w ++ ((List.range 32).map (fun t => parityAt w (checkBits row t))).toArray) data.toArray

/-- The bits of a sector before and after its codeword (10 R379). -/
def sectorHead : List Bool := (List.range 96).map preBit ++ msbBits 24 syncMark1 ++ msbBits 16 0x0F0F ++ msbBits 24 syncMark2
def sectorTail : List Bool := (List.range 32).map preBit

/-- A written sector from START on (10 R379 to R381; 11 R423), from its 4,112 bytes. -/
def writtenSector (c : CodeRec) (track idx : Nat) (bytes : List Nat) : List Bool :=
  sectorHead ++ (c.encode (scramble (scrambleSeed track idx) (byteBits bytes))).toList ++ sectorTail

/-- The code record of a CODE in a zone and format section (10 R383). -/
def codeOf (tab : List Nat) (code : Nat) : CodeRec :=
  (((codeRecs (tab.length + 1) (tab.drop (leAt tab 0x10 4))).getD []).find? (fun c => c.code == code)).getD ⟨code, 0, 0, []⟩

/-- The first bits of a sector's later data regions, from its START (10 R377). -/
def sectorBreaks (z : Zone) (w idx : Nat) : List Nat :=
  let dw := dataRegionBits z
  let pos := (at' (sectorStarts z w) idx (0, 0)).2
  if dw = 0 then [] else ((List.range w).map (fun i => dw - pos + i * dw)).filter (fun b => b < 192 + codeBits z.code)

/-! ### Branches of 16 states (10 R386, R389) -/

/-- d of the 32 branches: branch `n` carries the symbols of its five low bits, the newest lowest, from state n / 2 to state n mod 16. -/
def branchOuts (g : List Int) : List Int := (List.range 32).map (fun n => idealOut g (fun j => symbol (n.testBit j)))

/-- A path of the hard-decision search: its metric and its last 17 decisions, the newest first. -/
structure Path where
  cost : Int
  bits : List Bool
  deriving DecidableEq, Repr

def at16 (l : List Int) (s : Nat) : Int := at' l s 0

/-- A sample taken into the 16 paths (10 R386): the lower-numbered branch wins a tie (log entry 142). -/
def pathStep (outs : List Int) (ps : List Path) (y : Int) : List Path :=
  (List.range 16).map (fun t =>
    let via := fun (n : Nat) => let p := at' ps (n / 2) ⟨0, []⟩; let e := y - intAt outs n; (⟨p.cost + e * e, (t % 2 == 1) :: p.bits.take 16⟩ : Path)
    let a := via t
    let b := via (t + 16)
    if b.cost < a.cost then b else a)

/-- The best of the paths. -/
def bestPath (ps : List Path) : Path :=
  match ps with
  | [] => ⟨0, []⟩
  | p :: r => r.foldl (fun (b : Path) q => if q.cost < b.cost then q else b) p

/-- The hard decisions of samples (10 R386): each is taken 16 bits later from the best path. -/
def hardDecisions (outs : List Int) : List Path → List Int → List Bool
  | _, [] => []
  | ps, y :: l =>
    let ps := pathStep outs ps y
    let p := bestPath ps
    let rest := hardDecisions outs ps l
    if 16 < p.bits.length then at' p.bits 16 false :: rest else rest

/-! ### The soft-output detector (10 R389 to R391) -/

/-- NSCALE of 10 R390 from the samples of an attempt: d is that of the preamble. -/
def noiseScale (g : List Int) (y : Nat → Int) : Nat :=
  let s := ((List.range 32).map (fun i => ((y (64 + i) - preIdeal g (64 + i)) * (y (64 + i) - preIdeal g (64 + i))).toNat)).sum
  2 ^ 23 / max s 32

/-- What the detector reads of a sector: the stored sample of a bit (none past the last), the a-priori value of a bit, the branches' d, NSCALE, the
first bits of later data regions, the number of bits. -/
structure Trellis where
  sample : Nat → Option Nat
  apriori : Nat → Int
  outs : List Int
  nscale : Nat
  breaks : List Nat
  last : Nat

/-- The metrics of the 32 branches at bit `k` (10 R389): the channel's part, zero for an erased bit, rounded to the nearest, halves up, and the
a-priori term. -/
def Trellis.costs (x : Trellis) (k : Nat) : List Int :=
  let la := x.apriori k
  let channel := fun (d : Int) =>
    match x.sample k with
    | none => 0
    | some w => if sampleErased w then 0 else let e := sampleY w - d; (2 * (e * e) * x.nscale + 65536) / 131072
  (List.range 32).map (fun n => channel (intAt x.outs n) + (if n % 2 = 0 then la else 0))

def equalStates : List Int := List.replicate 16 0

/-- The metrics of the states after a bit, from those before it. -/
def ahead (m c : List Int) : List Int :=
  (List.range 16).map (fun t => min (at16 m (t / 2) + intAt c t) (at16 m (t / 2 + 8) + intAt c (t + 16)))

/-- The metrics of the states before a bit, from those after it. -/
def behind (m c : List Int) : List Int :=
  (List.range 16).map (fun s => min (intAt c (2 * s) + at16 m (2 * s % 16)) (intAt c (2 * s + 1) + at16 m ((2 * s + 1) % 16)))

/-- The states before each bit from `k` on, `n` bits: every state starts equal at `k` and at the first bit of a later region (10 R391). -/
def Trellis.forward (x : Trellis) : Nat → Nat → List Int → List (List Int)
  | 0, _, _ => []
  | n + 1, k, m => let m := if x.breaks.contains k then equalStates else m; m :: x.forward n (k + 1) (ahead m (x.costs k))

/-- The states after each bit from `k` on, `n` bits, where every state ends equal after the last and before a later region. -/
def Trellis.backward (x : Trellis) : Nat → Nat → List (List Int)
  | 0, _ => []
  | 1, _ => [equalStates]
  | n + 2, k =>
    let rest := x.backward (n + 1) (k + 1)
    (if x.breaks.contains (k + 1) then equalStates else behind (rest.headD equalStates) (x.costs (k + 1))) :: rest

/-- A reliability: 8 bits in 1/4 units, at most 127 either way (10 R391). -/
def reliability (z : Int) : Int := clampInt (-127) 127 z

/-- L_e of bit `k` from the states before and after it (10 R391): positive favours 1. -/
def Trellis.extrinsic (x : Trellis) (k : Nat) (a b : List Int) : Int :=
  let c := x.costs k
  let via := fun n => at16 a (n / 2) + intAt c n + at16 b (n % 16)
  let best := fun (par : Nat) => (List.range 15).foldl (fun (m : Int) i => min m (via (2 * (i + 1) + par))) (via par)
  reliability (best 0 - best 1 - x.apriori k)

/-- A window of up to 128 bits from `w0`, with 32 bits of warm-up on each side where there are bits (10 R391). -/
def Trellis.window (x : Trellis) (w0 n : Nat) : List Int :=
  let lo := w0 - 32
  let hi := min x.last (w0 + n + 32)
  let f := (x.forward (w0 + n - lo) lo equalStates).drop (w0 - lo)
  let b := x.backward (max hi (w0 + n) - w0) w0
  (List.range n).map (fun i => x.extrinsic (w0 + i) (at' f i equalStates) (at' b i equalStates))

/-- L_e of the `n` codeword bits from `start` on. -/
def Trellis.detect (x : Trellis) (start n : Nat) : List Int :=
  (List.range (ceilDiv n 128)).flatMap (fun i => x.window (start + 128 * i) (min 128 (n - 128 * i)))

/-! ### The decoder (10 R392, R393) -/

/-- Posteriors, one a bit, and check-to-bit messages, one an edge of each check. -/
structure Belief where
  post : Array Int
  msgs : Array Int

/-- Check-to-bit messages of one check from its inputs (10 R392): the least magnitude among the others less 2, with the sign that their decisions
give the parity (log entry 144). -/
def checkOut (qs : List Int) : List Int :=
  (List.range qs.length).map (fun i =>
    let others := qs.take i ++ qs.drop (i + 1)
    let mag := match others with
      | [] => 127
      | q :: r => r.foldl (fun m v => min m v.natAbs) q.natAbs
    let one := (others.filter (fun v => 0 < v)).length % 2 = 1
    let z : Int := (min 127 (mag - 2) : Nat)
    if one then z else -z)

/-- One check is processed: `base` is the place of its first message. -/
def Belief.check (b : Belief) (places : List Nat) (base : Nat) : Belief :=
  let ix := (List.range places.length).zip places
  let qs := ix.map (fun e => b.post.getD e.2 0 - b.msgs.getD (base + e.1) 0)
  let rs := checkOut qs
  ix.foldl (fun (b : Belief) e =>
    let r := intAt rs e.1
    ⟨b.post.setIfInBounds e.2 (clampSigned 10 (intAt qs e.1 + r)), b.msgs.setIfInBounds (base + e.1) r⟩) b

/-- The 32 checks of a base row whose messages start at `base`. -/
def Belief.layer (b : Belief) (row : List (Nat × Nat)) (base : Nat) : Belief :=
  (List.range 32).foldl (fun b t => b.check (checkBits row t) (base + t * row.length)) b

def Belief.hard (b : Belief) : Array Bool := b.post.map (fun v => decide (0 < v))

/-- Base rows in order from the messages at `base`; true where every check holds after one of them (10 R393). -/
def rowsPass (c : CodeRec) : List (List (Nat × Nat)) → Nat → Belief → Belief × Bool
  | [], _, b => (b, false)
  | row :: l, base, b =>
    let b := b.layer row base
    if c.unsat b.hard = 0 then (b, true) else rowsPass c l (base + 32 * row.length) b

/-- At most `n` local iterations after `k` of them: the belief, those run, whether every check holds. -/
def localPasses (c : CodeRec) : Nat → Nat → Belief → Belief × Nat × Bool
  | 0, k, b => (b, k, false)
  | n + 1, k, b =>
    match rowsPass c c.baseRows 0 b with
    | (b, true) => (b, k + 1, true)
    | (b, false) => localPasses c n (k + 1) b

/-- What a global iteration leaves: every check satisfied, the checks left, the local iterations run, the decoded bits, the a-priori values for the
next. -/
structure GlobalPass where
  satisfied : Bool
  unsat : Nat
  locals : Nat
  bits : List Bool
  apriori : List Int
  deriving DecidableEq, Repr

/-- A global iteration over the codeword from `start` on (10 R393): a detector pass, then at most `n` local iterations. -/
def globalPass (c : CodeRec) (x : Trellis) (start n : Nat) : GlobalPass :=
  let le := x.detect start (codeBits c.code)
  let r := localPasses c n 0 ⟨le.toArray, Array.replicate (32 * c.edges.length) 0⟩
  let hard := r.1.hard
  ⟨r.2.2, if r.2.2 then 0 else c.unsat hard, r.2.1, hard.toList, List.zipWith (fun p e => reliability (p - e)) r.1.post.toList le⟩

end Sys2Proof.Machine
end

