-- ==== Sys2Proof/Machine/HostOps.lean ====
section
/-! DEFINITION. The named operations of the host's side (spec/15, spec/16): windows, rings and their entries, MSI-X messages,
the asynchronous notice, contexts from acceptance to the ring. -/

namespace Sys2Proof.Machine

/-! ### Link and messages -/

/-- HIF_LINK.STATE values (15 R620). -/
def linkDetectSt : Nat := 0
def linkConfigSt : Nat := 2
def linkL0 : Nat := 3
def linkRecovery : Nat := 4
def linkL1 : Nat := 5

/-- Can a TLP cross the link? L1 is left for it (15 R592). -/
def Dev.linkUp (d : Dev) : Bool := d.get F.HIF_LINK_STATE == linkL0 || d.get F.HIF_LINK_STATE == linkL1

/-- A vector's message (15 R585, R613): a masked vector, or a link in Detect, sets its pending bit. -/
def Dev.sendMessage (d : Dev) (v : Nat) : Dev :=
  let e := at' d.hif.msix v {}
  if !d.hif.msixOn then d
  else if e.masked || d.hif.fnMask || !d.hif.master || !d.linkUp then { d with hif := { d.hif with pend := d.hif.pend.set v true } }
  else { d.hostWrite e.addr (leBytes 4 e.data) with hif := { d.hif with pend := d.hif.pend.set v false } }

/-- The pending messages that may be sent now are sent. -/
def Dev.sendPending (d : Dev) : Dev :=
  d.each (List.range 64) (fun d v => if at' d.hif.pend v false then d.sendMessage v else d)

/-- A bit of HIF_ASYNC_CAUSE sets (15 R617, R618). -/
def Dev.notice (d : Dev) (n : Nat) : Dev :=
  if d.bit F.HIF_ASYNC_CAUSE_CAUSE n then d
  else
    let d := d.setBit F.HIF_ASYNC_CAUSE_CAUSE n true
    if d.on F.HIF_ASYNC_CFG_EN then d.sendMessage (d.get F.HIF_ASYNC_CFG_VECTOR) else d

/-! ### Windows -/

def Dev.win (d : Dev) (w : Nat) : Window := at' d.hif.wins w {}

def Dev.setWin (d : Dev) (w : Nat) (f : Window → Window) : Dev :=
  { d with hif := { d.hif with wins := d.hif.wins.set w (f (d.win w)) } }

/-- Windows that read BUSY or DONE. -/
def Dev.busyWindows (d : Dev) : Nat := (d.hif.wins.filter (fun (x : Window) => x.phase != 0)).length

/-- PHASE as TWN_W_STATE shows it: a FREE window reads PAUSED while PAUSE is 1 (15 R605). -/
def Dev.winPhase (d : Dev) (w : Nat) : Nat :=
  let p := (d.win w).phase
  if p = 0 && d.on F.TWN_CTRL_PAUSE then 3 else p

/-- TWN_W_STATE (15 R597). -/
def Dev.winState (d : Dev) (w : Nat) : Nat :=
  let x := d.win w
  x.answer * 2 ^ 30 + x.early * 2 ^ 16 + x.reason * 2 ^ 8 + d.winPhase w

/-- PAUSE takes a value (15 R605, R621, event 0x400B). -/
def Dev.setPause (d : Dev) (b : Bool) : Dev :=
  if d.on F.TWN_CTRL_PAUSE == b then d
  else ((d.flag F.TWN_CTRL_PAUSE b).post 0x400B [b.toNat, d.busyWindows]).notice 4

/-! ### Contexts -/

def Ctx.word (c : Ctx) (i : Nat) : Nat := at' c.words i 0
def Ctx.opcode (c : Ctx) : Nat := c.word 0 % 256
def Ctx.flags (c : Ctx) : Nat := c.word 0 / 2 ^ 8 % 256
def Ctx.streamId (c : Ctx) : Nat := c.word 0 / 2 ^ 16 % 256
def Ctx.tag (c : Ctx) : Nat := c.word 1
def Ctx.p0 (c : Ctx) : Nat := c.word 2 + c.word 3 * 2 ^ 32
def Ctx.p1 (c : Ctx) : Nat := c.word 4 + c.word 5 * 2 ^ 32
def Ctx.dlist (c : Ctx) : Nat := c.word 6 + c.word 7 * 2 ^ 32
def Ctx.dcount (c : Ctx) : Nat := c.word 8
def Ctx.p2 (c : Ctx) : Nat := c.word 9
def Ctx.lba (c : Ctx) : Nat := c.p0 % 2 ^ 48
def Ctx.count (c : Ctx) : Nat := c.p1
def Ctx.fua (c : Ctx) : Bool := c.flags.testBit 0
def Ctx.ordered (c : Ctx) : Bool := c.flags.testBit 1
def Ctx.inStream (c : Ctx) : Bool := c.flags.testBit 2

/-- Opcodes (16 R626). -/
def opRead : Nat := 0x01
def opWrite : Nat := 0x02
def opFlush : Nat := 0x04
def opRelease : Nat := 0x05
def opVerify : Nat := 0x06
def opAbort : Nat := 0x08
def opStreamOpen : Nat := 0x10
def opStreamClose : Nat := 0x11
def opSealBand : Nat := 0x18
def opIdentify : Nat := 0x20
def opLogRead : Nat := 0x21
def opFeatureGet : Nat := 0x22
def opFeatureSet : Nat := 0x23
def opDownload : Nat := 0x24
def opActivate : Nat := 0x25
def opResync : Nat := 0x26
def opAttest : Nat := 0x27

/-- Status values (16 R639). -/
def stOk : Nat := 0
def stAlready : Nat := 1
def stNotFound : Nat := 2
def stNotAbortable : Nat := 3
def stAborted : Nat := 0x10
def stAbortedActivation : Nat := 0x11
def stAbortedSafe : Nat := 0x12
def stMedia : Nat := 0x20
def stBuffer : Nat := 0x21
def stSeal : Nat := 0x22
def stDlist : Nat := 0x30
def stHost : Nat := 0x31
def stFeature : Nat := 0x40
def stDownload : Nat := 0x41
def stSealNotEmpty : Nat := 0x42
def stInternal : Nat := 0x50

def Dev.ctx (d : Dev) (n : Nat) : Option Ctx := d.cmd.ctxs.find? (fun (c : Ctx) => c.num == n)

def Dev.mapCtx (d : Dev) (n : Nat) (f : Ctx → Ctx) : Dev :=
  { d with cmd := { d.cmd with ctxs := d.cmd.ctxs.map (fun (c : Ctx) => if c.num == n then f c else c) } }

/-- The context of a number leaves, and the count of contexts follows (17 R720). -/
def Dev.dropCtx (d : Dev) (n : Nat) : Dev :=
  let l := d.cmd.ctxs.filter (fun (c : Ctx) => c.num != n)
  { d with cmd := { d.cmd with ctxs := l } }.put F.DRV_CONTEXTS_IN_USE l.length

/-- Is a tag in use (16 R633)? -/
def Dev.tagInUse (d : Dev) (t : Nat) : Bool :=
  d.cmd.ctxs.any (fun (c : Ctx) => c.tag == t) || d.cmd.posted.any (fun e => e.2 == t)

/-- The tags in use, as a list. -/
def Dev.tagsInUse (d : Dev) : List Nat := d.cmd.ctxs.map Ctx.tag ++ d.cmd.posted.map (fun e => e.2)

def Ctx.active (c : Ctx) : Bool := c.state != .committed

/-- The microsecond of the free-running count; its milliseconds are the model's grain (log entry 30). -/
def Dev.nowUs (d : Dev) : Nat := 1000 * d.mod.clockMs

/-- The record of an open stream. -/
def Dev.stream (d : Dev) (id : Nat) : Option Stream := d.streams.find? (fun (s : Stream) => s.id == id)

/-- Is a WRITE a FUA WRITE: by its flag, or by the record of its stream (17 R703)? -/
def Dev.fuaWrite (d : Dev) (c : Ctx) : Bool :=
  c.opcode == opWrite && (c.fua || (c.inStream && (match d.stream c.streamId with | some s => s.fua | none => false)))

/-- A range lock is released, and counted (16 R632, 17 R720). -/
def Dev.countLocks (d : Dev) : Dev :=
  d.put F.DRV_LOCKS_IN_USE (d.cmd.ctxs.filter (fun (c : Ctx) => c.locked)).length

/-- LATE of a command of a stream (16 R652): its bit in DETAIL_HI, the stream's count, event 0x410D. -/
def Dev.lateMark (d : Dev) (c : Ctx) (hi : Nat) : Nat × Dev :=
  if (c.opcode == opRead || c.opcode == opWrite) && c.inStream then
    match d.stream c.streamId with
    | none => (hi, d)
    | some s =>
      let past := d.nowUs - c.acceptUs
      if past ≤ s.deadline then (hi, d)
      else
        let d := { d with streams := d.streams.map (fun (x : Stream) => if x.id == s.id then { x with late := x.late + 1 } else x) }
        (hi ||| 2 ^ 15, d.post 0x410D [s.id, c.tag, past - s.deadline])
  else (hi, d)

/-- Data errors are counted since BOOT (16 R659, page 0x02) and reported (R644, event 0x4102). -/
def Dev.dataError (d : Dev) (status detail hi tag : Nat) : Dev :=
  let d := if status == stMedia then { d with drv := { d.drv with mediaErr := d.drv.mediaErr + 1 } }
    else if status == stBuffer then { d with drv := { d.drv with bufErr := d.drv.bufErr + 1 } }
    else { d with drv := { d.drv with sealErr := d.drv.sealErr + 1 } }
  d.post 0x4102 [status, detail, hi, tag]

/-! ### Streams at risk (20 R833 to R835) -/

/-- r_in in kB/s (03 R117). -/
def Dev.innerRate (d : Dev) : Nat := max 1 ((d.zone (d.zoneCount - 1)).rate * d.floorRpm / max 1 d.refRpm)

/-- ADMIT_STREAMS (03 R100). -/
def Dev.admitStreams (d : Dev) : Nat := d.policy 0x0202 d.cfg.openStreams

/-- D(s) of 03 R117. -/
def Dev.streamDemand (d : Dev) (s : Stream) : Nat := if s.write then s.bw * (d.titheData + 1) / max 1 d.titheData else s.bw

/-- The channels that may hold pieces at once at a step (20 R830, R831). -/
def Dev.streamLimit (d : Dev) (step : Nat) : Nat :=
  if step = 5 then d.policy 0x7009 4
  else if 3 ≤ step then
    min 15 (max 1 (max (d.policy 0x7008 6) (ceilDiv ((d.streams.map d.streamDemand).sum * 256) (d.innerRate * d.policy 0x0201 205))))
  else 8

/-- THM_LIMITS, the trims in force (20 R830). -/
def Dev.showLimits (d : Dev) : Dev :=
  let step := d.get F.THM_STAT_STEP
  let cap := if step = 0 then d.policy 0x2103 8 else min (d.policy 0x2103 8) (d.policy 0x2104 3)
  ((d.put F.THM_LIMITS_STREAMS (d.streamLimit step)).put F.THM_LIMITS_SEEK_PCT (if 2 ≤ step then d.policy 0x7007 70 else 100)).put
    F.THM_LIMITS_GLOBAL_CAP cap

/-- The streams that a stream limit puts at risk, in STREAM_ID order from a running sum on (20 R833). -/
def overLimit (d : Dev) (c : Nat) : List Stream → Nat → List Nat
  | [], _ => []
  | s :: l, sum => if c < sum + d.streamDemand s then s.id :: l.map (fun (x : Stream) => x.id) else overLimit d c l (sum + d.streamDemand s)

def Dev.limitRisk (d : Dev) : List Nat :=
  let byId := (List.range 64).filterMap d.stream
  if d.get F.THM_STAT_STEP = 5 then overLimit d (d.policy 0x7009 4 * d.innerRate * d.policy 0x0201 205 / 256) byId 0 else []

/-- The streams that a forced ramp puts at risk, until SETTLE ends (20 R834). -/
def Dev.rampRisk (d : Dev) : List Nat :=
  if d.thm.forced && d.get F.MIL_STAT_STATE == 6 && d.get F.MIL_STAT_MILLER != 0 then
    (d.streams.filter (fun (s : Stream) => s.write && s.fua)).map (fun (s : Stream) => s.id)
  else []

/-- The at-risk mask is formed again (20 R835, events 0x7007, 0x7009). -/
def Dev.riskCheck (d : Dev) : Dev :=
  let d := d.showLimits
  let old := d.get F.THM_AT_RISK_LO_MASK + 2 ^ 32 * d.get F.THM_AT_RISK_HI_MASK
  let limit := d.limitRisk
  let ramp := d.rampRisk
  let new := (limit ++ ramp).foldl (fun m i => withBit m i true) 0
  if new = old then d
  else
    let step := d.get F.THM_STAT_STEP
    let d := ((d.put F.THM_AT_RISK_LO_MASK new).put F.THM_AT_RISK_HI_MASK (new / 2 ^ 32)).put F.THM_INT_STAT_RISK 1
    d.each (List.range 64) (fun d i =>
      if new.testBit i && !old.testBit i then d.post 0x7007 [i, step, if limit.contains i then 0 else 1]
      else if old.testBit i && !new.testBit i then d.post 0x7009 [i, step]
      else d)

/-- STREAM_CLOSE's stream stops counting toward admission (16 R653, event 0x410C). -/
def Dev.streamClosed (d : Dev) (id : Nat) : Dev :=
  match d.stream id with
  | none => d
  | some s => ({ d with streams := d.streams.filter (fun (x : Stream) => x.id != id) }.post 0x410C [id, s.late]).riskCheck

/-- The status of a context is decided (16 R632): STATUS and DETAIL are written, its range lock is released; a download that did not end OK
closes its series (R662). -/
def Dev.commitOne (d : Dev) (n status detail hi : Nat) : Dev :=
  match d.ctx n with
  | none => d
  | some c =>
    if c.state = .committed then d
    else
      let r := d.lateMark c hi
      let d := if status == stMedia || status == stBuffer || status == stSeal then r.2.dataError status detail (hi % 2 ^ 15) c.tag else r.2
      let d := if c.opcode == opDownload && status != stOk then { d with cmd := { d.cmd with series := false } } else d
      (d.mapCtx n (fun c => { c with state := .committed, status := status, detail := detail % 2 ^ 32, detailHi := r.1 % 2 ^ 16,
                                     locked := false })).countLocks

/-- Do commands of a stream accepted before context `n` still run? -/
def Dev.streamBusyBefore (d : Dev) (id n : Nat) : Bool :=
  d.cmd.ctxs.any (fun (c : Ctx) => c.active && c.num < n && c.inStream && (c.opcode == opRead || c.opcode == opWrite) && c.streamId == id)

/-- A dispatched STREAM_CLOSE whose stream's earlier commands are all committed is committed (16 R653). -/
def Dev.closeProgress (d : Dev) : Dev :=
  d.each (d.cmd.ctxs.filter (fun (c : Ctx) => c.opcode == opStreamClose && c.state == .dispatched)) (fun d (c : Ctx) =>
    let id := c.p0 % 64
    if d.streamBusyBefore id c.num then d
    else
      let late := ((d.stream id).map (fun s => s.late)).getD 0
      (d.commitOne c.num stOk late id).streamClosed id)

/-- A status is decided, with what that lets a STREAM_CLOSE do. -/
def Dev.commit (d : Dev) (n status detail hi : Nat) : Dev := (d.commitOne n status detail hi).closeProgress

/-- A context ends ABORTED under an ABORT (16 R648, event 0x4104). -/
def Dev.abortCtx (d : Dev) (n : Nat) : Dev :=
  match d.ctx n with
  | none => d
  | some c => (d.post 0x4104 [c.tag, if c.state = .queued then 0 else 1]).commit n stAborted 0 0

/-! ### Rings -/

def Dev.ringSize (d : Dev) (r : Nat) : Nat := 2 ^ d.getI F.HIF_RING_CFG_LOG2 r

/-- Is a ring full (15 R609)? -/
def Dev.ringFull (d : Dev) (r : Nat) : Bool :=
  (d.getI F.HIF_RING_TAIL_TAIL r + 1) % d.ringSize r == d.getI F.HIF_RING_HEAD_HEAD r

def Dev.ringBase (d : Dev) (r : Nat) : Nat := d.getI F.HIF_RING_BASE_HI_ADDR r * 2 ^ 32 + d.getI F.HIF_RING_BASE_LO_ADDR r * 64

/-- The 16 bytes of a completion entry (15 R606). -/
def entryBytes (c : Ctx) (phase : Nat) : List Nat :=
  leBytes 4 c.tag ++ leBytes 4 (c.detailHi * 2 ^ 16 + c.status) ++ leBytes 4 c.detail
    ++ leBytes 4 (phase * 2 ^ 31 + c.window * 2 ^ 8 + c.opcode)

/-- Completions that wait in their contexts for a ring (15 R609). -/
def Dev.countWaiting (d : Dev) (r : Nat) : Dev :=
  d.putI F.HIF_RING_STAT_WAITING r (d.cmd.ctxs.filter (fun (c : Ctx) => c.waiting && c.ring == r)).length

/-- A committed context's entry is written to its ring (15 R606, R608, R613; 16 R632): the context is freed, its tag posted,
its held window DONE. -/
def Dev.writeEntry (d : Dev) (c : Ctx) : Dev :=
  let r := c.ring
  let tail := d.getI F.HIF_RING_TAIL_TAIL r
  let phase := d.getI F.HIF_RING_TAIL_PHASE r
  let next := (tail + 1) % d.ringSize r
  let d := d.hostWrite (d.ringBase r + 16 * tail) (entryBytes c phase)
  let d := (d.putI F.HIF_RING_TAIL_TAIL r next).putI F.HIF_RING_TAIL_PHASE r (if next = 0 then 1 - phase else phase)
  let d := if c.hold then d.setWin c.window (fun w => { w with phase := 2, lo := c.detailHi * 2 ^ 16 + c.status, hi := c.detail }) else d
  let d := d.dropCtx c.num
  let d := { d with cmd := { d.cmd with posted := d.cmd.posted ++ [(r, c.tag)] } }
  if at' d.hif.armed r false then
    ({ d with hif := { d.hif with armed := d.hif.armed.set r false } }).sendMessage (d.getI F.HIF_RING_CFG_VECTOR r)
  else d

/-- May the entry of a committed context be written apart from room: its data has arrived, an ABORT's target has its entry, the
link is up, the ring enabled (15 R611, R619; 16 R648)? -/
def Dev.entryReady (d : Dev) (c : Ctx) : Bool :=
  c.state == .committed && !c.moving && d.linkUp && d.onI F.HIF_RING_CFG_ENABLE c.ring
    && (match c.after with | none => true | some n => (d.ctx n).isNone)

/-- A completion for a full ring waits; the first since it filled is recorded (15 R609, event 0x400A). -/
def Dev.entryWaits (d : Dev) (c : Ctx) : Dev :=
  let d := (d.mapCtx c.num (fun c => { c with waiting := true })).countWaiting c.ring
  if at' d.hif.full c.ring false then d
  else
    let d := { d with hif := { d.hif with full := d.hif.full.set c.ring true } }
    (d.put F.TWN_INT_STAT_RING_FULL 1).post 0x400A [c.ring, d.getI F.HIF_RING_STAT_WAITING c.ring]

/-- The entry of a context is written, or waits for room. -/
def Dev.tryEntry (d : Dev) (n : Nat) : Dev :=
  match d.ctx n with
  | none => d
  | some c => if !d.entryReady c then d else if d.ringFull c.ring then d.entryWaits c else d.writeEntry c

/-- After a HEAD write the completions that wait for the ring are written while room lasts (15 R609). -/
def Dev.drainWaiting (d : Dev) (r : Nat) : Dev :=
  let d := d.each (d.cmd.ctxs.filter (fun (c : Ctx) => c.waiting && c.ring == r)) (fun d (c : Ctx) =>
    if d.entryReady c && !d.ringFull r then d.writeEntry c else d)
  d.countWaiting r

/-- Bytes moved to host memory for a context. -/
def Dev.moveToHost (d : Dev) (n addr : Nat) (bytes : List Nat) : Dev :=
  (d.hostWrite addr bytes).mapCtx n (fun c => { c with moving := true })

/-- Bytes of a command placed through its data entries from byte `off` of the command's data (16 R628). -/
def segWrite (d : Dev) : List (Nat × Nat) → Nat → List Nat → Dev
  | [], _, _ => d
  | (a, n) :: r, off, bytes =>
    if bytes.isEmpty then d
    else if n ≤ off then segWrite d r (off - n) bytes
    else segWrite (d.hostWrite (a + off) (bytes.take (n - off))) r 0 (bytes.drop (n - off))

def Dev.segsToHost (d : Dev) (c : Ctx) (off : Nat) (bytes : List Nat) : Dev :=
  (segWrite d c.segs off bytes).mapCtx c.num (fun c => { c with moving := true })

end Sys2Proof.Machine
end

