-- ==== Sys2Proof/Machine/DroverOps.lean ====
section
/-! DEFINITION. The named operations of the Drover (spec/17): bands and places, the extent map, the journal tail, the tile
bookkeeping, pieces, stripes and their naming, rung 3 and rung 4, surfaces. -/

namespace Sys2Proof.Machine

/-! ### Where a sector lies (17 R676 to R681) -/

/-- USER_SECTORS (17 R675). -/
def Dev.userSectors (d : Dev) : Nat := d.policy 0x4201 0 + d.policy 0x4207 0 % 32 * 2 ^ 32

def Dev.bandTracks (d : Dev) : Nat := d.policy 0x4202 256
def Dev.runPos (d : Dev) : Nat := d.policy 0x4203 256
def Dev.freeMin (d : Dev) : Nat := d.policy 0x4205 16

/-- The heads of a SURFACES mask in interleaved order (17 R677). -/
def Dev.surfaceList (d : Dev) (mask : Nat) : List Nat := d.headList.filter (fun h => mask.testBit h)

def maskOf (l : List Nat) : Nat := l.foldl (fun m h => withBit m h true) 0

/-- Every surface fitted. -/
def Dev.fittedMask (d : Dev) : Nat := maskOf d.headList

/-- A band's tracks (17 R676): its zone, its first track, its tracks. -/
structure BandUnit where
  zone : Nat
  first : Nat
  tracks : Nat
  deriving DecidableEq, Repr

def Dev.zoneBands (d : Dev) (z : Nat) : Nat := ceilDiv ((d.zone z).last + 1 - (d.zone z).first) d.bandTracks

def Dev.bandCount (d : Dev) : Nat := ((List.range d.zoneCount).map d.zoneBands).sum

/-- Band `i` of zone `z`. -/
def Dev.unitOf (d : Dev) (z i : Nat) : BandUnit :=
  let e := d.zone z
  let f := e.first + i * d.bandTracks
  ⟨z, f, min d.bandTracks (e.last + 1 - f)⟩

def findUnit (d : Dev) : List Nat → Nat → Option BandUnit
  | [], _ => none
  | z :: r, b => if b < d.zoneBands z then some (d.unitOf z b) else findUnit d r (b - d.zoneBands z)

def Dev.bandUnit (d : Dev) (b : Nat) : Option BandUnit := findUnit d (List.range d.zoneCount) b

/-- P_b (17 R677). -/
def Dev.positions (d : Dev) (u : BandUnit) : Nat := u.tracks * (d.zone u.zone).spt - 8

/-- STRIPES_b of a band with `ns` surfaces (17 R679). -/
def Dev.unitStripes (d : Dev) (u : BandUnit) (ns : Nat) : Nat := ns * d.positions u / (d.titheData + 1)

/-- The stripe numbers a band takes: STRIPES_b with every surface fitted (17 R679). -/
def Dev.fullStripes (d : Dev) (u : BandUnit) : Nat := d.unitStripes u d.headList.length

/-- The stripe numbers of the first `n` bands of a zone: all but its last band are alike. -/
def Dev.zoneStripes (d : Dev) (z n : Nat) : Nat :=
  let k := d.zoneBands z
  if k = 0 then 0
  else if n < k then n * d.fullStripes (d.unitOf z 0)
  else (k - 1) * d.fullStripes (d.unitOf z 0) + d.fullStripes (d.unitOf z (k - 1))

def findFirst (d : Dev) : List Nat → Nat → Nat
  | [], _ => 0
  | z :: r, b => if b < d.zoneBands z then d.zoneStripes z b else d.zoneStripes z (d.zoneBands z) + findFirst d r (b - d.zoneBands z)

/-- FIRST_STRIPE_b (17 R679). -/
def Dev.firstStripe (d : Dev) (b : Nat) : Nat := findFirst d (List.range d.zoneCount) b

/-- The band of a global stripe number and the stripe within it, with the zones still to search. -/
def findStripe (d : Dev) : List Nat → Nat → Nat → Option (Nat × Nat)
  | [], _, _ => none
  | z :: r, b, k =>
    let n := d.zoneBands z
    let total := d.zoneStripes z n
    if k < total then
      let f := max 1 (d.fullStripes (d.unitOf z 0))
      let i := min (k / f) (n - 1)
      some (b + i, k - d.zoneStripes z i)
    else findStripe d r (b + n) (k - total)

def Dev.stripeBand (d : Dev) (k : Nat) : Option (Nat × Nat) := findStripe d (List.range d.zoneCount) 0 k

/-! ### The band table -/

/-- Band STATE values (17 R682). -/
def bandFree : Nat := 0
def bandOpen : Nat := 1
def bandFull : Nat := 2
def bandCleaning : Nat := 3
def bandDead : Nat := 4

/-- A band's record: a band not listed is FREE as format leaves it. -/
def Dev.band (d : Dev) (b : Nat) : Band :=
  (d.drv.bands.find? (fun (x : Band) => x.num == b)).getD
    { num := b, state := bandFree, surfaces := d.fittedMask, stripes := ((d.bandUnit b).map d.fullStripes).getD 0 }

/-- DRV_BANDS (17 R720). -/
def Dev.showBands (d : Dev) : Dev :=
  let used := (d.drv.bands.filter (fun (x : Band) => x.state != bandFree)).length
  let d := d.put F.DRV_BANDS_FREE (min 65535 (d.bandCount - used))
  match d.drv.bands.find? (fun (x : Band) => x.state == bandOpen) with
  | some b => d.put F.DRV_BANDS_OPEN b.num
  | none => d

def Dev.freeBands (d : Dev) : Nat := d.bandCount - (d.drv.bands.filter (fun (x : Band) => x.state != bandFree)).length

def Dev.setBand (d : Dev) (e : Band) : Dev :=
  let l := d.drv.bands
  let l := if l.any (fun (x : Band) => x.num == e.num) then l.map (fun (x : Band) => if x.num == e.num then e else x) else l ++ [e]
  { d with drv := { d.drv with bands := l } }.showBands

/-- The physical position of slot position `p` on a surface: the `p`-th that is no defect the placement honours
(17 R677, R684). -/
def skipDefects : Nat → List Nat → Nat → Nat
  | 0, _, p => p
  | f + 1, defs, p =>
    let k := (defs.filter (fun x => x ≤ p)).length
    let defs' := defs.filter (fun x => p < x)
    if k = 0 then p else skipDefects f defs' (p + k)

/-- The place of a sector on the medium. -/
structure Spot where
  band : Nat
  head : Nat
  track : Nat
  idx : Nat
  /-- Its physical position in the band on its surface. -/
  pos : Nat
  deriving DecidableEq, Repr

/-- Member `m` of stripe `k` of a band (17 R677, R678). -/
def Dev.slotPlace (d : Dev) (b : Band) (u : BandUnit) (k m : Nat) : Spot :=
  let l := d.surfaceList b.surfaces
  let q := (d.titheData + 1) * k + m
  let h := at' l (q % max 1 l.length) 0
  let defs := ((b.used.filter (fun x => x.1 == h)).map (fun x => x.2))
  let p := skipDefects 9 defs (q / max 1 l.length)
  let spt := max 1 (d.zone u.zone).spt
  ⟨b.num, h, u.first + p / spt, p % spt, p⟩

/-- The place of a member of a global stripe. -/
def Dev.memberPlace (d : Dev) (stripe m : Nat) : Option Spot :=
  match d.stripeBand stripe with
  | none => none
  | some (b, k) => (d.bandUnit b).map (fun u => d.slotPlace (d.band b) u k m)

/-! ### The journal tail (17 R710, R711) -/

def recMapSet : Nat := 1
def recMapClear : Nat := 2
def recBand : Nat := 3
def recDefect : Nat := 4
def recSurface : Nat := 5
def recSeq : Nat := 6
def recCheckpoint : Nat := 7
def recEnd : Nat := 8

def Dev.showJseq (d : Dev) : Dev :=
  (d.put F.DRV_JSEQ_LO_VALUE d.drv.jseq).put F.DRV_JSEQ_HI_VALUE (d.drv.jseq / 2 ^ 32)

/-- A record joins the tail. -/
def Dev.appendRec (d : Dev) (kind : Nat) (payload : List Nat) : Dev :=
  let t := d.drv.tail ++ [{ kind := kind, payload := payload }]
  let d := { d with drv := { d.drv with tail := t, jseq := d.drv.jseq + 1, tailMs := if d.drv.tail.isEmpty then 0 else d.drv.tailMs } }
  (d.put F.DRV_TAIL_BYTES (min (2 ^ 21 - 1) (32 * t.length))).showJseq

/-- LOG_KIB × 1,024 (17 R675). -/
def Dev.logSize (d : Dev) : Nat := 1024 * d.policy 0x4206 2048

/-- HARVEST_TAIL (04 R131), bytes. -/
def Dev.tailMax (d : Dev) : Nat := 1024 * d.policy 0x0305 1024

/-- Records in whole blocks of 127, the last one padded (R710). -/
def journalBlocks (first : Nat) : Nat → List JRec → List JBlock
  | 0, _ => []
  | f + 1, l =>
    if l.isEmpty then []
    else { first := first, recs := l.take 127 ++ List.replicate (127 - l.length) ⟨0, []⟩ } :: journalBlocks (first + 127) f (l.drop 127)

/-- The tail goes into the log area as whole blocks, where the area takes them and leaves `keep` bytes erased (R711; 04 R146). -/
def Dev.tailToLog (d : Dev) (keep : Nat) : Dev :=
  let l := d.drv.tail
  let first := d.drv.jseq - l.length
  let blocks := journalBlocks first l.length l
  let j := d.drv.jrn
  if l.isEmpty || d.logSize < 4096 * (j.blocks.length + blocks.length) + keep then d
  else
    let d := { d with drv := { d.drv with tail := [], tailMs := 0, unprog := [], jseq := first + 127 * blocks.length,
                                          jrn := { j with blocks := j.blocks ++ blocks, erased := false } } }
    (d.put F.DRV_TAIL_BYTES 0).showJseq

/-- What a checkpoint holds (R709). -/
def Dev.ckpt (d : Dev) : Ckpt :=
  { jseq := d.drv.jseq, bands := d.drv.bands, map := d.drv.map,
    seals := d.drv.seals.map (fun (b : SealBand) => { b with ptr := b.written, tags := [] }) }

/-- The superblock copy in use: the valid one with the higher SEQ (R708). -/
def Journal.super (j : Journal) : Option (Nat × Nat × Nat × Nat) :=
  match at' j.supers 0 none, at' j.supers 1 none with
  | some x, some y => if x.1 < y.1 then some (1, y) else some (0, x)
  | some x, none => some (0, x)
  | none, some y => some (1, y)
  | none, none => none

/-- A checkpoint (R712): into the area that the superblock does not name, then its record, then the superblock; the log before it is free.
The retired surfaces and the reservation, which a checkpoint does not hold, are recorded again (log entry 48). -/
def Dev.checkpoint (d : Dev) : Dev :=
  let d := d.tailToLog d.tailMax
  let j := d.drv.jrn
  let now := j.super
  let area := match now with | some x => 1 - x.2.2.1 | none => 0
  let copy := match now with | some x => 1 - x.1 | none => 0
  let seq := match now with | some x => x.2.1 + 1 | none => 1
  let c := d.ckpt
  let j := { j with areas := j.areas.set area (some c), supers := j.supers.set copy (some (seq, area, c.jseq)),
                    blocks := j.blocks.filter (fun (b : JBlock) => c.jseq < b.first + b.recs.length) }
  let d := ({ d with drv := { d.drv with jrn := j } }.tailToLog d.tailMax).appendRec recCheckpoint (leBytes 4 area ++ leBytes 8 c.jseq)
  (d.appendRec recSurface (leBytes 4 (d.get F.GRN_TITHE_RETIRED_VALUE))).appendRec recSeq (leBytes 6 d.drv.reserved)

/-- A record is appended to the tail. The tail's blocks, with the end marker that a Harvest adds, never exceed HARVEST_TAIL (04 R145): a tail
that is full goes into the log first, after a checkpoint where the log would keep too little erased. -/
def Dev.journal (d : Dev) (kind : Nat) (payload : List Nat) : Dev :=
  let full := d.tailMax < 4096 * ceilDiv (d.drv.tail.length + 2) 127
  let d := if !full then d
    else let e := d.tailToLog d.tailMax; if e.drv.tail.isEmpty then e else d.checkpoint.tailToLog d.tailMax
  d.appendRec kind payload

/-- Bytes 0 to 23 of a band's record (17 R682, R710). -/
def Dev.bandBytes (d : Dev) (b : Band) : List Nat :=
  [b.state, 0] ++ leBytes 2 b.defects.length ++ leBytes 4 b.surfaces ++ leBytes 8 (d.firstStripe b.num) ++ leBytes 4 b.stripes
    ++ leBytes 4 b.next

def Dev.journalBand (d : Dev) (n : Nat) : Dev := d.journal recBand (leBytes 4 n ++ d.bandBytes (d.band n))

/-- Bits [95:0] of a DATA or LOST entry (17 R704). -/
def Extent.bits (e : Extent) : Nat := e.lba + (if e.lost then 1 else 0) * 2 ^ 36 + e.count * 2 ^ 38 + (if e.lost then 0 else e.dstart) * 2 ^ 58

/-- Bits [95:0] of a BAND entry (17 R704). -/
def SealBand.bits (s : SealBand) : Nat :=
  s.lba + 2 * 2 ^ 36 + (s.count / 256 - 1) * 2 ^ 38 + (s.ptr - s.lba) * 2 ^ 58 + s.idx * 2 ^ 86 + (if s.closed then 1 else 0) * 2 ^ 92

/-- A band's entry as it is journaled: its write pointer follows the last sector written. -/
def SealBand.journaled (s : SealBand) : Nat := { s with ptr := s.written }.bits

/-! ### The extent map (17 R704 to R706) -/


/-- CKPT_SIZE (17 R707). -/
def Dev.ckptSize (d : Dev) : Nat := (((d.cfg.sel.map (fun (x : Selector) => x.jSize)).getD 0) - 65536 - d.logSize) / 2 / 65536 * 65536

/-- MAP_LIMIT (17 R706). -/
def Dev.mapLimit (d : Dev) : Nat := min 2097152 ((d.ckptSize - 4096 - 64 * d.bandCount) / 12)

/-- DRV_MAP.ENTRIES: entries in use over 32, rounded up, within the field (log entry 46). -/
def Dev.showMap (d : Dev) : Dev := d.put F.DRV_MAP_ENTRIES (min 65535 ((d.drv.map.length + d.drv.seals.length + 31) / 32))

def Dev.mapFind (d : Dev) (lba : Nat) : Option Extent := d.drv.map.find? (fun (e : Extent) => e.lba ≤ lba && lba < e.lba + e.count)

/-- The data index of a mapped LBA. -/
def Dev.dataIndex (d : Dev) (lba : Nat) : Option Nat :=
  match d.mapFind lba with
  | some e => if e.lost then none else some (e.dstart + (lba - e.lba))
  | none => none

/-- The LBA that names data index `x`. -/
def Dev.indexLba (d : Dev) (x : Nat) : Option Nat :=
  (d.drv.map.find? (fun (e : Extent) => !e.lost && e.dstart ≤ x && x < e.dstart + e.count)).map (fun e => e.lba + (x - e.dstart))

/-- What is left of an entry outside a range: at most two entries (17 R705). -/
def Extent.outside (e : Extent) (lba count : Nat) : List Extent :=
  let hi := lba + count
  if hi ≤ e.lba ∨ e.lba + e.count ≤ lba then [e]
  else
    (if e.lba < lba then [{ e with count := lba - e.lba }] else []) ++
    (if hi < e.lba + e.count then [{ e with lba := hi, count := e.lba + e.count - hi, dstart := e.dstart + (hi - e.lba), aux := 0 }] else [])

/-- Data sectors of an index range leave their bands' LIVE counts, band by band. -/
def liveFall : Nat → Dev → Nat → Nat → Dev
  | 0, d, _, _ => d
  | f + 1, d, x, n =>
    if n = 0 then d
    else
      match d.stripeBand (x / d.titheData) with
      | none => d
      | some (b, _) =>
        let u := (d.bandUnit b).getD ⟨0, 0, 0⟩
        let stop := (d.firstStripe b + d.fullStripes u) * d.titheData
        let k := min n (max 1 (stop - x))
        let e := d.band b
        liveFall f (d.setBand { e with live := e.live - k }) (x + k) (n - k)

/-- A cleaned band with no live sector becomes FREE (17 R683). -/
def Dev.freeCleaned (d : Dev) : Dev :=
  d.each (d.drv.bands.filter (fun (b : Band) => b.state == bandCleaning && b.live == 0)) (fun d (b : Band) =>
    (d.setBand { b with state := bandFree, next := 0 }).journalBand b.num)

/-- A range leaves the map (17 R705). -/
def Dev.mapCut (d : Dev) (lba count : Nat) : Dev :=
  let hit := d.drv.map.filter (fun (e : Extent) => !e.lost && e.lba < lba + count && lba < e.lba + e.count)
  let d := d.each hit (fun d (e : Extent) =>
    let lo := max e.lba lba
    let hi := min (e.lba + e.count) (lba + count)
    liveFall (hi - lo) d (e.dstart + (lo - e.lba)) (hi - lo))
  ({ d with drv := { d.drv with map := d.drv.map.flatMap (fun (e : Extent) => e.outside lba count) } }).showMap.freeCleaned

/-- An entry placed in the map in LBA order. -/
def mapInsert (l : List Extent) (e : Extent) : List Extent :=
  l.filter (fun x => x.lba < e.lba) ++ [e] ++ l.filter (fun x => !(x.lba < e.lba))

/-- Two entries that continue each other are one, within COUNT's 20 bits. -/
def mergeExtents : List Extent → List Extent
  | [] => []
  | e :: r =>
    match mergeExtents r with
    | [] => [e]
    | f :: r' =>
      if e.lost = f.lost ∧ e.lba + e.count = f.lba ∧ (e.lost ∨ e.dstart + e.count = f.dstart) ∧ e.count + f.count < 2 ^ 20 then
        { e with count := e.count + f.count } :: r'
      else e :: f :: r'

/-- An entry takes the place of what it overlaps, journaled with MAP_SET (17 R705, R710). -/
def Dev.mapSet (d : Dev) (e : Extent) : Dev :=
  let d := d.mapCut e.lba e.count
  let d := { d with drv := { d.drv with map := mergeExtents (mapInsert d.drv.map e) } }.showMap
  let d := if e.lost then d
    else
      match d.stripeBand (e.dstart / d.titheData) with
      | some (b, _) => d.setBand { d.band b with live := (d.band b).live + e.count }
      | none => d
  d.journal recMapSet (leBytes 12 e.bits)

/-- A range is cleared in the map and the journal (17 R710 MAP_CLEAR). -/
def Dev.mapClear (d : Dev) (lba count : Nat) : Dev := (d.mapCut lba count).journal recMapClear (leBytes 6 lba ++ leBytes 6 count)

/-! ### Sealed bands -/

/-- The sealed band an LBA lies in (16 R654). -/
def Dev.sealBand (d : Dev) (lba : Nat) : Option SealBand := d.drv.seals.find? (fun (s : SealBand) => s.lba ≤ lba && lba < s.lba + s.count)

/-- The data area of a sealed band ends here (18 R747). -/
def SealBand.tagStart (s : SealBand) : Nat := s.lba + s.count - s.count / 128

def Dev.setSeal (d : Dev) (s : SealBand) : Dev :=
  { d with drv := { d.drv with seals := d.drv.seals.map (fun (x : SealBand) => if x.idx == s.idx then s else x) } }

/-! ### Tiles -/

/-- A pool tile that no one holds and that takes a production (12 R494; 17 R696). -/
def Dev.allocTile (d : Dev) : Option Nat :=
  ((List.range (d.drv.tiles.length + d.grn.tiles.length + 1)).find? (fun t =>
    t < d.poolTiles && !d.drv.tiles.contains t && ((d.tile t).state == .empty || (d.tile t).state == .sealed)))

/-- Tiles that `allocTile` may still give. -/
def Dev.freeTiles (d : Dev) : Nat :=
  d.poolTiles - d.drv.tiles.length
    - (d.grn.tiles.filter (fun (t : Tile) => !(t.state == .empty || t.state == .sealed) && !d.drv.tiles.contains t.num)).length

def Dev.holdTile (d : Dev) (t : Nat) : Dev := { d with drv := { d.drv with tiles := t :: d.drv.tiles } }

def Dev.freeTile (d : Dev) (t : Nat) : Dev := { d with drv := { d.drv with tiles := d.drv.tiles.filter (fun x => x != t) } }

/-- A free tile is produced whole and held; none where the pool has none. -/
def Dev.newTile (d : Dev) (producer : Nat) (bytes : List Nat) : Dev × Option Nat :=
  match d.allocTile with
  | none => (d, none)
  | some t => (((d.tileFill producer t bytes).1).holdTile t, some t)

/-- The bytes of a tile. -/
def Dev.tileBytes (d : Dev) (t : Nat) : List Nat := d.granRead (d.tileBase t) 4096

/-! ### Pieces (17 R685 to R691) -/

/-- DRV_An_STAT of an actuator (17 R720, R691). -/
def Dev.showAct (d : Dev) (n : Nat) : Dev :=
  let l := d.drv.pieces.filter (fun (p : Piece) => p.act == n)
  let held := fun k => l.any (fun (p : Piece) => p.hold == some (2 * n + k))
  let c := (if held 0 then 1 else 0) + (if held 1 then 2 else 0)
  let d := (d.putI F.DRV_A_STAT_PIECES n (min 65535 l.length)).putI F.DRV_A_STAT_CH n c
  (d.flagI F.DRV_A_STAT_PAIRED n (c == 3)).flagI F.DRV_A_STAT_BUSY n (!l.isEmpty || d.drv.passes.any (fun (p : Pass) => p.act == n))

/-- The piece of an identity changed by `f`. -/
def Dev.mapPiece (d : Dev) (id : Nat) (f : Piece → Piece) : Dev :=
  let d := { d with drv := { d.drv with pieces := d.drv.pieces.map (fun (q : Piece) => if q.id == id then f q else q) } }
  d.each (List.range 4) Dev.showAct

/-- The piece of an identity leaves the table. -/
def Dev.dropPiece (d : Dev) (id : Nat) : Dev :=
  let d := { d with drv := { d.drv with pieces := d.drv.pieces.filter (fun (q : Piece) => q.id != id) } }
  d.each (List.range 4) Dev.showAct

/-- A piece is filed (17 R686). -/
def Dev.filePiece (d : Dev) (p : Piece) : Dev :=
  let p := { p with id := d.drv.nextPiece, filed := d.nowUs }
  ({ d with drv := { d.drv with pieces := d.drv.pieces ++ [p], nextPiece := d.drv.nextPiece + 1 } }).showAct p.act

/-- A read of sectors in runs: consecutive indices of one track of one surface are one piece (17 R685). -/
def runsOf : List (Spot × Sec) → List (List (Spot × Sec))
  | [] => []
  | x :: r =>
    match runsOf r with
    | [] => [[x]]
    | [] :: t => [x] :: t
    | (y :: g) :: t =>
      if x.1.head = y.1.head ∧ x.1.track = y.1.track ∧ x.1.idx + 1 = y.1.idx then (x :: y :: g) :: t else [x] :: (y :: g) :: t

/-- Pieces for sectors, with what they are for. -/
def Dev.fileReads (d : Dev) (why : Purpose) (rung step : Nat) (deadline : Option Nat) (l : List (Spot × Sec)) : Dev :=
  d.each (runsOf l) (fun d g =>
    match g.head? with
    | none => d
    | some x =>
      d.filePiece { id := 0, why := why, rung := rung, step := step, act := x.1.head / 8, head := x.1.head, track := x.1.track,
                    secs := g.map (fun y => y.2), filed := 0, deadline := deadline })

/-- Are both streams of an actuator fenced, or the actuator itself (01 R23, 17 R691)? -/
def Dev.actuatorDown (d : Dev) (n : Nat) : Bool :=
  (at' d.shps n {}).fenced || (d.bit F.RCH_STAT_FENCED (2 * n) && d.bit F.RCH_STAT_FENCED (2 * n + 1))

/-- Is a surface retired? -/
def Dev.surfaceRetired (d : Dev) (h : Nat) : Bool := d.bit F.GRN_TITHE_RETIRED_VALUE h

/-- TAG of a parity sector (10 R380); `anyTag` stands where the map names no LBA for a peer (log entry 31). -/
def parityTag (stripe : Nat) : Nat := 2 ^ 47 + stripe
def anyTag : Nat := 2 ^ 48

/-- The sector of a member with the TAG its dispatch expects. -/
def Dev.memberSec (d : Dev) (stripe m : Nat) (p : Spot) : Sec :=
  ⟨p.idx, if m = d.titheData then parityTag stripe else (d.indexLba (stripe * d.titheData + m)).getD anyTag, stripe, m⟩

/-- The place and sector of a mapped LBA. -/
def Dev.lbaSec (d : Dev) (lba : Nat) : Option (Spot × Sec) :=
  match d.dataIndex lba with
  | none => none
  | some x => (d.memberPlace (x / d.titheData) (x % d.titheData)).map (fun p => (p, ⟨p.idx, lba, x / d.titheData, x % d.titheData⟩))

/-! ### Durability (16 R645 to R647) -/

/-- Is any sector of the acknowledgements up to `k` not yet durable? -/
def Dev.notDurable (d : Dev) (k : Nat) : Nat :=
  (d.drv.wb.filter (fun (w : WriteBack) => 0 < w.order && w.order ≤ k)).length
    + (d.drv.unprog.filter (fun u => 0 < u.1 && u.1 ≤ k)).length

/-- FLUSH and FUA WRITE contexts whose data is durable are committed (16 R646, R647). -/
def Dev.flushProgress (d : Dev) : Dev :=
  d.each (d.cmd.ctxs.filter (fun (c : Ctx) => c.state == .dispatched && (c.opcode == opFlush || d.fuaWrite c))) (fun d (c : Ctx) =>
    if c.opcode == opFlush then
      if d.notDurable c.waitOrder = 0 then d.commit c.num stOk (min (2 ^ 32 - 1) c.left) 0 else d
    else if c.left = 0 && !d.drv.wb.any (fun (w : WriteBack) => w.ctx == c.num) && !d.drv.unprog.any (fun u => u.2 == c.num) then
      d.commit c.num stOk c.count 1
    else d)

/-! ### SEQ and the open band -/

def Dev.showSeq (d : Dev) : Dev := (d.put F.DRV_SEQ_LO_VALUE d.drv.seq).put F.DRV_SEQ_HI_VALUE (d.drv.seq / 2 ^ 32)

/-- The next SEQ, with a reservation of 2^20 values appended where it is past the last (17 R699). -/
def Dev.takeSeq (d : Dev) : Nat × Dev :=
  let s := d.drv.seq
  let d := if s < d.drv.reserved then d
    else { d with drv := { d.drv with reserved := s + 2 ^ 20 } }.journal recSeq (leBytes 6 (s + 2 ^ 20))
  (s, { d with drv := { d.drv with seq := (s + 1) % 2 ^ 48 } }.showSeq)

def Dev.openBand (d : Dev) : Option Band := d.drv.bands.find? (fun (b : Band) => b.state == bandOpen)

/-- Surfaces that a newly opened band may take (17 R683, R717, R718). -/
def Dev.openSurfaces (d : Dev) (b : Band) : Nat :=
  maskOf (d.headList.filter (fun h => !d.surfaceRetired h && !d.actuatorDown (h / 8) && !b.dropped.testBit h))

/-- The lowest-numbered FREE bands are opened until one has surfaces enough; the others become DEAD (17 R683). -/
def openNext : Nat → Dev → Dev
  | 0, d => d
  | f + 1, d =>
    match (List.range (d.drv.bands.length + 1)).find? (fun b => b < d.bandCount && (d.band b).state == bandFree) with
    | none => d
    | some n =>
      let b := d.band n
      let mask := d.openSurfaces b
      let ns := (d.surfaceList mask).length
      let u := (d.bandUnit n).getD ⟨0, 0, 0⟩
      if ns < d.titheData + 1 then openNext f ((d.setBand { b with state := bandDead, surfaces := mask, stripes := 0, next := 0 }).journalBand n)
      else (d.setBand { b with state := bandOpen, surfaces := mask, stripes := min (d.unitStripes u ns) (d.fullStripes u), next := 0,
                               used := b.defects }).journalBand n

def Dev.needOpen (d : Dev) : Dev := if d.openBand.isSome then d else openNext d.bandCount d

/-! ### Naming and abandoning (17 R696 to R698) -/

/-- GRN and DRV loss counts (17 R716). -/
def Dev.addI32 (d : Dev) (f : Field) (k : Nat) : Dev := d.add f k

/-- May the copy a member holds still be named: a host member's tile is the LBA's newest, another's LBA is where it was and no
newer data waits (17 R719)? -/
def Dev.memberCurrent (d : Dev) (m : Member) : Bool :=
  match m.kind with
  | .host => d.drv.wb.any (fun (w : WriteBack) => w.lba == m.lba && w.tile == m.tile)
  | .parity => false
  | .filler => false
  | _ => d.dataIndex m.lba == m.old && m.old.isSome && !d.drv.wb.any (fun (w : WriteBack) => w.lba == m.lba)

/-- The map with a stripe's current members named (17 R705). -/
def Dev.mapNamed (d : Dev) (s : Stripe) : List Extent :=
  (List.range s.members.length).foldl (fun l i =>
    match s.members[i]? with
    | none => l
    | some m =>
      if !d.memberCurrent m then l
      else mergeExtents (mapInsert (l.flatMap (fun (e : Extent) => e.outside m.lba 1)) ⟨m.lba, 1, false, s.num * d.titheData + i, m.seq % 2 ^ 32⟩))
    d.drv.map

/-- Does naming a stripe keep the map within its limit (17 R706)? -/
def Dev.namingFits (d : Dev) (s : Stripe) : Bool := (d.mapNamed s).length + d.drv.seals.length ≤ d.mapLimit

/-- Every data member of a stripe is named, the band's NEXT with them, and the data tiles are freed (17 R696). -/
def Dev.nameStripe (d : Dev) (s : Stripe) : Dev :=
  let w := d.titheData
  let d := d.each (List.range s.members.length) (fun d i =>
    match s.members[i]? with
    | none => d
    | some m =>
      let d := if !d.memberCurrent m then d
        else
          let d := d.mapSet { lba := m.lba, count := 1, lost := false, dstart := s.num * w + i, aux := m.seq % 2 ^ 32 }
          let gone := d.drv.wb.filter (fun (x : WriteBack) => x.lba == m.lba && x.tile == m.tile)
          { d with drv := { d.drv with
            wb := d.drv.wb.filter (fun (x : WriteBack) => !(x.lba == m.lba && x.tile == m.tile)),
            unprog := d.drv.unprog ++ gone.map (fun x => (x.order, x.ctx)) } }
      d.freeTile m.tile)
  let d := { d with drv := { d.drv with run := d.drv.run.filter (fun (x : Stripe) => x.num != s.num) } }
  (d.journalBand s.band).freeCleaned

/-- A stripe is named, or waits while the map is at its limit (17 R696, R706). -/
def Dev.tryName (d : Dev) (s : Stripe) : Dev :=
  if d.namingFits s then d.nameStripe s
  else if d.on F.DRV_STAT_MAP_FULL then d
  else ((d.put F.DRV_STAT_MAP_FULL 1).put F.DRV_INT_STAT_HELD 1).post 0x420C [d.get F.DRV_MAP_ENTRIES, d.get F.DRV_MAP_LIMIT]

/-- Stripes that are written and not named. -/
def Dev.unnamed (d : Dev) : List Stripe :=
  d.drv.run.filter (fun (t : Stripe) => t.members.all (fun (m : Member) => m.report == some 0))

/-- Stripes whose naming waits are named once the map has room (17 R706). -/
def Dev.nameWaiting (d : Dev) : Dev :=
  if !d.on F.DRV_STAT_MAP_FULL then d
  else
    let d := d.each d.unnamed (fun d t => if d.namingFits t then d.nameStripe t else d)
    if d.unnamed.isEmpty then d.put F.DRV_STAT_MAP_FULL 0 else d

/-- A member goes back to where it waited before placement (17 R697); host data is still in the write-back index. A copy that newer data has taken
the place of goes nowhere: its tile is free (R719). -/
def Dev.requeue (d : Dev) (m : Member) : Dev :=
  if !d.memberCurrent m then d.freeTile m.tile
  else match m.kind with
  | .rewrite => { d with drv := { d.drv with rewrites := d.drv.rewrites ++ [(m.lba, m.tile)] } }
  | .rebuild => { d with drv := { d.drv with rebuilt := d.drv.rebuilt ++ [(m.lba, m.tile)] } }
  | .clean => { d with drv := { d.drv with moved := d.drv.moved ++ [(m.lba, m.tile)] } }
  | .host => d
  | _ => d.freeTile m.tile

/-- Data not yet named is lost with its tile (17 R698; 16 R642; event 0x420A). -/
def Dev.waitingLost (d : Dev) (lba tile : Nat) : Dev :=
  let d := { d with drv := { d.drv with wb := d.drv.wb.filter (fun (x : WriteBack) => !(x.lba == lba && x.tile == tile)) } }
  (d.mapSet { lba := lba, count := 1, lost := true, dstart := 0, aux := 0 }).post 0x420A [lba % 2 ^ 32, lba / 2 ^ 32]

/-- The member whose tile failed its check (17 R698): host data is lost, another copy is read again from its old place. -/
def Dev.badMember (d : Dev) (m : Member) : Dev :=
  let d := d.freeTile m.tile
  match m.kind with
  | .host =>
    if d.memberCurrent m then d.waitingLost m.lba m.tile else d
  | .parity => d
  | .filler => d
  | _ =>
    match d.lbaSec m.lba with
    | none => d
    | some x => d.fileReads { kind := .clean } 0 0 none [x]

/-- A stripe is abandoned (17 R697, R698): member `i` had the report `code`. -/
def Dev.abandonStripe (d : Dev) (s : Stripe) (i code : Nat) : Dev :=
  let d := { d with drv := { d.drv with run := d.drv.run.filter (fun (x : Stripe) => x.num != s.num) } }
  let d := d.each (List.range s.members.length) (fun d j =>
    match s.members[j]? with
    | none => d
    | some m => if j = i ∧ code = 4 then d.badMember m else d.requeue m)
  (d.post 0x4209 [s.num % 2 ^ 32, i, code]).flushProgress

/-- The report of R440 on a member reaches its stripe: 0 WRITTEN, 1 TORN, 2 NOT_STARTED, 3 NOT_READY, 4 BAD_TILE; the stripe is
named once every member is WRITTEN, abandoned at the first other report (17 R696, R697). -/
def Dev.memberReport (d : Dev) (stripe member code : Nat) : Dev :=
  match d.drv.run.find? (fun (t : Stripe) => t.num == stripe) with
  | none => d
  | some t =>
    let t := { t with members := t.members.mapIdx (fun i (m : Member) => if i = member then { m with report := some code } else m) }
    if code != 0 then d.abandonStripe t member code
    else
      let d := { d with drv := { d.drv with run := d.drv.run.map (fun (x : Stripe) => if x.num == stripe then t else x) } }
      if t.members.all (fun (m : Member) => m.report == some 0) then d.tryName t else d

/-! ### Rung 3 and rung 4 (17 R715 to R717) -/

/-- The first member of a purpose's stripe. -/
def recovAt (stripe member : Nat) (r : Recovery) : Bool := r.op.sec.stripe == stripe && r.op.sec.member == member

/-- Entries at rungs 1 and 2 (10 R409, R417). -/
def Dev.showRecov (d : Dev) : Dev :=
  let n := fun k => (d.det.recov.filter (fun (r : Recovery) => r.op.rung == k)).length
  (d.put F.DET_RECOV_RUNG1 (n 1)).put F.DET_RECOV_RUNG2 (n 2)

def Dev.setRecov (d : Dev) (l : List Recovery) : Dev := { d with det := { d.det with recov := l } }.showRecov

def Dev.dropRecov (d : Dev) (stripe member : Nat) : Dev := d.setRecov (d.det.recov.filter (fun r => !recovAt stripe member r))

/-- Is a sector of a command in recovery (17 R701, RECOVERING)? -/
def Dev.recovering (d : Dev) (n : Nat) : Bool := (d.det.recov ++ d.det.waiting).any (fun (r : Recovery) => r.op.why.ctx == some n)

/-- The 64 bytes of a context (16 R634; 17 R701). -/
def Dev.ctxRecord (d : Dev) (c : Ctx) : List Nat :=
  let state := match c.state with | .queued => 1 | .dispatched => 2 | .committed => 3
  let bits := fun (b : Bool) (k : Nat) => if b then 2 ^ k else 0
  let next := (d.cmd.ctxs.find? (fun (x : Ctx) => c.num < x.num && x.state == c.state)).map (fun (x : Ctx) => x.num % 2 ^ 20)
  let pieces := (d.drv.pieces.filter (fun (p : Piece) => p.why.ctx == some c.num)).length
  c.words.flatMap (leBytes 4) ++
    [state + bits c.covered 3 + bits (d.recovering c.num) 4 + bits c.abortSeen 5 + bits c.locked 6, c.rung] ++ leBytes 2 pieces
    ++ leBytes 4 (c.acceptUs % 2 ^ 32) ++ leBytes 4 c.done ++ leBytes 4 (next.getD 0xFFFFF)

/-- A READ that ends on a failing sector: the host memory of that sector and of every sector after it is undefined (16 R644): free values (log
entry 5). -/
def Dev.readUndefined (d : Dev) (c : Ctx) (lba : Nat) : Dev :=
  if c.opcode = opRead && lba < c.lba + c.count then
    let n := 4096 * (c.lba + c.count - lba)
    let r := (List.range n).foldl (fun (x : Dev × List Nat) _ => let v := x.1.fresh; (v.2, v.1 % 256 :: x.2)) (d, [])
    r.1.segsToHost c ((lba - c.lba) * 4096) r.2
  else d

/-- A sector of a dispatched READ or VERIFY is done, or has failed (16 R640, R641): the command ends once every sector has. -/
def Dev.sectorEnds (d : Dev) (n lba rung : Nat) (err : Option Nat) : Dev :=
  match d.ctx n with
  | none => d
  | some c =>
    if c.state != .dispatched then d
    else
      let c := { c with left := c.left - 1, rung := max c.rung rung, done := if err.isNone then c.done + 1 else c.done,
                        failed := match err, c.failed with
                          | none, f => f
                          | some s, none => some (lba, s)
                          | some s, some (l, t) => if lba < l then some (lba, s) else some (l, t) }
      let d := d.mapCtx n (fun _ => c)
      if c.left != 0 then d
      else
        match c.failed with
        | some (l, s) => (d.readUndefined c l).commit n s (l % 2 ^ 32) (l / 2 ^ 32)
        | none => d.commit n stOk c.count c.rung

/-- The bytes of a sector go to a command: a READ's data list, a VERIFY's count (16 R626). -/
def Dev.sectorData (d : Dev) (n lba rung : Nat) (bytes : List Nat) : Dev :=
  match d.ctx n with
  | none => d
  | some c =>
    if c.state != .dispatched then d
    else
      let d := if c.opcode == opRead then d.segsToHost c ((lba - c.lba) * 4096) bytes else d
      d.sectorEnds n lba rung none

/-- A keyed computation is asked for (18 R745): it starts, suspends a less urgent one, or waits; one of class 2 waits while DEBUG holds appends
(R752). -/
def Dev.askComp (d : Dev) (x : Comp) : Dev :=
  let show' := fun (d : Dev) =>
    let d := match d.sea.cur with
      | some c => (d.put F.SEA_STAT_ACTIVE 1).put F.SEA_STAT_CLASS c.cls
      | none => (d.put F.SEA_STAT_ACTIVE 0).put F.SEA_STAT_CLASS 0
    d.put F.SEA_STAT_SUSPENDED (maskOf (d.sea.susp.map (fun (c : Comp) => c.cls)))
  if x.cls = 2 && d.on F.SEA_STAT_HOLD_APPENDS then { d with sea := { d.sea with queue := d.sea.queue ++ [x] } }
  else match d.sea.cur with
  | none => show' { d with sea := { d.sea with cur := some x } }
  | some c =>
    if x.cls < c.cls && !d.sea.susp.any (fun (y : Comp) => y.cls == c.cls) then
      show' { d with sea := { d.sea with cur := some x, susp := c :: d.sea.susp } }
    else { d with sea := { d.sea with queue := d.sea.queue ++ [x] } }

/-- A released sector reaches its command: one of a sealed band's data area waits for its check (16 R657, 18 R750). -/
def Dev.deliverRead (d : Dev) (n lba rung : Nat) (again : Bool) (bytes : List Nat) : Dev :=
  match d.sealBand lba with
  | some s =>
    if lba < s.tagStart then
      (d.mapCtx n (fun c => { c with rung := max c.rung rung })).askComp { cls := 1, band := s.idx, lba := lba, data := bytes, ctx := some n, again := again }
    else d.sectorData n lba rung bytes
  | none => d.sectorData n lba rung bytes

/-- The members of a stripe a rebuild cannot read: on a retired surface, or on an actuator that is down (17 R716). -/
def Dev.memberLost (d : Dev) (p : Spot) : Bool := d.surfaceRetired p.head || d.actuatorDown (p.head / 8)

/-- A sector has failed rung 3 (17 R716): it is counted, and its command sees MEDIA_ERROR. -/
def Dev.rebuildFails (d : Dev) (r : Recovery) (lost : Nat) : Dev :=
  let sec := r.op.sec
  let d := (d.add F.GRN_TITHE_LOST_VALUE (if sec.member < d.titheData then 1 else 0)).put F.DRV_INT_STAT_LOST 1
  let d := (d.post 0x4205 [sec.stripe % 2 ^ 32, lost, sec.lba % 2 ^ 32]).dropRecov sec.stripe sec.member
  let d := d.each r.got Dev.freeTile
  let d := d.each (d.drv.pieces.filter (fun (p : Piece) => p.why.parent == some (sec.stripe, sec.member) && p.hold.isNone)) (fun d (p : Piece) => d.dropPiece p.id)
  match r.op.why.ctx with
  | some n => d.sectorEnds n sec.lba 3 (some (if r.sealCheck then stSeal else stMedia))
  | none => d

/-- A sector enters rung 3 (17 R715): its peers are filed, or it fails at once with a second member lost; each other lost data member that the
map names is counted too (R716). `fenced`: only a fence brought it here (R717). -/
def Dev.startRebuild (d : Dev) (op : ReadOp) (stream attempts : Nat) (sealCheck fenced : Bool) : Dev :=
  let sec := op.sec
  let others := (List.range (d.titheData + 1)).filter (fun m => m != sec.member)
  let places := others.filterMap (fun m => (d.memberPlace sec.stripe m).map (fun p => (p, d.memberSec sec.stripe m p)))
  let gone := places.filter (fun x => d.memberLost x.1)
  let named := gone.filter (fun x => x.2.member < d.titheData && x.2.lba < 2 ^ 47)
  let r : Recovery := { op := { op with rung := 3 }, stream := stream, attempts := attempts, peers := others.length, sealCheck := sealCheck,
                        fenced := fenced }
  if !gone.isEmpty || places.length != others.length then (d.add F.GRN_TITHE_LOST_VALUE named.length).rebuildFails r (gone.length + 1)
  else
    let d := d.setRecov (d.det.recov ++ [r])
    d.fileReads { kind := .peer, parent := some (sec.stripe, sec.member) } 0 0 none places

/-- A peer of a rebuild has been read: its tile is kept (17 R715). -/
def Dev.peerGot (d : Dev) (stripe member : Nat) (bytes : List Nat) : Dev :=
  if d.det.recov.any (fun r => r.op.rung == 3 && recovAt stripe member r) then
    let x := d.newTile prodSlice bytes
    match x.2 with
    | none => d
    | some t => x.1.setRecov (x.1.det.recov.map (fun (r : Recovery) => if r.op.rung == 3 && recovAt stripe member r then { r with got := r.got ++ [t] } else r))
  else d

/-- A peer has failed rungs 1 and 2: a second member is lost, for every rebuild of the stripe (17 R716). -/
def Dev.peerFails (d : Dev) (stripe member : Nat) (peer : Sec) : Dev :=
  let d := if peer.member < d.titheData && peer.lba < 2 ^ 47 then d.add F.GRN_TITHE_LOST_VALUE 1 else d
  d.each (d.det.recov.filter (fun (r : Recovery) => r.op.rung == 3 && recovAt stripe member r)) (fun d r => d.rebuildFails r 2)

/-- Has a WRITE of an LBA been accepted that has not ended (17 R719)? -/
def Dev.writeAccepted (d : Dev) (lba : Nat) : Bool :=
  d.cmd.ctxs.any (fun (c : Ctx) => c.active && c.opcode == opWrite && c.lba ≤ lba && lba < c.lba + c.count)

/-- A sector is to be rewritten (17 R717): its data waits in a tile for the next run. -/
def Dev.rewriteDue (d : Dev) (lba : Nat) (bytes : List Nat) : Dev :=
  if (d.dataIndex lba).isNone || d.writeAccepted lba || d.drv.wb.any (fun (w : WriteBack) => w.lba == lba) || d.drv.rewrites.any (fun x => x.1 == lba) then d
  else
    let x := d.newTile prodSlice bytes
    match x.2 with
    | none => d
    | some t => { x.1 with drv := { x.1.drv with rewrites := x.1.drv.rewrites ++ [(lba, t)] } }

/-- The old position of a rewritten sector enters its band's DEFECT list; a full list drops the surface from the band's next
opening (17 R717, R684; events 0x4206, 0x420B). -/
def Dev.addDefect (d : Dev) (lba : Nat) (p : Spot) : Dev :=
  let b := d.band p.band
  if b.defects.length < 8 then
    let b := { b with defects := b.defects ++ [(p.head, p.pos)] }
    let d := (d.setBand b).journal recDefect (leBytes 4 p.band ++ leBytes 4 (p.head * 2 ^ 27 + p.pos))
    d.post 0x4206 [lba % 2 ^ 32, p.band, b.defects.length]
  else
    let d := (d.setBand { b with dropped := withBit b.dropped p.head true }).post 0x4206 [lba % 2 ^ 32, p.band, 8]
    if b.dropped.testBit p.head then d else d.post 0x420B [p.band, p.head]

/-! ### New data of an LBA (10 R416, 17 R719) -/

/-- A recovery that no command waits for any more: its peers are read no further, and its tiles are free. -/
def Dev.endRecov (d : Dev) (r : Recovery) : Dev :=
  let sec := r.op.sec
  let d := (d.each r.got Dev.freeTile).dropRecov sec.stripe sec.member
  d.each (d.drv.pieces.filter (fun (p : Piece) => p.hold.isNone && p.why.parent == some (sec.stripe, sec.member))) (fun d (p : Piece) => d.dropPiece p.id)

/-- Recovery, rebuilds and rewrites of a range's LBAs end: newer data prevails (17 R719; 10 R416). A sector that a command still waits for goes on to
its release. -/
def Dev.supersede (d : Dev) (lba count : Nat) : Dev :=
  let hit := fun (x : Nat) => lba ≤ x && x < lba + count
  let d := d.each ((d.drv.rewrites ++ d.drv.rebuilt).filter (fun x => hit x.1)) (fun d x => d.freeTile x.2)
  let keep := fun (x : Nat × Nat) => !hit x.1
  let d := { d with drv := { d.drv with rewrites := d.drv.rewrites.filter keep, rebuilt := d.drv.rebuilt.filter keep } }
  d.each (d.det.recov.filter (fun (r : Recovery) => hit r.op.sec.lba && (match r.op.why.ctx with | none => true | some n => (d.ctx n).isNone)))
    Dev.endRecov

/-- Relocation copies of a range's LBAs are out of date. -/
def Dev.dropMoved (d : Dev) (lba count : Nat) : Dev :=
  let hit := fun (x : Nat × Nat) => lba ≤ x.1 && x.1 < lba + count
  let d := d.each (d.drv.moved.filter hit) (fun d x => d.freeTile x.2)
  { d with drv := { d.drv with moved := d.drv.moved.filter (fun x => !hit x) } }

/-- Is a tile a host member of a stripe of the present run? -/
def Dev.tilePlaced (d : Dev) (t : Nat) : Bool := d.drv.run.any (fun (x : Stripe) => x.members.any (fun (m : Member) => m.tile == t && m.kind == .host))

/-- A sector's new data waits in a tile for its run (17 R702, R719): it takes the place of older waiting data, whose turn for a FLUSH it
keeps. `ctx` is the FUA WRITE that waits for it, or 0. -/
def Dev.putWaiting (d : Dev) (lba tile order ctx : Nat) : Dev :=
  let old := d.drv.wb.find? (fun (w : WriteBack) => w.lba == lba)
  let d := d.supersede lba 1
  let order := match old with | some w => if w.order = 0 then order else w.order | none => order
  let d := (match old with | some w => if d.tilePlaced w.tile then d else d.freeTile w.tile | none => d).dropMoved lba 1
  { d with drv := { d.drv with wb := d.drv.wb.filter (fun (w : WriteBack) => w.lba != lba) ++ [⟨lba, tile, order, ctx⟩] } }

end Sys2Proof.Machine
end

