-- ==== Sys2Proof/Machine/ReadOps.lean ====
section
/-! DEFINITION. The named operations of reading that other blocks call (spec/09, spec/10): a stream unit's snapshot, the
abandoning of an attempt, the rungs a failing sector climbs, the sample store, a fenced stream's slice. -/

namespace Sys2Proof.Machine

/-! ### Stream units -/

/-- RCH_Sx_STAT.PHASE values (09 R369). -/
def phIdle : Nat := 0
def phZps : Nat := 1
def phGain : Nat := 2
def phTiming : Nat := 3
def phTrack : Nat := 4
def phServo : Nat := 5
def phFenced : Nat := 6

def Dev.fes (d : Dev) (s : Nat) : Fe := at' d.fe s {}

def Dev.setFe (d : Dev) (s : Nat) (f : Fe → Fe) : Dev := { d with fe := d.fe.set s (f (d.fes s)) }

def Dev.reading (d : Dev) (s : Nat) : Bool := d.bit F.RCH_STAT_READING s

/-- The target G of a stream (09 R338). -/
def Dev.target5 (d : Dev) (s : Nat) : List Int :=
  [toSigned 8 (d.getI F.RCH_S_TARGET0_G0 s), toSigned 8 (d.getI F.RCH_S_TARGET0_G1 s), toSigned 8 (d.getI F.RCH_S_TARGET0_G2 s),
   toSigned 8 (d.getI F.RCH_S_TARGET0_G3 s), toSigned 8 (d.getI F.RCH_S_TARGET1_G4 s)]

def two (f : Nat → Nat) : List Nat := [f 0, f 1]

/-- The adaptive values of a stream (09 R356). -/
def Dev.adaptive (d : Dev) (s : Nat) : Adaptive :=
  ⟨two (fun l => d.getI F.RCH_S_LANE_AFE_GAIN (2 * s + l)), two (fun l => d.getI F.RCH_S_LANE_OFFS_OFFSET (2 * s + l)),
   two (fun l => d.getI F.RCH_S_LANE_OFFS_ASYM (2 * s + l)),
   (List.range 16).map (fun i => d.getI F.RCH_S_TAP_TAP_A (16 * s + i)), (List.range 16).map (fun i => d.getI F.RCH_S_TAP_TAP_B (16 * s + i))⟩

def Dev.putAdaptive (d : Dev) (s : Nat) (a : Adaptive) : Dev :=
  let d := d.each [0, 1] (fun d l =>
    ((d.putI F.RCH_S_LANE_AFE_GAIN (2 * s + l) (at' a.gain l 0)).putI F.RCH_S_LANE_OFFS_OFFSET (2 * s + l) (at' a.offset l 0)).putI
      F.RCH_S_LANE_OFFS_ASYM (2 * s + l) (at' a.asym l 0))
  d.each (List.range 16) (fun d i => (d.putI F.RCH_S_TAP_TAP_A (16 * s + i) (at' a.tapA i 0)).putI F.RCH_S_TAP_TAP_B (16 * s + i) (at' a.tapB i 0))

/-- The snapshot comes back (09 R356, event 0x2007): `cause` 0 decode failure, 1 abandon. -/
def Dev.restoreSnap (d : Dev) (s cause : Nat) : Dev :=
  match (d.fes s).snap with
  | none => d
  | some a => ((d.putAdaptive s a).setFe s (fun f => { f with restoreDue := none })).post 0x2007 [s, cause]

/-! ### The sample store (10 R401, R402) -/

def sameSector (a b : ReadOp) : Bool := a.sec.stripe == b.sec.stripe && a.sec.member == b.sec.member

def Dev.setSets (d : Dev) (l : List SampleSet) : Dev :=
  { d with det := { d.det with sets := l } }.put F.DET_SAMPLE_SETS_IN_USE l.length

/-- The sets of a sector are freed. -/
def Dev.freeSets (d : Dev) (op : ReadOp) : Dev := d.setSets (d.det.sets.filter (fun (x : SampleSet) => !sameSector x.op op))

/-- A sample set is kept: the oldest of its sector makes room past REDECODE_SETS; a full store keeps none (event 0x210D). -/
def Dev.keepSet (d : Dev) (a : Attempt) : Dev :=
  let own := d.det.sets.filter (fun (x : SampleSet) => sameSector x.op a.op)
  let new : SampleSet := ⟨a.op, a.stream, a.start.getD 160, a.words.reverse.map storedSample⟩
  if a.words.isEmpty then d
  else if d.policy 0x2109 4 ≤ own.length then
    match own.head? with
    | some old => d.setSets (d.det.sets.filter (fun x => x != old) ++ [new])
    | none => d
  else if d.policy 0x210A 1024 ≤ d.det.sets.length then
    (d.put F.DET_INT_STAT_STORE_FULL 1).post 0x210D [a.stream, d.det.sets.length]
  else d.setSets (d.det.sets ++ [new])

/-! ### Off-line jobs (10 R400, R403) -/

def Dev.setJobs (d : Dev) (l : List Job) : Dev :=
  { d with det := { d.det with jobs := l } }.put F.DET_OFFLINE_QUEUED (min 65535 (l.filter (fun (j : Job) => j.slice.isNone)).length)

def Dev.addJob (d : Dev) (stream : Nat) (op : ReadOp) (rung2 : Bool) : Dev :=
  let j : Job := { id := d.det.nextJob, stream := stream, op := op, rung2 := rung2 }
  { d with det := { d.det with nextJob := d.det.nextJob + 1 } }.setJobs (d.det.jobs ++ [j])

/-! ### The rungs (10 R404 to R409) -/

/-- A re-read or a repeated read of a sector is filed as a piece of its own. -/
def Dev.fileOp (d : Dev) (op : ReadOp) : Dev :=
  d.filePiece { id := 0, why := op.why, rung := op.rung, step := op.step, act := op.head / 8, head := op.head, track := op.track,
                secs := [op.sec], filed := 0 }

/-- Steps of rung 1 for a read: RETRY_STREAM for one of a committed stream, RETRY_MAX otherwise (10 R405). -/
def Dev.retryLimit (d : Dev) (op : ReadOp) : Nat :=
  match op.why.ctx with
  | none => d.policy 0x2101 8
  | some n =>
    match d.ctx n with
    | some c => if c.inStream then d.policy 0x2102 2 else d.policy 0x2101 8
    | none => d.policy 0x2101 8

/-- Sectors at rungs 1 and 2. -/
def Dev.recovInUse (d : Dev) : Nat := (d.det.recov.filter (fun (r : Recovery) => r.op.rung == 1 || r.op.rung == 2)).length

/-- A sector enters rung 1, or waits for an entry (10 R409, event 0x210E). -/
def Dev.enterRung1 (d : Dev) (r : Recovery) : Dev :=
  if d.recovInUse < 256 then
    let op := { r.op with rung := 1, step := 1 }
    (d.setRecov (d.det.recov ++ [{ r with op := op }])).fileOp op
  else
    let d := { d with det := { d.det with waiting := d.det.waiting ++ [r] } }
    (d.put F.DET_INT_STAT_STORE_FULL 1).post 0x210E [r.stream, d.recovInUse]

/-- A waiting sector takes a freed entry. -/
def Dev.admitWaiting (d : Dev) : Dev :=
  match d.det.waiting with
  | [] => d
  | r :: l => if d.recovInUse < 256 then { d with det := { d.det with waiting := l } }.enterRung1 r else d

/-- A sector that rung 2 has failed is handed to rung 3 (10 R408; 01 R32): its sets are freed. -/
def Dev.handOff (d : Dev) (r : Recovery) : Dev :=
  let op := r.op
  let d := (d.freeSets op).dropRecov op.sec.stripe op.sec.member
  let d := (d.inc F.DET_HANDOFF_COUNT).put F.DET_INT_STAT_HANDOFF 1
  let d := (d.post 0x2109 [r.stream, op.sec.lba % 2 ^ 32, op.sec.lba / 2 ^ 32 % 2 ^ 16, r.attempts]).admitWaiting
  match op.why.parent with
  | some p => d.peerFails p.1 p.2 op.sec
  | none => d.startRebuild op r.stream r.attempts false r.fenced

/-- Rung 2 starts on the sets kept; with none kept it has failed (10 R406, R416). -/
def Dev.enterRung2 (d : Dev) (r : Recovery) : Dev :=
  let op := { r.op with rung := 2 }
  let d := d.setRecov (d.det.recov.map (fun (x : Recovery) => if recovAt op.sec.stripe op.sec.member x then { r with op := op } else x))
  if d.det.sets.any (fun (x : SampleSet) => sameSector x.op op) then d.addJob r.stream op true else d.handOff { r with op := op }

/-- A write's verify read fails (11 R443): torn, cause VERIFY. The sector leaves the channel's list. -/
def Dev.verifyFails (d : Dev) (stripe member globals : Nat) : Dev :=
  d.each (List.range 8) (fun d s =>
    let c := at' d.wch.ch s {}
    d.each (c.verify.filter (fun (x : WSector) => x.stripe == stripe && x.member == member)) (fun d (x : WSector) =>
      let c := at' d.wch.ch s {}
      let d := { d with wch := { d.wch with ch := d.wch.ch.set s { c with verify := c.verify.filter (fun y => y != x) } } }
      let d := (d.incI F.WCH_W_VERIFY_FAILED s).put F.WCH_INT_STAT_VERIFY 1
      let d := ((d.incI F.WCH_W_TORN_COUNT s).putI F.WCH_W_STAT_LAST s 1).memberReport x.stripe x.member 1
      (d.post 0x2203 [s, 2, x.lba % 2 ^ 32, x.lba / 2 ^ 32]).post 0x2205 [s, x.lba % 2 ^ 32, globals]))

/-- A read of a sector has failed at its rung (10 R404 to R406, 09 R365). -/
def Dev.readFailed (d : Dev) (stream : Nat) (op : ReadOp) (globals : Nat) : Dev :=
  if op.why.kind = .verifyRead then d.verifyFails op.sec.stripe op.sec.member globals
  else if op.rung = 0 then
    let d := match (List.range 9).find? (fun q => d.getI F.DET_Q_STAT_STREAM q == stream) with
      | some q => d.incI F.DET_Q_FIRST_FAIL_COUNT q
      | none => d
    d.enterRung1 { op := op, stream := stream, attempts := 1 }
  else
    match d.det.recov.find? (fun r => r.op.rung == op.rung && recovAt op.sec.stripe op.sec.member r) with
    | none => d
    | some r =>
      let r := { r with attempts := r.attempts + 1 }
      if op.step < d.retryLimit op then
        let op := { op with step := op.step + 1 }
        (d.setRecov (d.det.recov.map (fun (x : Recovery) => if recovAt op.sec.stripe op.sec.member x then { r with op := op } else x))).fileOp op
      else d.enterRung2 r

/-! ### What a fenced actuator or a retired surface holds (01 R23, R31; 17 R684, R716) -/

/-- A piece whose surface is lost leaves the grid: its sectors go to rung 3, a peer is a second loss, a verify read fails. -/
def Dev.lostPiece (d : Dev) (p : Piece) : Dev :=
  (p.secs).foldl (fun (d : Dev) (x : Sec) =>
    let op : ReadOp := { sec := x, head := p.head, track := p.track, why := p.why, rung := p.rung, step := p.step }
    match p.why.kind, p.why.parent with
    | .verifyRead, _ => d.verifyFails x.stripe x.member 0
    | .scrub, _ => d
    | _, some q => ((d.freeSets op).dropRecov x.stripe x.member).peerFails q.1 q.2 x
    | _, none => ((d.freeSets op).dropRecov x.stripe x.member).startRebuild op (2 * p.act) 1 false (!d.surfaceRetired p.head)) (d.dropPiece p.id)

/-- Members of the present run that a head has still to write. -/
def Dev.passMembers (d : Dev) (track head : Nat) : List (Member × Nat × Nat) :=
  d.drv.run.flatMap (fun (t : Stripe) => (List.range t.members.length).filterMap (fun i =>
    match t.members[i]? with
    | some m => if m.head == head && m.track == track && m.report.isNone then some (m, t.num, i) else none
    | none => none))

/-- A pass that no channel can write: its members are reported with `code`, and it is dropped. -/
def Dev.dropPass (d : Dev) (p : Pass) (code : Nat) : Dev :=
  let l := p.heads.flatMap (fun h => d.passMembers p.track h)
  let d := { d with drv := { d.drv with passes := d.drv.passes.filter (fun x => x != p) } }
  (l.foldl (fun (d : Dev) x => d.memberReport x.2.1 x.2.2 code) d).showAct p.act

/-- Pieces and passes for an actuator that is down or a surface retired are settled, and an open band that lies on such an actuator closes
(log entry 47). -/
def Dev.rerouteLost (d : Dev) : Dev :=
  let d := (d.drv.pieces.filter (fun (p : Piece) => p.hold.isNone && (d.actuatorDown p.act || d.surfaceRetired p.head))).foldl Dev.lostPiece d
  let d := (d.drv.passes.filter (fun (p : Pass) => d.actuatorDown p.act)).foldl (fun (d : Dev) p => d.dropPass p 2) d
  match d.openBand with
  | none => d
  | some b =>
    if (d.surfaceList b.surfaces).any (fun h => d.actuatorDown (h / 8)) then (d.setBand { b with state := bandFull }).journalBand b.num else d

/-! ### Slots -/

def Dev.detSlice (d : Dev) (q : Nat) : Slice := at' d.det.slices q {}

/-- The slice that serves a stream (10 R411, R417 DET_XBAR). -/
def xbarField (s : Nat) : Field := ⟨F.DET_XBAR_SLICE_0.key + s, 4, s⟩

def Dev.sliceOf (d : Dev) (s : Nat) : Option Nat := let q := d.get (xbarField s); if q < 9 then some q else none

/-- DET_Qq_STAT.STATE values (10 R415). -/
def slIdle : Nat := 0
def slFraming : Nat := 1
def slDecode : Nat := 2
def slOffline : Nat := 4
def slKat : Nat := 5
def slFailed : Nat := 6
def slSpare : Nat := 7

def Dev.sliceState (d : Dev) (q : Nat) : Nat := d.getI F.DET_Q_STAT_STATE q

/-- Where a slice rests with no attempt and no job: SPARE for slice 8 serving no stream (10 R415). -/
def Dev.restState (d : Dev) (q : Nat) : Nat := if q = 8 && d.getI F.DET_Q_STAT_STREAM 8 == 15 then slSpare else slIdle

/-- The state a slice shows for its slots and its off-line job (10 R415). -/
def Dev.showSlice (d : Dev) (q : Nat) : Dev :=
  let sl := (d.detSlice q).slots
  let job := d.det.jobs.any (fun (j : Job) => j.slice == some q)
  let d := d.putI F.DET_Q_STAT_SLOTS q sl.length
  let d := (d.setBit F.DET_STAT_ONLINE q (!sl.isEmpty)).setBit F.DET_STAT_OFFLINE q job
  if d.sliceState q = slFailed then d
  else
    match sl with
    | a :: _ => d.putI F.DET_Q_STAT_STATE q (if a.start.isSome then slDecode else slFraming)
    | [] =>
      if job then d.putI F.DET_Q_STAT_STATE q slOffline
      else if (d.detSlice q).katDue then d.putI F.DET_Q_STAT_STATE q slKat
      else d.putI F.DET_Q_STAT_STATE q (d.restState q)

/-- The decode of the attempt in front begins once it is framed: four or more others waiting cap it at one global iteration
(10 R398). -/
def beginFront (old new : List Attempt) : List Attempt :=
  match new with
  | [] => []
  | a :: l =>
    let same := match old with
      | b :: _ => b.stream == a.stream && b.op == a.op && b.start.isSome
      | [] => false
    if a.start.isNone || same then new else { a with capOne := decide (4 ≤ l.length) && a.op.why.kind != .verifyRead } :: l

def Dev.setSlots (d : Dev) (q : Nat) (l : List Attempt) : Dev :=
  let l := beginFront (d.detSlice q).slots l
  { d with det := { d.det with slices := d.det.slices.set q { d.detSlice q with slots := l } } }.showSlice q

/-- The piece of a stream's channel that has no sector left and none being read is done: it leaves the table. -/
def Dev.pieceDone (d : Dev) (s : Nat) : Dev :=
  match d.drv.pieces.find? (fun (p : Piece) => p.hold == some s) with
  | none => d
  | some p => if p.secs.isEmpty && !d.reading s && p.why.kind != .writePass then d.dropPiece p.id else d

/-- An attempt in progress is abandoned (09 R364, R365): samples stop, the snapshot comes back, the slot is freed, its samples kept as R402 has it; the
read counts as failed at its rung, but for a crossbar move, after which it is read again at its rung (01 R30, 10 R413). -/
def Dev.abandonAttempt (d : Dev) (s cause : Nat) : Dev :=
  if !d.reading s then d
  else
    let bits := (d.fes s).bits
    let d := ((d.setBit F.RCH_STAT_READING s false).putI F.RCH_S_STAT_PHASE s phIdle).putI F.RCH_S_STAT_LAST_ABANDON s cause
    let d := ((d.incI F.RCH_S_ABANDON_COUNT s).put F.RCH_INT_STAT_ABANDON 1).post 0x2002 [s, cause, bits]
    let d := (d.restoreSnap s 1).pieceDone s
    match d.sliceOf s with
    | none => d
    | some q =>
      match (d.detSlice q).slots.find? (fun (a : Attempt) => !a.ended && a.stream == s) with
      | none => d
      | some a =>
        let d := d.setSlots q ((d.detSlice q).slots.filter (fun (x : Attempt) => x.ended || x.stream != s))
        if cause = 5 then d.fileOp a.op
        else if a.op.why.kind = .verifyRead then d.readFailed s a.op a.globals
        else (d.keepSet a).readFailed s a.op a.globals

/-- A decode moves off-line (10 R398 to R400): its set is stored, its slot freed. -/
def Dev.deferAttempt (d : Dev) (q : Nat) (a : Attempt) (report : Bool) : Dev :=
  let d := (d.incI F.DET_Q_DEFERRED_COUNT q).put F.DET_INT_STAT_DEFER 1
  let n := (d.detSlice q).slots.length
  let d := d.setSlots q ((d.detSlice q).slots.filter (fun x => x != a))
  let d := (d.keepSet a).addJob a.stream a.op false
  if report then d.post 0x2104 [a.stream, n, a.globals] else d

/-- A fenced stream leaves its slice (10 R415, R416; 01 R32): complete attempts in the slots go off-line, DET_XBAR reads 0xF, slice 8
is the spare again, and the stream's sectors at rungs 1 and 2 go to rung 3, where only the fence brings them (17 R717). A sector is of the stream
whose read of it failed first, whichever channel its retries ran on (DESIGN CHOICE, log entry 155). -/
def Dev.detectFence (d : Dev) (s : Nat) : Dev :=
  let d := match d.sliceOf s with
    | none => d
    | some q =>
      let d := d.each (d.detSlice q).slots (fun d a => d.deferAttempt q a false)
      let d := (d.put (xbarField s) 15).putI F.DET_Q_STAT_STREAM q 15
      let d := if q = 8 then (d.put F.DET_SPARE_STATE 0).put F.DET_SPARE_STREAM 0 else d
      d.showSlice q
  d.each (d.det.recov.filter (fun (r : Recovery) => r.stream == s && (r.op.rung == 1 || r.op.rung == 2))) (fun d (r : Recovery) =>
    let d := d.setJobs (d.det.jobs.filter (fun (j : Job) => !(j.rung2 && sameSector j.op r.op)))
    let d := d.each (d.drv.pieces.filter (fun (p : Piece) => p.rung == 1 && p.secs.any (fun x => x == r.op.sec))) (fun d (p : Piece) => d.dropPiece p.id)
    d.handOff { r with fenced := true })

end Sys2Proof.Machine
end

