-- ==== Sys2Proof/Machine/DriveOps.lean ====
section
/-! DEFINITION. The named operations the medium's blocks share: the spindle's requests (spec/05), the kill net (spec/11), the
Shepherds' state changes and fences (spec/06, spec/07). -/

namespace Sys2Proof.Machine

/-! ### The kill net (spec/11) -/

/-- WCH_Wx_STAT.STATE values (11 R444). -/
def wIdle : Nat := 0
def wArmed : Nat := 1
def wWriting : Nat := 2
def wInhibited : Nat := 3
def wFenced : Nat := 4

/-- WCH_INHIBIT.CAUSE values (11 R446), which number the sources. -/
def killShkLin : Nat := 0
def killShkRot : Nat := 1
def killWriteFault : Nat := 2
def killMissed : Nat := 3
def killPreamp : Nat := 4
def killSafe : Nat := 5
def killSupply : Nat := 6
def killObserver : Nat := 7
def killXin : Nat := 8
def killForce : Nat := 9
def killTest : Nat := 10

def Dev.wchan (d : Dev) (s : Nat) : WChan := at' d.wch.ch s {}

def Dev.setWchan (d : Dev) (s : Nat) (c : WChan) : Dev := { d with wch := { d.wch with ch := d.wch.ch.set s c } }

def Dev.wState (d : Dev) (s : Nat) : Nat := d.getI F.WCH_W_STAT_STATE s

/-- Is the write gate of stream `s` enabled? -/
def Dev.gateOn (d : Dev) (s : Nat) : Bool := d.wState s == wWriting

/-- Is an inhibit in force? -/
def Dev.inhibited (d : Dev) : Bool := d.on F.WCH_INHIBIT_ACTIVE

/-- A channel reports a sector (11 R440). -/
def Dev.sectorReport (d : Dev) (s : Nat) (x : WSector) (code : Nat) : Dev :=
  let d := if code = 0 then d.incI F.WCH_W_SECTORS_COUNT s else d
  (d.putI F.WCH_W_STAT_LAST s code).memberReport x.stripe x.member code

/-- BUFFERS: the sectors that are whole in a buffer. -/
def Dev.showBuffers (d : Dev) (s : Nat) : Dev :=
  let c := d.wchan s
  d.putI F.WCH_W_STAT_BUFFERS s (min 3 ((c.queue.filter (fun (x : WSector) => x.loaded)).length + if c.cur.isSome then 1 else 0))

/-- A sector is torn (11 R439, R440): `cause` 0 inhibit, 1 ENCODE, 2 VERIFY. -/
def Dev.tear (d : Dev) (s : Nat) (x : WSector) (cause : Nat) : Dev :=
  ((d.incI F.WCH_W_TORN_COUNT s).sectorReport s x 1).post 0x2203 [s, cause, x.lba % 2 ^ 32, x.lba / 2 ^ 32]

/-- The sectors dispatched and not begun are reported NOT_STARTED, as in 11 R437 and R444. -/
def Dev.notStarted (d : Dev) (s : Nat) : Dev :=
  let c := d.wchan s
  let d := d.each c.queue (fun d x => d.sectorReport s x 2)
  (d.setWchan s { c with queue := [] }).showBuffers s

/-- A channel's gate goes inactive under an inhibit (11 R439, R444). -/
def Dev.cutGate (d : Dev) (s : Nat) : Dev :=
  if !d.gateOn s then d
  else
    let c := d.wchan s
    let d := ((d.putI F.WCH_W_STAT_STATE s wInhibited).setWchan s { c with cur := none }).showBuffers s
    match c.cur with
    | some x => d.tear s x 0
    | none => d

/-! ### Micro-trap causes (spec/07) -/

def Dev.shp (d : Dev) (n : Nat) : Shp := at' d.shps n {}

def Dev.setShp (d : Dev) (n : Nat) (f : Shp → Shp) : Dev := { d with shps := d.shps.set n (f (d.shp n)) }

def Dev.setUc (d : Dev) (n : Nat) (f : Uc → Uc) : Dev := d.setShp n (fun s => { s with uc := f s.uc })

def Dev.shpCh (d : Dev) (n k : Nat) : ShpChan := at' (d.shp n).ch k {}

def Dev.setCh (d : Dev) (n k : Nat) (f : ShpChan → ShpChan) : Dev :=
  d.setShp n (fun s => { s with ch := s.ch.set k (f (at' s.ch k {})) })

/-- A micro-trap cause latches (07 R274, R277, R294): not during a reload or a hardware park. -/
def Dev.latchTrap (d : Dev) (n c : Nat) : Dev :=
  let s := d.shp n
  if !s.uc.run || s.hwPark || s.uc.reloading then d
  else if s.uc.latch.testBit c then
    let k := at' s.uc.overruns c 0 + 1
    (d.setUc n (fun u => { u with overruns := u.overruns.set c k })).post 0x1208 [n, c, k]
  else d.setUc n (fun u => { u with latch := withBit u.latch c true })

/-! ### The net -/

/-- The inhibit ends once no source is asserted and no head is waited for (11 R436): channels go IDLE, 0x2202 is recorded.
The microseconds inhibited are a free value (log entry 7). -/
def Dev.inhibitCheck (d : Dev) : Dev :=
  if !d.inhibited || d.get F.WCH_INHIBIT_SOURCES != 0 || d.wch.holding || !d.wch.await.isEmpty then d
  else
    let d := (d.put F.WCH_INHIBIT_ACTIVE 0).put F.WCH_INT_STAT_RESUMED 1
    let d := d.each (List.range 8) (fun d s => if d.wState s == wInhibited then d.putI F.WCH_W_STAT_STATE s wIdle else d)
    let v := d.fresh
    v.2.post 0x2202 [v.2.get F.WCH_INHIBIT_CAUSE, v.1]

/-- A source asserts the kill net (11 R434, R440, R445). -/
def Dev.killAssert (d : Dev) (n : Nat) : Dev :=
  let first := !d.inhibited
  let d := d.setBit F.WCH_INHIBIT_SOURCES n true
  if !first then d
  else
    let mask := (List.range 8).foldl (fun m s => if d.gateOn s then withBit m s true else m) 0
    let d := ((d.put F.WCH_INHIBIT_ACTIVE 1).put F.WCH_INHIBIT_CAUSE n).put F.WCH_INT_STAT_INHIBIT 1
    let d := if n ≤ killShkRot then d.inc F.WCH_INH_COUNT_SHOCK else d.inc F.WCH_INH_COUNT_OTHER
    let d := (d.each (List.range 8) Dev.cutGate).each (List.range 4) (fun d a => d.latchTrap a 2)
    d.post 0x2201 [n, mask, popCount 8 mask]

/-- A source releases the kill net (11 R436). -/
def Dev.killRelease (d : Dev) (n : Nat) : Dev :=
  if d.bit F.WCH_INHIBIT_SOURCES n then (d.setBit F.WCH_INHIBIT_SOURCES n false).inhibitCheck else d

/-! ### The Shepherds' shared operations (spec/06) -/

/-- SHP_STAT.STATE values (06 R221). -/
def shpParked : Nat := 0
def shpLoading : Nat := 1
def shpAcquire : Nat := 2
def shpFollow : Nat := 3
def shpSeek : Nat := 4
def shpSettle : Nat := 5
def shpLost : Nat := 6
def shpUnloading : Nat := 7
def shpFenced : Nat := 8
def shpRetracted : Nat := 9

def Dev.shpState (d : Dev) (n : Nat) : Nat := d.getI F.SHP_STAT_STATE n

/-- Has the actuator servo acquired (05 R163)? -/
def Dev.servoAcquired (d : Dev) (n : Nat) : Bool := shpFollow ≤ d.shpState n && d.shpState n ≤ shpSettle

/-- Is the actuator fenced (06 R221)? -/
def Dev.actuatorFenced (d : Dev) (n : Nat) : Bool := (d.shp n).fenced

/-- The head slot selected on channel `k`. -/
def Dev.headSlot (d : Dev) (n k : Nat) : Nat := if k = 0 then d.getI F.SHP_HEAD_CH0_HEAD n else d.getI F.SHP_HEAD_CH1_HEAD n

/-- The head on channel `k`, as 10 R375 numbers it. -/
def Dev.headNum (d : Dev) (n k : Nat) : Nat := 8 * n + d.headSlot n k

def Dev.headValid (d : Dev) (n k : Nat) : Bool :=
  if k = 0 then d.onI F.SHP_HEAD_CH0_VALID n else d.onI F.SHP_HEAD_CH1_VALID n

/-- Channels whose head the demodulator reads: channel 0, and channel 1 once its head select is confirmed
(06 R212, R232; log entry 21). -/
def Dev.activeCh (d : Dev) (n : Nat) : List Nat := if d.headValid n 1 then [0, 1] else [0]

/-- Does some Shepherd hold a source of the kill net? -/
def Dev.shpHolds (d : Dev) (src : Nat) : Bool := d.shps.any (fun s => s.causes.any (fun c => c.src == src))

/-- A Shepherd's causes that `p` names are dropped (06 R235): a source that no Shepherd holds any more releases the kill net. -/
def Dev.dropCauses (d : Dev) (n : Nat) (p : ShpCause → Bool) : Dev :=
  let gone := (d.shp n).causes.filter p
  if gone.isEmpty then d
  else
    let d := d.setShp n (fun s => { s with causes := s.causes.filter (fun c => !p c) })
    let d := if (d.shp n).causes.isEmpty then d.putI F.SHP_STAT_INHIBIT n 0 else d
    d.each (gone.map (fun c => c.src)) (fun d src => if d.shpHolds src then d else d.killRelease src)

/-- A head waited for after a shock is waited for no longer (11 R436). -/
def Dev.awaitDrop (d : Dev) (s : Nat) : Dev :=
  if d.wch.await.contains s then
    { d with wch := { d.wch with await := d.wch.await.filter (fun x => x != s) } }.inhibitCheck
  else d

/-- The piece a stream's channel holds. -/
def Dev.heldPiece (d : Dev) (s : Nat) : Option Piece := d.drv.pieces.find? (fun p => p.hold == some s)

/-- The channel of stream `s` gives its piece back (17 R690 RETURN): the sectors not done are filed again; a write pass
reports them NOT_STARTED instead (11 R444). -/
def Dev.pieceReturn (d : Dev) (s : Nat) : Dev :=
  match d.heldPiece s with
  | none => d
  | some p =>
    if p.why.kind = .writePass then (d.notStarted s).dropPiece p.id
    else d.mapPiece p.id (fun q => { q with hold := none, stage := .filed })

/-- Both channels of an actuator stop and their commands return to the Drover (06 R253). -/
def Dev.channelsStop (d : Dev) (n : Nat) : Dev :=
  let d := (d.abandonAttempt (2 * n) 2).abandonAttempt (2 * n + 1) 2
  let d := ((d.pieceReturn (2 * n)).pieceReturn (2 * n + 1)).putI F.SHP_STAT_PAIRED n 0
  let d := (d.putI F.SHP_STAT_CH0_ACTIVE n 0).putI F.SHP_STAT_CH1_ACTIVE n 0
  let d := (d.putI F.SHP_STAT_WR_OK n 0).setShp n (fun s => { s with paired := false, seekTries := 0, reseek := false })
  d.each [0, 1] (fun d k => d.setCh n k (fun c => { c with moving := false, settled := false, permit := false, settleRun := 0 }))

/-- What leaving the track does to the kill net's Shepherd and shock waits (06 R235). -/
def Dev.offTrack (d : Dev) (n : Nat) : Dev := ((d.dropCauses n (fun _ => true)).awaitDrop (2 * n)).awaitDrop (2 * n + 1)

/-- The constant outward current of a park (06 R240); track 0 is the outermost (10 R374). -/
def Dev.parkCurrent (d : Dev) (n : Nat) : Int := -((d.geometry (8 * n)).parkI : Int)

/-- UNLOADING is entered (06 R221); `cause` as event 0x110D gives it. The write gates of the actuator are closed: a sector
being written there is torn. A park moves outward under servo where there is servo, else PARK_I is applied at once (R240). -/
def Dev.enterUnloading (d : Dev) (n cause : Nat) : Dev :=
  let servo := d.servoAcquired n
  let d := (d.each [2 * n, 2 * n + 1] Dev.cutGate).channelsStop n
  let d := d.setShp n (fun s => { s with parkOut := servo, iRef := if servo then s.iRef else d.parkCurrent n })
  let d := (d.putI F.SHP_STAT_STATE n shpUnloading).setShp n (fun s => { s with parkMs := 0, parkCause := cause })
  (d.latchTrap n 1).offTrack n

/-- An unload request (06 R221): REST entry, SAFE, Harvest, R181. -/
def Dev.unload (d : Dev) (n cause : Nat) : Dev :=
  let st := d.shpState n
  let d := d.setShp n (fun s => { s with loadWait := false, reload := false })
  if shpLoading ≤ st && st ≤ shpLost then d.enterUnloading n cause else d

/-- An unload request to every actuator. -/
def Dev.unloadAll (d : Dev) (cause : Nat) : Dev := d.each (List.range 4) (fun d n => d.unload n cause)

/-- The 300 ms of 06 R221 run from a SAFE or Harvest decision (`kind` 0, 1) or a retract command (2). -/
def Dev.retractDue (d : Dev) (kind : Nat) : Dev :=
  d.each (List.range 4) (fun d n => d.setShp n (fun s =>
    if s.retractDue.isSome then s else { s with retractDue := some kind, retractState := d.shpState n }))

/-- RETRACT_N is low. -/
def Dev.assertRetractN (d : Dev) : Dev := { d with pins := { d.pins with retractLow := true } }

/-! ### Streams -/

/-- Is a stream fenced (01 R22)? -/
def Dev.streamFenced (d : Dev) (s : Nat) : Bool := d.bit F.RCH_STAT_FENCED s

/-- A stream is fenced (01 R22, R23, 09 R367, 11 R444): RCH_STAT.FENCED, its front end and its write channel FENCED, its
piece back with the Drover, its write buffers discarded. -/
def Dev.fenceStream (d : Dev) (s : Nat) : Dev :=
  if d.streamFenced s then d
  else
    let d := d.setBit F.RCH_STAT_FENCED s true
    let d := d.abandonAttempt s 6
    let d := ((d.putI F.RCH_S_STAT_PHASE s 6).put F.RCH_INT_STAT_FENCE 1).cutGate s
    let d := ((d.pieceReturn s).notStarted s).detectFence s
    let d := (d.putI F.WCH_W_STAT_STATE s wFenced).awaitDrop s
    d.dropCauses (s / 2) (fun c => c.ch == s % 2)

/-- The Watch's SAFE decision falls due when the last fitted actuator is fenced (04 R140). -/
def Dev.lastActuatorCheck (d : Dev) : Dev :=
  if 0 < d.actuators && (List.range d.actuators).all (fun n => d.actuatorFenced n) && !d.on F.WAT_STAT_SAFE
      && d.wat.safeDue.isNone then
    { d with wat := { d.wat with safeDue := some (0, 0) } }
  else d

/-- An actuator is fenced (06 R221, R253; 07 R294): its streams are fenced, its heads unload, FENCED once parked. -/
def Dev.fenceActuator (d : Dev) (n : Nat) : Dev :=
  if (d.shp n).fenced then d
  else
    let st := d.shpState n
    let d := (d.putI F.SHP_CTRL_FENCE n 1).setShp n (fun s => { s with
      fenced := true, fenceDue := true, reload := false, loadWait := false, uc := { s.uc with reloading := false } })
    let d := if st = shpParked then (d.putI F.SHP_STAT_STATE n shpFenced).post 0x110D [n, 0, 4]
      else if shpLoading ≤ st && st ≤ shpLost then d.enterUnloading n 4
      else d
    (((d.fenceStream (2 * n)).fenceStream (2 * n + 1)).latchTrap n 1).lastActuatorCheck

/-! ### The hardware park and the microcode's stop -/

/-- A hardware park starts (06 R240). -/
def Dev.hardwarePark (d : Dev) (n : Nat) : Dev :=
  d.setShp n (fun s => { s with hwPark := true, parkOut := false, parkMs := 0, iRef := d.parkCurrent n })

/-- The microcode stops; frames, return stack and latches are discarded (07 R281, R286). -/
def Dev.stopMicro (d : Dev) (n : Nat) : Dev :=
  let d := d.setUc n (fun u => { u with run := false, stack := [], frames := [], latch := 0, waiting := false, holdRun := 0,
                                        overruns := List.replicate 10 0 })
  d.putI F.SHP_UC_STAT_TRAP_DEPTH n 0

/-- A microcode fault (07 R281): `kind` as event 0x1207 gives it. -/
def Dev.microFault (d : Dev) (n kind : Nat) : Dev :=
  let pc := d.getI F.SHP_UC_PC_MICRO n
  let st := d.shpState n
  let d := ((d.stopMicro n).setUc n (fun u => { u with faulted := true })).post 0x1207 [n, kind, pc]
  let d := if shpLoading ≤ st && st ≤ shpUnloading then d.hardwarePark n else d
  d.fenceActuator n

/-- The WEDGE cause latches; eight overruns in a row are a microcode fault (07 R277). -/
def Dev.latchWedge (d : Dev) (n : Nat) : Dev :=
  let d := d.latchTrap n 3
  if 8 ≤ at' (d.shp n).uc.overruns 3 0 then d.microFault n 2 else d

/-! ### Loop Engines' requests (spec/08) -/

/-- LPE_Lr_STAT.STATE values (08 R311). -/
def loopOpenSt : Nat := 0
def loopPend : Nat := 1
def loopRamping : Nat := 2
def loopClosed : Nat := 3
def loopFenced : Nat := 4

def Dev.role (d : Dev) (r : Nat) : Role := at' d.lpe.roles r {}

def Dev.setRole (d : Dev) (r : Nat) (f : Role → Role) : Dev :=
  { d with lpe := { d.lpe with roles := d.lpe.roles.set r (f (d.role r)) } }

def Dev.loopState (d : Dev) (r : Nat) : Nat := d.getI F.LPE_L_STAT_STATE r

/-- A close request (08 R311, R319): ignored unless the role is open. -/
def Dev.loopClose (d : Dev) (r : Nat) : Dev :=
  if d.loopState r = loopOpenSt then (d.putI F.LPE_L_STAT_STATE r loopPend).setRole r (fun x => { x with closeDue := false, satSeen := false })
  else d

/-- An open request (08 R311). -/
def Dev.loopOpen (d : Dev) (r : Nat) : Dev :=
  let d := d.setRole r (fun x => { x with closeDue := false })
  if d.loopState r = loopFenced then d
  else (d.putI F.LPE_L_STAT_STATE r loopOpenSt).setRole r (fun x => { x with next := none })

/-! ### The spindle's requests (spec/05) -/

def Dev.iMax (d : Dev) : Nat := d.policy 0x1006 0

/-- MIL_STAT.STATE values (05 R206). -/
def milStopped : Nat := 0
def milListen : Nat := 1
def milBrake : Nat := 2
def milSense : Nat := 3
def milAlign : Nat := 4
def milOpen : Nat := 5
def milRun : Nat := 6
def milLost : Nat := 7
def milRetry : Nat := 8
def milStopping : Nat := 9
def milRectify : Nat := 10
def milCoast : Nat := 11

def Dev.milState (d : Dev) : Nat := d.get F.MIL_STAT_STATE
def Dev.miller (d : Dev) : Nat := d.get F.MIL_STAT_MILLER

/-- The speed in whole rpm. -/
def Dev.rpm (d : Dev) : Nat := d.get F.MIL_SPEED_RPM16 / 16

def Dev.polePairs (d : Dev) : Nat := d.policy 0x1001 1

/-- Is the speed below 0.5 % of BASE_RPM (05 R170, R171, R178)? -/
def Dev.nearRest (d : Dev) : Bool := d.get F.MIL_SPEED_RPM16 * 200 < d.baseRpm * 16

/-- Do the current loops drive the phases (05, field-oriented control; R172, R177, R186)? -/
def Dev.milDriving (d : Dev) : Bool :=
  [milAlign, milOpen, milRun].contains d.milState || (d.milState == milStopping && d.mil.regen)
    || (d.milState == milRectify && d.mil.rectActive == some true)

/-- The current loops follow the drive: closed while it lasts, open otherwise (05 R161). -/
def Dev.currentLoops (d : Dev) : Dev :=
  if d.milDriving then d.each [1, 2] (fun d r => d.loopClose r) else d.each [1, 2] (fun d r => d.loopOpen r)

/-- The Mill enters `st`: the Miller is in STEADY unless the Mill is in RUN (05 R194), the speed loop is open outside RUN, the current loops follow
the drive (R161), and the crossings are watched anew (R168, R171). -/
def Dev.setMil (d : Dev) (st : Nat) : Dev :=
  let d := { d.put F.MIL_STAT_STATE st with mil := { d.mil with
    regen := d.mil.regen && st = milStopping, rectActive := if st = milRectify then d.mil.rectActive else none, cross := {} } }
  let d := d.currentLoops
  if st = milRun then d
  else
    let d := ((d.put F.MIL_STAT_MILLER 0).put F.MIL_STAT_FW_ACTIVE 0).loopOpen 0
    { d with mil := { d.mil with steadyMs := 0, fromPending := false } }

/-- A start request: the phases go to high impedance and the Mill listens (05 R168, R204). -/
def Dev.spindleStart (d : Dev) : Dev :=
  if !d.powered 2 then d
  else if [milStopped, milStopping, milCoast].contains d.milState then
    let d := { d with mil := { d.mil with startMs := 0, ocWindow := 0, lockRun := 0, overRun := 0, spinning := true } }
    (((d.setMil milListen).put F.MIL_START_ATTEMPTS 0).put F.MIL_START_REASON 0).put F.MIL_STAT_LOCK 0
  else d

/-- A stop request (05 R177, R187, R204): `cause` 0 REST, 1 SAFE, 2 re-acquisition. From RUN it brakes regeneratively first. -/
def Dev.spindleStop (d : Dev) (cause : Nat) : Dev :=
  if !d.powered 2 || [milCoast, milRectify, milStopping].contains d.milState then d
  else
    let d := { d with mil := { d.mil with stopCause := cause, regen := d.milState == milRun && cause != 2,
                                          iqRef := -((d.iMax : Int) / 2) } }
    d.setMil milStopping

/-- Torque is removed and the spindle coasts (05 R187, R204). -/
def Dev.spindleCoast (d : Dev) : Dev := if d.milState == milRectify then d else d.setMil milCoast

/-- The Mill enters RECTIFY when a Harvest commits (05 R186, R204): from a state of a start all gates are inactive (R205). -/
def Dev.rectifyEntry (d : Dev) : Dev :=
  let starting := [milListen, milBrake, milSense, milAlign, milOpen, milRetry].contains d.milState
  let d := if starting then { d.put F.MIL_STAT_LOCK 0 with mil := { d.mil with lockRun := 0 } } else d
  let active := d.on F.MIL_STAT_LOCK
  let d := { d with mil := { d.mil with rectActive := some active } }
  (d.setMil milRectify).post 0x1010 [d.rpm, if active then 0 else 1]

/-- A new Miller target (05 R194): `cause` 0 demand, 1 ceiling, 2 EASE, 3 SERVE. -/
def Dev.newTarget (d : Dev) (t cause : Nat) : Dev :=
  if t = d.get F.MIL_TARGET_TARGET then d
  else
    let d := { d.put F.MIL_TARGET_TARGET t with mil := { d.mil with rampCause := cause } }
    if d.milState != milRun then d
    else if d.miller = 0 then
      { (d.put F.MIL_STAT_MILLER 1).put F.MIL_STAT_WRITE_HOLD 1 with mil := { d.mil with steadyMs := 0 } }
    else if d.miller = 1 then d
    else d.put F.MIL_STAT_MILLER 2

/-- No stripe write starts: the write hold is raised, or the Miller is in PENDING, RAMP or SETTLE (05 R194, R196). -/
def Dev.speedHold (d : Dev) : Bool := d.on F.MIL_STAT_WRITE_HOLD || d.miller != 0

/-- The step the consumers apply (20 R881). -/
def Dev.appliedStep (d : Dev) : Nat := if d.thm.stale then 5 else d.get F.THM_STAT_STEP

/-- The thermal ceiling of 05 R188, by the step the Miller applies. -/
def Dev.thermalCeiling (d : Dev) : Nat :=
  if 4 ≤ d.appliedStep then d.get F.MIL_LIMITS_FLOOR else d.get F.MIL_LIMITS_CEILING

/-- The effective ceiling is formed again; a target above it falls to it at once (05 R188, R192). -/
def Dev.updateCeiling (d : Dev) : Dev :=
  let c := d.get F.MIL_LIMITS_CEILING
  let g := d.get F.MIL_CEIL_GAS_CEIL
  let t := d.thermalCeiling
  let eff := min c (min g t)
  let lim := if eff = c then 0 else if eff = g then 1 else 2
  let d := (d.put F.MIL_CEIL_EFFECTIVE eff).put F.MIL_CEIL_LIMITER lim
  if eff < d.get F.MIL_TARGET_TARGET then
    let d := d.newTarget eff 1
    if lim = 2 && d.milState == milRun then { d with thm := { d.thm with forced := true } }.riskCheck else d
  else d

/-- The needed speed n_h of 05 R190: n × E / 0.70 rounded up to a multiple of 60 rpm. -/
def neededRpm (n demand : Nat) : Nat := ceilDiv (n * demand * 100) (65536 * 70 * 60) * 60

/-- NEED is computed from the present target and the demand estimate (05 R190). -/
def Dev.computeNeed (d : Dev) : Dev := d.put F.MIL_DEMAND_NEED (min 8191 (neededRpm (d.get F.MIL_TARGET_TARGET) d.mil.demand))

/-- The candidate target of 05 R190. -/
def Dev.candidate (d : Dev) : Nat :=
  max (d.get F.MIL_LIMITS_FLOOR) (min (d.get F.MIL_DEMAND_NEED) (d.get F.MIL_CEIL_EFFECTIVE))

/-- SERVE is entered: MILLER_HOLD counts from here (05 R191). -/
def Dev.millerServe (d : Dev) : Dev :=
  { d.put F.MIL_RAMP_HOLD_LEFT (d.policy 0x100C 30) with mil := { d.mil with secMs := 0, busyMs := [0, 0, 0, 0] } }

/-! ### The preamp serial port's frame engine (spec/06) -/

/-- Priority of a frame (06 R248); the head's bias and write current go with its select (log entry 137). -/
def Frame.rank : Frame → Nat
  | .headSelect _ _ => 0
  | .readBack _ _ => 0
  | .calib _ _ => 0
  | .fltRead => 1
  | .fltClear _ => 1
  | .loopOut _ _ => 2
  | .command _ _ _ => 3
  | .tempRead => 4

/-- A read-back waits while FLT is to be read or cleared (06 R253). -/
def Frame.held (l : List Frame) : Frame → Bool
  | .readBack _ _ => l.any (fun f => f.rank = 1)
  | _ => false

/-- The waiting frame sent next: the first of the best rank. -/
def nextFrame (l : List Frame) : Option Frame :=
  (l.filter (fun f => !f.held l)).foldl (fun b f => match b with
    | none => some f
    | some g => if f.rank < g.rank then some f else some g) none

/-- The engine starts the next frame when it sends none and its port is powered (06 R248; 21). -/
def Dev.paStart (d : Dev) (n : Nat) : Dev :=
  let s := d.shp n
  if s.paNow.isSome || !d.powered (3 + n) then d
  else
    match nextFrame s.paWait with
    | none => d
    | some f => d.setShp n (fun s => { s with paNow := some f, paWait := s.paWait.erase f, paRetry := false })

/-- A frame is queued (06 R248). -/
def Dev.paQueue (d : Dev) (n : Nat) (f : Frame) : Dev := (d.setShp n (fun s => { s with paWait := s.paWait ++ [f] })).paStart n

/-- The temperature read of 06 R229 is queued, unless one waits. -/
def Dev.tempAsk (d : Dev) (n : Nat) : Dev :=
  let s := d.shp n
  if s.paNow == some .tempRead || s.paWait.contains .tempRead then d else d.paQueue n .tempRead

/-! ### Coefficient sets, head changes and fences of the Loop Engines (spec/08) -/

/-- CLASS of a role (08 R296, R300). -/
def roleClass (r : Nat) : Nat := if r ≤ 2 then r else if r ≤ 6 then 3 else if r ≤ 14 then 4 else 5

/-- The coefficient-set record of a class and index, with its number (08 R300, R302). -/
def setRecord (b : List Nat) (cls idx : Nat) : Option (Nat × List Nat) :=
  ((List.range (leAt b 0 2)).find? (fun i => leAt b (16 + 48 * i) 1 = cls && leAt b (17 + 48 * i) 1 = idx)).map
    (fun i => (i, (b.drop (16 + 48 * i)).take 48))

/-- May a section be reloaded from its retained copy: does the copy's digest equal the DIGEST of the directory kept on die (03 R108)? -/
def Dev.copyIntact (d : Dev) (typ inst : Nat) : Bool :=
  let at' := d.retainedAt typ inst
  match ((List.range (imageSections d.cfg.dir)).map (dirEntry d.cfg.dir)).find? (fun e => e.typ == typ && e.inst == inst) with
  | none => false
  | some e => !d.granPoisoned at'.1 at'.2 && digest64 (d.granRead at'.1 at'.2) == e.digest

/-- The bytes of a section's retained copy (03 R107). -/
def Dev.retainedCopy (d : Dev) (typ inst : Nat) : List Nat := let at' := d.retainedAt typ inst; d.granRead at'.1 at'.2

/-- A coefficient word into its two fields (08 R301). -/
def Dev.putCoef (d : Dev) (e m : Field) (r w : Nat) : Dev := (d.putI e r (slice w 18 6)).putI m r (slice w 0 18)

/-- A role's registers are loaded from the set of its class and index in the section `sec` (08 R303). -/
def Dev.loadSet (d : Dev) (sec : List Nat) (r idx : Nat) : Dev :=
  match setRecord sec (roleClass r) idx with
  | none => d
  | some (i, b) =>
    let d := d.putCoef F.LPE_L_KP_EXP F.LPE_L_KP_MANT r (leAt b 4 4)
    let d := d.putCoef F.LPE_L_KI_EXP F.LPE_L_KI_MANT r (leAt b 8 4)
    let d := d.putCoef F.LPE_L_KD_EXP F.LPE_L_KD_MANT r (leAt b 12 4)
    let d := d.putCoef F.LPE_L_ALPHA_EXP F.LPE_L_ALPHA_MANT r (leAt b 16 4)
    let d := d.putCoef F.LPE_L_KF_EXP F.LPE_L_KF_MANT r (leAt b 20 4)
    let d := d.putCoef F.LPE_L_ILIM_EXP F.LPE_L_ILIM_MANT r (leAt b 24 4)
    let d := d.putCoef F.LPE_L_BIAS_EXP F.LPE_L_BIAS_MANT r (leAt b 28 4)
    let d := (d.putI F.LPE_L_MODE_FF_MODE r (leAt b 2 1)).putI F.LPE_L_MODE_VNOM r (leAt b 0x28 2)
    let d := (d.putI F.LPE_L_OUTLIM_OUT_MIN r (leAt b 0x20 2)).putI F.LPE_L_OUTLIM_OUT_MAX r (leAt b 0x22 2)
    let d := (d.putI F.LPE_L_RAMP_RATE r (leAt b 0x24 4)).putI F.LPE_L_STAT_SET r i
    if 7 ≤ r then d.putI F.LPE_L_TARGET_VALUE r (leAt b 0x2C 4) else d

/-- Every role is loaded at DONE (08 R303, event 0x1301); the idle spare begins its patrol (R315). -/
def Dev.loadSets (d : Dev) : Dev :=
  let d := d.each (List.range 23) (fun d r => d.loadSet (d.sect 0x30 0) r (if 3 ≤ r ∧ r ≤ 6 then r - 3 else if 7 ≤ r then 8 * ((r - 7) % 8 / 2) else 0))
  let d := if d.get F.LPE_STAT_SPARE = 0 then d.put F.LPE_STAT_SPARE 1 else d
  d.post 0x1301 [leAt (d.sect 0x30 0) 0 2]

/-- LAS_OPEN of a head's zone (11 R432, R433). -/
def Dev.lasOpen (d : Dev) (h z : Nat) : Nat :=
  match d.headRecord h 0x300 with
  | some b => leAt b (4 + 8 * z + 6) 2
  | none => 0

/-- Another head is selected on a stream (08 R303): its HEATER and LASER roles open, load the head's sets from the retained copy, where its digest
holds (03 R108), and close after the first measured value; the laser role of a head with no calibration section stays open (11 R433). -/
def Dev.loopsForHead (d : Dev) (s h : Nat) : Dev :=
  let d := (d.loopOpen (7 + s)).loopOpen (15 + s)
  let d := if d.copyIntact 0x30 0 then
      let sec := d.retainedCopy 0x30 0
      (d.loadSet sec (7 + s) h).loadSet sec (15 + s) h
    else d
  let d := d.putI F.LPE_L_OUT_OPEN_OUT (15 + s) (d.lasOpen h (d.getI F.WCH_W_ZONE_ZONE_LO s + 16 * d.getI F.WCH_W_ZONE_ZONE_HI s))
  let d := d.setRole (7 + s) (fun x => { x with closeDue := true })
  if d.hasSect 0x20 h then d.setRole (15 + s) (fun x => { x with closeDue := true }) else d

/-- A role is fenced (08 R318). The duty that gives PARK_I for a VCM role's OPEN_OUT is a free value: the spec gives no coil
resistance (log entry 5). -/
def Dev.roleFence (d : Dev) (r : Nat) : Dev :=
  if d.loopState r = loopFenced then d
  else
    let phys := d.getI F.LPE_L_STAT_PHYS r
    let d := ((d.putI F.LPE_L_STAT_STATE r loopFenced).setBit F.LPE_FENCED_MASK r true).put F.LPE_INT_STAT_FENCE 1
    let d := d.setRole r (fun x => { x with next := none, closeDue := false })
    if r ≤ 2 then (d.spindleCoast).post 0x1304 [r, phys]
    else if r ≤ 6 then
      let v := d.fresh
      ((v.2.putI F.LPE_L_OUT_OPEN_OUT r v.1).post 0x1303 [r, phys]).fenceActuator (r - 3)
    else
      let d := d.putI F.LPE_L_OUT_OUT r (d.getI F.LPE_L_OUT_OPEN_OUT r)
      (d.post 0x1303 [r, phys]).fenceStream ((r - 7) % 8)

/-- An engine has failed the reference computation (08 R316 to R318): the spare takes its role, or the role is fenced.
`cause` 0 self-test, 1 patrol. -/
def Dev.engineFail (d : Dev) (r cause : Nat) : Dev :=
  let phys := d.getI F.LPE_L_STAT_PHYS r
  let d := d.setBit F.LPE_RETIRED_MASK phys true
  if d.get F.LPE_STAT_SPARE ≤ 1 then
    let d := { d with lpe := { d.lpe with testing := none, shadow := none, shadowTicks := 0 } }
    let d := if d.loopState r = loopRamping then d.putI F.LPE_L_STAT_STATE r loopPend else d
    let d := (d.putI F.LPE_L_STAT_PHYS r (d.get F.LPE_STAT_SPARE_PHYS)).put F.LPE_STAT_SPARE 2
    ((d.put F.LPE_STAT_SPARE_ROLE r).put F.LPE_INT_STAT_SPARE 1).post 0x1302 [r, phys, cause]
  else d.roleFence r

end Sys2Proof.Machine
end

