-- ==== Sys2Proof/Machine/Operands.lean ====
section
/-! DEFINITION. The operand forms of a Shepherd's nanoword (spec/07 R266, R267, R270): the banked scratch registers and
counters, operand B's two forms, the ports that microcode reads. -/

namespace Sys2Proof.Machine

/-- The trap level: open frames, 0 to 2 (07 R267, R278). -/
def Uc.level (u : Uc) : Nat := u.frames.length

/-- Scratch register `r` at the present trap level (07 R267). -/
def Uc.reg (u : Uc) (r : Nat) : Nat :=
  if r < 28 then at' u.s r 0 else at' (at' u.sBank u.level []) (r - 28) 0

def Uc.setReg (u : Uc) (r v : Nat) : Uc :=
  if r < 28 then { u with s := u.s.set r (v % 2 ^ 32) }
  else { u with sBank := u.sBank.set u.level ((at' u.sBank u.level []).set (r - 28) (v % 2 ^ 32)) }

/-- Loop counter `c` at the present trap level (07 R267). -/
def Uc.ctr (u : Uc) (c : Nat) : Nat := if c < 3 then at' u.lc c 0 else at' u.lc3 u.level 0

def Uc.setCtr (u : Uc) (c v : Nat) : Uc :=
  if c < 3 then { u with lc := u.lc.set c (v % 2 ^ 16) } else { u with lc3 := u.lc3.set u.level (v % 2 ^ 16) }

/-- The fields of a nanoword (07 R266). -/
structure Nano where
  target : Nat
  cond : Nat
  cinv : Bool
  ctr : Nat
  cload : Bool
  hold : Bool
  alu : Nat
  srcA : Nat
  srcB : Nat
  dst : Nat
  we : Bool
  bImm : Bool
  sat : Bool
  port : Nat
  pdir : Nat
  imm : Nat
  deriving DecidableEq, Repr

def Nano.ofWord (w : Nat) : Nano :=
  ⟨slice w 116 12, slice w 111 5, w.testBit 110, slice w 108 2, w.testBit 107, w.testBit 106, slice w 102 4, slice w 97 5,
   slice w 92 5, slice w 87 5, w.testBit 86, w.testBit 85, w.testBit 84, slice w 78 6, slice w 76 2, slice w 0 32⟩

/-- Operand A: a scratch register, as two's complement (07 R268). -/
def Uc.opA (u : Uc) (srcA : Nat) : Int := toSigned 32 (u.reg srcA)

/-- Operand B: a scratch register or the immediate (07 R266). -/
def Uc.opB (u : Uc) (srcB : Nat) (bImm : Bool) (imm : Nat) : Int := toSigned 32 (if bImm then imm else u.reg srcB)

/-! ### Ports that are read -/

/-- The fields of one register word at an instance, each at its place. -/
def wordOf (l : List (Nat × Nat)) : Nat := l.foldl (fun a p => a + p.1 * 2 ^ p.2) 0

/-- SPEED_FRAC of 07 R270. -/
def Dev.speedFrac (d : Dev) : Nat :=
  let f := d.get F.MIL_LIMITS_FLOOR * 16
  let c := d.get F.MIL_LIMITS_CEILING * 16
  let n := d.get F.MIL_SPEED_RPM16
  if n ≤ f then 0 else if c ≤ n then 2 ^ 29 else (n - f) * 2 ^ 29 / (c - f)

/-- The bytes TABLE_ADDR reaches: the seek-table section, then the calibration sections of the actuator's heads. -/
def Dev.tableBytes (d : Dev) (n : Nat) : List Nat :=
  d.seekSect n ++ (List.range (d.headsOn n)).flatMap (fun s => d.sect 0x20 (8 * n + s))

/-- TFRAME: the open trap frame in the layout of 07 R278; zero where none is open. -/
def Uc.frameWord (u : Uc) : Nat :=
  match u.frames with
  | [] => 0
  | f :: _ => wordOf [(f.cause, 28), (f.waiting.toNat, 27), (f.z.toNat, 26), (f.n.toNat, 25), (f.v.toNat, 24), (f.sdepth, 21), (f.resume, 0)]

/-- The first offered piece of an actuator, with the stream whose channel it is for (17 R690). -/
def Dev.offered (d : Dev) (n : Nat) : Option Piece :=
  d.drv.pieces.find? (fun p => p.act == n && p.stage == .offered)

/-- DRV_CMD: the selected word of the waiting descriptor (17 R690). -/
def Dev.drvWord (d : Dev) (n sel : Nat) : Nat :=
  match d.offered n with
  | none => 0
  | some p =>
    let s := p.hold.getD (2 * n)
    let other := if s % 2 = 0 then s + 1 else s - 1
    let paired := d.drv.pieces.any (fun q => q.hold == some other)
    let kind := match p.why.kind with | .read => 0 | .rung1 => 0 | .peer => 0 | .clean => 0 | .writePass => 1 | .verify => 2 | .scrub => 2 | .verifyRead => 2
    if sel = 0 then wordOf [(1, 31), (paired.toNat, 30), (s % 2, 29), (p.head % 8, 26), (kind, 24), (p.track % 2 ^ 24, 0)]
    else if sel = 1 then wordOf [(((p.secs.head?.map (fun x => x.idx)).getD 0) % 2 ^ 16, 16), (p.secs.length % 2 ^ 16, 0)]
    else if sel = 2 then (if kind = 1 then 2 ^ 31 else 0)
    else 0

/-- The value of a port that microcode reads (07 R270); a write-only or unlisted port reads zero. -/
def Dev.portRead (d : Dev) (n port : Nat) : Nat :=
  let s := d.shp n
  let pt := fun k => d.getI F.SHP_POS_TRACK (2 * n + k) * 256 + d.getI F.SHP_POS_FRAC (2 * n + k)
  let tt := fun k => d.getI F.SHP_TARGET_TRACK (2 * n + k) * 256 + d.getI F.SHP_TARGET_FRAC (2 * n + k)
  match port with
  | 0x00 => pt 0
  | 0x01 => pt 1
  | 0x02 => ofSigned 32 (toSigned 16 (d.getI F.SHP_PES_PES0 n))
  | 0x03 => ofSigned 32 (toSigned 16 (d.getI F.SHP_PES_PES1 n))
  | 0x04 => tt 0
  | 0x05 => tt 1
  | 0x06 => wordOf [(d.getI F.SHP_WEDGE_REVS n, 16), (d.getI F.SHP_WEDGE_WEDGE n, 0)]
  | 0x07 => s.wstat
  | 0x08 => wordOf [(d.getI F.SHP_REACH_REACH0 n, 24), (d.getI F.SHP_REACH_REACH1 n, 16), (d.getI F.SHP_REACH_PAIR n, 8), (d.getI F.SHP_REACH_GUARD n, 0)]
  | 0x09 => wordOf [(d.getI F.SHP_TEMP_VALID n, 31), (d.getI F.SHP_TEMP_SRC n, 29), (d.getI F.SHP_TEMP_TEMP n, 0)]
  | 0x0A => d.getI F.SHP_RV_SAMPLE n
  | 0x0B => d.speedFrac
  | 0x17 => d.drvWord n s.drvSelect
  | 0x1B => leAt (d.tableBytes n) s.tableAddr 4
  | 0x3E => s.uc.frameWord
  | 0x3F => s.uc.latch
  | _ => 0

end Sys2Proof.Machine
end

