-- ==== Sys2Proof/Machine/Flags.lean ====
section
/-! DEFINITION. The arithmetic of a Shepherd's ALU and its flags Z, N and V (spec/07 R268): each operation's exact result, the
32-bit result by wrapping or saturation, the flags set from it. -/

namespace Sys2Proof.Machine

/-- A product of two 32-bit numbers in the 29-fraction-bit format, to the nearest, ties away from zero (07 R268). -/
def mulQ29 (a b : Int) : Int :=
  let p := a * b
  let q : Int := ((p.natAbs + 2 ^ 28) / 2 ^ 29 : Nat)
  if 0 ≤ p then q else -q

/-- The exact result of each operation of 07 R268 before it is brought into 32 bits: A, B, the old DST and IMM. -/
def aluExact (op : Nat) (a b dst : Int) (imm : Nat) : Int :=
  let au := ofSigned 32 a
  let bu := ofSigned 32 b
  match op with
  | 1 => a + b
  | 2 => a - b
  | 3 => toSigned 32 (au &&& bu)
  | 4 => toSigned 32 (au ||| bu)
  | 5 => toSigned 32 (au ^^^ bu)
  | 6 => a * (2 ^ (bu % 32) : Nat)
  | 7 => a / (2 ^ (bu % 32) : Nat)
  | 8 => mulQ29 a b
  | 9 => dst + mulQ29 a b
  | 10 => min a b
  | 11 => max a b
  | 12 => clampInt (-(b.natAbs : Int)) (b.natAbs : Int) a
  | 13 => (a.natAbs : Int)
  | 14 => a
  | 15 => toSigned 32 imm
  | _ => 0

/-- Does an exact result overflow 32 bits? -/
def aluOverflow (x : Int) : Bool := x < -(2 ^ 31 : Nat) || (2 ^ 31 : Nat) ≤ x

/-- The 32-bit result: saturated with SAT, wrapped without (07 R266, R268). -/
def aluResult (x : Int) (sat : Bool) : Nat := ofSigned 32 (if sat then clampSigned 32 x else x)

/-- The flags of a result (07 R268). -/
def Uc.withFlags (u : Uc) (r : Nat) (v : Bool) : Uc := { u with z := r == 0, n := r.testBit 31, v := v }

/-- An ALU operation on the scratch registers (07 R268): an operation of 0 changes nothing. -/
def Uc.alu (u : Uc) (op srcA srcB dst : Nat) (we bImm sat : Bool) (imm : Nat) : Uc :=
  if op = 0 then u
  else
    let x := aluExact op (u.opA srcA) (u.opB srcB bImm imm) (toSigned 32 (u.reg dst)) imm
    let r := aluResult x sat
    let u := u.withFlags r (aluOverflow x)
    if we then u.setReg dst r else u

end Sys2Proof.Machine
end

