-- ==== Sys2Proof/Machine/Rv64.lean ====
section
/-! DEFINITION. The instructions of the Reeve cores (spec/01 R33): RV64IMAC with Zicsr and Zifencei, as the published RISC-V unprivileged
specification has them (log entry 149): what a word stands for, and what an operation on registers computes. -/

namespace Sys2Proof.Machine

/-! ### Operations on registers -/

/-- The operations of the arithmetic instructions, base and M. -/
inductive RvOp where
  | add | sub | sll | slt | sltu | xor | srl | sra | or | and
  | mul | mulh | mulhsu | mulhu | div | divu | rem | remu
  deriving DecidableEq, Repr

/-- `v`'s lower `n` bits, sign-extended to a register. -/
def signExt (n v : Nat) : Nat := ofSigned 64 (toSigned n v)

/-- An operation on `n`-bit values, its result sign-extended; division by zero and the overflowing quotient are the published ones. -/
def rvResult (n : Nat) (op : RvOp) (a b : Nat) : Nat :=
  let ua := a % 2 ^ n
  let ub := b % 2 ^ n
  let sa := toSigned n a
  let sb := toSigned n b
  signExt n (
    match op with
    | .add => ua + ub
    | .sub => ua + 2 ^ n - ub
    | .sll => ua * 2 ^ (ub % n)
    | .slt => (decide (sa < sb)).toNat
    | .sltu => (decide (ua < ub)).toNat
    | .xor => ua ^^^ ub
    | .srl => ua / 2 ^ (ub % n)
    | .sra => ofSigned n (sa / (2 ^ (ub % n) : Nat))
    | .or => ua ||| ub
    | .and => ua &&& ub
    | .mul => ua * ub
    | .mulh => ofSigned n (sa * sb / (2 ^ n : Nat))
    | .mulhsu => ofSigned n (sa * (ub : Int) / (2 ^ n : Nat))
    | .mulhu => ua * ub / 2 ^ n
    | .div => if ub = 0 then 2 ^ n - 1 else ofSigned n (sa.tdiv sb)
    | .divu => if ub = 0 then 2 ^ n - 1 else ua / ub
    | .rem => if ub = 0 then ua else ofSigned n (sa.tmod sb)
    | .remu => if ub = 0 then ua else ua % ub)

/-- The conditions of the branches. -/
inductive Cond where
  | eq | ne | lt | ge | ltu | geu
  deriving DecidableEq, Repr

def condHolds (c : Cond) (a b : Nat) : Bool :=
  match c with
  | .eq => a == b
  | .ne => a != b
  | .lt => decide (toSigned 64 a < toSigned 64 b)
  | .ge => decide (toSigned 64 b ≤ toSigned 64 a)
  | .ltu => decide (a < b)
  | .geu => decide (b ≤ a)

/-! ### Instructions -/

/-- An instruction: immediates and offsets stand as registers would hold them, in 64 bits; `word` marks the forms on 32 bits. -/
inductive RvInsn where
  | alu (op : RvOp) (word : Bool) (rd rs1 rs2 : Nat)
  | aluImm (op : RvOp) (word : Bool) (rd rs1 imm : Nat)
  | lui (rd imm : Nat)
  | auipc (rd imm : Nat)
  | jal (rd off : Nat)
  | jalr (rd rs1 off : Nat)
  | branch (c : Cond) (rs1 rs2 off : Nat)
  | load (len : Nat) (signed : Bool) (rd rs1 off : Nat)
  | store (len rs1 rs2 off : Nat)
  | atomic (op : MemOp) (len rd rs1 rs2 : Nat)
  | csr (op : MemOp) (imm : Bool) (rd src n : Nat)
  | fence | fenceI | ecall | ebreak | mret | wfi
  deriving DecidableEq, Repr

/-- The operation of OP and OP-IMM by funct3; `alt` is bit 30. -/
def baseOp (f3 : Nat) (alt : Bool) : RvOp :=
  match f3 with
  | 0 => if alt then .sub else .add
  | 1 => .sll
  | 2 => .slt
  | 3 => .sltu
  | 4 => .xor
  | 5 => if alt then .sra else .srl
  | 6 => .or
  | _ => .and

def mulOp (f3 : Nat) : RvOp :=
  match f3 with
  | 0 => .mul | 1 => .mulh | 2 => .mulhsu | 3 => .mulhu | 4 => .div | 5 => .divu | 6 => .rem | _ => .remu

def condOf (f3 : Nat) : Option Cond :=
  match f3 with
  | 0 => some .eq | 1 => some .ne | 4 => some .lt | 5 => some .ge | 6 => some .ltu | 7 => some .geu | _ => none

def amoOf (f5 rs2 : Nat) : Option MemOp :=
  match f5 with
  | 0 => some .amoAdd | 1 => some .amoSwap | 2 => if rs2 = 0 then some .lr else none | 3 => some .sc | 4 => some .amoXor
  | 8 => some .amoOr | 12 => some .amoAnd | 16 => some .amoMin | 20 => some .amoMax | 24 => some .amoMinu | 28 => some .amoMaxu
  | _ => none

/-- SYSTEM: the environment instructions and Zicsr. -/
def systemOf (w : Nat) : Option RvInsn :=
  let f3 := slice w 12 3
  let rs1 := slice w 15 5
  if f3 = 0 then
    if w = 0x00000073 then some .ecall
    else if w = 0x00100073 then some .ebreak
    else if w = 0x30200073 then some .mret
    else if w = 0x10500073 then some .wfi
    else none
  else
    let op : Option MemOp := match f3 % 4 with | 1 => some .csrWrite | 2 => some .csrSet | 3 => some .csrClear | _ => none
    op.map (fun op => .csr (if op ≠ .csrWrite ∧ rs1 = 0 then .csrRead else op) (decide (4 ≤ f3)) (slice w 7 5) rs1 (slice w 20 12))

/-- A 32-bit instruction; none where the word is no instruction of the cores. -/
def decode32 (w : Nat) : Option RvInsn :=
  let rd := slice w 7 5
  let f3 := slice w 12 3
  let rs1 := slice w 15 5
  let rs2 := slice w 20 5
  let f7 := slice w 25 7
  let immI := signExt 12 (slice w 20 12)
  let immS := signExt 12 (f7 * 32 + rd)
  let immU := signExt 32 (slice w 12 20 * 4096)
  let immB := signExt 13 (slice w 31 1 * 4096 + slice w 7 1 * 2048 + slice w 25 6 * 32 + slice w 8 4 * 2)
  let immJ := signExt 21 (slice w 31 1 * 2 ^ 20 + slice w 12 8 * 4096 + slice w 20 1 * 2048 + slice w 21 10 * 2)
  match w % 128 with
  | 0x37 => some (.lui rd immU)
  | 0x17 => some (.auipc rd immU)
  | 0x6F => some (.jal rd immJ)
  | 0x67 => if f3 = 0 then some (.jalr rd rs1 immI) else none
  | 0x63 => (condOf f3).map (fun c => .branch c rs1 rs2 immB)
  | 0x03 => if f3 < 7 then some (.load (2 ^ (f3 % 4)) (decide (f3 < 4)) rd rs1 immI) else none
  | 0x23 => if f3 < 4 then some (.store (2 ^ f3) rs1 rs2 immS) else none
  | 0x13 =>
    if f3 = 1 then (if slice w 26 6 = 0 then some (.aluImm .sll false rd rs1 (slice w 20 6)) else none)
    else if f3 = 5 then
      if slice w 26 6 = 0 ∨ slice w 26 6 = 16 then some (.aluImm (baseOp 5 (w.testBit 30)) false rd rs1 (slice w 20 6)) else none
    else some (.aluImm (baseOp f3 false) false rd rs1 immI)
  | 0x1B =>
    if f3 = 0 then some (.aluImm .add true rd rs1 immI)
    else if f3 = 1 ∧ f7 = 0 then some (.aluImm .sll true rd rs1 rs2)
    else if f3 = 5 ∧ (f7 = 0 ∨ f7 = 32) then some (.aluImm (baseOp 5 (w.testBit 30)) true rd rs1 rs2)
    else none
  | 0x33 =>
    if f7 = 0 then some (.alu (baseOp f3 false) false rd rs1 rs2)
    else if f7 = 1 then some (.alu (mulOp f3) false rd rs1 rs2)
    else if f7 = 32 ∧ (f3 = 0 ∨ f3 = 5) then some (.alu (baseOp f3 true) false rd rs1 rs2)
    else none
  | 0x3B =>
    if f7 = 0 ∧ (f3 = 0 ∨ f3 = 1 ∨ f3 = 5) then some (.alu (baseOp f3 false) true rd rs1 rs2)
    else if f7 = 1 ∧ (f3 = 0 ∨ 4 ≤ f3) then some (.alu (mulOp f3) true rd rs1 rs2)
    else if f7 = 32 ∧ (f3 = 0 ∨ f3 = 5) then some (.alu (baseOp f3 true) true rd rs1 rs2)
    else none
  | 0x2F => if f3 = 2 ∨ f3 = 3 then (amoOf (slice w 27 5) rs2).map (fun op => .atomic op (2 ^ f3) rd rs1 rs2) else none
  | 0x0F => if f3 = 0 then some .fence else if f3 = 1 then some .fenceI else none
  | 0x73 => systemOf w
  | _ => none

/-- A 16-bit instruction, as the 32-bit one it stands for. -/
def decode16 (w : Nat) : Option RvInsn :=
  let rd := slice w 7 5
  let rs2 := slice w 2 5
  let rdQ := 8 + slice w 2 3
  let rsQ := 8 + slice w 7 3
  let hi := slice w 12 1
  let imm6 := signExt 6 (hi * 32 + rs2)
  let sh := hi * 32 + rs2
  let offW := slice w 10 3 * 8 + slice w 6 1 * 4 + slice w 5 1 * 64
  let offD := slice w 10 3 * 8 + slice w 5 2 * 64
  let offJ := signExt 12 (hi * 2048 + slice w 11 1 * 16 + slice w 9 2 * 256 + slice w 8 1 * 1024 + slice w 7 1 * 64 + slice w 6 1 * 128
    + slice w 3 3 * 2 + slice w 2 1 * 32)
  let offB := signExt 9 (hi * 256 + slice w 10 2 * 8 + slice w 5 2 * 64 + slice w 3 2 * 2 + slice w 2 1 * 32)
  match w % 4, slice w 13 3 with
  | 0, 0 =>
    let n := slice w 11 2 * 16 + slice w 7 4 * 64 + slice w 6 1 * 4 + slice w 5 1 * 8
    if n = 0 then none else some (.aluImm .add false rdQ 2 n)
  | 0, 2 => some (.load 4 true rdQ rsQ offW)
  | 0, 3 => some (.load 8 true rdQ rsQ offD)
  | 0, 6 => some (.store 4 rsQ rdQ offW)
  | 0, 7 => some (.store 8 rsQ rdQ offD)
  | 1, 0 => some (.aluImm .add false rd rd imm6)
  | 1, 1 => if rd = 0 then none else some (.aluImm .add true rd rd imm6)
  | 1, 2 => some (.aluImm .add false rd 0 imm6)
  | 1, 3 =>
    if sh = 0 then none
    else if rd = 2 then
      some (.aluImm .add false 2 2 (signExt 10 (hi * 512 + slice w 6 1 * 16 + slice w 5 1 * 64 + slice w 3 2 * 128 + slice w 2 1 * 32)))
    else some (.lui rd (signExt 18 (sh * 4096)))
  | 1, 4 =>
    match slice w 10 2, hi, slice w 5 2 with
    | 0, _, _ => some (.aluImm .srl false rsQ rsQ sh)
    | 1, _, _ => some (.aluImm .sra false rsQ rsQ sh)
    | 2, _, _ => some (.aluImm .and false rsQ rsQ imm6)
    | _, 0, 0 => some (.alu .sub false rsQ rsQ rdQ)
    | _, 0, 1 => some (.alu .xor false rsQ rsQ rdQ)
    | _, 0, 2 => some (.alu .or false rsQ rsQ rdQ)
    | _, 0, _ => some (.alu .and false rsQ rsQ rdQ)
    | _, _, 0 => some (.alu .sub true rsQ rsQ rdQ)
    | _, _, 1 => some (.alu .add true rsQ rsQ rdQ)
    | _, _, _ => none
  | 1, 5 => some (.jal 0 offJ)
  | 1, 6 => some (.branch .eq rsQ 0 offB)
  | 1, 7 => some (.branch .ne rsQ 0 offB)
  | 2, 0 => some (.aluImm .sll false rd rd sh)
  | 2, 2 => if rd = 0 then none else some (.load 4 true rd 2 (hi * 32 + slice w 4 3 * 4 + slice w 2 2 * 64))
  | 2, 3 => if rd = 0 then none else some (.load 8 true rd 2 (hi * 32 + slice w 5 2 * 8 + slice w 2 3 * 64))
  | 2, 4 =>
    if hi = 0 then
      if rs2 ≠ 0 then some (.alu .add false rd 0 rs2) else if rd = 0 then none else some (.jalr 0 rd 0)
    else if rs2 ≠ 0 then some (.alu .add false rd rd rs2)
    else if rd = 0 then some .ebreak
    else some (.jalr 1 rd 0)
  | 2, 6 => some (.store 4 2 rs2 (slice w 9 4 * 4 + slice w 7 2 * 64))
  | 2, 7 => some (.store 8 2 rs2 (slice w 10 3 * 8 + slice w 7 3 * 64))
  | _, _ => none

/-- Bytes of the instruction that begins with this word. -/
def insnBytes (w : Nat) : Nat := if w % 4 = 3 then 4 else 2

def decodeInsn (w : Nat) : Option RvInsn := if w % 4 = 3 then decode32 (w % 2 ^ 32) else decode16 (w % 2 ^ 16)

/-! ### The registers of a core -/

/-- x0 reads zero. -/
def Core.xreg (c : Core) (r : Nat) : Nat := if r = 0 then 0 else at' c.x r 0

/-- A write of x0 is discarded. -/
def Core.setX (c : Core) (r v : Nat) : Core := if r = 0 then c else { c with x := c.x.set r (v % 2 ^ 64) }

/-- The instruction is over: its result, and the pc. -/
def Core.retire (c : Core) (rd v npc : Nat) : Core := { c.setX rd v with pc := npc % 2 ^ 64, waits := none }

end Sys2Proof.Machine
end

