-- ==== Sys2Proof/Machine/Reeve.lean ====
section
/-! DEFINITION. The Reeve cores beside their accesses (spec/01 R33 to R36): mode, control and status registers, physical memory
protection with 16 entries of 4 KiB granularity, the exception a refused access raises. The register layout is that of the RISC-V
privileged specification, which R33 names (log entry 149). -/

namespace Sys2Proof.Machine

def Dev.core (d : Dev) (n : Nat) : Core := at' d.bus.cores n {}

def Dev.setCore (d : Dev) (n : Nat) (f : Core → Core) : Dev :=
  { d with bus := { d.bus with cores := d.bus.cores.set n (f (d.core n)) } }

/-- The answer to an access. -/
def Dev.answer (d : Dev) (v : Nat) (f : BusFault) : Dev := { d with bus := { d.bus with value := v, fault := f } }

/-- The answer reaches the instruction that waits for it, which is over. -/
def Core.delivered (c : Core) (v : Nat) : Core :=
  match c.waits with
  | none => c
  | some w => c.retire w.rd (if w.signed then signExt (8 * w.len) v else v % 2 ^ (8 * w.len)) w.npc

/-- Does an instruction of the port's core wait for its answer? The core does nothing else till then (log entry 149). -/
def Dev.stalled (d : Dev) (port : Nat) : Bool := port < 4 && (d.core port).waits.isSome

/-- The answer to an access of a port. -/
def Dev.reply (d : Dev) (port v : Nat) : Dev :=
  (if port < 4 then d.setCore port (fun c => c.delivered v) else d).answer v .none

/-- The exception codes of mcause. -/
def BusFault.code : BusFault → Nat
  | .none => 0
  | .fetchAccess => 1
  | .illegal => 2
  | .breakpoint => 3
  | .loadMisaligned => 4
  | .loadAccess => 5
  | .storeMisaligned => 6
  | .storeAccess => 7
  | .callUser => 8
  | .callMachine => 11

/-- A core takes an exception: the pc, the cause and the value are saved, the mode before stands in MPP, and the core goes on in machine mode
at the handler. -/
def Core.trap (c : Core) (f : BusFault) (val : Nat) : Core :=
  { c with mepc := c.pc, mcause := f.code, mtval := val, mpie := c.mie, mie := false, mpp := c.user, user := false,
           pc := c.mtvec / 4 * 4, waits := none }

/-- The external interrupt is taken where it is enabled: mstatus.MIE holds it back in machine mode only. -/
def Core.interruptible (c : Core) : Bool := c.mieReg.testBit 11 && (c.user || c.mie)

/-- The machine external interrupt, cause 11; a vectored mtvec has an entry for each cause. -/
def Core.interrupted (c : Core) : Core :=
  let t := c.trap .none 0
  { t with mcause := 2 ^ 63 + 11, pc := t.pc + (if c.mtvec % 4 = 1 then 44 else 0) }

/-- MRET. -/
def Core.ret (c : Core) : Core :=
  { c with pc := c.mepc, user := c.mpp, mie := c.mpie, mpie := true, mpp := true, mprv := c.mprv && !c.mpp }

/-- An access of a port is refused: a Reeve core takes the exception, the Drover has an error answer (13 R528). -/
def Dev.busFault (d : Dev) (port : Nat) (f : BusFault) (addr : Nat) : Dev :=
  (if port < 4 then d.setCore port (fun c => c.trap f addr) else d).answer 0 f

/-! ### Physical memory protection (R35) -/

/-- The granules of 4 KiB that entry `i` covers: the first and the number. -/
def Core.pmpRange (c : Core) (i : Nat) : Nat × Nat :=
  let a := at' c.pmpAddr i 0
  match slice (at' c.pmpCfg i 0) 3 2 with
  | 1 =>
    let lo := if i = 0 then 0 else at' c.pmpAddr (i - 1) 0 / 1024
    (lo, a / 1024 - lo)
  | 3 =>
    let v := a / 512 * 512 + 511
    match (List.range 54).find? (fun k => !v.testBit k) with
    | some k => (v / 2 ^ (k + 1) * 2 ^ (k + 1) / 1024, 2 ^ (k + 1) / 1024)
    | none => (0, 2 ^ 44)
  | _ => (0, 0)

def Core.pmpCovers (c : Core) (i addr : Nat) : Bool :=
  let r := c.pmpRange i
  r.1 ≤ addr / 4096 && addr / 4096 < r.1 + r.2

/-- Does protection permit an access (`bit` 0 read, 1 write, 2 execute) in this mode: the lowest entry that covers a byte of it decides, and
must cover it whole; with none, machine mode alone is permitted. -/
def Core.permits (c : Core) (user : Bool) (bit addr len : Nat) : Bool :=
  let last := addr + len - 1
  match (List.range 16).find? (fun i => c.pmpCovers i addr || c.pmpCovers i last) with
  | none => !user
  | some i =>
    let g := at' c.pmpCfg i 0
    c.pmpCovers i addr && c.pmpCovers i last && (g.testBit bit || (!user && !g.testBit 7))

/-- The protection bits an access needs. -/
def opNeeds : MemOp → List Nat
  | .load => [0]
  | .lr => [0]
  | .fetch => [2]
  | .store => [1]
  | .sc => [1]
  | _ => [0, 1]

/-- The mode of a data access is MPP's where MPRV is set. -/
def Core.dataUser (c : Core) (op : MemOp) : Bool := if op ≠ .fetch ∧ c.mprv then c.mpp else c.user

def Core.allows (c : Core) (op : MemOp) (addr len : Nat) : Bool := (opNeeds op).all (fun b => c.permits (c.dataUser op) b addr len)

/-! ### Control and status registers (Zicsr) -/

/-- Entry `i` keeps its registers: it is locked, or (its address) the next entry is a locked top of a range. -/
def Core.pmpLocked (c : Core) (i : Nat) : Bool := (at' c.pmpCfg i 0).testBit 7

def Core.pmpAddrLocked (c : Core) (i : Nat) : Bool :=
  c.pmpLocked i || (c.pmpLocked (i + 1) && slice (at' c.pmpCfg (i + 1) 0) 3 2 = 1)

/-- pmpaddr as it reads at a granularity of 4 KiB. -/
def Core.readPmpAddr (c : Core) (i : Nat) : Nat :=
  let a := at' c.pmpAddr i 0
  if (at' c.pmpCfg i 0).testBit 4 then a / 512 * 512 + 511 else a / 1024 * 1024

/-- A pmpcfg byte is written: a locked entry keeps its own, the reserved bits read zero, and a region of 4 bytes, which this granularity does not have,
leaves the entry off. -/
def Core.writePmpCfg (c : Core) (i v : Nat) : Core :=
  let v := v &&& 0x9F
  let v := if slice v 3 2 = 2 then withSlice v 3 2 0 else v
  if c.pmpLocked i then c else { c with pmpCfg := c.pmpCfg.set i v }

/-- A register by its number; `free` is what a counter reads, `ext` whether a block raises its interrupt. None where the core has no such register. -/
def Core.readCsr (c : Core) (hart n free : Nat) (ext : Bool) : Option Nat :=
  if n = 0xF14 then some hart
  else if n = 0xF11 ∨ n = 0xF12 ∨ n = 0xF13 ∨ n = 0xF15 then some 0
  else if n = 0x300 then
    some (2 * 2 ^ 32 + c.mie.toNat * 8 + c.mpie.toNat * 128 + (if c.mpp then 0 else 3) * 2048 + c.mprv.toNat * 2 ^ 17)
  else if n = 0x301 then some (2 * 2 ^ 62 + 2 ^ 0 + 2 ^ 2 + 2 ^ 8 + 2 ^ 12 + 2 ^ 20)
  else if n = 0x304 then some c.mieReg
  else if n = 0x305 then some c.mtvec
  else if n = 0x306 then some 0
  else if n = 0x340 then some c.mscratch
  else if n = 0x341 then some c.mepc
  else if n = 0x342 then some c.mcause
  else if n = 0x343 then some c.mtval
  else if n = 0x344 then some (if ext then 2048 else 0)
  else if n = 0x3A0 then some (leValue (c.pmpCfg.take 8))
  else if n = 0x3A2 then some (leValue (c.pmpCfg.drop 8))
  else if 0x3B0 ≤ n ∧ n < 0x3C0 then some (c.readPmpAddr (n - 0x3B0))
  else if n = 0xB00 ∨ n = 0xB02 then some free
  else none

/-- A register is written. -/
def Core.writeCsr (c : Core) (n v : Nat) : Core :=
  if n = 0x300 then
    let mpp := slice v 11 2
    { c with mie := v.testBit 3, mpie := v.testBit 7, mprv := v.testBit 17, mpp := if mpp = 3 then false else if mpp = 0 then true else c.mpp }
  else if n = 0x304 then { c with mieReg := v &&& 0x888 }
  else if n = 0x305 then { c with mtvec := if v % 4 < 2 then v else v / 4 * 4 }
  else if n = 0x340 then { c with mscratch := v }
  else if n = 0x341 then { c with mepc := v / 2 * 2 }
  else if n = 0x342 then { c with mcause := v }
  else if n = 0x343 then { c with mtval := v }
  else if n = 0x3A0 then (List.range 8).foldl (fun c i => c.writePmpCfg i (slice v (8 * i) 8)) c
  else if n = 0x3A2 then (List.range 8).foldl (fun c i => c.writePmpCfg (8 + i) (slice v (8 * i) 8)) c
  else if 0x3B0 ≤ n ∧ n < 0x3C0 then
    if c.pmpAddrLocked (n - 0x3B0) then c else { c with pmpAddr := c.pmpAddr.set (n - 0x3B0) (v % 2 ^ 54) }
  else c

/-- What a CSR instruction writes over the old value; none where it only reads. -/
def csrValue (op : MemOp) (old v : Nat) : Option Nat :=
  match op with
  | .csrWrite => some (v % 2 ^ 64)
  | .csrSet => some (old ||| (v % 2 ^ 64))
  | .csrClear => some (old - (old &&& (v % 2 ^ 64)))
  | _ => none

/-- A CSR instruction of core `n` on register `csr`: illegal in a mode below the register's, for a register the core has not, and where it
would write one that is read-only. -/
def Dev.csrAccess (d : Dev) (n : Nat) (op : MemOp) (csr v : Nat) : Dev :=
  let c := d.core n
  let free := d.fresh
  match c.readCsr n csr free.1 d.interrupts with
  | none => d.busFault n .illegal 0
  | some old =>
    let d := if csr = 0xB00 ∨ csr = 0xB02 then free.2 else d
    match csrValue op old v with
    | none => if c.user && slice csr 8 2 != 0 then d.busFault n .illegal 0 else d.reply n old
    | some w =>
      if (c.user && slice csr 8 2 != 0) || slice csr 10 2 = 3 then d.busFault n .illegal 0
      else (d.setCore n (fun c => c.writeCsr csr w)).reply n old

/-- MRET: machine mode's alone. -/
def Dev.mret (d : Dev) (n : Nat) : Dev :=
  if (d.core n).user then d.busFault n .illegal 0 else (d.setCore n Core.ret).answer 0 .none

/-- ECALL. -/
def Dev.ecall (d : Dev) (n : Nat) : Dev := d.busFault n (if (d.core n).user then .callUser else .callMachine) 0

end Sys2Proof.Machine
end

