-- ==== Sys2Proof/Machine/CacheOps.lean ====
section
/-! DEFINITION. The metadata cache's shared operations (spec/13): accesses of the five ports, fills, evictions and the victim
buffer, the drain, and the checks of the SRAM words an access meets; the reads of on-die SRAM and the scratchpad. -/

namespace Sys2Proof.Machine

/-! ### What an access computes -/

def opReads : MemOp → Bool
  | .load => true
  | .fetch => true
  | .lr => true
  | _ => false

/-- A plain store: no old data is needed. -/
def opStores : MemOp → Bool
  | .store => true
  | _ => false

/-- The value an operation returns and what it stores over `old`, `len` bytes wide (01 R33, R38); `held` says whether the core's
reservation stands. -/
def memResult (op : MemOp) (len old data : Nat) (held : Bool) : Nat × Option Nat :=
  let w := 8 * len
  let so := toSigned w old
  let sd := toSigned w data
  match op with
  | .load => (old, none)
  | .fetch => (old, none)
  | .lr => (old, none)
  | .store => (0, some data)
  | .sc => if held then (0, some data) else (1, none)
  | .amoSwap => (old, some data)
  | .amoAdd => (old, some ((old + data) % 2 ^ w))
  | .amoXor => (old, some (old ^^^ data))
  | .amoAnd => (old, some (old &&& data))
  | .amoOr => (old, some (old ||| data))
  | .amoMin => (old, some (if sd < so then data else old))
  | .amoMax => (old, some (if so < sd then data else old))
  | .amoMinu => (old, some (min old data))
  | .amoMaxu => (old, some (max old data))
  | .fence => (0, none)
  | .csrRead => (0, none)
  | .csrWrite => (0, none)
  | .csrSet => (0, none)
  | .csrClear => (0, none)
  | .mret => (0, none)
  | .ecall => (0, none)
  | .ebreak => (0, none)
  | .insn => (0, none)

/-- The access fault of an operation (01 R42). -/
def opFault : MemOp → BusFault
  | .load => .loadAccess
  | .lr => .loadAccess
  | .fetch => .fetchAccess
  | _ => .storeAccess

/-- An operation of `port` on old bytes: the answer and the reservation, and the bytes it stores, if any. -/
def Dev.operate (d : Dev) (port : Nat) (a : Access1) (old : List Nat) : Dev × Option (List Nat) :=
  let held := at' d.bus.resv port none == some a.addr
  let r := memResult a.op a.len (leValue old) a.data held
  let d := d.reply port r.1
  let setR := fun (d : Dev) (v : Option Nat) => if port < 4 then { d with bus := { d.bus with resv := d.bus.resv.set port v } } else d
  let d := match a.op with
    | .lr => setR d (some a.addr)
    | .sc => setR d none
    | _ => d
  match r.2 with
  | none => (d, none)
  | some v => (d.dropResv a.addr a.len, some (leBytes a.len v))

/-! ### The Granary behind the cache -/

/-- The line of byte `x` of the capacity is read past the cache: true where the reader receives poison or an uncorrectable error
(12 R477 to R479). A dirty line's data come from the cache, whatever the devices hold; a dirty line with an uncorrectable word goes to the
devices as poison first (13 R504, R529). -/
def Dev.dramMeet (d : Dev) (x : Nat) (o : DramRead) (cls : Nat) : Dev × Bool :=
  let fromDevices := fun (d : Dev) =>
    let p := d.dramPlace x
    let rank := d.servingRank p
    let addr := granBase + x / 64 * 64
    if d.poisoned x then (d.poisonRead x cls, true)
    else
      match o with
      | .good => (d, false)
      | .corrected s => (d.correctedRead p.sc rank s addr, false)
      | .uncorrectable => ((d.poisonLine x).uncorrectableRead p.sc rank addr, true)
  match d.cline (x / 64) with
  | some c =>
    if !c.dirty then fromDevices d
    else
      let r := d.lineWords c
      match r.2 with
      | none => (r.1, false)
      | some m => let d := (r.1.poisonBack c m).dropLine c.line; (d.poisonRead x cls, true)
  | none => if (d.victim (x / 64)).isSome then (d, false) else fromDevices d

/-- The lines of `n` bytes are read past the cache; `o` is what the devices give the first. -/
def Dev.linesMeet (d : Dev) (x n : Nat) (o : DramRead) (cls : Nat) : Dev × Bool :=
  (linesOf x n).foldl (fun r l =>
    let s := r.1.dramMeet (64 * l) (if l = x / 64 then o else .good) cls
    (s.1, r.2 || s.2)) (d, false)

/-- A fill or an uncached read has failed (13 R528). -/
def Dev.fillError (d : Dev) (port : Nat) (a : Access1) : Dev :=
  ((d.put F.MCC_INT_STAT_FILL_ERR 1).post 0x3105 [port, a.addr % 2 ^ 32, a.addr / 2 ^ 32]).busFault port (opFault a.op) a.addr

/-- An access past the cache (13 R508 UNCACHED, R523). -/
def Dev.uncachedAccess (d : Dev) (port : Nat) (a : Access1) (o : DramRead) : Dev :=
  let x := a.addr - granBase
  let r := if opStores a.op then (d, false) else d.dramMeet x o 2
  if r.2 then r.1.fillError port a
  else
    let s := r.1.operate port a (r.1.granRead x a.len)
    match s.2 with
    | none => s.1
    | some b => s.1.granWrite x b

/-! ### Replacement (13 R512) -/

def Dev.plru (d : Dev) (set' : Nat) : Nat := ((d.mcc.plru.find? (fun e => e.1 == set')).map (fun e => e.2)).getD 0

def Dev.setPlru (d : Dev) (set' v : Nat) : Dev :=
  let l := d.mcc.plru.filter (fun e => e.1 != set')
  { d with mcc := { d.mcc with plru := if v = 0 then l else (set', v) :: l } }

/-- The way the tree points at, among those allowed. -/
def plruPick (bits : Nat) (ok : Nat → Bool) : Nat → Nat → Nat → Nat → Nat
  | 0, _, lo, _ => lo
  | f + 1, node, lo, size =>
    let h := size / 2
    let left := (List.range h).any (fun i => ok (lo + i))
    let right := (List.range h).any (fun i => ok (lo + h + i))
    if right && (bits.testBit node || !left) then plruPick bits ok f (2 * node + 2) (lo + h) h
    else plruPick bits ok f (2 * node + 1) lo h

/-- The tree after way `w` is used: every node on its path points away from it. -/
def plruTouch (w : Nat) : Nat → Nat → Nat → Nat → Nat → Nat
  | 0, _, _, _, bits => bits
  | f + 1, node, lo, size, bits =>
    let h := size / 2
    if w < lo + h then plruTouch w f (2 * node + 1) lo h (withBit bits node true)
    else plruTouch w f (2 * node + 2) (lo + h) h (withBit bits node false)

def Dev.touchWay (d : Dev) (set' w : Nat) : Dev := d.setPlru set' (plruTouch w 4 0 0 16 (d.plru set'))

/-- May a way be allocated: neither locked, nor being locked, nor fenced? -/
def Dev.wayFree (d : Dev) (w : Nat) : Bool :=
  decide (max (d.get F.MCC_LOCK_WAYS) d.mcc.lockTo ≤ w) && !d.bit F.MCC_FENCE_WAYS w

def Dev.anyWay (d : Dev) : Bool := (List.range 16).any d.wayFree

/-! ### Lines -/

def Dev.putLine (d : Dev) (c : CLine) : Dev :=
  { d with mcc := { d.mcc with lines := c :: d.mcc.lines.filter (fun (x : CLine) => x.line != c.line) } }

/-- The SRAM words of a line's bytes are written (13 R532, R540). -/
def Dev.lineStored (d : Dev) (l w off n : Nat) : Dev :=
  d.each (List.range ((off + n - 1) / 8 - off / 8 + 1)) (fun d i =>
    let p := lineWord l w (off / 8 * 8 + 8 * i)
    d.wordWritten p.1 p.2 true)

/-- A line is allocated; an evicted dirty line goes to the victim buffer. None where that is full (13 R527). -/
def Dev.allocLine (d : Dev) (l : Nat) (dirty pre : Bool) (data : List Nat) : Option Dev :=
  let set' := l % 4096
  let w := plruPick (d.plru set') d.wayFree 4 0 0 16
  let old := d.mcc.lines.find? (fun (c : CLine) => c.line % 4096 == set' && c.way == w)
  let place := fun (d : Dev) => ((d.putLine ⟨l, w, dirty, pre, data⟩).lineStored l w 0 64 |>.wordWritten (80 + w) set' true).touchWay set' w
  match old with
  | none => some (place d)
  | some c =>
    if !c.dirty then some (place (d.dropLine c.line))
    else
      let r := d.lineWords c
      match r.2 with
      | some m => some (place ((r.1.poisonBack c m).dropLine c.line))
      | none =>
        if 8 ≤ d.mcc.victims.length then none
        else
          let e := r.1.dropLine c.line
          some (place { e with mcc := { e.mcc with victims := e.mcc.victims ++ [⟨c.line, c.data, false⟩] } })

/-! ### Accesses -/

/-- POLICY and PREFETCH of the region of a Granary address (13 R508). -/
def attrField (base : Field) (r : Nat) : Field := ⟨base.key + 2 * (r % 8), base.width, base.reset⟩

def Dev.regionPolicy (d : Dev) (x : Nat) : Nat := d.getI (attrField F.MCC_ATTR_POLICY0 (x / 2 ^ 30)) (x / 2 ^ 30 / 8)
def Dev.regionPrefetch (d : Dev) (x : Nat) : Bool := d.onI (attrField F.MCC_ATTR_PREFETCH0 (x / 2 ^ 30)) (x / 2 ^ 30 / 8)

/-- An access that finds its line in the cache (13 R505, R508, R510). -/
def Dev.lineHit (d : Dev) (port : Nat) (a : Access1) (c : CLine) (through : Bool) : Dev :=
  let x := a.addr - granBase
  let off := x % 64
  let d := d.touchWay (c.line % 4096) c.way
  let s := d.operate port a ((c.data.drop off).take a.len)
  match s.2 with
  | none => s.1.putLine { c with pre := false }
  | some b =>
    let c := { c with pre := false, dirty := c.dirty || !through, data := c.data.take off ++ b ++ c.data.drop (off + a.len) }
    let d := (s.1.putLine c).lineStored c.line c.way off a.len
    if through then d.dramWrite x b else d

/-- A prefetch of the next line, where R511 permits it. -/
def Dev.prefetchNext (d : Dev) (x : Nat) : Dev :=
  let l := x / 64 + 1
  if d.regionPrefetch x && 64 * l / 2 ^ 30 == x / 2 ^ 30 && 64 * l < d.capacity && (d.cline l).isNone && (d.victim l).isNone && d.mcc.prefetch.isNone then
    { d with mcc := { d.mcc with prefetch := some l } }.inc F.MCC_PREFETCH_ISSUED
  else d

/-- An access waits at its port. -/
def Dev.portWait (d : Dev) (port : Nat) (a : Access1) : Dev :=
  { d with mcc := { d.mcc with waiting := d.mcc.waiting ++ [⟨port, a, false⟩] } }

def Dev.missAt (d : Dev) (port : Nat) : Bool := d.mcc.misses.any (fun (m : Miss) => m.port == port)

/-- A miss is outstanding at its port, or waits behind the port's miss (13 R506). A read starts a prefetch (R511). -/
def Dev.startMiss (d : Dev) (port : Nat) (a : Access1) : Dev :=
  if d.missAt port then d.portWait port a
  else
    let d := ({ d with mcc := { d.mcc with misses := d.mcc.misses ++ [(⟨port, a, false⟩ : Miss)] } } : Dev).inc F.MCC_MISS_COUNT
    if opReads a.op then d.prefetchNext (a.addr - granBase) else d

/-- An access whose line is neither cached nor in the victim buffer (13 R508, R510). -/
def Dev.lineMiss (d : Dev) (port : Nat) (a : Access1) : Dev :=
  let x := a.addr - granBase
  if d.on F.MCC_STAT_DRAINING || a.pol == 0 || !d.anyWay then d.uncachedAccess port a a.dram
  else if opStores a.op && a.pol != 2 then
    if d.missAt port then d.portWait port a
    else
      let d := d.inc F.MCC_MISS_COUNT
      let s := d.operate port a []
      match s.2 with
      | none => s.1
      | some b => s.1.granWrite x b
  else d.startMiss port a

/-- An access finds its line in the victim buffer (13 R526). -/
def Dev.victimHit (d : Dev) (port : Nat) (a : Access1) (v : Victim) : Dev :=
  let x := a.addr - granBase
  let d := d.inc F.MCC_VICTIM_HITS
  if opReads a.op then (d.operate port a ((v.data.drop (x % 64)).take a.len)).1
  else if v.issued then (if d.on F.MCC_STAT_DRAINING then d.uncachedAccess port a a.dram else d.startMiss port a)
  else if d.on F.MCC_STAT_DRAINING || !d.anyWay then d.uncachedAccess port a a.dram
  else
    match (d.dropVictim v.line).allocLine v.line true false v.data with
    | none => d.uncachedAccess port a a.dram
    | some d =>
      match d.cline v.line with
      | some c => (d.inc F.MCC_VICTIM_CANCELLED).lineHit port a c false
      | none => d

/-- The words of a cached line as the access finds them (13 R529, R531): the line still there, lost clean, or lost dirty. -/
inductive LineCheck where
  | there | lost | poisoned
  deriving DecidableEq, Repr

def Dev.checkLine (d : Dev) (c : CLine) (off : Nat) (word tag : Ecc) : Dev × LineCheck :=
  let set' := c.line % 4096
  let tw := (80 + c.way, set')
  let dw := lineWord c.line c.way off
  let t := d.wordEcc tw.1 tw.2 tag
  let g := d.wordEcc dw.1 dw.2 word
  let d := if t = .single then d.sramCorrected tw.1 tw.2 else d
  if t = .double then
    let d := ((d.sramDouble tw.1 tw.2).dropLine c.line).put F.MCC_INT_STAT_FILL_ERR 1
    if c.dirty then (d.post 0x310C [tw.1, set'], .lost) else (d.post 0x3104 [tw.1, tw.2, set'], .lost)
  else if g = .double then
    let d := (d.sramDouble dw.1 dw.2).dropLine c.line
    if c.dirty then (d.poisonBack c dw.1, .poisoned)
    else ((d.put F.MCC_INT_STAT_FILL_ERR 1).post 0x3104 [dw.1, dw.2, set'], .lost)
  else (if g = .single then d.sramCorrected dw.1 dw.2 else d, .there)

/-- An access of a port to the Granary is served, or waits (13 R505 to R510, R522 to R529). -/
def Dev.cacheServe (d : Dev) (port : Nat) (a : Access1) : Dev :=
  let x := a.addr - granBase
  if a.op == .fence then d.reply port 0
  else if !d.on F.MCC_CTRL_ENABLE || a.pol == 0 then d.uncachedAccess port a a.dram
  else
    match d.cline (x / 64) with
    | some c =>
      let r := d.checkLine c (x % 64) a.word a.tag
      let d := r.1
      match r.2 with
      | .there =>
        let d := d.inc F.MCC_HIT_COUNT
        let d := if c.pre then d.inc F.MCC_PREFETCH_USED else d
        d.lineHit port a c (a.pol == 1)
      | .lost => d.lineMiss port a
      | .poisoned => d.fillError port a
    | none =>
      match d.victim (x / 64) with
      | some v => d.victimHit port a v
      | none => d.lineMiss port a

/-- Must an access wait at its port: behind an earlier one to its line, behind a FENCE, or, a FENCE, behind the port's miss (13 R507)? -/
def Dev.mustWait (d : Dev) (port : Nat) (a : Access1) : Bool :=
  let before := fun (m : Miss) => m.port == port && (a.op == .fence || m.acc.op == .fence || m.acc.addr / 64 == a.addr / 64)
  d.mcc.misses.any before || d.mcc.waiting.any before

/-- The write-backs of these victim lines have been issued. -/
def Dev.issueVictims (d : Dev) (l : List Nat) : Dev :=
  { d with mcc := { d.mcc with victims := d.mcc.victims.map (fun (v : Victim) => if l.contains v.line then { v with issued := true } else v) } }

/-! ### The maintenance engine -/

/-- Lines are cleaned, and leave the cache where `drop`. -/
def Dev.cleanLines (d : Dev) (l : List CLine) (clean drop : Bool) : Dev :=
  d.each l (fun d (c : CLine) =>
    let d := if clean then d.castOut c else d
    if drop then d.dropLine c.line else d.putLine { c with dirty := c.dirty && !clean })

/-- The place of a line in the engine's order: set by set for the drain and for a range above 65,536 lines, else the range's own; none outside its
work (13 R518, R519, R522). -/
def Dev.enginePlace (d : Dev) (c : CLine) : Option Nat :=
  let walk := 16 * (c.line % 4096) + c.way
  if d.on F.MCC_STAT_DRAINING then some walk
  else
    match d.mcc.maint with
    | none => none
    | some (_, first, n) =>
      let a := granBase / 64 + c.line
      if a < first || first + n ≤ a then none else if 65536 < n then some walk else some (a - first)

/-- The engine has examined `n` lines; what a port does behind it stays as it is (13 R521, R523). -/
def Dev.engineTo (d : Dev) (n : Nat) : Dev :=
  let op := if d.on F.MCC_STAT_DRAINING then 2 else match d.mcc.maint with | some m => m.1 | none => 0
  let l := d.mcc.lines.filter (fun (c : CLine) => d.get F.MCC_LOCK_WAYS ≤ c.way &&
    match d.enginePlace c with | none => false | some p => d.mcc.pos ≤ p && p < n)
  let w := (l.filter (fun (c : CLine) => c.dirty)).length
  let d := d.cleanLines l (op != 1) (op != 0)
  { d with mcc := { d.mcc with pos := max d.mcc.pos n, written := if op = 1 then d.mcc.written else d.mcc.written + w } }

/-- An access of a port to the Granary window: a write to a pool tile or to the side table is refused (12 R493). -/
def Dev.granAccess (d : Dev) (port : Nat) (x : CoreAccess) : Dev :=
  let off := x.addr - granBase
  let d := (d.issueVictims x.issued).engineTo x.engine
  let wr := !(opReads x.op)
  let agent := if port < 4 then 0 else 2
  if wr && (d.tileOf off).isSome then (d.writeRefused ((d.tileOf off).getD 0) agent).busFault port .storeAccess x.addr
  else if wr && d.inSideTable off then (d.writeRefused ((off - d.get F.GRN_SIDE_BASE_TILES * 4096) / 16) agent).busFault port .storeAccess x.addr
  else
    let a : Access1 := ⟨x.addr, x.len, x.op, x.data, d.regionPolicy off, x.word, x.tag, x.dram⟩
    if d.mustWait port a then d.portWait port a else d.cacheServe port a

/-- A FENCE of a core waits for its outstanding miss (13 R507). -/
def Dev.coreFenceOp (d : Dev) (port : Nat) : Dev :=
  let a : Access1 := ⟨0, 0, .fence, 0, 0, .clean, .clean, .good⟩
  if d.missAt port then d.portWait port a else d.reply port 0

/-! ### Fills and write-backs end -/

/-- The accesses that wait at a port are served, in order, until one is outstanding. -/
def Dev.nextWaiting (d : Dev) (port : Nat) : Nat → Dev
  | 0 => d
  | f + 1 =>
    if d.missAt port then d
    else
      match d.mcc.waiting.find? (fun (m : Miss) => m.port == port) with
      | none => d
      | some m => (({ d with mcc := { d.mcc with waiting := d.mcc.waiting.erase m } } : Dev).cacheServe port m.acc).nextWaiting port f

/-- A port's miss is answered: what waits there goes on. -/
def Dev.portGoesOn (d : Dev) (port : Nat) : Dev := d.nextWaiting port d.mcc.waiting.length

/-- An outstanding miss leaves; the port's next access goes on. -/
def Dev.missEnds (d : Dev) (m : Miss) : Dev := { d with mcc := { d.mcc with misses := d.mcc.misses.erase m } }

/-- The data of an outstanding miss is there: the line is allocated and the access performed, or it waits for a victim entry. -/
def Dev.missFilled (d : Dev) (m : Miss) : Dev :=
  let x := m.acc.addr - granBase
  let l := x / 64
  let through := m.acc.pol == 1
  if !d.on F.MCC_CTRL_ENABLE || d.on F.MCC_STAT_DRAINING || !d.anyWay then
    ((d.missEnds m).uncachedAccess m.port m.acc .good).portGoesOn m.port
  else
    match d.cline l with
    | some c => ((d.missEnds m).lineHit m.port m.acc c through).portGoesOn m.port
    | none =>
      match d.allocLine l false false (d.dramRead (64 * l) 64) with
      | none => { d with mcc := { d.mcc with misses := d.mcc.misses.map (fun y => if y == m then { y with filled := true } else y) } }
      | some e =>
        match e.cline l with
        | some c => ((e.missEnds m).lineHit m.port m.acc c through).portGoesOn m.port
        | none => e

/-- The fill of a port's miss completes (13 R506, R526 to R528). -/
def Dev.fillDone (d : Dev) (port : Nat) (o : DramRead) : Dev :=
  match d.mcc.misses.find? (fun (m : Miss) => m.port == port) with
  | none => d
  | some m =>
    let l := (m.acc.addr - granBase) / 64
    if m.filled || (d.victim l).isSome then d
    else
      let r := if (d.cline l).isSome then (d, false) else d.dramMeet (64 * l) o 2
      if r.2 then ((r.1.missEnds m).fillError port m.acc).portGoesOn port else r.1.missFilled m

/-- The prefetch completes (13 R511, R528); the port of its event is a free value, as the spec gives a prefetch none. -/
def Dev.prefetchDone (d : Dev) (o : DramRead) : Dev :=
  match d.mcc.prefetch with
  | none => d
  | some l =>
    let d := { d with mcc := { d.mcc with prefetch := none } }
    if !d.on F.MCC_CTRL_ENABLE || d.on F.MCC_STAT_DRAINING || (d.cline l).isSome || (d.victim l).isSome || !d.anyWay then d
    else
      let r := d.dramMeet (64 * l) o 2
      let d := r.1
      if r.2 then
        let v := d.fresh
        let addr := granBase + 64 * l
        (v.2.put F.MCC_INT_STAT_FILL_ERR 1).post 0x3105 [v.1, addr % 2 ^ 32, addr / 2 ^ 32]
      else (d.allocLine l false true (d.dramRead (64 * l) 64)).getD d

/-- A victim line reaches the Granary; the first fill that waits for an entry goes on (13 R526, R527). -/
def Dev.victimDone (d : Dev) (l : Nat) : Dev :=
  match d.victim l with
  | none => d
  | some v =>
    let d := (d.writeBack l v.data).dropVictim l
    match d.mcc.misses.find? (fun (m : Miss) => m.filled) with
    | some m => d.missFilled m
    | none => d

/-! ### The drain and the maintenance engine -/

def Dev.showMcc (d : Dev) : Dev :=
  d.flag F.MCC_STAT_BUSY (d.on F.MCC_STAT_LOCK_BUSY || d.on F.MCC_STAT_MAINT || d.on F.MCC_STAT_DRAINING)

/-- Bits 3 to 0 of MCC_STAT. -/
def Dev.mccBusyBits (d : Dev) : Nat :=
  d.get F.MCC_STAT_LOCK_BUSY * 8 + d.get F.MCC_STAT_MAINT * 4 + d.get F.MCC_STAT_DRAINING * 2 + d.get F.MCC_STAT_BUSY

/-- A write is ignored (13 R517, R520, R524; event 0x310E). -/
def Dev.mccIgnored (d : Dev) (off : Nat) : Dev :=
  ((d.put F.MCC_STAT_WR_IGN 1).put F.MCC_INT_STAT_WR_IGN 1).post 0x310E [off, d.mccBusyBits]

/-- The drain starts, or waits for the range operation (13 R522, R525, R542). -/
def Dev.cacheDrain (d : Dev) : Dev :=
  if !d.on F.MCC_CTRL_ENABLE || d.on F.MCC_STAT_DRAINING then d
  else if d.on F.MCC_STAT_MAINT then { d with mcc := { d.mcc with drainAfter := true } }
  else ({ d with mcc := { d.mcc with drainAfter := false, pos := 0, written := 0 } }.put F.MCC_STAT_DRAINING 1).showMcc

/-- Is the cache being drained, or about to be? -/
def Dev.draining (d : Dev) : Bool := d.on F.MCC_STAT_DRAINING || d.mcc.drainAfter

/-- A Harvest commits: the drain and the range operation are abandoned and the dirty lines discarded (13 R525, R542). -/
def Dev.cacheDiscard (d : Dev) : Dev :=
  let d := { d with mcc := { d.mcc with maint := none, drainAfter := false, victims := [], misses := [], waiting := [], prefetch := none,
                                        lines := d.mcc.lines.filter (fun (c : CLine) => !c.dirty) } }
  ((d.put F.MCC_STAT_MAINT 0).put F.MCC_STAT_DRAINING 0).showMcc

/-- The drain ends (13 R522). -/
def Dev.drainDone (d : Dev) : Dev :=
  if !d.on F.MCC_STAT_DRAINING then d
  else
    let d := d.engineTo 65536
    let d := ((d.put F.MCC_CTRL_ENABLE 0).put F.MCC_STAT_DRAINING 0).showMcc
    (d.put F.MCC_INT_STAT_OP_DONE 1).post 0x3102 [d.mcc.written]

/-! ### On-die SRAM and the scratchpad (13 R513, R531, R532, R541) -/

/-- The words of a read are checked: true where one is uncorrectable. The agent of event 0x310B is a free value: the spec numbers no
agents there (log entry 5). -/
def Dev.sramCheck (d : Dev) (addr n : Nat) (word : Ecc) : Dev × Bool :=
  let w := sramWord addr
  let n := if n = 0 then 1 else n
  let more := (List.range ((addr + n - 1) / 8 - addr / 8 + 1)).map (fun i => sramWord (8 * (addr / 8 + i)))
  let bad := more.find? (fun p => d.wordEcc p.1 p.2 (if p == w then word else .clean) == .double)
  match bad with
  | some p =>
    let d := d.sramDouble p.1 p.2
    let e := d.macro p.1
    let d := d.setMacro { e with bad := if e.bad.contains p.2 then e.bad else p.2 :: e.bad }
    let v := d.fresh
    (v.2.post 0x310B [p.1, p.2, v.1], true)
  | none => (d.each (more.filter (fun p => d.wordEcc p.1 p.2 (if p == w then word else .clean) == .single)) (fun d p => d.sramCorrected p.1 p.2), false)

/-- A core's access to on-die SRAM or the locked scratchpad. -/
def Dev.sramAccess (d : Dev) (port : Nat) (x : CoreAccess) : Dev :=
  let r := if opStores x.op then (d, false) else d.sramCheck x.addr x.len x.word
  if r.2 then r.1.busFault port (opFault x.op) x.addr
  else
    let a : Access1 := ⟨x.addr, x.len, x.op, x.data, 0, x.word, .clean, .good⟩
    let s := r.1.operate port a (r.1.sramRead x.addr x.len)
    match s.2 with
    | none => s.1
    | some b => s.1.sramWrite x.addr b x.back

end Sys2Proof.Machine
end

