-- ==== Sys2Proof/Machine/PorterOps.lean ====
section
/-! DEFINITION. The named operations of the Porter's channels (spec/14): lines, instructions, bursts, how a channel ends, pauses and
goes on; and the filling of a write channel's sector buffer (11 R420, R421). -/

namespace Sys2Proof.Machine

/-! ### A sector buffer is filled (11 R420, R421; 18 R746) -/

/-- The check value of a sealed append is asked for as its bytes pass (18 R746). -/
def Dev.sealAppend (d : Dev) (x : WSector) : Dev :=
  match d.sealBand x.lba with
  | none => d
  | some b =>
    let host := d.drv.run.any (fun (t : Stripe) => t.num == x.stripe && (match t.members[x.member]? with | some m => m.kind == .host | none => false))
    if host && x.lba < b.tagStart then d.askComp { cls := 2, band := b.idx, lba := x.lba, data := d.tileBytes x.tile } else d

/-- The first sector of a channel's queue that is in no buffer; none where no buffer is free or the channel is off. -/
def Dev.nextSector (d : Dev) (s : Nat) : Option WSector :=
  if !d.powered (3 + s / 2) || 3 ≤ d.getI F.WCH_W_STAT_BUFFERS s then none
  else (d.wchan s).queue.find? (fun (x : WSector) => !x.loaded)

/-- Sector `x` of a channel's queue, as `y`, has come whole with the user bytes of its tile; `good` is the answer of its checked use
(11 R421). -/
def Dev.placeSector (d : Dev) (s : Nat) (x y : WSector) (good : Bool) (user : List Nat) : Dev :=
  let c := d.wchan s
  if good then
    let whole := user ++ leBytes 6 y.tag ++ leBytes 6 y.seq ++ leBytes 4 (crc64 user / 2 ^ 32)
    let q := c.queue.map (fun (z : WSector) => if z == x then { y with loaded := true, bytes := whole } else z)
    let d := (((d.setWchan s { c with queue := q }).showBuffers s).sealAppend y)
    if d.wState s = wIdle then d.putI F.WCH_W_STAT_STATE s wArmed else d
  else
    let d := d.setWchan s { c with queue := c.queue.filter (fun z => z != x) }
    ((d.put F.WCH_INT_STAT_BAD_TILE 1).post 0x2204 [s, x.lba % 2 ^ 32, x.lba / 2 ^ 32]).sectorReport s x 4

/-- The next sector of a channel is loaded as its dispatch names it. -/
def Dev.loadSector (d : Dev) (s : Nat) (intact : Bool) : Dev :=
  match d.nextSector s with
  | none => d
  | some x =>
    let u := d.tileUse x.tile 0 intact
    u.1.placeSector s x x (u.2 == .good) (u.1.tileBytes x.tile)

/-! ### Channels -/

def Dev.pch (d : Dev) (c : Nat) : PChan := at' d.por.ch c {}

def Dev.setPch (d : Dev) (c : Nat) (f : PChan → PChan) : Dev := { d with por := { d.por with ch := d.por.ch.set c (f (d.pch c)) } }

/-- POR_Cc_STAT.STATE values (R580). -/
def porIdle : Nat := 0
def porRun : Nat := 1
def porWait : Nat := 2
def porStalled : Nat := 3
def porPaused : Nat := 4
def porDone : Nat := 5

def Dev.porState (d : Dev) (c : Nat) : Nat := d.getI F.POR_C_STAT_STATE c

/-- Is a channel IDLE or DONE? -/
def Dev.porRests (d : Dev) (c : Nat) : Bool := d.porState c == porIdle || d.porState c == porDone

/-- STATE, and the channel's bit of POR_STAT. -/
def Dev.setPor (d : Dev) (c st : Nat) : Dev :=
  (d.putI F.POR_C_STAT_STATE c st).setBit F.POR_STAT_RUNNING c (st != porIdle && st != porDone)

/-- A write is ignored (R580, R582). -/
def Dev.porIgnored (d : Dev) (c : Nat) : Dev := (d.putI F.POR_C_STAT_WR_IGN c 1).put F.POR_INT_STAT_WR_IGN 1

def Dev.porChInt (d : Dev) (c : Nat) : Dev := d.setBit F.POR_CH_INT_CH c true

def Dev.porPc (d : Dev) (c : Nat) : Nat := d.getI F.POR_C_PC_HI_PC c * 2 ^ 32 + d.getI F.POR_C_PC_LO_PC c * 32

def Dev.setPorPc (d : Dev) (c a : Nat) : Dev := (d.putI F.POR_C_PC_HI_PC c (a / 2 ^ 32)).putI F.POR_C_PC_LO_PC c (a / 32)

def Dev.porParam (d : Dev) (c p : Nat) : Nat := d.getI F.POR_C_PARAM_HI_VALUE (8 * c + p) * 2 ^ 32 + d.getI F.POR_C_PARAM_LO_VALUE (8 * c + p)

def Dev.remain (d : Dev) (c : Nat) : Nat := d.getI F.POR_C_REMAIN_REMAIN c

/-- What a MOVE to a write channel has sent of a sector that does not come whole is given up, with the room it took (R564). -/
def Dev.dropPartial (d : Dev) (c : Nat) : Dev :=
  match (d.pch c).move with
  | some m =>
    if m.dstSpace != 2 then d
    else
      let s := slice m.dst 56 3
      let taken := (m.length - d.remain c) / 256 + (if (d.pch c).claimed && m.req = s then 1 else 0)
      { d with por := { d.por with claims := d.por.claims.set s (at' d.por.claims s 0 - taken) } }
  | none => d

/-- A channel enters DONE (R572, R580). -/
def Dev.porEnd (d : Dev) (c status : Nat) : Dev :=
  let d := if (d.pch c).move.isSome && d.remain c != 0 then d.dropPartial c else d
  let d := ((d.setPor c porDone).putI F.POR_C_STAT_STATUS c status).setPch c (fun x => { x with
    move := none, wait := none, claimed := false, held := false, paused := none, last := false })
  if d.onI F.POR_C_CTRL_IRQ_DONE c then d.porChInt c else d

/-- A channel ends with an error status at an address (R572, event 0x3202). -/
def Dev.porError (d : Dev) (c status addr : Nat) : Dev :=
  let d := (d.putI F.POR_C_ERR_ADDR_LO_ADDR c addr).putI F.POR_C_ERR_ADDR_HI_ADDR c (addr / 2 ^ 32)
  (d.porEnd c status).post 0x3202 [c, status, d.porPc c % 2 ^ 32, addr % 2 ^ 32]

/-! ### Request lines (R563, R564) -/

/-- Unclaimed bursts, or requests pending, on a line. -/
def Dev.lineRoom (d : Dev) (n : Nat) : Nat :=
  if n < 8 then 16 * (3 - d.getI F.WCH_W_STAT_BUFFERS n) - at' d.por.claims n 0
  else if n < 16 then at' d.por.room (n - 8) 0
  else if n < 48 then at' d.por.sw (n - 16) 0
  else 0

/-- POR_SWPEND follows a software line's count. -/
def Dev.setSw (d : Dev) (i v : Nat) : Dev :=
  ({ d with por := { d.por with sw := d.por.sw.set i v } }).setBit F.POR_SWPEND_PENDING i (v != 0)

/-- One request of a line is consumed. -/
def Dev.claimLine (d : Dev) (n : Nat) : Dev :=
  if n < 8 then { d with por := { d.por with claims := d.por.claims.set n (at' d.por.claims n 0 + 1) } }
  else if n < 16 then { d with por := { d.por with room := d.por.room.set (n - 8) (at' d.por.room (n - 8) 0 - 1) } }
  else d.setSw (n - 16) (at' d.por.sw (n - 16) 0 - 1)

/-! ### Domains (R577 to R579) -/

def addrDomain (a : Nat) : Nat := if granBase ≤ a then 8 else 1

/-- The write channel a MOVE with DST_SPACE 2 names. -/
def Move.channel (m : Move) : Nat := slice m.dst 56 3

/-- The class of 12 R472 that a MOVE's bursts run at (R556). -/
def Move.cls (m : Move) : Nat := if m.dstSpace = 2 then 0 else if m.srcSpace = 1 || m.dstSpace = 1 then 1 else 2

/-- May a burst be issued into a domain: it is on, and no power-down drains it (02 R78)? -/
def Dev.domainUp (d : Dev) (dom : Nat) : Bool := d.powered dom && !d.clk.draining.testBit dom

/-- The domains the current instruction uses. -/
def Dev.porDomains (d : Dev) (c : Nat) : List Nat :=
  match (d.pch c).move with
  | some m => [if m.srcSpace = 1 then 9 else addrDomain m.src,
               if m.dstSpace = 1 then 9 else if m.dstSpace = 2 then 3 + m.channel / 2 else addrDomain m.dst]
  | none => if (d.pch c).wait.isSome then [] else [addrDomain (d.porPc c)]

/-- A channel pauses for a domain (R578): a burst that waits for its data restarts at its first byte. -/
def Dev.porPause (d : Dev) (c dom : Nat) : Dev :=
  let d := ((d.setPor c porPaused).putI F.POR_C_STAT_DOMAIN c dom).setPch c (fun x => { x with
    paused := some dom, wait := if x.wait == some .data then none else x.wait })
  d.post 0x3205 [c, dom]

/-- Every running channel whose current instruction uses a domain pauses (R578). -/
def Dev.porterPausePower (d : Dev) (dom : Nat) : Dev :=
  d.each (List.range 32) (fun d c =>
    let st := d.porState c
    if porRun ≤ st && st ≤ porStalled && (d.porDomains c).contains dom then d.porPause c dom else d)

/-! ### Bursts (R553, R556, R557, R568, R569) -/

/-- A burst: the byte of the MOVE it starts at, its bytes, and, in a staged MOVE, the unit and the place in it. -/
structure Burst where
  off : Nat
  n : Nat
  unit : Nat := 0
  inUnit : Nat := 0
  deriving DecidableEq, Repr

/-- The bytes up to the next 256-byte boundary of the destination. -/
def Move.toBoundary (m : Move) (off : Nat) : Nat := 256 - (if m.dstSpace = 2 then off else m.dst + off) % 256

/-- The payload and read-request limits of the link (R556, 15 R585). -/
def Dev.hostLimit (d : Dev) (m : Move) (n : Nat) : Nat :=
  let n := if m.dstSpace = 1 then min n (min 256 d.hif.mps) else n
  if m.srcSpace = 1 then min n (min 256 d.hif.mrrs) else n

/-- The next burst of a MOVE with `r` bytes left. -/
def Dev.burstOf (d : Dev) (m : Move) (r : Nat) : Burst :=
  if m.staged then
    let w := (r - 1) % 4096 + 1
    let u := if m.down then (r - 1) / 4096 else (m.length - r) / 4096
    let off := 4096 * u + (4096 - w)
    ⟨off, d.hostLimit m (min w (m.toBoundary off)), u, 4096 - w⟩
  else if m.down then
    let n := min r ((m.dst + r - 1) % 256 + 1)
    ⟨r - n, n, 0, 0⟩
  else
    let off := m.length - r
    ⟨off, d.hostLimit m (min r (m.toBoundary off)), 0, 0⟩

def Move.srcAt (m : Move) (off : Nat) : Nat := (m.src + off) % 2 ^ 64
def Move.dstAt (m : Move) (off : Nat) : Nat := (m.dst + off) % 2 ^ 64

/-- May a burst read these internal addresses: memory a channel reaches, or the boot ROM (R553, 01 R42)? -/
def Dev.porReads (d : Dev) (a n : Nat) : Bool := d.reachable a n || a + n ≤ 0x40000

/-- The next burst of a channel is issued: its domains are up, its addresses exist, the host answers, its request is there. -/
def Dev.issueBurst (d : Dev) (c : Nat) : Dev :=
  match (d.pch c).move with
  | none => d
  | some m =>
    let b := d.burstOf m (d.remain c)
    let hostDown := !d.hif.master || d.get F.HIF_LINK_STATE == linkDetectSt
    match (d.porDomains c).find? (fun x => !d.domainUp x) with
    | some dom => d.porPause c dom
    | none =>
      if m.srcSpace = 0 && !d.porReads (m.srcAt b.off) b.n then d.porError c 3 (m.srcAt b.off)
      else if m.dstSpace = 0 && !d.reachable (m.dstAt b.off) b.n then d.porError c 3 (m.dstAt b.off)
      else if m.srcSpace = 1 && hostDown then d.porError c 10 (m.srcAt b.off)
      else if m.dstSpace = 1 && hostDown then d.porError c 10 (m.dstAt b.off)
      else
        let waits := fun (d : Dev) (w : PWait) => (d.setPor c porWait).setPch c (fun x => { x with wait := some w })
        if m.paced && !(d.pch c).claimed then
          if d.lineRoom m.req = 0 then waits (d.putI F.POR_C_STAT_LINE c m.req) (.line m.req)
          else waits ((d.claimLine m.req).setPch c (fun x => { x with claimed := true })) .data
        else waits d .data

/-! ### Instructions end, channels go on -/

/-- An instruction is complete: the program ends, or the channel runs on. -/
def Dev.instrDone (d : Dev) (c : Nat) : Dev :=
  if (d.pch c).last then d.porEnd c 0
  else (d.setPor c porRun).setPch c (fun x => { x with move := none, wait := none, held := false })

/-- An instruction has acted, and the PC moves to `pc` (R548): with `barrier` its writes must arrive first (R561, R566). -/
def Dev.instrEnds (d : Dev) (c pc : Nat) (barrier last : Bool) : Dev :=
  let d := (d.setPorPc c pc).setPch c (fun x => { x with last := last })
  if (barrier || last) && (d.pch c).outstanding then (d.setPor c porRun).setPch c (fun x => { x with wait := some .barrier })
  else d.instrDone c

/-- Every byte written has arrived (R566). -/
def Dev.barrierMet (d : Dev) (c : Nat) : Dev := (d.setPch c (fun x => { x with outstanding := false })).instrDone c

/-- What a channel waits for has come: the burst is issued, or the WAIT is complete (R557, R559). -/
def Dev.waitMet (d : Dev) (c : Nat) : Dev :=
  if (d.pch c).move.isSome then ((d.setPor c porRun).setPch c (fun x => { x with wait := none, claimed := true, held := false })).issueBurst c
  else d.instrEnds c (d.porPc c + 32) false (d.pch c).last

/-- Is what a channel waits for there, and what does taking it do? -/
def Dev.tryWait (d : Dev) (c : Nat) : Option Dev :=
  match (d.pch c).wait with
  | some (.line n) => if d.lineRoom n = 0 then none else some ((d.claimLine n).waitMet c)
  | some (.counter n v) =>
    let k := d.getI F.POR_EVCNT_COUNT n
    if k < v then none else some ((d.putI F.POR_EVCNT_COUNT n (k - v)).waitMet c)
  | some (.time _) => if (d.pch c).held then some (d.waitMet c) else none
  | some .barrier => if (d.pch c).held then some (d.barrierMet c) else none
  | _ => none

/-- A paused channel whose domains are all up goes on, or ends DOMAIN_OFF (R579). -/
def Dev.porResume (d : Dev) (c dom : Nat) : Dev :=
  if !d.onI F.POR_C_CTRL_RESUMABLE c then
    (d.porEnd c 2).post 0x3206 [c, dom, d.remain c]
  else
    let d := (d.setPor c porRun).setPch c (fun x => { x with paused := none })
    match d.tryWait c with
    | some d => d
    | none =>
      match (d.pch c).wait with
      | some .barrier => d
      | some _ => d.setPor c porWait
      | none => if (d.pch c).move.isSome then d.issueBurst c else d

/-- A domain is back (R579): a channel that needs another domain still off stays paused for that one. -/
def Dev.porterPowerBack (d : Dev) (dom : Nat) : Dev :=
  d.each (List.range 32) (fun d c =>
    if d.porState c = porPaused && (d.pch c).paused == some dom then
      match (d.porDomains c).find? (fun x => x != dom && !d.domainUp x) with
      | some o => (d.putI F.POR_C_STAT_DOMAIN c o).setPch c (fun x => { x with paused := some o })
      | none => d.porResume c dom
    else d)

/-- Channels with a host burst in progress end HOST_ERROR (R581, 15 R619). -/
def Dev.porterHostDown (d : Dev) : Dev :=
  d.each (List.range 32) (fun d c =>
    match (d.pch c).move with
    | some m =>
      if (d.pch c).wait == some .data && (m.srcSpace = 1 || m.dstSpace = 1) then
        let b := d.burstOf m (d.remain c)
        d.porError c 10 (if m.srcSpace = 1 then m.srcAt b.off else m.dstAt b.off)
      else d
    | none => d)

/-! ### Instruction words (14 R552 to R562) -/

/-- Word `i` of an instruction. -/
def pw (w : List Nat) (i : Nat) : Nat := at' w i 0

/-- OP and END of an instruction. -/
def pwOp (w : List Nat) : Nat := slice (pw w 0) 28 4
def pwEnd (w : List Nat) : Bool := (pw w 0).testBit 26

/-- Is a bit set that the instruction's layout does not name (R562; log entry 24)? -/
def pwReserved (w : List Nat) : Bool :=
  let op := pwOp w
  let rest := fun k => (w.drop k).any (fun x => x != 0)
  if op = 0 then pw w 0 &&& 0x0300001F != 0 || pw w 1 / 2 ^ 25 != 0 ||
    (if slice (pw w 0) 20 2 = 2 then pw w 5 &&& 0xF8FF0000 != 0 || pw w 7 / 2 ^ 16 != 0 else rest 6)
  else if op = 1 then pw w 0 &&& 0x0B07FFFF != 0 || rest 3
  else if op = 2 then pw w 0 &&& 0x0B3003FF != 0 || rest 2
  else pw w 0 &&& 0x0B01FFFF != 0 || rest 2

/-- Does an instruction break R562 by its words alone (14 R550, R562)? -/
def pwBad (w : List Nat) : Bool :=
  let w0 := pw w 0
  let len := slice (pw w 1) 0 25
  if 3 < pwOp w || pwReserved w then true
  else if pwOp w = 0 then
    1 < slice w0 22 2 || 2 < slice w0 20 2 || 48 ≤ slice w0 14 6 || (slice w0 22 2 = 1 && slice w0 20 2 = 1) || len = 0 || 2 ^ 24 < len
      || (slice w0 20 2 = 2 && (len != 4096 || slice w0 22 2 != 0 || w0.testBit 8))
  else if pwOp w = 1 then slice (pw w 1) 0 16 = 0 || slice (pw w 1) 16 16 = 0
  else if pwOp w = 2 then slice w0 22 2 = 3 || 48 ≤ slice w0 14 6
  else false

end Sys2Proof.Machine
end

