-- ==== Sys2Proof/Machine/LinkOps.lean ====
section
/-! DEFINITION. The named operations of the link that other blocks call (spec/15): leaving L0, reaching it, the wake from L1 and what
waits for the link. -/

namespace Sys2Proof.Machine

/-- Committed contexts whose entries waited for the link, and pending messages, go out (15 R619). -/
def Dev.linkFlush (d : Dev) : Dev := (d.each (d.cmd.ctxs.map (fun (c : Ctx) => c.num)) Dev.tryEntry).sendPending

/-- The link leaves L0 for Detect (15 R619, R68): `cause` as event 0x4002 gives it. -/
def Dev.linkDetect (d : Dev) (cause : Nat) : Dev :=
  let st := d.get F.HIF_LINK_STATE
  if st = linkDetectSt then d
  else
    let d := ((d.put F.HIF_LINK_STATE linkDetectSt).put F.HIF_LINK_WIDTH 0).put F.HIF_LINK_RATE 0
    (((d.put F.HIF_INT_STAT_LINK 1).post 0x4002 [st, cause]).porterHostDown).notice 3

/-- A TLP leaves the device: L1 is left for it (15 R592). -/
def Dev.linkWake (d : Dev) : Dev := if d.get F.HIF_LINK_STATE = linkL1 then d.put F.HIF_LINK_STATE linkL0 else d

/-- The domain's supply is off (02 R78): the host link is gone with HOST, the Mill's torque with MOTION. -/
def Dev.domainOff (d : Dev) (dom : Nat) : Dev :=
  if dom = 9 then
    if d.on F.MOD_STAT_HARVEST then d.linkDetect 2 else (let v := d.fresh; v.2.linkDetect (v.1 % 3))
  else if dom = 2 then d.spindleCoast
  else d

/-- The streams of a CHPn domain abandon their attempts before its islands are gated (09 R366, R364 POWER). -/
def Dev.domainDrain (d : Dev) (dom : Nat) : Dev :=
  if 3 ≤ dom ∧ dom ≤ 6 then (d.abandonAttempt (2 * (dom - 3)) 7).abandonAttempt (2 * (dom - 3) + 1) 7 else d

end Sys2Proof.Machine
end

