-- ==== Sys2Proof/Machine/ModeOps.lean ====
section
/-! DEFINITION. The named operations of the modes (spec/04): changes of mode, the REST entry, the SAFE entry, a firmware activation's
steps, the warm BOOT, and what the device settles after every command. -/

namespace Sys2Proof.Machine

/-- MOD_STAT.MODE (R128). -/
def Mode.code : Mode → Nat
  | .boot => 0
  | .spin => 1
  | .serve => 2
  | .ease => 3
  | .rest => 4
  | .safe => 5

/-- A mode change completes (R134, event 0x0301): `cause` is the event code of what caused it. -/
def Dev.setMode (d : Dev) (m : Mode) (cause : Nat) : Dev :=
  let old := d.mod.mode
  let d := ((d.put F.MOD_CAUSE_EVENT cause).put F.MOD_CAUSE_FROM old.code).put F.MOD_CAUSE_TO m.code
  let d := { (d.put F.MOD_INT_STAT_MODE_CHANGE 1).flag F.DRV_STAT_DISPATCHING (m == .serve) with mod := { d.mod with mode := m } }
  (d.post 0x0301 [old.code, m.code, cause]).notice 0

def Dev.setTransit (d : Dev) (t : Option Transit) : Dev := { d with mod := { d.mod with transit := t } }

def Dev.harvesting (d : Dev) : Bool := d.on F.MOD_STAT_HARVEST

/-- Is an actuator parked, fenced, retracted or not fitted (R143)? -/
def Dev.atRest (d : Dev) (n : Nat) : Bool := !d.actuatorFitted n || [shpParked, shpFenced, shpRetracted].contains (d.shpState n)

def Dev.allAtRest (d : Dev) : Bool := (List.range 4).all d.atRest

/-- Actuators in a state, one bit each. -/
def Dev.actuatorMask (d : Dev) (p : Nat → Bool) : Nat := maskOf ((List.range 4).filter (fun n => d.actuatorFitted n && p (d.shpState n)))

/-! ### SPIN, SERVE, EASE, REST (R134) -/

/-- SPIN is entered: the spindle starts, or the Mill catches it turning; the Miller's target is the effective ceiling (R115; log entry 134). -/
def Dev.goSpin (d : Dev) (cause : Nat) : Dev :=
  let d := (d.setMode .spin cause).newTarget (d.get F.MIL_CEIL_EFFECTIVE) 1
  ({ d with mod := { d.mod with fenceNoted := 0 } }).spindleStart

/-- SERVE is entered from SPIN; the first time in a BOOT is timed (R152, event 0x0302). -/
def Dev.toServe (d : Dev) (cause : Nat) : Dev :=
  let d := ((d.setMode .serve cause).put F.MOD_IDLE_NOW_SECONDS 0).millerServe
  if d.mod.served then d
  else
    let ms := min 65535 d.mod.bootMs
    let d := { d.put F.MOD_SERVE_TIME_MS ms with mod := { d.mod with served := true } }
    d.post 0x0302 [ms, d.get F.MOD_STAT_WARM]

/-- In SPIN: actuators fenced at their third failed acquisition are recorded; with every actuator not fenced acquired, SERVE. -/
def Dev.spinProgress (d : Dev) : Dev :=
  let d := d.each (List.range 4) (fun d n =>
    if d.actuatorFenced n && d.getI F.SHP_STAT_ACQ_FAILS n = 3 && !d.mod.fenceNoted.testBit n then
      { d with mod := { d.mod with fenceNoted := withBit d.mod.fenceNoted n true } }.post 0x030D [n, 3]
    else d)
  let live := (List.range 4).filter (fun n => d.actuatorFitted n && !d.actuatorFenced n)
  if !live.isEmpty && live.all d.servoAcquired then d.toServe 0x1101 else d

/-- EASE is entered: the Miller's target is EASE_RPM; the change lasts until its ramp ends. -/
def Dev.toEase (d : Dev) : Dev :=
  let d := (d.setMode .ease 0).newTarget (d.get F.MOD_EASE_RPM_RPM) 2
  d.setTransit (some { target := .ease, step := 0, cause := 0 })

/-- EASE is left for SERVE: the Miller chooses its speed again (R134). -/
def Dev.easeToServe (d : Dev) (cause : Nat) : Dev :=
  let d := d.setMode .serve cause
  let d := d.millerServe.computeNeed
  (d.newTarget d.candidate 3).setTransit (some { target := .serve, step := 0, cause := cause })

/-- Acknowledged sectors that are not on the medium (R142). -/
def Dev.unwritten (d : Dev) : Nat := (d.drv.wb.filter (fun (w : WriteBack) => 0 < w.order)).length

/-- A sector that may be placed: where it comes from, its LBA, its tile. -/
structure Source where
  kind : MemberKind
  lba : Nat
  tile : Nat
  deriving DecidableEq, Repr

/-- What waits to be placed, in the order of R693. -/
def Dev.sources (d : Dev) : List Source :=
  d.drv.rewrites.map (fun x => ⟨.rewrite, x.1, x.2⟩) ++ d.drv.rebuilt.map (fun x => ⟨.rebuild, x.1, x.2⟩)
    ++ (d.drv.wb.filter (fun (w : WriteBack) => !d.tilePlaced w.tile)).map (fun (w : WriteBack) => ⟨.host, w.lba, w.tile⟩)
    ++ d.drv.moved.map (fun x => ⟨.clean, x.1, x.2⟩)

/-- A run is asked for at once: a quarter of the pool waits, a FLUSH, a FUA WRITE, a rewrite or a rebuilt sector waits, or a REST entry or an
activation drains the data (04 R135; 16 R663). -/
def Dev.runForced (d : Dev) : Bool :=
  d.poolTiles ≤ 4 * d.unwritten
    || d.cmd.ctxs.any (fun (c : Ctx) => c.state == .dispatched && ((c.opcode == opFlush && d.notDurable c.waitOrder != 0) || d.fuaWrite c))
    || !d.drv.rewrites.isEmpty || !d.drv.rebuilt.isEmpty
    || (match d.mod.transit with | some t => t.target == Mode.rest | none => false)
    || d.cmd.act.any (fun (a : Activation) => a.step == 3)

/-- Something waits to be placed. -/
def Dev.waiting (d : Dev) : Bool := !d.sources.isEmpty

/-- Is a run pass due (17 R694): one is placed, or a run would be: forced, or of a whole stripe? -/
def Dev.passDue (d : Dev) : Bool := !d.drv.passes.isEmpty || (d.waiting && (d.runForced || d.titheData ≤ d.sources.length))

/-- The REST entry sequence begins (R135). -/
def Dev.restBegin (d : Dev) (cause : Nat) : Dev := d.setTransit (some { target := .rest, step := 1, cause := cause })

/-- Is every acknowledged write durable (16 R645)? -/
def Dev.allDurable (d : Dev) : Bool := d.unwritten == 0 && d.drv.unprog.isEmpty

/-- Does a READ or VERIFY need the medium: a sector mapped and not in the write-back index, and not LOST (R127)? -/
def Dev.readsMedium (d : Dev) (c : Ctx) : Bool :=
  (List.range c.count).any (fun i => (d.dataIndex (c.lba + i)).isSome && !d.drv.wb.any (fun (w : WriteBack) => w.lba == c.lba + i))

/-- Does a command's work need SERVE: a read from the medium, a write, a FLUSH or an activation with data not durable (R127, R134)? A
WRITE that is neither FUA nor in REST waits for its run. -/
def Dev.needsMedium (d : Dev) (c : Ctx) : Bool :=
  c.active && (
    if c.opcode = opRead || c.opcode = opVerify then d.readsMedium c
    else if c.opcode = opWrite then d.mod.mode != Mode.ease || d.fuaWrite c
    else if c.opcode = opFlush then d.notDurable c.waitOrder != 0
    else c.opcode = opActivate && !d.allDurable)

/-- Medium work or a committed stream asks for SERVE (R134, R151): `cause` 0 for medium work, 0x410A for a stream. -/
def Dev.wakeMode (d : Dev) (cause : Nat) : Dev :=
  if d.harvesting then d
  else
    let d := match d.mod.transit with
      | some t => if t.target == Mode.rest && t.step < 3 && (d.mod.mode == Mode.ease || cause == 0x410A) then d.setTransit none else d
      | none => d
    if (match d.mod.transit with | some t => t.target == Mode.rest | none => false) then
      (if cause = 0x410A then d.setTransit (d.mod.transit.map (fun (t : Transit) => { t with stream := true })) else d)
    else if d.mod.mode = Mode.ease then d.easeToServe cause
    else if d.mod.mode = Mode.rest then d.goSpin cause
    else d

/-- REST is reached: a stream opened meanwhile, or medium work that waited for it, wakes the device again (R134, R151). -/
def Dev.restReached (d : Dev) (cause : Nat) (stream : Bool) : Dev :=
  let d := (d.setTransit none).setMode .rest cause
  if stream then d.goSpin 0x410A
  else if d.cmd.ctxs.any d.needsMedium then d.goSpin 0
  else d

/-- Is data of a WRITE still on its way to the medium: waiting in the Granary, acknowledged or not, or to come from the host (R135)? -/
def Dev.writesOut (d : Dev) : Bool := !d.drv.wb.isEmpty || d.cmd.ctxs.any (fun (c : Ctx) => c.active && c.opcode == opWrite)

/-- The steps of the REST entry (R135): a WRITE that arrives in the first two is written before the third. -/
def Dev.restProgress (d : Dev) (t : Transit) : Dev :=
  let d := if t.step ≤ 2 && !d.writesOut && d.drv.unprog.isEmpty && d.drv.tail.isEmpty then (d.setTransit (some { t with step := 3 })).unloadAll 0
    else if t.step = 1 && !d.writesOut then d.setTransit (some { t with step := 2 })
    else d
  let step := match d.mod.transit with | some u => u.step | none => 0
  let d := if step = 3 && d.allAtRest then (d.setTransit (some { t with step := 4 })).spindleStop 0 else d
  let step := match d.mod.transit with | some u => u.step | none => 0
  if step = 4 && d.milState == milStopped then d.restReached t.cause t.stream else d

/-- A mode change in progress goes on: a ramp to or from EASE ends in STEADY; the REST entry takes its next step. -/
def Dev.transitProgress (d : Dev) : Dev :=
  match d.mod.transit with
  | none => d
  | some t =>
    if t.target = .rest then d.restProgress t
    else if d.miller = 0 && d.milState == milRun then d.setTransit none
    else d

/-! ### BOOT again (R129, R134, R142, R143) -/

/-- The blocks whose registers a warm BOOT keeps: clocks, modes, the link and its windows, the Tally, presence, the Watch, the Day-Book,
the balls (R129; 16 R665). -/
def warmBlocks : List Nat := [0, 2, 14, 15, 17, 19, 20, 21, 23]

/-- Acknowledged data not on the medium is discarded and counted at a BOOT (R142, event 0x030B). -/
def Dev.countDiscarded (d : Dev) (n : Nat) : Dev :=
  let d := { d.put F.MOD_LOST_SECTORS n with mod := { d.mod with lostAtSafe := 0 } }
  if n = 0 then d else d.post 0x030B [n]

/-- The Harvest-started flag is judged at a BOOT (R149, event 0x0308). -/
def Dev.judgeHarvest (d : Dev) : Dev :=
  let bad := d.mod.harvStarted && !d.on F.MOD_HARV_STAT_DONE
  let d := { d with mod := { d.mod with harvStarted := false } }
  if !bad then d
  else
    let v := d.get F.MOD_HARV_STAT_PARKED + 2 ^ 4 * d.get F.MOD_HARV_STAT_TAIL_DONE + 2 ^ 5 * d.get F.MOD_HARV_STAT_RETRACT_USED
      + 2 ^ 7 * d.get F.MOD_HARV_STAT_VALID
    (d.put F.MOD_INT_STAT_HARVEST_INCOMPLETE 1).post 0x0308 [v]

/-- What holds the kill net at a BOOT still holds it: comparators tripped at the ball, preamps, XIN, the supply (11 R434). -/
def Dev.killStanding (d : Dev) : Dev :=
  let d := if d.wch.tripped.testBit 0 then d.killAssert killShkLin else d
  let d := if d.wch.tripped.testBit 1 then d.killAssert killShkRot else d
  let d := if d.wch.preamp != 0 then d.killAssert killPreamp else d
  let d := d.each ((List.range 4).filter (fun n => d.wch.preamp.testBit n)) (fun d n =>
    (d.putI F.SHP_PA_FLT_ACTIVE n 1).setShp n (fun s => { s with paNow := some .fltRead }))
  let d := if d.clk.xinFailed then d.killAssert killXin else d
  if d.mod.pwrfailLow then d.killAssert killSupply else d

/-- A Shepherd after a warm BOOT: at rest, or finishing its park in hardware. -/
def Shp.rebooted (s : Shp) (resting : Bool) : Shp := if resting then {} else { hwPark := true, parkMs := s.parkMs, parkCause := s.parkCause }

/-- Registers of the AON domain that DDR keeps: the retired ranks (12 R455). -/
def Dev.retiredRanks (d : Dev) : List (Nat × Nat) :=
  [0, 1].flatMap (fun sc => ((List.range 3).filter (fun r => d.rankRole sc r == roleRetired)).map (fun r => (sc, r)))

def Dev.keepRetired (d : Dev) (l : List (Nat × Nat)) : Dev := d.each l (fun d x => d.setRank x.1 x.2 roleRetired)

/-- A warm BOOT begins (R129, R134; 16 R665): `cause` 0 FW_ACTIVATE, 1 REBOOT. -/
def Dev.warmBoot (d : Dev) (cause : Nat) : Dev :=
  let old := d.mod.mode
  let lost := if old = .safe then d.mod.lostAtSafe else d.unwritten
  let d := (d.post 0x030C [cause, old.code]).when (d.on F.TAL_STAT_DEBUG) (fun d => d.post 0x500A [1])
  let d := if old = .boot then d else d.setMode .boot 0x030C
  let rpm16 := d.get F.MIL_SPEED_RPM16
  let base := d.get F.MIL_GAS_BASE
  let gas := (d.mil.gasServe, d.mil.gasKey)
  let rectifying := d.milState == milRectify
  let resting := (List.range 4).map d.atRest
  let ranks := d.retiredRanks
  let wch := d.wch
  let keep := d.cmd.ctxs.filter (fun (c : Ctx) => c.state == .committed)
  let d := d.each ((List.range 24).filter (fun b => !warmBlocks.contains b)) Dev.clearBlock
  let d : Dev := {
    regs := d.regs, freeCount := d.freeCount, clk := d.clk,
    mod := { d.mod with
      mode := .boot, bootFrom := some (if old = .boot then (d.mod.bootFrom.getD .boot) else old), transit := none, recovery := false,
      selfTested := false, bootRecorded := false, bootMs := 0, served := false, parkDone := false, fenceNoted := 0 },
    shps := (List.range 4).map (fun n => (at' d.shps n {}).rebooted (at' resting n true)),
    wch := { tripped := wch.tripped, preamp := wch.preamp },
    cmd := { ctxs := keep, accepted := d.cmd.accepted, posted := d.cmd.posted, refusals := d.cmd.refusals, noted := d.cmd.noted },
    drv := { jrn := d.drv.jrn },
    cfg := { flash := d.cfg.flash, flashReset := d.cfg.flashReset, flashReady := d.cfg.flashReady },
    wat := { d.wat with escalated := [], armed := List.replicate 4 false, l1Errors := List.replicate 4 0, safeDue := none },
    dbk := d.dbk, pins := { d.pins with retractLow := false }, hostMem := d.hostMem, hif := d.hif, prs := { d.prs with lfsr := 0xACE1 },
    mil := { gasServe := gas.1, gasKey := gas.2 }
    tal := { entries := d.tal.entries, pending := d.tal.pending, mirror := d.tal.mirror, lacking := d.tal.lacking } }
  let d := (d.put F.MIL_GAS_BASE base).put F.MIL_SPEED_RPM16 rpm16
  let d := (d.put F.MIL_STAT_STATE (if rectifying then milRectify else milCoast)).keepRetired ranks
  let d := d.each (List.range 4) (fun d n => if at' resting n true then d else d.putI F.SHP_STAT_STATE n shpUnloading)
  let d := (((d.put F.MOD_STAT_WARM 1).put F.MOD_SELFTEST_DONE 0).put F.MOD_SELFTEST_SPARED 0).put F.MOD_SELFTEST_FAIL 0
  let d := (((d.put F.MOD_IDLE_NOW_SECONDS 0).put F.WAT_STAT_SAFE 0).put F.WAT_CORES_FENCED 0).put F.TAL_STAT_DEBUG 0
  let d := d.put F.TAL_STAT_BUSY 0
  let d := d.put F.DRV_CONTEXTS_IN_USE keep.length
  ((d.killStanding).judgeHarvest).countDiscarded lost

/-- The reload of a recovery hold begins (03 R122; 16 R666): the load starts again at step 1 of R102, in the same BOOT. The image checked is
spent, and the boot record of what this load brings is due (18 R735). -/
def Dev.holdReload (d : Dev) : Dev :=
  let d := [F.CFG_STAT_PHASE, F.CFG_STAT_SLOT, F.CFG_STAT_FALLBACK, F.CFG_STAT_FLASH_SLOW, F.CFG_SLOT_A_ERR_CODE, F.CFG_SLOT_A_ERR_SECTION,
    F.CFG_SLOT_A_ERR_TYPE, F.CFG_SLOT_B_ERR_CODE, F.CFG_SLOT_B_ERR_SECTION, F.CFG_SLOT_B_ERR_TYPE].foldl (fun d f => d.put f 0) d
  { d with mod := { d.mod with recovery := false, bootRecorded := false },
           cmd := { d.cmd with act := none, checked := false, series := false } }

/-! ### SAFE (R140 to R142) -/

/-- Opcodes that SAFE does not end: those of 03 R113 but an FW_ACTIVATE before its selector is rewritten (16 R639). -/
def Dev.safeSpares (d : Dev) (c : Ctx) : Bool :=
  [opIdentify, opLogRead, opResync, opAttest, opDownload].contains c.opcode
    || (c.opcode == opActivate && d.cmd.act.any (fun (a : Activation) => a.ctx == c.num && 5 ≤ a.step))

/-- SAFE entry (R141): `code` is the cause the Watch passes. -/
def Dev.safeEntry (d : Dev) (code : Nat) : Dev :=
  let old := d.mod.mode
  let d := { d with wat := { d.wat with safeDue := none } }
  if d.harvesting || d.on F.WAT_STAT_SAFE then d
  else
    let d := (d.put F.WAT_STAT_SAFE 1).killAssert killSafe
    let d := { d with mod := { d.mod with transit := none, lostAtSafe := d.unwritten, parkDone := false, recovery := false } }
    let d := (d.put F.MOD_INT_STAT_SAFE 1).post 0x0305 [code, old.code]
    let d := (d.setMode .safe code).notice 1
    let d := (List.range 9).foldl (fun d q => d.setSlots q []) d
    let d := ((d.setJobs []).setSets []).setRecov []
    let d := { d with det := { d.det with waiting := [] } }
    let d := (d.retractDue 0).unloadAll 1
    let d := { d with drv := { d.drv with pieces := [], passes := [], surf := none } }
    let d := d.each (List.range 4) Dev.showAct
    let early := d.cmd.act.any (fun (a : Activation) => a.step < 5)
    let d := d.each (d.cmd.ctxs.filter (fun (c : Ctx) => c.active && !d.safeSpares c)) (fun d (c : Ctx) => d.commit c.num stAbortedSafe 0 0)
    if early then { d with cmd := { d.cmd with act := none } }.setPause false else d

/-- SAFE goes on: with every actuator at rest the retracts are recorded and the spindle stops (R141 step 5, event 0x0309). -/
def Dev.safeProgress (d : Dev) : Dev :=
  if d.mod.parkDone || !d.allAtRest then d
  else
    let d := { d with mod := { d.mod with parkDone := true } }
    let m := d.actuatorMask (fun st => st == shpRetracted)
    (if m = 0 then d else d.post 0x0309 [m, 0]).spindleStop 1

/-- A committed Harvest goes on: the retracts are recorded once every actuator is at rest (R148 step 8, R149, event 0x0309). -/
def Dev.harvestProgress (d : Dev) : Dev :=
  if d.mod.parkDone || !d.allAtRest then d
  else
    let d := { d with mod := { d.mod with parkDone := true } }
    let m := d.actuatorMask (fun st => st == shpRetracted)
    if m = 0 then d else d.post 0x0309 [m, 1]

/-! ### A firmware activation (16 R663, R666) -/

/-- A run of the flash is erased and programmed (03 R90). -/
def Dev.flashWrite (d : Dev) (r : FlashRun) : Dev :=
  { d with cfg := { d.cfg with flash := r :: d.cfg.flash.filter (fun (x : FlashRun) => x.off != r.off) } }

/-- A selector's bytes (03 R91). -/
def Selector.bytes (s : Selector) : List Nat :=
  let b := leBytes 4 0x4C535647 ++ leBytes 4 s.seq ++ [s.active, 0, 0, 0]
    ++ [s.slotA, s.slotB, s.slotSize, s.jOff, s.jSize, s.tOff, s.tSize].flatMap (leBytes 4)
  b ++ leBytes 8 (crc64 b)

/-- A selector that names the other slot is written into the copy not in use (03 R94); the copy that the boot ROM used stays. -/
def Dev.rewriteSelector (d : Dev) : Dev :=
  match d.cfg.sel with
  | none => d
  | some x =>
    let y := { x with copy := 1 - x.copy, seq := (x.seq + 1) % 2 ^ 32, active := 1 - x.active }
    { d with cfg := { d.cfg with sel := some y } }.flashWrite ⟨4096 * y.copy, 4096, y.bytes⟩

def Dev.setAct (d : Dev) (a : Activation) : Dev := { d with cmd := { d.cmd with act := some a } }

/-- Step 4 and step 5: the selector, then the completion. The image checked is then spent. -/
def Dev.activationSwitch (d : Dev) (a : Activation) : Dev :=
  let d := if d.cmd.checked then d.rewriteSelector else d
  let slot := (d.cfg.sel.map (fun (x : Selector) => x.active)).getD 0
  (d.setAct { a with step := 5 }).commit a.ctx stOk a.ended slot

/-- Steps 2 and 3: every other context committed, every acknowledged write durable. -/
def Dev.activationDrain (d : Dev) (a : Activation) : Dev :=
  if a.step = 2 && !d.cmd.ctxs.any (fun (c : Ctx) => c.active && c.num != a.ctx) then
    (d.setAct { a with step := 3 }).when (!d.allDurable) (fun d => d.wakeMode 0)
  else d

/-- Steps 5 to 7: the entry written, the heads unloaded, the warm BOOT; in recovery hold, the reload. -/
def Dev.activationEnd (d : Dev) (a : Activation) : Dev :=
  let d := if a.step = 5 && (d.ctx a.ctx).isNone then
      (d.setAct { a with step := 7 }).when (!a.short) (fun d => d.unloadAll 6)
    else d
  if d.cmd.act.any (fun (b : Activation) => b.step == 7) && (a.short || d.allAtRest) then (if d.mod.recovery then d.holdReload else d.warmBoot 0) else d

/-- An activation under way takes the steps it can. -/
def Dev.activationProgress (d : Dev) : Dev :=
  match d.cmd.act with
  | none => d
  | some a =>
    let d := d.activationDrain a
    match d.cmd.act with
    | none => d
    | some a =>
      let d := if a.step = 3 && d.allDurable then d.activationSwitch a else d
      match d.cmd.act with
      | none => d
      | some a => d.activationEnd a

/-! ### What settles after every command -/

/-- Events held in the ports (19 R814, WAT_STAT.PENDING). -/
def Dev.eventsHeld (d : Dev) : Nat := (d.wat.ports.map (fun (p : Port) => p.ordinary.length + p.faults.length)).sum

/-- FAULT_N is low: the pulse, a register fault, the holds of spec/02, or the level that software drives (19 R783 to R789). -/
def Dev.faultnLow (d : Dev) : Bool :=
  d.on F.WAT_STAT_PULSE || d.on F.WAT_STAT_REG_FAULT || d.clk.faultLow || (d.wat.driven && !d.on F.WAT_FAULTN_LEVEL)

/-- GLOBAL_CAP in force (10 R396). -/
def Dev.globalCap (d : Dev) : Nat :=
  if d.appliedStep = 0 then d.policy 0x2103 8 else min (d.policy 0x2103 8) (d.policy 0x2104 3)

/-- The status fields that follow what stands elsewhere in the device: the mode (04 R128), a change in progress (R134), the parks of a
Harvest (R148 step 8), the iteration cap and the step seen (10 R396), the events held and FAULT_N (19 R814), the Drover's hold (17 R700). No
SAFE decision is left untaken. -/
def Dev.showStatus (d : Dev) : Dev :=
  let d := { d with wat := { d.wat with safeDue := none } }
  let d := (d.put F.MOD_STAT_MODE d.mod.mode.code).flag F.MOD_STAT_TRANSIT d.mod.transit.isSome
  let d := (d.put F.DET_CAP_GLOBAL_CAP d.globalCap).put F.DET_CAP_STEP d.appliedStep
  let d := (d.put F.WAT_STAT_PENDING (min 255 d.eventsHeld)).flag F.WAT_STAT_FAULTN_LOW d.faultnLow
  let d := d.put F.DRV_STAT_SPEED_HOLD (d.get F.MIL_STAT_WRITE_HOLD)
  let d := { d with hif := { d.hif with ltrUs := if d.mod.mode = Mode.rest then 3000 else 100 } }
  if d.harvesting then
    (d.put F.MOD_HARV_STAT_PARKED (d.actuatorMask (fun st => st == shpParked || st == shpFenced))).flag F.MOD_HARV_STAT_RETRACT_USED d.pins.retractLow
  else d

/-- A SAFE decision that is due is taken (19 R774). -/
def Dev.takeSafe (d : Dev) : Dev :=
  match d.wat.safeDue with
  | some x => d.safeEntry x.1
  | none => d

/-- A piece filed asks for dispatch in EASE and is medium work queued in REST; a run pass due asks for dispatch in EASE (R127, R134; 17 R691,
R694). -/
def Dev.wakeCheck (d : Dev) : Dev :=
  let filed := d.drv.pieces.any (fun (p : Piece) => p.hold.isNone && !d.actuatorDown p.act)
  match d.mod.transit, d.mod.mode with
  | some ⟨.rest, _, _, _⟩, _ => d
  | _, .ease => if filed || d.passDue then d.wakeMode 0 else d
  | _, .rest => if filed then d.wakeMode 0 else d
  | _, _ => d

/-- What is in progress goes on: work of actuators that are down is rerouted, a change of mode and an activation take their next steps, SPIN
passes to SERVE, SAFE stops the spindle. -/
def Dev.advance (d : Dev) : Dev :=
  let d := (((d.nameWaiting.flushProgress).rerouteLost.wakeCheck).transitProgress).activationProgress
  match d.mod.mode with
  | .spin => d.spinProgress
  | .safe => d.safeProgress
  | _ => d

/-- What the device does once a command has acted. A committed Harvest takes no SAFE decision and starts nothing (04 R151; 19 R777);
with the islands outside AON stopped nothing goes on but the Watch's decision (02 R82). -/
def Dev.settle (d : Dev) : Dev :=
  if d.clk.stopped then (if d.harvesting then d else d.takeSafe).showStatus
  else if d.harvesting then d.harvestProgress.showStatus else ((d.takeSafe.advance).takeSafe).showStatus

end Sys2Proof.Machine
end

