-- ==== Sys2Proof/Machine/Ops.lean ====
section
/-! DEFINITION. How a command's effect becomes a step's outcome, and the operations that join the medium's side to the Drover's: scrubs, write
passes, surfaces retired, the microcode's restart. -/

namespace Sys2Proof.Machine

/-- What `exec` answers. -/
abbrev Out := Host.Outcome State Fault Refusal

/-- A command acts on the device, which then settles. -/
def State.run (s : State) (f : Dev → Dev) : Out := .next { s with toDev := (f s.toDev).settle }

/-- The place of a port part of island 0x06 or 0x08 in `Clk.parts` (02 R882). -/
def partPlace (i part : Nat) : Nat := (if i = 0x06 then 0 else 4) + part

/-- Does an island run: its domain is on, it is not gated, and the islands outside AON are not stopped (02 R72, R78, R82)? -/
def Dev.live (d : Dev) (isl : Nat) : Bool :=
  aonIsland isl || (d.powered (islandDomain isl) && !d.onI F.CLK_ISL_STAT_GATED isl && !d.clk.stopped)

/-- Does port part `n` of RCH or WCH run (02 R882)? -/
def Dev.livePort (d : Dev) (isl n : Nat) : Bool := d.powered (3 + n) && !at' d.clk.parts (partPlace isl n) false && !d.clk.stopped

/-- A command of an island: nothing happens there while the island does not run. -/
def State.runIsland (s : State) (isl : Nat) (f : Dev → Dev) : Out := s.run (fun d => if d.live isl then f d else d)

/-- A command of a port part of RCH or WCH. -/
def State.runPort (s : State) (isl n : Nat) (f : Dev → Dev) : Out := s.run (fun d => if d.livePort isl n then f d else d)

/-- A command of logic outside AON that no one island holds: none acts while those islands are stopped (02 R82). -/
def State.runCore (s : State) (f : Dev → Dev) : Out := s.run (fun d => if d.clk.stopped then d else f d)

/-- A register write of a Reeve core in a domain: the register shell takes it whether or not the island is gated (02 R74, R81); no core runs
while the islands are stopped (R82). -/
def State.runWrite (s : State) (dom : Nat) (f : Dev → Dev) : Out := s.runCore (fun d => d.inPower dom f)

/-- The stripe and member of a physical sector with its place (17 R676 to R679); none where no slot lies there. -/
def Dev.placeMember (d : Dev) (head track idx : Nat) : Option (Spot × Nat × Nat) :=
  let z := d.zoneOf track
  let e := d.zone z
  let i := (track - e.first) / max 1 d.bandTracks
  let n := ((List.range z).map d.zoneBands).sum + i
  let u := d.unitOf z i
  let p := (track - u.first) * e.spt + idx
  let b := d.band n
  let l := d.surfaceList b.surfaces
  let defs := (b.used.filter (fun x => x.1 == head)).map (fun x => x.2)
  let slot := p - (defs.filter (fun x => x < p)).length
  let q := slot * l.length + l.findIdx (fun h => h == head)
  let k := q / (d.titheData + 1)
  if !l.contains head || defs.contains p || d.positions u ≤ slot || b.stripes ≤ k then none
  else some (⟨n, head, track, idx, p⟩, d.firstStripe n + k, q % (d.titheData + 1))

/-- Does a stripe hold a sector that the map names? -/
def Dev.stripeNamed (d : Dev) (stripe : Nat) : Bool :=
  (List.range d.titheData).any (fun m => (d.indexLba (stripe * d.titheData + m)).isSome)

/-- The sectors of a track that hold part of the data regions `regions`, by index (10 R377). -/
def Dev.sectorsIn (d : Dev) (track : Nat) (regions : List Nat) : List Nat :=
  let z := d.zone (d.zoneOf track)
  let w := d.wedges
  let st := sectorStarts z w
  (List.range st.length).filter (fun i =>
    let s := at' st i (0, 0)
    match layoutSkip (w + 1) (dataRegionBits z) w s.1 s.2 (160 + codeBits z.code + 32) with
    | some e => regions.any (fun r => s.1 ≤ r && r ≤ e.1)
    | none => false)

/-- The scrub read of 11 R441 on the tracks beside `track`, over the last `span` wedge intervals: of the sectors that hold data. -/
def Dev.scrubRequest (d : Dev) (s track span : Nat) : Dev :=
  let head := d.headNum (s / 2) (s % 2)
  let w := max 1 d.wedges
  let now := d.getI F.SHP_WEDGE_WEDGE (s / 2)
  let regions := (List.range (min span w)).map (fun i => (now + 2 * w - 1 - i) % w)
  let tracks := (if 0 < track then [track - 1] else []) ++ (if track + 1 < d.tracks then [track + 1] else [])
  d.each tracks (fun d t =>
    let l := (d.sectorsIn t regions).filterMap (fun i =>
      match d.placeMember head t i with
      | none => none
      | some (p, stripe, m) =>
        if m = d.titheData then (if d.stripeNamed stripe then some (p, d.memberSec stripe m p) else none)
        else if (d.indexLba (stripe * d.titheData + m)).isSome then some (p, d.memberSec stripe m p)
        else none)
    d.fileReads { kind := .scrub } 0 0 none l)

/-- Head, zone, precompensation and assist of a write pass (11 R426, R428, R432, R433). -/
def Dev.writeZone (d : Dev) (s head track : Nat) : Dev :=
  let z := d.zoneOf track
  let b := match d.headRecord head 0x300 with
    | some b => (b.drop (4 + 8 * z)).take 8
    | none => [0, 0, 0, 0, 2, 2, 0, 0]
  let g := fun i => at' b i 0
  let d := ((d.putI F.WCH_W_ZONE_HEAD s head).putI F.WCH_W_ZONE_ZONE_LO s (z % 16)).putI F.WCH_W_ZONE_ZONE_HI s (z / 16)
  let d := ((d.putI F.WCH_W_ZONE_PC_0 s (g 0)).putI F.WCH_W_ZONE_PC_1 s (g 1)).putI F.WCH_W_ZONE_PC_2 s (g 2)
  let d := ((d.putI F.WCH_W_ASSIST_PC_3 s (g 3)).putI F.WCH_W_ASSIST_WA_LEAD s (g 4)).putI F.WCH_W_ASSIST_WA_LAG s (g 5)
  d.putI F.LPE_L_OUT_OPEN_OUT (15 + s) (d.lasOpen head z)

/-- READY of 17 R690: the channel of a stream has settled, and its piece's data path may start. -/
def Dev.pieceReady (d : Dev) (s : Nat) : Dev :=
  match d.heldPiece s with
  | none => d
  | some p =>
    if p.stage = .filed || p.stage = .offered then d
    else
      let d := d.mapPiece p.id (fun q => { q with stage := .ready })
      if p.why.kind = .writePass then d.writeZone s p.head p.track else d

/-- A surface is retired (17 R718, R31; event 0x4207): `cause` 0 preamp, 1 head. Its rebuild starts, or waits for the one under way. -/
def Dev.surfaceRetire (d : Dev) (h cause : Nat) : Dev :=
  if d.surfaceRetired h then d
  else
    let d := (d.setBit F.GRN_TITHE_RETIRED_VALUE h true).put F.GRN_INT_STAT_SURFACE 1
    let d := (d.journal recSurface (leBytes 4 (d.get F.GRN_TITHE_RETIRED_VALUE))).put F.DRV_INT_STAT_SURFACE 1
    let d := d.post 0x4207 [h, cause]
    if d.drv.surf.isSome then { d with drv := { d.drv with surfQueue := d.drv.surfQueue ++ [h] } }
    else
      let d := ((d.put F.GRN_TITHE_REBUILDING 1).put F.GRN_TITHE_SURFACE h).put F.GRN_TITHE_PERMILLE 0
      { d with drv := { d.drv with surf := some ⟨h, 0, 0, 0⟩ } }

/-- The microcode starts from address 0 with its registers at zero (07 R267, R285, R293, event 0x1201). -/
def Dev.restartMicro (d : Dev) (n : Nat) : Dev :=
  let z : Uc := {}
  let d := d.setUc n (fun u => { u with run := true, latch := 0, stack := [], frames := [], waiting := false, holdRun := 0, reloaded := false,
                                        s := z.s, sBank := z.sBank, lc := z.lc, lc3 := z.lc3, z := false, n := false, v := false })
  let d := ((d.putI F.SHP_UC_PC_MICRO n 0).putI F.SHP_UC_STAT_LOADED n 1).putI F.SHP_UC_STAT_TRAP_DEPTH n 0
  d.post 0x1201 [n, leAt (d.sect 0x40 n) 2 2, leAt (d.sect 0x40 n) 4 2]

def Dev.anyWriting (d : Dev) : Bool := (List.range 8).any d.gateOn

end Sys2Proof.Machine
end

