-- ==== Sys2Proof/Machine/Servo.lean ====
section
/-! DEFINITION. The Shepherds (spec/06): wedges and positions, acquisition, seeks and settling, the dual-stage law, reach and
pairing, parks and fences, the preamp serial port. -/

namespace Sys2Proof.Machine

/-! ### From samples to a position -/

/-- What a lane shows of a wedge (06 R211, R213): whether its SAM is there, the 11-bit index and number, the Gray code, the RRO field, the amplitudes
of the four bursts. -/
structure WedgeHead where
  sam : Bool
  number : Nat
  gray : Nat
  rro : Nat
  a : Nat
  b : Nat
  c : Nat
  e : Nat
  deriving DecidableEq, Repr

/-- A field of `n` servo bits from bit `at0` on, most significant bit first, a bit being the sign of its sample. -/
def plainField (s : List Int) (at0 n : Nat) : Nat :=
  (List.range n).foldl (fun a i => 2 * a + (decide (0 < at' s (at0 + i) 0)).toNat) 0

/-- A dibit-encoded field of `n` bits from servo bit `at0` on, most significant bit first: 0b10 is 1, 0b01 is 0 (06 R211). -/
def dibitField (s : List Int) (at0 n : Nat) : Nat :=
  (List.range n).foldl (fun a i => 2 * a + (decide (at' s (at0 + 2 * i + 1) 0 < at' s (at0 + 2 * i) 0)).toNat) 0

/-- The burst amplitude of 06 R213: 24 samples that start 4 servo bits after the burst's first at `at0`. -/
def burstAmplitude (s : List Int) (at0 : Nat) : Nat :=
  let g := fun i => at' s (at0 + 4 + i) 0
  let i := (List.range 6).foldl (fun a m => a + (g (4 * m) - g (4 * m + 2))) (0 : Int)
  let q := (List.range 6).foldl (fun a m => a + (g (4 * m + 1) - g (4 * m + 3))) (0 : Int)
  sqrtRound (i * i + q * q).toNat

/-- The fields of a wedge on a lane, in the order of 06 R211: preamble 64 servo bits, SAM 16, index and number 22, track 48, RRO 24, bursts A to D of
32 each, gap 18. -/
def wedgeHead (s : List Int) : WedgeHead :=
  { sam := plainField s 64 16 == 0x0B39, number := dibitField s 80 11, gray := dibitField s 102 24, rro := dibitField s 150 12,
    a := burstAmplitude s 174, b := burstAmplitude s 206, c := burstAmplitude s 238, e := burstAmplitude s 270 }

/-- The number a Gray code of `n` bits stands for. -/
def grayDecode : Nat → Nat → Nat
  | 0, _ => 0
  | n + 1, v => v ^^^ grayDecode n (v / 2)

/-- The RRO correction and whether its odd parity holds (06 R211). -/
def rroCorrection (v : Nat) : Int × Bool :=
  let ok := popCount 12 v % 2 = 1
  (if ok then toSigned 11 (v / 2) else 0, ok)

/-- The fraction f of 06 R214; none where its quotient has a zero divisor, which the spec gives no value for. -/
def burstFraction (kn kq a b c e : Nat) : Option Int :=
  let dn : Int := (a : Int) - b
  let dq : Int := (c : Int) - e
  if a + b = 0 ∨ c + e = 0 then none
  else if dn.natAbs * (c + e) ≤ dq.natAbs * (a + b) then some (roundAway ((kn : Int) * dn) (a + b : Nat))
  else some ((if b ≤ a then 128 else -128) + roundAway ((kq : Int) * dq) (c + e : Nat))

/-- The head position of 06 R214 from a decoded track, f and c. -/
def positionOf (track : Nat) (f c : Int) : Int :=
  let p : Int × Int := if 128 < f then ((track : Int) + 1, f - 256) else if f < -128 then ((track : Int) - 1, f + 256) else ((track : Int), f)
  p.1 * 256 + p.2 + c

/-- A head's position in this wedge; the position is a free value where R214 divides by zero (log entry 5). -/
def Dev.demodulate (d : Dev) (n k : Nat) (w : WedgeHead) : Int × Dev :=
  let g := d.geometry (d.headNum n k)
  let c := rroCorrection w.rro
  let d := if c.2 then d else d.post 0x1104 [n, d.headNum n k, d.getI F.SHP_WEDGE_WEDGE n]
  let t := grayDecode 24 w.gray
  match burstFraction g.kn g.kq w.a w.b w.c w.e with
  | some f => (d.signedTrack (ofSigned 32 (positionOf t f c.1)), d)
  | none => let v := d.fresh; (((v.1 % 2 ^ 32 : Nat) : Int), v.2)

/-- The position predicted from the last two valid wedges (06 R215). -/
def ShpChan.predicted (c : ShpChan) : Option Int := if 2 ≤ c.known then some (2 * c.p1 - c.p2) else none

/-- Is the decoded track, at `t` in 1/256 track, more than one track from the prediction (06 R215)? -/
def trackAstray (c : ShpChan) (t : Int) : Bool :=
  match c.predicted with
  | none => false
  | some q => 256 < (t - q).natAbs

/-- The position error register value of 06 R216. -/
def pesOf (target p : Int) : Int := clampSigned 16 (target - p)

def Dev.target (d : Dev) (n k : Nat) : Nat := d.getI F.SHP_TARGET_TRACK (2 * n + k) * 256 + d.getI F.SHP_TARGET_FRAC (2 * n + k)

def Dev.setTarget (d : Dev) (n k v : Nat) : Dev :=
  (d.putI F.SHP_TARGET_TRACK (2 * n + k) (v / 256)).putI F.SHP_TARGET_FRAC (2 * n + k) (v % 256)

/-- A channel's target, in 1/256 track. -/
def Dev.targetAt (d : Dev) (n k : Nat) : Int := d.signedTrack (d.target n k)

def Dev.setPosn (d : Dev) (n k : Nat) (p : Int) : Dev :=
  let v := ofSigned 32 p
  (d.putI F.SHP_POS_TRACK (2 * n + k) (v / 256)).putI F.SHP_POS_FRAC (2 * n + k) (v % 256)

def Dev.pes (d : Dev) (n k : Nat) : Int :=
  toSigned 16 (if k = 0 then d.getI F.SHP_PES_PES0 n else d.getI F.SHP_PES_PES1 n)

def Dev.setPes (d : Dev) (n k : Nat) (v : Int) : Dev :=
  if k = 0 then d.putI F.SHP_PES_PES0 n (ofSigned 16 v) else d.putI F.SHP_PES_PES1 n (ofSigned 16 v)

/-- The write-fault limit of the head on a channel. -/
def Dev.wfl (d : Dev) (n k : Nat) : Nat := (d.geometry (d.headNum n k)).wfl

/-! ### The dual-stage law -/

/-- A compensator coefficient at a spindle speed (06 R227): linear between the LO set at FLOOR and the HI set at CEILING. -/
def coefAt (lo hi : Int) (rpm16 floor ceil : Nat) : Int :=
  if rpm16 ≤ floor * 16 ∨ ceil ≤ floor then lo
  else if ceil * 16 ≤ rpm16 then hi
  else lo + (hi - lo) * ((rpm16 : Int) - (floor * 16 : Nat)) / ((ceil - floor) * 16 : Nat)

/-- One biquad (log entry 23): coefficients b0, b1, b2, a1, a2 in 29 fraction bits; past inputs and outputs. -/
def biquad (c : List Int) (z : List Int) (x : Int) : Int × List Int :=
  let g := fun i => at' c i 0
  let s := fun i => at' z i 0
  let y := clampSigned 32 (roundAway (g 0 * x + g 1 * s 0 + g 2 * s 1 - g 3 * s 2 - g 4 * s 3) (2 ^ 29 : Nat))
  (y, [x, s 0, y, s 2])

/-- A cascade of biquads, coefficients five by five, states four by four. -/
def cascade : Nat → List Int → List Int → Int → Int × List Int
  | 0, _, _, x => (x, [])
  | n + 1, c, z, x =>
    let r := biquad (c.take 5) (z.take 4) x
    let t := cascade n (c.drop 5) (z.drop 4) r.1
    (t.1, r.2 ++ t.2)

/-- The coefficients of a seek section's compensator at the speed of the last revolution: `n` words from two offsets. -/
def Dev.compensator (d : Dev) (a n hi lo : Nat) : List Int :=
  let b := d.seekSect a
  (List.range n).map (fun i => coefAt (sleAt b (lo + 4 * i) 4) (sleAt b (hi + 4 * i) 4) (d.shp a).revRpm16
    (d.get F.MIL_LIMITS_FLOOR) (d.get F.MIL_LIMITS_CEILING))

/-- reach of channel `k`'s head as published, 1/256 track (06 R231). -/
def Dev.reach256 (d : Dev) (n k : Nat) : Int :=
  ((if k = 0 then d.getI F.SHP_REACH_REACH0 n else d.getI F.SHP_REACH_REACH1 n) * 256 : Nat)

/-- The microactuator displacement of 06 R226 for one channel. -/
def Dev.maStep (d : Dev) (n k : Nat) : Dev :=
  let c := d.shpCh n k
  let r := cascade 2 (d.compensator n 10 0xC0 0xE8) c.biquads (d.pes n k)
  let y := clampInt (-(d.reach256 n k)) (d.reach256 n k) (c.bias + r.1)
  let g := d.maGain (d.headNum n k)
  let code := if g = 0 then 0 else clampInt (-8192) 8191 (roundAway (y * 8191) (g : Nat))
  d.setCh n k (fun c => { c with y := y, maPrev := c.maOut, maOut := code, biquads := r.2 })

/-- The code at MAn_OUT[k] at servo bit `t` of the present wedge interval (06 R226): it moves linearly from its previous value over the first
quarter of the interval's 2,304 bits. -/
def Dev.maCode (d : Dev) (n k t : Nat) : Int :=
  let c := d.shpCh n k
  if 576 ≤ t then c.maOut else c.maPrev + (c.maOut - c.maPrev) * (t : Int) / 576

/-- rv_ff of 06 R237, mA. -/
def Dev.rvFeed (d : Dev) (n : Nat) : Int :=
  if d.onI F.SHP_CTRL_RVFF_EN n then
    roundAway ((List.range 8).foldl (fun a j => a + sleAt (d.seekSect n) (0x10 + 2 * j) 2 * at' (d.shp n).rv j 0) 0) (2 ^ 14 : Nat)
  else 0

/-- The dual-stage law of 06 R226 at a wedge: the microactuators, then the VCM on the mean of the errors left to it. -/
def Dev.dualStage (d : Dev) (n : Nat) : Dev :=
  let ks := d.activeCh n
  let ev := ks.foldl (fun a k => a + d.pes n k + (d.shpCh n k).y) (0 : Int)
  let e := ev / (ks.length : Nat)
  let d := d.each ks (fun d k => d.maStep n k)
  let r := cascade 4 (d.compensator n 20 0x20 0x70) (d.shp n).vcmBiquads e
  d.setShp n (fun s => { s with vcmBiquads := r.2, iRef := r.1 + d.rvFeed n })

/-- Velocity mode of 06 R224: v_ref from the remaining distance `x` in 1/256 track, with its sign; the microactuators rest at zero. The law that drives
the measured velocity toward v_ref is a free value: the spec gives none (log entry 5). -/
def Dev.velocityMode (d : Dev) (n k : Nat) (x : Int) : Dev :=
  let b := d.seekSect n
  let v : Int := (min (leAt b 8 4) (sqrtRound (2 * leAt b 12 4 * x.natAbs / 256)) : Nat)
  let v := if x < 0 then -v else v
  let d := d.each [0, 1] (fun d k => d.setCh n k (fun c => { c with y := 0, maPrev := c.maOut, maOut := 0 }))
  d.setShp n (fun s => { s with vRef := v, iRef := clampSigned 16 (Config.velocityCurrent v (d.shpCh n k).vel) })

/-! ### Reach and pairing -/

/-- |d| of 06 R226 in 1/256 track. -/
def Dev.pairDistance (d : Dev) (n : Nat) : Nat :=
  let t := fun k => d.targetAt n k - d.headOffset (d.headNum n k) (d.zoneOf (trackIn (d.targetAt n k)))
  (t 0 - t 1).natAbs

/-- The biases of 06 R226; zero for a single active head. -/
def Dev.setBias (d : Dev) (n : Nat) : Dev :=
  if !d.onI F.SHP_STAT_PAIRED n then d.each [0, 1] (fun d k => d.setCh n k (fun c => { c with bias := 0 }))
  else
    let t := fun k => d.targetAt n k - d.headOffset (d.headNum n k) (d.zoneOf (trackIn (d.targetAt n k)))
    let dd := t 0 - t 1
    let g := d.getI F.SHP_REACH_GUARD n
    let ma := d.getI F.SHP_REACH_REACH0 n - g
    let mb := d.getI F.SHP_REACH_REACH1 n - g
    if ma + mb = 0 then d
    else
      let ba := dd * (ma : Int) / (ma + mb : Nat)
      (d.setCh n 0 (fun c => { c with bias := ba })).setCh n 1 (fun c => { c with bias := ba - dd })

/-- A pair whose |d| passes the published pairing reach is broken (06 R253): channel 1 gives the rest back. -/
def Dev.pairCheck (d : Dev) (n : Nat) : Dev :=
  if d.onI F.SHP_STAT_PAIRED n && d.getI F.SHP_REACH_PAIR n * 256 < d.pairDistance n then
    let d := d.post 0x1108 [n, ceilDiv (d.pairDistance n) 256, d.getI F.SHP_REACH_PAIR n, d.getI F.SHP_TEMP_TEMP n]
    let d := (d.putI F.SHP_STAT_PAIRED n 0).putI F.SHP_INT_STAT_PAIR_BROKEN n 1
    ((d.setShp n (fun s => { s with paired := false })).pieceReturn (2 * n + 1)).setBias n
  else d.setBias n

/-- SHP_REACH at a temperature (06 R230, R231), with the pair judged again. -/
def Dev.publishReach (d : Dev) (n : Nat) (theta : Option Int) : Dev :=
  let h0 := d.headNum n 0
  let h1 := d.headNum n 1
  let g := max (d.headGuard h0) (d.headGuard h1)
  let r0 := d.headReach h0 theta
  let r1 := d.headReach h1 theta
  let pair := if g ≤ r0 ∧ g ≤ r1 then (r0 - g) + (r1 - g) else 0
  let d := (d.putI F.SHP_REACH_REACH0 n r0).putI F.SHP_REACH_REACH1 n r1
  let d := (d.putI F.SHP_REACH_PAIR n pair).putI F.SHP_REACH_GUARD n g
  (d.latchTrap n 6).pairCheck n

/-- The temperature of 06 R229 from a preamp reading; none for a failed read. -/
def Dev.chooseTheta (d : Dev) (n : Nat) (reading : Option Int) : Nat × Option Int :=
  match reading with
  | some t =>
    if d.powered (3 + n) && -640 ≤ t && t ≤ 2400 then (0, some t)
    else if d.on F.THM_ENC_VALID then (1, some (toSigned 16 (d.get F.THM_ENC_TEMP))) else (2, none)
  | none => if d.on F.THM_ENC_VALID then (1, some (toSigned 16 (d.get F.THM_ENC_TEMP))) else (2, none)

/-- A temperature reading has been made or has failed (06 R229, R231). -/
def Dev.preampTemp (d : Dev) (n : Nat) (reading : Option Int) : Dev :=
  if !d.actuatorFitted n || !d.powered 2 then d
  else
    let c := d.chooseTheta n reading
    let old := d.getI F.SHP_TEMP_SRC n
    let d := (d.putI F.SHP_TEMP_SRC n c.1).flagI F.SHP_TEMP_VALID n c.2.isSome
    let d := match c.2 with
      | some t => d.putI F.SHP_TEMP_TEMP n (ofSigned 16 t)
      | none => d
    (if old = c.1 then d else d.post 0x1109 [n, c.1]).publishReach n c.2

/-- A temperature read is due (06 R229): a frame of the lowest priority, or a read that fails because the port's domain is off. -/
def Dev.tempDue (d : Dev) (n : Nat) : Dev :=
  if !d.actuatorFitted n || !d.powered 2 then d
  else if d.powered (3 + n) then d.tempAsk n
  else d.preampTemp n none

/-- The start of a BOOT's readings (06 R229): until the first read the reading counts as failed; the first read is made at once where the port's
domain is on. -/
def Dev.firstTemp (d : Dev) (n : Nat) : Dev :=
  let d := d.preampTemp n none
  if d.actuatorFitted n && d.powered (3 + n) then d.tempAsk n else d

/-- The port's domain comes on (06 R229, R248): waiting frames are sent, the first temperature read of the BOOT among them. -/
def Dev.portOn (d : Dev) (n : Nat) : Dev :=
  let d := d.paStart n
  if d.actuatorFitted n && !(d.shp n).tempRead && d.powered 2 then d.tempAsk n else d

/-! ### Acquisition, seeks and settling -/

/-- The wedge interval the Mill reports (05 R197; 06 R218), in 1.25 ns. -/
def Dev.millInterval (d : Dev) : Nat :=
  let r := d.get F.MIL_SPEED_RPM16 * d.wedges
  if r = 0 then 0 else min (800000000 * 60 * 16 / r) (2 ^ 20 - 1)

/-- Coefficients follow the speed once a revolution (06 R227). -/
def Dev.revSpeed (d : Dev) (n : Nat) : Dev := d.setShp n (fun s => { s with revRpm16 := d.get F.MIL_SPEED_RPM16 })

/-- FOLLOW is entered from ACQUIRE or LOST (06 R221): it holds the track found; from LOST the interrupted commands keep their targets and
re-seek. -/
def Dev.enterFollow (d : Dev) (n : Nat) : Dev :=
  let wasLost := d.shpState n == shpLost
  let heads := d.getI F.SHP_HEAD_CH0_HEAD n + 2 ^ 7 * d.getI F.SHP_HEAD_CH0_VALID n + 2 ^ 8 * d.getI F.SHP_HEAD_CH1_HEAD n
    + 2 ^ 15 * d.getI F.SHP_HEAD_CH1_VALID n
  let ms := (d.shp n).acqMs
  let d := ((d.putI F.SHP_STAT_STATE n shpFollow).putI F.SHP_STAT_ACQ_FAILS n 0).putI F.SHP_INT_STAT_ACQUIRED n 1
  let d := d.each (d.activeCh n) (fun d k =>
    if wasLost && (d.shpCh n k).moving then d else d.setTarget n k ((d.posn n k + 128) / 256 * 256))
  let d := (d.putI F.SHP_STAT_CH0_ACTIVE n 1).flagI F.SHP_STAT_CH1_ACTIVE n (d.headValid n 1)
  let d := d.each [0, 1] (fun d k => d.setCh n k (fun c => { c with missedRun := 0, idErrRun := 0 }))
  let d := d.setShp n (fun s => { s with seekTries := 0, reseek := wasLost && s.ch.any (fun c => c.moving) })
  let d := if wasLost then d else (d.putI F.SHP_WEDGE_REVS n 0).revSpeed n
  d.post 0x1101 [n, heads, ms]

/-- LOST is entered (06 R221): a channel's command is interrupted, to seek again. -/
def Dev.toLost (d : Dev) (n : Nat) : Dev :=
  let d := (d.putI F.SHP_STAT_STATE n shpLost).setShp n (fun s => { s with validRun := 0, acqMs := 0, seekTries := 0 })
  let d := (d.incI F.SHP_FAULTS_LOST n).putI F.SHP_INT_STAT_LOST n 1
  let d := (d.putI F.SHP_STAT_CH0_ACTIVE n 0).putI F.SHP_STAT_CH1_ACTIVE n 0
  (d.putI F.SHP_STAT_WR_OK n 0).each [0, 1] (fun d k =>
    let busy := (d.heldPiece (2 * n + k)).any (fun p => p.stage == .taken || p.stage == .ready)
    d.setCh n k (fun c => { c with permit := false, settled := false, settleRun := 0, moving := c.moving || busy }))

/-- LOST after missed wedges or track-ID errors of channel `k` (06 R221, R234): `cause` 0 missed wedges, 1 track-ID errors. -/
def Dev.enterLost (d : Dev) (n k cause : Nat) : Dev := (d.toLost n).post 0x1105 [n, d.headNum n k, cause]

/-- A Shepherd's position fault drives the inhibit path (06 R233 to R235): `src` 2 write fault, 3 missed wedge or track-ID
error; the channel asks for the scrub of 11 R441. -/
def Dev.positionInhibit (d : Dev) (n k src : Nat) : Dev :=
  let s := 2 * n + k
  let track := trackIn (d.targetAt n k)
  let span := (d.shpCh n k).sinceValid + 1
  let d := d.setShp n (fun x => { x with causes := x.causes.filter (fun c => c.ch != k) ++ [⟨k, src, 0⟩] })
  let d := (d.putI F.SHP_STAT_INHIBIT n 1).killAssert src
  (d.scrubRequest s track span).post 0x2206 [s, d.headNum n k, track, span]

/-- The runs of R221 after a wedge in FOLLOW, SEEK or SETTLE. -/
def Dev.lostCheck (d : Dev) (n : Nat) : Dev :=
  if !d.servoAcquired n then d
  else match (d.activeCh n).find? (fun k => 4 ≤ (d.shpCh n k).missedRun), (d.activeCh n).find? (fun k => 2 ≤ (d.shpCh n k).idErrRun) with
    | some k, _ => d.enterLost n k 0
    | none, some k => d.enterLost n k 1
    | none, none => d

/-- Channels whose command moves, one whose head is still being selected among them (06 R232). -/
def Dev.movingCh (d : Dev) (n : Nat) : List Nat := [0, 1].filter (fun k => (d.shpCh n k).moving)

/-- The remaining distance of a channel, 1/256 track (06 R221, R224). -/
def Dev.distance (d : Dev) (n k : Nat) : Int := d.targetAt n k - d.posAt n k

/-- The settle criterion of a channel holds in this wedge (06 R225). -/
def Dev.settleHolds (d : Dev) (n k : Nat) : Bool :=
  let e := (d.pes n k).natAbs
  if (d.shpCh n k).writes then e * 2 ≤ d.wfl n k else e ≤ 38

/-- A channel's settle count at a valid wedge (06 R225, R232): wedges in a row inside the limit; wedges wanted on a new head, once it is
confirmed. -/
def Dev.settleCount (d : Dev) (n k : Nat) : Dev :=
  let ok := d.settleHolds n k
  d.setCh n k (fun c => { c with settleRun := if ok then c.settleRun + 1 else 0, newHead := if d.headValid n k then c.newHead - 1 else c.newHead })

/-- Has the channel settled (06 R225, R232)? -/
def Dev.channelSettled (d : Dev) (n k : Nat) : Bool :=
  let c := d.shpCh n k
  (if c.writes then 6 else 3) ≤ c.settleRun && c.newHead == 0

/-- R236 holds for a channel. -/
def Dev.writeOk (d : Dev) (n k : Nat) : Bool :=
  let c := d.shpCh n k
  d.shpState n == shpFollow && c.writes && c.settled && !d.inhibited && !d.speedHold

def Dev.updateWrOk (d : Dev) (n : Nat) : Dev :=
  d.flagI F.SHP_STAT_WR_OK n ((d.activeCh n).any (fun k => d.writeOk n k))

/-- The settle is met and the command is released to the data path (06 R221, R225). -/
def Dev.settleMet (d : Dev) (n : Nat) : Dev :=
  let us := (d.shp n).seekCycles / 800
  let d := (d.putI F.SHP_STAT_STATE n shpFollow).putI F.SHP_SEEK_TIME_US n (min us 65535)
  let d := d.putI F.SHP_STAT_ACQ_FAILS n 0
  let d := d.setShp n (fun s => { s with seekTries := 0, reseek := false })
  let d := (d.putI F.SHP_STAT_CH0_ACTIVE n 1).flagI F.SHP_STAT_CH1_ACTIVE n (d.headValid n 1)
  d.each (d.movingCh n) (fun d k => (d.setCh n k (fun c => { c with moving := false, settled := true })).pieceReady (2 * n + k))

/-- A seek starts from the present position (06 R221). -/
def Dev.startSeek (d : Dev) (n dist : Nat) : Dev :=
  let d := (d.incI F.SHP_SEEK_CNT_COUNT n).putI F.SHP_SEEK_DIST_DIST n (min dist (2 ^ 24 - 1))
  (d.putI F.SHP_STAT_STATE n shpSeek).setShp n (fun s => { s with seekCycles := 0, seekTries := 0, reseek := false })

/-- The farthest of the moving channels, with its distance. -/
def Dev.farthest (d : Dev) (n : Nat) : Nat × Int :=
  (d.movingCh n).foldl (fun m k => if m.2.natAbs < (d.distance n k).natAbs then (k, d.distance n k) else m) (((d.movingCh n).headD 0), 0)

/-- A park's outward move under servo (06 R240): to the outer guard band, outside track 0, then PARK_I. -/
def Dev.parkMove (d : Dev) (n : Nat) : Dev :=
  if !(d.shp n).parkOut then d
  else if d.posAt n 0 < 0 || 4 ≤ (d.shpCh n 0).missedRun then d.setShp n (fun s => { s with parkOut := false, iRef := d.parkCurrent n })
  else d.velocityMode n 0 (-256 - d.posAt n 0)

/-- The state moves of R221 and the law of the state at a wedge; `good` are the channels whose wedge is valid. -/
def Dev.wedgeState (d : Dev) (n : Nat) (good : List Nat) : Dev :=
  let st := d.shpState n
  let d := d.each good (fun d k => d.settleCount n k)
  let far := d.farthest n
  if st = shpSeek then
    if far.2.natAbs ≤ 32 * 256 then (d.putI F.SHP_STAT_STATE n shpSettle).dualStage n else d.velocityMode n far.1 far.2
  else if st = shpSettle then
    let d := d.dualStage n
    if (d.movingCh n).all (fun k => d.channelSettled n k) then d.settleMet n else d
  else if st = shpFollow then
    if (d.shp n).reseek then d.startSeek n (far.2.natAbs / 256) else d.dualStage n
  else if st = shpLost then
    if 16 ≤ (d.shp n).validRun then d.enterFollow n else d
  else if st = shpUnloading then d.parkMove n
  else d

/-- The resume counts of the causing heads (06 R235): a head whose wedge is not valid starts again. -/
def Dev.resumeCount (d : Dev) (n : Nat) (good : List Nat) : Dev :=
  let ok := fun (k : Nat) => good.contains k && d.shpState n != shpLost && (d.pes n k).natAbs * 4 ≤ 3 * d.wfl n k
  let d := d.setShp n (fun s => { s with causes := s.causes.map (fun c => { c with run := if ok c.ch then c.run + 1 else 0 }) })
  let met := (d.shp n).causes.filter (fun c => (d.geometry (d.headNum n c.ch)).resume ≤ c.run)
  (d.each met (fun d c => d.post 0x1107 [n, d.headNum n c.ch, c.run])).dropCauses n (fun c => met.contains c)

/-- The resume count of a head waited for after a shock (11 R436). -/
def Dev.shockCount (d : Dev) (n k : Nat) : Dev :=
  if !d.wch.await.contains (2 * n + k) then d
  else
    let good := (d.pes n k).natAbs * 4 ≤ 3 * d.wfl n k
    let d := d.setCh n k (fun c => { c with shockRun := if good then c.shockRun + 1 else 0 })
    if (d.geometry (d.headNum n k)).resume ≤ (d.shpCh n k).shockRun then
      (d.setCh n k (fun c => { c with shockRun := 0 })).awaitDrop (2 * n + k)
    else d

/-- The decision on a head whose gate was enabled when the wedge came (06 R233, R234): a missed wedge or a track-ID error, or a position error above the
write-fault limit, drives the inhibit path. -/
def Dev.writeDecision (d : Dev) (n k : Nat) (valid : Bool) : Dev :=
  if !valid then d.positionInhibit n k killMissed
  else if d.wfl n k < (d.pes n k).natAbs then
    let d := (d.incI F.SHP_FAULTS_WRITE_FAULTS n).putI F.SHP_INT_STAT_WRITE_FAULT n 1
    let d := d.post 0x1106 [n, d.headNum n k, ofSigned 32 (d.pes n k), d.wfl n k]
    d.positionInhibit n k killWriteFault
  else d

/-- Wedge 0 is passed (06 R227; 07 R274): the intervals of a whole revolution give the Mill its period (06 R219; 05 R163). -/
def Dev.revolution (d : Dev) (n : Nat) : Dev :=
  let s := d.shp n
  let lowest := ((List.range 4).find? (fun m => d.servoAcquired m)) == some n
  let d := if s.revWedges = d.wedges && lowest && s.revCycles != 0 && d.milState == milRun then
      (d.put F.MIL_SPEED_RPM16 (min 131071 (800000000 * 60 * 16 / s.revCycles))).put F.MIL_SPEED_SRC 1 else d
  let d := (d.setShp n (fun s => { s with revCycles := 0, revWedges := 0 })).revSpeed n
  (d.putI F.SHP_WEDGE_REVS n (d.getI F.SHP_WEDGE_REVS n + 1)).latchTrap n 7

/-- A wedge passes, found or on predicted timing: its number, its interval, the revolution. -/
def Dev.wedgePassed (d : Dev) (n num interval : Nat) : Dev :=
  let d := (d.putI F.SHP_WEDGE_WEDGE n num).setShp n (fun s => { s with
    lastWedge := some num, seekCycles := s.seekCycles + interval, revCycles := s.revCycles + interval, revWedges := s.revWedges + 1 })
  if num = 0 then d.revolution n else d

/-- The interval estimate at a SAM found (06 R219), and the synthesiser ratios (09 R331, R332). -/
def Dev.samFound (d : Dev) (n interval : Nat) : Dev :=
  let m := interval * 65536
  let d := d.setShp n (fun s => { s with jFine := if s.jFine ≤ m then s.jFine + (m - s.jFine) / 16 else s.jFine - (s.jFine - m) / 16 })
  let j := (d.shp n).jFine / 65536
  let d := d.putI F.SHP_INTERVAL_CYCLES n j
  d.each [2 * n, 2 * n + 1] (fun d s => if j = 0 then d else d.putI F.RCH_S_SYNTH_RATIO s (d.getI F.RCH_S_BPW_BPW s * 2 ^ 24 / j))

/-- SHK_ROT is sampled at each wedge with rotational feed-forward on (06 R237). -/
def Dev.rvSample (d : Dev) (n : Nat) (rot : BitVec 12) : Dev :=
  let on := d.onI F.SHP_CTRL_RVFF_EN n
  let d := d.flagI F.SHP_STAT_RVFF n on
  if on then (d.putI F.SHP_RV_SAMPLE n (ofSigned 16 rot.toInt)).setShp n (fun s => { s with rv := (rot.toInt :: s.rv).take 8 }) else d

/-- The acquisition counts of 06 R239: SAMs at the predicted interval with numbers rising by one, then valid tracks. -/
def Dev.acquireCount (d : Dev) (n : Nat) (inStep valid : Bool) : Dev :=
  let d := d.setShp n (fun s =>
    if s.samRun < 16 then { s with samRun := if inStep then s.samRun + 1 else 1, validRun := 0 }
    else if inStep && valid then { s with validRun := s.validRun + 1 }
    else { s with samRun := if inStep then 16 else 1, validRun := 0 })
  if 16 ≤ (d.shp n).samRun && 2 ≤ (d.shp n).validRun then d.enterFollow n else d

/-- A channel's result at WSTAT (07 R270): 0 valid, 1 missed, 2 track-ID error. -/
def Dev.wstatResult (d : Dev) (n k r : Nat) : Dev :=
  d.setShp n (fun s => { s with wstat := withSlice s.wstat (8 * k) 3 (2 ^ r) })

/-- A wedge of a channel that gives no position (06 R215, R220, R232): counts of consecutive valid wedges start again. -/
def Dev.wedgeInvalid (d : Dev) (n k : Nat) (missed : Bool) : Dev :=
  (d.wstatResult n k (if missed then 1 else 2)).setCh n k (fun c => { c with
    sinceValid := c.sinceValid + 1, settleRun := 0, shockRun := 0, newHead := if c.newHead = 0 then 0 else 2,
    missedRun := if missed then c.missedRun + 1 else 0, idErrRun := if missed then 0 else c.idErrRun + 1 })

/-- A channel's missed wedge (06 R220): its position is the compensator's prediction, a free value since the spec gives no form for it. -/
def Dev.wedgeMissed (d : Dev) (n k : Nat) : Dev :=
  let v := d.fresh
  let p := toSigned 32 v.1
  (((v.2.setPosn n k p).setPes n k (pesOf (d.targetAt n k) p))).wedgeInvalid n k true

/-- A channel's wedge whose SAM was found (06 R213 to R216): a track-ID error, or its position, PES and velocity. -/
def Dev.wedgeChannel (d : Dev) (n k : Nat) (w : WedgeHead) (numBad : Bool) : Dev :=
  if numBad || trackAstray (d.shpCh n k) (d.signedTrack (grayDecode 24 w.gray * 256)) then d.wedgeInvalid n k false
  else
    let r := d.demodulate n k w
    let d := r.2
    let j := max 1 ((d.getI F.SHP_INTERVAL_CYCLES n) * ((d.shpCh n k).sinceValid + 1))
    let d := ((d.setPosn n k r.1).setPes n k (pesOf (d.targetAt n k) r.1)).wstatResult n k 0
    d.setCh n k (fun c => { c with
      vel := if c.known = 0 then 0 else (r.1 - c.p1) * 800000 / (j : Nat), p1 := r.1, p2 := c.p1, known := min 2 (c.known + 1),
      missedRun := 0, idErrRun := 0 })

/-- Is channel `k`'s last wedge valid? -/
def Dev.wedgeValid (d : Dev) (n k : Nat) : Bool := (d.shp n).wstat.testBit (8 * k)

/-- What follows once each active channel's wedge is known (06 R221, R225, R226, R233 to R235; 07 R274): the counts, the decisions on the heads whose
gates were enabled (`gated`), the state's law. `inStep` says whether the SAM came at the predicted interval with its number rising by one; none for
a missed wedge. -/
def Dev.wedgeJudged (d : Dev) (n : Nat) (gated : List Nat) (inStep : Option Bool) : Dev :=
  let act := d.activeCh n
  let good := act.filter (fun k => d.wedgeValid n k)
  let whole := good.length = act.length
  let d := d.setShp n (fun s => { s with validRun := if d.shpState n = shpLost then (if whole then s.validRun + 1 else 0) else s.validRun })
  let d := d.each gated (fun d k => d.writeDecision n k (good.contains k))
  let d := d.each good (fun d k => (d.shockCount n k).setCh n k (fun c => { c with sinceValid := 0 }))
  let d := d.resumeCount n good
  let d := if d.shpState n = shpAcquire then
      match inStep with
      | some b => d.acquireCount n b whole
      | none => d.setShp n (fun s => { s with samRun := 0, validRun := 0 })
    else d.wedgeState n good
  ((d.lostCheck n).updateWrOk n).latchWedge n

/-- The channels of the actuator whose gate is enabled. -/
def Dev.gatedCh (d : Dev) (n : Nat) : List Nat := [0, 1].filter (fun k => d.gateOn (2 * n + k))

/-- Does the Shepherd read wedges: the heads are off the ramp? -/
def Dev.servoLive (d : Dev) (n : Nat) : Bool := d.powered 2 && shpAcquire ≤ d.shpState n && d.shpState n ≤ shpUnloading

/-- A wedge whose SAM is not found in its window (06 R220, R221, R234, R253): it runs on predicted timing. -/
def Dev.missedWedge (d : Dev) (n : Nat) (rot : BitVec 12) : Dev :=
  if !d.servoLive n then d
  else
    let gated := d.gatedCh n
    let num := match (d.shp n).lastWedge with | none => 0 | some l => (l + 1) % max 1 d.wedges
    let d := ((d.incI F.SHP_FAULTS_MISSED n).wedgePassed n num (d.getI F.SHP_INTERVAL_CYCLES n)).rvSample n rot
    (d.each (d.activeCh n) (fun d k => d.wedgeMissed n k)).wedgeJudged n gated none

/-- The lane of a channel's head (06 R212): PAn_RDP[2k + SERVO_READER]. -/
def Dev.servoLane (d : Dev) (n k : Nat) : Nat := 2 * k + (d.geometry (d.headNum n k)).reader

/-- A servo wedge (06 R211 to R219, R221, R224 to R227, R233 to R237, R239): a SAM counts within ±32 servo bits of the prediction, which is the Mill's
interval in ACQUIRE and the Shepherd's own estimate in every other state (R218). -/
def Dev.wedge (d : Dev) (n : Nat) (w : WedgeSample) : Dev :=
  let heads := (d.activeCh n).map (fun k => (k, wedgeHead (at' w.lanes (d.servoLane n k) [])))
  let due := if d.shpState n = shpAcquire then d.millInterval else d.getI F.SHP_INTERVAL_CYCLES n
  let last := (d.shp n).lastWedge
  let near := last.isNone || gap w.interval due * 2304 ≤ 32 * due
  match heads.find? (fun h => h.2.sam && near) with
  | none => d.missedWedge n w.rot
  | some f =>
    if !d.servoLive n then d
    else
      let gated := d.gatedCh n
      let num := f.2.number % 1024
      let rising := fun (x : Nat) => match last with | none => true | some l => x == (l + 1) % max 1 d.wedges
      let d := ((d.wedgePassed n num w.interval).samFound n w.interval).rvSample n w.rot
      let d := d.each heads (fun d h =>
        if !h.2.sam then d.wedgeMissed n h.1
        else d.wedgeChannel n h.1 h.2 (!rising (h.2.number % 1024) || ((h.2.number / 1024 == 1) != (h.2.number % 1024 == 0))))
      let d := if heads.all (fun h => h.2.sam) then d else d.incI F.SHP_FAULTS_MISSED n
      let d := if heads.any (fun h => (d.shpCh n h.1).idErrRun != 0) then d.incI F.SHP_FAULTS_TRACK_ID n else d
      d.wedgeJudged n gated (some (rising num))

/-! ### Loading and parking -/

/-- A load request (06 R221, R238, R253). -/
def Dev.loadRequest (d : Dev) (n : Nat) : Dev :=
  if !d.powered 2 || !d.actuatorFitted n || (d.shp n).fenced || d.on F.WAT_STAT_SAFE then d
  else if d.shpState n = shpUnloading then d.setShp n (fun s => { s with reload := true })
  else if d.shpState n != shpParked || (d.shp n).uc.reloading || (d.shp n).hwPark || d.milState != milRun then d
  else if d.miller != 0 || !(d.shp n).tempRead then d.setShp n (fun s => { s with loadWait := true })
  else
    let d := d.setShp n (fun s => { s with loadWait := false, reload := false, acqMs := 0, lastWedge := none, samRun := 0,
                                           validRun := 0, loadVel := 0, retractDue := none })
    d.putI F.SHP_STAT_STATE n shpLoading

/-- During a load the velocity is estimated from VCMn_ISNS and the PWM duty, and held constant (06 R238): the estimate and the current that holds it
are free values (log entry 5). -/
def Dev.loadDrive (d : Dev) (n : Nat) (isns : Int) : Dev :=
  if d.shpState n != shpLoading then d
  else
    let v := Config.coilVelocity isns (toSigned 16 (d.getI F.LPE_L_OUT_OUT (3 + n)))
    d.setShp n (fun s => { s with loadVel := v, iRef := clampSigned 16 (Config.loadCurrent v) })

/-- The heads leave the ramp (06 R221): the SAM search starts at the Mill's wedge interval (R218). -/
def Dev.headsOffRamp (d : Dev) (n : Nat) : Dev :=
  if d.shpState n != shpLoading then d
  else
    let j := d.millInterval
    let d := (d.putI F.SHP_STAT_STATE n shpAcquire).putI F.SHP_INTERVAL_CYCLES n j
    let d := d.setShp n (fun s => { s with acqMs := 0, samRun := 0, validRun := 0, lastWedge := none, jFine := j * 65536, revCycles := 0, revWedges := 0 })
    d.each [0, 1] (fun d k => d.setCh n k (fun c => { c with known := 0, sinceValid := 0, settleRun := 0, vel := 0, missedRun := 0, idErrRun := 0 }))

/-- An acquisition failure (06 R221; 04 R134 for the third). -/
def Dev.acquisitionFailed (d : Dev) (n : Nat) : Dev :=
  let f := d.getI F.SHP_STAT_ACQ_FAILS n
  let d := d.putI F.SHP_STAT_ACQ_FAILS n (min 3 (f + 1))
  if f < 2 then
    let d := (d.enterUnloading n 3).post 0x1102 [n, f + 1]
    d.setShp n (fun s => { s with reload := true })
  else
    let d := (d.enterUnloading n 3).post 0x1103 [n]
    (d.fenceActuator n).setShp n (fun s => { s with parkCause := 3 })

/-- 500 ms of ACQUIRE without acquisition (06 R221). -/
def Dev.acquireTimeout (d : Dev) (n : Nat) : Dev :=
  if d.shpState n = shpAcquire then d.acquisitionFailed n else d

/-- 50 ms of LOST (06 R221). -/
def Dev.lostTimeout (d : Dev) (n : Nat) : Dev :=
  if d.shpState n = shpLost then d.acquisitionFailed n else d

/-- A seek timeout (06 R221, R225). -/
def Dev.seekTimeout (d : Dev) (n : Nat) : Dev :=
  let st := d.shpState n
  if st != shpSeek && st != shpSettle then d
  else
    let d := d.post 0x110A [n, d.getI F.SHP_SEEK_DIST_DIST n, (d.shp n).seekCycles / 800]
    if (d.shp n).seekTries = 0 then
      let d := (d.putI F.SHP_STAT_STATE n shpSeek).setShp n (fun s => { s with seekTries := 1, seekCycles := 0 })
      d.each [0, 1] (fun d k => d.setCh n k (fun c => { c with settleRun := 0 }))
    else
      d.toLost n

/-- The heads are parked: PARKED, or FENCED (06 R221; 07 R293). -/
def Dev.parkedNow (d : Dev) (n : Nat) : Dev :=
  let s := d.shp n
  let d := d.putI F.SHP_STAT_STATE n (if s.fenced then shpFenced else shpParked)
  let d := (d.putI F.SHP_INT_STAT_PARKED n 1).setShp n (fun s => { s with
    hwPark := false, parkOut := false, iRef := 0, retractDue := none, fenceDue := false })
  let d := (d.post 0x110D [n, s.parkMs, s.parkCause]).offTrack n
  if s.reload && !s.fenced then d.loadRequest n else d

/-- The head reaches the ramp (06 R221). -/
def Dev.headOnRamp (d : Dev) (n : Nat) : Dev := if d.shpState n = shpUnloading then d.parkedNow n else d

/-- 300 ms after the decision the park is not complete (06 R221, R240). -/
def Dev.retractTimeout (d : Dev) (n : Nat) : Dev :=
  let parking := d.shpState n == shpUnloading || (d.shpState n == shpRetracted && (d.shp n).hwPark && !(d.shp n).retracted)
  if !parking || (d.shp n).retractDue.isNone then d
  else
    let d := (d.putI F.SHP_STAT_STATE n shpRetracted).setShp n (fun s => { s with retracted := true, hwPark := false, retractDue := none })
    (d.assertRetractN.post 0x110E [n, (d.shp n).retractState]).offTrack n

/-- A hardware park ends (06 R240; 07 R281, R293). -/
def Dev.hardwareParkDone (d : Dev) (n : Nat) : Dev :=
  let s := d.shp n
  if !s.hwPark then d
  else if d.shpState n = shpUnloading then d.parkedNow n
  else if d.shpState n = shpRetracted then
    if s.fenced then d.parkedNow n
    else
      let d := d.setShp n (fun s => { s with hwPark := false })
      if s.uc.reloaded then (d.putI F.SHP_STAT_STATE n shpParked).restartMicro n else d
  else d.setShp n (fun s => { s with hwPark := false })

/-! ### The preamp serial port -/

/-- A head switch is queued (06 R232; 09 the select waits for END is the sequencer's). -/
def Dev.selectHead (d : Dev) (n k h : Nat) : Dev :=
  let d := if k = 0 then d.putI F.SHP_HEAD_CH0_VALID n 0 else d.putI F.SHP_HEAD_CH1_VALID n 0
  let d := d.setCh n k (fun c => { c with newHead := 2, known := 0 })
  let d := (d.paQueue n (.headSelect k h)).setFe (2 * n + k) (fun f => { f with seedDue := true, loopDue := true })
  d.loopsForHead (2 * n + k) (8 * n + h)

/-- Fault bits of a channel: writer, reader, laser, heater (06 R249, R251). -/
def fltOfChannel (k : Nat) : Nat := (2 ^ k) + 2 ^ (2 + k) + 2 ^ (4 + k) + 2 ^ (6 + k)

/-- FLT has been read (06 R250, R251): 0x110B, the retirement of a head whose bit set again within 1 ms of its clear, the clearing write. -/
def Dev.fltAnswer (d : Dev) (n v : Nat) : Dev :=
  let s := d.shp n
  let again := maskOf ((List.range 11).filter (fun b => v.testBit b && (at' s.fltAges b none).any (fun m => m ≤ 1)))
  let d := ((d.putI F.SHP_PA_FLT_LAST n v).post 0x110B [n, v]).latchTrap n 4
  let d := if v.testBit 10 then d.post 0x110F [n, s.paLast, 0] else d
  let d := d.each [0, 1] (fun d k =>
    if again &&& fltOfChannel k != 0 then
      (d.post 0x110C [n, d.headNum n k, v]).surfaceRetire (d.headNum n k) 0
    else d)
  d.paQueue n (.fltClear v)

/-- The preamp source of a port releases once PAn_FLT_N is high and the clearing write has been sent (06 R250). -/
def Dev.preampRelease (d : Dev) (n : Nat) : Dev :=
  if d.onI F.SHP_PA_FLT_ACTIVE n || !(d.shp n).clearSent then d
  else
    let d := { d with wch := { d.wch with preamp := withBit d.wch.preamp n false } }
    if d.wch.preamp = 0 then d.killRelease killPreamp else d

/-- The register address a frame goes to (06 R249). -/
def Frame.addr : Frame → Nat
  | .headSelect k _ => 1 + k
  | .readBack k _ => 1 + k
  | .fltRead => 0x0B
  | .fltClear _ => 0x0B
  | .loopOut a _ => a
  | .command _ a _ => a
  | .tempRead => 0x0C
  | .calib a _ => a

/-- Does a frame read? -/
def Frame.reads : Frame → Bool
  | .readBack _ _ => true
  | .fltRead => true
  | .command r _ _ => r
  | .tempRead => true
  | _ => false

/-- The DATA a write frame carries (06 R249). -/
def Frame.data : Frame → Nat
  | .headSelect _ h => 2 ^ 15 + h
  | .fltClear v => v
  | .loopOut _ v => v
  | .command _ _ v => v
  | .calib _ v => v
  | _ => 0

/-- The bits of `v`, the most significant of `w` first. -/
def bitsMsb (w v : Nat) : List Bool := (List.range w).map (fun i => v.testBit (w - 1 - i))

/-- The bit that makes the number of ones odd. -/
def oddParity (l : List Bool) : Bool := (l.filter id).length % 2 == 0

/-- The bits the Galval drives on PAn_SDIO, in order (06 R243 to R245): a write frame's 25, a read frame's 9. -/
def Frame.sent (f : Frame) : List Bool :=
  let head := f.reads :: bitsMsb 7 f.addr
  let body := if f.reads then head else head ++ bitsMsb 16 f.data
  body ++ [oddParity body]

/-- The clock periods of a frame (06 R244, R245). -/
def Frame.periods (f : Frame) : Nat := if f.reads then 27 else 25

/-- The levels of PAn_SEN, PAn_SCLK and PAn_SDIO (none where the Galval does not drive it) in half clock period `t` since a frame's start (06 R243 to
R245): PAn_SEN low for 2 periods before each frame, then PAn_SCLK low and high once for each bit, which changes with its falling edge. -/
def Frame.lines (f : Frame) (t : Nat) : Bool × Bool × Option Bool :=
  if t < 4 || 4 + 2 * f.periods ≤ t then (false, false, none)
  else (true, t % 2 == 1, f.sent[(t - 4) / 2]?)

/-- An answer of a read frame (06 R245): DATA in the high 16 bits, its parity bit below; none where the odd parity fails. -/
def answerData (a : BitVec 17) : Option Nat := if popCount 17 a.toNat % 2 = 1 then some (a.toNat / 2) else none

/-- A head's select is confirmed (06 R232, R242; R880): its bias and write current follow where its calibration gives them. -/
def Dev.headConfirmed (d : Dev) (n k h : Nat) : Dev :=
  let d := if k = 0 then (d.putI F.SHP_HEAD_CH0_HEAD n h).putI F.SHP_HEAD_CH0_VALID n 1
    else (d.putI F.SHP_HEAD_CH1_HEAD n h).putI F.SHP_HEAD_CH1_VALID n 1
  match d.headRecord (8 * n + h) 0x102 with
  | none => d
  | some b => d.setShp n (fun s => { s with paWait := s.paWait ++ [.calib (3 + k) (leAt b 0 2), .calib (5 + k) (leAt b 2 2)] })

/-- What a completed frame does (06 R229, R232, R246, R249 to R251): `ans` is its sound answer, none for a write or where the retry failed too. -/
def Dev.frameEffect (d : Dev) (n : Nat) (f : Frame) (ans : Option Nat) : Dev :=
  match f with
  | .headSelect k h => d.setShp n (fun s => { s with paWait := .readBack k h :: s.paWait })
  | .readBack k h => (if ans = some (2 ^ 15 + h) then d.headConfirmed n k h else d).latchTrap n 8
  | .fltRead => match ans with | some v => d.fltAnswer n v | none => d
  | .fltClear v =>
    let ages := fun (l : List (Option Nat)) => (List.range 11).map (fun b => if v.testBit b then some 0 else at' l b none)
    let again := (d.shp n).paWait.contains .fltRead
    (d.setShp n (fun s => { s with clearSent := s.clearSent || !again, fltAges := ages s.fltAges })).preampRelease n
  | .loopOut _ _ => d
  | .calib _ _ => d
  | .tempRead =>
    let d := (d.setShp n (fun s => { s with tempRead := true })).preampTemp n (ans.map (toSigned 16))
    if (d.shp n).loadWait then d.loadRequest n else d
  | .command r _ _ =>
    let d := (d.putI F.SHP_PA_RESP_BUSY n 0).putI F.SHP_PA_RESP_DONE n 1
    let d := if r then (d.flagI F.SHP_PA_RESP_PERR n ans.isNone).putI F.SHP_PA_RESP_DATA n (ans.getD 0) else d
    d.putI F.SHP_INT_STAT_PA_DONE n 1

/-- A frame completes (06 R243 to R251): an answer whose parity fails is discarded and the read repeated once. -/
def Dev.frameDone (d : Dev) (n : Nat) (answer : BitVec 17) : Dev :=
  match (d.shp n).paNow with
  | none => d
  | some f =>
    let ans := if f.reads then answerData answer else none
    let bad := f.reads && ans.isNone
    let d := if bad then d.post 0x110F [n, f.addr, 1] else d
    if bad && !(d.shp n).paRetry then d.setShp n (fun s => { s with paRetry := true })
    else
      let d := d.setShp n (fun s => { s with paNow := none, paRetry := false, paLast := (if f.reads then s.paLast else f.addr) })
      (d.frameEffect n f ans).paStart n

/-- A write of SHP_PA_CMD with GO (06 R252, R253): ignored whole while a frame is pending or in progress. -/
def Dev.paGo (d : Dev) (n v : Nat) : Dev :=
  if d.onI F.SHP_PA_RESP_BUSY n then d
  else
    let a := slice v 16 7
    let d := ((d.putI F.SHP_PA_CMD_RW n (slice v 23 1)).putI F.SHP_PA_CMD_ADDR n a).putI F.SHP_PA_CMD_DATA n (slice v 0 16)
    let d := ((d.putI F.SHP_PA_RESP_PERR n 0).putI F.SHP_PA_RESP_REFUSED n 0).putI F.SHP_PA_RESP_DONE n 0
    if (a = 1 || a = 2) && d.shpState n != shpParked && d.shpState n != shpFenced then
      ((d.putI F.SHP_PA_RESP_REFUSED n 1).putI F.SHP_PA_RESP_DONE n 1).putI F.SHP_INT_STAT_PA_DONE n 1
    else (d.putI F.SHP_PA_RESP_BUSY n 1).paQueue n (.command (v.testBit 23) a (slice v 0 16))

/-- PAn_FLT_N falls (06 R250). -/
def Dev.preampFault (d : Dev) (n : Nat) : Dev :=
  if d.onI F.SHP_PA_FLT_ACTIVE n then d
  else
    let d := (d.putI F.SHP_PA_FLT_ACTIVE n 1).putI F.SHP_INT_STAT_PA_FAULT n 1
    let d := { d with wch := { d.wch with preamp := withBit d.wch.preamp n true } }
    let d := (d.setShp n (fun s => { s with clearSent := false })).killAssert killPreamp
    d.paQueue n .fltRead

/-- PAn_FLT_N rises (06 R250). -/
def Dev.preampFaultClear (d : Dev) (n : Nat) : Dev := (d.putI F.SHP_PA_FLT_ACTIVE n 0).preampRelease n

/-! ### The commands -/

/-- WEDGE (06 R213 to R237, R239): the wedge of actuator `n`. -/
def execWedge (n : Fin 4) (w : WedgeSample) (s : State) : Out := s.runIsland 0x04 (fun d => d.wedge n.val w)

/-- MISSED_WEDGE (06 R220). -/
def execMissedWedge (n : Fin 4) (rot : BitVec 12) (s : State) : Out := s.runIsland 0x04 (fun d => d.missedWedge n.val rot)

/-- LOAD_REQUEST (06 R221, R238). -/
def execLoadRequest (n : Fin 4) (s : State) : Out := s.runIsland 0x04 (fun d => d.loadRequest n.val)

/-- HEADS_OFF_RAMP (06 R221). -/
def execHeadsOffRamp (n : Fin 4) (s : State) : Out := s.runIsland 0x04 (fun d => d.headsOffRamp n.val)

/-- ACQUIRE_TIMEOUT (06 R221). -/
def execAcquireTimeout (n : Fin 4) (s : State) : Out := s.runIsland 0x04 (fun d => d.acquireTimeout n.val)

/-- SEEK_TIMEOUT (06 R221, R225). -/
def execSeekTimeout (n : Fin 4) (s : State) : Out := s.runIsland 0x04 (fun d => d.seekTimeout n.val)

/-- LOST_TIMEOUT (06 R221). -/
def execLostTimeout (n : Fin 4) (s : State) : Out := s.runIsland 0x04 (fun d => d.lostTimeout n.val)

/-- HEAD_ON_RAMP (06 R221). -/
def execHeadOnRamp (n : Fin 4) (s : State) : Out := s.runIsland 0x04 (fun d => d.headOnRamp n.val)

/-- RETRACT_TIMEOUT (06 R221, R240). -/
def execRetractTimeout (n : Fin 4) (s : State) : Out := s.runIsland 0x04 (fun d => d.retractTimeout n.val)

/-- HARDWARE_PARK_DONE (06 R240). -/
def execHardwareParkDone (n : Fin 4) (s : State) : Out := s.runIsland 0x04 (fun d => d.hardwareParkDone n.val)

/-- SHP_FENCE_WRITE (06 R221): a write of 1 to SHP_CTRL.FENCE. -/
def execShpFenceWrite (n : Fin 4) (s : State) : Out := s.runWrite 2 (fun d => d.fenceActuator n.val)

/-- PREAMP_TEMP_READ (06 R229, R248): the read of every 100 ms is due. -/
def execPreampTempRead (n : Fin 4) (s : State) : Out := s.runIsland 0x04 (fun d => d.tempDue n.val)

/-- PREAMP_FRAME_DONE (06 R245): the answer's 17 bits, which a write frame has none of. -/
def execPreampFrameDone (n : Fin 4) (answer : BitVec 17) (s : State) : Out := s.runIsland 0x04 (fun d => d.frameDone n.val answer)

/-- PA_CMD_GO (06 R252, R253). -/
def execPaCmdGo (n : Fin 4) (v : BitVec 24) (s : State) : Out := s.runWrite 2 (fun d => d.paGo n.val v.toNat)

/-- PREAMP_FAULT (06 R250): PAn_FLT_N falls. -/
def execPreampFault (n : Fin 4) (s : State) : Out := s.runIsland 0x04 (fun d => d.preampFault n.val)

/-- PREAMP_FAULT_CLEAR (06 R250): PAn_FLT_N rises. -/
def execPreampFaultClear (n : Fin 4) (s : State) : Out := s.runIsland 0x04 (fun d => d.preampFaultClear n.val)

end Sys2Proof.Machine
end

