-- ==== Sys2Proof/Machine/Clocks.lean ====
section
/-! DEFINITION. Clocks, islands and power domains (spec/02): the monitor, the votes, the PLLs, source switches, gates, and
the power-down and power-up of a domain. -/

namespace Sys2Proof.Machine

/-! ### The tables of 02 R49, R51 and R60 -/

/-- The PLL an island is assigned to, for the islands that have one (R51). -/
def islandPll (i : Nat) : Option Nat :=
  if aonIsland i || 0x1C < i then none
  else if [0x03, 0x04, 0x05, 0x06, 0x07, 0x08].contains i then some 1
  else if i = 0x0A then some 2
  else if i = 0x0E then some 3
  else some 0

/-- The islands a domain's power-down gates (R78, R882). -/
def domainIslands (dom : Nat) : List Nat :=
  if 3 ≤ dom ∧ dom ≤ 6 then [0x06, 0x08]
  else (List.range 29).filter (fun i => islandDomain i == dom && i != 0x06 && i != 0x08)

/-- The start-up band of R54. -/
def inStartBand (c : Nat) : Bool := 1150 ≤ c && c ≤ 1433

/-- Is the XIN count of a vote in band (R60)? -/
def voteXinOk (c : Nat) : Bool := 2286 ≤ c && c ≤ 5333

def voteRoscOk (c : Nat) : Bool := 1682 ≤ c && c ≤ 4608

/-- Within floor(CREF × 3 / 100) of CREF (R56, R62, R69). -/
def nearCref (cref c : Nat) : Bool := gap c cref ≤ cref * 3 / 100

/-- CREF and its 8 fraction bits moved toward a count by a 256th of the distance (R57; log entry 10). -/
def movedCref (cref frac c : Nat) : Nat × Nat :=
  let full := cref * 256 + frac
  let next := if full ≤ c * 256 then full + (c * 256 - full) / 256 else full - (full - c * 256) / 256
  (next / 256, next % 256)

/-! ### Phases of CLK_MON_STAT.PHASE -/

def phaseUnarmed : Nat := 0
def phaseLearning : Nat := 1
def phaseTracking : Nat := 2
def phaseHeld : Nat := 3
def phaseXinLost : Nat := 4
def phaseRoscLost : Nat := 5

def Dev.phase (d : Dev) : Nat := d.get F.CLK_MON_STAT_PHASE

/-- The holds of R53 and R61: reset held, FAULT_N low, the event written straight into the Day-Book (19 R771). -/
def Dev.holdReset (d : Dev) (code : Nat) (ps : List Nat) : Dev :=
  let d := { d with clk := { d.clk with held := true, faultLow := true, voteDue := false } }
  (d.put F.CLK_MON_STAT_PHASE phaseHeld).stageDirect code ps

/-- The monitor is armed once ROSC is qualified and the slow ring counted (R52). -/
def Dev.armMonitor (d : Dev) : Dev :=
  if d.on F.CLK_MON_STAT_ROSC_QUAL && d.on F.CLK_MON_STAT_SLOW_COUNTED && d.phase == phaseUnarmed then
    { d.put F.CLK_MON_STAT_PHASE phaseLearning with clk := { d.clk with learnN := 0, learnSum := 0 } }
  else d

/-- Every PLL stops, no lock attempt runs (R69). -/
def Dev.stopPlls (d : Dev) : Dev :=
  let d := { d with clk := { d.clk with pllRun := List.replicate 5 false, pllGood := List.replicate 5 0 } }
  d.each (List.range 5) (fun d p => (d.putI F.CLK_PLL_CTRL_EN p 0).putI F.CLK_PLL_STAT_LOCKED p 0)

/-- A lock attempt of PLL `p` starts. -/
def Dev.startLock (d : Dev) (p : Nat) : Dev :=
  { d with clk := { d.clk with pllRun := d.clk.pllRun.set p true, pllGood := d.clk.pllGood.set p 0 } }

/-- An island starts a stop, switch, restart to a source (R70). -/
def Dev.startSwitch (d : Dev) (i src : Nat) : Dev :=
  { d.putI F.CLK_ISL_STAT_SWITCHING i 1 with clk := { d.clk with swTo := d.clk.swTo.set i (some src) } }

/-- An island leaves PLL or XIN for ROSC after XIN failed (R67 and the rows of R82); CLK_ISL_CTRL.SRC keeps what was written to it (log entry
121). -/
def Dev.islandToRosc (d : Dev) (i : Nat) : Dev :=
  if aonIsland i then d
  else if d.onI F.CLK_ISL_STAT_SWITCHING i then d.startSwitch i 2
  else if d.getI F.CLK_ISL_STAT_SRC_NOW i == 2 then d
  else if d.onI F.CLK_ISL_STAT_GATED i then d.putI F.CLK_ISL_STAT_SRC_NOW i 2
  else d.startSwitch i 2

/-- XIN is declared failed: `cause` 0 missing edge, 1 window (R66 to R69, R82, R85). -/
def Dev.xinFail (d : Dev) (cause : Nat) : Dev :=
  let cref := d.get F.CLK_MON_REF_CREF
  let cnt := d.get F.CLK_MON_LAST_COUNT
  let roscLost := d.phase == phaseRoscLost
  let d := d.killAssert 8
  let d := { d with clk := { d.clk with xinFailed := true, goodRun := 0, badRun := 0 } }
  let d := ((d.put F.CLK_MON_STAT_XIN_OK 0).put F.CLK_INT_STAT_XIN_LOST 1).stopPlls
  if roscLost then
    let d := (d.assertRetractN).post 0x0107 [cause, cnt, cref]
    { d.linkDetect 1 with clk := { d.clk with stopped := true, faultLow := true } }
  else
    let d := d.put F.CLK_MON_STAT_PHASE phaseXinLost
    let d := ((d.selfRefresh 0).linkDetect 1).post 0x0107 [cause, cnt, cref]
    (d.each (List.range 29) Dev.islandToRosc).put F.CLK_MON_STAT_ON_ROSC 1

/-! ### Reset witnesses and the monitor -/

/-- ROSC's amplitude detector is satisfied (R52). -/
def Dev.roscQualified (d : Dev) : Dev :=
  if d.clk.held then d
  else if d.phase == phaseUnarmed then (d.put F.CLK_MON_STAT_ROSC_QUAL 1).armMonitor
  else d

/-- 4,096 slow-ring cycles have been counted since PORST_N release (R52). -/
def Dev.slowRingCounted (d : Dev) : Dev :=
  if d.clk.held || !d.mod.porstHigh then d
  else (d.put F.CLK_MON_STAT_SLOW_COUNTED 1).armMonitor

/-- The slow ring has not reached 4,096 cycles in time (R53). -/
def Dev.slowRingTimeout (d : Dev) (reached : Nat) : Dev :=
  if d.clk.held || !d.on F.CLK_MON_STAT_ROSC_QUAL || d.on F.CLK_MON_STAT_SLOW_COUNTED then d
  else d.holdReset 0x0106 [reached]

/-- A window of the learning phase (R54, R61). -/
def Dev.learnWindow (d : Dev) (c : Nat) : Dev :=
  let ok := inStartBand c
  let d := (d.flag F.CLK_MON_STAT_XIN_OK ok).flag F.CLK_MON_STAT_DISAGREE (!ok)
  if d.clk.awaitXin then
    if ok then { d with clk := { d.clk with awaitXin := false, learnN := 0, learnSum := 0 } } else d
  else if ok then
    if d.clk.learnN < 64 then
      { d with clk := { d.clk with learnN := d.clk.learnN + 1, learnSum := d.clk.learnSum + c } }
    else d
  else { d with clk := { d.clk with voteDue := true } }

/-- A window of the tracking phase (R56 to R58). -/
def Dev.trackWindow (d : Dev) (c : Nat) : Dev :=
  let cref := d.get F.CLK_MON_REF_CREF
  let ok := nearCref cref c
  let d := (d.flag F.CLK_MON_STAT_XIN_OK ok).flag F.CLK_MON_STAT_DISAGREE (!ok)
  if ok then
    let d := { d with clk := { d.clk with badRun := 0 } }
    if gap c cref ≤ cref / 100 then
      let m := movedCref cref d.clk.crefFrac c
      { d.put F.CLK_MON_REF_CREF m.1 with clk := { d.clk with crefFrac := m.2 } }
    else d
  else if d.clk.badRun + 1 < 2 then { d with clk := { d.clk with badRun := d.clk.badRun + 1 } }
  else if d.on F.CLK_MON_STAT_ROSC_QUAL then d.xinFail 1
  else d

/-- A window after XIN was declared failed (R69). -/
def Dev.lostWindow (d : Dev) (c : Nat) : Dev :=
  let ok := nearCref (d.get F.CLK_MON_REF_CREF) c
  let d := (d.flag F.CLK_MON_STAT_XIN_OK ok).flag F.CLK_MON_STAT_DISAGREE (!ok)
  { d with clk := { d.clk with goodRun := if ok then d.clk.goodRun + 1 else 0 } }

/-- A 1,024-ROSC-cycle window ends with `c` XIN cycles. While a vote is due no window is judged (log entry 122). -/
def Dev.monitorWindow (d : Dev) (c : Nat) : Dev :=
  if d.clk.held || d.clk.stopped then d
  else if d.phase == phaseLearning then
    if d.clk.voteDue then d else (d.put F.CLK_MON_LAST_COUNT c).learnWindow c
  else if d.phase == phaseTracking then (d.put F.CLK_MON_LAST_COUNT c).trackWindow c
  else if d.phase == phaseXinLost then (d.put F.CLK_MON_LAST_COUNT c).lostWindow c
  else d

/-- The learning phase ends after 64 windows without disagreement (R55); the islands outside AON are released on XIN and
the boot ROM enables the PLLs (text before R62). -/
def Dev.learningEnd (d : Dev) : Dev :=
  if d.clk.held || d.phase != phaseLearning || d.clk.voteDue || d.clk.learnN < 64 then d
  else
    let cref := roundDiv d.clk.learnSum 64
    let d := ((d.put F.CLK_MON_REF_CREF cref).put F.CLK_MON_STAT_PHASE phaseTracking).put F.CLK_MON_STAT_XIN_OK 1
    let d := { d with clk := { d.clk with crefFrac := 0, badRun := 0, released := true } }
    let d := d.post 0x0101 [d.get F.CLK_MON_REF_CREF]
    d.each (List.range 5) (fun d p => (d.putI F.CLK_PLL_CTRL_EN p 1).startLock p)

/-- XIN is out of band at start: reset stays, learning waits for a window in the band (R61, first row). `xin` and `rosc` are the counts that
event 0x0102 carries. -/
def Dev.xinOutAtStart (d : Dev) (xin rosc : Nat) : Dev :=
  let noted := d.clk.noted0102
  let d := { d with clk := { d.clk with voteDue := false, awaitXin := true, learnN := 0, learnSum := 0, noted0102 := true } }
  if noted then d else d.post 0x0102 [xin, rosc]

/-- A start-up vote over 64 slow-ring cycles completes (R60, R61). -/
def Dev.clockVote (d : Dev) (xin rosc : Nat) : Dev :=
  if d.clk.held || d.phase != phaseLearning || !d.clk.voteDue then d
  else
    let d := (d.put F.CLK_VOTE_STAT_XIN_CNT xin).put F.CLK_VOTE_STAT_ROSC_CNT rosc
    match voteXinOk xin, voteRoscOk rosc with
    | false, true => (d.put F.CLK_VOTE_STAT_OUTCOME 1).xinOutAtStart xin rosc
    | true, false => (d.put F.CLK_VOTE_STAT_OUTCOME 2).holdReset 0x0103 [xin, rosc]
    | false, false => (d.put F.CLK_VOTE_STAT_OUTCOME 3).holdReset 0x0105 [xin, rosc]
    | true, true =>
      let n := d.get F.CLK_VOTE_STAT_UNRESOLVED + 1
      let d := (d.put F.CLK_VOTE_STAT_OUTCOME 4).put F.CLK_VOTE_STAT_UNRESOLVED n
      if 4 ≤ n then d.holdReset 0x0104 [xin, rosc]
      else { d with clk := { d.clk with voteDue := false, learnN := 0, learnSum := 0 } }

/-- XIN is out of band without a vote (R59, R61): the counts of event 0x0102 are free values, and CLK_VOTE_STAT keeps the last vote (log entry
122). -/
def Dev.xinOutUncounted (d : Dev) : Dev :=
  let x := d.fresh
  let r := x.2.fresh
  r.2.xinOutAtStart x.1 r.1

/-- No XIN rising edge for 8 ROSC cycles (R59). -/
def Dev.xinEdgeTimeout (d : Dev) : Dev :=
  if d.clk.held || d.clk.stopped then d
  else if d.phase == phaseLearning then
    if d.clk.awaitXin then d else d.xinOutUncounted
  else if d.phase == phaseTracking || d.phase == phaseRoscLost then d.xinFail 0
  else if d.phase == phaseXinLost then { d with clk := { d.clk with goodRun := 0 } }
  else d

/-- 64 consecutive good windows requalify XIN; the kept enables start their lock attempts (R69). -/
def Dev.xinRequalified (d : Dev) : Dev :=
  if d.phase != phaseXinLost || d.clk.goodRun < 64 then d
  else
    let d := { d with clk := { d.clk with xinFailed := false, goodRun := 0, badRun := 0 } }
    let d := ((d.put F.CLK_MON_STAT_PHASE phaseTracking).put F.CLK_INT_STAT_XIN_REGAINED 1).killRelease 8
    let d := d.post 0x0108 [d.get F.CLK_MON_REF_CREF]
    d.each (List.range 5) (fun d p => if d.onI F.CLK_PLL_CTRL_EN p then d.startLock p else d)

/-- ROSC's amplitude is lost in tracking with XIN good (R82). -/
def Dev.roscAmplitudeLost (d : Dev) : Dev :=
  if d.clk.held || d.clk.stopped then d
  else
    let d := d.put F.CLK_MON_STAT_ROSC_QUAL 0
    if d.phase == phaseTracking then
      ((d.put F.CLK_MON_STAT_PHASE phaseRoscLost).put F.CLK_INT_STAT_ROSC_LOST 1).post 0x0109
        [d.get F.CLK_MON_LAST_COUNT]
    else d

/-- In ROSC_LOST, XIN is judged by the limits of R60 against the slow ring (R82). A failure has cause 1, and COUNT is CLK_MON_LAST's (log entry
123). -/
def Dev.coarseXinCheck (d : Dev) (xin : Nat) : Dev :=
  if d.phase != phaseRoscLost || d.clk.stopped then d
  else if voteXinOk xin then d.put F.CLK_MON_STAT_XIN_OK 1
  else d.xinFail 1

/-! ### PLLs -/

/-- A write of 1 to CLK_PLLp_CTRL.EN (R63, R69). -/
def Dev.pllEnable (d : Dev) (p : Nat) : Dev :=
  if d.onI F.CLK_PLL_STAT_LOCKED p || at' d.clk.pllRun p false then d
  else
    let d := ((d.putI F.CLK_PLL_CTRL_EN p 1).putI F.CLK_PLL_STAT_ATTEMPTS p 0).putI F.CLK_PLL_STAT_FAILED p 0
    if d.clk.xinFailed then d else d.startLock p

/-- Does an island take its clock from PLL `p`, or is it switching to it (R82)? -/
def Dev.pllInUse (d : Dev) (p : Nat) : Bool :=
  (List.range 29).any (fun i => islandPll i == some p &&
    (d.getI F.CLK_ISL_STAT_SRC_NOW i == 0 || at' d.clk.swTo i none == some 0))

/-- A write of 0 to CLK_PLLp_CTRL.EN (R82). -/
def Dev.pllDisable (d : Dev) (p : Nat) : Dev :=
  if d.pllInUse p then d.putI F.CLK_PLL_STAT_EN_REFUSED p 1
  else
    let d := (d.putI F.CLK_PLL_CTRL_EN p 0).putI F.CLK_PLL_STAT_LOCKED p 0
    { d with clk := { d.clk with pllRun := d.clk.pllRun.set p false, pllGood := d.clk.pllGood.set p 0 } }

/-- The islands of a PLL that has locked during bring-up leave XIN for it (R65 step 6, R879). -/
def Dev.bringUpIslands (d : Dev) (p : Nat) : Dev :=
  if d.mod.mode == .boot && d.get F.CFG_STAT_PHASE == 0 && !d.on F.MOD_STAT_WARM then
    d.each (List.range 29) (fun d i =>
      if islandPll i == some p && d.getI F.CLK_ISL_STAT_SRC_NOW i == 1 && !d.onI F.CLK_ISL_STAT_SWITCHING i then
        (d.putI F.CLK_ISL_CTRL_SRC i 0).startSwitch i 0
      else d)
  else d

/-- A lock-check window of PLL `p` ends with a divided count (R62). -/
def Dev.pllLockWindow (d : Dev) (p c : Nat) : Dev :=
  if !at' d.clk.pllRun p false then d
  else if nearCref (d.get F.CLK_MON_REF_CREF) c then
    let g := at' d.clk.pllGood p 0 + 1
    if g < 4 then { d with clk := { d.clk with pllGood := d.clk.pllGood.set p g } }
    else
      let d := { d with clk := { d.clk with pllRun := d.clk.pllRun.set p false, pllGood := d.clk.pllGood.set p 0 } }
      (d.putI F.CLK_PLL_STAT_LOCKED p 1).bringUpIslands p
  else { d with clk := { d.clk with pllGood := d.clk.pllGood.set p 0 } }

/-- A lock attempt has not succeeded within 2^14 ROSC cycles (R63); EN stays as written after the third (log entry 124). -/
def Dev.pllLockTimeout (d : Dev) (p : Nat) : Dev :=
  if !at' d.clk.pllRun p false then d
  else
    let n := d.getI F.CLK_PLL_STAT_ATTEMPTS p + 1
    let d := (d.putI F.CLK_PLL_STAT_ATTEMPTS p n).put F.CLK_INT_STAT_PLL_FAIL 1
    if n < 3 then (d.startLock p).post 0x010A [p, n]
    else
      let d := { d with clk := { d.clk with pllRun := d.clk.pllRun.set p false, pllGood := d.clk.pllGood.set p 0 } }
      (d.putI F.CLK_PLL_STAT_FAILED p 1).post 0x010B [p]

/-! ### Switching and gating -/

/-- A write to CLK_ISL_CTRL of the selected island is ignored (R64, R75, R82, R83). -/
def Dev.islandIgnore (d : Dev) (i : Nat) : Dev := d.putI F.CLK_ISL_STAT_WRITE_IGNORED i 1

/-- A write of `src` to CLK_ISL_CTRL.SRC (R64, R70, R75, R82, R83). -/
def Dev.islandSwitch (d : Dev) (src : Nat) : Dev :=
  let i := d.get F.CLK_ISL_SEL_ISLAND
  if 0x1C < i then d
  else if aonIsland i || src == 3 || d.onI F.CLK_ISL_STAT_GATED i || d.onI F.CLK_ISL_STAT_GATE_PENDING i
      || d.onI F.CLK_ISL_STAT_SWITCHING i then d.islandIgnore i
  else
    match src, islandPll i with
    | 0, some p =>
      if d.onI F.CLK_PLL_STAT_LOCKED p then (d.putI F.CLK_ISL_CTRL_SRC i 0).startSwitch i 0 else d.islandIgnore i
    | s, _ => (d.putI F.CLK_ISL_CTRL_SRC i s).startSwitch i s

/-- Do the islands outside AON still run on ROSC (CLK_MON_STAT.ON_ROSC)? An island that is gated or off counts by its source (log entry 121). -/
def Dev.anyOnRosc (d : Dev) : Bool :=
  (List.range 29).any (fun i => !aonIsland i && d.getI F.CLK_ISL_STAT_SRC_NOW i == 2)

/-- The island receives its first edge of the new source (R70). -/
def Dev.islandSwitched (d : Dev) (i : Nat) : Dev :=
  match at' d.clk.swTo i none with
  | none => d
  | some src =>
    let pend := at' d.clk.gateAfter i false
    let d := { d with clk := { d.clk with swTo := d.clk.swTo.set i none, gateAfter := d.clk.gateAfter.set i false } }
    let d := ((d.putI F.CLK_ISL_STAT_SRC_NOW i src).putI F.CLK_ISL_STAT_SWITCHING i 0).put F.CLK_INT_STAT_SWITCH_DONE 1
    let d := if pend then d.putI F.CLK_ISL_STAT_GATE_PENDING i 1 else d
    let d := d.selfRefreshExit
    if d.anyOnRosc then d else d.put F.CLK_MON_STAT_ON_ROSC 0

/-- A write of 1 to CLK_ISL_CTRL.GATE (R72, R75, R82). -/
def Dev.islandGate (d : Dev) : Dev :=
  let i := d.get F.CLK_ISL_SEL_ISLAND
  if 0x1C < i then d
  else if aonIsland i then d.islandIgnore i
  else
    let d := d.putI F.CLK_ISL_CTRL_GATE i 1
    if d.onI F.CLK_ISL_STAT_GATED i then d
    else if d.onI F.CLK_ISL_STAT_SWITCHING i then { d with clk := { d.clk with gateAfter := d.clk.gateAfter.set i true } }
    else d.putI F.CLK_ISL_STAT_GATE_PENDING i 1

/-- The port parts of RCH and WCH an ungate restarts: those whose CHPn is powered (R882). -/
def Dev.partsAfterUngate (d : Dev) (i : Nat) : List Bool :=
  (List.range 8).map (fun k =>
    if (k < 4 && i == 0x06) || (4 ≤ k && i == 0x08) then
      at' d.clk.parts k false && (!d.powered (3 + k % 4) || !(at' d.clk.drain (3 + k % 4) []).isEmpty)
    else at' d.clk.parts k false)

/-- The island's clock restarts. -/
def Dev.ungate (d : Dev) (i : Nat) : Dev :=
  let d := (d.putI F.CLK_ISL_STAT_GATED i 0).putI F.CLK_ISL_STAT_GATE_PENDING i 0
  { d with clk := { d.clk with gateAfter := d.clk.gateAfter.set i false, parts := d.partsAfterUngate i } }

/-- A write of 0 to CLK_ISL_CTRL.GATE (R75, R83). -/
def Dev.islandUngate (d : Dev) : Dev :=
  let i := d.get F.CLK_ISL_SEL_ISLAND
  if 0x1C < i then d
  else if aonIsland i then d.islandIgnore i
  else
    let d := d.putI F.CLK_ISL_CTRL_GATE i 0
    if i != 0x06 && i != 0x08 && !d.powered (islandDomain i) then d else d.ungate i

/-- CLK_ISL_STAT.GATED of island 0x06 or 0x08: all four port parts are gated (R882). -/
def Dev.allParts (d : Dev) (i : Nat) : Bool := (List.range 4).all (fun n => at' d.clk.parts (partPlace i n) false)

/-- A port part of RCH or WCH has drained (R78, R882). -/
def Dev.partDrained (d : Dev) (i part : Nat) : Dev :=
  let dom := 3 + part
  let draining := (at' d.clk.drain dom []).contains i
  if !draining && !d.onI F.CLK_ISL_STAT_GATE_PENDING i then d
  else
    let d := { d with clk := { d.clk with
      parts := d.clk.parts.set (partPlace i part) true,
      drain := d.clk.drain.set dom ((at' d.clk.drain dom []).filter (fun x => x != i)) } }
    if d.allParts i then (d.putI F.CLK_ISL_STAT_GATED i 1).putI F.CLK_ISL_STAT_GATE_PENDING i 0 else d

/-- The island's bus interface has drained and its clock stops (R72, R78). -/
def Dev.islandDrained (d : Dev) (i part : Nat) : Dev :=
  if i = 0x06 ∨ i = 0x08 then d.partDrained i part
  else
    let dom := islandDomain i
    let l := at' d.clk.drain dom []
    if dom = 8 && d.clk.draining.testBit 8 && d.draining then d
    else if l.contains i || d.onI F.CLK_ISL_STAT_GATE_PENDING i then
      let d := { d with clk := { d.clk with drain := d.clk.drain.set dom (l.filter (fun x => x != i)) } }
      (d.putI F.CLK_ISL_STAT_GATED i 1).putI F.CLK_ISL_STAT_GATE_PENDING i 0
    else d

/-- A domain's power-down is refused (R79). The gate request that software had pending on the island that timed out is refused with it (R73);
those on the domain's other islands stay (log entry 125). -/
def Dev.refusePowerDown (d : Dev) (dom i : Nat) : Dev :=
  let d := if d.onI F.CLK_ISL_STAT_GATE_PENDING i then (d.putI F.CLK_ISL_CTRL_GATE i 0).putI F.CLK_ISL_STAT_GATE_PENDING i 0 else d
  let d := ((d.setBit F.CLK_PD_STAT_REFUSED dom true).setBit F.CLK_PD_STAT_BUSY dom false).setBit F.CLK_PD_CTRL_ON dom true
  let d := { d with clk := { d.clk with drain := d.clk.drain.set dom [], draining := withBit d.clk.draining dom false,
                                        upAfter := d.clk.upAfter.set dom false } }
  let d := d.each (domainIslands dom) (fun d j =>
    if j = 0x06 ∨ j = 0x08 then
      if d.onI F.CLK_ISL_CTRL_GATE j then d
      else { (d.putI F.CLK_ISL_STAT_GATED j 0) with clk := { d.clk with parts := d.clk.parts.set (partPlace j (dom - 3)) false } }
    else if d.onI F.CLK_ISL_CTRL_GATE j then d else d.ungate j)
  ((d.put F.CLK_INT_STAT_PD_REFUSED 1).post 0x010F [dom, i]).porterPowerBack dom

/-- A gate request has not drained within 4,096 island cycles (R73, R79). `part` names the port part of RCH or WCH. -/
def Dev.gateTimeout (d : Dev) (i part outstanding : Nat) : Dev :=
  let dom := if i = 0x06 ∨ i = 0x08 then 3 + part else islandDomain i
  if dom = 8 && d.clk.draining.testBit 8 && d.draining then d
  else if (at' d.clk.drain dom []).contains i then d.refusePowerDown dom i
  else if d.onI F.CLK_ISL_STAT_GATE_PENDING i then
    let d := ((d.putI F.CLK_ISL_CTRL_GATE i 0).ungate i).putI F.CLK_ISL_STAT_GATE_TIMEOUT i 1
    (d.put F.CLK_INT_STAT_GATE_TIMEOUT 1).post 0x010C [i, outstanding]
  else d

/-! ### Power domains -/

/-- A domain starts to drain: its Porter channels pause, its islands are gated (R78, R82). -/
def Dev.startPowerDown (d : Dev) (dom : Nat) : Dev :=
  let d := ((d.setBit F.CLK_PD_CTRL_ON dom false).setBit F.CLK_PD_STAT_BUSY dom true).setBit F.CLK_PD_STAT_REFUSED dom
    (d.bit F.CLK_PD_STAT_REFUSED dom)
  let todo := (domainIslands dom).filter (fun i =>
    if i = 0x06 ∨ i = 0x08 then !at' d.clk.parts (partPlace i (dom - 3)) false else !d.onI F.CLK_ISL_STAT_GATED i)
  let d := { d with clk := { d.clk with draining := withBit d.clk.draining dom true, drain := d.clk.drain.set dom todo } }
  let d := if dom = 8 && !d.harvesting then d.cacheDrain else d
  (d.domainDrain dom).porterPausePower dom

/-- A write of 0 to a CLK_PD_CTRL bit (R77, R78). -/
def Dev.powerDownRequest (d : Dev) (dom : Nat) : Dev :=
  if dom ≤ 1 then d
  else if !d.powered dom && !d.bit F.CLK_PD_STAT_BUSY dom then d.setBit F.CLK_PD_CTRL_ON dom false
  else if d.clk.draining.testBit dom then
    { d with clk := { d.clk with upAfter := d.clk.upAfter.set dom false } }.setBit F.CLK_PD_CTRL_ON dom false
  else if d.bit F.CLK_PD_STAT_BUSY dom then d.setBit F.CLK_PD_CTRL_ON dom false
  else d.startPowerDown dom

/-- A domain that is off is asked on (R80). -/
def Dev.startPowerUp (d : Dev) (dom : Nat) : Dev :=
  (d.setBit F.CLK_PD_CTRL_ON dom true).setBit F.CLK_PD_STAT_BUSY dom true

/-- The domain's islands are gated, its outputs isolated, its supply switch open (R78). -/
def Dev.powerDownDone (d : Dev) (dom : Nat) : Dev :=
  if !d.clk.draining.testBit dom || !(at' d.clk.drain dom []).isEmpty || (dom == 8 && d.draining) then d
  else
    let d := if dom = 8 then d.selfRefresh 1 else d
    let up := at' d.clk.upAfter dom false
    let d := { d with clk := { d.clk with draining := withBit d.clk.draining dom false, upAfter := d.clk.upAfter.set dom false } }
    let d := ((d.setBit F.CLK_PD_STAT_OFF dom true).setBit F.CLK_PD_STAT_BUSY dom false).domainOff dom
    let d := d.post 0x010D [dom]
    if up then d.startPowerUp dom else d

/-- A write of 1 to a CLK_PD_CTRL bit (R80, R82). -/
def Dev.powerUpRequest (d : Dev) (dom : Nat) : Dev :=
  let d := d.setBit F.CLK_PD_CTRL_ON dom true
  if d.clk.draining.testBit dom then { d with clk := { d.clk with upAfter := d.clk.upAfter.set dom true } }
  else if d.powered dom then d
  else d.startPowerUp dom

/-- The domain is powered and CLK_PD_STAT.BUSY reads 0 (R80). -/
def Dev.powerUpDone (d : Dev) (dom : Nat) : Dev :=
  if d.powered dom || !d.bit F.CLK_PD_STAT_BUSY dom then d
  else
    let d := (d.setBit F.CLK_PD_STAT_OFF dom false).setBit F.CLK_PD_STAT_BUSY dom false
    let d := d.each (domainIslands dom) (fun d i =>
      if i = 0x06 ∨ i = 0x08 then
        if d.onI F.CLK_ISL_CTRL_GATE i then d
        else { (d.putI F.CLK_ISL_STAT_GATED i 0) with clk := { d.clk with parts := d.clk.parts.set (partPlace i (dom - 3)) false } }
      else if d.onI F.CLK_ISL_CTRL_GATE i then d else d.ungate i)
    let d := d.selfRefreshExit
    let d := (d.post 0x010E [dom]).porterPowerBack dom
    let d := if 3 ≤ dom && dom ≤ 6 then d.portOn (dom - 3) else d
    if d.bit F.CLK_PD_CTRL_ON dom then d else d.startPowerDown dom

/-! ### The commands -/

/-- ROSC_QUALIFIED (02 R52). -/
def execRoscQualified (s : State) : Out := s.run Dev.roscQualified

/-- SLOW_RING_COUNTED (02 R52). -/
def execSlowRingCounted (s : State) : Out := s.run Dev.slowRingCounted

/-- SLOW_RING_TIMEOUT (02 R53): `reached` slow-ring cycles were counted. -/
def execSlowRingTimeout (reached : Nat) (s : State) : Out := s.run (fun d => d.slowRingTimeout reached)

/-- MONITOR_WINDOW (02 R54 to R58, R69): the window held `count` XIN cycles. -/
def execMonitorWindow (count : Nat) (s : State) : Out := s.run (fun d => d.monitorWindow count)

/-- LEARNING_END (02 R55). -/
def execLearningEnd (s : State) : Out := s.run Dev.learningEnd

/-- CLOCK_VOTE (02 R60, R61): the XIN and ROSC counts over 64 slow-ring cycles. -/
def execClockVote (xin rosc : Nat) (s : State) : Out := s.run (fun d => d.clockVote xin rosc)

/-- XIN_EDGE_TIMEOUT (02 R59). -/
def execXinEdgeTimeout (s : State) : Out := s.run Dev.xinEdgeTimeout

/-- XIN_REQUALIFIED (02 R69). -/
def execXinRequalified (s : State) : Out := s.run Dev.xinRequalified

/-- ROSC_AMPLITUDE_LOST (02 R82). -/
def execRoscAmplitudeLost (s : State) : Out := s.run Dev.roscAmplitudeLost

/-- COARSE_XIN_CHECK (02 R82): XIN cycles over 64 slow-ring cycles. -/
def execCoarseXinCheck (xin : Nat) (s : State) : Out := s.run (fun d => d.coarseXinCheck xin)

/-- PLL_ENABLE_WRITE (02 R63, R69). -/
def execPllEnableWrite (p : Fin 5) (s : State) : Out := s.runCore (fun d => d.pllEnable p.val)

/-- PLL_DISABLE_WRITE (02 R82). -/
def execPllDisableWrite (p : Fin 5) (s : State) : Out := s.runCore (fun d => d.pllDisable p.val)

/-- PLL_LOCK_WINDOW (02 R62): the divided output's count. -/
def execPllLockWindow (p : Fin 5) (count : Nat) (s : State) : Out := s.run (fun d => d.pllLockWindow p.val count)

/-- PLL_LOCK_TIMEOUT (02 R63). -/
def execPllLockTimeout (p : Fin 5) (s : State) : Out := s.run (fun d => d.pllLockTimeout p.val)

/-- ISLAND_SOURCE_SWITCH (02 R64, R70, R75, R82): the SRC written. -/
def execIslandSourceSwitch (src : Fin 4) (s : State) : Out := s.runCore (fun d => d.islandSwitch src.val)

/-- ISLAND_SWITCH_DONE (02 R70). -/
def execIslandSwitchDone (island : Fin 29) (s : State) : Out := s.runCore (fun d => d.islandSwitched island.val)

/-- ISLAND_GATE_REQUEST (02 R72, R75, R82). -/
def execIslandGateRequest (s : State) : Out := s.runCore Dev.islandGate

/-- ISLAND_UNGATE (02 R72, R75). -/
def execIslandUngate (s : State) : Out := s.runCore Dev.islandUngate

/-- ISLAND_DRAINED (02 R72, R78, R882): `part` is the port part where the island is RCH or WCH. -/
def execIslandDrained (island : Fin 29) (part : Fin 4) (s : State) : Out :=
  s.runCore (fun d => d.islandDrained island.val part.val)

/-- GATE_TIMEOUT (02 R73, R79). -/
def execGateTimeout (island : Fin 29) (part : Fin 4) (outstanding : Nat) (s : State) : Out :=
  s.runCore (fun d => d.gateTimeout island.val part.val outstanding)

/-- POWER_DOWN_REQUEST (02 R77, R78). -/
def execPowerDownRequest (dom : Fin 10) (s : State) : Out := s.runCore (fun d => d.powerDownRequest dom.val)

/-- POWER_DOWN_DONE (02 R78). -/
def execPowerDownDone (dom : Fin 10) (s : State) : Out := s.run (fun d => d.powerDownDone dom.val)

/-- POWER_UP_REQUEST (02 R80). -/
def execPowerUpRequest (dom : Fin 10) (s : State) : Out := s.runCore (fun d => d.powerUpRequest dom.val)

/-- POWER_UP_DONE (02 R80). -/
def execPowerUpDone (dom : Fin 10) (s : State) : Out := s.run (fun d => d.powerUpDone dom.val)

/-- DROPWR_CLEAR (02 R83). -/
def execDropwrClear (s : State) : Out := s.runCore (fun d => d.put F.CLK_PD_DROPWR_COUNT 0)

end Sys2Proof.Machine
end

