-- ==== Sys2Proof/Machine/GoOps.lean ====
section
/-! DEFINITION. What a GO is checked against and what acceptance does (spec/15 R598 to R605, spec/16 R624 to R631, R650, R651), with the
admission of committed streams that the configuration load shares (spec/03 R116 to R120). -/

namespace Sys2Proof.Machine

/-! ### Admission (03 R116 to R120) -/

/-- A committed-stream record of R116 from its 32 bytes, with whether its reserved bits are zero and its fields inside their limits. -/
def streamRecord (b : List Nat) : Stream × Bool :=
  let flags := leAt b 2 2
  let s : Stream := { id := leAt b 0 2, write := flags.testBit 0, fua := flags.testBit 1, bw := leAt b 4 4, req := leAt b 8 4,
                      deadline := leAt b 12 4, start := leAt b 16 8, count := leAt b 24 8 }
  (s, s.id ≤ 63 && flags ≤ 3 && 1 ≤ s.bw && s.req % 4 == 0 && 4 ≤ s.req && s.req ≤ 16384 && decide (s.start < 2 ^ 48) && 1 ≤ s.count)

/-- C of R117. -/
def Dev.admitCapacity (d : Dev) : Nat := d.admitStreams * d.innerRate * d.policy 0x0201 205 / 256

/-- T_u of R117 for a set, µs. -/
def Dev.serviceTime (d : Dev) (l : List Stream) : Nat :=
  d.worstSeek + ceilDiv 60000000 d.floorRpm + ceilDiv (l.foldl (fun m s => max m s.req) 0 * 1024 * 1000) d.innerRate

/-- k of R117 for a set. -/
def Dev.serviceRounds (d : Dev) (l : List Stream) : Nat := ceilDiv (l.length - 1) d.admitStreams

/-- Does a stream pass the latency test of R119 in a set? -/
def Dev.latencyOk (d : Dev) (l : List Stream) (s : Stream) : Bool :=
  (s.write && !s.fua) || decide ((d.serviceRounds l + 1) * d.serviceTime l ≤ s.deadline)

/-- The record at which the running sum of D(s) first exceeds C (R120). -/
def Dev.overCapacity (d : Dev) : List Stream → Nat → Nat → Option Nat
  | [], _, _ => none
  | s :: l, sum, i =>
    let sum := sum + d.streamDemand s
    if d.admitCapacity < sum then some i else d.overCapacity l sum (i + 1)

/-- The first failing reason of R120 with its record, for records in order; none where the set is admitted. -/
def Dev.admitCheck (d : Dev) (l : List (Stream × Bool)) : Option (Nat × Nat) :=
  let ss := l.map (fun x => x.1)
  let at? := fun (p : Nat → Bool) => (List.range l.length).find? p
  let nth := fun i => (ss[i]?).getD { id := 0, write := false, fua := false, bw := 0, req := 0, deadline := 0, start := 0, count := 0 }
  if 64 < l.length || l.isEmpty then some (1, 0)
  else
    match at? (fun i => !((l.map (fun x => x.2)).getD i true)) with
    | some i => some (2, i)
    | none =>
      match at? (fun i => (ss.take i).any (fun s => s.id == (nth i).id)) with
      | some i => some (3, i)
      | none =>
        match at? (fun i => d.userSectors < (nth i).start + (nth i).count) with
        | some i => some (4, i)
        | none =>
          match d.overCapacity ss 0 0 with
          | some i => some (5, i)
          | none => (at? (fun i => !d.latencyOk ss (nth i))).map (fun i => (6, i))

/-- C less the sum of D(s), kB/s. -/
def Dev.headroom (d : Dev) (l : List Stream) : Nat := d.admitCapacity - (l.map d.streamDemand).sum

/-! ### The checks of a GO -/

/-- REASON values of 15 R599 and 16 R630. -/
def whyBadGo : Nat := 0x01
def whyPaused : Nat := 0x02
def whyMode : Nat := 0x03
def whyNoRing : Nat := 0x04
def whyNoContext : Nat := 0x05

/-- Opcodes of 16 R626. -/
def knownOpcode (o : Nat) : Bool :=
  [opRead, opWrite, opFlush, opRelease, opVerify, opAbort, opStreamOpen, opStreamClose, opSealBand, opIdentify, opLogRead, opFeatureGet,
   opFeatureSet, opDownload, opActivate, opResync, opAttest].contains o || 0xC0 ≤ o

/-- Does recovery hold or SAFE accept the opcode (03 R113)? -/
def holdAccepts (o : Nat) : Bool := [opIdentify, opLogRead, opResync, opAttest, opDownload, opActivate].contains o

/-- Does the mode refuse an opcode (15 R599, 04 R130, R148 step 3)? -/
def Dev.modeRefuses (d : Dev) (o : Nat) : Bool :=
  d.harvesting ||
    match d.mod.mode with
    | .boot => if d.mod.recovery then !holdAccepts o else d.get F.CFG_STAT_PHASE != 5
    | .safe => !holdAccepts o
    | _ => false

/-- The features of 16 R660. -/
def knownFeature (f : Nat) : Bool := [0x01, 0x02, 0x03, 0x04, 0x80, 0x81, 0x82, 0x83].contains f

/-- Whether an opcode needs a data list; none where it may have one (16 R626). -/
def Ctx.needsList (c : Ctx) : Option Bool :=
  let o := c.opcode
  if [opRead, opWrite, opIdentify, opLogRead, opDownload, opAttest].contains o then some true
  else if o = opResync then some (c.p2 != 0)
  else some false

def Ctx.p3 (c : Ctx) : Nat := c.word 10 + c.word 11 * 2 ^ 32

/-- The data-list fields of a command (16 R624, R626). -/
def Ctx.listOk (c : Ctx) : Bool :=
  match c.needsList with
  | some true => c.dlist % 16 == 0 && 1 ≤ c.dcount && c.dcount ≤ 4096
  | some false => c.dlist == 0 && c.dcount == 0
  | none => true

/-- The next offset and the series of an FW_DOWNLOAD (16 R661, R662). -/
def Dev.downloadOk (d : Dev) (c : Ctx) : Bool :=
  c.p0 % 4096 == 0 && c.p1 % 4096 == 0 && 4096 ≤ c.p1 && c.p1 ≤ 2 ^ 24 && c.p2 ≤ 3 &&
    (if c.p2.testBit 0 then c.p0 == 0 else d.cmd.series && c.p0 == d.cmd.written)

/-- The parameters of R626. -/
def Dev.paramsOk (d : Dev) (c : Ctx) : Bool :=
  let o := c.opcode
  if o = opStreamOpen then c.p0 == 0 && c.streamId == 0
  else
    c.p3 == 0 && c.listOk && (c.inStream && c.streamId ≤ 63 || c.streamId == 0) &&
    (if [opRead, opWrite, opVerify].contains o then decide (c.p0 < 2 ^ 48) && 1 ≤ c.p1 && c.p1 ≤ 4096 && c.p2 == 0
     else if o = opRelease then decide (c.p0 < 2 ^ 48) && 1 ≤ c.p1 && c.p1 ≤ 2 ^ 36 && c.p2 == 0
     else if o = opFlush || o = opIdentify then c.p0 == 0 && c.p1 == 0 && c.p2 == 0
     else if o = opAbort then decide (c.p0 < 2 ^ 20) && c.p1 == 0 && c.p2 == 0
     else if o = opStreamClose then decide (c.p0 < 64) && c.p1 == 0 && c.p2 == 0
     else if o = opSealBand then
       decide (c.p0 < 2 ^ 48) && c.p0 % 256 == 0 && c.p1 % 256 == 0 && 256 ≤ c.p1 && c.p1 ≤ 2 ^ 28 && c.p2 ≤ 1
     else if o = opLogRead then c.p0 ≤ 239 && c.p1 == 0 && c.p2 == 0
     else if o = opFeatureGet then knownFeature c.p0 && c.p1 == 0 && c.p2 == 0
     else if o = opFeatureSet then knownFeature c.p0 && decide (c.p1 < 2 ^ 32) && c.p2 == 0
     else if o = opDownload then d.downloadOk c
     else if o = opActivate then 1 ≤ c.p0 && c.p0 ≤ 600000 && c.p1 == 0 && c.p2 == 0
     else if o = opResync then c.p0 == 0 && c.p1 == 0 && c.p2 ≤ 3
     else decide (c.p0 < 2 ^ 32) && c.p2 == 0 && (c.p0 == 0 || c.p1 == 0))

/-- Is presence wanted and not there (18 R756, R757)? A lock of DEBUG_UNLOCK needs none. -/
def Dev.lacksPresence (d : Dev) (c : Ctx) : Bool :=
  (c.opcode == opActivate || (c.opcode == opFeatureSet && 0x80 ≤ c.p0 && !(c.p0 == 0x81 && c.p1 == 0)))
    && (!d.on F.PRS_STAT_PRESENT || d.on F.PRS_STAT_TAMPER)

/-- A WRITE's stream flags: FUA of the stream's record makes each of its writes FUA. -/
def Dev.streamMismatch (d : Dev) (c : Ctx) : Bool :=
  if c.opcode = opStreamClose then (d.stream c.p0).isNone
  else if !c.inStream then false
  else
    match d.stream c.streamId with
    | none => true
    | some s => s.write != (c.opcode == opWrite) || c.lba < s.start || s.start + s.count < c.lba + c.count || s.req < 4 * c.count

/-- Sealed bands that a range touches. -/
def Dev.bandsTouched (d : Dev) (lba count : Nat) : List SealBand :=
  d.drv.seals.filter (fun (s : SealBand) => s.lba < lba + count && lba < s.lba + s.count)

/-- SEALED (R630, R655; 18 R747). -/
def Dev.sealRefuses (d : Dev) (c : Ctx) : Bool :=
  if c.opcode = opRelease then !(d.bandsTouched c.lba c.count).isEmpty
  else if c.opcode = opWrite then
    (d.bandsTouched c.lba c.count).any (fun (s : SealBand) => s.closed || c.lba != s.ptr || s.tagStart < c.lba + c.count)
  else false

/-- SEAL_TABLE (R630). -/
def Dev.sealTableRefuses (d : Dev) (c : Ctx) : Bool :=
  c.opcode == opSealBand && c.p2 == 0 && (64 ≤ d.drv.seals.length || !(d.bandsTouched c.lba c.count).isEmpty)

/-- Does an activation run (R630, R663)? -/
def Dev.activating (d : Dev) : Bool := d.cmd.act.isSome || d.cmd.ctxs.any (fun (c : Ctx) => c.active && c.opcode == opActivate)

def Dev.exclusive (d : Dev) (c : Ctx) : Bool :=
  if c.opcode = opDownload then d.activating || d.cmd.ctxs.any (fun (x : Ctx) => x.active && x.opcode == opDownload)
  else if c.opcode = opActivate then d.activating || d.cmd.series
  else false

/-- STREAM_OPEN's record (R626). -/
def Ctx.record (c : Ctx) : Stream × Bool := streamRecord ((c.words.drop 4).flatMap (leBytes 4))

/-- The reason of R650 for a STREAM_OPEN; zero where it is admitted. -/
def Dev.openReason (d : Dev) (c : Ctx) : Nat :=
  match d.admitCheck (d.streams.map (fun s => (s, true)) ++ [c.record]) with
  | none => 0
  | some r => 0x20 + r.1

/-- The first failing check of R630; zero for none. -/
def Dev.commandReason (d : Dev) (c : Ctx) : Nat :=
  let o := c.opcode
  let vendor := 0xC0 ≤ o
  let allowed := 2 + (if o = opWrite then 1 else 0) + (if o = opRead ∨ o = opWrite then 4 else 0)
  if !knownOpcode o then 0x10
  else if vendor && !(d.policy 0x4101 0 + 2 ^ 32 * d.policy 0x4102 0).testBit (o - 0xC0) then 0x11
  else if c.flags &&& allowed != c.flags || (!vendor && c.word 0 / 2 ^ 24 != 0) then 0x12
  else if 2 ^ 20 ≤ c.tag then 0x13
  else if d.tagInUse c.tag then 0x14
  else if vendor then 0
  else if !d.paramsOk c then 0x15
  else if [opRead, opWrite, opRelease, opVerify, opSealBand].contains o && d.userSectors < c.lba + c.count then 0x16
  else if d.lacksPresence c then 0x17
  else if d.streamMismatch c then 0x18
  else if d.sealRefuses c then 0x19
  else if d.sealTableRefuses c then 0x1A
  else if d.exclusive c then 0x1B
  else if o = opActivate && !d.mod.recovery && !d.cmd.checked then 0x1C
  else if o = opStreamOpen then d.openReason c
  else 0

/-- The first failing check of a GO, R599 and then R630; zero for none. -/
def Dev.goReason (d : Dev) (c : Ctx) (reserved : Bool) : Nat :=
  if reserved then whyBadGo
  else if d.on F.TWN_CTRL_PAUSE then whyPaused
  else if d.modeRefuses c.opcode then whyMode
  else if !d.onI F.HIF_RING_CFG_ENABLE c.ring then whyNoRing
  else if 2 ^ 20 ≤ d.cmd.ctxs.length then whyNoContext
  else d.commandReason c

/-! ### The answer -/

/-- Refusals of a REASON since its last record. -/
def Dev.refusalCount (d : Dev) (why : Nat) : Nat := ((d.cmd.refusals.find? (fun x => x.1 == why)).map (fun x => x.2)).getD 0

def Dev.setRefusals (d : Dev) (why n : Nat) : Dev :=
  let l := d.cmd.refusals.filter (fun x => x.1 != why)
  { d with cmd := { d.cmd with refusals := if n = 0 then l else l ++ [(why, n)] } }

/-- A refused GO (15 R600; 16 R631 text: at most one 0x4101 per second and REASON). -/
def Dev.refuseGo (d : Dev) (c : Ctx) (why : Nat) : Dev :=
  let d := (d.setWin c.window (fun w => { w with answer := 2, reason := why, phase := 2, lo := 0, hi := 0 })).inc F.TWN_REFUSED_COUNT
  let d := if why = 0x17 then d.post 0x5006 [c.opcode, if c.opcode = opFeatureSet then c.p0 % 256 else 0, d.get F.PRS_STAT_TAMPER] else d
  let d := if 0x21 ≤ why then d.post 0x410B [c.record.1.id, why] else d
  let n := d.refusalCount why + 1
  if d.cmd.noted.contains why then d.setRefusals why n
  else
    let d := (d.setRefusals why 0).post 0x4101 [c.opcode, why, c.window, n]
    { d with cmd := { d.cmd with noted := d.cmd.noted ++ [why] } }

/-- A covered command (16 R651): with the stream's bytes of the last DEADLINE µs, it is inside the bound. -/
def Dev.coverStream (d : Dev) (c : Ctx) : Bool × Dev :=
  match (if c.inStream then d.stream c.streamId else none) with
  | none => (false, d)
  | some s =>
    let now := d.nowUs
    let recent := s.recent.filter (fun x => now < x.1 + s.deadline)
    let bytes := 4096 * c.count
    let ok := (recent.map (fun x => x.2)).sum + bytes ≤ s.bw * s.deadline / 1000 + s.req * 1024
    (ok, { d with streams := d.streams.map (fun (x : Stream) => if x.id == s.id then { x with recent := recent ++ [(now, bytes)] } else x) })

/-- An admitted stream is open from acceptance (16 R650; 04 R134, event 0x410A). -/
def Dev.openStream (d : Dev) (c : Ctx) : Dev :=
  let s := { c.record.1 with byHost := true }
  let d := { d with streams := d.streams ++ [s] }
  ((d.post 0x410A [s.id, s.bw, d.headroom d.streams]).riskCheck).wakeMode 0x410A

/-- What acceptance itself does for an opcode: an append's pointer (R655), the end of rebuilds and rewrites of a WRITE's LBAs (17 R719), a stream, a
download series (R662). -/
def Dev.acceptEffect (d : Dev) (c : Ctx) : Dev :=
  let o := c.opcode
  if o = opStreamOpen then d.openStream c
  else if o = opWrite then
    let d := d.supersede c.lba c.count
    match d.sealBand c.lba with
    | some s => d.setSeal { s with ptr := c.lba + c.count }
    | none => d
  else if o = opDownload && c.p2.testBit 0 then { d with cmd := { d.cmd with series := true, written := 0, image := [], checked := false } }
  else d

/-- An accepted GO (15 R601; 16 R632): the command is copied to a context. -/
def Dev.acceptGo (d : Dev) (c : Ctx) : Dev :=
  let cov := d.coverStream c
  let d := cov.2
  let c := { c with num := d.cmd.accepted + 1, covered := cov.1, acceptUs := d.nowUs, waitOrder := d.drv.acks }
  let d := d.setWin c.window (fun w => { w with answer := 1, reason := 0, phase := (if c.hold then 1 else 0), lo := 0, hi := 0 })
  let d := { d with cmd := { d.cmd with ctxs := d.cmd.ctxs ++ [c], accepted := c.num } }
  ((d.inc F.TWN_ACCEPTED_COUNT).put F.DRV_CONTEXTS_IN_USE d.cmd.ctxs.length).acceptEffect c

/-- GO on a window (R598, R602): ignored while the window is BUSY or DONE. -/
def Dev.go (d : Dev) (w value : Nat) : Dev :=
  let x := d.win w
  if x.phase != 0 then
    ((d.inc F.TWN_IGNORED_COUNT).put F.TWN_INT_STAT_IGNORED 1).post 0x4008 [w, x.phase]
  else
    let c : Ctx := { num := 0, words := x.words, window := w, ring := value % 16, hold := value.testBit 29 }
    let why := d.goReason c (value / 16 % 2 ^ 25 != 0)
    if why = 0 then d.acceptGo c else d.refuseGo c why

/-- ACK on a window (R604). -/
def Dev.ackWindow (d : Dev) (w : Nat) : Dev :=
  if (d.win w).phase != 2 then d
  else d.setWin w (fun x => { x with phase := 0, answer := 0, reason := 0, early := 0, lo := 0, hi := 0 })

/-- A write of TWN_W_GO (R595, R602, R604): ACK counts before GO; it takes effect only with all four bytes enabled. -/
def Dev.writeGo (d : Dev) (w value : Nat) (all : Bool) : Dev :=
  if !all then d
  else
    let d := if value.testBit 30 then d.ackWindow w else d
    if value.testBit 31 then d.go w value else d

end Sys2Proof.Machine
end

