-- ==== Sys2Proof/Machine/Hif.lean ====
section
/-! DEFINITION. The commands of spec/15: the link, its errors and resets, the task windows, the completion rings, the status mirror. -/

namespace Sys2Proof.Machine

/-! ### Lanes and width (R586, R588) -/

/-- The physical lanes of a width, as one bit each (R586). -/
def widthLanes (w : Nat) (rev : Bool) : Nat := maskOf (if rev then (List.range w).map (fun i => 7 - i) else List.range w)

/-- The widest width that avoids every failed lane; zero where none does. -/
def Dev.widest (d : Dev) (rev : Bool) : Nat :=
  (([8, 4, 2, 1].find? (fun w => widthLanes w rev &&& d.get F.HIF_LANES_FAILED == 0))).getD 0

/-- RATE of HOST_GTS (R587, R620). -/
def Dev.topRate (d : Dev) : Nat :=
  let g := d.policy 0x4001 320
  if g ≤ 25 then 1 else if g ≤ 50 then 2 else if g ≤ 80 then 3 else if g ≤ 160 then 4 else 5

/-- The link reaches L0 (R591): never while HOST is off, the device runs on ROSC or PLL3 is not locked (02 R68, R879). -/
def Dev.linkToL0 (d : Dev) (w r : Nat) (rev : Bool) : Dev :=
  let width := min w (d.widest rev)
  if !d.powered 9 || d.on F.CLK_MON_STAT_ON_ROSC || !d.onI F.CLK_PLL_STAT_LOCKED 3 || width = 0 then d
  else
    let rate := min r d.topRate
    let oldW := d.get F.HIF_LINK_WIDTH
    let oldR := d.get F.HIF_LINK_RATE
    let d := ((d.put F.HIF_LINK_STATE linkL0).put F.HIF_LINK_WIDTH width).put F.HIF_LINK_RATE rate
    let d := ((d.flag F.HIF_LANES_REVERSED rev).put F.HIF_INT_STAT_LINK 1).post 0x4001 [width, rate, rev.toNat]
    let d := if rate < oldR then (d.put F.HIF_INT_STAT_DEGRADE 1).post 0x4004 [oldR, rate] else d
    let d := if width = oldW && rate = oldR then d else d.notice 3
    { d with hif := { d.hif with seenL0 := true } }.linkFlush

/-- A lane has failed (R588, R589, event 0x4003): one outside the width in use is only marked. -/
def Dev.laneFail (d : Dev) (lane : Nat) : Dev :=
  if d.bit F.HIF_LANES_FAILED lane then d
  else
    let rev := d.on F.HIF_LANES_REVERSED
    let old := if d.get F.HIF_LINK_WIDTH = 0 then d.widest rev else d.get F.HIF_LINK_WIDTH
    let d := d.setBit F.HIF_LANES_FAILED lane true
    if !(widthLanes old rev).testBit lane then d
    else
      let new := min old (d.widest rev)
      let d := (d.put F.HIF_INT_STAT_DEGRADE 1).post 0x4003 [lane, old, new]
      if d.get F.HIF_LINK_STATE = linkDetectSt then d
      else ((d.put F.HIF_LINK_STATE linkConfigSt).put F.HIF_LINK_WIDTH new).notice 3

/-- A correctable error with its AER status bit (R620, event 0x4005). -/
def Dev.correctable (d : Dev) (bit : Nat) : Dev :=
  let d := d.inc F.HIF_AER_CE_COUNT
  let n := d.get F.HIF_AER_CE_COUNT
  if n % 1024 = 0 then d.post 0x4005 [n, bit] else d

/-- An uncorrectable error (R620, event 0x4006). -/
def Dev.uncorrectable (d : Dev) (bit header : Nat) : Dev :=
  ((d.inc F.HIF_AER_UE_COUNT).put F.HIF_INT_STAT_UE 1).post 0x4006 [bit, header]

/-- A receiver error: counted against the lane's limit of the present second (R587, R588). -/
def Dev.receiverError (d : Dev) (lane : Nat) : Dev :=
  let n := at' d.hif.laneErr lane 0 + 1
  let d := ({ d with hif := { d.hif with laneErr := d.hif.laneErr.set lane n } }).correctable 0
  if d.policy 0x4002 1024 ≤ n then d.laneFail lane else d

/-- A request of the host: none crosses a link that is down; L1 is left for it (R592). -/
def Dev.request (d : Dev) (f : Dev → Dev) : Dev := if d.linkUp then f d.linkWake else d

/-- A memory request of the host: the function takes it while its Memory Space Enable is set (R585, R593). -/
def Dev.tlp (d : Dev) (f : Dev → Dev) : Dev := if d.hif.memOn then d.request f else d

/-! ### Function reset (R590; 16 R649) -/

/-- A command's reads that are not yet at rung 1 stop at the sector boundary (16 R648, R649). -/
def Dev.stopReads (d : Dev) (n : Nat) : Dev :=
  d.each (d.drv.pieces.filter (fun (p : Piece) => p.why.ctx == some n && p.rung == 0)) (fun d (p : Piece) =>
    match p.hold with
    | none => d.dropPiece p.id
    | some s => (d.mapPiece p.id (fun q => { q with secs := [] })).pieceDone s)

/-- The function resets: `kind` 0 FLR, 1 Hot Reset, 2 DL_Down. -/
def Dev.functionReset (d : Dev) (kind : Nat) : Dev :=
  let count := d.cmd.ctxs.length
  let tags := d.tagsInUse.length
  let early := d.cmd.act.any (fun (a : Activation) => a.step < 5)
  let d := d.each (d.cmd.ctxs.filter (fun (c : Ctx) => c.state == .dispatched)) (fun d (c : Ctx) => d.stopReads c.num)
  let d := { d with drv := { d.drv with wb := d.drv.wb.map (fun (w : WriteBack) => { w with ctx := 0 }),
                                        unprog := d.drv.unprog.map (fun (u : Nat × Nat) => (u.1, 0)) } }
  let d := { d with cmd := { d.cmd with ctxs := [], posted := [], series := false, act := if early then none else d.cmd.act } }
  let d := (d.put F.DRV_CONTEXTS_IN_USE 0).countLocks
  let d := if early then d.setPause false else d
  let d := d.each (d.streams.filter (fun (x : Stream) => x.byHost)) (fun d (x : Stream) => d.streamClosed x.id)
  let d := { d with drv := { d.drv with seals := d.drv.seals.map (fun (b : SealBand) => { b with ptr := b.written }) } }
  let d := d.each (List.range 16) (fun d r => (d.putI F.HIF_RING_CFG_ENABLE r 0).putI F.HIF_RING_STAT_WAITING r 0)
  let d := { d with hif := { d.hif with
    wins := List.replicate 256 {}, armed := List.replicate 16 false, full := List.replicate 16 false, msix := List.replicate 64 {},
    pend := List.replicate 64 false, memOn := false, bars := [0, 0], msixOn := false, fnMask := false, master := false, l1On := false,
    noTimeout := false, mrrs := 512, mps := 128 } }
  let d := d.post 0x4106 [count, tags]
  (d.put F.HIF_INT_STAT_RESET 1).post 0x4007 [kind]

/-! ### Configuration space and messages -/

/-- The base address registers of R593: the dword of the type 0 header, which BAR, log2 of its bytes. -/
def memoryBars : List (Nat × Nat × Nat) := [(4, 0, 14), (6, 1, 20)]

/-- A base address register's two dwords (R593): a 64-bit non-prefetchable memory BAR, whose address bits below its size read zero. -/
def Dev.barDword (d : Dev) (b half : Nat) : Nat :=
  if half = 0 then at' d.hif.bars b 0 % 2 ^ 32 + 4 else at' d.hif.bars b 0 / 2 ^ 32

/-- A write of a dword of a base address register: it keeps the bits from its size up (R593); the dwords of no BAR keep zero. -/
def Dev.barWrite (d : Dev) (dw v : Nat) : Dev :=
  match memoryBars.find? (fun b => b.1 = dw || b.1 + 1 = dw) with
  | none => d
  | some (low, b, k) =>
    let old := at' d.hif.bars b 0
    let new := if dw = low then old / 2 ^ 32 * 2 ^ 32 + v / 2 ^ k * 2 ^ k else v * 2 ^ 32 + old % 2 ^ 32
    { d with hif := { d.hif with bars := d.hif.bars.set b new } }

/-- A dword of configuration space (R585, R593): the Command register, the base address registers, no other BAR and no expansion ROM; a
dword that no rule gives is a free value (log entry 5). -/
def Dev.configDword (d : Dev) (dw : Nat) : Nat × Dev :=
  match memoryBars.find? (fun b => b.1 = dw || b.1 + 1 = dw) with
  | some (low, b, _) => (d.barDword b (dw - low), d)
  | none =>
    if dw = 1 then (2 ^ 20 + d.hif.memOn.toNat * 2 + d.hif.master.toNat * 4, d)
    else if dw = 8 ∨ dw = 9 ∨ dw = 12 then (0, d)
    else d.fresh

/-- A configuration request (R591): answered from the first L0 on. -/
def Dev.configAsk (d : Dev) (q : ConfigAsk) : Dev :=
  if !d.hif.seenL0 then d
  else
    match q with
    | .read dw =>
      let r := d.configDword dw.val
      r.2.answer (r.1 % 2 ^ 32) .none
    | .bar dw v => d.barWrite dw.val v.toNat
    | .msix e m => { d with hif := { d.hif with msixOn := e, fnMask := m } }.sendPending
    | .command e m => { d with hif := { d.hif with memOn := e, master := m } }.sendPending
    | .linkControl l => { d with hif := { d.hif with l1On := l } }
    | .deviceControl p r => { d with hif := { d.hif with mps := 128 * 2 ^ p.val, mrrs := 128 * 2 ^ r.val } }
    | .timeout off => { d with hif := { d.hif with noTimeout := off } }

/-- Has a Porter channel a host burst outstanding (R592)? -/
def Dev.hostBurst (d : Dev) : Bool :=
  d.por.ch.any (fun (c : PChan) => c.wait == some .data && (match c.move with | some m => m.srcSpace == 1 || m.dstSpace == 1 | none => false))

/-- L1 is requested (R592). -/
def Dev.askL1 (d : Dev) : Dev :=
  if d.hif.l1On && d.get F.HIF_LINK_STATE == linkL0 && !d.hostBurst && !d.cmd.ctxs.any (fun (c : Ctx) => c.state == .committed) then
    d.put F.HIF_LINK_STATE linkL1
  else d

/-- A write of a dword of an MSI-X table entry; a vector unmasked sends its pending message (R614, R619). -/
def Dev.msixWrite (d : Dev) (v dw value : Nat) : Dev :=
  let e := at' d.hif.msix v {}
  let e := if dw = 0 then { e with addr := e.addr / 2 ^ 32 * 2 ^ 32 + value / 4 * 4 }
    else if dw = 1 then { e with addr := value * 2 ^ 32 + e.addr % 2 ^ 32 }
    else if dw = 2 then { e with data := value }
    else { e with masked := value.testBit 0 }
  let d := { d with hif := { d.hif with msix := d.hif.msix.set v e } }
  if at' d.hif.pend v false && !e.masked then d.sendMessage v else d

/-! ### The windows (R594 to R605) -/

/-- A command register takes the bytes enabled (R595). -/
def mergeBytes (old new en : Nat) : Nat :=
  ((List.range 4).map (fun i => (if en.testBit i then new / 2 ^ (8 * i) % 256 else old / 2 ^ (8 * i) % 256) * 2 ^ (8 * i))).sum

/-- The dwords of one write, from dword `i` of window `w` on (R594). -/
def Dev.winDwords (d : Dev) (w : Nat) : Nat → List (Nat × Nat) → Dev
  | _, [] => d
  | i, (v, en) :: r =>
    let d := if i < 12 then d.setWin w (fun x => { x with words := x.words.set i (mergeBytes (at' x.words i 0) v en) })
      else if i = 12 then d.writeGo w v (en == 15)
      else d
    d.winDwords w (i + 1) r

/-- A write to BAR0 (R594, R597): command registers of a window that does not read FREE keep what they hold, and the write is counted. -/
def Dev.winWrite (d : Dev) (w start : Nat) (l : List (Nat × Nat)) : Dev :=
  if l.isEmpty || 16 < start + l.length then d
  else if start < 12 && d.winPhase w != 0 then (d.inc F.TWN_IGNORED_COUNT).winDwords w (max 12 start) (l.drop (12 - start))
  else d.winDwords w start l

/-- A word of a task window as it is read (R597, R621): GO reads zero, the results read only in DONE. -/
def Dev.winRead (d : Dev) (w off : Nat) : Nat :=
  let x := d.win w
  if off < 0x30 then at' x.words (off / 4) 0
  else if off = 0x34 then d.winState w
  else if d.winPhase w != 2 then 0
  else if off = 0x38 then x.lo
  else if off = 0x3C then x.hi
  else 0

/-- A dword of an MSI-X table entry (R614). -/
def Vector16.dword (e : Vector16) (i : Nat) : Nat :=
  if i = 0 then e.addr % 2 ^ 32 else if i = 1 then e.addr / 2 ^ 32 else if i = 2 then e.data else e.masked.toNat

/-- A dword of BAR2 (R596, R614 to R617); a page that has not been built reads zero (log entry 45). -/
def Dev.bar2Dword (d : Dev) (off : Nat) : Nat :=
  if off < 0x1000 then leAt d.hif.summary off 4
  else if off < 0x2000 then (match regFind (0x200E0000 + off) with | some (r, i) => d.readRow r i | none => 0)
  else if off < 0x2400 then (at' d.hif.msix ((off - 0x2000) / 16) {}).dword (off / 4 % 4)
  else if off = 0x2800 ∨ off = 0x2804 then maskOf ((List.range 32).filter (fun i => at' d.hif.pend (8 * (off - 0x2800) + i) false))
  else if 0x3000 ≤ off ∧ off < 0x4000 then at' d.hif.mirror ((off - 0x3000) / 4) 0
  else if 0x10000 ≤ off then
    match d.hif.pages.find? (fun p => p.1 == (off - 0x10000) / 0x1000) with
    | some p => leAt p.2 (off % 0x1000) 4
    | none => 0
  else 0

/-- A dword of BAR0 or BAR2 as the host reads it. -/
def Dev.barRead (d : Dev) (bar2 : Bool) (off : Nat) : Nat := if bar2 then d.bar2Dword off else d.winRead (off / 64) (off % 64)

/-- The window whose results a host read of BAR0 takes while it is BUSY (R603); a read of both results is one read (log entry 120). -/
def Dev.earlyWindow (d : Dev) (bar2 : Bool) (off : Nat) : Option Nat :=
  if !bar2 && 0x38 ≤ off % 64 && (d.win (off / 64)).phase == 1 then some (off / 64) else none

/-- A host read of either BAR (R594, R596, R603, R604): of 4 or 8 bytes, naturally aligned; any other returns zero. -/
def Dev.barsRead (d : Dev) (bar2 : Bool) (off len : Nat) : Dev :=
  if !((len = 4 || len = 8) && off % len == 0) then d.answer 0 .none
  else
    match d.earlyWindow bar2 off with
    | some w => (((d.setWin w (fun y => { y with early := min 255 (y.early + 1) })).inc F.TWN_EARLY_COUNT)).answer 0 .none
    | none =>
      d.answer (d.barRead bar2 off % 2 ^ 32 + (if len = 8 then d.barRead bar2 (off + 4) % 2 ^ 32 * 2 ^ 32 else 0)) .none

/-! ### The rings (R607 to R613) -/

/-- A write of a ring's configuration is ignored (R607, event 0x400C): `off` in the ring's registers. -/
def Dev.ringIgnored (d : Dev) (r off : Nat) : Dev :=
  (d.putI F.HIF_RING_STAT_CFG_IGN r 1).post 0x400C [r, 0x1000 + 0x20 * r + off]

/-- Does a command accepted for the ring have a completion not yet consumed (R607)? -/
def Dev.ringBusy (d : Dev) (r : Nat) : Bool :=
  d.cmd.ctxs.any (fun (c : Ctx) => c.ring == r) || d.cmd.posted.any (fun e => e.1 == r)

/-- A ring is enabled with its fields written (R607, R613). -/
def Dev.ringOn (d : Dev) (r v : Nat) : Dev :=
  let d := ((d.putI F.HIF_RING_HEAD_HEAD r 0).putI F.HIF_RING_TAIL_TAIL r 0).putI F.HIF_RING_TAIL_PHASE r 1
  let d := d.putI F.HIF_RING_CFG_ENABLE r 1
  { d with hif := { d.hif with armed := d.hif.armed.set r (v.testBit 30), full := d.hif.full.set r false } }

/-- A write of HIF_RINGr_CFG (R607). -/
def Dev.ringCfg (d : Dev) (r v : Nat) : Dev :=
  if d.onI F.HIF_RING_CFG_ENABLE r then
    let d := d.ringIgnored r 8
    if v.testBit 31 || d.ringBusy r then d
    else { d.putI F.HIF_RING_CFG_ENABLE r 0 with hif := { d.hif with armed := d.hif.armed.set r false } }
  else if v % 32 < 4 || 16 < v % 32 then d.ringIgnored r 8
  else
    let d := ((d.putI F.HIF_RING_CFG_IEN r (v / 2 ^ 30)).putI F.HIF_RING_CFG_VECTOR r (v / 2 ^ 16)).putI F.HIF_RING_CFG_LOG2 r v
    if v.testBit 31 then d.ringOn r v else d

/-- A write of a ring's BASE_LO, BASE_HI, CFG with ENABLE as it is, or of both BASE words at once (R607; 00 R6). -/
def Dev.ringSet (d : Dev) (r which v : Nat) : Dev :=
  if which = 2 then d.ringCfg r (v % 2 ^ 31 + d.getI F.HIF_RING_CFG_ENABLE r * 2 ^ 31)
  else if d.onI F.HIF_RING_CFG_ENABLE r then d.ringIgnored r (4 * (which % 3))
  else if which = 0 then d.putI F.HIF_RING_BASE_LO_ADDR r (v % 2 ^ 32 / 64)
  else if which = 1 then d.putI F.HIF_RING_BASE_HI_ADDR r v
  else (d.putI F.HIF_RING_BASE_LO_ADDR r (v % 2 ^ 32 / 64)).putI F.HIF_RING_BASE_HI_ADDR r (v / 2 ^ 32)

/-- The first `k` tags posted on ring `r` are consumed. -/
def consumeTags (r : Nat) : Nat → List (Nat × Nat) → List (Nat × Nat)
  | 0, l => l
  | _, [] => []
  | k + 1, e :: l => if e.1 = r then consumeTags r k l else e :: consumeTags r (k + 1) l

/-- An armed ring whose HEAD differs from TAIL sends its message at once (R613). -/
def Dev.ringMessage (d : Dev) (r : Nat) : Dev :=
  if at' d.hif.armed r false && d.getI F.HIF_RING_HEAD_HEAD r != d.getI F.HIF_RING_TAIL_TAIL r then
    { d with hif := { d.hif with armed := d.hif.armed.set r false } }.sendMessage (d.getI F.HIF_RING_CFG_VECTOR r)
  else d

/-- A write of HIF_RINGr_HEAD (R609, R610, R613). -/
def Dev.headWrite (d : Dev) (r v : Nat) : Dev :=
  let n := d.ringSize r
  let head := d.getI F.HIF_RING_HEAD_HEAD r
  let tail := d.getI F.HIF_RING_TAIL_TAIL r
  let new := v % 2 ^ 16
  let k := (new + n - head) % n
  if n ≤ new || (tail + n - head) % n < k then
    ((d.putI F.HIF_RING_STAT_HEAD_BAD r 1).put F.TWN_INT_STAT_HEAD_BAD 1).post 0x4009 [r, new, tail]
  else
    let d := d.putI F.HIF_RING_HEAD_HEAD r new
    let d := { d with cmd := { d.cmd with posted := consumeTags r k d.cmd.posted } }
    let d := if k = 0 then d else { d with hif := { d.hif with full := d.hif.full.set r false } }
    let arm := d.onI F.HIF_RING_CFG_ENABLE r && d.onI F.HIF_RING_CFG_IEN r
    let d := if arm then { d with hif := { d.hif with armed := d.hif.armed.set r true } } else d
    (d.drainWaiting r).ringMessage r

/-- A committed completion is posted (R608, R609, R611): `arrived` where the bytes it moved have arrived. -/
def Dev.postCompletion (d : Dev) (n : Nat) (arrived : Bool) : Dev :=
  let d := if arrived then d.mapCtx n (fun c => { c with moving := false }) else d
  d.tryEntry n

/-! ### The status mirror (R616) -/

/-- Windows 32i to 32i + 31 that read BUSY or DONE (R621). -/
def Dev.busyMask (d : Dev) (i : Nat) : Nat := maskOf ((List.range 32).filter (fun j => (d.win (32 * i + j)).phase != 0))

/-- A word of the status mirror, at offset 4 × `i`, as its source gives it. -/
def Dev.mirrorWord (d : Dev) (i : Nat) : Nat :=
  if i = 0 then d.mod.mode.code + (if d.mod.transit.isSome then 2 ^ 10 else 0)
  else if i = 1 then d.get F.MIL_SPEED_RPM16
  else if i = 2 then d.get F.MIL_TARGET_TARGET * 2 ^ 16 + d.get F.MIL_CEIL_EFFECTIVE
  else if i = 3 then d.get F.MIL_GAS_DENSITY
  else if i = 4 then d.get F.THM_STAT_STEP
  else if i = 5 then d.get F.HIF_LINK_WIDTH + d.get F.HIF_LINK_RATE * 2 ^ 4 + d.get F.TWN_CTRL_PAUSE * 2 ^ 8
  else if 8 ≤ i ∧ i < 16 then d.busyMask (i - 8)
  else if i = 16 then d.get F.DBK_SEQ_LO_SEQ
  else if i = 17 then d.get F.TAL_BOOT_COUNT_VALUE
  else 0

/-! ### The commands -/

/-- LINK_L0 (R586, R587, R591): a link of 2^w lanes at rate r + 1, `rev` with lane reversal. -/
def execLinkL0 (w : Fin 4) (r : Fin 5) (rev : Bool) (s : State) : Out := s.runIsland 0x0E (fun d => d.linkToL0 (2 ^ w.val) (r.val + 1) rev)

/-- LINK_DETECT (R619): by the link partner. -/
def execLinkDetect (s : State) : Out := s.runIsland 0x0E (fun d => d.linkDetect 0)

/-- LANE_FAILURE (R588, R589). -/
def execLaneFailure (lane : Fin 8) (s : State) : Out := s.runIsland 0x0E (fun d => d.laneFail lane.val)

/-- LINK_ERROR (R588, R620, R623). -/
def Dev.linkErrorAct (d : Dev) (e : LinkErr) : Dev :=
  match e with
  | .receiver lane => d.receiverError lane.val
  | .correctable bit => d.correctable bit.val
  | .uncorrectable bit header => d.uncorrectable bit.val header

/-- LINK_ERROR acts as `Dev.linkErrorAct` says. -/
def execLinkError (e : LinkErr) (s : State) : Out := s.runIsland 0x0E (fun d => d.linkErrorAct e)

/-- FUNCTION_RESET (R590, R619; 16 R649, R657, R662, R673). -/
def execFunctionReset (kind : Fin 3) (s : State) : Out := s.runIsland 0x0E (fun d => d.functionReset kind.val)

/-- CONFIG_REQUEST (R591). -/
def execConfigRequest (q : ConfigAsk) (s : State) : Out := s.runIsland 0x0E (fun d => d.request (fun d => d.configAsk q))

/-- L1_REQUEST (R592). -/
def execL1Request (s : State) : Out := s.runIsland 0x0E Dev.askL1

/-- POISONED_TLP (R619): dropped, reported with the AER status bit of a poisoned TLP (log entry 32). -/
def execPoisonedTlp (header : BitVec 32) (s : State) : Out := s.runIsland 0x0E (fun d => d.tlp (fun d => d.uncorrectable 12 header.toNat))

/-- MSIX_TABLE_WRITE (R613, R614, R619): a dword of entry `v`. -/
def execMsixTableWrite (v : Fin 64) (dw : Fin 4) (value : BitVec 32) (s : State) : Out :=
  s.runIsland 0x0E (fun d => d.tlp (fun d => d.msixWrite v.val dw.val value.toNat))

/-- TWN_CMD_WRITE (R594, R595, R597): one write of whole dwords, each with its byte enables. -/
def execTwnCmdWrite (w : Fin 256) (start : Fin 16) (l : List (BitVec 32 × BitVec 4)) (s : State) : Out :=
  s.runIsland 0x0E (fun d => d.tlp (fun d => d.winWrite w.val start.val (l.map (fun x => (x.1.toNat, x.2.toNat)))))

/-- TWN_GO (R598 to R602): a write of TWN_W_GO, `all` with its four bytes enabled. -/
def execTwnGo (w : Fin 256) (v : BitVec 32) (all : Bool) (s : State) : Out := s.runIsland 0x0E (fun d => d.tlp (fun d => d.writeGo w.val v.toNat all))

/-- TWN_ACK (R604, R605). -/
def execTwnAck (w : Fin 256) (s : State) : Out := s.runIsland 0x0E (fun d => d.tlp (fun d => d.ackWindow w.val))

/-- EARLY_READ (R594, R596, R603, R604): a host read of BAR0, or of BAR2. -/
def execEarlyRead (bar2 : Bool) (off : BitVec 20) (len : Fin 65) (s : State) : Out :=
  s.runIsland 0x0E (fun d => d.tlp (fun d => d.barsRead bar2 (if bar2 then off.toNat else off.toNat % 2 ^ 14) len.val))

/-- TWN_PAUSE_WRITE (R605, R621). -/
def execTwnPauseWrite (v : Bool) (s : State) : Out := s.runCore (fun d => d.setPause v)

/-- RING_HEAD_WRITE (R609, R610, R613). -/
def execRingHeadWrite (r : Fin 16) (v : BitVec 32) (s : State) : Out := s.runIsland 0x0E (fun d => d.tlp (fun d => d.headWrite r.val v.toNat))

/-- RING_ENABLE (R607, R613): HIF_RINGr_CFG with ENABLE 1 and the other bits as `v`. -/
def execRingEnable (r : Fin 16) (v : BitVec 31) (s : State) : Out := s.runIsland 0x0E (fun d => d.tlp (fun d => d.ringCfg r.val (2 ^ 31 + v.toNat)))

/-- RING_DISABLE (R607): HIF_RINGr_CFG with ENABLE 0 and the other bits as `v`. -/
def execRingDisable (r : Fin 16) (v : BitVec 31) (s : State) : Out := s.runIsland 0x0E (fun d => d.tlp (fun d => d.ringCfg r.val v.toNat))

/-- RING_CONFIG_WRITE (R607): BASE_LO, BASE_HI, CFG with ENABLE as it is, or both BASE words in one access. -/
def execRingConfigWrite (r : Fin 16) (which : Fin 4) (v : BitVec 64) (s : State) : Out :=
  s.runIsland 0x0E (fun d => d.tlp (fun d => d.ringSet r.val which.val v.toNat))

/-- COMPLETION_POST (R606, R608, R609, R611; 16 R632): of the context accepted as number `n`. -/
def execCompletionPost (n : Nat) (arrived : Bool) (s : State) : Out := s.runIsland 0x0F (fun d => d.postCompletion n arrived)

/-- STATUS_MIRROR_REFRESH (R616): the word at offset 4 × `i`. -/
def execStatusMirrorRefresh (i : Fin 18) (s : State) : Out :=
  s.runIsland 0x0F (fun d => { d with hif := { d.hif with mirror := d.hif.mirror.set i.val (d.mirrorWord i.val) } })

end Sys2Proof.Machine
end

