-- ==== Sys2Proof/Machine/TrustOps.lean ====
section
/-! DEFINITION. The named operations of the Tally, the Seal engine and physical presence (spec/18). -/

namespace Sys2Proof.Machine

/-! ### Keys (R725) -/

def asciiBytes (s : String) : List Nat := s.toList.map (fun c => c.toNat)

/-- The unique device secret. -/
def udsBytes : List Nat := (List.range 32).map (fun i => Config.uds i % 256)

def deriveKey (label : List Nat) (n : Nat) : List Nat := kmac256 udsBytes label n (asciiBytes "GVKDF")

/-- The identity key seed of an epoch. -/
def identitySeed (epoch : Nat) : List Nat := deriveKey (asciiBytes "IDKEY" ++ leBytes 2 epoch) 57

def keyTally : List Nat := deriveKey (asciiBytes "TALLY") 32
def keySeal : List Nat := deriveKey (asciiBytes "SEAL") 32

/-- The Ed448 public key of an epoch. -/
def identityPublic (epoch : Nat) : List Nat := edPublic (identitySeed epoch)

/-! ### Entries (R730 to R733) -/

/-- The first `n` of a list of bytes, filled with zeros. -/
def padBytes (n : Nat) (l : List Nat) : List Nat := l.take n ++ List.replicate (n - l.length) 0

def kindBoot : Nat := 1
def kindOpened : Nat := 2
def kindClosed : Nat := 3
def kindRotate : Nat := 4
def kindFloor : Nat := 5
def kindDebug : Nat := 6
def kindUnseal : Nat := 7
def kindAttest : Nat := 0x10

/-- Sixteen digest registers as bytes, the least significant first (R764). -/
def Dev.digestRegs (d : Dev) (f : Field) : List Nat := (List.range 16).flatMap (fun i => leBytes 4 (d.getI f i))

def Dev.putDigest (d : Dev) (f : Field) (b : List Nat) : Dev := d.each (List.range 16) (fun d i => d.putI f i (leAt b (4 * i) 4))

/-- STATE of R730; bit 4 is TAL_STAT.DEBUG whatever the requester placed there (R732). -/
def Dev.trustState (d : Dev) : Nat :=
  d.get F.PRS_STAT_PRESENT + 2 * d.get F.PRS_STAT_LOOP_OPEN + 4 * d.get F.PRS_STAT_TAMPER + 8 * d.get F.PRS_STAT_LOOP_FITTED
    + 16 * d.get F.TAL_STAT_DEBUG

/-- Bytes 0x000 to 0x18B of a structure with its KIND, INDEX, PAYLOAD, PREV_DIGEST and CHAIN (R730). -/
def Dev.talBody (d : Dev) (kind index : Nat) (payload prev chain : List Nat) : List Nat :=
  leBytes 4 0x4C545647 ++ [kind % 256, 1, 0, 0] ++ leBytes 4 index ++ leBytes 4 (d.get F.TAL_BOOT_COUNT_VALUE)
    ++ leBytes 4 (d.get F.DBK_PCYCLES_CYCLES) ++ leBytes 4 (d.get F.DBK_OPSEC_SECONDS / 3600)
    ++ leBytes 2 (d.get F.TAL_KEY_EPOCH_EPOCH) ++ [d.trustState, d.tal.flags % 256] ++ leBytes 4 d.cfg.svn
    ++ leBytes 4 (d.get F.TAL_SVN_FLOOR_FLOOR) ++ leBytes 4 d.cfg.build ++ leBytes 4 d.tal.sections
    ++ padBytes 64 d.tal.rom ++ padBytes 64 d.tal.dir ++ d.digestRegs F.TAL_MEASURE_BYTES ++ padBytes 64 payload ++ padBytes 64 prev
    ++ padBytes 32 chain

/-- The structure with its signature under the identity key of the present epoch, 512 bytes (R730). -/
def Dev.talSigned (d : Dev) (body : List Nat) : List Nat :=
  body ++ padBytes 114 (edSign (identitySeed (d.get F.TAL_KEY_EPOCH_EPOCH)) body) ++ [0, 0]

def entryKind (e : List Nat) : Nat := leAt e 4 1
def entryIndex (e : List Nat) : Nat := leAt e 8 4
def entryBoots (e : List Nat) : Nat := leAt e 0x0C 4
def entryWhole (e : List Nat) : Bool := leAt e 0 4 == 0x4C545647

/-- The newest entry of an INDEX, where the store holds it: the numbers start again from 0 when ROOT_LOCK is set (log entry 42). -/
def Dev.talEntry (d : Dev) (index : Nat) : Option (List Nat) :=
  d.tal.entries.reverse.find? (fun (e : List Nat) => entryWhole e && entryIndex e == index)

/-- CHAIN over an entry (R730): a class 0 computation of the Seal engine (R745). -/
def chainOf (e : List Nat) : List Nat := kmac256 keyTally e 32 (asciiBytes "GVTALLY")

/-- Entries in the ring of the mirror partition (R738). -/
def Dev.mirrorPlaces (d : Dev) : Nat := ((d.cfg.sel.map (fun (x : Selector) => x.tSize)).getD 0) / 512

def Dev.showBehind (d : Dev) : Dev := d.put F.TAL_MIRROR_BEHIND (min 65535 d.tal.lacking.length)

/-- A full store drops its oldest boot record, or else its oldest entry (R734, event 0x500D). -/
def Dev.talMakeRoom (d : Dev) : Dev :=
  if d.tal.entries.length < 4096 then d
  else
    let i := d.tal.entries.findIdx (fun (e : List Nat) => entryWhole e && entryKind e == kindBoot)
    let boot := decide (i < d.tal.entries.length)
    let i := if boot then i else 0
    let index := entryIndex (at' d.tal.entries i [])
    let d := { d with tal := { d.tal with entries := d.tal.entries.eraseIdx i } }.inc F.TAL_ENTRIES_DROPPED
    if boot then d.post 0x500D [index] else d.put F.TAL_STAT_LOST_PERM 1

/-- The two Keccak cores disagree in a computation of class `cls`; `twice` says that they disagree in its repetition too (R744). -/
def Dev.disagree (d : Dev) (cls : Nat) (twice : Bool) : Dev :=
  ((d.inc F.SEA_DISAGREE_COUNT).put F.SEA_INT_STAT_DISAGREE 1).post (if twice then 0x5012 else 0x5011) [cls]

/-- The entry that the next one is chained to; none for INDEX 0 (R730). -/
def Dev.talLast (d : Dev) : Option (List Nat) := if d.get F.TAL_INDEX_VALUE = 0 then none else d.tal.entries.getLast?

/-- An entry is appended as `how` says (R730, R733, R734, R737, R738, event 0x5013). Its CHAIN is a class 0 computation (R744, R745): it ends within the
append. -/
def Dev.talAppend (d : Dev) (kind : Nat) (payload : List Nat) (how : AppendEnd) : Dev × Option Nat :=
  let index := d.get F.TAL_INDEX_VALUE
  let chained := d.talLast.isSome
  let d := if chained && (how == .redone || how == .disagreed) then d.disagree 0 false else d
  let d := if chained && how == .disagreed then d.disagree 0 true else d
  if how == .failed || (chained && how == .disagreed) then (d.post 0x5013 [kind, index], none)
  else
    let d := d.talMakeRoom
    let last := if index = 0 then none else d.tal.entries.getLast?
    let prev := match last with | some e => digest64 e | none => List.replicate 64 0
    let chain := match last with | some e => chainOf e | none => List.replicate 32 0
    let d := if last.isSome then d.inc F.SEA_COUNT_COUNT else d
    let e := d.talSigned (d.talBody kind index payload prev chain)
    let d := { d with tal := { d.tal with entries := d.tal.entries ++ [e], lacking := d.tal.lacking ++ [index] } }
    let d := ((d.put F.TAL_INDEX_VALUE (index + 1)).put F.TAL_ENTRIES_STORED d.tal.entries.length).showBehind
    let d := if kind = kindBoot then
        (d.inc F.TAL_BOOT_COUNT_VALUE).putDigest F.TAL_LAST_BYTES (digest64 e)
      else d
    (d, some index)

/-- The oldest pending seal entry is appended (R736, R762). -/
def Dev.talPendingOne (d : Dev) (how : AppendEnd) : Dev :=
  match d.tal.pending with
  | [] => d
  | p :: l =>
    let r := d.talAppend (if p.1 then kindOpened else kindClosed) (leBytes 8 p.2) how
    if r.2.isSome then { r.1 with tal := { r.1.tal with pending := l } } else r.1

/-- The boot record (R735, event 0x5001), after the pending seal entries (R736); `how` the first append ends, the others end well. One that fails leaves
the entries after it unmade: they are due again. -/
def Dev.talBoot (d : Dev) (how : AppendEnd) : Dev :=
  let n := d.tal.pending.length
  let d := d.each (List.range n) (fun d i => if d.tal.pending.length + i = n then d.talPendingOne (if i = 0 then how else .good) else d)
  if !d.tal.pending.isEmpty then d
  else
  let r := d.talAppend kindBoot (d.digestRegs F.TAL_ROOT_BYTES) (if n = 0 then how else .good)
  match r.2 with
  | none => r.1
  | some i =>
    { r.1 with mod := { r.1.mod with bootRecorded := true } }.post 0x5001
      [i, d.get F.TAL_BOOT_COUNT_VALUE, d.tal.sections, d.tal.flags]

/-- An attestation over a nonce (R741, event 0x500C). With no entry stored its INDEX is a free value (log entry 5). -/
def Dev.talAttest (d : Dev) (nonce : List Nat) : Dev :=
  let last := d.tal.entries.getLast?
  let v := match last with | some e => (entryIndex e, d) | none => d.fresh
  let index := v.1 % 2 ^ 32
  let d := v.2
  let prev := match last with | some e => digest64 e | none => List.replicate 64 0
  let e := d.talSigned (d.talBody kindAttest index (nonce.take 32) prev (List.replicate 32 0))
  { d with tal := { d.tal with attest := e } }.post 0x500C [d.get F.TAL_BOOT_COUNT_VALUE, index]

/-! ### Requests (R757, R764) -/

/-- A request of TAL_APPEND starts (R764; R757: KIND 4 to 7 only under presence and without TAMPER). While one is in progress KIND takes its value and
the GO is ignored (log entry 41). -/
def Dev.talStart (d : Dev) (kind : Nat) (ctx : Option Nat) : Dev :=
  let d := d.put F.TAL_APPEND_KIND kind
  if d.tal.req.isSome then d
  else
    let needs := kindRotate ≤ kind && kind ≤ kindUnseal
    if !needs && kind != kindAttest then (d.put F.TAL_STAT_RESULT 2).put F.TAL_INT_STAT_REFUSED 1
    else if needs && (!d.on F.PRS_STAT_PRESENT || d.on F.PRS_STAT_TAMPER) then (d.put F.TAL_STAT_RESULT 1).put F.TAL_INT_STAT_REFUSED 1
    else
      let payload := d.digestRegs F.TAL_PAYLOAD_BYTES
      { d with tal := { d.tal with req := some ⟨kind, payload, ctx⟩ } }.put F.TAL_STAT_BUSY 1

/-- A request of the runtime with its PAYLOAD (R757). -/
def Dev.talAsk (d : Dev) (kind : Nat) (payload : List Nat) (ctx : Option Nat) : Dev :=
  (d.putDigest F.TAL_PAYLOAD_BYTES (padBytes 64 payload)).talStart kind ctx

/-- SEA_STAT's view of the computation in progress and of those suspended. -/
def Dev.showSea (d : Dev) : Dev :=
  let d := match d.sea.cur with
    | some c => (d.put F.SEA_STAT_ACTIVE 1).put F.SEA_STAT_CLASS c.cls
    | none => (d.put F.SEA_STAT_ACTIVE 0).put F.SEA_STAT_CLASS 0
  d.put F.SEA_STAT_SUSPENDED (maskOf (d.sea.susp.map (fun (c : Comp) => c.cls)))

/-- The most urgent computation waiting: a suspended one before one not begun (R745). While DEBUG holds appends no class 2 computation begins; one that
has begun goes on (R752, R763). -/
def Dev.nextComp (d : Dev) : Dev :=
  let find := fun (l : List Comp) (k : Nat) => l.find? (fun (c : Comp) => c.cls == k)
  let fresh := fun (k : Nat) => if k = 2 && d.on F.SEA_STAT_HOLD_APPENDS then none else find d.sea.queue k
  match (List.range 4).find? (fun k => (find d.sea.susp k).isSome || (fresh k).isSome) with
  | none => { d with sea := { d.sea with cur := none } }.showSea
  | some k =>
    match find d.sea.susp k with
    | some c => { d with sea := { d.sea with cur := some c, susp := d.sea.susp.erase c } }.showSea
    | none =>
      match fresh k with
      | some c => { d with sea := { d.sea with cur := some c, queue := d.sea.queue.erase c } }.showSea
      | none => d

/-- DEBUG takes a value (R752, R757, R759): with a lock, appends that were held go on, and an instruction of the JTAG port that DEBUG gates gives way to
the bypass register. -/
def Dev.setDebug (d : Dev) (b : Bool) : Dev :=
  let d := (d.flag F.TAL_STAT_DEBUG b).flag F.SEA_STAT_HOLD_APPENDS b
  if b then d
  else
    let d := if [0x00, 0x02, 0x10].contains d.pins.ir then { d with pins := { d.pins with ir := 0xFF, dr := 0 } } else d
    if d.sea.cur.isSome then d else d.nextComp

/-- Debug access is locked; a lock records its cause (event 0x500A). -/
def Dev.lockDebug (d : Dev) (cause : Nat) : Dev := if d.on F.TAL_STAT_DEBUG then (d.setDebug false).post 0x500A [cause] else d

/-- A range is released: its waiting data and its map entries leave (17 R705, R719; 16 R643). -/
def Dev.releaseRange (d : Dev) (lba count : Nat) : Dev :=
  let hit := d.drv.wb.filter (fun (w : WriteBack) => lba ≤ w.lba && w.lba < lba + count)
  let placed := fun (t : Nat) => d.drv.run.any (fun (x : Stripe) => x.members.any (fun (m : Member) => m.tile == t && m.kind == .host))
  let d := d.each hit (fun d (w : WriteBack) => (if placed w.tile then d else d.freeTile w.tile))
  let d := { d with drv := { d.drv with wb := d.drv.wb.filter (fun (w : WriteBack) => !(lba ≤ w.lba && w.lba < lba + count)) } }
  ((d.supersede lba count).dropMoved lba count).mapClear lba count

/-- A closed band is removed and its sectors are released (16 R656, R660). -/
def Dev.unsealBand (d : Dev) (b index : Nat) : Dev :=
  match d.drv.seals.find? (fun (x : SealBand) => x.idx == b && x.closed) with
  | none => d
  | some x =>
    let d := { d with drv := { d.drv with seals := d.drv.seals.filter (fun (y : SealBand) => y.idx != b) } }
    ((d.releaseRange x.lba x.count).showMap).post 0x500B [b, index]

/-- The effect of a protected entry once it is appended (R757): within the values of R757's table. -/
def Dev.talEffect (d : Dev) (kind : Nat) (payload : List Nat) (index : Nat) : Dev :=
  if kind = kindRotate then
    let e := d.get F.TAL_KEY_EPOCH_EPOCH
    if e = 65535 then d else (d.put F.TAL_KEY_EPOCH_EPOCH (e + 1)).post 0x5007 [e, e + 1, index]
  else if kind = kindFloor then
    let old := d.get F.TAL_SVN_FLOOR_FLOOR
    let new := leAt payload 4 4
    if old < new && new ≤ d.cfg.svn then (d.put F.TAL_SVN_FLOOR_FLOOR new).post 0x5008 [old, new] else d
  else if kind = kindDebug then (d.setDebug true).post 0x5009 [index]
  else if kind = kindUnseal then d.unsealBand (leAt payload 0 1) index
  else d

/-- The value of a feature (16 R660): that of UNSEAL_BAND is not stated, and is a free value (log entry 5). -/
def Dev.featureRead (d : Dev) (f : Nat) : Nat × Dev :=
  if f = 0x01 then (d.mod.mode.code, d)
  else if f = 0x02 then (d.get F.MOD_EASE_IDLE_SECONDS, d)
  else if f = 0x03 then (d.get F.MOD_REST_IDLE_SECONDS, d)
  else if f = 0x04 then (d.get F.MOD_EASE_RPM_RPM, d)
  else if f = 0x80 then (d.get F.TAL_KEY_EPOCH_EPOCH, d)
  else if f = 0x81 then (d.get F.TAL_STAT_DEBUG, d)
  else if f = 0x82 then (d.get F.TAL_SVN_FLOOR_FLOOR, d)
  else let v := d.fresh; (v.1 % 2 ^ 32, v.2)

/-- A FEATURE_SET has taken effect: OK with the value before (16 R640, event 0x4112). -/
def Dev.featureDone (d : Dev) (n feature old new : Nat) : Dev := (d.post 0x4112 [feature, old, new]).commit n stOk old feature

def Dev.featureRefused (d : Dev) (n feature why : Nat) : Dev := d.commit n stFeature why feature

/-- The command a request was made for ends (16 R640, R741; R757, R758). -/
def Dev.talAnswer (d : Dev) (n old : Nat) (ok : Bool) : Dev :=
  match d.ctx n with
  | none => d
  | some c =>
    if c.opcode = opAttest then (d.segsToHost c 0 d.tal.attest).commit n stOk 512 0
    else if ok then d.featureDone n (c.p0 % 256) old (c.p1 % 2 ^ 32)
    else d.featureRefused n (c.p0 % 256) 6

/-- A request ends as `how` says (R757, R763, R764). A seal opened meanwhile refuses it. -/
def Dev.talDone (d : Dev) (r : TalReq) (how : AppendEnd) : Dev :=
  let d := { d with tal := { d.tal with req := none } }.put F.TAL_STAT_BUSY 0
  let needs := kindRotate ≤ r.kind && r.kind ≤ kindUnseal
  let feature := 0x80 + (if r.kind = kindRotate then 0 else if r.kind = kindDebug then 1 else if r.kind = kindFloor then 2 else 3)
  let v := d.featureRead feature
  let old := v.1
  let d := if r.kind = kindUnseal then v.2 else d
  let answer := fun (d : Dev) (good : Bool) => match r.ctx with | some n => d.talAnswer n old good | none => d
  if r.kind = kindAttest then answer (((d.talAttest r.payload).put F.TAL_STAT_RESULT 0).put F.TAL_INT_STAT_DONE 1) true
  else if needs && d.on F.PRS_STAT_TAMPER then answer ((d.put F.TAL_STAT_RESULT 1).put F.TAL_INT_STAT_REFUSED 1) false
  else
    let a := d.talAppend r.kind r.payload how
    match a.2 with
    | none => answer ((a.1.put F.TAL_STAT_RESULT 3).put F.TAL_INT_STAT_DONE 1) false
    | some i => answer (((a.1.talEffect r.kind r.payload i).put F.TAL_STAT_RESULT 0).put F.TAL_INT_STAT_DONE 1) true

/-! ### The mirror (R738, R739) -/

/-- An entry the store reads uncorrectable comes from the mirror, or is lost (R739, events 0x500E, 0x500F). -/
def Dev.talRestore (d : Dev) (index : Nat) : Dev :=
  match d.talEntry index with
  | none => d
  | some _ =>
    let n := max 1 d.mirrorPlaces
    let copy := (d.tal.mirror.find? (fun x => x.1 == index % n)).map (fun x => x.2)
    let good := match copy with
      | none => none
      | some c =>
        if entryWhole c && entryIndex c == index && edVerify (identityPublic (leAt c 0x18 2)) (c.take 0x18C) ((c.drop 0x18C).take 114)
            && (match d.talEntry (index + 1) with | some e => chainOf c == (e.drop 0x16C).take 32 | none => false)
        then some c else none
    let new := good.getD (List.replicate 512 0)
    let d := { d with tal := { d.tal with
      entries := d.tal.entries.map (fun (e : List Nat) => if entryWhole e && entryIndex e == index then new else e) } }
    let d := (d.put F.TAL_STAT_NV_FAULT 1).put F.TAL_INT_STAT_NV 1
    d.post (if good.isSome then 0x500E else 0x500F) [index]

/-- An entry is programmed into its place in the mirror's ring. -/
def Dev.mirrorPut (d : Dev) (index : Nat) : Dev :=
  let n := d.mirrorPlaces
  let m := match d.talEntry index with
    | some e => if n = 0 then d.tal.mirror else d.tal.mirror.filter (fun x => x.1 != index % n) ++ [(index % n, e)]
    | none => d.tal.mirror
  { d with tal := { d.tal with mirror := m, lacking := d.tal.lacking.filter (fun i => i != index) } }.showBehind

/-! ### The Seal engine (R743 to R751) -/

/-- The check value of a data sector (R748). -/
def sealValue (band lba : Nat) (data : List Nat) : List Nat :=
  kmac256 keySeal ([band % 256] ++ leBytes 6 lba ++ data) 32 (asciiBytes "GVSEAL")

/-- The check values of tag sector `j` as the Drover holds them: bytes of sectors not yet computed are free values (log entry 5). -/
def Dev.tagSector (d : Dev) (s : SealBand) (j : Nat) : Dev × List Nat :=
  (List.range 128).foldl (fun (x : Dev × List Nat) i =>
    match s.tags.find? (fun t => t.1 == 128 * j + i) with
    | some t => (x.1, x.2 ++ padBytes 32 t.2)
    | none => let v := x.1.fresh; (v.2, x.2 ++ leBytes 32 v.1)) (d, [])

/-- Values of tag sector `j` that the Drover keeps. -/
def tagCount (s : SealBand) (j : Nat) : Nat := (s.tags.filter (fun t => t.1 / 128 == j)).length

/-- A tag sector goes to its LBA through a pool tile, as acknowledged data (R749). One that is full is kept no longer; with no tile free it is kept until
the next occasion. -/
def Dev.writeTags (d : Dev) (b j : Nat) : Dev :=
  match d.drv.seals.find? (fun (x : SealBand) => x.idx == b) with
  | none => d
  | some s =>
    let r := d.tagSector s j
    let t := r.1.newTile prodPorter r.2
    match t.2 with
    | none => t.1
    | some tile =>
      let lba := s.tagStart + j
      let d := t.1.putWaiting lba tile (t.1.drv.acks + 1) 0
      let d := { d with drv := { d.drv with acks := d.drv.acks + 1 } }
      if tagCount s j < 128 then d else d.setSeal { s with tags := s.tags.filter (fun t => t.1 / 128 != j) }

/-- Tag sectors of band `s` that the Drover keeps. -/
def tagGroups (s : SealBand) : List Nat := (s.tags.map (fun t => t.1 / 128)).eraseDups

/-- The tag sectors kept are written: at a FLUSH, a FUA WRITE that covers them, or a close (R749). -/
def Dev.flushTags (d : Dev) (p : SealBand → Nat → Bool) : Dev :=
  d.each d.drv.seals (fun d (s : SealBand) => d.each ((tagGroups s).filter (p s)) (fun d j => d.writeTags s.idx j))

/-- A class 2 value arrives: it is kept, and a tag sector now whole is written (R749). -/
def Dev.keepTag (d : Dev) (b lba : Nat) (v : List Nat) : Dev :=
  match d.drv.seals.find? (fun (x : SealBand) => x.idx == b) with
  | none => d
  | some s =>
    let i := lba - s.lba
    let new := { s with tags := s.tags.filter (fun t => t.1 != i) ++ [(i, v)] }
    let d := d.setSeal new
    if 128 ≤ tagCount new (i / 128) then d.writeTags b (i / 128) else d

/-- The value a check compares with (R750): the Drover's copy, the tag sector's waiting tile, or `stored`, as the medium gives it. -/
def Dev.storedTag (d : Dev) (s : SealBand) (i : Nat) (stored : List Nat) : List Nat :=
  match s.tags.find? (fun t => t.1 == i) with
  | some t => t.2
  | none =>
    match d.drv.wb.find? (fun (w : WriteBack) => w.lba == s.tagStart + i / 128) with
    | some w => ((d.tileBytes w.tile).drop (32 * (i % 128))).take 32
    | none => padBytes 32 stored

/-- A class 1 check is decided (16 R657; R750): a mismatch is rebuilt and checked again, then reported (event 0x410F). -/
def Dev.checkSealed (d : Dev) (x : Comp) (stored : List Nat) : Dev :=
  match x.ctx, d.drv.seals.find? (fun (b : SealBand) => b.idx == x.band) with
  | some n, some s =>
    let rung := ((d.ctx n).map (fun c => c.rung)).getD 0
    if sealValue x.band x.lba x.data == d.storedTag s (x.lba - s.lba) stored then d.sectorData n x.lba rung x.data
    else
      match x.again, d.lbaSec x.lba with
      | false, some y =>
        let op : ReadOp := { sec := y.2, head := y.1.head, track := y.1.track, why := { kind := .read, ctx := some n }, rung := 0, step := 0 }
        d.startRebuild op (2 * (y.1.head / 8)) 1 true false
      | _, _ => (d.post 0x410F [x.band, x.lba % 2 ^ 32, x.lba / 2 ^ 32]).sectorEnds n x.lba rung (some stSeal)
  | _, _ => d

/-- A runtime job's output (R751), with the key taken at GO: INLEN_LAST outside 1 to 8 leaves it open (log entry 5). -/
def Dev.jobResult (d : Dev) (key : List Nat) : Dev :=
  let cust := (leBytes 4 (d.get F.SEA_CUST_LO_BYTES) ++ leBytes 4 (d.get F.SEA_CUST_HI_BYTES)).take (min 8 (d.get F.SEA_JOB_CUSTLEN))
  let n := if d.on F.SEA_JOB_L64 then 64 else 32
  let last := d.get F.SEA_JOB_INLEN_LAST
  let k := d.sea.input.length
  let bad := k != 0 && (last = 0 || 8 < last)
  let out := kmac256 (key.take (d.get F.SEA_JOB_KEYLEN + 1)) (d.sea.input.take (k - (8 - last))) n cust
  let d := d.each (List.range (n / 4)) (fun d i =>
    if bad then let v := d.fresh; v.2.putI F.SEA_RESULT_BYTES i v.1 else d.putI F.SEA_RESULT_BYTES i (leAt out (4 * i) 4))
  ({ d with sea := { d.sea with input := [], finished := false } }.put F.SEA_STAT_JOB 0).put F.SEA_INT_STAT_DONE 1

/-! ### Presence and the seal loop (R753 to R755, R760 to R762) -/

/-- Presence ends (R754, R755, event 0x5003). -/
def Dev.presenceEnds (d : Dev) (cause : Nat) : Dev :=
  if !d.on F.PRS_STAT_PRESENT then d
  else
    let d := ((d.put F.PRS_STAT_PRESENT 0).put F.PRS_STAT_REMAIN_S 0).put F.PRS_STAT_REARM_WAIT 1
    ({ d with prs := { d.prs with msLeft := 0, highRun := 0 } }.put F.PRS_INT_STAT_ENDED 1).post 0x5003 [cause]

def Dev.setTamper (d : Dev) (b : Bool) : Dev := (d.flag F.PRS_STAT_TAMPER b).flag F.TAL_STAT_TAMPER b

/-- Presence is established (R753, event 0x5002). -/
def Dev.presenceBegins (d : Dev) : Dev :=
  let d := ((d.put F.PRS_STAT_PRESENT 1).put F.PRS_STAT_REMAIN_S 600).setTamper false
  let d := ({ d with prs := { d.prs with msLeft := 600000 } }.inc F.PRS_COUNT_PRESENCES).put F.PRS_INT_STAT_PRESENT 1
  d.post 0x5002 [d.get F.PRS_COUNT_PRESENCES, d.mod.mode.code]

/-- The loop is found in another state than the last recorded (R762, events 0x5004, 0x5005). -/
def Dev.loopChanged (d : Dev) (opened : Bool) : Dev :=
  if d.on F.PRS_STAT_LOOP_OPEN == opened then d
  else
    let d := d.flag F.PRS_STAT_LOOP_OPEN opened
    let d := { d with tal := { d.tal with pending := d.tal.pending ++ [(opened, d.get F.DBK_OPSEC_SECONDS)] } }
    if opened then
      let d := (((d.setTamper true).inc F.PRS_COUNT_OPENINGS).put F.PRS_INT_STAT_TAMPER 1).presenceEnds 2
      d.post 0x5004 [d.mod.mode.code, d.get F.PRS_COUNT_OPENINGS]
    else d.post 0x5005 [d.mod.mode.code]

/-- The next bit of the sequence of R761: a Fibonacci register of 16 bits with taps 16, 14, 13 and 11. -/
def lfsrNext (v : Nat) : Nat :=
  let b := (v ^^^ (v / 4) ^^^ (v / 8) ^^^ (v / 32)) % 2
  v / 2 + b * 2 ^ 15

end Sys2Proof.Machine
end

