-- ==== Sys2Proof/Machine/CommandOps.lean ====
section
/-! DEFINITION. The named operations of commands that are dispatched (spec/16): what a dispatch waits for, data lists, the pages that
IDENTIFY, LOG_READ and RESYNC return, and the mode requests that a feature shares with its register (spec/04 R136, R152). -/

namespace Sys2Proof.Machine

/-! ### Mode requests (04 R131, R133, R136, R152) -/

/-- Why a MOD_REQ write of `t` is refused, by the reasons of event 0x030A; none where it is taken. -/
def Dev.requestReason (d : Dev) (t : Nat) : Option Nat :=
  let m := d.mod.mode
  if t < 2 || 4 < t then some 2
  else if d.mod.transit.isSome || d.harvesting then some 0
  else if m = .serve && t != 2 && !d.streams.isEmpty then some 1
  else if t = m.code then some 3
  else if m = .serve || (m = .ease && t != 3) || (m = .rest && t = 2) then none
  else some 2

def Dev.refuseRequest (d : Dev) (t why : Nat) : Dev :=
  ((d.put F.MOD_STAT_REQ_REFUSED 1).put F.MOD_INT_STAT_REQ_REFUSED 1).post 0x030A [t, d.mod.mode.code, why]

/-- A MOD_REQ write (04 R134, R136). -/
def Dev.modRequest (d : Dev) (t : Nat) : Dev :=
  match d.requestReason t with
  | some why => d.refuseRequest t why
  | none =>
    if t = 4 then d.restBegin 0
    else if t = 3 then d.toEase
    else if d.mod.mode = .ease then d.easeToServe 0
    else d.goSpin 0

/-- A value of EASE_IDLE, REST_IDLE or EASE_RPM inside its key's range (04 R131, R152). -/
def Dev.idleOk (d : Dev) (f v : Nat) : Bool :=
  if f = 2 then v ≤ 86400
  else if f = 3 then v = 0 || (60 ≤ v && v ≤ 86400)
  else 3600 ≤ v && v ≤ d.get F.MIL_LIMITS_FLOOR

/-- The field of feature 0x02, 0x03 or 0x04. -/
def idleField (f : Nat) : Field := if f = 2 then F.MOD_EASE_IDLE_SECONDS else if f = 3 then F.MOD_REST_IDLE_SECONDS else F.MOD_EASE_RPM_RPM

/-- A write of MOD_EASE_IDLE, MOD_REST_IDLE or MOD_EASE_RPM (04 R152): outside its key's range it is ignored. A speed written in EASE is
the Miller's new target (05 R193). -/
def Dev.idleWrite (d : Dev) (f v : Nat) : Dev :=
  if !d.idleOk f v then (d.put F.MOD_STAT_REQ_REFUSED 1).put F.MOD_INT_STAT_REQ_REFUSED 1
  else (d.put (idleField f) v).when (f == 4 && d.mod.mode == Mode.ease) (fun d => d.newTarget v 2)

/-! ### Host memory and data lists (16 R627 to R629) -/

/-- A byte of host memory: as the command's reads give it, or else as the device last wrote it (log entry 2). -/
def Dev.hostByte (d : Dev) (v : HostView) (a : Nat) : Nat :=
  match v.runs.find? (fun r => r.1 ≤ a && a < r.1 + r.2.length) with
  | some r => at' r.2 (a - r.1) 0 % 256
  | none => memAt d.hostMem a

def Dev.hostRead (d : Dev) (v : HostView) (a n : Nat) : List Nat := (List.range n).map (fun i => d.hostByte v (a + i))

/-- What a walk of a data list has come to: entries read, the bytes covered, the data entries; or the entry and cause of DLIST_ERROR. -/
structure ListWalk where
  read : Nat := 0
  total : Nat := 0
  segs : List (Nat × Nat) := []
  bad : Option (Nat × Nat) := none
  deriving DecidableEq, Repr

/-- The entries of a list still to be read (an address and a count at each depth of chaining) are taken in order: cause 1 alignment or a
reserved bit, 2 length, 3 chain depth, 4 LEN zero (16 R640). -/
def walkList (d : Dev) (v : HostView) (want : Nat) : Nat → List (Nat × Nat) → ListWalk → ListWalk
  | 0, _, w => { w with bad := some (w.read, 2) }
  | _, [], w => if w.total = want then w else { w with bad := some (w.read - 1, 2) }
  | f + 1, (a, n) :: up, w =>
    if n = 0 then walkList d v want f up w
    else
      let b := d.hostRead v a 16
      let addr := leAt b 0 8
      let len := leAt b 8 4
      let ctrl := leAt b 12 4
      let rest := (a + 16, n - 1) :: up
      let w' := { w with read := w.read + 1 }
      if len = 0 then { w with bad := some (w.read, 4) }
      else if addr % 4 != 0 || len % 4 != 0 || 1 < ctrl then { w with bad := some (w.read, 1) }
      else if 2 ^ 24 < len then { w with bad := some (w.read, 2) }
      else if ctrl = 1 then
        if 9 ≤ up.length + 1 then { w with bad := some (w.read, 3) }
        else if len % 16 != 0 then { w with bad := some (w.read, 1) }
        else walkList d v want f ((addr, len / 16) :: rest) w'
      else if want < w.total + len then { w with bad := some (w.read, 2) }
      else walkList d v want f rest { w' with total := w.total + len, segs := w.segs ++ [(addr, len)] }

/-- A command's data list: no list covers its bytes with more entries than one for each 4 of them, and chains add at most eight levels to
each. -/
def Dev.dataList (d : Dev) (v : HostView) (c : Ctx) (want : Nat) : ListWalk :=
  walkList d v want (20 * want + 20) [(c.dlist, c.dcount)] {}

/-- Bytes of the host through data entries, in order. -/
def Dev.gather (d : Dev) (v : HostView) (segs : List (Nat × Nat)) : List Nat := segs.flatMap (fun s => d.hostRead v s.1 s.2)

/-- The data list of a dispatched command is read: with its entries it goes on as `g`; a list that breaks the rules ends it (16 R629,
event 0x4111). -/
def Dev.withList (d : Dev) (v : HostView) (n want : Nat) (g : Dev → List (Nat × Nat) → Dev) : Dev :=
  match d.ctx n with
  | none => d
  | some c =>
    let w := d.dataList v c want
    match w.bad with
    | some e => (d.post 0x4111 [c.tag, e.1, e.2]).commit n stDlist e.1 e.2
    | none => g (d.mapCtx n (fun c => { c with segs := w.segs })) w.segs

/-- Free values as bytes (log entry 5). -/
def Dev.freshBytes (d : Dev) (n : Nat) : Dev × List Nat :=
  (List.range n).foldl (fun (x : Dev × List Nat) _ => let v := x.1.fresh; (v.2, x.2 ++ [v.1 % 256])) (d, [])

/-- A page of bytes goes to a command's data list, and the command ends OK with DETAIL the bytes moved; a Porter channel that ends
HOST_ERROR ends the command with the bytes moved before it (16 R639, R640). -/
def Dev.movePage (d : Dev) (v : HostView) (n : Nat) (bytes : List Nat) (detail hi : Nat) : Dev :=
  d.withList v n bytes.length (fun d _ =>
    match d.ctx n, v.error with
    | none, _ => d
    | some c, some k => (d.segsToHost c 0 (bytes.take k)).commit n stHost k 0
    | some c, none => (d.segsToHost c 0 bytes).commit n stOk detail hi)

/-! ### What a dispatch waits for (16 R635 to R638; 17 R685, R692) -/

def Ctx.ranged (c : Ctx) : Bool := [opRead, opWrite, opRelease, opVerify].contains c.opcode

def Ctx.modifies (c : Ctx) : Bool := c.opcode == opWrite || c.opcode == opRelease

/-- Two commands conflict (16 R636). -/
def Ctx.conflicts (a b : Ctx) : Bool :=
  a.ranged && b.ranged && (a.modifies || b.modifies) && a.lba < b.lba + b.count && b.lba < a.lba + a.count

/-- Does the mode let a command be dispatched: in recovery hold and SAFE the opcodes of 03 R113; elsewhere, work on the map waits for
its restore (17 R713)? -/
def Dev.modeDispatches (d : Dev) (c : Ctx) : Bool :=
  let o := c.opcode
  let onMap := c.ranged || o == opFlush || o == opSealBand || (o == opFeatureSet && c.p0 == 0x83)
  !d.harvesting &&
    (match d.mod.mode with
     | .boot => holdAccepts o || (d.get F.CFG_STAT_PHASE == 5 && (!onMap || d.drv.restored))
     | .safe => holdAccepts o
     | _ => !onMap || d.drv.restored)

/-- May a QUEUED command be dispatched? -/
def Dev.mayDispatch (d : Dev) (c : Ctx) : Bool :=
  let before := d.cmd.ctxs.filter (fun (x : Ctx) => x.num < c.num && x.active)
  c.state == .queued && d.modeDispatches c
    && (!c.ordered || before.isEmpty) && !before.any (fun (x : Ctx) => x.ordered)
    && !before.any (fun (x : Ctx) => c.conflicts x && (x.state == .queued || x.locked))
    && d.get F.DRV_LOCKS_IN_USE < 1024 && d.drv.pieces.length < 262144

/-- A command is dispatched: its range is locked (16 R632, R636). -/
def Dev.dispatch (d : Dev) (n : Nat) : Dev := (d.mapCtx n (fun c => { c with state := .dispatched, locked := c.ranged })).countLocks

/-- Does a command's context, or a metadata structure it reads, hold POISON (16 R639, INTERNAL)? Which lines these are is a free value: the spec
does not place them (log entry 155). -/
def Dev.metaPoisoned (d : Dev) (c : Ctx) : Bool :=
  !d.ddr.poison.isEmpty && (Config.commandLines c.num c.lba c.count).any (fun x => d.granPoisoned x 64)

/-- The command `n` is dispatched as `g` where it has opcode `o`, meets `p` and nothing holds it back; otherwise it stays as it is. One whose context
or metadata reads POISON ends INTERNAL. -/
def Dev.onDispatch (d : Dev) (n o : Nat) (p : Ctx → Bool) (g : Dev → Ctx → Dev) : Dev :=
  match d.ctx n with
  | none => d
  | some c =>
    if c.opcode == o && p c && d.mayDispatch c then
      if d.metaPoisoned c then d.commit n stInternal 0 0 else g (d.dispatch n) c
    else d

/-! ### Waiting data -/

/-- FREE bands at or under FREE_MIN hold new WRITE commands (17 R692, event 0x420D). -/
def Dev.reserveCheck (d : Dev) : Dev :=
  let low := d.drv.restored && d.freeBands ≤ d.freeMin
  if low && !d.on F.DRV_STAT_WRITES_HELD then
    ((d.put F.DRV_STAT_WRITES_HELD 1).put F.DRV_INT_STAT_HELD 1).post 0x420D [d.freeBands]
  else if !low then d.put F.DRV_STAT_WRITES_HELD 0
  else d

/-- Does a range hold written data (16 R654)? -/
def Dev.rangeWritten (d : Dev) (lba count : Nat) : Bool :=
  d.drv.map.any (fun (e : Extent) => e.lba < lba + count && lba < e.lba + e.count)
    || d.drv.wb.any (fun (w : WriteBack) => lba ≤ w.lba && w.lba < lba + count)

/-! ### Pages -/

/-- 4,096 bytes from fields at offsets; bytes not listed are zero. -/
def pageOf (l : List (Nat × List Nat)) : List Nat :=
  l.foldl (fun p x => p.take x.1 ++ x.2 ++ p.drop (x.1 + x.2.length)) (List.replicate 4096 0)

/-- The serial number (16 R658). -/
def serialBytes : List Nat := (List.range 32).map (fun i => Config.serial i % 256)

/-- IDENTIFY's structure (16 R658). -/
def Dev.identifyPage (d : Dev) : List Nat :=
  let heads := d.headList.length
  pageOf [
    (0x000, leBytes 4 0x44495647 ++ leBytes 2 0x8420 ++ [0xB0, if d.mod.recovery then 0xFF else d.get F.CFG_STAT_SLOT]),
    (0x008, leBytes 4 d.cfg.build ++ leBytes 4 d.cfg.svn ++ leBytes 8 d.userSectors ++ leBytes 4 4096 ++ leBytes 4 4096),
    (0x020, leBytes 4 1048576 ++ leBytes 2 256 ++ [16, 64, 64, 64, d.titheData % 256, heads % 256, d.actuators % 256, heads % 256]),
    (0x030, leBytes 2 (if d.mod.recovery then 0 else d.ceilingRpm) ++ leBytes 2 (if d.mod.recovery then 0 else d.floorRpm)),
    (0x034, leBytes 4 (d.mod.recovery.toNat + 2 * (d.hasSect 0x02 0).toNat)),
    (0x038, leBytes 4 (d.policy 0x4101 0) ++ leBytes 4 (d.policy 0x4102 0)),
    (0x040, serialBytes),
    (0x080, identityPublic (d.get F.TAL_KEY_EPOCH_EPOCH)),
    (0x100, d.digestRegs F.CFG_DIR_DIGEST_BYTES)]

/-- Streams in a mask, by a property of their records. -/
def Dev.streamMask (d : Dev) (p : Stream → Bool) : Nat := maskOf ((d.streams.filter p).map (fun (s : Stream) => s.id))

def Dev.atRiskMask (d : Dev) : Nat := d.get F.THM_AT_RISK_LO_MASK + 2 ^ 32 * d.get F.THM_AT_RISK_HI_MASK

/-- The fence and spare words of the summary page, 0x180 to 0x19F (16 R670). -/
def Dev.fenceWords (d : Dev) : List Nat :=
  let failed := maskOf ((List.range 9).filter (fun q => d.sliceState q == slFailed))
  let acts := maskOf ((List.range 4).filter d.actuatorFenced)
  let remaps := (d.srm.macros.map (fun (m : Macro) => m.remaps.length)).sum
  let micro := (List.range 4).map (fun n => min 255 (d.shp n).uc.remapMicro.length)
  leBytes 4 (d.get F.RCH_STAT_FENCED * 2 ^ 24 + acts * 2 ^ 20 + d.get F.DET_SPARE_STATE * 2 ^ 18 + failed * 2 ^ 9 + d.get F.WAT_CORES_FENCED)
    ++ leBytes 4 (d.get F.LPE_FENCED_MASK) ++ leBytes 4 (d.regAt 0x200A000C)
    ++ leBytes 2 (d.get F.MCC_FENCE_WAYS) ++ leBytes 2 remaps ++ leBytes 4 (d.regAt 0x200E0008)
    ++ leBytes 4 (d.get F.GRN_TITHE_RETIRED_VALUE) ++ micro ++ [d.get F.LPE_STAT_SPARE, d.drv.seals.length, 0, 0]

/-- A stream's record (03 R116). -/
def streamBytes (s : Stream) : List Nat :=
  leBytes 2 s.id ++ leBytes 2 (s.write.toNat + 2 * s.fua.toNat) ++ leBytes 4 s.bw ++ leBytes 4 s.req ++ leBytes 4 s.deadline
    ++ leBytes 8 s.start ++ leBytes 8 s.count

/-- A Day-Book record (19 R795). -/
def recBytes (r : Rec) : List Nat :=
  leBytes 2 r.event.code ++ [r.sev, 0] ++ leBytes 4 r.seconds ++ leBytes 4 r.cycles ++ leBytes 4 r.rep
    ++ leBytes 4 r.event.p0 ++ leBytes 4 r.event.p1 ++ leBytes 4 r.event.p2 ++ leBytes 4 r.event.p3

def Dev.dbkSeq (d : Dev) : Nat := d.get F.DBK_SEQ_LO_SEQ + 2 ^ 32 * d.get F.DBK_SEQ_HI_SEQ

/-- A record placed among records in the order of their sequence numbers. -/
def ageInsert (x : Nat × Rec) : List (Nat × Rec) → List (Nat × Rec)
  | [] => [x]
  | y :: r => if x.1 < y.1 then x :: y :: r else y :: ageInsert x r

/-- The records present, the oldest first (19 R802, R805). -/
def Dev.byAge (d : Dev) : List (Nat × Rec) := (d.dbk.rows.filterMap (fun (r : Row) => r.held)).foldl (fun l x => ageInsert x l) []

/-- The latest boot record (16 R659; 18 R742). -/
def Dev.lastBoot (d : Dev) : List Nat :=
  (d.tal.entries.reverse.find? (fun (e : List Nat) => entryWhole e && entryKind e == kindBoot)).getD (List.replicate 512 0)

/-- Page `n`'s bytes after its GEN (16 R659; 18 R742; 19 R791, R805; 20 R840). -/
def Dev.logBody (d : Dev) (n : Nat) : List (Nat × List Nat) :=
  if n = 0 then [(8, (List.range 240).map (fun p => if [0, 1, 2, 3, 4, 5, 8].contains p || (0x40 ≤ p && p ≤ 0x80) then 1 else 0))]
  else if n = 1 then
    [(8, leBytes 4 d.mod.mode.code ++ leBytes 4 (d.get F.THM_STAT_STEP) ++ leBytes 4 (d.get F.MIL_GAS_DENSITY) ++ leBytes 4 (d.get F.MIL_GAS_BASE)
      ++ leBytes 4 (d.get F.DBK_OPSEC_SECONDS / 3600) ++ leBytes 4 (d.get F.DBK_PCYCLES_CYCLES) ++ d.fenceWords)]
  else if n = 2 then
    [(8, [d.get F.DET_RUNG1_COUNT, d.get F.DET_RUNG2_COUNT, d.get F.DET_HANDOFF_COUNT, d.get F.GRN_TITHE_LOST_VALUE, d.get F.GRN_MISMATCH_COUNT,
          d.drv.mediaErr, d.drv.bufErr, d.drv.sealErr].flatMap (leBytes 4))]
  else if n = 3 then
    [(8, leBytes 8 (d.streamMask (fun _ => true)) ++ leBytes 8 d.atRiskMask)] ++ d.streams.map (fun (s : Stream) => (64 + 32 * s.id, streamBytes s))
  else if n = 4 then
    [(8, leBytes 4 (d.regAt 0x20140040)), (16, (List.range 64).flatMap (fun i => leBytes 4 (d.getI F.WAT_HIST_BYTES i)))]
  else if n = 5 then
    [(8, [0x20160004, 0x20160008, 0x2016000C, 0x20160010, 0x20160014, 0x20160018, 0x2016001C].flatMap (fun a => leBytes 4 (d.regAt a))),
     (64, (List.range 14).flatMap (fun i => leBytes 4 (d.regAt (0x20160040 + 4 * i))))]
  else if n = 8 then [(8, d.lastBoot)]
  else if 0x40 ≤ n ∧ n ≤ 0x80 then
    let l := (d.byAge.drop (127 * (n - 0x40))).take 127
    [(8, leBytes 8 ((l.head?.map (fun x => x.1)).getD d.dbkSeq) ++ leBytes 2 l.length), (32, l.flatMap (fun x => recBytes x.2))]
  else []

/-- A log page as it is built now: its GEN moves on by two and stays even (15 R615; the step is log entry 45). What the policy code gives
its own pages 0x10 to 0x3F is a free value, and so is which of them it implements (16 R659; log entry 5). -/
def Dev.logPage (d : Dev) (n : Nat) : Dev × List Nat :=
  let gen := at' d.hif.logGen n 0 + 2
  let d := { d with hif := { d.hif with logGen := d.hif.logGen.set n gen } }
  let policy := d.hasSect 0x02 0
  let more := if policy && n = 0 then d.freshBytes 48 else if policy && 0x10 ≤ n && n < 0x40 then d.freshBytes 4088 else (d, [])
  let place := if n = 0 then [(8 + 0x10, more.2.map (fun b => b % 2))] else [(8, more.2)]
  let page := pageOf ((0, leBytes 8 gen) :: d.logBody n ++ if more.2.isEmpty then [] else place)
  let d := more.1
  ({ d with hif := { d.hif with pages := (n, page) :: d.hif.pages.filter (fun p => p.1 != n) } }, page)

/-- The summary page's bytes after GEN (16 R670). -/
def Dev.summaryBody (d : Dev) (seq : Nat) : List (Nat × List Nat) :=
  let tags := d.tagsInUse
  let none' := 2 ^ 32 - 1
  let count := fun (st : CtxState) => (d.cmd.ctxs.filter (fun (c : Ctx) => c.state == st)).length
  [(0x008, leBytes 4 seq ++ (List.range 6).flatMap (fun i => leBytes 4 (d.mirrorWord i))),
   (0x028, leBytes 4 tags.length ++ leBytes 4 (tags.foldl min none') ++ leBytes 4 (if tags.isEmpty then none' else tags.foldl max 0)
     ++ leBytes 4 (count .queued) ++ leBytes 4 (count .dispatched)),
   (0x040, (List.range 16).flatMap (fun r =>
     leBytes 2 (d.getI F.HIF_RING_HEAD_HEAD r) ++ leBytes 2 (d.getI F.HIF_RING_TAIL_TAIL r) ++ leBytes 2 (d.getI F.HIF_RING_STAT_WAITING r)
       ++ leBytes 2 (d.getI F.HIF_RING_CFG_ENABLE r + 2 * d.getI F.HIF_RING_TAIL_PHASE r + 4 * d.getI F.HIF_RING_CFG_IEN r))),
   (0x0C0, leBytes 8 (d.streamMask (fun _ => true)) ++ leBytes 8 d.atRiskMask ++ leBytes 8 (d.streamMask (fun (s : Stream) => s.late != 0))),
   (0x100, leBytes 128 (maskOf (tags.map (fun t => t / 1024)))),
   (0x180, d.fenceWords),
   (0x200, leBytes 4 (d.get F.TAL_BOOT_COUNT_VALUE)),
   (0x208, d.digestRegs F.TAL_LAST_BYTES),
   (0x248, leBytes 4 (d.get F.DBK_SEQ_LO_SEQ)),
   (0x300, (List.range 256).flatMap (fun w => leBytes 4 (d.winState w)))]

/-- The tag bitmap (16 R668). -/
def tagBitmap (tags : List Nat) : List Nat :=
  (List.range 131072).map (fun i => maskOf ((tags.filter (fun t => t / 8 == i)).map (fun t => t % 8)))

end Sys2Proof.Machine
end

