-- ==== Sys2Proof/Machine/DayBook.lean ====
section
/-! DEFINITION. The rows of the Day-Book's array (spec/19 R797 to R800, R808 to R811): the pool, wear, tokens, retirement. -/

namespace Sys2Proof.Machine

def rowCount : Nat := 8256

def Dev.setRows (d : Dev) (l : List Row) : Dev :=
  let d := { d with dbk := { d.dbk with rows := l } }
  d.put F.DBK_STAT_RECORDS (l.filter (fun (r : Row) => r.held.isSome)).length

def Dev.setRow (d : Dev) (r : Row) : Dev :=
  let l := d.dbk.rows
  d.setRows (if l.any (fun (x : Row) => x.num == r.num) then l.map (fun (x : Row) => if x.num == r.num then r else x) else l ++ [r])

/-- The least-worn row of the pool (R808): a row never written, or the one written least. -/
def Dev.freeRow (d : Dev) : Option Row :=
  match (List.range (min rowCount (d.dbk.rows.length + 1))).find? (fun n => !d.dbk.rows.any (fun (r : Row) => r.num == n)) with
  | some n => some { num := n, writes := 0 }
  | none =>
    let l := d.dbk.rows.filter (fun (r : Row) => r.held.isNone && !r.retired)
    l.find? (fun (r : Row) => l.all (fun (x : Row) => r.writes ≤ x.writes))

/-- The oldest record of the lowest severity present: its row (R799). -/
def Dev.weakestRow (d : Dev) : Option Row :=
  let sevOf := fun (r : Row) => match r.held with | some x => x.2.sev | none => 9
  let seqOf := fun (r : Row) => match r.held with | some x => x.1 | none => 0
  let l := d.dbk.rows.filter (fun (r : Row) => r.held.isSome)
  l.find? (fun (r : Row) => l.all (fun (x : Row) => sevOf r < sevOf x || (sevOf r == sevOf x && seqOf r ≤ seqOf x)))

/-- A token leaves the bucket (R800). -/
def Dev.takeToken (d : Dev) : Dev :=
  let t := d.get F.DBK_BUDGET_TOKENS
  if t = 0 then d
  else
    let d := d.put F.DBK_BUDGET_TOKENS (t - 1)
    if t = 1 then ({ d with dbk := { d.dbk with emptied := true } }.put F.DBK_STAT_BUDGET_EMPTY 1).put F.DBK_INT_STAT_BUDGET 1 else d

/-- A record leaves to keep within the capacity (R799, R811). -/
def Dev.trimRecords (d : Dev) : Dev :=
  if d.get F.DBK_CAP_CAPACITY < d.get F.DBK_STAT_RECORDS then
    match d.weakestRow with
    | some r => (d.setRow { r with held := none }).countLost (match r.held with | some x => x.2.sev | none => 0)
    | none => d
  else d

/-- A record takes the least-worn free row; with none free the oldest record of the lowest severity gives way, where that is at most its own (R799,
R811). -/
def Dev.moveRecord (d : Dev) (x : Nat × Rec) : Dev :=
  match d.freeRow with
  | some f => (d.setRow { f with writes := f.writes + 1, repeats := 0, held := some x }).takeToken
  | none =>
    match d.weakestRow with
    | none => d.countLost x.2.sev
    | some r =>
      let sev := (r.held.map (fun y => y.2.sev)).getD 9
      if x.2.sev < sev then d.countLost x.2.sev
      else ((d.countLost sev).setRow { r with writes := r.writes + 1, repeats := 0, held := some x }).takeToken

/-- A row is retired (R809, R811; events 0x6103, 0x6104): its record moves to the least-worn free row. -/
def Dev.retireRow (d : Dev) (r : Row) : Dev :=
  let held := r.held
  let d := d.setRow { r with retired := true, held := none }
  let n := (d.dbk.rows.filter (fun (x : Row) => x.retired)).length
  let d := ((d.put F.DBK_CAP_RETIRED n).put F.DBK_CAP_CAPACITY (min 8192 (rowCount - n))).put F.DBK_INT_STAT_ROW 1
  let d := d.post 0x6103 [r.num, r.writes / 10 ^ 6, n]
  let d := match held with
    | some x => d.moveRecord x
    | none => d
  if 64 < n then (d.post 0x6104 [d.get F.DBK_CAP_CAPACITY, n]).trimRecords else d

/-- A row has been written: a read-back that fails twice, or the wear limit, retires it (R809). -/
def Dev.rowWritten (d : Dev) (r : Row) (ok : Bool) : Dev :=
  let d := (d.setRow r).takeToken
  if !ok || 90000000 ≤ r.writes then d.retireRow r else d

/-- A read finds a row uncorrectable (R809, event 0x6106): its record is lost and the row is retired; not during a freeze, in which no record is dropped
(R806). -/
def Dev.rowUnreadable (d : Dev) (n : Nat) : Dev :=
  match d.dbk.rows.find? (fun (r : Row) => r.num == n) with
  | none => d
  | some r =>
    match r.held with
    | none => d
    | some x =>
      if d.on F.DBK_STAT_FROZEN then d
      else (d.post 0x6106 [n, x.1 % 2 ^ 32]).retireRow { r with held := none }

end Sys2Proof.Machine
end

