-- ==== Sys2Proof/Machine/LoadOps.lean ====
section
/-! DEFINITION. The check of a configuration image (spec/03 R92 to R101, R109, R877, R878) with the limits every owning chapter sets: the
boot ROM's load and FW_DOWNLOAD share it. -/

namespace Sys2Proof.Machine

/-! ### Flash bytes -/

/-- `n` bytes of a run from offset `i`: past the bytes it names the run is erased. -/
def FlashRun.read (r : FlashRun) (i n : Nat) : List Nat :=
  let p := (r.bytes.drop i).take n
  p ++ List.replicate (n - p.length) 255

/-- `n` bytes from `off` of flash given as runs, an earlier run over a later one; a byte in no run reads 0xFF, erased. -/
def runsRead : Nat → List FlashRun → Nat → Nat → List Nat
  | 0, _, _, n => List.replicate n 255
  | f + 1, l, off, n =>
    if n = 0 then []
    else
      let k := l.foldl (fun k r => if off < r.off then min k (r.off - off) else k) n
      match l.find? (fun r => r.off ≤ off && off < r.off + r.len) with
      | some r => let k := min k (r.off + r.len - off); r.read (off - r.off) k ++ runsRead f l (off + k) (n - k)
      | none => List.replicate k 255 ++ runsRead f l (off + k) (n - k)

def readRuns (l : List FlashRun) (off n : Nat) : List Nat := runsRead (2 * l.length + 2) l off n

/-- The flash's bytes: what it came with, under what the device has written. -/
def Dev.flashRuns (d : Dev) (l : List (Nat × List Nat)) : List FlashRun := d.cfg.flash ++ l.map (fun r => ⟨r.1, r.2.length, r.2⟩)

/-! ### Selectors (R91 to R93) -/

/-- Do the intervals of a list stay clear of one another? -/
def disjoint : List (Nat × Nat) → Bool
  | [] => true
  | a :: r => r.all (fun b => a.2 = 0 || b.2 = 0 || a.1 + a.2 ≤ b.1 || b.1 + b.2 ≤ a.1) && disjoint r

def selectorOf (k : Nat) (b : List Nat) : Selector :=
  { copy := k, seq := leAt b 4 4, active := leAt b 8 1, slotA := leAt b 0x0C 4, slotB := leAt b 0x10 4, slotSize := leAt b 0x14 4,
    jOff := leAt b 0x18 4, jSize := leAt b 0x1C 4, tOff := leAt b 0x20 4, tSize := leAt b 0x24 4 }

def Selector.slotOff (s : Selector) (slot : Nat) : Nat := if slot = 0 then s.slotA else s.slotB

/-- Is a selector copy valid (R92)? `size` is the flash's. -/
def selectorOk (b : List Nat) (size : Nat) : Bool :=
  let s := selectorOf 0 b
  let regions := [(s.slotA, s.slotSize), (s.slotB, s.slotSize), (s.jOff, s.jSize), (s.tOff, s.tSize)]
  leAt b 0 4 == 0x4C535647 && leAt b 0x28 8 == crc64 (b.take 0x28) && s.active ≤ 1
    && regions.all (fun r => r.1 % 65536 == 0 && r.2 % 65536 == 0 && decide (r.1 + r.2 ≤ size)) && disjoint ((0, 0x2000) :: regions)

/-! ### The header and the directory (R96 to R98) -/

/-- What the checks need to know of the part: the flash's size and the slot's place, the security floor, the root key's digest, the
data capacity in MiB. -/
structure LoadFacts where
  flashSize : Nat
  slotOff : Nat
  slotSize : Nat
  journal : Nat
  floor : Nat
  rootLock : Bool
  root : List Nat
  deriving DecidableEq, Repr

def Dev.rootDigest (d : Dev) : List Nat := (List.range 16).flatMap (fun i => leBytes 4 (d.getI F.TAL_ROOT_BYTES i))

def Dev.loadFacts (d : Dev) (s : Selector) (slot : Nat) : LoadFacts :=
  { flashSize := 2 ^ d.get F.CFG_FLASH_DENSITY, slotOff := s.slotOff slot, slotSize := s.slotSize, journal := s.jSize,
    floor := d.get F.TAL_SVN_FLOOR_FLOOR, rootLock := d.on F.TAL_STAT_ROOT_LOCK, root := d.rootDigest }

def rootKey (dir : List Nat) : List Nat := (dir.drop 0x28).take 57

/-- The code of R109 of the header and the directory signature; zero for none. `dir` holds the bytes from slot offset 0 to the end of
the directory signature. -/
def headerCode (f : LoadFacts) (dir : List Nat) : Nat :=
  let n := imageSections dir
  if f.flashSize < f.slotOff + f.slotSize then 0x01
  else if leAt dir 0 4 != 0x4C415647 then 0x02
  else if leAt dir 4 2 != 1 || leAt dir 6 2 != 0x100 || leAt dir 0x1C 4 != 0x100 || n = 0 || 64 < n then 0x03
  else if leAt dir 0x18 4 != 0x8420B000 then 0x04
  else if leAt dir 0x10 4 < f.floor then 0x05
  else if !f.rootLock || digest64 (rootKey dir) != f.root then 0x06
  else if !edVerify (rootKey dir) (dir.take (0x100 + 96 * n)) ((dir.drop (0x100 + 96 * n)).take 114) then 0x07
  else 0

def imageSize (dir : List Nat) : Nat := leAt dir 8 4

/-- The first entry that breaks R98, or 0 for IMAGE_SIZE: (directory index, TYPE). -/
def dirCode (f : LoadFacts) (dir : List Nat) : Option (Nat × Nat) :=
  let n := imageSections dir
  let span := fun i => let e := dirEntry dir i; (e.off, e.len + if e.signed then 114 else 0)
  let head := (0, 0x100 + 96 * n + 114)
  if f.slotSize < imageSize dir then some (0, 0)
  else
    ((List.range n).find? (fun i =>
      let s := span i
      s.1 % 256 != 0 || decide (imageSize dir < s.1 + s.2) || (head :: (List.range i).map span).any (fun x => !disjoint [x, s]))).map
      (fun i => (i, (dirEntry dir i).typ))

/-! ### The limits of each section -/

def zeros (l : List Nat) (off n : Nat) : Bool := ((l.drop off).take n).all (fun b => b == 0)

/-- A key's least and greatest VALUE and the step between values (05 R160, 10 R410, 11 R442, 12 R482, R489, 13 R537, 15 R587, 16 R631,
17 R675, 18 R760, 19 R776, R801, 20 R827; 03 R100; 04 R131). -/
def policyLimits : List (Nat × Nat × Nat × Nat) :=
  [(0x0201, 128, 240, 1), (0x0202, 1, 8, 1), (0x0301, 0, 1, 1), (0x0302, 0, 86400, 1), (0x0303, 3600, 7200, 1), (0x0304, 0, 86400, 1),
   (0x0305, 64, 1024, 1)]
  ++ [(0x1001, 2, 8, 1), (0x1002, 1000, 100000, 1), (0x1003, 50, 20000, 1), (0x1004, 10, 5000, 1), (0x1005, 1200, 7200, 1),
   (0x1006, 100, 5000, 1), (0x1007, 50, 1000, 1), (0x1008, 100, 1200, 1), (0x1009, 3600, 7200, 60), (0x100A, 3600, 7200, 60),
   (0x100B, 50, 450, 1), (0x100C, 5, 3600, 1), (0x100D, 500, 15000, 1), (0x100E, 0, 20000, 1), (0x100F, 0, 2 ^ 32 - 1, 1),
   (0x1010, 1000, 1000000, 1), (0x1011, 10, 2000, 1), (0x1012, 20, 2000, 1), (0x1013, 3000, 14000, 1)]
  ++ [(0x2101, 1, 12, 1), (0x2102, 1, 12, 1), (0x2103, 1, 8, 1), (0x2104, 1, 8, 1), (0x2105, 1, 16, 1), (0x2106, 0, 4, 1),
   (0x2107, 2, 16, 1), (0x2108, 3, 48, 1), (0x2109, 1, 4, 1), (0x210A, 64, 4096, 1), (0x2201, 0, 2, 1), (0x2202, 1, 8, 1),
   (0x2203, 1, 255, 1), (0x2204, 1, 255, 1), (0x2205, 50, 10000, 1)]
  ++ [(0x3001, 3200, 6400, 3200), (0x3002, 1, 255, 1), (0x3003, 5, 200, 1), (0x3004, 10, 400, 1), (0x3005, 50, 1000, 1),
   (0x3010, 1024, 2 ^ 32 - 1, 1024), (0x3011, 1024, 2 ^ 32 - 1, 256), (0x3101, 1, 64, 1), (0x3102, 16, 255, 1), (0x3103, 1, 60000, 1)]
  ++ [(0x4001, 25, 320, 1), (0x4002, 16, 65535, 1), (0x4003, 10, 10000, 1), (0x4101, 0, 2 ^ 32 - 1, 1), (0x4102, 0, 2 ^ 32 - 1, 1),
   (0x4201, 0, 2 ^ 32 - 1, 1), (0x4202, 64, 4096, 1), (0x4203, 8, 4096, 1), (0x4204, 10, 10000, 1), (0x4205, 4, 256, 1),
   (0x4206, 0, 2 ^ 32 - 1, 64), (0x4207, 0, 16, 1), (0x5001, 0, 1, 1)]
  ++ (List.range 8).map (fun i => (0x6010 + i, 0, 0xFFFF, 1))
  ++ [(0x6001, 10, 10000, 1), (0x6101, 100, 2000, 1), (0x6102, 1, 60, 1), (0x7001, 60, 145, 1), (0x7002, 60, 145, 1), (0x7003, 60, 145, 1),
   (0x7004, 60, 145, 1), (0x7005, 60, 145, 1), (0x7006, 2, 15, 1), (0x7007, 40, 95, 1), (0x7008, 2, 7, 1), (0x7009, 1, 7, 1),
   (0x700A, 40, 85, 1), (0x700B, 1000, 1000000, 1), (0x700C, 2000, 6000, 1)]

def policyDefined (k : Nat) : Bool := policyLimits.any (fun x => x.1 == k)

/-- Limits that are no plain range. -/
def policyExtra (k v : Nat) : Bool :=
  if k = 0x0304 then v = 0 || 60 ≤ v
  else if k = 0x100F then decide (-500 ≤ toSigned 32 v) && decide (toSigned 32 v ≤ 500)
  else if k = 0x4001 then [25, 50, 80, 160, 320].contains v
  else if k = 0x4202 then [64, 128, 256, 512, 1024, 2048, 4096].contains v
  else if 0x6010 ≤ k ∧ k ≤ 0x6017 then v = 0 || Events.severity v == some 3
  else true

def policyValueOk (x : Nat × Nat) : Bool :=
  match policyLimits.find? (fun l => l.1 == x.1) with
  | none => true
  | some l => l.2.1 ≤ x.2 && decide (x.2 ≤ l.2.2.1) && x.2 % l.2.2.2 == 0 && policyExtra x.1 x.2

def noRepeat : List Nat → Bool
  | [] => true
  | a :: r => !r.contains a && noRepeat r

/-- THR_T1 to THR_T5 with their defaults (20 R827). -/
def thrDefault (i : Nat) : Nat := 110 + 8 * i

/-- Does a policy-records section keep the limits it can break on its own? `capMib` is the data capacity, `journal` JOURNAL_SIZE. -/
def policyOk (b : List Nat) (capMib journal : Nat) : Bool :=
  let l := policyPairs (b.length / 8) b
  let p : Dev := { pol := l }
  let v := p.policy
  let has := p.hasPolicy
  let ceil := v 0x1009 7200
  let floor := v 0x100A ceil
  let user := v 0x4201 0 + 2 ^ 32 * v 0x4207 0
  let pool := v 0x3011 (capMib / 2)
  b.length % 8 == 0 && (List.range l.length).all (fun i => zeros b (8 * i + 2) 2)
    && l.all policyValueOk && noRepeat ((l.map (fun x => x.1)).filter policyDefined)
    && [0x1001, 0x1002, 0x1003, 0x1004, 0x1005, 0x1006, 0x4201].all has
    && floor ≤ ceil && (!has 0x0303 || v 0x0303 0 ≤ floor) && (!has 0x2102 || v 0x2102 0 ≤ v 0x2101 8)
    && v 0x2107 8 < v 0x2108 32 && decide (2 ^ 20 ≤ user) && decide (user ≤ 2 ^ 36)
    && (List.range 4).all (fun i => v (0x7001 + i) (thrDefault i) < v (0x7002 + i) (thrDefault (i + 1)))
    && v 0x7009 4 ≤ v 0x7008 6 && (!has 0x4206 || (2 * v 0x0305 1024 ≤ v 0x4206 0 && decide (v 0x4206 0 * 1024 ≤ journal / 2)))
    && v 0x3010 1024 + 2048 ≤ capMib && v 0x3010 1024 + pool + pool / 256 ≤ capMib

/-! The zone and format table (10 R372 to R378, R383 to R385) -/

/-- The limits of R385. -/
def CodeRec.ok (c : CodeRec) : Bool :=
  let shape := match c.code with | 0 => (172, 1200) | 1 => (124, 1152) | 2 => (97, 1125) | _ => (0, 0)
  let inCol := fun j => c.edges.filter (fun e => e.1 == j)
  c.code ≤ 2 && c.rows == shape.1 && c.cols == shape.2 && c.edges.all (fun e => e.1 < c.cols && e.2.1 < c.rows)
    && noRepeat (c.edges.map (fun e => e.1 * 256 + e.2.1))
    && (List.range 1028).all (fun j => 2 ≤ (inCol j).length && (inCol j).length ≤ 6)
    && (List.range c.rows).all (fun r => (c.edges.filter (fun e => e.2.1 == r)).length ≤ 64)
    && (List.range (c.cols - 1028)).all (fun j => (inCol (1028 + j)).any (fun e => e.2.1 == j && e.2.2 == 0)
        && (inCol (1028 + j)).all (fun e => j ≤ e.2.1))

/-- A zone entry's own limits, with the track it must start at. -/
def zoneOk (b : List Nat) (z first : Nat) (codes : List CodeRec) : Bool :=
  let e := zoneAt b z
  let w := leAt b 2 2
  let raw := b.drop (0x20 + 32 * z)
  e.first == first && e.first ≤ e.last && e.code ≤ 2 && codes.any (fun c => c.code == e.code) && zeros raw 15 1 && zeros raw 24 8
    && 32 ≤ e.guard && e.guard ≤ 4096 && 16 ≤ e.gap && e.gap ≤ 4096 && 224 ≤ dataRegionBits e && servoWindowBits e.bpw + 2 * e.guard ≤ e.bpw
    && 1 ≤ e.spt && (sectorStarts e w).length == e.spt && 1 ≤ e.rate && e.rate * 60000 ≤ e.spt * 4096 * leAt b 8 2

def zonesOk : Nat → List Nat → List CodeRec → Nat → Nat → Bool
  | 0, b, _, _, first => first == leAt b 0x0C 4
  | n + 1, b, codes, z, first => zoneOk b z first codes && zonesOk n b codes (z + 1) ((zoneAt b z).last + 1)

def zoneTableOk (b : List Nat) : Bool :=
  let a := leAt b 0 1
  let n := leAt b 1 1
  let off := leAt b 0x10 4
  match (if 0x20 + 32 * n ≤ off ∧ off % 4 = 0 ∧ off ≤ b.length then codeRecs (b.length + 1) (b.drop off) else none) with
  | none => false
  | some codes =>
    1 ≤ a && a ≤ 4 && 1 ≤ n && n ≤ 64 && 64 ≤ leAt b 2 2 && leAt b 2 2 ≤ 720 && 3600 ≤ leAt b 8 2 && leAt b 8 2 ≤ 7200
      && [7, 15, 31].contains (leAt b 10 1) && zeros b 11 1 && zeros b 0x14 12
      && (List.range 4).all (fun k => let h := leAt b (4 + k) 1; if k < a then 1 ≤ h && h ≤ 8 else h == 0)
      && codes.all CodeRec.ok && zonesOk n b codes 0 0

/-! Seek tables (06 R222) -/

def seekOk (b : List Nat) (inst : Nat) : Bool :=
  let n := leAt b 2 1
  let e := seekEntry b
  leAt b 0 1 == inst && inst < 4 && 1 ≤ leAt b 1 1 && leAt b 1 1 ≤ 8 && 2 ≤ n && n ≤ 64 && leAt b 3 1 ≤ 1 && b.length == 0x110 + 16 * n
    && 1024 ≤ leAt b 4 4 && leAt b 4 4 ≤ 16777215 && 100 ≤ leAt b 8 4 && leAt b 8 4 ≤ 20000 && 1 ≤ leAt b 0x0C 4 && leAt b 0x0C 4 ≤ 1000
    && (List.range (n - 1)).all (fun i => (e i).1 < (e (i + 1)).1) && leAt b 4 4 ≤ (e (n - 1)).1 + 1
    && (List.range n).all (fun i => (e i).2.1 ≤ (e i).2.2)

/-! Per-head calibration (06 R241, R242; 09 R359, R360; 11 R432) -/

/-- The records of a calibration section as (RTYPE, body); none where one runs past the end. -/
def calRecords : Nat → List Nat → Option (List (Nat × List Nat))
  | 0, _ => none
  | f + 1, l =>
    if l.isEmpty then some []
    else
      let n := leAt l 2 2
      if l.length < 4 + n then none else (calRecords f (l.drop (4 + (n + 3) / 4 * 4))).map (fun r => (leAt l 0 2, (l.drop 4).take n) :: r)

/-- A 16-bit tap entry: a 10-bit value with its sign extended (09 R360). -/
def tapOk (w : Nat) : Bool := ofSigned 16 (toSigned 10 w) == w

/-- A 96-byte zone entry's limits (09 R360). -/
def seedEntryOk (e : List Nat) : Bool :=
  2 ≤ leAt e 8 1 && leAt e 8 1 ≤ 13 && zeros e 9 1 && 16 ≤ leAt e 10 1 && zeros e 15 1 && zeros e 0x51 1 && zeros e 0x56 10
    && (List.range 32).all (fun i => tapOk (leAt e (0x10 + 2 * i) 2))

def calRecordOk (x : Nat × List Nat) : Bool :=
  let b := x.2
  let u := leAt b
  if x.1 = 0x100 then
    b.length % 4 == 0 && 12 ≤ b.length && u 0 1 ≤ 1 && 2 ≤ u 1 1 && u 1 1 ≤ 16 && 64 ≤ u 2 2 && u 2 2 ≤ 255 && 64 ≤ u 4 2 && u 4 2 ≤ 255
      && 8 ≤ u 6 2 && u 6 2 ≤ 127 && 50 ≤ u 8 2 && u 8 2 ≤ 1000
  else if x.1 = 0x101 then
    b.length == 16 && (List.range 8).all (fun i => u i 1 ≤ 48 && u i 1 ≤ u 12 4 / 256) && 1 ≤ u 8 1 && u 8 1 ≤ 16
  else if x.1 = 0x102 then b.length == 4
  else if x.1 = 0x200 then b.length == 4 + 96 * u 0 1 && zeros b 1 3 && (List.range (u 0 1)).all (fun z => seedEntryOk ((b.drop (4 + 96 * z)).take 96))
  else if x.1 = 0x201 then
    b.length == 16 && 4 ≤ u 0 1 && u 0 1 ≤ 15 && (List.range 3).all (fun i => 2 ≤ u (1 + i) 1 && u (1 + i) 1 ≤ 15)
      && [4, 6].all (fun i => 1 ≤ u i 1 && u i 1 ≤ 10 && 4 ≤ u (i + 1) 1 && u (i + 1) 1 ≤ 15 && u i 1 < u (i + 1) 1)
      && 4 ≤ u 10 1 && u 10 1 ≤ 63 && 16 ≤ u 11 1 && u 11 1 ≤ 224 && 256 ≤ u 12 2 && u 12 2 ≤ 16384
  else if x.1 = 0x300 then
    b.length == 4 + 8 * u 0 1 && zeros b 1 3 && (List.range (u 0 1)).all (fun z =>
      let o := 4 + 8 * z
      (List.range 4).all (fun i => u (o + i) 1 ≤ 31) && u (o + 4) 1 ≤ 8 && u (o + 5) 1 ≤ 15 && u (o + 6) 2 ≤ 4095)
  else false

def calOk (b : List Nat) (inst : Nat) : Bool :=
  match calRecords (b.length + 1) (b.drop 4) with
  | none => false
  | some l =>
    let n := fun t => (l.filter (fun (x : Nat × List Nat) => x.1 == t)).length
    4 ≤ b.length && leAt b 0 1 == inst && inst < 32 && inst == 8 * leAt b 1 1 + leAt b 2 1 && leAt b 2 1 ≤ 7 && l.all calRecordOk
      && [0x100, 0x101, 0x102, 0x200, 0x300].all (fun t => n t == 1) && n 0x201 ≤ 1

/-! Coefficient sets (08 R300 to R302) -/

/-- A coefficient's value in units of 2^-48 (R301). -/
def coefValue (w : Nat) : Int := toSigned 18 w * (2 ^ slice w 18 6 : Nat)

/-- The output range of a class: codes of 12 bits, currents and duties of 16 bits (08 R296). -/
def outRange (cls : Nat) : Int × Int := if 4 ≤ cls then (0, 4095) else (-32768, 32767)

def coefOk (b : List Nat) : Bool :=
  let cls := leAt b 0 1
  let idx := leAt b 1 1
  let ff := leAt b 2 1
  let c := fun i => leAt b (4 + 4 * i) 4
  let lo := sleAt b 0x20 2
  let hi := sleAt b 0x22 2
  cls ≤ 5 && (if cls = 3 then idx < 4 else if 4 ≤ cls then idx < 32 else idx == 0)
    && (if cls = 0 then ff ≤ 1 else if cls ≤ 3 then ff == 0 || ff == 2 else ff == 0) && zeros b 3 1
    && (List.range 7).all (fun i => c i < 2 ^ 24) && decide (0 ≤ coefValue (c 3)) && decide (coefValue (c 3) ≤ (2 ^ 48 : Nat))
    && decide (0 ≤ coefValue (c 5)) && decide (lo < hi) && decide ((outRange cls).1 ≤ lo) && decide (hi ≤ (outRange cls).2)
    && 1 ≤ leAt b 0x24 4 && (if ff = 2 then 3000 ≤ leAt b 0x28 2 && leAt b 0x28 2 ≤ 14000 else leAt b 0x28 2 == 0) && zeros b 0x2A 2

def coefsOk (b : List Nat) : Bool :=
  let n := leAt b 0 2
  let r := fun i => (b.drop (16 + 48 * i)).take 48
  let ids := (List.range n).map (fun i => leAt (r i) 0 1 * 256 + leAt (r i) 1 1)
  1 ≤ n && n ≤ 128 && zeros b 2 14 && b.length == 16 + 48 * n && (List.range n).all (fun i => coefOk (r i)) && noRepeat ids
    && [0, 256, 512].all (fun k => ids.contains k)

/-! Shepherd microcode (07 R269, R270, R282, R284) -/

/-- May a nanoword read (`dir` 1) or write (2) a port? -/
def portAllows (port dir : Nat) : Bool :=
  let r := [0x00, 0x01, 0x02, 0x03, 0x04, 0x05, 0x06, 0x07, 0x08, 0x09, 0x0A, 0x0B, 0x17, 0x1B, 0x3E, 0x3F]
  let w := [0x04, 0x05, 0x10, 0x11, 0x12, 0x14, 0x15, 0x16, 0x18, 0x19, 0x1A, 0x1C]
  if dir = 1 then r.contains port else if dir = 2 then w.contains port else dir == 0

def nanoOk (n : Nat) : Bool :=
  slice n 32 44 == 0 && slice n 111 5 ≤ 16 && slice n 76 2 ≤ 2 && portAllows (slice n 78 6) (slice n 76 2)
    && (slice n 76 2 != 1 || slice n 102 4 == 0)

/-- A micro-word with its nanoword (R269, R284). -/
def microOk (m n count : Nat) : Bool :=
  let alu := slice n 102 4
  let need := max (if alu = 8 || alu = 9 then 3 else 1) (if slice n 76 2 = 1 then 2 else 1)
  need ≤ slice m 12 4 + 1 && (!([1, 2, 3].contains (slice m 9 3)) || slice n 116 12 < count)

def microcodeOk (b : List Nat) (inst : Nat) : Bool :=
  let mc := leAt b 2 2
  let nc := leAt b 4 2
  let off := (0x20 + 2 * mc + 15) / 16 * 16
  let nano := fun i => leAt b (off + 16 * i) 16
  leAt b 0 2 == inst && inst < 4 && 16 ≤ mc && mc ≤ 4096 && 1 ≤ nc && nc ≤ 512 && zeros b 6 26 && b.length == off + 16 * nc
    && zeros b (0x20 + 2 * mc) (off - (0x20 + 2 * mc))
    && (List.range mc).all (fun i =>
      let m := leAt b (0x20 + 2 * i) 2
      slice m 0 9 < nc && nanoOk (nano (slice m 0 9)) && microOk m (nano (slice m 0 9)) mc)

/-! Porter programs (14 R549, R550, R552 to R562) -/

/-- The eight words of an instruction slot. -/
def slotWords (b : List Nat) : List Nat := (List.range 8).map (fun i => leAt b (4 * i) 4)

def porterOk (b : List Nat) : Bool :=
  let n := leAt b 0 2
  let first := (16 + 8 * n + 31) / 32
  let ids := (List.range n).map (fun i => leAt b (16 + 8 * i) 2)
  1 ≤ n && n ≤ 256 && zeros b 2 14 && b.length ≤ 65536 && 16 + 8 * n ≤ b.length && noRepeat ids
    && (List.range n).all (fun i => zeros b (18 + 8 * i) 2 && leAt b (20 + 8 * i) 4 % 32 == 0)
    && (List.range ((b.length + 31) / 32)).all (fun i =>
      i < first || (let x := (b.drop (32 * i)).take 32
        !pwBad (slotWords x) && (leAt x 0 4 / 2 ^ 28 != 1 || first + leAt x 6 2 ≤ i)))

/-! ### One section (R102 step 5) -/

/-- The types of R99 that must be signed. -/
def mustSign (t : Nat) : Bool := [0x0001, 0x0002, 0x0030, 0x0040, 0x0050].contains t

/-- The types of R99. -/
def knownType (t : Nat) : Bool := [0x0001, 0x0002, 0x0010, 0x0011, 0x0020, 0x0030, 0x0040, 0x0050, 0x0060, 0x0070, 0x00F0].contains t

/-- Do a section's contents keep the limits of its chapter? A committed-streams section is judged by admission alone (R121). -/
def contentsOk (e : DirEntry) (b : List Nat) (capMib journal : Nat) : Bool :=
  (!([0x10, 0x30, 0x40, 0x50].contains e.typ) || e.ver == 1) &&
    (if e.typ = 0x10 then zoneTableOk b
     else if e.typ = 0x11 then seekOk b e.inst
     else if e.typ = 0x20 then calOk b e.inst
     else if e.typ = 0x30 then coefsOk b
     else if e.typ = 0x40 then microcodeOk b e.inst
     else if e.typ = 0x50 then porterOk b
     else if e.typ = 0x70 then policyOk b capMib journal
     else true)

/-- The code of a section whose bytes `b` and signature `sig` have been read; zero for none. -/
def sectionCode (key : List Nat) (e : DirEntry) (b sig : List Nat) (capMib journal : Nat) : Nat :=
  if digest64 b != e.digest then 0x0A
  else if (mustSign e.typ && !e.signed) || (e.signed && !edVerify key b sig) then 0x0B
  else if knownType e.typ && !contentsOk e b capMib journal then 0x0C
  else 0

/-! ### The joint limits (R878) -/

/-- The image as read: the directory with the bytes of every section. -/
abbrev Loaded := List (DirEntry × List Nat)

def Loaded.find (l : Loaded) (t inst : Nat) : Option Nat := (List.range l.length).find? (fun i =>
  match l[i]? with | some x => x.1.typ == t && x.1.inst == inst | none => false)

def Loaded.first (l : Loaded) (t : Nat) : Option Nat := (List.range l.length).find? (fun i => match l[i]? with | some x => x.1.typ == t | none => false)

/-- The sections that run, as the device keeps them. -/
def Loaded.sections (l : Loaded) : List Section := (l.filter (fun x => knownType x.1.typ)).map (fun x => ⟨x.1.typ, x.1.inst, x.2⟩)

/-- A device that holds just these sections and policies: the geometry the joint limits are judged on. -/
def Loaded.dev (l : Loaded) : Dev :=
  let pol := match l.find? (fun x => x.1.typ == 0x70) with | some x => policyPairs (x.2.length / 8) x.2 | none => []
  { cfg := { sections := l.sections }, pol := pol }

/-- The first missing required section (R877): its TYPE. -/
def missingSection (l : Loaded) (factory : Bool) : Option Nat :=
  let d := l.dev
  let acts := List.range d.actuators
  let lacks := fun t (insts : List Nat) => insts.any (fun i => (l.find t i).isNone)
  let once := fun t => lacks t [0]
  if once 0x01 then some 0x01
  else if once 0x10 then some 0x10
  else if lacks 0x11 acts then some 0x11
  else if !factory && lacks 0x20 d.headList then some 0x20
  else if once 0x30 then some 0x30
  else if lacks 0x40 acts then some 0x40
  else if once 0x50 then some 0x50
  else if once 0x70 then some 0x70
  else none

/-- Is a section of this type permitted once, or once for each INSTANCE? -/
def perInstance (t : Nat) : Bool := t == 0x11 || t == 0x20 || t == 0x40

/-- Does R99 give the type this INSTANCE? -/
def instancePermitted (t inst : Nat) : Bool :=
  if t = 0xF0 then true else if t = 0x20 then inst < 32 else if perInstance t then inst < 4 else inst == 0

/-- The first section present more often than R99 permits (an INSTANCE that R99 does not give is permitted no section): its directory
index. -/
def repeatedSection (l : Loaded) : Option Nat :=
  (List.range l.length).find? (fun i =>
    match l[i]? with
    | none => false
    | some x => knownType x.1.typ && (!instancePermitted x.1.typ x.1.inst || (x.1.typ != 0xF0
        && (l.take i).any (fun y => y.1.typ == x.1.typ && y.1.inst == x.1.inst))))

/-- The capacity check of 17 R681. -/
def Dev.capacityOk (d : Dev) : Bool :=
  let w := d.titheData
  let ns := max 1 d.headList.length
  let user := d.userSectors
  let most := (List.range d.zoneCount).foldl (fun m z => max m (max (d.fullStripes (d.unitOf z 0)) (d.fullStripes (d.unitOf z (d.zoneBands z - 1))))) 0
  let total := ((List.range d.zoneCount).map (fun z => d.zoneStripes z (d.zoneBands z))).sum
  user + ceilDiv user ns + (d.policy 0x4205 16 + 1) * w * most ≤ total * w

/-- Does a zone's f_bit stay within 0.8 to 6.4 Gb/s at a speed (09 R333)? -/
def bitRateOk (bpw w rpm : Nat) : Bool := 48000000000 ≤ bpw * w * rpm && bpw * w * rpm ≤ 384000000000

/-- The directory indices at which a joint limit fails. -/
def jointFaults (l : Loaded) : List Nat :=
  let d := l.dev
  let iz := (l.first 0x10).getD 0
  let ip := (l.first 0x70).getD 0
  let ic := (l.first 0x30).getD 0
  let zones := List.range d.zoneCount
  let at2 := fun (bad : Bool) (a b : Nat) => if bad then [max a b] else []
  let per := (List.range l.length).flatMap (fun i =>
    match l[i]? with
    | none => []
    | some x =>
      if x.1.typ = 0x11 then at2 (leAt x.2 4 4 != d.tracks) iz i
      else if x.1.typ = 0x20 then
        let rec' := fun t => (recordBody x.2.length (x.2.drop 4) t).getD []
        at2 ((rec' 0x100).length != 12 + 4 * d.zoneCount || leAt (rec' 0x200) 0 1 != d.zoneCount || leAt (rec' 0x300) 0 1 != d.zoneCount) iz i
      else [])
  let bits := at2 (zones.any (fun z => !(bitRateOk (d.zone z).bpw d.wedges d.floorRpm && bitRateOk (d.zone z).bpw d.wedges d.ceilingRpm))) iz ip
  let sets := at2 ((List.range d.actuators).any (fun n => (setRecord (d.sect 0x30 0) 3 n).isNone)
    || d.headList.any (fun h => (setRecord (d.sect 0x30 0) 4 h).isNone || (setRecord (d.sect 0x30 0) 5 h).isNone)) iz ic
  per ++ bits ++ sets ++ at2 (decide (65536 < d.bandCount) || !d.capacityOk) iz ip

/-- The fault of an image whose every section passed on its own (R877, R878): CODE, SECTION, TYPE. -/
def jointCode (l : Loaded) (factory : Bool) : Option (Nat × Nat × Nat) :=
  match missingSection l factory with
  | some t => some (0x09, 0xFF, t)
  | none =>
    let typ := fun i => ((l[i]?).map (fun x => x.1.typ)).getD 0
    match repeatedSection l with
    | some i => some (0x09, i, typ i)
    | none =>
      match jointFaults l with
      | [] => none
      | a :: r => let i := r.foldl min a; some (0x0C, i, typ i)

/-- The directory of the image in a slot, with its signature: `read` gives bytes of the slot. -/
def readDir (read : Nat → Nat → List Nat) : List Nat :=
  let h := read 0 0x100
  let n := min 64 (imageSections h)
  h ++ read 0x100 (96 * n + 114)

/-- The sections of an image read without faults, up to the first that fails: what was loaded, and its CODE, SECTION, TYPE. -/
def readSections (read : Nat → Nat → List Nat) (dir : List Nat) (capMib journal : Nat) : Nat → Nat → Loaded → Loaded × Option (Nat × Nat × Nat)
  | 0, _, l => (l, none)
  | k + 1, i, l =>
    let e := dirEntry dir i
    let b := read e.off e.len
    let c := sectionCode (rootKey dir) e b (read (e.off + e.len) 114) capMib journal
    if c != 0 then (l, some (c, i, e.typ)) else readSections read dir capMib journal k (i + 1) (l ++ [(e, b)])

/-- The check of a slot's bytes as a load would make it, with no read that fails (16 R661; R123): CODE, SECTION, TYPE. -/
def imageCode (f : LoadFacts) (capMib : Nat) (read : Nat → Nat → List Nat) : Option (Nat × Nat × Nat) :=
  let dir := readDir read
  let c := headerCode f dir
  if c != 0 then some (c, 0, 0)
  else
    match dirCode f dir with
    | some x => some (0x08, x.1, x.2)
    | none =>
      match readSections read dir capMib f.journal (imageSections dir) 0 [] with
      | (_, some x) => some x
      | (l, none) => jointCode l ((leAt dir 0x0E 2).testBit 0)

end Sys2Proof.Machine
end

