-- ==== Sys2Proof/Machine/Commands.lean ====
section
/-! DEFINITION. The host's commands at their dispatch (spec/16; 17 R702, R703, R705; 18 R747 to R758). Each acts on the context that holds the command, by
its acceptance number; a context that does not hold such a command, or that may not be dispatched, is left as it is. -/

namespace Sys2Proof.Machine

/-! ### READ and VERIFY (16 R641 to R644; 17 R685, R702, R703) -/

/-- A sector served from the write-back index: a tile that fails its check loses it (16 R642; 12 R496). -/
def Dev.serveTile (d : Dev) (n lba t : Nat) (intact : Bool) : Dev :=
  let r := d.tileUse t 1 intact
  match r.2 with
  | .good => r.1.sectorData n lba 0 (r.1.tileBytes t)
  | _ => ((r.1.waitingLost lba t).freeTile t).sectorEnds n lba 0 (some stBuffer)

/-- A sector not on the medium: from its tile, LOST, or never written (17 R702). -/
def Dev.serveSector (d : Dev) (n : Nat) (bad : List Nat) (lba : Nat) : Dev :=
  match d.drv.wb.find? (fun (w : WriteBack) => w.lba == lba) with
  | some w => d.serveTile n lba w.tile (!bad.contains w.tile)
  | none =>
    match d.mapFind lba with
    | some _ => d.sectorEnds n lba 0 (some stBuffer)
    | none => d.sectorData n lba 0 (List.replicate 4096 0)

/-- Is a sector read from the medium? -/
def Dev.onMedium (d : Dev) (lba : Nat) : Bool := (d.dataIndex lba).isSome && !d.drv.wb.any (fun (w : WriteBack) => w.lba == lba)

/-- The deadline of a covered command (17 R703). -/
def Dev.deadlineOf (d : Dev) (c : Ctx) : Option Nat :=
  if !c.covered then none else (d.stream c.streamId).map (fun (s : Stream) => c.acceptUs + s.deadline)

/-- A dispatched READ or VERIFY: its sectors on the medium are filed as pieces, the others are served at once. -/
def Dev.serveRead (d : Dev) (c : Ctx) (bad : List Nat) : Dev :=
  let lbas := (List.range c.count).map (fun i => c.lba + i)
  let medium := lbas.filter d.onMedium
  let here := lbas.filter (fun l => !d.onMedium l)
  let places := medium.filterMap d.lbaSec
  let lost := medium.filter (fun l => (d.lbaSec l).isNone)
  let d := d.mapCtx c.num (fun x => { x with left := c.count, done := 0 })
  let d := d.fileReads { kind := if c.opcode = opVerify then .verify else .read, ctx := some c.num } 0 0 (d.deadlineOf c) places
  let d := d.when (!medium.isEmpty) (fun d => d.wakeMode 0)
  let d := d.each lost (fun d l => d.sectorEnds c.num l 0 (some stMedia))
  d.each here (fun d l => d.serveSector c.num bad l)

/-- READ (16 R641 to R644; 17 R702): `bad` names the waiting tiles that fail their check. A host transfer that fails ends it with what has
moved, which are free values (log entry 5). -/
def Dev.readAct (d : Dev) (n : Nat) (v : HostView) (bad : List Nat) : Dev :=
  d.onDispatch n opRead (fun _ => true) (fun d c => d.withList v n (4096 * c.count) (fun d segs =>
    match v.error with
    | some k =>
      let r := d.freshBytes (min k (4096 * c.count))
      (r.1.segsToHost { c with segs := segs } 0 r.2).commit n stHost k 0
    | none => d.serveRead c bad))

/-- READ acts as `Dev.readAct` says. -/
def execRead (n : Nat) (v : HostView) (bad : List Nat) (s : State) : Out := s.runIsland 0x10 (fun d => d.readAct n v bad)

/-- VERIFY (16 R626, R641): as a READ that moves nothing. -/
def Dev.verifyAct (d : Dev) (n : Nat) (bad : List Nat) : Dev :=
  d.onDispatch n opVerify (fun _ => true) (fun d c => d.serveRead c bad)

/-- VERIFY acts as `Dev.verifyAct` says. -/
def execVerify (n : Nat) (bad : List Nat) (s : State) : Out := s.runIsland 0x10 (fun d => d.verifyAct n bad)

/-! ### WRITE (16 R645, R647, R655; 17 R692, R703) -/

/-- What holds a WRITE besides R635 to R638: the reserve of FREE bands (17 R692), the tile pool, debug access or an earlier append of its
band (18 R752; 16 R673), the end of a REST entry (04 R151). -/
def Dev.writeMay (d : Dev) (c : Ctx) : Bool :=
  let bands := d.bandsTouched c.lba c.count
  let resting := match d.mod.transit with | some t => t.target == Mode.rest && 3 ≤ t.step | none => false
  !d.on F.DRV_STAT_WRITES_HELD && c.count ≤ d.freeTiles && !resting
    && (bands.isEmpty || (!d.on F.TAL_STAT_DEBUG
      && !d.cmd.ctxs.any (fun (x : Ctx) => x.active && x.num < c.num && x.opcode == opWrite
        && (d.bandsTouched x.lba x.count).any (fun (b : SealBand) => bands.any (fun (y : SealBand) => y.idx == b.idx)))))

/-- The sectors' tiles are filled and wait (17 R702). -/
def Dev.placeWrite (d : Dev) (c : Ctx) (bytes : List Nat) (order owner : Nat) : Dev :=
  d.each (List.range c.count) (fun d i =>
    let r := d.newTile prodPorter ((bytes.drop (4096 * i)).take 4096)
    match r.2 with
    | some t => r.1.putWaiting (c.lba + i) t order owner
    | none => r.1)

/-- An append is in its band: the sector after it is the band's last written (16 R654, R657 text). -/
def Dev.noteAppend (d : Dev) (c : Ctx) : Dev :=
  d.each (d.bandsTouched c.lba c.count) (fun d (b : SealBand) =>
    let b := { b with written := c.lba + c.count }
    (d.setSeal b).journal recMapSet (leBytes 12 b.journaled))

/-- A WRITE whose bytes have come. -/
def Dev.doWrite (d : Dev) (c : Ctx) (bytes : List Nat) : Dev :=
  let fua := d.fuaWrite c
  let order := if fua then 0 else d.drv.acks + 1
  let d := (d.placeWrite c bytes order (if fua then c.num else 0)).noteAppend c
  let d := if fua then d else { d with drv := { d.drv with acks := d.drv.acks + 1 } }
  let bands := (d.bandsTouched c.lba c.count).map (fun (b : SealBand) => b.idx)
  let d := if fua then d.flushTags (fun b _ => bands.contains b.idx) else d
  let d := if fua || d.mod.mode == Mode.rest then d.wakeMode 0 else d
  if fua then d.flushProgress else d.commit c.num stOk c.count 0

/-- WRITE (16 R626, R645 to R647). A host transfer that fails ends it with nothing acknowledged. -/
def Dev.writeAct (d : Dev) (n : Nat) (v : HostView) : Dev :=
  d.reserveCheck.onDispatch n opWrite d.reserveCheck.writeMay (fun d c => d.withList v n (4096 * c.count) (fun d segs =>
    match v.error with
    | some k => d.commit n stHost k 0
    | none => d.doWrite c (d.gather v segs)))

/-- WRITE acts as `Dev.writeAct` says. -/
def execWrite (n : Nat) (v : HostView) (s : State) : Out := s.runIsland 0x10 (fun d => d.writeAct n v)

/-! ### FLUSH, RELEASE, ABORT (16 R643, R646, R648) -/

/-- FLUSH (16 R646; 18 R749): with ORDERED it waits for every write before it. -/
def Dev.flushAct (d : Dev) (n : Nat) : Dev :=
  d.onDispatch n opFlush (fun _ => true) (fun d c =>
    let upTo := if c.ordered then d.drv.acks else c.waitOrder
    let d := d.flushTags (fun _ _ => true)
    let left := d.notDurable upTo
    let d := d.mapCtx n (fun c => { c with waitOrder := upTo, left := left })
    (d.when (left != 0) (fun d => d.wakeMode 0)).flushProgress)

/-- FLUSH acts as `Dev.flushAct` says. -/
def execFlush (n : Nat) (s : State) : Out := s.runIsland 0x10 (fun d => d.flushAct n)

/-- RELEASE (16 R626, R640, R643): a COUNT of 2^36 takes two records. -/
def Dev.releaseAct (d : Dev) (n : Nat) : Dev :=
  d.onDispatch n opRelease (fun _ => true) (fun d c =>
    let d := if c.count = 2 ^ 36 then (d.releaseRange c.lba (2 ^ 35)).releaseRange (c.lba + 2 ^ 35) (2 ^ 35) else d.releaseRange c.lba c.count
    (d.commit n stOk (c.count % 2 ^ 32) (c.count / 2 ^ 32)).flushProgress)

/-- RELEASE acts as `Dev.releaseAct` says. -/
def execRelease (n : Nat) (s : State) : Out := s.runIsland 0x10 (fun d => d.releaseAct n)

/-- An ABORT's target by its tag. -/
def Dev.abortTarget (d : Dev) (c : Ctx) : Option Ctx := d.cmd.ctxs.find? (fun (x : Ctx) => x.tag == c.p0)

/-- Dispatched commands that R648 does not name run to their end first. -/
def Dev.abortMay (d : Dev) (c : Ctx) : Bool :=
  match d.abortTarget c with
  | none => true
  | some x =>
    x.state != .dispatched || [opRead, opVerify, opWrite, opFlush, opAbort, opActivate, opResync, opAttest].contains x.opcode

/-- A dispatched target ends (R648): a READ or VERIFY at its sector boundary, a WRITE with its data in place. -/
def Dev.abortDispatched (d : Dev) (x : Ctx) : Dev :=
  if x.opcode = opRead || x.opcode = opVerify then
    (((d.stopReads x.num).post 0x4104 [x.tag, 1])).commit x.num stAborted x.done 0
  else
    let wb := d.drv.wb.map (fun (w : WriteBack) => if w.ctx == x.num then { w with ctx := 0 } else w)
    let unprog := d.drv.unprog.map (fun u => if u.2 == x.num then (u.1, 0) else u)
    { d with drv := { d.drv with wb := wb, unprog := unprog } }.abortCtx x.num

/-- ABORT (16 R640, R648, events 0x4104, 0x4105). -/
def Dev.abortAct (d : Dev) (n : Nat) : Dev :=
  d.onDispatch n opAbort d.abortMay (fun d c =>
    let tag := c.p0
    match d.abortTarget c with
    | none =>
      if d.cmd.posted.any (fun e => e.2 == tag) then (d.post 0x4105 [tag]).commit n stAlready tag 0 else d.commit n stNotFound tag 0
    | some x =>
      if [opAbort, opActivate, opResync, opAttest].contains x.opcode then d.commit n stNotAbortable tag 0
      else if x.state = .committed then (d.post 0x4105 [tag]).commit n stAlready tag 0
      else
        let d := d.mapCtx x.num (fun x => { x with abortSeen := true })
        let d := if x.state = .queued then d.abortCtx x.num else d.abortDispatched x
        let d := if x.opcode = opFlush && x.state = .dispatched then d else d.mapCtx n (fun c => { c with after := some x.num })
        d.commit n stOk tag 0)

/-- ABORT acts as `Dev.abortAct` says. -/
def execAbort (n : Nat) (s : State) : Out := s.runCore (fun d => d.abortAct n)

/-! ### Streams and sealed bands (16 R650, R653 to R656) -/

/-- STREAM_OPEN (16 R640, R650): the stream has been open since acceptance. -/
def Dev.streamOpenAct (d : Dev) (n : Nat) : Dev :=
  d.onDispatch n opStreamOpen (fun _ => true) (fun d c => d.commit n stOk (d.headroom d.streams) c.record.1.id)

/-- STREAM_OPEN acts as `Dev.streamOpenAct` says. -/
def execStreamOpen (n : Nat) (s : State) : Out := s.runCore (fun d => d.streamOpenAct n)

/-- STREAM_CLOSE (16 R653): it ends once the stream's earlier commands have. -/
def Dev.streamCloseAct (d : Dev) (n : Nat) : Dev :=
  d.onDispatch n opStreamClose (fun _ => true) (fun d _ => d.closeProgress)

/-- STREAM_CLOSE acts as `Dev.streamCloseAct` says. -/
def execStreamClose (n : Nat) (s : State) : Out := s.runCore (fun d => d.streamCloseAct n)

/-- SEAL_BAND without CLOSE (16 R654, event 0x410E). -/
def Dev.sealBandCreateAct (d : Dev) (n : Nat) : Dev :=
  d.onDispatch n opSealBand (fun c => c.p2 == 0) (fun d c =>
    match (List.range 64).find? (fun i => !d.drv.seals.any (fun (b : SealBand) => b.idx == i)) with
    | none => d.commit n stSealNotEmpty 0 0
    | some i =>
      if d.rangeWritten c.lba c.count || !(d.bandsTouched c.lba c.count).isEmpty then d.commit n stSealNotEmpty 0 0
      else
        let b : SealBand := { idx := i, lba := c.lba, count := c.count, ptr := c.lba, closed := false, written := c.lba }
        let d := { d with drv := { d.drv with seals := d.drv.seals ++ [b] } }.showMap
        ((d.journal recMapSet (leBytes 12 b.bits)).post 0x410E [i, c.lba % 2 ^ 32, 0]).commit n stOk i 0)

/-- SEAL_BAND acts as `Dev.sealBandCreateAct` says. -/
def execSealBandCreate (n : Nat) (s : State) : Out := s.runCore (fun d => d.sealBandCreateAct n)

/-- SEAL_BAND with CLOSE (16 R656; 18 R749). -/
def Dev.sealBandCloseAct (d : Dev) (n : Nat) : Dev :=
  d.onDispatch n opSealBand (fun c => c.p2 == 1) (fun d c =>
    match d.drv.seals.find? (fun (b : SealBand) => b.lba == c.lba) with
    | none => d.commit n stNotFound 0 0
    | some b =>
      let b := { b with closed := true }
      let d := ((d.setSeal b).journal recMapSet (leBytes 12 b.journaled)).flushTags (fun x _ => x.idx == b.idx)
      (d.post 0x410E [b.idx, b.lba % 2 ^ 32, 1]).commit n stOk b.idx 1)

/-- SEAL_BAND acts as `Dev.sealBandCloseAct` says. -/
def execSealBandClose (n : Nat) (s : State) : Out := s.runCore (fun d => d.sealBandCloseAct n)

/-! ### IDENTIFY, logs and features (16 R658 to R660) -/

/-- IDENTIFY (16 R658). -/
def Dev.identifyAct (d : Dev) (n : Nat) (v : HostView) : Dev :=
  d.onDispatch n opIdentify (fun _ => true) (fun d _ => d.movePage v n d.identifyPage 4096 0)

/-- IDENTIFY acts as `Dev.identifyAct` says. -/
def execIdentify (n : Nat) (v : HostView) (s : State) : Out := s.runCore (fun d => d.identifyAct n v)

/-- LOG_READ (16 R659): `lost` are the rows of a Day-Book page that its reads find uncorrectable (19 R805, R809). -/
def Dev.logReadAct (d : Dev) (n : Nat) (v : HostView) (lost : List Nat) : Dev :=
  d.onDispatch n opLogRead (fun _ => true) (fun d c =>
    let d := if 0x40 ≤ c.p0 && c.p0 ≤ 0x80 then d.each lost Dev.rowUnreadable else d
    let r := d.logPage (c.p0 % 256)
    r.1.movePage v n r.2 4096 0)

/-- LOG_READ acts as `Dev.logReadAct` says. -/
def execLogRead (n : Nat) (v : HostView) (lost : List Nat) (s : State) : Out := s.runCore (fun d => d.logReadAct n v lost)

/-- FEATURE_GET (16 R640, R660). -/
def Dev.featureGetAct (d : Dev) (n : Nat) : Dev :=
  d.onDispatch n opFeatureGet (fun _ => true) (fun d c =>
    let r := d.featureRead (c.p0 % 256)
    r.2.commit n stOk r.1 (c.p0 % 256))

/-- FEATURE_GET acts as `Dev.featureGetAct` says. -/
def execFeatureGet (n : Nat) (s : State) : Out := s.runCore (fun d => d.featureGetAct n)

def Ctx.value (c : Ctx) : Nat := c.p1 % 2 ^ 32

/-- FEATURE_SET of POWER_MODE (16 R660; 04 R136). -/
def Dev.featurePowerModeAct (d : Dev) (n : Nat) : Dev :=
  d.onDispatch n opFeatureSet (fun c => c.p0 == 0x01) (fun d c =>
    match d.requestReason c.value with
    | some why => (d.refuseRequest c.value why).featureRefused n 0x01 why
    | none => (d.modRequest c.value).featureDone n 0x01 d.mod.mode.code c.value)

/-- FEATURE_SET acts as `Dev.featurePowerModeAct` says. -/
def execFeaturePowerMode (n : Nat) (s : State) : Out := s.runCore (fun d => d.featurePowerModeAct n)

/-- FEATURE_SET of a MOD register: outside its key's range it is refused with reason 1 (16 R639, R660; 04 R152). -/
def Dev.featureIdle (d : Dev) (n f v : Nat) : Dev :=
  let old := d.get (idleField f)
  let ok := d.idleOk f v
  let d := d.idleWrite f v
  if ok then d.featureDone n f old v else d.featureRefused n f 1

/-- FEATURE_SET of EASE_IDLE (16 R660). -/
def Dev.featureEaseIdleAct (d : Dev) (n : Nat) : Dev :=
  d.onDispatch n opFeatureSet (fun c => c.p0 == 0x02) (fun d c => d.featureIdle n 0x02 c.value)

/-- FEATURE_SET acts as `Dev.featureEaseIdleAct` says. -/
def execFeatureEaseIdle (n : Nat) (s : State) : Out := s.runCore (fun d => d.featureEaseIdleAct n)

/-- FEATURE_SET of REST_IDLE (16 R660). -/
def Dev.featureRestIdleAct (d : Dev) (n : Nat) : Dev :=
  d.onDispatch n opFeatureSet (fun c => c.p0 == 0x03) (fun d c => d.featureIdle n 0x03 c.value)

/-- FEATURE_SET acts as `Dev.featureRestIdleAct` says. -/
def execFeatureRestIdle (n : Nat) (s : State) : Out := s.runCore (fun d => d.featureRestIdleAct n)

/-- FEATURE_SET of EASE_RPM (16 R660). -/
def Dev.featureEaseRpmAct (d : Dev) (n : Nat) : Dev :=
  d.onDispatch n opFeatureSet (fun c => c.p0 == 0x04) (fun d c => d.featureIdle n 0x04 c.value)

/-- FEATURE_SET acts as `Dev.featureEaseRpmAct` says. -/
def execFeatureEaseRpm (n : Nat) (s : State) : Out := s.runCore (fun d => d.featureEaseRpmAct n)

/-- A protected feature asks for its Tally entry (18 R757); a request refused at once refuses the feature, reason 6. -/
def Dev.featureAsk (d : Dev) (n f kind : Nat) (payload : List Nat) : Dev :=
  let d := d.talAsk kind payload (some n)
  if d.tal.req.isSome then d else d.featureRefused n f 6

/-- FEATURE_SET of KEY_ROTATE (18 R757, R758). -/
def Dev.featureKeyRotateAct (d : Dev) (n : Nat) : Dev :=
  d.onDispatch n opFeatureSet (fun c => c.p0 == 0x80 && d.tal.req.isNone) (fun d c =>
    let e := d.get F.TAL_KEY_EPOCH_EPOCH
    if e = 65535 then d.featureRefused n 0x80 2
    else if c.value != e + 1 then d.featureRefused n 0x80 1
    else d.featureAsk n 0x80 kindRotate (identityPublic (e + 1)))

/-- FEATURE_SET acts as `Dev.featureKeyRotateAct` says. -/
def execFeatureKeyRotate (n : Nat) (s : State) : Out := s.runCore (fun d => d.featureKeyRotateAct n)

/-- FEATURE_SET of DEBUG_UNLOCK (18 R757 to R759): a lock needs no entry. -/
def Dev.featureDebugUnlockAct (d : Dev) (n : Nat) : Dev :=
  d.onDispatch n opFeatureSet (fun c => c.p0 == 0x81 && (c.value == 0 || d.tal.req.isNone)) (fun d c =>
    if c.value = 0 then (d.lockDebug 0).featureDone n 0x81 (d.get F.TAL_STAT_DEBUG) 0
    else if c.value = 1 then d.featureAsk n 0x81 kindDebug []
    else d.featureRefused n 0x81 1)

/-- FEATURE_SET acts as `Dev.featureDebugUnlockAct` says. -/
def execFeatureDebugUnlock (n : Nat) (s : State) : Out := s.runCore (fun d => d.featureDebugUnlockAct n)

/-- FEATURE_SET of SVN_FLOOR (18 R757, R758). -/
def Dev.featureSvnFloorAct (d : Dev) (n : Nat) : Dev :=
  d.onDispatch n opFeatureSet (fun c => c.p0 == 0x82 && d.tal.req.isNone) (fun d c =>
    let old := d.get F.TAL_SVN_FLOOR_FLOOR
    if c.value ≤ old then d.featureRefused n 0x82 3
    else if d.cfg.svn < c.value then d.featureRefused n 0x82 4
    else d.featureAsk n 0x82 kindFloor (leBytes 4 old ++ leBytes 4 c.value))

/-- FEATURE_SET acts as `Dev.featureSvnFloorAct` says. -/
def execFeatureSvnFloor (n : Nat) (s : State) : Out := s.runCore (fun d => d.featureSvnFloorAct n)

/-- FEATURE_SET of UNSEAL_BAND (16 R660; 18 R757, R758). -/
def Dev.featureUnsealBandAct (d : Dev) (n : Nat) : Dev :=
  d.onDispatch n opFeatureSet (fun c => c.p0 == 0x83 && d.tal.req.isNone) (fun d c =>
    match d.drv.seals.find? (fun (b : SealBand) => b.idx == c.value && b.closed) with
    | none => d.featureRefused n 0x83 5
    | some b => d.featureAsk n 0x83 kindUnseal (leBytes 8 b.idx ++ leBytes 8 b.lba ++ leBytes 8 b.count))

/-- FEATURE_SET acts as `Dev.featureUnsealBandAct` says. -/
def execFeatureUnsealBand (n : Nat) (s : State) : Out := s.runCore (fun d => d.featureUnsealBandAct n)

/-! ### Firmware (16 R661 to R666) -/

/-- The code of R109 that the LAST check gives a slot whose bytes are `image` and then erased ones; zero where it passes (R661). -/
def Dev.slotCode (d : Dev) (sel : Selector) (image : List Nat) : Nat :=
  match imageCode (d.loadFacts sel (1 - sel.active)) (1024 * d.get F.DDR_CONFIG_CAP_GIB)
      (fun off n => (List.range n).map (fun i => at' image (off + i) 0xFF)) with
  | none => 0
  | some x => x.1

/-- Bytes of an FW_DOWNLOAD are programmed; with LAST the slot is checked (R661, event 0x4109). -/
def Dev.program (d : Dev) (c : Ctx) (sel : Selector) (bytes : List Nat) : Dev :=
  let image := (if c.p2.testBit 0 then [] else d.cmd.image) ++ bytes
  let d := { d with cmd := { d.cmd with image := image, written := c.p0 + bytes.length } }.flashWrite
    ⟨sel.slotOff (1 - sel.active), sel.slotSize, image⟩
  if !c.p2.testBit 1 then d.commit c.num stOk bytes.length 0
  else
    let code := d.slotCode sel image
    let d := { d with cmd := { d.cmd with series := false, checked := code == 0 } }.post 0x4109 [code, 1 - sel.active]
    d.commit c.num (if code = 0 then stOk else stDownload) bytes.length code

/-- FW_DOWNLOAD (16 R661, R662). -/
def Dev.fwDownloadAct (d : Dev) (n : Nat) (v : HostView) : Dev :=
  d.onDispatch n opDownload (fun _ => true) (fun d c =>
    match d.cfg.sel with
    | none => d.commit n stDownload 0 1
    | some sel =>
      if sel.slotSize < c.p0 + c.p1 then d.commit n stDownload 0 8
      else
        d.withList v n c.p1 (fun d segs =>
          match v.error with
          | some k => d.commit n stHost k 0
          | none => d.program c sel (d.gather v segs)))

/-- FW_DOWNLOAD acts as `Dev.fwDownloadAct` says. -/
def execFwDownload (n : Nat) (v : HostView) (s : State) : Out := s.runCore (fun d => d.fwDownloadAct n v)

/-- FW_ACTIVATE (16 R663, R666, event 0x4107; 03 R122). -/
def Dev.fwActivateAct (d : Dev) (n : Nat) : Dev :=
  d.onDispatch n opActivate (fun _ => true) (fun d c =>
    if d.mod.recovery && d.cfg.sel.isNone then d.commit n stDownload 0 1
    else
      let queued := (d.cmd.ctxs.filter (fun (x : Ctx) => x.state == .queued)).length
      let short := d.mod.recovery || d.mod.mode == Mode.safe
      let a : Activation := { ctx := n, step := 2, ended := 0, short := short }
      let d := ((d.setPause true).post 0x4107 [c.p0, queued]).setAct a
      if short then d.activationSwitch a else d)

/-- FW_ACTIVATE acts as `Dev.fwActivateAct` says. -/
def execFwActivate (n : Nat) (s : State) : Out := s.runCore (fun d => d.fwActivateAct n)

/-- ACTIVATION_TIMEOUT (16 R663, event 0x4108). -/
def Dev.activationTimeoutAct (d : Dev) : Dev :=
  match d.cmd.act with
  | none => d
  | some a =>
    if a.step != 2 then d
    else
      let l := d.cmd.ctxs.filter (fun (x : Ctx) => x.state == .queued)
      let d := d.each l (fun d (x : Ctx) => d.commit x.num stAbortedActivation 0 0)
      let d := d.setAct { a with ended := l.length }
      if l.isEmpty then d else d.post 0x4108 [l.length]

/-- ACTIVATION_TIMEOUT acts as `Dev.activationTimeoutAct` says. -/
def execActivationTimeout (s : State) : Out := s.runCore (fun d => d.activationTimeoutAct)

/-! ### RESYNC, ATTEST, drive-maker commands (16 R667 to R672; 18 R741, R742) -/

/-- The summary page is built (16 R668, R670, event 0x4110). -/
def Dev.buildSummary (d : Dev) : Dev :=
  let seq := d.cmd.resyncs + 1
  let gen := d.hif.summaryGen + 2
  let page := pageOf ((0, leBytes 8 gen) :: d.summaryBody seq)
  { d with cmd := { d.cmd with resyncs := seq }, hif := { d.hif with summaryGen := gen, summary := page } }.post 0x4110
    [seq, d.tagsInUse.length]

/-- RESYNC (16 R668 to R670). -/
def Dev.resyncAct (d : Dev) (n : Nat) (v : HostView) : Dev :=
  d.onDispatch n opResync (fun _ => true) (fun d c =>
    let tags := d.tagsInUse
    let d := d.buildSummary
    let seq := d.cmd.resyncs
    if c.p2 = 0 then d.commit n stOk seq (min 65535 tags.length)
    else d.movePage v n (d.hif.summary ++ if c.p2.testBit 1 then tagBitmap tags else []) seq (min 65535 tags.length))

/-- RESYNC acts as `Dev.resyncAct` says. -/
def execResync (n : Nat) (v : HostView) (s : State) : Out := s.runCore (fun d => d.resyncAct n v)

/-- ATTEST with P0 zero (16 R667; 18 R741): a host transfer that fails ends it with what has moved, which are free values (log entry 5). -/
def Dev.attestFreshAct (d : Dev) (n : Nat) (v : HostView) : Dev :=
  d.onDispatch n opAttest (fun c => c.p0 == 0 && d.tal.req.isNone) (fun d c => d.withList v n 512 (fun d segs =>
    match v.error with
    | some k =>
      let r := d.freshBytes (min k 512)
      (r.1.segsToHost { c with segs := segs } 0 r.2).commit n stHost k 0
    | none => d.talAsk kindAttest (d.hostRead v c.p1 32) (some n)))

/-- ATTEST acts as `Dev.attestFreshAct` says. -/
def execAttestFresh (n : Nat) (v : HostView) (s : State) : Out := s.runCore (fun d => d.attestFreshAct n v)

/-- ATTEST with P0 not zero (16 R667; 18 R742): the boot record of a boot. -/
def Dev.attestBootRecordAct (d : Dev) (n : Nat) (v : HostView) : Dev :=
  d.onDispatch n opAttest (fun c => c.p0 != 0) (fun d c =>
    match d.tal.entries.reverse.find? (fun (e : List Nat) => entryWhole e && entryKind e == kindBoot && entryBoots e + 1 == c.p0) with
    | none => d.commit n stNotFound 0 0
    | some e => d.movePage v n e 512 0)

/-- ATTEST acts as `Dev.attestBootRecordAct` says. -/
def execAttestBootRecord (n : Nat) (v : HostView) (s : State) : Out := s.runCore (fun d => d.attestBootRecordAct n v)

/-- Statuses that the policy code may decide (16 R671). -/
def policyStatus (x : Nat) : Bool := x == 0 || (0x10 ≤ x && x ≤ 0x12) || 0x8000 ≤ x

/-- DRIVE_MAKER_COMMAND (16 R671, R672): `a` is the policy code's answer. -/
def Dev.driveMakerCommandAct (d : Dev) (n : Nat) (v : HostView) (a : PolicyAnswer) : Dev :=
  match d.ctx n with
  | none => d
  | some c =>
    if c.opcode < 0xC0 || !policyStatus a.status.toNat then d
    else
      d.onDispatch n c.opcode (fun _ => true) (fun d c =>
        if a.bytes.isEmpty then d.commit n a.status.toNat a.detail.toNat a.hi.toNat
        else d.withList v n a.bytes.length (fun d segs =>
          match v.error with
          | some k => (d.segsToHost { c with segs := segs } 0 (a.bytes.take k)).commit n stHost k 0
          | none => (d.segsToHost { c with segs := segs } 0 a.bytes).commit n a.status.toNat a.detail.toNat a.hi.toNat))

/-- DRIVE_MAKER_COMMAND acts as `Dev.driveMakerCommandAct` says. -/
def execDriveMakerCommand (n : Nat) (v : HostView) (a : PolicyAnswer) (s : State) : Out := s.runCore (fun d => d.driveMakerCommandAct n v a)

end Sys2Proof.Machine
end

