-- ==== Sys2Proof/Machine/Drover.lean ====
section
/-! DEFINITION. The Drover (spec/17): decision points, stripe runs, the cleaner, rebuilds, surfaces, the journal, checkpoints, the restore
of the map; with the stream limits of spec/20 R832. -/

namespace Sys2Proof.Machine

/-! ### Angles, seeks and pairs (R686 to R689) -/

/-- A revolution, µs: W × J (06 R219). -/
def Dev.revUs (d : Dev) (n : Nat) : Nat := d.wedges * d.getI F.SHP_INTERVAL_CYCLES n / 800

/-- The fraction of a revolution at which a sector starts, in 1/65,536 (R686; 10 R377). -/
def Dev.sectorAngle (d : Dev) (track idx : Nat) : Nat :=
  let z := d.zone (d.zoneOf track)
  let w := max 1 d.wedges
  let x := at' (sectorStarts z w) idx (0, 0)
  let dw := max 1 (dataRegionBits z)
  65536 * (x.1 * dw + min x.2 (dw - 1)) / (w * dw)

/-- The angular and the radial bucket of a piece (R686). -/
def Dev.bucketA (d : Dev) (p : Piece) : Nat := d.sectorAngle p.track ((p.secs.head?.map (fun (x : Sec) => x.idx)).getD 0) / 256
def Dev.bucketB (d : Dev) (track : Nat) : Nat := 128 * track / max 1 d.tracks

/-- The angle of the last wedge of an actuator, in 1/65,536. -/
def Dev.wedgeAngle (d : Dev) (n : Nat) : Nat := 65536 * d.getI F.SHP_WEDGE_WEDGE n / max 1 d.wedges

/-- The track a channel is at. -/
def Dev.trackOf (d : Dev) (s : Nat) : Nat := trackIn (d.posAt (s / 2) (s % 2))

/-- Slack of a piece for a channel, with the two subtractions kept on the other side (R687): the time its work needs. -/
def Dev.reachTime (d : Dev) (s : Nat) (p : Piece) : Nat :=
  let n := s / 2
  let seek := seekTime (d.seekSect n) (gap (d.trackOf s) p.track) (p.why.kind == .writePass)
  let turn := (65536 + d.sectorAngle p.track ((p.secs.head?.map (fun (x : Sec) => x.idx)).getD 0) - d.wedgeAngle n) % 65536
  seek + turn * d.revUs n / 65536

/-- May a head at a track run beside the other channel's piece: R230 of spec/06 with the reach that the Shepherd publishes (R689)? -/
def Dev.pairOk (d : Dev) (q : Piece) (head track : Nat) : Bool :=
  let pair := d.getI F.SHP_REACH_PAIR q.act
  let pos := fun (h t : Nat) => (256 * t : Nat) - d.headOffset h (d.zoneOf t)
  pair != 0 && head != q.head && (pos head track - pos q.head q.track).natAbs ≤ 256 * pair

/-! ### Stream limits (spec/20 R832) -/

/-- Channels that an actuator may have holding pieces. -/
def Dev.permitted (d : Dev) (n : Nat) : Nat :=
  let live := (List.range 4).filter (fun a => d.actuatorFitted a && !d.actuatorFenced a)
  let i := (live.filter (fun a => a < n)).length
  let l := d.streamLimit d.appliedStep
  if !live.contains n then 0 else (if i < l then 1 else 0) + (if live.length + i < l then 1 else 0)

/-! ### The cleaner and the surface rebuild (R692, R718) -/

/-- LBAs that the map names in a band, in order. -/
def Dev.liveLbas (d : Dev) (b : Nat) : List Nat :=
  let lo := d.firstStripe b * d.titheData
  let hi := lo + (d.band b).stripes * d.titheData
  d.drv.map.flatMap (fun (e : Extent) =>
    if e.lost then [] else
      let x := max lo e.dstart
      let y := min hi (e.dstart + e.count)
      (List.range (y - x)).map (fun i => e.lba + (x - e.dstart) + i))

def Dev.showCleaning (d : Dev) : Dev := d.flag F.DRV_STAT_CLEANING (d.drv.bands.any (fun (b : Band) => b.state == bandCleaning))

/-- The FULL band with the least LIVE. -/
def leastLive : List Band → Option Band
  | [] => none
  | b :: r => match leastLive r with | some c => if c.live < b.live then some c else some b | none => some b

/-- The cleaner starts on a band (R692). -/
def Dev.cleaner (d : Dev) : Dev :=
  let due := d.freeBands ≤ d.freeMin + 2 || 15 * d.mapLimit < 16 * (d.drv.map.length + d.drv.seals.length)
  if !due || d.drv.bands.any (fun (b : Band) => b.state == bandCleaning) then d.showCleaning
  else
    match leastLive (d.drv.bands.filter (fun (b : Band) => b.state == bandFull)) with
    | none => d.showCleaning
    | some b =>
      let d := (d.setBand { b with state := bandCleaning }).journalBand b.num
      let d := d.fileReads { kind := .clean } 0 0 none ((d.liveLbas b.num).filterMap d.lbaSec)
      (d.freeCleaned).showCleaning

/-- Is work of a surface rebuild or of the cleaner still out? -/
def Dev.rebuildBusy (d : Dev) : Bool :=
  d.drv.pieces.any (fun (p : Piece) => p.why.kind == .clean || p.why.kind == .peer) || d.det.recov.any (fun (r : Recovery) => r.op.why.kind == .clean)
    || !d.drv.rebuilt.isEmpty || !d.drv.moved.isEmpty

/-- The next band of a surface rebuild (R718): its data members on the surface are rebuilt, and the data of stripes whose parity lay there is
relocated. -/
def Dev.surfaceNext (d : Dev) : Dev :=
  match d.drv.surf with
  | none => d
  | some x =>
    if d.rebuildBusy || d.bandCount ≤ x.band then d
    else
      let places := (d.liveLbas x.band).filterMap d.lbaSec
      let mine := places.filter (fun y => y.1.head == x.surface)
      let moved := places.filter (fun y =>
        y.1.head != x.surface && (match d.memberPlace y.2.stripe d.titheData with | some p => p.head == x.surface | none => false))
      let d := { d with drv := { d.drv with surf := some { x with band := x.band + 1, sectors := x.sectors + mine.length } } }
      let d := d.put F.GRN_TITHE_PERMILLE ((x.band + 1) * 1000 / max 1 d.bandCount)
      let d := d.each mine (fun d y =>
        d.startRebuild { sec := y.2, head := y.1.head, track := y.1.track, why := { kind := .clean }, rung := 0, step := 0 } (2 * (x.surface / 8)) 0 false false)
      d.fileReads { kind := .clean } 0 0 none moved

/-! ### Placing a run (R693) -/

/-- A source leaves the list it waited in; host data stays in the write-back index. -/
def Dev.takeSource (d : Dev) (x : Source) : Dev :=
  let drop := fun (l : List (Nat × Nat)) => l.filter (fun y => y.2 != x.tile)
  match x.kind with
  | .rewrite => { d with drv := { d.drv with rewrites := drop d.drv.rewrites } }
  | .rebuild => { d with drv := { d.drv with rebuilt := drop d.drv.rebuilt } }
  | .clean => { d with drv := { d.drv with moved := drop d.drv.moved } }
  | _ => d

def Source.member (x : Source) : Member := { kind := x.kind, lba := x.lba, tile := x.tile, tag := x.lba, seq := 0, head := 0, track := 0, idx := 0 }

/-- The parity engine's checked uses (R693; 12 R495): a tile that fails is handled by the kind of data it held (R698). -/
def Dev.checkSources (d : Dev) (bad : List Nat) (l : List Source) : Dev × List Source :=
  l.foldl (fun (r : Dev × List Source) x =>
    let u := r.1.tileUse x.tile 2 (!bad.contains x.tile)
    match u.2 with
    | .good => (u.1, r.2 ++ [x])
    | _ => ((u.1.takeSource x).badMember x.member, r.2)) (d, [])

/-- XOR of tiles' bytes. -/
def xorTiles (l : List (List Nat)) : List Nat :=
  (List.range 4096).map (fun i => l.foldl (fun a b => a ^^^ at' b i 0) 0)

/-- The members of a stripe take their places and the next SEQs (R693, R699); a rewrite's old position is a defect now (R717). -/
def Dev.placeMembers (d : Dev) (b : Band) (u : BandUnit) (k : Nat) (l : List (Source × Nat)) : Dev × List Member :=
  (List.range l.length).foldl (fun (r : Dev × List Member) i =>
    match l[i]? with
    | none => r
    | some (x, tag) =>
      let q := r.1.takeSeq
      let p := q.2.slotPlace b u k i
      let old := match x.kind with | .host => none | .parity => none | .filler => none | _ => q.2.dataIndex x.lba
      let d := if x.kind = .rewrite then
          match q.2.lbaSec x.lba with
          | some y => (q.2.inc F.DRV_RUNG4_COUNT).addDefect x.lba y.1
          | none => q.2
        else q.2
      (d, r.2 ++ [{ kind := x.kind, lba := x.lba, tile := x.tile, tag := tag, seq := q.1, head := p.head, track := p.track, idx := p.idx, old := old }]))
    (d, [])

/-- One stripe: W data members, short of them zero members, and parity (R693). Without tiles for these nothing is placed. -/
def Dev.placeStripe (d : Dev) (bandNum : Nat) (l : List Source) : Dev :=
  let b := d.band bandNum
  match d.bandUnit bandNum with
  | none => d
  | some u =>
    let need := d.titheData - l.length
    if d.freeTiles < need + 1 then d
    else
      let d := d.each l Dev.takeSource
      let z := (List.range need).foldl (fun (r : Dev × List Source) _ =>
        let t := r.1.newTile prodPorter (List.replicate 4096 0)
        (t.1, r.2 ++ [⟨.filler, anyTag, t.2.getD 0⟩])) (d, [])
      let parts := l ++ z.2
      let d := z.1
      let par := d.newTile prodParity (xorTiles (parts.map (fun x => d.tileBytes x.tile)))
      let num := d.firstStripe bandNum + b.next
      let tags := parts.map (fun x => (x, x.lba)) ++ [(⟨.parity, 0, par.2.getD 0⟩, parityTag num)]
      let m := par.1.placeMembers b u b.next tags
      let d := m.1
      let next := b.next + 1
      let b := { d.band bandNum with next := next, state := if b.stripes ≤ next then bandFull else bandOpen }
      let d := (d.setBand b).when (l.any (fun (x : Source) => x.kind == .rebuild)) (fun d => d.inc F.GRN_TITHE_SPARE_VALUE)
      { d with drv := { d.drv with run := d.drv.run ++ [{ num := num, band := bandNum, members := m.2 }] } }

/-- Groups of `w`. -/
def groups (w : Nat) : Nat → List Source → List (List Source)
  | 0, _ => []
  | f + 1, l => if l.isEmpty then [] else l.take w :: groups w f (l.drop w)

/-- Do the heads of a pass pair at a track (R694; 06 R226, R230)? -/
def Dev.passPairs (d : Dev) (a b track : Nat) : Bool :=
  let pair := d.getI F.SHP_REACH_PAIR (a / 8)
  let z := d.zoneOf track
  pair != 0 && 2 ≤ d.permitted (a / 8) && (d.headOffset b z - d.headOffset a z).natAbs ≤ 256 * pair

/-- Heads taken two by two, or one by one where they do not pair. -/
def Dev.headPairs (d : Dev) (track : Nat) : List Nat → List (List Nat)
  | [] => []
  | [h] => [[h]]
  | a :: b :: r => if d.passPairs a b track then [a, b] :: d.headPairs track r else [a] :: [b] :: d.headPairs track r

/-- The passes that the stripes placed need, actuator by actuator, on the heads in L_b order (R694). -/
def Dev.makePasses (d : Dev) (stripes : List Stripe) (surfaces : List Nat) : List Pass :=
  let ms := stripes.flatMap (fun (t : Stripe) => t.members)
  let tracks := (ms.map (fun (m : Member) => m.track)).eraseDups
  (List.range 4).flatMap (fun a =>
    let heads := surfaces.filter (fun h => h / 8 == a)
    (d.headPairs (tracks.headD 0) heads).flatMap (fun hs =>
      tracks.filterMap (fun t =>
        let hs := hs.filter (fun h => ms.any (fun (m : Member) => m.head == h && m.track == t))
        if hs.isEmpty then none else some ⟨a, t, hs⟩)))

/-- A run is placed (R693): whole stripes, and with `forced` a last one short of data too. -/
def Dev.placeRun (d : Dev) (bad : List Nat) (forced : Bool) : Dev :=
  let w := max 1 d.titheData
  let d := d.needOpen
  match d.openBand with
  | none => d
  | some b =>
    let surfaces := d.surfaceList b.surfaces
    let room := min (b.stripes - b.next) (surfaces.length * d.runPos / (w + 1))
    let all := d.sources
    let n := min (room * w) all.length
    let n := if forced then n else n / w * w
    let r := d.checkSources bad (all.take n)
    let l := if forced then r.2 else r.2.take (r.2.length / w * w)
    let before := r.1.drv.run.map (fun (t : Stripe) => t.num)
    let d := r.1.each (groups w l.length l) (fun d g => d.placeStripe b.num g)
    let new := d.drv.run.filter (fun (t : Stripe) => !before.contains t.num)
    let d := { d with drv := { d.drv with passes := d.drv.passes ++ d.makePasses new surfaces } }
    let d := if (d.band b.num).state = bandFull then (d.journalBand b.num).needOpen else d
    d.each (List.range 4) Dev.showAct

/-! ### The grid scan (R688) -/

/-- Pieces of an actuator that wait in the grid. -/
def Dev.filed (d : Dev) (n : Nat) : List Piece :=
  d.drv.pieces.filter (fun (p : Piece) => p.act == n && p.hold.isNone && p.stage == .filed && !d.surfaceRetired p.head)

/-- k_i of R688: the bands the seek reaches by bucket `i`; none where not even its own. -/
def Dev.scanBands (d : Dev) (n i : Nat) : Option Nat :=
  let rev := d.revUs n
  ((List.range 128).reverse).find? (fun k => 256 * seekTime (d.seekSect n) ((k + 1) * d.tracks / 128) false ≤ i * rev)

/-- The nearest of pieces to a band, the lower band on a tie, the oldest within a band. -/
def nearest (d : Dev) (b0 : Nat) : List Piece → Option Piece
  | [] => none
  | p :: r =>
    match nearest d b0 r with
    | none => some p
    | some q =>
      let x := d.bucketB p.track
      let y := d.bucketB q.track
      if gap x b0 < gap y b0 || (gap x b0 == gap y b0 && x ≤ y) then some p else some q

/-- Is a piece of the surface rebuild: a member it relocates, or a peer of one it rebuilds (R718)? -/
def Dev.rebuildPiece (d : Dev) (p : Piece) : Bool :=
  d.drv.surf.isSome && (p.why.kind == .clean ||
    (match p.why.parent with | some x => d.det.recov.any (fun (r : Recovery) => recovAt x.1 x.2 r && r.op.why.kind == .clean) | none => false))

/-- Pieces the scan looks at: those of a surface rebuild yield to every other (R718; log entry 155). -/
def Dev.scanned (d : Dev) (n : Nat) : List Piece :=
  let l := d.filed n
  let host := l.filter (fun p => !d.rebuildPiece p)
  if host.isEmpty then l else host

/-- The scan: the bucket's number from the present one and the piece (R688); confined to the other channel's band and to pieces that pair
with it where that channel holds one (R689). -/
def Dev.gridScan (d : Dev) (s : Nat) (other : Option Piece) : Option (Nat × Piece) :=
  let n := s / 2
  let a0 := d.wedgeAngle n / 256
  let b0 := d.bucketB (d.trackOf s)
  let l := (d.scanned n).map (fun p => (d.bucketA p, p))
  (List.range 256).findSome? (fun i =>
    let here := (l.filter (fun x => x.1 == (a0 + 1 + i) % 256)).map (fun x => x.2)
    match other with
    | some q =>
      (((here.filter (fun (p : Piece) => d.bucketB p.track == d.bucketB q.track)).take 8).find? (fun (p : Piece) => d.pairOk q p.head p.track)).map (fun p => (i, p))
    | none =>
      match d.scanBands n i with
      | none => none
      | some k => (nearest d b0 (here.filter (fun (p : Piece) => gap (d.bucketB p.track) b0 ≤ k))).map (fun p => (i, p)))

/-! ### Decision points (R687) -/

/-- A piece goes to a channel; the idle time starts again (R690; 04 R132). -/
def Dev.offer (d : Dev) (s id last : Nat) : Dev :=
  let d := d.mapPiece id (fun p => { p with hold := some s, stage := .offered })
  (d.putI F.DRV_A_STAT_LAST (s / 2) last).put F.MOD_IDLE_NOW_SECONDS 0

/-- The first pass of an actuator with a head this channel can take. -/
def Dev.nextPass (d : Dev) (s : Nat) (other : Option Piece) : Option (Pass × Nat) :=
  (d.drv.passes.filter (fun (p : Pass) => p.act == s / 2)).findSome? (fun (p : Pass) =>
    (p.heads.find? (fun h => match other with | none => true | some q => d.pairOk q h p.track)).map (fun h => (p, h)))

/-- A pass moves to a channel: the run's members on its head and track, in the order of their sectors (R694). -/
def Dev.startPass (d : Dev) (s : Nat) (p : Pass) (h : Nat) : Dev :=
  let ms := d.passMembers p.track h
  let ms := (List.range ((d.zone (d.zoneOf p.track)).spt)).filterMap (fun i => ms.find? (fun x => x.1.idx == i))
  let rest := p.heads.filter (fun x => x != h)
  let passes := d.drv.passes.flatMap (fun (x : Pass) => if x == p then (if rest.isEmpty then [] else [{ p with heads := rest }]) else [x])
  let d := { d with drv := { d.drv with passes := passes } }
  if d.surfaceRetired h then d.each ms (fun d x => d.memberReport x.2.1 x.2.2 1)
  else if ms.isEmpty then d
  else
    let id := d.drv.nextPiece
    let d := d.filePiece { id := 0, why := { kind := .writePass }, act := p.act, head := h, track := p.track, filed := 0,
                           secs := ms.map (fun x => ⟨x.1.idx, x.1.tag, x.2.1, x.2.2⟩) }
    let q := ms.map (fun x => ({ lba := x.1.lba, tile := x.1.tile, tag := x.1.tag, seq := x.1.seq, stripe := x.2.1, member := x.2.2 } : WSector))
    let d := d.setWchan s { d.wchan s with queue := q }
    (d.showBuffers s).offer s id 2

/-- May a channel take a piece (R691; 20 R832): its actuator in FOLLOW and not down, its stream not fenced, nothing held, a permitted
channel left? In EASE only a REST entry's drain is dispatched (log entry 47). -/
def Dev.mayDecide (d : Dev) (s : Nat) : Bool :=
  let n := s / 2
  let held := ([2 * n, 2 * n + 1].filter (fun x => (d.heldPiece x).isSome)).length
  let drain := match d.mod.transit with | some t => t.target == Mode.rest && t.step < 3 | none => false
  d.actuatorFitted n && (d.mod.mode == Mode.serve || (d.mod.mode == Mode.ease && drain)) && !d.harvesting
    && d.shpState n == shpFollow && !d.actuatorDown n && !d.streamFenced s && (d.heldPiece s).isNone && held < d.permitted n

/-- A run is placed where one is due and none is under way (R693, R694): `idle` says that the actuator has no piece within a quarter
revolution. -/
def Dev.runCheck (d : Dev) (bad : List Nat) (idle : Bool) : Dev :=
  if !d.drv.passes.isEmpty || !d.waiting then d
  else if d.runForced then d.placeRun bad true
  else if idle then d.placeRun bad false
  else d

/-- The decision (R687): a covered piece short of slack, an aged piece, a due pass, the grid. A pass of a run that is placed is due
(log entry 47). -/
def Dev.decide' (d : Dev) (s : Nat) (bad : List Nat) : Dev :=
  let n := s / 2
  let other := d.heldPiece (if s % 2 = 0 then s + 1 else s - 1)
  let fits := fun (p : Piece) => match other with | none => true | some q => d.pairOk q p.head p.track
  let reads := if d.mod.mode = Mode.serve then (d.filed n).filter fits else []
  let tu := d.serviceTime d.streams
  let urgent := reads.filter (fun (p : Piece) => match p.deadline with | some t => decide (t < d.nowUs + d.reachTime s p + tu) | none => false)
  let first := urgent.find? (fun (p : Piece) => urgent.all (fun (q : Piece) => p.deadline.getD 0 ≤ q.deadline.getD 0))
  let aged := reads.filter (fun (p : Piece) => p.filed + 1000 * d.policy 0x4204 500 < d.nowUs)
  let oldest := aged.find? (fun (p : Piece) => aged.all (fun (q : Piece) => p.filed ≤ q.filed))
  match first, oldest with
  | some p, _ => d.offer s p.id 0
  | none, some p => d.offer s p.id 1
  | none, none =>
    let scan := if d.mod.mode = Mode.serve then d.gridScan s other else none
    let a0 := d.wedgeAngle n / 256
    let idle := !(d.filed n).any (fun (p : Piece) => decide ((d.bucketA p + 511 - a0) % 256 < 64))
    let d := if d.speedHold then d else d.runCheck bad idle
    match (if d.speedHold then none else d.nextPass s other), scan with
    | some x, _ => d.startPass s x.1 x.2
    | none, some x => d.offer s x.2.id 3
    | none, none => d

/-- DECISION_POINT (R687 to R694; 20 R832): `bad` names the tiles that fail the parity engine's checks. -/
def Dev.decisionPointAct (d : Dev) (st : Fin 8) (bad : List Nat) : Dev :=
  if !d.mayDecide st.val then d
  else ((d.decide' st.val bad).cleaner.surfaceNext).reserveCheck

/-- DECISION_POINT acts as `Dev.decisionPointAct` says. -/
def execDecisionPoint (st : Fin 8) (bad : List Nat) (s : State) : Out := s.runIsland 0x10 (fun d => d.decisionPointAct st bad)

/-! ### The journal (R709 to R714) -/

/-- The tail is programmed (R711), and what waited for it is durable (16 R645). -/
def Dev.programTail (d : Dev) : Dev := (d.tailToLog d.tailMax).flushProgress

/-- JOURNAL_PROGRAM (R711; 16 R645). -/
def Dev.journalProgramAct (d : Dev) : Dev :=
  if d.harvesting || !d.drv.restored then d else d.programTail

/-- JOURNAL_PROGRAM acts as `Dev.journalProgramAct` says. -/
def execJournalProgram (s : State) : Out := s.runIsland 0x10 (fun d => d.journalProgramAct)

/-- CHECKPOINT (R712): the log area is half used. -/
def Dev.checkpointAct (d : Dev) : Dev :=
  if d.harvesting || !d.drv.restored || 2 * 4096 * d.drv.jrn.blocks.length < d.logSize then d else d.checkpoint.flushProgress

/-- CHECKPOINT acts as `Dev.checkpointAct` says. -/
def execCheckpoint (s : State) : Out := s.runIsland 0x10 (fun d => d.checkpointAct)

/-- A map as replay builds it, with the highest SEQ reservation and the retired surfaces. -/
structure Replay where
  bands : List Band
  map : List Extent
  seals : List SealBand
  reserved : Nat
  retired : Nat
  deriving DecidableEq, Repr

def cutMap (l : List Extent) (lba count : Nat) : List Extent := l.flatMap (fun (e : Extent) => e.outside lba count)

/-- A MAP_SET record (R704, R710). -/
def Replay.set (r : Replay) (v : Nat) : Replay :=
  let lba := slice v 0 36
  let typ := slice v 36 2
  let count := slice v 38 20
  if typ = 2 then
    let ptr := lba + slice v 58 28
    let b : SealBand := { idx := slice v 86 6, lba := lba, count := 256 * (count + 1), ptr := ptr, closed := v.testBit 92, written := ptr }
    { r with seals := r.seals.filter (fun (x : SealBand) => x.idx != b.idx) ++ [b] }
  else
    { r with map := mergeExtents (mapInsert (cutMap r.map lba count)
        { lba := lba, count := count, lost := typ == 1, dstart := if typ = 1 then 0 else slice v 58 38, aux := 0 }) }

/-- A record replayed (R710, R713). -/
def Replay.rec' (r : Replay) (fresh : Nat → Band) (x : JRec) : Replay :=
  let p := x.payload
  let n := leAt p 0 4
  let old := (r.bands.find? (fun (b : Band) => b.num == n)).getD (fresh n)
  let keep := r.bands.filter (fun (b : Band) => b.num != n)
  if x.kind = recMapSet then r.set (leAt p 0 12)
  else if x.kind = recMapClear then
    let lba := leAt p 0 6
    let count := leAt p 6 6
    { r with map := cutMap r.map lba count, seals := r.seals.filter (fun (b : SealBand) => !(lba ≤ b.lba && b.lba + b.count ≤ lba + count)) }
  else if x.kind = recBand then
    let state := leAt p 4 1
    let next := leAt p 24 4
    { r with bands := keep ++ [{ old with state := state, surfaces := leAt p 8 4, stripes := leAt p 20 4, next := next,
                                          used := if state = bandOpen && next = 0 then old.defects else old.used }] }
  else if x.kind = recDefect then
    let v := leAt p 4 4
    { r with bands := keep ++ [{ old with defects := old.defects ++ [(v / 2 ^ 27, v % 2 ^ 27)] }] }
  else if x.kind = recSurface then { r with retired := n }
  else if x.kind = recSeq then { r with reserved := max r.reserved (leAt p 0 6) }
  else r

/-- A block replayed from a sequence number on. -/
def Replay.block (r : Replay) (fresh : Nat → Band) (start : Nat) (b : JBlock) : Replay :=
  (b.recs.drop (start - b.first)).foldl (fun r x => r.rec' fresh x) r

/-- The restore ends (R713, event 0x4201): LIVE is counted from the map. -/
def Dev.restoreEnds (d : Dev) (r : Replay) (jseq ms : Nat) : Dev :=
  let d := { d with drv := { d.drv with
    bands := r.bands, map := r.map, seals := r.seals, seq := r.reserved, reserved := r.reserved, jseq := jseq, restored := true } }
  let d := d.each d.drv.bands (fun d (b : Band) => d.setBand { b with live := (d.liveLbas b.num).length })
  let d := d.put F.GRN_TITHE_RETIRED_VALUE r.retired
  let d := (((d.showBands).showMap).showSeq).showJseq
  let d := (d.put F.DRV_MAP_LIMIT (min 65535 (d.mapLimit / 32))).put F.DRV_STAT_RESTORED 1
  (d.put F.DRV_INT_STAT_RESTORED 1).post 0x4201 [d.get F.DRV_MAP_ENTRIES, jseq % 2 ^ 32, ms]

/-- The journal partition is formatted (R714, event 0x4202): with a first, empty checkpoint (log entry 48). -/
def Dev.formatJournal (d : Dev) (ms : Nat) : Dev :=
  let total := ((List.range d.zoneCount).map (fun z => d.zoneStripes z (d.zoneBands z))).sum
  let d := { d with drv := { d.drv with jrn := { areas := [some ⟨0, [], [], []⟩, none], supers := [some (1, 0, 0), none], erased := false } } }
  let d := (d.put F.DRV_STAT_FORMATTED 1).post 0x4202 [d.bandCount, total % 2 ^ 32]
  d.restoreEnds ⟨[], [], [], 0, 0⟩ 0 ms

/-- MAP_RESTORE (R713, R714): `bad` has bit c set where superblock copy c does not read valid, `stop` is the first log block whose CRC fails,
`ms` the time the restore takes. -/
def Dev.restoreMap (d : Dev) (bad : Nat) (stop : Option Nat) (ms : Nat) : Dev :=
  let j := d.drv.jrn
  let j := { j with supers := [if bad.testBit 0 then none else at' j.supers 0 none, if bad.testBit 1 then none else at' j.supers 1 none] }
  match j.super with
  | none =>
    if j.erased then d.formatJournal ms
    else let v := d.fresh; v.2.post 0x420E [v.1 % 2 ^ 32]
  | some x =>
    let c := (at' j.areas x.2.2.1 none).getD ⟨0, [], [], []⟩
    let log := j.blocks.filter (fun (b : JBlock) => c.jseq < b.first + b.recs.length)
    let good := match stop with | some k => log.take k | none => log
    let fresh := fun n => d.band n
    let r := good.foldl (fun (r : Replay) b => r.block fresh c.jseq b) ⟨c.bands, c.map, c.seals, 0, 0⟩
    let next := match good.getLast? with | some b => b.first + b.recs.length | none => c.jseq
    let d := { d with drv := { d.drv with jrn := { j with blocks := good } } }
    let d := match stop with
      | some k => if k + 1 < log.length then d.post 0x4203 [k, next % 2 ^ 32] else d
      | none => d
    d.restoreEnds r next ms

/-- MAP_RESTORE (R713, R714). -/
def Dev.mapRestoreAct (d : Dev) (bad : Fin 4) (stop : Option Nat) (ms : Nat) : Dev :=
  if d.drv.restored || d.harvesting || d.mod.mode == Mode.safe || d.mod.recovery || d.get F.CFG_STAT_PHASE != 5 then d
  else d.restoreMap bad.val stop ms

/-- MAP_RESTORE acts as `Dev.mapRestoreAct` says. -/
def execMapRestore (bad : Fin 4) (stop : Option Nat) (ms : Nat) (s : State) : Out := s.runIsland 0x10 (fun d => d.mapRestoreAct bad stop ms)

/-! ### Rebuilds (R715, R717, R718) -/

/-- The rebuilt data goes to its command, and to the next run where its place has failed: not where only a fence hid it (R715, R717). -/
def Dev.rebuilt (d : Dev) (r : Recovery) (bytes : List Nat) : Dev :=
  let sec := r.op.sec
  let head := r.op.head
  let lba := sec.lba
  let mapped := sec.member < d.titheData && d.dataIndex lba == some (sec.stripe * d.titheData + sec.member)
    && !d.drv.wb.any (fun (w : WriteBack) => w.lba == lba) && !d.writeAccepted lba
  let d := match r.op.why.ctx with
    | some n => (d.mapCtx n (fun c => { c with rung := max c.rung 3 })).deliverRead n lba 3 r.sealCheck bytes
    | none => d
  if !mapped || r.fenced || d.actuatorDown (head / 8) then d
  else if d.surfaceRetired head then
    let x := d.newTile prodParity bytes
    match x.2 with
    | some t => { x.1 with drv := { x.1.drv with rebuilt := x.1.drv.rebuilt ++ [(lba, t)] } }
    | none => d
  else d.rewriteDue lba bytes

/-- REBUILD_DONE (R715, event 0x4204): every peer of a sector at rung 3 has been read; `bad` names the peers' tiles that fail the parity
engine's checks, for which the peers are read again. While a rank that holds the tiles is migrated the rebuild waits, and it starts again from the
migrated tiles (01 R32, 12 R498). -/
def Dev.rebuildDone (d : Dev) (stripe member : Nat) (bad : List Nat) : Dev :=
  match d.det.recov.find? (fun (r : Recovery) => r.op.rung == 3 && recovAt stripe member r) with
  | none => d
  | some r =>
    if r.got.length < r.peers || r.got.any d.tileMigrates then d
    else
      let u := r.got.foldl (fun (x : Dev × Bool) t =>
        let y := x.1.tileUse t 2 (!bad.contains t)
        (y.1, x.2 && (match y.2 with | .good => true | _ => false))) (d, true)
      let bytes := xorTiles (r.got.map u.1.tileBytes)
      let d := (u.1.each r.got Dev.freeTile).dropRecov stripe member
      if !u.2 then d.startRebuild r.op r.stream r.attempts r.sealCheck r.fenced
      else
        let d := (d.inc F.DRV_RUNG3_COUNT).post 0x4204 [r.op.sec.lba % 2 ^ 32, r.op.sec.lba / 2 ^ 32 % 2 ^ 16, stripe % 2 ^ 32]
        d.rebuilt r bytes

/-- REBUILD_DONE (R715). -/
def execRebuildDone (stripe member : Nat) (bad : List Nat) (s : State) : Out := s.runIsland 0x10 (fun d => d.rebuildDone stripe member bad)

/-- The rebuild of the next retired surface that waits. -/
def Dev.nextSurface (d : Dev) : Dev :=
  match d.drv.surfQueue with
  | [] => ({ d with drv := { d.drv with surf := none } }.put F.GRN_TITHE_REBUILDING 0).put F.DRV_INT_STAT_SURFACE 1
  | h :: l =>
    let d := { d with drv := { d.drv with surf := some ⟨h, 0, 0, 0⟩, surfQueue := l } }.put F.GRN_TITHE_REBUILDING 1
    ((d.put F.GRN_TITHE_SURFACE h).put F.GRN_TITHE_PERMILLE 0).put F.DRV_INT_STAT_SURFACE 1

/-- SURFACE_REBUILD_END (R718, events 0x4208, 0x420F): the last band is done, or no FREE band is left for the rest. -/
def Dev.surfaceRebuildEndAct (d : Dev) : Dev :=
  match d.drv.surf with
  | none => d
  | some x =>
    if d.bandCount ≤ x.band && !d.rebuildBusy then (d.post 0x4208 [x.surface, x.sectors % 2 ^ 32, x.seconds]).nextSurface
    else if d.freeBands = 0 && d.openBand.isNone then (d.post 0x420F [x.surface, d.get F.GRN_TITHE_PERMILLE]).nextSurface
    else d

/-- SURFACE_REBUILD_END acts as `Dev.surfaceRebuildEndAct` says. -/
def execSurfaceRebuildEnd (s : State) : Out := s.runIsland 0x10 (fun d => d.surfaceRebuildEndAct)

end Sys2Proof.Machine
end

