-- ==== Sys2Proof/Machine/Watch.lean ====
section
/-! DEFINITION. The Watch and the Day-Book (spec/19): ports taken, the history queue, core watchdogs and fences, FAULT_N, records committed,
rows, tokens, freezes, the window, the operating seconds. -/

namespace Sys2Proof.Machine

/-! ### The Watch takes events (R770 to R777, R790) -/

/-- Does the port's next event of severity 4 wait for a staging place (R876)? A repeat of the newest record takes none. -/
def Dev.portBlocked (d : Dev) (p : Port) : Bool :=
  match p.faults.find? (fun (f : PortFault) => Events.severity f.event.code == some 4) with
  | some f => d.stagingFull f.event
  | none => false

/-- An event enters the history queue (R790). -/
def Dev.history (d : Dev) (e : Event) (sev reaction : Nat) : Dev :=
  let n := d.get F.WAT_HIST_PTR_ENTRIES
  let slot := if n = 0 then 0 else (d.get F.WAT_HIST_PTR_NEWEST + 1) % 16
  let w0 := e.code + (sev + 8 * reaction) * 2 ^ 16 + d.get F.DBK_PCYCLES_CYCLES % 256 * 2 ^ 24
  let d := ((d.putI F.WAT_HIST_BYTES (4 * slot) w0).putI F.WAT_HIST_BYTES (4 * slot + 1) (d.get F.DBK_OPSEC_SECONDS)).putI F.WAT_HIST_BYTES (4 * slot + 2) e.p0
  let d := ((d.putI F.WAT_HIST_BYTES (4 * slot + 3) e.p1).put F.WAT_HIST_PTR_NEWEST slot).put F.WAT_HIST_PTR_ENTRIES (min 16 (n + 1))
  d.inc F.WAT_HIST_PTR_TOTAL

/-- The Watch has an event: the Day-Book gets it, a fault is counted and enters the history, an escalated code is recorded beside it
(R771, R776). -/
def Dev.taken (d : Dev) (e : Event) (reaction : Nat) : Dev :=
  let sev := (Events.severity e.code).getD 0
  let d := d.stage e sev
  if sev < 2 then d
  else
    let d := (d.inc (if sev = 2 then F.WAT_COUNT_C_COUNT else if sev = 3 then F.WAT_COUNT_U_COUNT else F.WAT_COUNT_F_COUNT)).history e sev reaction
    let d := d.put (if sev = 2 then F.WAT_INT_STAT_C else F.WAT_INT_STAT_UF) 1
    match d.escalation e.code with
    | some key => if e.code = 0x6002 then d else d.post 0x6002 [e.code, key]
    | none => d

/-- The first event of a severity in a port, and the port without it. -/
def portTake (p : Port) (sev : Nat) : Option (Event × Nat × Port) :=
  if 3 ≤ sev then
    (p.faults.find? (fun (f : PortFault) => Events.severity f.event.code == some sev)).map (fun f => (f.event, f.reaction, { p with faults := p.faults.erase f }))
  else
    (p.ordinary.find? (fun (e : Event) => Events.severity e.code == some sev)).map (fun e => (e, 0, { p with ordinary := p.ordinary.erase e }))

/-- The Watch takes one event: the highest severity, in round robin among the ports (R772). -/
def Dev.watchTake (d : Dev) : Dev :=
  let order := (List.range 20).map (fun i => (d.wat.served + 1 + i) % 20)
  let hit := [4, 3, 2, 1, 0].findSome? (fun sev => order.findSome? (fun n =>
    let p := at' d.wat.ports n {}
    if d.portBlocked p then none else (portTake p sev).map (fun x => (n, x))))
  match hit with
  | none => d
  | some (n, e, reaction, p) =>
    { d with wat := { d.wat with ports := d.wat.ports.set n p, served := n } }.taken e reaction

/-- Does a block report while the islands outside AON are stopped (02 R51, R82)? Of AON are CLK, the Watch, the Day-Book and the presence and seal
logic. -/
def aonReporter (code : Nat) : Bool := [0x01, 0x60, 0x61].contains (code / 256) || (0x5002 ≤ code && code ≤ 0x5005)

/-- EVENT_REPORT (R769, R772, R773): a block reports an event of the master list; those of R53, R61 and R788 pass the Watch by. -/
def Dev.eventReportAct (d : Dev) (code : BitVec 16) (p0 p1 p2 p3 : BitVec 32) : Dev :=
  if d.clk.stopped && !aonReporter code.toNat then d
  else
  let ps := [p0.toNat, p1.toNat, p2.toNat, p3.toNat]
  if [0x0103, 0x0104, 0x0105, 0x0106, 0x6003].contains code.toNat then d.stageDirect code.toNat ps else d.post code.toNat ps

/-- EVENT_REPORT acts as `Dev.eventReportAct` says. -/
def execEventReport (code : BitVec 16) (p0 p1 p2 p3 : BitVec 32) (s : State) : Out := s.run (fun d => d.eventReportAct code p0 p1 p2 p3)

/-- FAULTN_PULSE_END (R784, R785). -/
def execFaultnPulseEnd (s : State) : Out := s.run (fun d => d.put F.WAT_STAT_PULSE 0)

/-- WATCH_TAKE (R771, R772). -/
def execWatchTake (s : State) : Out := s.run Dev.watchTake

/-- DISCARD_REPORT (R772, event 0x6007). -/
def Dev.discardReportAct (d : Dev) : Dev :=
  d.each (List.range 20) (fun d n =>
    let p := at' d.wat.ports n {}
    if p.dropped = 0 then d
    else { d with wat := { d.wat with ports := d.wat.ports.set n { p with dropped := 0 } } }.post 0x6007 [n, p.dropped])

/-- DISCARD_REPORT acts as `Dev.discardReportAct` says. -/
def execDiscardReport (s : State) : Out := s.run (fun d => d.discardReportAct)

/-! ### Cores, FORCE_SAFE, FAULT_N, register faults (R778 to R789) -/

/-- A core is fenced and held in reset (R781, R782; events 0x6005, 0x6006): `cause` 0 watchdog, 1 L1 errors. -/
def Dev.coreFence (d : Dev) (n cause : Nat) : Dev :=
  if d.bit F.WAT_CORES_FENCED n then d
  else
    let d := (d.setBit F.WAT_CORES_FENCED n true).put F.WAT_INT_STAT_CORE 1
    let d := { d with wat := { d.wat with armed := d.wat.armed.set n false }, bus := { d.bus with
      resv := d.bus.resv.set n none, cores := d.bus.cores.set n {} } }
    let left := 4 - popCount 4 (d.get F.WAT_CORES_FENCED)
    let d := d.post 0x6005 [n, cause, left]
    if left < 3 then d.post 0x6006 [d.get F.WAT_CORES_FENCED] else d

/-- The Watch's registers take writes until a register fault (R789). -/
def Dev.watWrite (d : Dev) (f : Dev → Dev) : Dev := if d.on F.WAT_STAT_REG_FAULT then d else f d

/-- A kick arms a core's watchdog after DONE (R780); a fenced core's is ignored (R781). -/
def Dev.kick (d : Dev) (n : Nat) : Dev :=
  if d.bit F.WAT_CORES_FENCED n || d.get F.CFG_STAT_PHASE != 5 then d
  else { d with wat := { d.wat with armed := d.wat.armed.set n true } }

/-- WAT_KICK_WRITE (R780, R781, R789). -/
def execWatKickWrite (n : Fin 4) (s : State) : Out := s.runCore (fun d => d.watWrite (fun d => d.kick n.val))

/-- CORE_WATCHDOG_EXPIRE (R780 to R782). -/
def execCoreWatchdogExpire (n : Fin 4) (s : State) : Out := s.run (fun d => if at' d.wat.armed n.val false then d.coreFence n.val 0 else d)

/-- FORCE_SAFE (R778, event 0x6008). -/
def Dev.forceSafe (d : Dev) : Dev := d.watWrite (fun d => d.post 0x6008 [d.mod.mode.code])

/-- WAT_FORCE_SAFE (R778, R813). -/
def execWatForceSafe (s : State) : Out := s.runCore Dev.forceSafe

/-- A write of WAT_FAULTN (R783, R785): LEVEL 0 drives FAULT_N. -/
def Dev.faultnWrite (d : Dev) (level : Bool) : Dev := d.watWrite (fun d =>
  let d := d.flag F.WAT_FAULTN_LEVEL level
  if level then d else { d with wat := { d.wat with driven := true } })

/-- WAT_FAULTN_WRITE (R783, R785). -/
def execWatFaultnWrite (level : Bool) (s : State) : Out := s.runCore (fun d => d.faultnWrite level)

/-- WATCH_REG_FAULT (R786, R788, R789, event 0x6003): `off` is the register's offset, `byte` the byte that fails. -/
def Dev.watchRegFaultAct (d : Dev) (off byte : BitVec 32) : Dev :=
  let d := (d.put F.WAT_STAT_REG_FAULT 1).stageDirect 0x6003 [off.toNat, byte.toNat]
  let free := !d.harvesting && !d.on F.WAT_STAT_SAFE && d.wat.safeDue.isNone
  { d with wat := { d.wat with driven := true, safeDue := if free then some (0x6003, 0) else d.wat.safeDue } }

/-- WATCH_REG_FAULT acts as `Dev.watchRegFaultAct` says. -/
def execWatchRegFault (off byte : BitVec 32) (s : State) : Out := s.run (fun d => d.watchRegFaultAct off byte)

/-! ### The window, commits (R797 to R803) -/

/-- The read cursor (R803). -/
def Dev.cursor (d : Dev) : Nat := d.get F.DBK_CURSOR_LO_CURSOR + 2 ^ 32 * d.get F.DBK_CURSOR_HI_CURSOR

/-- DBK_WIN shows the present record with the least sequence number at or above the cursor (R803). -/
def Dev.showWindow (d : Dev) : Dev :=
  let l := (d.dbk.rows.filterMap (fun (r : Row) => r.held)).filter (fun x => d.cursor ≤ x.1)
  match l.find? (fun x => l.all (fun y => x.1 ≤ y.1)) with
  | none => d.put F.DBK_WIN_SEQ_HI_VALID 0
  | some x =>
    let b := leBytes 2 x.2.event.code ++ [x.2.sev, 0] ++ leBytes 4 x.2.seconds ++ leBytes 4 x.2.cycles ++ leBytes 4 x.2.rep
      ++ leBytes 4 x.2.event.p0 ++ leBytes 4 x.2.event.p1 ++ leBytes 4 x.2.event.p2 ++ leBytes 4 x.2.event.p3
    let d := ((d.put F.DBK_WIN_SEQ_LO_SEQ x.1).put F.DBK_WIN_SEQ_HI_SEQ (x.1 / 2 ^ 32)).put F.DBK_WIN_SEQ_HI_VALID 1
    d.each (List.range 8) (fun d i => d.putI F.DBK_WIN_BYTES i (leAt b (4 * i) 4))

/-- The window follows its records but while it refills (R803, R804, R813). -/
def Dev.windowLive (d : Dev) : Dev := if d.on F.DBK_STAT_WIN_BUSY then d else d.showWindow

/-- Gathered repeats go into the newest record's row (R798, R810). -/
def Dev.commitRepeats (d : Dev) (ok : Bool) : Dev :=
  match d.newestRow with
  | none => { d with dbk := { d.dbk with gathered := 0 } }
  | some (n, q, x) =>
    if d.dbk.gathered = 0 then d
    else
      let r := (d.dbk.rows.find? (fun (r : Row) => r.num == n)).getD { num := n, writes := 0 }
      let r := { r with writes := r.writes + 1, repeats := r.repeats + 1, held := some (q, { x with rep := satAdd 32 x.rep d.dbk.gathered }) }
      let d := { d with dbk := { d.dbk with gathered := 0 } }.rowWritten r ok
      if r.repeats < 65536 || !ok then d
      else
        match d.freeRow with
        | none => d
        | some f => ((d.setRow { r with held := none, repeats := 0 }).setRow { f with writes := f.writes + 1, repeats := 0, held := r.held }).takeToken

/-- A record is added (R799, R802, R808). -/
def Dev.addRecord (d : Dev) (x : Rec) (ok : Bool) : Dev :=
  let full := d.get F.DBK_CAP_CAPACITY ≤ d.get F.DBK_STAT_RECORDS
  let weak := d.weakestRow
  let weakSev := match weak with | some r => (match r.held with | some y => y.2.sev | none => 9) | none => 9
  if full && x.sev < weakSev then d.countLost x.sev
  else
    let d := match (if full then weak else none) with | some r => d.setRow { r with held := none, repeats := 0 } | none => d
    match d.freeRow with
    | none => d.countLost x.sev
    | some f =>
      let seq := d.get F.DBK_SEQ_LO_SEQ + 2 ^ 32 * d.get F.DBK_SEQ_HI_SEQ
      let d := (d.put F.DBK_SEQ_LO_SEQ (seq + 1)).put F.DBK_SEQ_HI_SEQ ((seq + 1) / 2 ^ 32)
      d.rowWritten { f with writes := f.writes + 1, repeats := 0, held := some (seq, x) } ok

/-- The oldest staged record is committed, after gathered repeats; a repeat of the newest record merges (R796 to R798). One of severity
0 or 1 waits for a token (R800). -/
def Dev.commitStaged (d : Dev) (ok : Bool) : Dev :=
  match d.dbk.staged with
  | [] => d
  | x :: l =>
    if d.get F.DBK_BUDGET_TOKENS = 0 && !tokenExempt x.event.code x.sev then d
    else
      let same := match d.newestRow with | some y => y.2.2.event == x.event | none => false
      if same then { d with dbk := { d.dbk with staged := l, gathered := d.dbk.gathered + 1 + x.rep } }
      else
        let d := d.commitRepeats true
        if d.get F.DBK_BUDGET_TOKENS = 0 && !tokenExempt x.event.code x.sev then d.windowLive
        else ({ d with dbk := { d.dbk with staged := l } }.addRecord x ok).windowLive

/-- Every staged record and the gathered repeats are committed (R798, R807, R813). -/
def Dev.commitAll (d : Dev) : Dev := ((d.each (List.range d.dbk.staged.length) (fun d _ => d.commitStaged true)).commitRepeats true).windowLive

/-! ### Freezes and seconds (R793, R798, R800, R806, R807) -/

/-- A freeze ends (R807, event 0x6102). -/
def Dev.endFreeze (d : Dev) (timed : Bool) : Dev :=
  if !d.on F.DBK_STAT_FROZEN then d.put F.DBK_CTRL_FREEZE 0
  else
    let d := ((d.put F.DBK_STAT_FROZEN 0).put F.DBK_CTRL_FREEZE 0).when timed (fun d => d.put F.DBK_INT_STAT_FREEZE_END 1)
    let d := d.each (List.range d.dbk.staged.length) (fun d _ => d.commitStaged true)
    let c := [d.get F.DBK_FROZEN_SEV01, d.get F.DBK_FROZEN_SEV2, d.get F.DBK_FROZEN_SEV3, d.get F.DBK_FROZEN_SEV4]
    if c.all (fun x => x == 0) then d else d.post 0x6102 c

/-- A freeze starts (R806). -/
def Dev.startFreeze (d : Dev) : Dev :=
  if d.on F.DBK_STAT_FROZEN then d
  else
    let d := (d.put F.DBK_STAT_FROZEN 1).put F.DBK_CTRL_FREEZE 1
    (((d.put F.DBK_FROZEN_SEV01 0).put F.DBK_FROZEN_SEV2 0).put F.DBK_FROZEN_SEV3 0).put F.DBK_FROZEN_SEV4 0

/-- The bucket is refilled for a second (R800, R801; event 0x6105). -/
def Dev.refill (d : Dev) : Dev :=
  let d := d.put F.DBK_BUDGET_TOKENS (min 32768 (d.get F.DBK_BUDGET_TOKENS + d.policy 0x6101 2000))
  if !d.dbk.emptied then d
  else
    let n := d.get F.DBK_BUDGET_STARVED
    let d := { d with dbk := { d.dbk with emptied := false } }.put F.DBK_STAT_BUDGET_EMPTY 0
    if n = 0 then d else (d.put F.DBK_BUDGET_STARVED 0).post 0x6105 [n, d.get F.DBK_OPSEC_SECONDS]

/-- The cursor is written (R803, R804). -/
def Dev.writeCursor (d : Dev) (v : Nat) : Dev :=
  ((d.put F.DBK_CURSOR_LO_CURSOR v).put F.DBK_CURSOR_HI_CURSOR (v / 2 ^ 32)).put F.DBK_STAT_WIN_BUSY 1

/-- NEXT (R804). -/
def Dev.nextRecord (d : Dev) : Dev := d.writeCursor ((d.get F.DBK_WIN_SEQ_LO_SEQ + 2 ^ 32 * d.get F.DBK_WIN_SEQ_HI_SEQ + 1) % 2 ^ 48)

/-- DAYBOOK_COMMIT (R796 to R800): `ok` says whether the row's read-back succeeds. -/
def execDaybookCommit (ok : Bool) (s : State) : Out := s.run (fun d => if d.on F.DBK_STAT_FROZEN then d else d.commitStaged ok)

/-- REPEAT_COMMIT (R798, R810). -/
def Dev.repeatCommitAct (d : Dev) (ok : Bool) : Dev :=
  let sev := match d.newestRow with | some y => y.2.2.sev | none => 4
  if d.on F.DBK_STAT_FROZEN || (d.get F.DBK_BUDGET_TOKENS = 0 && sev < 2) then d else (d.commitRepeats ok).windowLive

/-- REPEAT_COMMIT acts as `Dev.repeatCommitAct` says. -/
def execRepeatCommit (ok : Bool) (s : State) : Out := s.run (fun d => d.repeatCommitAct ok)

/-- TOKEN_REFILL (R800, R801): a second's tokens. -/
def execTokenRefill (s : State) : Out := s.run Dev.refill

/-- DBK_FREEZE_WRITE (R806). -/
def execDbkFreezeWrite (s : State) : Out := s.runCore Dev.startFreeze

/-- DBK_THAW_WRITE (R807). -/
def execDbkThawWrite (s : State) : Out := s.runCore (fun d => d.endFreeze false)

/-- FREEZE_EXPIRE (R807). -/
def execFreezeExpire (s : State) : Out := s.run (fun d => if d.on F.DBK_STAT_FROZEN then d.endFreeze true else d)

/-- DBK_CURSOR_WRITE (R803, R804; 00 R6): both halves as a pair. -/
def execDbkCursorWrite (v : BitVec 48) (s : State) : Out := s.runCore (fun d => d.writeCursor v.toNat)

/-- DBK_NEXT_WRITE (R804). -/
def execDbkNextWrite (s : State) : Out := s.runCore Dev.nextRecord

/-- The row of the record that the window shows (R803). -/
def Dev.windowRow (d : Dev) : Option Nat :=
  let l := d.dbk.rows.filter (fun (r : Row) => r.held.any (fun x => d.cursor ≤ x.1))
  (l.find? (fun (r : Row) => l.all (fun (y : Row) => (r.held.map (fun x => x.1)).getD 0 ≤ (y.held.map (fun x => x.1)).getD 0))).map (fun (r : Row) => r.num)

/-- DBK_WINDOW_REFILLED (R804): `readable` says whether the row of the record is read; an uncorrectable one is lost (R809), and the next present record
shows. -/
def Dev.dbkWindowRefilledAct (d : Dev) (readable : Bool) : Dev :=
  if !d.on F.DBK_STAT_WIN_BUSY then d
  else
    let d := match readable, d.windowRow with
      | false, some n => d.rowUnreadable n
      | _, _ => d
    (d.put F.DBK_STAT_WIN_BUSY 0).showWindow

/-- DBK_WINDOW_REFILLED acts as `Dev.dbkWindowRefilledAct` says. -/
def execDbkWindowRefilled (readable : Bool) (s : State) : Out := s.run (fun d => d.dbkWindowRefilledAct readable)

/-- What else is counted in seconds: the idle time (04 R132), the known-answer ages (10 R412), a surface's rebuild (17 R722), the lanes' errors
(15 R588), the refusals recorded (16 R631), the L1 errors (R781). -/
def Dev.secondCounts (d : Dev) : Dev :=
  let d := if d.mod.mode = Mode.serve || d.mod.mode = Mode.ease then d.inc F.MOD_IDLE_NOW_SECONDS else d
  let d := d.each (List.range 9) (fun d q => d.incI F.DET_Q_KAT_AGE q)
  { d with drv := { d.drv with surf := d.drv.surf.map (fun (x : SurfaceRebuild) => { x with seconds := x.seconds + 1 }) },
           hif := { d.hif with laneErr := List.replicate 8 0 }, cmd := { d.cmd with noted := [] },
           wat := { d.wat with l1Errors := List.replicate 4 0 } }

/-- OPSEC_TICK (R793, R794): counted while PORST_N is high. -/
def Dev.opsecTickAct (d : Dev) : Dev :=
  if !d.mod.porstHigh then d else (d.put F.DBK_OPSEC_SECONDS (d.get F.DBK_OPSEC_SECONDS + 1)).secondCounts

/-- OPSEC_TICK acts as `Dev.opsecTickAct` says. -/
def execOpsecTick (s : State) : Out := s.run (fun d => d.opsecTickAct)

/-- The operating seconds go into the array (R793). -/
def Dev.commitSeconds (d : Dev) : Dev := { d with dbk := { d.dbk with opsecNv := d.get F.DBK_OPSEC_SECONDS } }

/-- OPSEC_COMMIT (R793). -/
def execOpsecCommit (s : State) : Out := s.run Dev.commitSeconds

end Sys2Proof.Machine
end

