-- ==== Sys2Proof/Machine/Modes.lean ====
section
/-! DEFINITION. Resets, mode requests, idle timers and the Harvest (spec/04). -/

namespace Sys2Proof.Machine

/-! ### Reset (R129, R134, R151; 21 R865) -/

/-- Registers kept across PORST_N: the fields marked held or NV (R152; 05 R201; 18 R764; 19 R814, R815). -/
def heldFields : List Field :=
  [F.MOD_HARV_STAT_VALID, F.MOD_HARV_STAT_DONE, F.MOD_HARV_STAT_RETRACT_USED, F.MOD_HARV_STAT_TAIL_DONE, F.MOD_HARV_STAT_PARKED,
   F.MOD_HARV_DATA_MS, F.MOD_HARV_DATA_TAIL_KIB, F.MIL_GAS_BASE, F.WAT_HIST_PTR_TOTAL, F.WAT_HIST_PTR_NEWEST, F.WAT_HIST_PTR_ENTRIES,
   F.WAT_HIST_BYTES, F.DBK_LOST_A_SEV1, F.DBK_LOST_A_SEV0, F.DBK_LOST_B_SEV3, F.DBK_LOST_B_SEV2]

/-- Registers that non-volatile memory keeps: the Tally store's, the fuses', the Day-Book array's (18 R764; 19 R815). -/
def storeFields : List Field :=
  [F.TAL_STAT_LOST_PERM, F.TAL_STAT_TAMPER, F.TAL_STAT_ROOT_LOCK, F.TAL_MIRROR_BEHIND, F.TAL_BOOT_COUNT_VALUE, F.TAL_INDEX_VALUE,
   F.TAL_ENTRIES_DROPPED, F.TAL_ENTRIES_STORED, F.TAL_SVN_FLOOR_FLOOR, F.TAL_KEY_EPOCH_EPOCH, F.TAL_ROOT_BYTES, F.TAL_LAST_BYTES, F.PRS_STAT_TAMPER,
   F.PRS_STAT_LOOP_OPEN, F.PRS_COUNT_OPENINGS, F.DBK_STAT_RECORDS, F.DBK_CAP_RETIRED, F.DBK_CAP_CAPACITY, F.DBK_SEQ_LO_SEQ, F.DBK_SEQ_HI_SEQ,
   F.DBK_OPSEC_SECONDS, F.DBK_PCYCLES_CYCLES]

/-- The register cells of a list of fields. -/
def Dev.cellsOf (d : Dev) (l : List Field) : List RegCell := d.regs.filter (fun c => l.any (fun f => f.key == c.field))

/-- The device after PORST_N is asserted: what the always-on domain and non-volatile memory keep, and the levels at the balls; everything
else is as after power-on (R129, R149; 12 R455; 18 R763; 19 R790, R796). -/
def Dev.coldReset (d : Dev) : Dev :=
  let e : Dev := {
    regs := d.cellsOf (heldFields ++ storeFields), freeCount := d.freeCount,
    mod := { pwrfailLow := d.mod.pwrfailLow, harvStarted := d.mod.harvStarted, clockMs := d.mod.clockMs, lostAtSafe := d.mod.lostAtSafe },
    wch := { tripped := d.wch.tripped, preamp := d.wch.preamp },
    drv := { jrn := d.drv.jrn }, cfg := { flash := d.cfg.flash },
    dbk := { d.dbk with emptied := false },
    pins := { ir := d.pins.ir, dr := d.pins.dr, boundary := d.pins.boundary, rails := d.pins.rails },
    hostMem := d.hostMem, mil := { gasServe := d.mil.gasServe, gasKey := d.mil.gasKey },
    tal := { entries := d.tal.entries, pending := d.tal.pending, mirror := d.tal.mirror, lacking := d.tal.lacking } }
  e.keepRetired d.retiredRanks

/-- PORST_N is taken as asserted: presence ends and debug access locks (18 R754, R759, R763; events 0x5003 and 0x500A), then all is reset. -/
def Dev.porstTaken (d : Dev) : Dev :=
  let d := if d.on F.PRS_STAT_PRESENT then d.stageDirect 0x5003 [3] else d
  let d := if d.on F.TAL_STAT_DEBUG then d.stageDirect 0x500A [1] else d
  d.coldReset

/-- PORST_N is released: a cold BOOT begins (R129, R134), which judges the last Harvest and counts what was discarded (R142, R149). -/
def Dev.porstReleased (d : Dev) : Dev :=
  let d := { d with mod := { d.mod with porstHigh := true, bootMs := 0 }, pins := { d.pins with rails := 0 } }
  ((d.killStanding).judgeHarvest).countDiscarded d.mod.lostAtSafe

/-- Does a Harvest hold PORST_N off (R151)? -/
def Dev.holdsOff (d : Dev) : Bool := d.harvesting && !d.on F.MOD_HARV_STAT_DONE

/-- PORST_N asserted (R151; 21 R865). -/
def Dev.porstAsserted (d : Dev) : Dev :=
  if d.holdsOff then { d with mod := { d.mod with porstHeldOff := true, porstRose := false } } else d.porstTaken

/-- PORST_N_RELEASE (R134, R151). -/
def Dev.porstNReleaseAct (d : Dev) : Dev :=
  if d.mod.porstHeldOff then { d with mod := { d.mod with porstRose := true } }
  else if d.mod.porstHigh then d
  else d.porstReleased

/-- PORST_N_RELEASE acts as `Dev.porstNReleaseAct` says. -/
def execPorstNRelease (s : State) : Out := s.run (fun d => d.porstNReleaseAct)

/-- PORST_N_ASSERT (R151; 21 R864, R865): a low of `ns` nanoseconds; between 1 µs and 10 µs the part takes it or not, as `taken` says. -/
def Dev.porstNAssertAct (d : Dev) (ns : Nat) (taken : Bool) : Dev :=
  if ns < 1000 || (ns < 10000 && !taken) then d else d.porstAsserted

/-- PORST_N_ASSERT acts as `Dev.porstNAssertAct` says. -/
def execPorstNAssert (ns : Nat) (taken : Bool) (s : State) : Out := s.run (fun d => d.porstNAssertAct ns taken)

/-- What non-volatile memory, the flash and the host keep when VDD_AON is lost (19 R790, R793, R796, R813). -/
def Dev.aonLost (d : Dev) : Dev :=
  let e : Dev := {
    regs := d.cellsOf storeFields, freeCount := d.freeCount, drv := { jrn := d.drv.jrn }, cfg := { flash := d.cfg.flash },
    dbk := { rows := d.dbk.rows, opsecNv := d.dbk.opsecNv }, pins := { rails := d.pins.rails }, hostMem := d.hostMem,
    tal := { entries := d.tal.entries, mirror := d.tal.mirror, lacking := d.tal.lacking } }
  e.put F.DBK_OPSEC_SECONDS d.dbk.opsecNv

/-- AON_POWER_ON (19 R792, event 0x6101). -/
def Dev.aonPowerOnAct (d : Dev) : Dev :=
  let d := (d.aonLost).inc F.DBK_PCYCLES_CYCLES
  d.post 0x6101 [d.get F.DBK_STAT_RECORDS, d.get F.DBK_CAP_CAPACITY, d.get F.DBK_CAP_RETIRED, d.get F.DBK_PCYCLES_CYCLES]

/-- AON_POWER_ON acts as `Dev.aonPowerOnAct` says. -/
def execAonPowerOn (s : State) : Out := s.run (fun d => d.aonPowerOnAct)

/-- A rail is below its range. -/
def Dev.railLow (d : Dev) (r : Nat) : Dev := { d with pins := { d.pins with rails := withBit d.pins.rails r true } }

/-- VDDIO below its range (21 R851, R875). -/
def Dev.vddioLost (d : Dev) : Dev := (d.railLow 6).porstAsserted

/-- VDDIO_LOSS (21 R875). -/
def execVddioLoss (s : State) : Out := s.run Dev.vddioLost

/-! ### The Harvest (R148 to R151) -/

/-- PWRFAIL_FALL (R148 step 1). -/
def Dev.pwrfailFallAct (d : Dev) : Dev :=
  if d.mod.pwrfailLow then d
  else
    let d := { d with mod := { d.mod with pwrfailLow := true } }
    if d.mod.porstHigh && !d.harvesting then d.killAssert killSupply else d

/-- PWRFAIL_FALL acts as `Dev.pwrfailFallAct` says. -/
def execPwrfailFall (s : State) : Out := s.run (fun d => d.pwrfailFallAct)

/-- The unjournaled tail, KiB (R145). -/
def Dev.tailKib (d : Dev) : Nat := ceilDiv (d.get F.DRV_TAIL_BYTES) 1024

/-- BOOT before DONE: nothing is written to the flash (R150; 03 R122). -/
def Dev.beforeDone (d : Dev) : Bool := d.mod.mode == Mode.boot && d.get F.CFG_STAT_PHASE != 5

/-- The hardware park of a loaded actuator, or of one that still unloads (R148 step 5; 06 R221, R240). -/
def Dev.harvestPark (d : Dev) (n : Nat) : Dev :=
  let st := d.shpState n
  if shpLoading ≤ st && st ≤ shpLost then (d.enterUnloading n 2).hardwarePark n
  else if st = shpUnloading then d.hardwarePark n
  else d

/-- The load of the image stops (03 R122). -/
def Dev.loadStops (d : Dev) : Dev := if d.beforeDone && !d.mod.recovery then d.put F.CFG_STAT_PHASE 0 else d

/-- Steps 2 to 7 of R148: the Harvest commits. -/
def Dev.harvestCommit (d : Dev) : Dev :=
  let d := { d with mod := { d.mod with harvStarted := true, transit := none, parkDone := false, restartAfterHarvest := false } }
  let d := { d with cmd := { d.cmd with act := none }, drv := { d.drv with run := [], passes := [] }, wat := { d.wat with safeDue := none } }
  let d := (d.loadStops).put F.MOD_STAT_HARVEST 1
  let d := (((d.put F.MOD_HARV_STAT_VALID 1).put F.MOD_HARV_STAT_DONE 0).put F.MOD_HARV_STAT_RETRACT_USED 0).put F.MOD_HARV_STAT_TAIL_DONE 0
  let d := ((d.put F.MOD_HARV_STAT_PARKED 0).put F.MOD_HARV_DATA_MS 0).put F.MOD_HARV_DATA_TAIL_KIB 0
  let d := d.post 0x0306 [d.mod.mode.code, d.rpm, if d.beforeDone then 0 else d.tailKib]
  let d := d.cacheDiscard
  let d := (d.rectifyEntry.each (List.range 4) Dev.harvestPark).retractDue 1
  let d := d.each (List.range 16) (fun d k => d.loopOpen (7 + k))
  let d := d.each [9, 7, 3, 4, 5, 6, 8] Dev.powerDownRequest
  ((d.endFreeze false).commitAll).commitSeconds

/-- HARVEST_COMMIT (R148 steps 2 to 7): PWRFAIL_N is still low 2 µs after it fell. -/
def Dev.harvestCommitAct (d : Dev) : Dev :=
  if d.mod.pwrfailLow && d.mod.porstHigh && !d.harvesting then d.harvestCommit else d

/-- HARVEST_COMMIT acts as `Dev.harvestCommitAct` says. -/
def execHarvestCommit (s : State) : Out := s.run (fun d => d.harvestCommitAct)

/-- The device restarts as at PORST_N release, with the always-on domain kept (R151). -/
def Dev.harvestRestart (d : Dev) : Dev := (d.coldReset).porstReleased

/-- PWRFAIL_RISE (R151). -/
def Dev.pwrfailRiseAct (d : Dev) : Dev :=
  let d := { d with mod := { d.mod with pwrfailLow := false } }
  if !d.harvesting then d.killRelease killSupply
  else if d.on F.MOD_HARV_STAT_DONE && !d.mod.porstHeldOff then d.harvestRestart
  else { d with mod := { d.mod with restartAfterHarvest := true } }

/-- PWRFAIL_RISE acts as `Dev.pwrfailRiseAct` says. -/
def execPwrfailRise (s : State) : Out := s.run (fun d => d.pwrfailRiseAct)

/-- Every event waiting in a port reaches the array, and the seconds with them (R148 step 10; 19 R793, R798). -/
def Dev.recordAll (d : Dev) : Dev := ((d.each (List.range d.eventsHeld) (fun d _ => d.watchTake.commitAll))).commitSeconds

/-- Steps 9 and 10 of R148, `ms` milliseconds after PWRFAIL_N fell: the tail with its end marker, DONE, event 0x0307. -/
def Dev.harvestDone (d : Dev) (ms : Nat) : Dev :=
  let kib := min 2047 d.tailKib
  let d := if d.beforeDone then d
    else
      let d := if d.drv.restored then (d.appendRec recEnd []).tailToLog 0 else d
      if d.drv.tail.isEmpty then (d.put F.MOD_HARV_STAT_TAIL_DONE 1).put F.MOD_HARV_DATA_TAIL_KIB kib else d
  let d := ((d.harvestProgress).put F.MOD_HARV_DATA_MS (min 2047 ms)).put F.MOD_HARV_STAT_DONE 1
  let d := d.post 0x0307 [min 2047 ms, d.get F.MOD_HARV_DATA_TAIL_KIB, d.get F.MOD_HARV_STAT_PARKED]
  let d := d.recordAll
  if d.mod.restartAfterHarvest && !d.mod.porstHeldOff then d.harvestRestart else d

/-- HARVEST_TAIL_WRITTEN (R148 steps 9 and 10, R151). -/
def execHarvestTailWritten (ms : Nat) (s : State) : Out := s.runCore (fun d => if d.holdsOff then d.harvestDone ms else d)

/-- HARVEST_HOLDOFF_END (R151): a PORST_N held off is honoured, at DONE or after 1.2 s. -/
def Dev.harvestHoldoffEndAct (d : Dev) : Dev :=
  if !d.mod.porstHeldOff then d
  else
    let rose := d.mod.porstRose
    let d := d.porstTaken
    if rose then d.porstReleased else d

/-- HARVEST_HOLDOFF_END acts as `Dev.harvestHoldoffEndAct` says. -/
def execHarvestHoldoffEnd (s : State) : Out := s.run (fun d => d.harvestHoldoffEndAct)

/-! ### Requests and idle timers (R132 to R136, R143) -/

/-- MOD_REQ_WRITE (R134, R136): `t` is TARGET. -/
def execModReqWrite (t : Fin 8) (s : State) : Out := s.runCore (fun d => d.modRequest t.val)

/-- A warm BOOT may start (R143). -/
def Dev.rebootOk (d : Dev) : Bool :=
  match d.mod.mode with
  | .safe => true
  | .boot => false
  | _ => d.on F.TWN_CTRL_PAUSE && d.get F.DRV_CONTEXTS_IN_USE == 0 && d.allAtRest

/-- REBOOT (R143, events 0x030A and 0x030C). -/
def Dev.reboot (d : Dev) : Dev := if d.rebootOk && !d.harvesting then d.warmBoot 1 else d.refuseRequest 0 4

/-- MOD_REBOOT (R143). -/
def execModReboot (s : State) : Out := s.runCore Dev.reboot

/-- MOD_EASE_IDLE_WRITE (R131, R152). -/
def execModEaseIdleWrite (v : BitVec 17) (s : State) : Out := s.runCore (fun d => d.idleWrite 2 v.toNat)

/-- MOD_REST_IDLE_WRITE (R131, R152). -/
def execModRestIdleWrite (v : BitVec 17) (s : State) : Out := s.runCore (fun d => d.idleWrite 3 v.toNat)

/-- MOD_EASE_RPM_WRITE (R131, R152). -/
def execModEaseRpmWrite (v : BitVec 13) (s : State) : Out := s.runCore (fun d => d.idleWrite 4 v.toNat)

/-- No stream is open and no change is in progress (R133, R151). -/
def Dev.idleFree (d : Dev) : Bool := d.mod.transit.isNone && d.streams.isEmpty && !d.harvesting

/-- EASE_IDLE_EXPIRE (R132 to R134). -/
def Dev.easeIdleExpireAct (d : Dev) : Dev :=
  let ease := d.get F.MOD_EASE_IDLE_SECONDS
  let rest := d.get F.MOD_REST_IDLE_SECONDS
  if d.mod.mode == Mode.serve && d.idleFree && ease != 0 && (ease < rest || rest == 0) && ease ≤ d.get F.MOD_IDLE_NOW_SECONDS then d.toEase else d

/-- EASE_IDLE_EXPIRE acts as `Dev.easeIdleExpireAct` says. -/
def execEaseIdleExpire (s : State) : Out := s.runIsland 0x02 (fun d => d.easeIdleExpireAct)

/-- REST_IDLE_EXPIRE (R132 to R135). -/
def Dev.restIdleExpireAct (d : Dev) : Dev :=
  let rest := d.get F.MOD_REST_IDLE_SECONDS
  if (d.mod.mode == Mode.serve || d.mod.mode == Mode.ease) && d.idleFree && rest != 0 && rest ≤ d.get F.MOD_IDLE_NOW_SECONDS then d.restBegin 0 else d

/-- REST_IDLE_EXPIRE acts as `Dev.restIdleExpireAct` says. -/
def execRestIdleExpire (s : State) : Out := s.runIsland 0x02 (fun d => d.restIdleExpireAct)

end Sys2Proof.Machine
end

