-- ==== Sys2Proof/Machine/Package.lean ====
section
/-! DEFINITION. The balls of the package (spec/21 R842 to R847, R851): their names, the signals and rails on them, and the state each holds while
no block drives it. -/

namespace Sys2Proof.Machine

/-- The rails, in the order of R849. -/
inductive Rail where
  | core | aon | ch | q | peL | peH | io
  deriving DecidableEq, Repr

/-- The place of a rail in `Pins.rails`. -/
def Rail.place : Rail → Nat
  | .core => 0
  | .aon => 1
  | .ch => 2
  | .q => 3
  | .peL => 4
  | .peH => 5
  | .io => 6

/-- The signals of R844. `b` is false for DDRA and true for DDRB, `n` a port or actuator, `p` a phase. -/
inductive Signal where
  | ddrDq (b : Bool) (i : Nat) | ddrCb (b : Bool) (i : Nat) | ddrDqsT (b : Bool) (i : Nat) | ddrDqsC (b : Bool) (i : Nat)
  | ddrCkT (b : Bool) | ddrCkC (b : Bool) | ddrCa (b : Bool) (i : Nat) | ddrCsN (b : Bool) (i : Nat) | ddrAlertN (b : Bool)
  | ddrResetN | ddrZq
  | paRdp (n j : Nat) | paRdn (n j : Nat) | paWdp (n k : Nat) | paWdn (n k : Nat) | paWg (n k : Nat) | paWa (n k : Nat)
  | paSclk (n : Nat) | paSdio (n : Nat) | paSen (n : Nat) | paFltN (n : Nat)
  | peTxp (i : Nat) | peTxn (i : Nat) | peRxp (i : Nat) | peRxn (i : Nat) | peClkreqN | peRext
  | xin | xspiSck | xspiCsN | xspiDs | xspiIo (i : Nat) | xspiRstN
  | tck | tms | tdi | tdo | trstN | uartTx | uartRx | gpio (i : Nat) | testen
  | spGate (p : Nat) (high : Bool) | spI (p : Nat) | spV (p : Nat) | spCt | spVm
  | vcmPwm (n : Nat) | vcmDir (n : Nat) | vcmIsns (n : Nat) | maOut (n k : Nat) | retractN | pwrfailN | shkLin | shkRot | thermExt
  | presJ | sealA | sealB | faultN | porstN
  deriving DecidableEq, Repr

/-- What a ball carries. -/
inductive BallUse where
  | signal (s : Signal)
  | rail (r : Rail)
  | vss
  deriving DecidableEq, Repr

/-! ### Names and places (R842, R843, R846) -/

/-- The row letters, index 1 to 38 (R842). -/
def ballRows : List String :=
  ["A", "B", "C", "D", "E", "F", "G", "H", "J", "K", "L", "M", "N", "P", "T", "U", "V", "W", "Y"]
    ++ ["AA", "AB", "AC", "AD", "AE", "AF", "AG", "AH", "AJ", "AK", "AL", "AM", "AN", "AP", "AT", "AU", "AV", "AW", "AY"]

/-- The name of the ball at row index `r` and column `c` (R842). -/
def ballName (r c : Nat) : String := (ballRows.getD (r - 1) "") ++ toString c

/-- The signals of one DDR5 subchannel, in fill order (R844). -/
def ddrSignals (b : Bool) : List Signal :=
  (List.range 32).map (.ddrDq b) ++ (List.range 8).map (.ddrCb b) ++ (List.range 5).flatMap (fun i => [.ddrDqsT b i, .ddrDqsC b i])
    ++ [.ddrCkT b, .ddrCkC b] ++ (List.range 14).map (.ddrCa b) ++ (List.range 3).map (.ddrCsN b) ++ [.ddrAlertN b]

/-- The twenty signals of a preamp port (R844). -/
def portSignals (n : Nat) : List Signal :=
  (List.range 4).flatMap (fun j => [.paRdp n j, .paRdn n j]) ++ [0, 1].flatMap (fun k => [.paWdp n k, .paWdn n k])
    ++ [.paWg n 0, .paWg n 1, .paWa n 0, .paWa n 1, .paSclk n, .paSdio n, .paSen n, .paFltN n]

/-- A region of signal balls (R843): rows, columns and its signals in fill order. -/
structure Region where
  row0 : Nat
  row1 : Nat
  col0 : Nat
  col1 : Nat
  signals : List Signal

/-- TOP-A, TOP-B, BOTTOM-A, BOTTOM-B, LEFT and RIGHT (R843, R844). -/
def regions : List Region :=
  [⟨1, 5, 1, 22, ddrSignals false ++ [.ddrResetN, .ddrZq]⟩,
   ⟨1, 5, 23, 38, [.xin, .xspiSck, .xspiCsN, .xspiDs] ++ (List.range 8).map .xspiIo ++ [.xspiRstN, .tck, .tms, .tdi, .tdo, .trstN, .uartTx, .uartRx]
      ++ (List.range 8).map .gpio ++ [.testen]⟩,
   ⟨34, 38, 1, 22, ddrSignals true⟩,
   ⟨34, 38, 23, 38, [0, 1, 2].flatMap (fun p => [.spGate p true, .spGate p false]) ++ [.spI 0, .spI 1, .spI 2, .spV 0, .spV 1, .spV 2, .spCt, .spVm]
      ++ (List.range 4).flatMap (fun n => [.vcmPwm n, .vcmDir n, .vcmIsns n]) ++ (List.range 4).flatMap (fun n => [.maOut n 0, .maOut n 1])
      ++ [.retractN, .pwrfailN, .shkLin, .shkRot, .thermExt, .presJ, .sealA, .sealB, .faultN, .porstN]⟩,
   ⟨6, 33, 1, 5, (List.range 4).flatMap portSignals⟩,
   ⟨6, 33, 34, 38, (List.range 8).flatMap (fun i => [.peTxp i, .peTxn i]) ++ (List.range 8).flatMap (fun i => [.peRxp i, .peRxn i]) ++ [.peClkreqN, .peRext]⟩]

/-- The visit of a ball in its region's serpentine, from 1 (R843). -/
def Region.visit (g : Region) (r c : Nat) : Nat :=
  let w := g.col1 + 1 - g.col0
  let i := r - g.row0
  i * w + (if i % 2 = 0 then c - g.col0 else g.col1 - c) + 1

/-- What a ball of a region carries: every third visited is VSS, and so are those after the last signal (R843). -/
def Region.ball (g : Region) (r c : Nat) : BallUse :=
  let v := g.visit r c
  if v % 3 = 0 then .vss
  else match g.signals[v - v / 3 - 1]? with
    | some s => .signal s
    | none => .vss

/-- The rail of an even ball of the core (R846). -/
def coreRail (r c : Nat) : Rail :=
  let inside := fun (r0 r1 c0 c1 : Nat) => decide (r0 ≤ r ∧ r ≤ r1 ∧ c0 ≤ c ∧ c ≤ c1)
  if inside 6 9 6 21 || inside 30 33 6 21 then .q
  else if inside 12 25 6 13 then .ch
  else if inside 10 17 28 33 then .peL
  else if inside 18 21 28 33 then .peH
  else if inside 6 9 22 33 || inside 30 33 22 27 then .io
  else if inside 30 31 28 31 then .aon
  else .core

/-- What the ball at row index `r` and column `c`, each 1 to 38, carries (R843, R846). -/
def ballUse (r c : Nat) : BallUse :=
  match regions.find? (fun g => g.row0 ≤ r && r ≤ g.row1 && g.col0 ≤ c && c ≤ g.col1) with
  | some g => g.ball r c
  | none => if (r + c) % 2 = 1 then .vss else .rail (coreRail r c)

/-! ### Directions, supplies, domains and states (R844, R845, R851) -/

/-- The direction codes of R844. -/
inductive BallDir where
  | input | output | both | openDrain | analogIn | analogOut | analog
  deriving DecidableEq, Repr

/-- What stands at a ball that no block drives (R844, R851). -/
inductive BallState where
  | highZ | low | high | pullUp | pullDown | input | terminated | writtenZero | idle | released | none
  deriving DecidableEq, Repr

/-- Direction, I/O supply, power domain (as 02 R51 numbers them) and state of a signal (R844). -/
def Signal.row : Signal → BallDir × Rail × Nat × BallState
  | .ddrDq _ _ => (.both, .q, 8, .highZ)
  | .ddrCb _ _ => (.both, .q, 8, .highZ)
  | .ddrDqsT _ _ => (.both, .q, 8, .highZ)
  | .ddrDqsC _ _ => (.both, .q, 8, .highZ)
  | .ddrCkT _ => (.output, .q, 8, .low)
  | .ddrCkC _ => (.output, .q, 8, .high)
  | .ddrCa _ _ => (.output, .q, 8, .low)
  | .ddrCsN _ _ => (.output, .q, 8, .high)
  | .ddrAlertN _ => (.input, .q, 8, .input)
  | .ddrResetN => (.output, .q, 8, .low)
  | .ddrZq => (.analog, .q, 8, .none)
  | .paRdp n _ => (.analogIn, .ch, 3 + n, .terminated)
  | .paRdn n _ => (.analogIn, .ch, 3 + n, .terminated)
  | .paWdp n _ => (.analogOut, .ch, 3 + n, .writtenZero)
  | .paWdn n _ => (.analogOut, .ch, 3 + n, .writtenZero)
  | .paWg n _ => (.output, .io, 3 + n, .low)
  | .paWa n _ => (.output, .io, 3 + n, .low)
  | .paSclk n => (.output, .io, 3 + n, .low)
  | .paSdio n => (.both, .io, 3 + n, .pullDown)
  | .paSen n => (.output, .io, 3 + n, .low)
  | .paFltN n => (.input, .io, 3 + n, .pullUp)
  | .peTxp _ => (.output, .peL, 9, .idle)
  | .peTxn _ => (.output, .peL, 9, .idle)
  | .peRxp _ => (.input, .peH, 9, .input)
  | .peRxn _ => (.input, .peH, 9, .input)
  | .peClkreqN => (.openDrain, .io, 9, .released)
  | .peRext => (.analog, .peH, 9, .none)
  | .xin => (.input, .io, 0, .input)
  | .xspiSck => (.output, .io, 1, .low)
  | .xspiCsN => (.output, .io, 1, .high)
  | .xspiDs => (.input, .io, 1, .pullDown)
  | .xspiIo _ => (.both, .io, 1, .pullDown)
  | .xspiRstN => (.output, .io, 1, .low)
  | .tck => (.input, .io, 0, .pullUp)
  | .tms => (.input, .io, 0, .pullUp)
  | .tdi => (.input, .io, 0, .pullUp)
  | .tdo => (.output, .io, 0, .highZ)
  | .trstN => (.input, .io, 0, .pullDown)
  | .uartTx => (.output, .io, 1, .high)
  | .uartRx => (.input, .io, 1, .pullUp)
  | .gpio _ => (.both, .io, 1, .pullDown)
  | .testen => (.input, .io, 0, .pullDown)
  | .spGate _ _ => (.output, .io, 2, .low)
  | .spI _ => (.analogIn, .ch, 2, .input)
  | .spV _ => (.analogIn, .ch, 2, .input)
  | .spCt => (.analogIn, .ch, 2, .input)
  | .spVm => (.analogIn, .ch, 2, .input)
  | .vcmPwm _ => (.output, .io, 2, .low)
  | .vcmDir _ => (.output, .io, 2, .low)
  | .vcmIsns _ => (.analogIn, .ch, 2, .input)
  | .maOut _ _ => (.analogOut, .ch, 2, .highZ)
  | .retractN => (.openDrain, .io, 0, .released)
  | .pwrfailN => (.input, .io, 0, .input)
  | .shkLin => (.analogIn, .ch, 2, .input)
  | .shkRot => (.analogIn, .ch, 2, .input)
  | .thermExt => (.analogIn, .io, 0, .input)
  | .presJ => (.input, .io, 0, .pullUp)
  | .sealA => (.output, .io, 0, .low)
  | .sealB => (.input, .io, 0, .pullDown)
  | .faultN => (.openDrain, .io, 0, .released)
  | .porstN => (.input, .io, 0, .input)

/-- Does the Galval drive the signal? -/
def BallDir.drives : BallDir → Bool
  | .output => true
  | .both => true
  | .openDrain => true
  | .analogOut => true
  | _ => false

/-- The state that a ball holds of its own: an output is high-impedance while its supply is below its range (R851), and the balls of a domain hold R844's state
from PORST_N assertion on and while the domain is off (R845); none while the owning block has it. -/
def Dev.heldState (d : Dev) (s : Signal) : Option BallState :=
  let r := s.row
  if r.1.drives && d.pins.rails.testBit r.2.1.place then some .highZ
  else if !d.mod.porstHigh || !d.powered r.2.2.1 then some r.2.2.2
  else none

end Sys2Proof.Machine
end

