-- ==== Sys2Proof/Machine/Balls.lean ====
section
/-! DEFINITION. The balls (spec/21): the UART, the GPIO registers, the supply rails. -/

namespace Sys2Proof.Machine

/-- A PIO write is ignored (R871). -/
def Dev.pioIgnored (d : Dev) : Dev := d.put F.PIO_INT_STAT_WR_IGN 1

def Dev.setTx (d : Dev) (l : List Nat) : Dev := { d with pins := { d.pins with tx := l } }.put F.PIO_UART_STAT_TX_LEVEL l.length

/-- PIO_UART_RX shows the oldest byte held (R871, R872). -/
def Dev.setRx (d : Dev) (l : List Nat) : Dev :=
  let d := { d with pins := { d.pins with rx := l } }.put F.PIO_UART_STAT_RX_LEVEL l.length
  (d.flag F.PIO_UART_RX_VALID (!l.isEmpty)).put F.PIO_UART_RX_DATA (at' l 0 0)

/-- A byte to send (R867, R871, R875). -/
def Dev.uartTx (d : Dev) (b : Nat) : Dev :=
  if 64 ≤ d.pins.tx.length then (d.put F.PIO_UART_STAT_TX_DROP 1).put F.PIO_INT_STAT_ERR 1 else d.setTx (d.pins.tx ++ [b])

/-- The oldest byte leaves on UART_TX while the UART is enabled (R867). -/
def Dev.uartSent (d : Dev) : Dev :=
  match d.pins.tx with
  | [] => d
  | _ :: l => if !d.on F.PIO_UART_CFG_EN then d else (d.setTx l).when l.isEmpty (fun d => d.put F.PIO_INT_STAT_TX_EMPTY 1)

/-- A byte arrives, with or without its stop bit (R867, R871, R875). -/
def Dev.uartRx (d : Dev) (b : Nat) (stop : Bool) : Dev :=
  if !d.on F.PIO_UART_CFG_EN then d
  else if !stop then (d.put F.PIO_UART_STAT_FRAME_ERR 1).put F.PIO_INT_STAT_ERR 1
  else if 64 ≤ d.pins.rx.length then (d.put F.PIO_UART_STAT_OVERRUN 1).put F.PIO_INT_STAT_ERR 1
  else (d.setRx (d.pins.rx ++ [b])).when d.pins.rx.isEmpty (fun d => d.put F.PIO_INT_STAT_RX 1)

/-- POP (R871, R872): ignored with nothing held. -/
def Dev.uartPop (d : Dev) : Dev := if d.pins.rx.isEmpty then d.pioIgnored else d.setRx (d.pins.rx.drop 1)

/-- PIO_UART_CFG (R871): a DIV_INT below 8 is ignored, and the whole write with it. -/
def Dev.uartCfg (d : Dev) (v : Nat) : Dev :=
  if slice v 4 16 < 8 then d.pioIgnored
  else ((d.put F.PIO_UART_CFG_EN (v / 2 ^ 31)).put F.PIO_UART_CFG_DIV_INT (slice v 4 16)).put F.PIO_UART_CFG_DIV_FRAC (slice v 0 4)

/-- PIO_GPIO_FN (R871): a field above 5 has the whole write ignored. -/
def Dev.gpioFn (d : Dev) (v : Nat) : Dev :=
  let f := fun i => slice v (4 * i) 4
  if (List.range 8).any (fun i => 5 < f i) then d.pioIgnored
  else
    let d := (((d.put F.PIO_GPIO_FN_FN0 (f 0)).put F.PIO_GPIO_FN_FN1 (f 1)).put F.PIO_GPIO_FN_FN2 (f 2)).put F.PIO_GPIO_FN_FN3 (f 3)
    (((d.put F.PIO_GPIO_FN_FN4 (f 4)).put F.PIO_GPIO_FN_FN5 (f 5)).put F.PIO_GPIO_FN_FN6 (f 6)).put F.PIO_GPIO_FN_FN7 (f 7)

/-- PIO_GPIO_PULL (R871): a ball pulled both ways has the whole write ignored. -/
def Dev.gpioPull (d : Dev) (v : Nat) : Dev :=
  let up := slice v 8 8
  let down := slice v 0 8
  if up &&& down != 0 then d.pioIgnored else (d.put F.PIO_GPIO_PULL_UP up).put F.PIO_GPIO_PULL_DOWN down

/-- The function of a GPIO ball. -/
def Dev.gpioFnOf (d : Dev) (i : Nat) : Nat :=
  d.get (at' [F.PIO_GPIO_FN_FN0, F.PIO_GPIO_FN_FN1, F.PIO_GPIO_FN_FN2, F.PIO_GPIO_FN_FN3, F.PIO_GPIO_FN_FN4, F.PIO_GPIO_FN_FN5,
    F.PIO_GPIO_FN_FN6, F.PIO_GPIO_FN_FN7] i F.PIO_GPIO_FN_FN0)

/-- The level that the device drives on a GPIO ball; none for an input (R871, R873), nor while VDDIO is below its range (R851). -/
def Dev.gpioDrives (d : Dev) (i : Nat) : Option Bool :=
  if (d.heldState (.gpio i)).isSome then none
  else match d.gpioFnOf i with
  | 1 => some ((d.get F.PIO_GPIO_OUT_LEVEL).testBit i)
  | 2 => some (d.on F.WAT_STAT_SAFE)
  | 3 => some (d.on F.WCH_INHIBIT_ACTIVE)
  | 4 => some (d.on F.MOD_STAT_HARVEST)
  | 5 => some (d.on F.PRS_STAT_PRESENT)
  | _ => none

/-! ### The commands -/

/-- UART_TX_WRITE (R871, R875). -/
def execUartTxWrite (b : BitVec 8) (s : State) : Out := s.runCore (fun d => d.uartTx b.toNat)

/-- UART_BYTE_SENT (R867, R871). -/
def execUartByteSent (s : State) : Out := s.runIsland 0x17 Dev.uartSent

/-- UART_RX_BYTE (R867, R875): `stop` says whether the stop bit is there. -/
def execUartRxByte (b : BitVec 8) (stop : Bool) (s : State) : Out := s.runIsland 0x17 (fun d => d.uartRx b.toNat stop)

/-- UART_POP_WRITE (R871, R872). -/
def execUartPopWrite (s : State) : Out := s.runCore Dev.uartPop

/-- PIO_UART_CFG_WRITE (R871). -/
def execPioUartCfgWrite (v : BitVec 32) (s : State) : Out := s.runCore (fun d => d.uartCfg v.toNat)

/-- PIO_GPIO_FN_WRITE (R871). -/
def execPioGpioFnWrite (v : BitVec 32) (s : State) : Out := s.runCore (fun d => d.gpioFn v.toNat)

/-- PIO_GPIO_PULL_WRITE (R871). -/
def execPioGpioPullWrite (v : BitVec 32) (s : State) : Out := s.runCore (fun d => d.gpioPull v.toNat)

/-- RAIL_FALL (R851, R852; 04 R149, R150; 19 R790, R793, R813): `r` as Pins.rails numbers it. With VDD_CORE gone the device is as after PORST_N, a
Harvest not yet DONE with it; with VDD_AON gone only non-volatile memory is left; VDDIO is R875's. -/
def Dev.railFallAct (d : Dev) (r : Fin 7) : Dev :=
  if r.val = 0 then (d.railLow 0).porstTaken
  else if r.val = 1 then (d.railLow 1).aonLost
  else if r.val = 6 then d.vddioLost
  else d.railLow r.val

/-- RAIL_FALL acts as `Dev.railFallAct` says. -/
def execRailFall (r : Fin 7) (s : State) : Out := s.run (fun d => d.railFallAct r)

end Sys2Proof.Machine
end

