-- ==== Sys2Proof/Machine/Cache.lean ====
section
/-! DEFINITION. The metadata cache and the SRAM macros (spec/13): requests and fills, non-caching accesses, locked ways, range
operations, the drain, the patrol, the buckets and the flip mask. -/

namespace Sys2Proof.Machine

/-! ### Accesses of other agents (13 R504) -/

/-- A non-caching agent's access: a write into the pool or the side table is refused (12 R493). -/
def Dev.nonCaching (d : Dev) (x : GranAccess) : Dev :=
  if !d.powered 8 || d.capacity < x.addr + (if x.write then x.bytes.length else x.len) then d
  else if !x.write then
    let r := d.linesMeet x.addr x.len x.dram x.cls.val
    if r.2 then r.1.answer 0 .loadAccess else r.1.answer (leValue (r.1.granRead x.addr x.len)) .none
  else
    match d.tileOf x.addr with
    | some t => d.writeRefused t 2
    | none => if d.inSideTable x.addr then d.writeRefused ((x.addr - d.get F.GRN_SIDE_BASE_TILES * 4096) / 16) 2 else d.granWrite x.addr x.bytes

/-! ### Locked ways (13 R513 to R517) -/

/-- The data words of ways `lo` to `hi - 1` lose their valid bits, and the scratchpad bytes there read zero (13 R515, R516, R532). -/
def Dev.clearWays (d : Dev) (lo hi : Nat) : Dev :=
  let m := fun w => 16 + 4 * lo ≤ w / 8192 && w / 8192 < 16 + 4 * hi
  let a := 0x10400000
  { d with srm := { d.srm with valid := d.srm.valid.filter (fun w => !m w) },
           mem := d.mem.filter (fun c => !(a + lo * 2 ^ 18 ≤ c.1 && c.1 < a + hi * 2 ^ 18)) }

/-- A write of MCC_LOCK. -/
def Dev.lockWrite (d : Dev) (v : Nat) : Dev :=
  let now := d.get F.MCC_LOCK_WAYS
  let n := v % 16
  let fenced := (List.range n).any (fun w => d.bit F.MCC_FENCE_WAYS w)
  if d.on F.MCC_STAT_LOCK_BUSY || d.on F.MCC_STAT_DRAINING || d.on F.MCC_STAT_MAINT || 8 < n || (fenced && now < n) then d.mccIgnored 0xC
  else if n = now then d
  else if n < now then
    (((d.clearWays n now).put F.MCC_LOCK_WAYS n).put F.MCC_INT_STAT_LOCK_DONE 1).post 0x3103 [now, n]
  else (({ d with mcc := { d.mcc with lockTo := n } } : Dev).put F.MCC_STAT_LOCK_BUSY 1).showMcc

/-- The newly locked ways are clean, and the new size takes effect (13 R515). -/
def Dev.lockDone (d : Dev) : Dev :=
  if !d.on F.MCC_STAT_LOCK_BUSY then d
  else
    let now := d.get F.MCC_LOCK_WAYS
    let n := d.mcc.lockTo
    let d := d.cleanLines (d.mcc.lines.filter (fun (c : CLine) => now ≤ c.way && c.way < n)) true true
    let d := ((d.clearWays now n).put F.MCC_LOCK_WAYS n).put F.MCC_STAT_LOCK_BUSY 0
    let d := ({ d with mcc := { d.mcc with lockTo := 0 } } : Dev).showMcc
    (d.put F.MCC_INT_STAT_LOCK_DONE 1).post 0x3103 [now, n]

/-! ### Range operations (13 R518 to R521) -/

/-- A write of 1 to GO with an OP. -/
def Dev.maintGo (d : Dev) (op : Nat) : Dev :=
  let n := d.get F.MCC_MAINT_LEN_LINES
  if d.on F.MCC_STAT_LOCK_BUSY || d.on F.MCC_STAT_DRAINING || d.on F.MCC_STAT_MAINT || n = 0 then d.mccIgnored 0x3C
  else
    let addr := d.get F.MCC_MAINT_ADDR_LO_ADDR * 64 + d.get F.MCC_MAINT_ADDR_HI_ADDR * 2 ^ 32
    let d := (d.put F.MCC_MAINT_CTRL_OP op).put F.MCC_STAT_MAINT 1
    ({ d with mcc := { d.mcc with maint := some (op, addr / 64, n), pos := 0 } } : Dev).showMcc

/-- The range operation ends; a drain that waited for it starts (13 R542). -/
def Dev.maintDone (d : Dev) : Dev :=
  match d.mcc.maint with
  | none => d
  | some _ =>
    let d := d.engineTo 65536
    let d := ({ d with mcc := { d.mcc with maint := none } } : Dev).put F.MCC_STAT_MAINT 0
    let d := d.showMcc.put F.MCC_INT_STAT_OP_DONE 1
    if d.mcc.drainAfter then d.cacheDrain else d

/-! ### ENABLE (13 R522 to R524) -/

def Dev.cacheEnable (d : Dev) : Dev :=
  if d.draining then d.mccIgnored 4
  else if d.on F.MCC_CTRL_ENABLE then d
  else (d.put F.MCC_CTRL_ENABLE 1).post 0x3101 [d.get F.MCC_LOCK_WAYS, d.get F.MCC_FENCE_WAYS]

/-! ### Patrol, buckets, flip mask (13 R533, R538 to R540) -/

/-- The line whose data word lies at a word of a cache data macro. -/
def Dev.lineAt (d : Dev) (m word : Nat) : Option CLine :=
  let way := (m - 16) / 4
  let set' := (m - 16) % 4 * 1024 + word / 8
  d.mcc.lines.find? (fun (c : CLine) => c.way == way && c.line % 4096 == set')

/-- The patrol reads a word. -/
def Dev.sramPatrol (d : Dev) (m word : Nat) (o : Ecc) : Dev :=
  if 96 ≤ m || 8192 ≤ word || !d.wordValid m word then d
  else
    let e := d.wordEcc m word o
    if e = .clean then d
    else if e = .single then d.sramCorrected m word
    else if d.plainMacro m then
      let d := d.sramDouble m word
      let k := d.macro m
      let d := d.setMacro { k with bad := if k.bad.contains word then k.bad else word :: k.bad }
      let v := d.fresh
      v.2.post 0x310B [m, word, v.1]
    else
      let c := if m < 80 then d.lineAt m word else d.mcc.lines.find? (fun (c : CLine) => c.way == m - 80 && c.line % 4096 == word)
      match c with
      | none => d.sramDouble m word
      | some c => (d.checkLine c (word % 8 * 8) (if m < 80 then .double else .clean) (if m < 80 then .clean else .double)).1

/-- Each bucket falls by one. -/
def Dev.bucketLeak (d : Dev) : Dev :=
  d.each (d.srm.macros.filter (fun (e : Macro) => e.bucket != 0)) (fun d (e : Macro) => d.setBucket e.num (e.bucket - 1))

/-- A write of SRM_FLIP_CTRL: a macro above 95 makes the write of no effect. -/
def Dev.flipArm (d : Dev) (v : Nat) : Dev :=
  if 95 < slice v 0 7 then d
  else
    let d := (d.put F.SRM_FLIP_CTRL_CHECK_MASK (slice v 8 8)).put F.SRM_FLIP_CTRL_MACRO (slice v 0 7)
    if v.testBit 31 then d.put F.SRM_FLIP_CTRL_ARMED 1 else d

/-! ### The commands -/

/-- CACHE_REQUEST (13 R505 to R512, R523, R526 to R529): an access of a port, 0 to 3 the Reeve cores, 4 the Drover. -/
def execCacheRequest (port : Fin 5) (x : CoreAccess) (s : State) : Out :=
  s.runIsland 0x0B (fun d => if d.powered 8 && !d.stalled port.val && d.isGranary x.addr && d.isGranary (x.addr + x.len - 1) then d.granAccess port.val x else d)

/-- CACHE_FILL_DONE (13 R506, R511, R528): of a port's miss, or of the prefetch. -/
def execCacheFillDone (port : Option (Fin 5)) (o : DramRead) (s : State) : Out :=
  s.runIsland 0x0B (fun d => match port with | some p => d.fillDone p.val o | none => d.prefetchDone o)

/-- NONCACHING_ACCESS (13 R504). -/
def execNoncachingAccess (x : GranAccess) (s : State) : Out := s.runIsland 0x0B (fun d => d.nonCaching x)

/-- VICTIM_WRITEBACK_DONE (13 R526, R527): of a line, by its number in the data capacity. -/
def execVictimWritebackDone (line : Nat) (s : State) : Out := s.runIsland 0x0B (fun d => d.victimDone line)

/-- MCC_LOCK_WRITE (13 R515 to R517). -/
def execMccLockWrite (v : BitVec 32) (s : State) : Out := s.runCore (fun d => d.lockWrite v.toNat)

/-- LOCK_CHANGE_DONE (13 R515). -/
def execLockChangeDone (s : State) : Out := s.runIsland 0x0B Dev.lockDone

/-- MAINT_CLEAN (13 R518, R520). -/
def execMaintClean (s : State) : Out := s.runCore (fun d => d.maintGo 0)

/-- MAINT_INVALIDATE (13 R518, R520). -/
def execMaintInvalidate (s : State) : Out := s.runCore (fun d => d.maintGo 1)

/-- MAINT_CLEAN_INVALIDATE (13 R518, R520). -/
def execMaintCleanInvalidate (s : State) : Out := s.runCore (fun d => d.maintGo 2)

/-- MAINT_DONE (13 R518). -/
def execMaintDone (s : State) : Out := s.runIsland 0x0B Dev.maintDone

/-- CACHE_DISABLE (13 R522, R542). -/
def execCacheDisable (s : State) : Out := s.runCore Dev.cacheDrain

/-- CACHE_ENABLE (13 R524). -/
def execCacheEnable (s : State) : Out := s.runCore Dev.cacheEnable

/-- DRAIN_DONE (13 R522). -/
def execDrainDone (s : State) : Out := s.runIsland 0x0B Dev.drainDone

/-- SRAM_PATROL (13 R533): macro, word and what its check finds. -/
def execSramPatrol (m : Fin 96) (word : Fin 8192) (o : Ecc) (s : State) : Out := s.runIsland 0x0C (fun d => d.sramPatrol m.val word.val o)

/-- BUCKET_LEAK (13 R538). -/
def execBucketLeak (s : State) : Out := s.runIsland 0x0C Dev.bucketLeak

/-- FLIP_ARM (13 R540, R544): a write of SRM_FLIP_CTRL. -/
def execFlipArm (v : BitVec 32) (s : State) : Out := s.runCore (fun d => d.flipArm v.toNat)

end Sys2Proof.Machine
end

