-- ==== Sys2Proof/Machine/Detect.lean ====
section
/-! DEFINITION. Detection and decoding (spec/10): framing on the sync marks, the judging of a decode, deferred decodes, the rungs a
failing sector climbs in the slices, the known-answer test, slice faults and the spare. -/

namespace Sys2Proof.Machine

/-! ### Framing (10 R386 to R388) -/

/-- The distance between the 24 decisions from `p` and a mark, its most significant bit first. -/
def markDistance (bits : List Bool) (mark p : Nat) : Nat :=
  ((List.range 24).filter (fun i => at' bits (p + i) false != mark.testBit (23 - i))).length

/-- The offsets of a window in the order that ties are settled: nearest first, the later of two equally near (10 R386). -/
def windowOffsets (win : Nat) : List Int := 0 :: (List.range win).flatMap (fun (i : Nat) => [(i + 1 : Int), -(i + 1 : Int)])

/-- The offset of least distance in a window, with the distance. -/
def bestOffset (bits : List Bool) (mark nominal win : Nat) : Int × Nat :=
  (windowOffsets win).foldl (fun (b : Int × Nat) o =>
    let k := markDistance bits mark ((nominal : Int) + o).toNat
    if k < b.2 then (o, k) else b) (0, 25)

/-- A search for both marks: the offset where found, the least distance. -/
structure Marks where
  o1 : Option Int
  d1 : Nat
  o2 : Option Int
  d2 : Nat
  deriving DecidableEq, Repr

def findMarks (bits : List Bool) (win tol : Nat) : Marks :=
  let a := bestOffset bits syncMark1 96 win
  let b := bestOffset bits syncMark2 136 win
  ⟨if a.2 ≤ tol then some a.1 else none, a.2, if b.2 ≤ tol then some b.1 else none, b.2⟩

/-- The codeword start and the RESULT of R387; none where neither mark is found. -/
def Marks.start (m : Marks) : Option (Nat × Nat) :=
  match m.o1, m.o2 with
  | some x, some y => some (((160 : Int) + y).toNat, if x = y then 0 else 1)
  | some x, none => some (((160 : Int) + x).toNat, 2)
  | none, some y => some (((160 : Int) + y).toNat, 3)
  | none, none => none

def offCode : Option Int → Nat
  | none => 0x80
  | some o => ofSigned 8 o

/-- The sample words that a framing reads: its widest window, a mark and the decision delay (10 R386 to R388). -/
def framingWords : Nat := 224

/-- The framing of the next attempt of a slice, once its words are there: hard decisions from the words' Y (10 R386 to R388, R390). -/
def Dev.frame (d : Dev) (q : Nat) : Dev :=
  let sl := (d.detSlice q).slots
  if !d.powered 7 || d.sliceState q == slFailed then d
  else
    match sl.find? (fun (a : Attempt) => a.start.isNone) with
    | none => d
    | some a =>
      if a.words.length < framingWords then d
      else
        let g := d.target5 a.stream
        let ys := (a.words.reverse.take framingWords).map (fun w => sampleY (storedSample w))
        let bits := hardDecisions (branchOuts g) (List.replicate 16 ⟨0, []⟩) ys
        let five := a.op.rung = 1 ∧ a.op.step = 5
        let wide := d.policy 0x2108 32
        let tol := d.policy 0x2106 2 + if five then 1 else 0
        let first := findMarks bits (if five then wide else d.policy 0x2107 8) tol
        let m := if first.start.isSome then first else findMarks bits wide tol
        let r := match first.start, m.start with
          | some s, _ => s
          | none, some s => (s.1, 4)
          | none, none => (160, 5)
        let wins := match m.start with | some s => s.2 == 1 | none => false
        let ns := noiseScale g (intAt ys)
        let d := (d.putI F.DET_Q_FRAME_RESULT q r.2).putI F.DET_Q_NSCALE_NSCALE q ns
        let d := (d.putI F.DET_Q_FRAME_SM1_OFF q (offCode m.o1)).putI F.DET_Q_FRAME_SM2_OFF q (offCode m.o2)
        let d := (d.putI F.DET_Q_FRAME_SM1_DIST q (min 15 m.d1)).putI F.DET_Q_FRAME_SM2_DIST q (min 15 m.d2)
        let d := if first.start.isSome then d else d.incI F.DET_Q_SYNC_WIDE q
        let d := if wins then (d.incI F.DET_Q_SYNC_SM2_WINS q).post 0x2102 [a.stream, offCode m.o1, offCode m.o2] else d
        let d := if r.2 = 5 then d.post 0x2103 [a.stream, a.op.head, a.op.track] else d
        d.setSlots q (sl.map (fun (y : Attempt) => if y == a then { y with start := some r.1, nscale := ns } else y))

/-! ### Slice faults (10 R411 to R414; 01 R29 to R32) -/

/-- A slice fault: `cause` 0 parity, 1 overrun, 2 test, 3 FENCE. -/
def Dev.sliceFault (d : Dev) (q cause : Nat) : Dev :=
  if d.sliceState q = slFailed then d
  else
    let s := d.getI F.DET_Q_STAT_STREAM q
    let held := (d.detSlice q).slots
    let spare := d.get F.DET_SPARE_STATE = 0 && q != 8
    let d := d.setJobs (d.det.jobs.map (fun (j : Job) => if j.slice == some q then { j with slice := none } else j))
    let d := ((d.putI F.DET_Q_STAT_STATE q slFailed).setBit F.DET_STAT_FAILED q true).put F.DET_INT_STAT_SLICE_FAULT 1
    let d := { d with det := { d.det with slices := d.det.slices.modify q (fun (x : Slice) => { x with katDue := false }) } }
    if s = 15 then
      let d := if q = 8 then d.put F.DET_SPARE_STATE 2 else d
      (d.showSlice q).post 0x210C [q, cause]
    else if spare then
      let d := (d.abandonAttempt s 5).setSlots q []
      let d := (d.put (xbarField s) 8).putI F.DET_Q_STAT_STREAM q 15
      let d := ((d.put F.DET_SPARE_STATE 1).put F.DET_SPARE_STREAM s).putI F.DET_Q_STAT_STREAM 8 s
      let d := (d.showSlice 8).post 0x210A [q, s, cause]
      d.each (held.filter (fun (a : Attempt) => a.ended)) (fun d (a : Attempt) => d.fileOp a.op)
    else
      let d := (d.abandonAttempt s 6).setSlots q []
      let d := d.each (held.filter (fun (a : Attempt) => a.ended)) (fun d (a : Attempt) => d.readFailed s a.op a.globals)
      let d := (d.post 0x210B [q, s, cause]).fenceStream s
      if q = 8 then (d.put F.DET_SPARE_STATE 2).put F.DET_SPARE_STREAM s else d

/-! ### The judging of a decode (10 R393 to R396) -/

/-- A decode's end (10 R393 to R395): every check satisfied, the checks left unsatisfied, the local iterations run, the 4,112 descrambled bytes. -/
structure DecodePass where
  satisfied : Bool
  unsat : Nat
  locals : Nat
  bytes : List Nat
  deriving DecidableEq, Repr

/-- The 4,112 descrambled bytes of decoded bits (10 R380, R381). -/
def sectorBytes (op : ReadOp) (bits : List Bool) : List Nat :=
  bitBytes 4112 (scramble (scrambleSeed op.track op.sec.idx) (bits.take infoBits))

/-- What the detector reads of a read's stored samples `ws` (10 R389 to R391), the branches of a stream's target. -/
def Dev.trellis (d : Dev) (stream : Nat) (op : ReadOp) (ws : Array Nat) (nscale start : Nat) (apriori : List Int) : Trellis :=
  let pri := apriori.toArray
  { sample := fun k => ws[k]?, apriori := fun k => if k < start then 0 else pri.getD (k - start) 0, outs := branchOuts (d.target5 stream),
    nscale := nscale, breaks := sectorBreaks (d.zone (d.zoneOf op.track)) d.wedges op.sec.idx, last := ws.size }

/-- Local iterations to a global one (10 R393, R410): rung 1 step 8 doubles them, at most 16 (R404). -/
def Dev.localIters (d : Dev) (op : ReadOp) : Nat :=
  let n := d.policy 0x2105 4
  if op.rung = 1 ∧ op.step = 8 then min 16 (2 * n) else n

/-- A global iteration on a read's samples from the codeword start `start` (10 R389 to R393). -/
def Dev.globalIter (d : Dev) (stream : Nat) (op : ReadOp) (ws : Array Nat) (nscale start : Nat) (apriori : List Int) : GlobalPass :=
  globalPass (codeOf d.zoneTab (d.zone (d.zoneOf op.track)).code) (d.trellis stream op ws nscale start apriori) start (d.localIters op)

def GlobalPass.ends (p : GlobalPass) (op : ReadOp) (locals : Nat) : DecodePass := ⟨p.satisfied, p.unsat, locals, sectorBytes op p.bits⟩

/-- Up to `n` global iterations after `k` of them, with the local ones so far (10 R393, R396): the end, and how many were run. -/
def Dev.globalIters (d : Dev) (stream : Nat) (op : ReadOp) (ws : Array Nat) (nscale start : Nat) :
    Nat → Nat → Nat → List Int → DecodePass × Nat
  | 0, k, l, _ => (⟨false, 0, l, []⟩, k)
  | n + 1, k, l, pri =>
    let p := d.globalIter stream op ws nscale start pri
    if p.satisfied || n = 0 then (p.ends op (l + p.locals), k + 1)
    else d.globalIters stream op ws nscale start n (k + 1) (l + p.locals) p.apriori

/-- How a decode came out. -/
inductive Judged where
  | released | wrongTag | failed | goesOn
  deriving DecidableEq, Repr

/-- TAG, SEQ and CRCF of 4,112 data bytes (10 R380). -/
def tagOf (b : List Nat) : Nat := leAt b 4096 6
def seqOf (b : List Nat) : Nat := leAt b 4102 6
def crcfOf (b : List Nat) : Nat := leAt b 4108 4

/-- A decode's outcome after `globals` global iterations of at most `cap`. -/
def judge (op : ReadOp) (x : DecodePass) (globals cap : Nat) : Judged :=
  if !x.satisfied then (if globals < cap then .goesOn else .failed)
  else if crc64 (x.bytes.take 4096) / 2 ^ 32 != crcfOf x.bytes then .failed
  else if op.sec.lba != anyTag && tagOf x.bytes != op.sec.lba then .wrongTag
  else .released

/-- The registers and events of a decode that ends on slice `q` (10 R394, R395, R417). -/
def Dev.decodeShown (d : Dev) (q stream : Nat) (op : ReadOp) (x : DecodePass) (globals locals : Nat) (j : Judged) : Dev :=
  let code := (d.zone (d.zoneOf op.track)).code
  let d := (d.putI F.DET_Q_ITER_UNSAT q (if j = .released then 0 else min 65535 x.unsat)).putI F.DET_Q_ITER_GLOBAL q globals
  let d := (d.putI F.DET_Q_ITER_CODE q code).putI F.DET_Q_ITER_LOCAL q (min 255 locals)
  if j = .released then d.incI F.DET_Q_SECTORS_COUNT q
  else if j = .wrongTag then
    ((d.incI F.DET_Q_CHECKS_TAG q).put F.DET_INT_STAT_CHECK 1).post 0x2106 [stream, op.sec.lba % 2 ^ 32, tagOf x.bytes % 2 ^ 32, op.rung]
  else if j = .failed && x.satisfied then ((d.incI F.DET_Q_CHECKS_CRCF q).put F.DET_INT_STAT_CHECK 1).post 0x2105 [stream, code, op.rung]
  else d

/-- A released sector's bytes go where its read wants them (10 R395; 17 R685). -/
def Dev.released (d : Dev) (op : ReadOp) (bytes : List Nat) : Dev :=
  match op.why.kind, op.why.parent, op.why.ctx with
  | .peer, some p, _ => d.peerGot p.1 p.2 bytes
  | .clean, _, _ =>
    if (d.dataIndex op.sec.lba).isNone || d.drv.wb.any (fun (w : WriteBack) => w.lba == op.sec.lba) then d
    else
      let x := d.newTile prodSlice bytes
      match x.2 with
      | none => d
      | some t => { x.1 with drv := { x.1.drv with moved := x.1.drv.moved ++ [(op.sec.lba, t)] } }
  | _, _, some n =>
    let x := d.newTile prodSlice bytes
    let d := x.1.deliverRead n op.sec.lba op.rung false bytes
    match x.2 with
    | none => d
    | some t => d.freeTile t
  | _, _, _ => d

/-- A sector is released at its rung (10 R405, R408): its entry and its sets are freed, and a sector that rung 1 read only with a
change to the read, or rung 2 decoded, is to be rewritten (17 R717). -/
def Dev.rungRelease (d : Dev) (stream : Nat) (op : ReadOp) (set' : Nat) (shift : Int) (bytes : List Nat) : Dev :=
  let sec := op.sec
  let d := d.freeSets op
  if op.rung = 0 then d
  else
    let d := d.put F.DET_INT_STAT_RECOVERED 1
    let d := if op.rung = 1 then (d.inc F.DET_RUNG1_COUNT).post 0x2107 [stream, op.step, sec.lba % 2 ^ 32, sec.lba / 2 ^ 32 % 2 ^ 16]
      else (d.inc F.DET_RUNG2_COUNT).post 0x2108 [stream, set', ofSigned 32 shift, sec.lba % 2 ^ 32]
    let d := (d.dropRecov sec.stripe sec.member).admitWaiting
    if op.rung = 2 || 3 ≤ op.step then d.rewriteDue sec.lba bytes else d

/-- The first read of a sector has failed: the stream restores its snapshot, at its next sector start while an attempt runs (09 R356,
R368). -/
def Dev.firstFailure (d : Dev) (stream : Nat) (op : ReadOp) : Dev :=
  if op.rung != 0 then d
  else if d.reading stream then d.setFe stream (fun f => { f with restoreDue := some 0 })
  else d.restoreSnap stream 0

/-! ### The global iteration of an on-line decode -/

/-- The cap of an attempt: VERIFY_GLOBAL for a verify read (11 R443). -/
def Dev.attemptCap (d : Dev) (a : Attempt) : Nat :=
  if a.op.why.kind = .verifyRead then d.policy 0x2202 2 else if a.capOne then 1 else d.globalCap

/-- A verify read passes (11 R443): WRITTEN is reported; the sector leaves the channel's list. -/
def Dev.verifyPasses (d : Dev) (stripe member : Nat) : Dev :=
  d.each (List.range 8) (fun d s =>
    d.each ((d.wchan s).verify.filter (fun (x : WSector) => x.stripe == stripe && x.member == member)) (fun d (x : WSector) =>
      let c := d.wchan s
      ((d.setWchan s { c with verify := c.verify.filter (fun y => y != x) }).incI F.WCH_W_VERIFY_PASSED s).sectorReport s x 0))

/-- An attempt ends released, failed or deferred (10 R394 to R404). -/
def Dev.attemptJudged (d : Dev) (q : Nat) (a : Attempt) (x : DecodePass) (j : Judged) : Dev :=
  let rest := (d.detSlice q).slots.filter (fun y => y != a)
  let bytes := x.bytes.take 4096
  if a.op.why.kind = .verifyRead then
    let d := d.setSlots q rest
    let seqOk := match a.op.why.verifies with | some v => v.2 == seqOf x.bytes | none => true
    if j = .released && seqOk then d.verifyPasses a.op.sec.stripe a.op.sec.member
    else (d.firstFailure a.stream a.op).readFailed a.stream a.op a.globals
  else if j = .released then ((d.setSlots q rest).rungRelease a.stream a.op 0 0 bytes).released a.op bytes
  else if j = .failed && !x.satisfied && a.capOne then d.deferAttempt q a true
  else
    let d := (d.setSlots q rest).keepSet a
    (d.firstFailure a.stream a.op).readFailed a.stream a.op a.globals

/-- A global iteration of the decode in front ends; a `verify` pass ends that of a verify read. -/
def Dev.passEnd (d : Dev) (q : Nat) (verify : Bool) (fault : DecodeFault) : Dev :=
  match (d.detSlice q).slots with
  | [] => d
  | a :: l =>
    if !d.powered 7 || d.sliceState q == slFailed || !a.ended || (a.op.why.kind == .verifyRead) != verify then d
    else
      match a.start with
      | none => d
      | some start =>
        let ws := (a.words.reverse.map storedSample).toArray
        let p := d.globalIter a.stream a.op ws a.nscale start a.apriori
        let a' := { a with globals := a.globals + 1, locals := a.locals + p.locals, apriori := p.apriori }
        let x := p.ends a.op a'.locals
        let j := judge a.op x a'.globals (d.attemptCap a)
        let d := (d.setSlots q (a' :: l)).decodeShown q a.stream a.op x a'.globals a'.locals j
        match fault with
        | .parity => d.sliceFault q 0
        | .overrun => d.sliceFault q 1
        | .none => if j = .goesOn then d else d.attemptJudged q a' x j

/-! ### Off-line decodes (10 R400, R403, R406, R407) -/

/-- The slice a waiting job takes: slice 8 while it is the spare, else the lowest whose stream has no attempt in a slot. -/
def Dev.offlineSlice (d : Dev) : Option Nat :=
  let free := fun q => !d.det.jobs.any (fun (j : Job) => j.slice == some q) && (d.detSlice q).slots.isEmpty
      && d.sliceState q != slFailed && d.sliceState q != slKat
  if d.get F.DET_SPARE_STATE = 0 then (if free 8 then some 8 else none)
  else (List.range 9).find? free

/-- The first waiting job starts. -/
def Dev.offlineStart (d : Dev) : Dev :=
  if !d.powered 7 then d
  else
    match d.det.jobs.find? (fun (j : Job) => j.slice.isNone), d.offlineSlice with
    | some j, some q => (d.setJobs (d.det.jobs.map (fun (y : Job) => if y.id == j.id then { y with slice := some q } else y))).showSlice q
    | _, _ => d

/-- The shifts of R406 in their order. -/
def rung2Shifts : List Int := [-1, 1, -2, 2, -3, 3, -4, 4]

/-- The tries of rung 2 on `n` sets (10 R406): the set in the order newest first, 0xF for the combined set, and the shift. -/
def rung2Tries (n : Nat) : List (Nat × Int) :=
  (List.range n).flatMap (fun k => rung2Shifts.map (fun z => (k, z)))
    ++ (if 2 ≤ n then (0 :: rung2Shifts).map (fun z => (15, z)) else [])

/-- The next try after `turn`, past the rest of the set's where `skip`. -/
def nextTry (tries : List (Nat × Int)) (turn : Nat) (skip : Bool) : Nat :=
  if skip then
    let set' := (at' tries turn (0, 0)).1
    ((List.range tries.length).find? (fun i => turn < i && (at' tries i (0, 0)).1 != set')).getD tries.length
  else turn + 1

/-- An off-line job leaves; the slice it ran on rests. -/
def Dev.jobEnds (d : Dev) (j : Job) (q : Nat) : Dev :=
  ((d.setJobs (d.det.jobs.filter (fun (y : Job) => y.id != j.id))).inc F.DET_OFFLINE_DONE).showSlice q

/-- A stored word of the combined set at a place from the codeword start less 160 (10 R407): the mean Y, rounded, of the sets whose word is there and
not erased; ERASE and TA where every set has them. -/
def combinedWord (sets : List (Nat × Array Nat)) (i : Nat) : Nat :=
  let ws := sets.map (fun x => if 160 ≤ i + x.1 then x.2[i + x.1 - 160]? else none)
  let all := fun (k : Nat) => ws.all (fun w => match w with | some v => v.testBit k | none => true)
  let ys := ws.filterMap (fun w => match w with | some v => if sampleErased v then none else some (sampleY v) | none => none)
  (if all 15 then 2 ^ 15 else 0) + (if all 14 then 2 ^ 14 else 0) + ofSigned 10 (roundAway (ys.foldl (fun (z : Int) v => z + v) 0) ys.length)

/-- The combined set of a sector's sets (10 R407), its codeword start at 160. -/
def combinedSet (sets : List SampleSet) : List Nat :=
  let l := sets.map (fun (x : SampleSet) => (x.start, x.words.toArray))
  let n := (sets.map (fun (x : SampleSet) => x.words.length + 160 - min 160 x.start)).foldl max 0
  (List.range n).map (combinedWord l)

/-- The stored samples and the codeword start of an off-line job (10 R400, R406): a deferred decode's newest set, or the try that rung 2 has come to,
the sets the newest first. -/
def Dev.jobSet (d : Dev) (j : Job) : Option (List Nat × Nat) :=
  let own := (d.det.sets.filter (fun (y : SampleSet) => sameSector y.op j.op)).reverse
  if !j.rung2 then own.head?.map (fun x => (x.words, x.start))
  else
    let t := at' (rung2Tries own.length) j.turn (0, 0)
    if t.1 = 15 then some (combinedSet own, ((160 : Int) + t.2).toNat) else own[t.1]?.map (fun x => (x.words, ((x.start : Int) + t.2).toNat))

/-- The decode of an off-line job with the full GLOBAL_CAP (10 R400, R406), and the global iterations run; none where its set was not kept (R402). -/
def Dev.jobDecode (d : Dev) (j : Job) : DecodePass × Nat :=
  match d.jobSet j with
  | none => (⟨false, 0, 0, []⟩, 0)
  | some x =>
    let ns := noiseScale (d.target5 j.stream) (fun k => sampleY (at' x.1 k 0))
    d.globalIters j.stream j.op x.1.toArray ns x.2 d.globalCap 0 0 []

/-- An off-line decode ends on slice `q` (10 R400, R405, R406, R408). -/
def Dev.offlineEnd (d : Dev) (q : Nat) (fault : DecodeFault) : Dev :=
  match d.det.jobs.find? (fun (j : Job) => j.slice == some q) with
  | none => d
  | some j =>
    if !d.powered 7 || d.sliceState q != slOffline then d
    else
      let r := d.jobDecode j
      let x := r.1
      let v := judge j.op x r.2 0
      let d := d.decodeShown q j.stream j.op x r.2 x.locals v
      let bytes := x.bytes.take 4096
      match fault with
      | .parity => d.sliceFault q 0
      | .overrun => d.sliceFault q 1
      | .none =>
        if !j.rung2 then
          let d := d.jobEnds j q
          if v = .released then (d.rungRelease j.stream j.op 0 0 bytes).released j.op bytes
          else (d.firstFailure j.stream j.op).readFailed j.stream j.op r.2
        else
          let tries := rung2Tries (d.det.sets.filter (fun (y : SampleSet) => sameSector y.op j.op)).length
          let t := at' tries j.turn (0, 0)
          if v = .released then ((d.jobEnds j q).rungRelease j.stream j.op t.1 t.2 bytes).released j.op bytes
          else
            let turn := nextTry tries j.turn (v = .wrongTag)
            if turn < tries.length then
              (d.setJobs (d.det.jobs.map (fun (y : Job) => if y.id == j.id then { y with turn := turn, slice := none } else y))).showSlice q
            else
              match d.det.recov.find? (fun (r : Recovery) => r.op.rung == 2 && recovAt j.op.sec.stripe j.op.sec.member r) with
              | some r => (d.jobEnds j q).handOff r
              | none => d.jobEnds j q

/-! ### The known-answer test (10 R412) -/

/-- A slice becomes due for its test. -/
def Dev.katDue (d : Dev) (q : Nat) : Dev :=
  if !d.powered 7 || d.sliceState q == slFailed then d
  else ({ d with det := { d.det with slices := d.det.slices.modify q (fun (x : Slice) => { x with katDue := true }) } }).showSlice q

/-- The test ends. -/
def Dev.katDone (d : Dev) (q : Nat) (right : Bool) : Dev :=
  if !d.powered 7 || d.sliceState q != slKat then d
  else
    let d := { d with det := { d.det with slices := d.det.slices.modify q (fun (x : Slice) => { x with katDue := false }) } }
    let d := (d.putI F.DET_Q_KAT_AGE q 0).showSlice q
    if right then d.incI F.DET_Q_KAT_PASSES q else d.sliceFault q 2

/-- A write of 1 to a slice's FENCE, or KAT (10 R411, R412). -/
def Dev.detFence (d : Dev) (q : Nat) : Dev := d.inPower 7 (fun d => (d.putI F.DET_Q_CTRL_FENCE q 1).sliceFault q 3)
def Dev.detKat (d : Dev) (q : Nat) : Dev := d.inPower 7 (fun d => d.katDue q)

/-! ### The commands -/

/-- SYNC_FRAMING (10 R386 to R390): a slice frames the next attempt of its slots. -/
def execSyncFraming (q : Fin 9) (s : State) : Out := s.runIsland 0x07 (fun d => d.frame q.val)

/-- GLOBAL_ITERATION_END (10 R389 to R400): of the decode in front of a slice. -/
def execGlobalIterationEnd (q : Fin 9) (fault : DecodeFault) (s : State) : Out := s.runIsland 0x07 (fun d => d.passEnd q.val false fault)

/-- OFFLINE_DECODE_START (10 R403). -/
def execOfflineDecodeStart (s : State) : Out := s.runIsland 0x07 Dev.offlineStart

/-- OFFLINE_DECODE_END (10 R400, R406 to R408): of the job a slice runs. -/
def execOfflineDecodeEnd (q : Fin 9) (fault : DecodeFault) (s : State) : Out := s.runIsland 0x07 (fun d => d.offlineEnd q.val fault)

/-- DET_FENCE_WRITE (10 R411). -/
def execDetFenceWrite (q : Fin 9) (s : State) : Out :=
  s.runCore (fun d => d.detFence q.val)

/-- DET_KAT_WRITE (10 R412). -/
def execDetKatWrite (q : Fin 9) (s : State) : Out := s.runCore (fun d => d.detKat q.val)

/-- KAT_DUE (10 R412). -/
def execKatDue (q : Fin 9) (s : State) : Out := s.runIsland 0x07 (fun d => d.katDue q.val)

/-- KAT_DONE (10 R412): right or wrong. -/
def execKatDone (q : Fin 9) (right : Bool) (s : State) : Out := s.runIsland 0x07 (fun d => d.katDone q.val right)

end Sys2Proof.Machine
end

