-- ==== Sys2Proof/Machine/Granary.lean ====
section
/-! DEFINITION. The Granary (spec/12): requests and their order, page state, pauses, patrol, migrations, the regions' orders, and
the pool's tiles. -/

namespace Sys2Proof.Machine

/-! ### Requests (12 R471 to R474) -/

def Dev.ddrRunning (d : Dev) : Bool := d.powered 8 && d.get F.DDR_STAT_STATE == ddrRun

def Dev.setQueue (d : Dev) (l : List DramReq) : Dev := { d with ddr := { d.ddr with queue := l } }

/-- Subchannel, rank, bank group, bank and row of a request. -/
def Dev.reqRow (d : Dev) (r : DramReq) : Nat × Nat × Nat × Nat × Nat :=
  let p := d.dramPlace r.addr
  (p.sc, p.rk, p.bg, p.ba, p.row)

/-- Is request `i` of the queue held back under R471 by an earlier one: the place of the first that holds it? -/
def Dev.heldBy (d : Dev) (i : Nat) : Option Nat :=
  match d.ddr.queue[i]? with
  | none => none
  | some r =>
    (List.range i).find? (fun j =>
      match d.ddr.queue[j]? with
      | some e => d.reqRow e == d.reqRow r && (e.write != r.write || (e.write && r.write))
      | none => false)

/-- May request `i` be issued: held by none, and no request of a lower class that could be issued waits (R471, R472)? -/
def Dev.mayIssue (d : Dev) (i : Nat) : Bool :=
  match d.ddr.queue[i]? with
  | none => false
  | some r =>
    (d.heldBy i).isNone && !(List.range d.ddr.queue.length).any (fun j =>
      match d.ddr.queue[j]? with
      | some e => e.cls < r.cls && (d.heldBy j).isNone
      | none => false)

/-- The number of a physical bank. -/
def bankNum (sc rank bg ba : Nat) : Nat := ((sc * 3 + rank) * 4 + ba) * 8 + bg

/-- The bank of an access: the predictor and the row it leaves (R474). -/
def Dev.touchBank (d : Dev) (p : DPlace) : Dev :=
  let n := bankNum p.sc (d.servingRank p) p.bg p.ba
  let b := (d.ddr.banks.find? (fun (x : Bank) => x.num == n)).getD { num := n }
  let same := b.last == some p.row
  let q := if same then min 3 (b.p + 1) else b.p - 1
  let more := d.ddr.queue.any (fun (r : DramReq) => let z := d.dramPlace r.addr; z.sc == p.sc && z.rk == p.rk && z.bg == p.bg && z.ba == p.ba)
  let b := { b with p := q, last := some p.row, row := if more || 2 ≤ q then some p.row else none }
  let d := { d with ddr := { d.ddr with banks := b :: d.ddr.banks.filter (fun (x : Bank) => x.num != n) } }
  if same then d.inc F.DDR_PAGE_HIT_COUNT else d.inc F.DDR_PAGE_MISS_COUNT

/-- A request is issued and completes. -/
def Dev.issueReq (d : Dev) (i : Nat) (o : DramRead) : Dev :=
  match d.ddr.queue[i]? with
  | none => d
  | some r =>
    if !d.mayIssue i then d
    else
      let d := (d.setQueue (d.ddr.queue.eraseIdx i)).touchBank (d.dramPlace r.addr)
      if r.write then d.dramWrite r.addr r.bytes else (d.dramMeet r.addr o r.cls).1

/-- Requests are accepted, and one is issued. -/
def Dev.dramRequest (d : Dev) (asks : List DramAsk) (i : Nat) (o : DramRead) : Dev :=
  if !d.ddrRunning then d
  else
    let ok := asks.filter (fun (a : DramAsk) => a.addr < d.capacity && a.addr + a.bytes.length ≤ d.capacity)
    (d.setQueue (d.ddr.queue ++ ok.map (fun (a : DramAsk) => (⟨a.cls.val, a.write, a.addr, a.bytes⟩ : DramReq)))).issueReq i o

/-- A request past its age limit moves up one class, and one that holds it rises to its class (R473). -/
def Dev.promote (d : Dev) (i : Nat) : Dev :=
  match d.ddr.queue[i]? with
  | none => d
  | some r =>
    if r.cls = 0 then d
    else
      let c := r.cls - 1
      let d := (d.setQueue (d.ddr.queue.set i { r with cls := c })).inc F.DDR_PROMOTED_COUNT
      d.each ((List.range i).filter (fun j => match d.ddr.queue[j]? with
        | some e => d.reqRow e == d.reqRow r && (e.write != r.write || e.write)
        | none => false)) (fun d j =>
          match d.ddr.queue[j]? with
          | some e => d.setQueue (d.ddr.queue.set j { e with cls := min e.cls c })
          | none => d)

/-- The rows of a rank, or of one bank of each of its groups, close (R474). -/
def Dev.closeRank (d : Dev) (sc rank : Nat) (ba : Option Nat) : Dev :=
  d.closeRows (fun n => n / 32 == sc * 3 + rank && (match ba with | some b => n / 8 % 4 == b | none => true))

/-! ### Pauses (12 R461 to R464) -/

/-- A pause of a rank: its rows close; a retraining that fails, or moves a delay too far, is a rank fault. -/
def Dev.pause (d : Dev) (sc rank : Nat) (ok : Bool) (long : Bool) : Dev :=
  let role := d.rankRole sc rank
  if !d.ddrRunning || (role != roleActive && role != roleSpare) then d
  else
    let d := (d.closeRank sc rank none).inc (if long then F.DDR_RETRAIN_LONG else F.DDR_RETRAIN_SHORT)
    if ok then d else d.rankFault sc rank 1

/-- The refresh multiplier of a rank, read at a long pause (R462, event 0x300C). -/
def Dev.refreshRate (d : Dev) (sc rank rate : Nat) : Dev :=
  let v := d.get F.DDR_REFRESH_RATE
  let at' := 6 * sc + 2 * rank
  if slice v at' 2 = rate then d
  else (d.put F.DDR_REFRESH_RATE (withSlice v at' 2 rate)).post 0x300C [sc, rank, rate]

/-! ### Patrol and migration (12 R481, R484 to R487) -/

/-- A patrol read of a line of the capacity, or of the spare's line of that place. -/
def Dev.dramPatrol (d : Dev) (x : Nat) (spare : Bool) (o : DramRead) : Dev :=
  if !d.ddrRunning || d.capacity ≤ x then d
  else if !spare then (d.dramMeet x o 3).1
  else
    let sc := (d.dramPlace x).sc
    match (List.range 3).find? (fun r => d.rankRole sc r == roleSpare) with
    | none => d
    | some r =>
      let addr := granBase + x / 64 * 64
      match o with
      | .good => d
      | .corrected s => d.correctedRead sc r s addr
      | .uncorrectable => d.uncorrectableRead sc r addr

/-- The byte of the capacity at a place (the inverse of `Dev.dramPlace`). -/
def Dev.placeAddr (d : Dev) (p : DPlace) : Nat :=
  let w := d.baBits
  let high := p.row + 65536 * p.rk
  let o := d.order (high * 2 ^ w / 2 ^ 14)
  let bg := if 2 ≤ o then p.bg ^^^ (p.row % 8) else p.bg
  let ba := if 2 ≤ o then p.ba ^^^ (p.row / 8 % 2 ^ w) else p.ba
  let low := if o % 2 = 0 then bg + 8 * p.col else p.col + 64 * bg
  128 * (low + 512 * (ba + 2 ^ w * high)) + 64 * p.sc

/-- The place of line `i` of a rank. -/
def Dev.linePlace (d : Dev) (sc rk i : Nat) : DPlace :=
  ⟨sc, i % 8, i / 512 % 2 ^ d.baBits, i / 8 % 64, i / 512 / 2 ^ d.baBits, rk⟩

/-- One line of a migration is copied; after the last the spare serves the rank's addresses (R486, R487). -/
def Dev.copyLine (d : Dev) (sc : Nat) (o : DramRead) : Dev :=
  match d.migration sc with
  | none => d
  | some m =>
    if !d.ddrRunning then d
    else
      let rk := (d.rkOf sc m.src).getD 0
      let x := d.placeAddr (d.linePlace sc rk m.lines)
      let addr := granBase + x
      let d := match o with
        | .good => d
        | .corrected s => d.correctedRead sc m.src s addr
        | .uncorrectable => (d.poisonLine x).uncorrectableRead sc m.src addr
      let m := { m with lines := m.lines + 1 }
      let d := (d.setMigs (d.ddr.migs.map (fun (e : Migration) => if e.sc == sc then m else e))).showMig m
      if m.lines < d.rankLines then d
      else
        let d := (d.setRank sc m.src roleRetired).setRank sc m.dst roleActive
        let d := { d with ddr := { d.ddr with served := (sc, rk, m.dst) :: d.ddr.served.filter (fun e => !(e.1 == sc && e.2.1 == rk)) } }
        let d := (d.setMigs (d.ddr.migs.filter (fun (e : Migration) => e.sc != sc))).put F.DDR_INT_STAT_MIG_DONE 1
        d.post 0x3008 [sc, m.src, m.dst, min m.ms 65535]

/-! ### Region orders (12 R470, R490, R499) -/

/-- A write of DDR_MAP_LO or DDR_MAP_HI: region 0 keeps order 0; regions beyond the capacity keep theirs. -/
def Dev.mapWrite (d : Dev) (high : Bool) (v : Nat) : Dev :=
  if !d.powered 8 then d.droppedWrite
  else
    let base := if high then 16 else 0
    d.each ((List.range 16).filter (fun i => base + i != 0 && (base + i) * 2 ^ 30 < d.capacity)) (fun d i =>
      d.put (orderField (base + i)) (slice v (2 * i) 2))

/-! ### Tiles (12 R492 to R496) -/

/-- A producing port writes a tile: `producer` 1 slice, 2 Porter, 3 parity engine. -/
def Dev.produce (d : Dev) (producer t off : Nat) (bytes : List Nat) : Dev :=
  if !d.powered 8 then d else (d.tileWrite producer t off bytes).1

/-- The test of a tile ends: EMPTY or RETIRED, and the writes that waited go on (R494, R496). -/
def Dev.tileTestDone (d : Dev) (t : Nat) (pass : Bool) : Dev :=
  let e := d.tile t
  if e.state != .test then d
  else
    let d := (d.setTile { e with state := if pass then .empty else .retired, held := [], next := 0 }).countTiles
    let d := if pass then d.post 0x3011 [t]
      else (d.put F.GRN_INT_STAT_RETIRED 1).post 0x3012 [t, d.get F.GRN_BAD_RETIRED]
    d.each e.held (fun d h => (d.tileWrite h.1 t h.2.1 h.2.2).1)

/-! ### The commands -/

/-- DRAM_REQUEST (12 R471 to R480): requests accepted, then the place in the queue of the one issued and what its read meets. -/
def execDramRequest (asks : List DramAsk) (i : Nat) (o : DramRead) (s : State) : Out := s.runIsland 0x0A (fun d => d.dramRequest asks i o)

/-- AGE_PROMOTION (12 R473): of the request at a place in the queue. -/
def execAgePromotion (i : Nat) (s : State) : Out := s.runIsland 0x0A (fun d => if d.ddrRunning then d.promote i else d)

/-- ROW_IDLE_PRECHARGE (12 R474): subchannel, rank, bank group, bank. -/
def execRowIdlePrecharge (sc : Fin 2) (rank : Fin 3) (bg : Fin 8) (ba : Fin 4) (s : State) : Out :=
  s.runIsland 0x0A (fun d => d.closeRows (fun n => n == bankNum sc.val rank.val bg.val ba.val))

/-- SHORT_PAUSE (12 R461, R464): `ok` is false where a delay moves too far. -/
def execShortPause (sc : Fin 2) (rank : Fin 3) (ok : Bool) (s : State) : Out := s.runIsland 0x0A (fun d => d.pause sc.val rank.val ok false)

/-- LONG_PAUSE (12 R462, R464), with the refresh multiplier read. -/
def Dev.longPauseAct (d : Dev) (sc : Fin 2) (rank : Fin 3) (ok : Bool) (rate : Fin 3) : Dev :=
  let role := d.rankRole sc.val rank.val
  if !d.ddrRunning || (role != roleActive && role != roleSpare) then d
  else (d.refreshRate sc.val rank.val rate.val).pause sc.val rank.val ok true

/-- LONG_PAUSE acts as `Dev.longPauseAct` says. -/
def execLongPause (sc : Fin 2) (rank : Fin 3) (ok : Bool) (rate : Fin 3) (s : State) : Out := s.runIsland 0x0A (fun d => d.longPauseAct sc rank ok rate)

/-- DRAM_PATROL_READ (12 R481): byte address of the line, or the spare's line at that place. -/
def execDramPatrolRead (x : Nat) (spare : Bool) (o : DramRead) (s : State) : Out := s.runIsland 0x0A (fun d => d.dramPatrol x spare o)

/-- CE_HOUR_END (12 R483): every corrected-error count of the hour restarts. -/
def execCeHourEnd (s : State) : Out :=
  s.runIsland 0x0A (fun d => d.each [0, 1] (fun d sc => d.each [0, 1, 2] (fun d r => d.put (ceField sc r) 0)))

/-- MIGRATION_LINE_COPY (12 R484 to R487). -/
def execMigrationLineCopy (sc : Fin 2) (o : DramRead) (s : State) : Out := s.runIsland 0x0A (fun d => d.copyLine sc.val o)

/-- DDR_MAP_WRITE (12 R470, R490, R499): DDR_MAP_LO or, where `high`, DDR_MAP_HI. -/
def execDdrMapWrite (high : Bool) (v : BitVec 32) (s : State) : Out := s.runWrite 8 (fun d => d.mapWrite high v.toNat)

/-- TILE_PRODUCE_WRITE (12 R492 to R494): producer less one, tile, offset, bytes. -/
def execTileProduceWrite (producer : Fin 3) (t off : Nat) (bytes : List Nat) (s : State) : Out :=
  s.runIsland 0x09 (fun d => d.produce (producer.val + 1) t off bytes)

/-- TILE_TEST_DONE (12 R496). -/
def execTileTestDone (t : Nat) (pass : Bool) (s : State) : Out := s.runIsland 0x09 (fun d => d.tileTestDone t pass)

/-- DRAM_REFRESH (12 R474): of one bank in every group of a rank, or of the whole rank. -/
def execDramRefresh (sc : Fin 2) (rank : Fin 3) (ba : Option (Fin 4)) (s : State) : Out :=
  s.runIsland 0x0A (fun d => d.closeRank sc.val rank.val (ba.map (fun b => b.val)))

end Sys2Proof.Machine
end

