-- ==== Sys2Proof/Machine/Loops.lean ====
section
/-! DEFINITION. The Loop Engines (spec/08): the block-floating control law, opening and closing, the spare's patrol. -/

namespace Sys2Proof.Machine

/-! ### Block-floating arithmetic -/

/-- `z / 2^k` rounded to the nearest, ties to even (08 R305). -/
def roundEven (z : Int) (k : Nat) : Int :=
  let p : Int := (2 ^ k : Nat)
  let q := z / p
  let r := z % p
  if p < 2 * r then q + 1 else if 2 * r = p ∧ q % 2 = 1 then q + 1 else q

/-- Does a mantissa fit 18 bits? -/
def fits18 (m : Int) : Bool := -131072 ≤ m && m ≤ 131071

/-- A stage's normalisation (08 R305, R306) of exact values `z / 2^q`: the exponent, the mantissas, whether one saturated. -/
def normalise (q : Nat) (zs : List Int) : Nat × List Int × Bool :=
  let mant := fun (x : Nat) (z : Int) => roundEven (z * (2 ^ 48 : Nat)) (q + x)
  match (List.range 64).find? (fun x => zs.all (fun z => fits18 (mant x z))) with
  | some x => (x, zs.map (mant x), false)
  | none => (63, zs.map (fun z => clampSigned 18 (mant 63 z)), true)

/-- A mantissa and exponent as an integer over 2^96: M × 2^(X - 48). -/
def bfp96 (m : Int) (x : Nat) : Int := m * (2 ^ (x + 48) : Nat)

/-- A mantissa and exponent as an integer over 2^48. -/
def bfp48 (m : Int) (x : Nat) : Int := m * (2 ^ x : Nat)

/-- A product of a coefficient and a stage value, over 2^96. -/
def bfpMul (c : Int × Nat) (m : Int) (x : Nat) : Int := c.1 * m * (2 ^ (c.2 + x) : Nat)

/-- `z / 2^q` rounded to the nearest, halves away from zero (08 R308). -/
def roundHalfAway (z : Int) (q : Nat) : Int :=
  let r : Int := ((z.natAbs * 2 + 2 ^ q) / 2 ^ (q + 1) : Nat)
  if 0 ≤ z then r else -r

/-- A role's coefficients and limits as the law reads them. -/
structure LoopSet where
  kp : Int × Nat
  ki : Int × Nat
  kd : Int × Nat
  alpha : Int × Nat
  kf : Int × Nat
  ilim : Int × Nat
  bias : Int × Nat
  ff : Nat
  vnom : Nat
  lo : Int
  hi : Int
  deriving DecidableEq, Repr

/-- What a sample leaves: I, D, the output, the clamps, the stages that saturated (bit 0 stage 1). -/
structure LoopResult where
  i : Int × Nat
  dv : Int × Nat
  y : Int
  atMax : Bool
  atMin : Bool
  sat : Nat
  deriving DecidableEq, Repr

/-- One sample of the control law (08 R305 to R308). -/
def loopLaw (c : LoopSet) (r : Role) (s m : Int) (v : Nat) : LoopResult :=
  let s1 := normalise 8 [s - m * 256, (m - r.mPrev) * 256, if c.ff = 1 then s - r.sPrev else 0]
  let g1 := fun i => at' s1.2.1 i 0
  let s2 := normalise 96 [bfpMul c.kp (g1 0) s1.1, bfpMul c.ki (g1 0) s1.1, -(bfpMul c.kd (g1 1) s1.1),
    if c.ff = 1 then bfpMul c.kf (g1 2) s1.1 else 0]
  let g2 := fun i => at' s2.2.1 i 0
  let iInc := bfp96 (g2 1) s2.1
  let iPrev := bfp96 r.i.1 r.i.2
  let lim := bfp96 c.ilim.1 c.ilim.2
  let iNew := if (r.atMax ∧ 0 < iInc) ∨ (r.atMin ∧ iInc < 0) then iPrev else clampInt (-lim) lim (iPrev + iInc)
  let dPrev := bfp96 r.dv.1 r.dv.2
  let dIn := bfp96 (g2 2) s2.1
  -- ALPHA × (d_in − D_prev) over 2^144, and D_prev brought to the same scale
  let dNew := dPrev * (2 ^ 48 : Nat) + c.alpha.1 * (2 ^ c.alpha.2 : Nat) * (dIn - dPrev)
  let s3 := normalise 144 [iNew * (2 ^ 48 : Nat), dNew]
  let g3 := fun i => at' s3.2.1 i 0
  let u := bfp48 (g2 0) s2.1 + bfp48 (g3 0) s3.1 + bfp48 (g3 1) s3.1 + bfp48 (g2 3) s2.1 + bfp48 c.bias.1 c.bias.2
  let s4 := normalise 48 [u]
  let u4 := bfp48 (at' s4.2.1 0 0) s4.1
  let u5 := if c.ff = 2 then u4 * (c.vnom * 65536 * 2 / max 1 (max (2 * v) c.vnom) : Nat) else u4 * (65536 : Nat)
  let y0 := roundHalfAway u5 64
  let bit := fun (b : Bool) (k : Nat) => if b then 2 ^ k else 0
  ⟨(g3 0, s3.1), (g3 1, s3.1), clampInt c.lo c.hi y0, c.hi < y0, y0 < c.lo,
   bit s1.2.2 0 + bit s2.2.2 1 + bit s3.2.2 2 + bit s4.2.2 3⟩

/-! ### A tick -/

def Dev.coef (d : Dev) (e m : Field) (r : Nat) : Int × Nat := (toSigned 18 (d.getI m r), d.getI e r)

def Dev.loopSet (d : Dev) (r : Nat) : LoopSet :=
  ⟨d.coef F.LPE_L_KP_EXP F.LPE_L_KP_MANT r, d.coef F.LPE_L_KI_EXP F.LPE_L_KI_MANT r, d.coef F.LPE_L_KD_EXP F.LPE_L_KD_MANT r,
   d.coef F.LPE_L_ALPHA_EXP F.LPE_L_ALPHA_MANT r, d.coef F.LPE_L_KF_EXP F.LPE_L_KF_MANT r,
   d.coef F.LPE_L_ILIM_EXP F.LPE_L_ILIM_MANT r, d.coef F.LPE_L_BIAS_EXP F.LPE_L_BIAS_MANT r,
   d.getI F.LPE_L_MODE_FF_MODE r, d.getI F.LPE_L_MODE_VNOM r,
   toSigned 16 (d.getI F.LPE_L_OUTLIM_OUT_MIN r), toSigned 16 (d.getI F.LPE_L_OUTLIM_OUT_MAX r)⟩

/-- The target of a role, 1/256 of its units (08 R296, R312): the Miller's set-point, the d-axis reference, role 0's output, the
VCM_IREF port, the set's SETPOINT. -/
def Dev.loopTarget (d : Dev) (r : Nat) : Int :=
  if r = 0 then (d.get F.MIL_TARGET_SETPOINT * 16 * 256 : Nat)
  else if r = 1 then d.mil.idRef * 256
  else if r = 2 then
    (if d.milState == milRun then clampInt (-(d.iMax : Int)) d.iMax (toSigned 16 (d.getI F.LPE_L_OUT_OUT 0)) else d.mil.iqRef) * 256
  else if r ≤ 6 then (d.shp (r - 3)).iRef * 256
  else toSigned 32 (d.getI F.LPE_L_TARGET_VALUE r)

/-- The step of the set-point in RAMPING (08 R311, R312): RAMP, or ACCEL of the Mill for role 0. -/
def Dev.loopRate (d : Dev) (r : Nat) : Int :=
  if r = 0 then (d.policy 0x1007 450 * 16 * 256 / 10000 : Nat) else (d.getI F.LPE_L_RAMP_RATE r : Nat)

/-- The measured value a producer has for a HEATER or LASER role at this tick, rounded to the nearest (09 R363, 11 R431);
none where it has no new value. -/
def Dev.producerMean (d : Dev) (r : Nat) : Option Int :=
  if r ≤ 14 then
    let f := d.fes (r - 7)
    if f.clearN = 0 then none else some (roundAway f.clearSum (f.clearN : Nat))
  else
    let c := d.wchan (r - 15)
    if c.monN = 0 then none else some (roundAway (c.monSum * 16) (c.monN : Nat))

/-- The producer's sums restart and its registers show what it delivered (09 R363, 11 R431). -/
def Dev.producerDelivered (d : Dev) (r : Nat) (m : Option Int) : Dev :=
  if r ≤ 6 then d
  else if r ≤ 14 then
    let s := r - 7
    let d := d.setFe s (fun f => { f with clearSum := 0, clearN := 0 })
    match m with
    | some v => (d.putI F.RCH_S_CLEAR_CLEARANCE s (ofSigned 16 v)).putI F.RCH_S_CLEAR_VALID s 1
    | none => d.putI F.RCH_S_CLEAR_VALID s 0
  else
    let s := r - 15
    let d := d.setWchan s { d.wchan s with monSum := 0, monN := 0 }
    match m with
    | some v => (d.putI F.WCH_W_MON_LEVEL s (ofSigned 16 v)).putI F.WCH_W_MON_VALID s 1
    | none => d.putI F.WCH_W_MON_VALID s 0

/-- The output register takes a value; a HEATER or LASER value that differs from the last sent goes to the preamp (08 R299). -/
def Dev.loopOutput (d : Dev) (r : Nat) (y : Int) : Dev :=
  let v := ofSigned 16 y
  let d := d.putI F.LPE_L_OUT_OUT r v
  if r ≤ 6 || (d.role r).sent == some v then d
  else
    let s := (r - 7) % 8
    if !d.powered (3 + s / 2) || d.on F.MOD_STAT_HARVEST then d
    else (d.setRole r (fun x => { x with sent := some v })).paQueue (s / 2) (.loopOut ((if r ≤ 14 then 7 else 9) + s % 2) (v % 4096))

/-- Saturated stages set STAT.SAT and are recorded once per close (08 R306). -/
def Dev.loopSaturation (d : Dev) (r sat : Nat) : Dev :=
  if sat = 0 then d
  else
    let d := (d.putI F.LPE_L_STAT_SAT r (d.getI F.LPE_L_STAT_SAT r ||| sat)).put F.LPE_INT_STAT_SAT 1
    if (d.role r).satSeen then d
    else (d.setRole r (fun x => { x with satSeen := true })).post 0x1306 [r, ((List.range 4).find? (fun k => sat.testBit k)).getD 0 + 1]

/-- The set-point at this tick and the state after it (08 R311). -/
def Dev.loopSetpoint (d : Dev) (r : Nat) (m : Int) : Int × Nat :=
  let t := d.loopTarget r
  let s := toSigned 32 (d.getI F.LPE_L_SETPT_VALUE r)
  let st := d.loopState r
  if st = loopPend then (256 * m, loopRamping)
  else if st = loopRamping then
    let k := d.loopRate r
    let s' := if s ≤ t then min t (s + k) else max t (s - k)
    (s', if s' = t then loopClosed else loopRamping)
  else (t, st)

/-- What an engine in the state `x` holds after a sample (08 R308 to R311), and the stages that saturated: at a close's first tick I and D are zero.
`err` is what its output is off by (log entry 141). -/
def Role.sample (x : Role) (c : LoopSet) (start : Bool) (s m : Int) (v : Nat) (err : Int) : Role × Nat :=
  let x := if start then { x with i := (0, 0), dv := (0, 0), mPrev := m, sPrev := s, atMax := false, atMin := false } else x
  let res := loopLaw c x s m v
  ({ x with i := res.i, dv := res.dv, mPrev := m, sPrev := s, atMax := res.atMax, atMin := res.atMin, next := some (res.y + err) }, res.sat)

/-- A closed role samples and computes (08 R308 to R311). -/
def Dev.loopSample (d : Dev) (r : Nat) (m : Int) (v : Nat) (err : Int) : Dev :=
  let sp := d.loopSetpoint r m
  let x := (d.role r).sample (d.loopSet r) (d.loopState r = loopPend) sp.1 m v err
  let d := d.setRole r (fun _ => x.1)
  let d := (d.putI F.LPE_L_STAT_STATE r sp.2).putI F.LPE_L_SETPT_VALUE r (ofSigned 32 sp.1)
  let d := d.flagI F.LPE_L_STAT_CLAMPED r (x.1.atMax || x.1.atMin)
  (if r ≤ 6 then d.putI F.LPE_L_TARGET_VALUE r (ofSigned 32 (d.loopTarget r)) else d).loopSaturation r x.2

/-- Does the spare patrol role `r` (08 R315)? -/
def Dev.patrols (d : Dev) (r : Nat) : Bool := d.get F.LPE_STAT_SPARE = 1 && d.get F.LPE_STAT_SPARE_ROLE = r

/-- The spare's side of a sample of the role it patrols, before the role's own (08 R315): it copies the state where it has none, else it computes on
the same inputs with its own. -/
def Dev.shadowSample (d : Dev) (r : Nat) (m : Int) (v : Nat) (err : Int) : Dev :=
  if !d.patrols r then d
  else
    let x := match d.lpe.shadow with
      | none => d.role r
      | some x => x
    let y := x.sample (d.loopSet r) (d.loopState r = loopPend) (d.loopSetpoint r m).1 m v err
    { d with lpe := { d.lpe with shadow := some y.1 } }

/-- The outputs are compared bit for bit after the sample (08 R315, R316): the period counts where they agree, and the reference computation starts
where they differ. -/
def Dev.shadowCompare (d : Dev) (r : Nat) : Dev :=
  if !d.patrols r || d.lpe.testing.isSome then d
  else
    match d.lpe.shadow with
    | none => d
    | some x =>
      if x.next.map (ofSigned 16) == (d.role r).next.map (ofSigned 16) then { d with lpe := { d.lpe with shadowTicks := d.lpe.shadowTicks + 1 } }
      else { d with lpe := { d.lpe with testing := some r } }

/-- A period of the patrolled role in which it computes nothing (08 R315): it counts; an open role's copy is taken afresh when it closes. -/
def Dev.shadowIdle (d : Dev) (r : Nat) (opened : Bool) : Dev :=
  if !d.patrols r then d
  else { d with lpe := { d.lpe with shadowTicks := d.lpe.shadowTicks + 1, shadow := if opened then none else d.lpe.shadow } }

/-- The period of VCMn_PWM that starts at a tick of roles 3 to 6 (08 R297; 21 R862): the magnitude of the output in steps of 1.25 ns, the rest
carried. -/
def Dev.vcmPeriod (d : Dev) (r : Nat) : Dev :=
  if r < 3 || 6 < r then d
  else
    let duty := (toSigned 16 (d.getI F.LPE_L_OUT_OUT r)).natAbs
    d.setRole r (fun x => let t := duty * 4000 + x.pwmCarry; { x with pwmHigh := t / 32768, pwmCarry := t % 32768 })

/-- VCMn_DIR (08 R296): the sign of the output; low while the MOTION domain is off (21). -/
def Dev.vcmDir (d : Dev) (n : Nat) : Bool := d.powered 2 && decide (toSigned 16 (d.getI F.LPE_L_OUT_OUT (3 + n)) < 0)

/-- How many of the 4,000 steps of the period VCMn_PWM is high (08 R297; 21): none while the MOTION domain is off. -/
def Dev.vcmPwm (d : Dev) (n : Nat) : Nat := if d.powered 2 then (d.role (3 + n)).pwmHigh else 0

/-- The measured value of a role at its tick (08 R296): the spindle's speed and rotor-frame currents, the sample `m` of VCMn_ISNS in mA for roles 3
to 6, what a producer has for the others. -/
def Dev.loopMeasured (d : Dev) (r : Nat) (m : Int) : Option Int :=
  match r with
  | 0 => some (d.get F.MIL_SPEED_RPM16 : Int)
  | 1 => some d.mil.idNow
  | 2 => some d.mil.iqNow
  | _ => if 7 ≤ r then d.producerMean r else some m

/-- A period tick of role `r` (08 R298, R308 to R312): the sample `m` for roles 3 to 6; `err` and `spareErr` are what the outputs of the engine in
the role and of a patrolling spare are off by, zero in sound engines. SP_VM is its latest sample. -/
def Dev.loopTick (d : Dev) (r : Nat) (m err spareErr : Int) : Dev :=
  if !d.powered 2 then d
  else
    let v := d.get F.MIL_VM_VM
    let d := if 3 ≤ r && r ≤ 6 then d.loadDrive (r - 3) m else d
    let got := d.loopMeasured r m
    let d := d.producerDelivered r got
    let st := d.loopState r
    let isOpen := st = loopOpenSt || st = loopFenced
    let d := match got with
      | none => (d.putI F.LPE_L_STAT_STALE r 1).shadowIdle r isOpen
      | some m => (d.putI F.LPE_L_STAT_STALE r 0).putI F.LPE_L_MEAS_VALUE r (ofSigned 32 m)
    let d := if isOpen then d.loopOutput r (toSigned 16 (d.getI F.LPE_L_OUT_OPEN_OUT r)) else d
    match got with
    | none => d
    | some m =>
      if isOpen then
        let d := (d.shadowIdle r true).vcmPeriod r
        if (d.role r).closeDue then d.loopClose r else d
      else
        let d := match (d.role r).next with
          | some y => d.loopOutput r y
          | none => d
        (((d.vcmPeriod r).shadowSample r m v spareErr).loopSample r m v err).shadowCompare r

/-! ### Requests, writes, the spare -/

/-- A write of CTRL for roles 0 to 6 is ignored (08 R313). -/
def Dev.ctrlIgnored (d : Dev) (r : Nat) : Dev := (d.putI F.LPE_L_STAT_WR_IGN r 1).put F.LPE_INT_STAT_WR_IGN 1

/-- A write to a register of a role, at its offset (08 R314): RWO fields take it only in OPEN or FENCED; OPEN_OUT is read-only in roles
0 to 6. -/
def Dev.coefWrite (d : Dev) (r off v : Nat) : Dev :=
  if r < 7 && off / 4 = 0x30 / 4 then d
  else
    match regFind (0x20050100 + 0x40 * r + off / 4 * 4) with
    | none => d
    | some row => d.inPower 2 (fun d =>
      let ok := d.loopState r = loopOpenSt || d.loopState r = loopFenced
      let rwo := row.1.places.any (fun p => p.access == .rwo)
      let d := d.writeRow row.1 row.2 v ok
      if rwo && !ok then (d.ctrlIgnored r).post 0x1305 [r, off / 4 * 4] else d)

/-- The spare holds no role's state. -/
def Dev.shadowDrop (d : Dev) : Dev := { d with lpe := { d.lpe with testing := none, shadow := none, shadowTicks := 0 } }

/-- The spare has finished a role's 64 shadow periods, or its role is fenced, and moves on, skipping fenced roles (08 R315). -/
def Dev.patrolComplete (d : Dev) : Dev :=
  if d.get F.LPE_STAT_SPARE != 1 || d.lpe.testing.isSome || (d.lpe.shadowTicks < 64 && !d.bit F.LPE_FENCED_MASK (d.get F.LPE_STAT_SPARE_ROLE)) then d
  else
    let d := d.shadowDrop
    let r := d.get F.LPE_STAT_SPARE_ROLE
    let ok := fun k => !d.bit F.LPE_FENCED_MASK k
    match (List.range 23).find? (fun k => r < k && ok k) with
    | some k => d.put F.LPE_STAT_SPARE_ROLE k
    | none => (d.inc F.LPE_STAT_PATROLS).put F.LPE_STAT_SPARE_ROLE (((List.range 23).find? ok).getD 0)

/-- The spare takes the role with its shadow state (08 R316); a role in RAMPING starts its soft start again from its first tick's m (R319). -/
def Dev.spareTakes (d : Dev) (r sp : Nat) : Dev :=
  let d := match d.lpe.shadow with
    | some x => d.setRole r (fun o => { o with i := x.i, dv := x.dv, mPrev := x.mPrev, sPrev := x.sPrev, atMax := x.atMax, atMin := x.atMin, next := x.next })
    | none => d
  let d := if d.loopState r = loopRamping then d.putI F.LPE_L_STAT_STATE r loopPend else d
  (d.putI F.LPE_L_STAT_PHYS r sp).put F.LPE_INT_STAT_SPARE 1

/-- The reference computation after a mismatch ends (08 R316): the spare's outcome, then the former engine's. -/
def Dev.referenceDone (d : Dev) (spareOk formerOk : Bool) : Dev :=
  match d.lpe.testing with
  | none => d
  | some r =>
    let sp := d.get F.LPE_STAT_SPARE_PHYS
    let former := d.getI F.LPE_L_STAT_PHYS r
    if !spareOk then ((d.shadowDrop.setBit F.LPE_RETIRED_MASK sp true).put F.LPE_STAT_SPARE 3).post 0x1303 [0x1F, sp]
    else
      let d := (d.spareTakes r sp).shadowDrop
      if formerOk then (d.put F.LPE_STAT_SPARE_PHYS former).post 0x1307 [r, former, sp]
      else ((d.setBit F.LPE_RETIRED_MASK former true).put F.LPE_STAT_SPARE 2).post 0x1302 [r, former, 1]

/-! ### The commands -/

/-- LOOP_TICK (08 R298, R305 to R312, R315). -/
def execLoopTick (r : Fin 23) (m err spareErr : Int) (s : State) : Out :=
  s.runIsland 0x05 (fun d => d.loopTick r.val m err spareErr)

/-- A write of 1 to a role's CTRL.CLOSE, or CTRL.OPEN: roles 0 to 6 are the Shepherds' and the Mill's (08 R313). -/
def Dev.ctrlClose (d : Dev) (r : Nat) : Dev := d.inPower 2 (fun d => if r ≤ 6 then d.ctrlIgnored r else d.loopClose r)
def Dev.ctrlOpen (d : Dev) (r : Nat) : Dev := d.inPower 2 (fun d => if r ≤ 6 then d.ctrlIgnored r else d.loopOpen r)

/-- LOOP_CLOSE_REQUEST (08 R311, R313, R319): from the owner, or by a write of CTRL.CLOSE. -/
def execLoopCloseRequest (r : Fin 23) (byCtrl : Bool) (s : State) : Out :=
  s.runCore (fun d => if byCtrl then d.ctrlClose r.val else d.loopClose r.val)

/-- LOOP_OPEN_REQUEST (08 R311, R313). -/
def execLoopOpenRequest (r : Fin 23) (byCtrl : Bool) (s : State) : Out :=
  s.runCore (fun d => if byCtrl then d.ctrlOpen r.val else d.loopOpen r.val)

/-- LPE_COEF_WRITE (08 R304, R314): the register offset in the role and the value. -/
def execLpeCoefWrite (r : Fin 23) (off : Fin 64) (v : BitVec 32) (s : State) : Out :=
  s.runCore (fun d => d.coefWrite r.val off.val v.toNat)

/-- PATROL_COMPLETE (08 R315). -/
def execPatrolComplete (s : State) : Out := s.runIsland 0x05 Dev.patrolComplete

/-- REFERENCE_TEST_DONE (08 R316). -/
def execReferenceTestDone (spareOk formerOk : Bool) (s : State) : Out := s.runIsland 0x05 (fun d => d.referenceDone spareOk formerOk)

end Sys2Proof.Machine
end

