-- ==== Sys2Proof/Machine/Porter.lean ====
section
/-! DEFINITION. The Porter (spec/14): channels started, aborted and stalled, the four instructions, bursts, the software lines. -/

namespace Sys2Proof.Machine

/-! ### Fetch and decode (14 R547, R552 to R562) -/

/-- The eight words at a channel's PC: none where the fetch fails. -/
def Dev.porFetch (d : Dev) (c : Nat) (o : DramRead) (word : Ecc) : Dev × Option (List Nat) :=
  let pc := d.porPc c
  if !d.reachable pc 32 then (d, none)
  else
    let r := if granBase ≤ pc then d.dramMeet (pc - granBase) o 2 else d.sramCheck pc 32 word
    if r.2 then (r.1, none)
    else
      let b := r.1.busRead pc 32
      (r.1, some ((List.range 8).map (fun i => leAt b (4 * i) 4)))

/-- The MOVE of eight words, its addresses formed (R552, R553). -/
def Dev.porMove (d : Dev) (c : Nat) (w : List Nat) : Move :=
  let w0 := pw w 0
  let ind := fun (on : Bool) (p a : Nat) => if on then (d.porParam c p + a) % 2 ^ 64 else a
  { srcSpace := slice w0 22 2, dstSpace := slice w0 20 2,
    src := ind (w0.testBit 12) (slice w0 9 3) (pw w 2 + pw w 3 * 2 ^ 32),
    dst := ind (w0.testBit 8) (slice w0 5 3) (pw w 4 + pw w 5 * 2 ^ 32),
    seq := pw w 6 + pw w 7 * 2 ^ 32, length := slice (pw w 1) 0 25, req := slice w0 14 6, paced := w0.testBit 13, barrier := w0.testBit 27 }

/-- Does a range of internal addresses touch the tile pool? -/
def Dev.inPool (d : Dev) (a n : Nat) : Bool :=
  let lo := granBase + d.tileBase 0
  a < lo + 4096 * d.poolTiles && lo < a + n

/-- Does an instruction end its channel BAD_INSTR (R554, R562)? -/
def Dev.badInstr (d : Dev) (c : Nat) (w : List Nat) : Bool :=
  let w0 := pw w 0
  if 3 < pwOp w || pwReserved w then true
  else if pwOp w = 0 then
    let m := d.porMove c w
    1 < m.srcSpace || 2 < m.dstSpace || 48 ≤ m.req || (m.srcSpace = 1 && m.dstSpace = 1) || m.length = 0 || 2 ^ 24 < m.length ||
      (m.dstSpace = 2 && (m.length != 4096 || m.srcSpace != 0 || w0.testBit 8 || m.src % 4096 != 0 || !d.inPool m.src 4096))
  else if pwOp w = 1 then slice (pw w 1) 0 16 = 0 || slice (pw w 1) 16 16 = 0
  else if pwOp w = 2 then slice w0 22 2 = 3 || 48 ≤ slice w0 14 6
  else false

/-- A channel in RUN with no instruction in progress fetches its next one; `act` runs it where it is of the kind `op`, and any of the
four rows ends a channel whose instruction cannot be fetched or is bad. A row of another kind than the instruction changes
nothing. -/
def Dev.porStep (d : Dev) (c op : Nat) (o : DramRead) (word : Ecc) (act : Dev → List Nat → Dev) : Dev :=
  let x := d.pch c
  if d.porState c != porRun || x.move.isSome || x.wait.isSome then d
  else if !d.domainUp (addrDomain (d.porPc c)) then d.porPause c (addrDomain (d.porPc c))
  else
    let r := d.porFetch c o word
    match r.2 with
    | none => r.1.porError c 4 (d.porPc c)
    | some w =>
      if d.badInstr c w then r.1.porError c 5 (d.porPc c)
      else if pwOp w != op then d
      else act r.1 w

/-! ### MOVE (R552 to R557, R568 to R571) -/

/-- A MOVE begins: alignment in the pool, overlap, the first burst. -/
def Dev.moveStart (d : Dev) (c : Nat) (w : List Nat) : Dev :=
  let m := d.porMove c w
  let srcPool := m.srcSpace = 0 && d.inPool m.src m.length
  let dstPool := m.dstSpace = 0 && d.inPool m.dst m.length
  let odd := fun a => a % 4096 != 0 || m.length % 4096 != 0
  if srcPool && odd m.src then d.porError c 11 m.src
  else if dstPool && odd m.dst then d.porError c 11 m.dst
  else
    let overlap := m.srcSpace = 0 && m.dstSpace = 0 && m.src < m.dst + m.length && m.dst < m.src + m.length
    let down := overlap && m.src < m.dst
    let m := { m with down := down, staged := (srcPool && m.dstSpace != 2) || (overlap && dstPool) }
    let d := if overlap then
        ((d.putI F.POR_C_STAT_OVERLAP_SEEN c 1).flagI F.POR_C_STAT_DIR c down).post 0x3207 [c, down.toNat, m.length]
      else d
    let d := (d.putI F.POR_C_REMAIN_REMAIN c m.length).setPch c (fun x => { x with
      move := some m, claimed := false, last := pwEnd w, stage := [] })
    d.issueBurst c

/-- Bytes of internal memory read by a burst: true where the reader receives POISON or an uncorrectable error. -/
def Dev.porRead (d : Dev) (a n cls : Nat) (x : BurstEnd) : Dev × Bool × List Nat :=
  if a + n ≤ 0x40000 then (d, false, (List.range n).map (fun i => Config.bootRom (a + i) % 256))
  else if granBase ≤ a then
    let r := d.linesMeet (a - granBase) n x.dram cls
    (r.1, r.2, if r.2 then [] else r.1.granRead (a - granBase) n)
  else
    let r := d.sramCheck a n x.word
    (r.1, r.2, r.1.sramRead a n)

/-- A unit of a staged MOVE is read whole into the staging buffer, a checked use where it is a tile: the status that ends the
channel, or none. -/
def Dev.stageUnit (d : Dev) (c : Nat) (m : Move) (u : Nat) (x : BurstEnd) : Dev × Option Nat :=
  let a := m.srcAt (4096 * u)
  let keep := fun (d : Dev) (b : List Nat) => d.setPch c (fun y => { y with stage := b })
  match (if granBase ≤ a then d.tileOf (a - granBase) else none) with
  | some t =>
    let r := d.linesMeet (a - granBase) 4096 x.dram m.cls
    let g := r.1.tileUse t 1 (x.intact && !r.2)
    match g.2 with
    | .good => (keep g.1 (g.1.tileBytes t), none)
    | .notSealed => (g.1, some 8)
    | .mismatch => (g.1, some 9)
  | none =>
    let r := d.porRead a 4096 m.cls x
    if r.2.1 then (r.1, some 6) else (keep r.1 r.2.2, none)

/-- Bytes already sent to the host from a tile that fails its check are undefined (R571): free values. -/
def Dev.hostUndefined (d : Dev) (a n : Nat) : Dev :=
  d.each (List.range n) (fun d i => let v := d.fresh; v.2.hostWrite (a + i) [v.1 % 256])

/-- The bytes of a burst are written: true where they are refused (R571, 12 R493). -/
def Dev.porWrite (d : Dev) (m : Move) (b : Burst) (bytes : List Nat) : Dev × Bool :=
  let a := m.dstAt b.off
  if m.dstSpace = 1 then (d.hostWrite a bytes, false)
  else if granBase ≤ a then
    match d.tileOf (a - granBase) with
    | some t => let r := d.tileWrite prodPorter t ((a - granBase) % 4096) bytes; (r.1, !r.2)
    | none =>
      if d.inSideTable (a - granBase) || d.inSideTable (a - granBase + bytes.length - 1) then
        (d.writeRefused ((a - granBase - d.get F.GRN_SIDE_BASE_TILES * 4096) / 16) 1, true)
      else (d.busWrite a bytes, false)
  else (d.busWrite a bytes, false)

/-- A burst's writes are done: the MOVE goes on, or is complete. -/
def Dev.burstEnds (d : Dev) (c : Nat) (m : Move) (n : Nat) : Dev :=
  let d := ((d.subI F.POR_C_REMAIN_REMAIN c n).addI F.POR_C_MOVED_MOVED c n).setPch c (fun x => { x with
    wait := none, claimed := false, outstanding := true })
  let d := d.setPor c porRun
  if d.remain c = 0 then d.instrEnds c (d.porPc c + 32) m.barrier (d.pch c).last else d.issueBurst c

/-- The source tile of a MOVE to a write channel, as its first burst finds it: a tile produced anew meanwhile changes nothing for this use
(12 R498, R571). -/
def Dev.sectorUse (d : Dev) (c : Nat) (m : Move) (x : BurstEnd) : Dev :=
  let t := (d.tileOf (m.src - granBase)).getD 0
  let r := d.linesMeet (m.src - granBase) 4096 x.dram m.cls
  let u := r.1.tileUse t 0 (x.intact && !r.2)
  u.1.setPch c (fun y => { y with stage := u.1.tileBytes t, checked := u.2 == .good })

/-- A whole sector has come to a write channel: its claims on the room end, and it is placed there (R554, R564, R571; 11 R421). -/
def Dev.sectorArrives (d : Dev) (c : Nat) (m : Move) : Dev :=
  let s := m.channel
  let d := { d with por := { d.por with claims := d.por.claims.set s (at' d.por.claims s 0 - 16) } }
  let tile := (d.tileOf (m.src - granBase)).getD 0
  match d.nextSector s with
  | none => d
  | some x => d.placeSector s x { x with tile := tile, tag := m.dst % 2 ^ 48, seq := m.seq % 2 ^ 48 } (d.pch c).checked (d.pch c).stage

/-- A burst of a sector takes room of its channel, whichever line paced it (R564). -/
def Dev.sectorRoom (d : Dev) (m : Move) : Dev :=
  let s := m.channel
  if m.paced && m.req = s then d else { d with por := { d.por with claims := d.por.claims.set s (at' d.por.claims s 0 + 1) } }

/-- Must a burst still wait for its destination: a tile in TEST (12 R494), or no free sector buffer? -/
def Dev.dstBusy (d : Dev) (m : Move) (b : Burst) : Bool :=
  if m.dstSpace = 0 then
    granBase ≤ m.dstAt b.off && (match d.tileOf (m.dstAt b.off - granBase) with | some t => (d.tile t).state == .test | none => false)
  else m.dstSpace = 2 && d.getI F.WCH_W_STAT_BUFFERS m.channel == 3

/-- The data of a channel's burst come, and its writes are performed (R556, R571, R572, R575). -/
def Dev.burstDone (d : Dev) (c : Nat) (x : BurstEnd) : Dev :=
  match (d.pch c).move with
  | none => d
  | some m =>
    let b := d.burstOf m (d.remain c)
    let host := m.srcSpace = 1 || m.dstSpace = 1
    if (d.pch c).wait != some .data || d.porState c = porPaused || (d.dstBusy m b && !(host && x.hostError)) then d
    else
      let d := if d.porState c = porStalled then (let v := d.fresh; v.2.post 0x3204 [c, v.1]) else d
      if host && x.hostError then d.porError c 10 (if m.srcSpace = 1 then m.srcAt b.off else m.dstAt b.off)
      else if m.dstSpace = 2 then
        let d := if d.remain c = m.length then d.sectorUse c m x else d
        let d := d.sectorRoom m
        (if d.remain c = b.n then d.sectorArrives c m else d).burstEnds c m b.n
      else if m.staged then
        let r := if b.inUnit = 0 then d.stageUnit c m b.unit x else (d, none)
        match r.2 with
        | some st =>
          let d := if st = 9 && m.dstSpace = 1 then
              ((r.1.hostUndefined (m.dstAt b.off) 4096).subI F.POR_C_REMAIN_REMAIN c 4096).addI F.POR_C_MOVED_MOVED c 4096
            else r.1
          d.porError c st (m.srcAt (4096 * b.unit))
        | none =>
          let w := r.1.porWrite m b (((r.1.pch c).stage.drop b.inUnit).take b.n)
          if w.2 then w.1.porError c 7 (m.dstAt b.off) else w.1.burstEnds c m b.n
      else
        let r := if m.srcSpace = 1 then (d, false, (List.range b.n).map (fun i => at' x.host i 0 % 256)) else d.porRead (m.srcAt b.off) b.n m.cls x
        if r.2.1 then r.1.porError c 6 (m.srcAt b.off)
        else
          let w := r.1.porWrite m b r.2.2
          if w.2 then w.1.porError c 7 (m.dstAt b.off) else w.1.burstEnds c m b.n

/-! ### LOOP, WAIT, SIGNAL (R558 to R561) -/

def Dev.loopAct (d : Dev) (c : Nat) (w : List Nat) : Dev :=
  let w0 := pw w 0
  let f := if w0.testBit 23 then F.POR_C_LOOPS_LC1 else F.POR_C_LOOPS_LC0
  let p := 8 * c + slice w0 19 3
  let v := d.getI f c
  let v := (if v = 0 then slice (pw w 1) 0 16 else v) - 1
  let d := d.putI f c v
  let pc := d.porPc c
  if v = 0 then d.instrEnds c (pc + 32) false (pwEnd w)
  else
    let q := ofSigned 64 ((d.porParam c (slice w0 19 3) : Int) + toSigned 32 (pw w 2))
    let d := if w0.testBit 22 then (d.putI F.POR_C_PARAM_LO_VALUE p q).putI F.POR_C_PARAM_HI_VALUE p (q / 2 ^ 32) else d
    d.instrEnds c (ofSigned 40 ((pc : Int) - 32 * (slice (pw w 1) 16 16 : Nat))) false (pwEnd w)

def Dev.waitAct (d : Dev) (c : Nat) (w : List Nat) : Dev :=
  let w0 := pw w 0
  let k := slice w0 22 2
  let req := slice w0 14 6
  let on := if k = 0 then PWait.line req else if k = 1 then .counter (slice w0 10 4) (pw w 1) else .time (pw w 1)
  let d := d.setPch c (fun x => { x with wait := some on, last := pwEnd w, held := false })
  match d.tryWait c with
  | some d => d
  | none => (if k = 0 then d.putI F.POR_C_STAT_LINE c req else d).setPor c porWait

def Dev.signalAct (d : Dev) (c : Nat) (w : List Nat) : Dev :=
  let w0 := pw w 0
  let d := if w0.testBit 19 then d.incI F.POR_EVCNT_COUNT (slice w0 20 4) else d
  let d := if w0.testBit 18 then d.porChInt c else d
  let d := if w0.testBit 17 then
      let d := d.putI F.POR_C_NOTIFY_VALUE c (pw w 1)
      if d.bit F.POR_OWNER_DROVER c then d else d.porChInt c
    else d
  d.instrEnds c (d.porPc c + 32) false (pwEnd w)

/-! ### Waits, stalls, aborts (R573 to R576, R581) -/

/-- What a channel waits for arrives; `left` is the room a Drover line still stands for after it. -/
def Dev.waitSatisfied (d : Dev) (c left : Nat) : Dev :=
  let st := d.porState c
  let d := match (d.pch c).wait with
    | some (.line n) => if 8 ≤ n && n < 16 then { d with por := { d.por with room := d.por.room.set (n - 8) (left + 1) } } else d
    | _ => d
  if st = porPaused then d.setPch c (fun x => { x with held := true })
  else if st = porWait || st = porStalled then
    match (d.setPch c (fun x => { x with held := true })).tryWait c with
    | none => d
    | some e => if st = porStalled then (let v := e.fresh; v.2.post 0x3204 [c, v.1]) else e
  else d

/-- The watchdog of a channel expires (R573, R574, event 0x3203). -/
def Dev.porWatchdog (d : Dev) (c : Nat) : Dev :=
  let cause := match (d.pch c).wait with
    | some (.line _) => some 0
    | some (.counter _ _) => some 1
    | some .data => some 2
    | _ => none
  match cause with
  | none => d
  | some k =>
    if d.porState c != porWait then d
    else ((d.setPor c porStalled).porChInt c).post 0x3203 [c, d.getI F.POR_C_STAT_LINE c, d.remain c, k]

/-- An ABORT (R576): what a burst has not written stays unwritten. -/
def Dev.porAbort (d : Dev) (c : Nat) : Dev := if d.porRests c then d else d.porEnd c 1

/-! ### Registers (R551, R564, R580, R582) -/

/-- RESUMABLE, IRQ_DONE and PRIO of a CTRL value. -/
def Dev.ctrlOpts (d : Dev) (c v : Nat) : Dev :=
  ((d.putI F.POR_C_CTRL_RESUMABLE c (slice v 5 1)).putI F.POR_C_CTRL_IRQ_DONE c (slice v 4 1)).putI F.POR_C_CTRL_PRIO c (slice v 0 2)

/-- A write of RWO fields is ignored (event 0x3209). -/
def Dev.rwoIgnored (d : Dev) (c off : Nat) : Dev := (d.porIgnored c).post 0x3209 [c, off, d.porState c]

/-- GO is written: the channel starts at PC if the owner permits. -/
def Dev.porGo (d : Dev) (c : Nat) (byCore : Bool) : Dev :=
  if !d.porRests c || (byCore && d.bit F.POR_OWNER_DROVER c) then d.porIgnored c
  else
    let d := ((d.setPor c porRun).putI F.POR_C_STAT_OVERLAP_SEEN c 0).putI F.POR_C_MOVED_MOVED c 0
    let d := (d.putI F.POR_C_LOOPS_LC0 c 0).putI F.POR_C_LOOPS_LC1 c 0
    d.setPch c (fun x => { x with move := none, wait := none, claimed := false, held := false, paused := none, last := false })

/-- A write of POR_Cc_CTRL: the options while IDLE or DONE (at other times every write of them is ignored, whatever it carries: 00 R7), ABORT,
GO. -/
def Dev.ctrlWrite (d : Dev) (c v : Nat) (byCore : Bool) : Dev :=
  let rests := d.porRests c
  let d := if rests then d.ctrlOpts c v else d.rwoIgnored c 0
  let d := if v.testBit 31 then d.porGo c byCore else d
  if v.testBit 30 && !rests then d.porAbort c else d

/-- A write of a channel's PC, watchdog or parameter registers, at its offset in the channel. -/
def Dev.chanWrite (d : Dev) (c off v : Nat) : Dev :=
  if off = 0 then d.ctrlWrite c v true
  else if off = 4 then (if v.testBit 31 then d.putI F.POR_C_STAT_WR_IGN c 0 else d)
  else if !(off = 0x08 || off = 0x0C || off = 0x10 || (0x40 ≤ off && off < 0x80 && off % 4 = 0)) then d
  else if !d.porRests c then d.rwoIgnored c off
  else if off = 0x08 then d.putI F.POR_C_PC_LO_PC c (v / 32)
  else if off = 0x0C then d.putI F.POR_C_PC_HI_PC c v
  else if off = 0x10 then (if slice v 0 20 = 0 || 1000000 < slice v 0 20 then d else d.putI F.POR_C_WDOG_US c (slice v 0 20))
  else
    let p := 8 * c + (off - 0x40) / 8
    if off % 8 = 0 then d.putI F.POR_C_PARAM_LO_VALUE p v else d.putI F.POR_C_PARAM_HI_VALUE p v

/-- A write of POR_SWREQ (R564). -/
def Dev.swreqWrite (d : Dev) (v : Nat) : Dev :=
  d.each ((List.range 32).filter (fun i => v.testBit i)) (fun d i =>
    if at' d.por.sw i 0 = 255 then (d.put F.POR_INT_STAT_OVERFLOW 1).post 0x3208 [16 + i]
    else d.setSw i (at' d.por.sw i 0 + 1))

/-- A write of POR_OWNER (R551). -/
def Dev.ownerWrite (d : Dev) (v : Nat) : Dev :=
  d.each ((List.range 32).filter d.porRests) (fun d c => d.setBit F.POR_OWNER_DROVER c (v.testBit c))

/-- A completion timeout of a host read (R572; 15 R585). -/
def Dev.hostTimeout (d : Dev) (c : Nat) : Dev :=
  match (d.pch c).move with
  | some m =>
    if m.srcSpace = 1 && (d.pch c).wait == some .data && !d.hif.noTimeout && d.porState c != porPaused then
      d.porError c 10 (m.srcAt (d.burstOf m (d.remain c)).off)
    else d
  | none => d

/-! ### The commands -/

/-- PORTER_GO (14 R580, R551): the value of CTRL written with GO; `byCore` where a Reeve core writes it. -/
def execPorterGo (c : Fin 32) (byCore : Bool) (v : BitVec 30) (s : State) : Out :=
  s.runCore (fun d => d.ctrlWrite c.val (2 ^ 31 + v.toNat) byCore)

/-- PORTER_ABORT (14 R576, R581): the value of CTRL written with ABORT. -/
def execPorterAbort (c : Fin 32) (v : BitVec 30) (s : State) : Out := s.runCore (fun d => d.ctrlWrite c.val (2 ^ 30 + v.toNat) true)

/-- PORTER_MOVE (14 R547, R552 to R557, R568 to R572): what the fetch's Granary line and SRAM words meet. -/
def execPorterMove (c : Fin 32) (o : DramRead) (word : Ecc) (s : State) : Out :=
  s.runIsland 0x0D (fun d => d.porStep c.val 0 o word (fun d w => d.moveStart c.val w))

/-- PORTER_LOOP (14 R558). -/
def execPorterLoop (c : Fin 32) (o : DramRead) (word : Ecc) (s : State) : Out :=
  s.runIsland 0x0D (fun d => d.porStep c.val 1 o word (fun d w => d.loopAct c.val w))

/-- PORTER_WAIT (14 R559, R564). -/
def execPorterWait (c : Fin 32) (o : DramRead) (word : Ecc) (s : State) : Out :=
  s.runIsland 0x0D (fun d => d.porStep c.val 2 o word (fun d w => d.waitAct c.val w))

/-- PORTER_SIGNAL (14 R560). -/
def execPorterSignal (c : Fin 32) (o : DramRead) (word : Ecc) (s : State) : Out :=
  s.runIsland 0x0D (fun d => d.porStep c.val 3 o word (fun d w => d.signalAct c.val w))

/-- PORTER_BURST_DONE (14 R556, R564, R565, R571, R572, R575). -/
def execPorterBurstDone (c : Fin 32) (x : BurstEnd) (s : State) : Out := s.runIsland 0x0D (fun d => d.burstDone c.val x)

/-- PORTER_WAIT_SATISFIED (14 R559, R575, R581): `left` is the room a Drover line still stands for. -/
def execPorterWaitSatisfied (c : Fin 32) (left : Nat) (s : State) : Out := s.runIsland 0x0D (fun d => d.waitSatisfied c.val left)

/-- PORTER_BARRIER_MET (14 R561, R565, R566). -/
def Dev.porterBarrierMetAct (d : Dev) (c : Fin 32) : Dev :=
  if (d.pch c.val).wait != some .barrier then d
  else if d.porState c.val = porPaused then d.setPch c.val (fun x => { x with held := true })
  else d.barrierMet c.val

/-- PORTER_BARRIER_MET acts as `Dev.porterBarrierMetAct` says. -/
def execPorterBarrierMet (c : Fin 32) (s : State) : Out := s.runIsland 0x0D (fun d => d.porterBarrierMetAct c)

/-- PORTER_WATCHDOG (14 R573, R574). -/
def execPorterWatchdog (c : Fin 32) (s : State) : Out := s.runIsland 0x0D (fun d => d.porWatchdog c.val)

/-- POR_SWREQ_WRITE (14 R564). -/
def execPorSwreqWrite (v : BitVec 32) (s : State) : Out := s.runCore (fun d => d.swreqWrite v.toNat)

/-- POR_OWNER_WRITE (14 R551). -/
def execPorOwnerWrite (v : BitVec 32) (s : State) : Out := s.runCore (fun d => d.ownerWrite v.toNat)

/-- PORTER_RWO_WRITE (14 R582): the offset in the channel's registers and the value. -/
def execPorterRwoWrite (c : Fin 32) (off : Fin 128) (v : BitVec 32) (s : State) : Out := s.runCore (fun d => d.chanWrite c.val off.val v.toNat)

/-- COMPLETION_TIMEOUT (14 R572; 15 R585). -/
def execCompletionTimeout (c : Fin 32) (s : State) : Out := s.runIsland 0x0D (fun d => d.hostTimeout c.val)

end Sys2Proof.Machine
end

