-- ==== Sys2Proof/Machine/ReadFrontEnd.lean ====
section
/-! DEFINITION. The read front end (spec/09): a stream unit's seeding, its acquisition of a sector's timing, its adaptive loops,
flags, servo windows, and the faults that fence a stream. -/

namespace Sys2Proof.Machine

/-! ### Seeding (09 R354 to R361) -/

/-- The heads fitted in the order of their numbers (09 R357). -/
def Dev.headsByNumber (d : Dev) : List Nat := (List.range 32).filter (fun h => h / 8 < d.actuators && h % 8 < d.headsOn (h / 8))

def Dev.seedBase (d : Dev) : Nat := d.get F.RCH_SEED_BASE_HI_ADDR * 2 ^ 32 + d.get F.RCH_SEED_BASE_LO_ADDR

/-- The 96-byte zone entry of a head and zone in the seed table (09 R357, R360). -/
def Dev.seedZone (d : Dev) (h z : Nat) : List Nat :=
  d.granRead (d.seedBase - granBase + 96 * (d.headsByNumber.findIdx (fun x => x == h) * d.zoneCount + z)) 96

/-- The 16-byte loop entry of a head (09 R357, R359). -/
def Dev.seedLoops (d : Dev) (h : Nat) : List Nat :=
  let n := d.headsByNumber.length
  d.granRead (d.seedBase - granBase + 96 * (n * d.zoneCount) + 16 * d.headsByNumber.findIdx (fun x => x == h)) 16

/-- MU, TLOOP and TADET from a head's loop entry (09 R355, R359). -/
def Dev.seedFromLoops (d : Dev) (s : Nat) (e : List Nat) : Dev :=
  let b := fun i => at' e i 0
  let d := (((d.putI F.RCH_S_MU_MU_F s (b 0)).putI F.RCH_S_MU_MU_G s (b 1)).putI F.RCH_S_MU_MU_O s (b 2)).putI F.RCH_S_MU_MU_A s (b 3)
  let d := (((d.putI F.RCH_S_TLOOP_KP_ACQ s (b 4)).putI F.RCH_S_TLOOP_KI_ACQ s (b 5)).putI F.RCH_S_TLOOP_KP_TRK s (b 6)).putI F.RCH_S_TLOOP_KI_TRK s (b 7)
  (((d.putI F.RCH_S_TLOOP_LOCK_THR s (leAt e 8 2)).putI F.RCH_S_TADET_TA_THR s (b 10)).putI F.RCH_S_TADET_DEF_THR s (b 11)).putI
    F.RCH_S_TADET_FLAG_MAX s (leAt e 12 2)

/-- The adaptive values, the filters, the target and the clearance constants from a zone entry (09 R354, R360; event 0x2001). -/
def Dev.seedFromZone (d : Dev) (s h z : Nat) (e : List Nat) : Dev :=
  let b := fun i => at' e i 0
  let d := d.putAdaptive s ⟨[b 0, b 1], [b 4, b 5], [b 6, b 7], (List.range 16).map (fun i => leAt e (0x10 + 2 * i) 2),
    (List.range 16).map (fun i => leAt e (0x30 + 2 * i) 2)⟩
  let d := d.each [0, 1] (fun d l => (d.putI F.RCH_S_LANE_AFE_CUT (2 * s + l) (b (2 + l) / 16)).putI F.RCH_S_LANE_AFE_BOOST (2 * s + l) (b (2 + l) % 16))
  let d := (((d.putI F.RCH_S_TARGET0_G0 s (b 10)).putI F.RCH_S_TARGET0_G1 s (b 11)).putI F.RCH_S_TARGET0_G2 s (b 12)).putI F.RCH_S_TARGET0_G3 s (b 13)
  let d := (d.putI F.RCH_S_TARGET1_G4 s (b 14)).putI F.RCH_S_TARGET1_MAIN s (b 8)
  let d := (d.putI F.RCH_S_ZONE_HEAD s h).putI F.RCH_S_ZONE_ZONE s z
  let d := (d.putI F.RCH_S_BPW_BPW s (d.zone z).bpw).setFe s (fun f => { f with
    seedDue := false, gRef := b 0x50, kc := leAt e 0x52 2, cRef := leAt e 0x54 2, powA := [], powB := [] })
  d.post 0x2001 [s, h, z, if d.hasSect 0x20 h then 0 else 1]

/-- What is due at a sector start: a restore, the loop values, the zone values (09 R354 to R356, R368). -/
def Dev.sectorSeeds (d : Dev) (s h track : Nat) : Dev :=
  let z := d.zoneOf track
  let d := match (d.fes s).restoreDue with
    | some c => d.restoreSnap s c
    | none => d
  let d := if (d.fes s).loopDue then (d.seedFromLoops s (d.seedLoops h)).setFe s (fun f => { f with loopDue := false }) else d
  let f := d.fes s
  if f.seedDue || d.getI F.RCH_S_ZONE_HEAD s != h || d.getI F.RCH_S_ZONE_ZONE s != z || f.step = 2 then d.seedFromZone s h z (d.seedZone h z) else d

/-! ### Samples and errors -/

/-- A stream unit's values as its arithmetic reads them. -/
structure Unit where
  ha : List Int
  hb : List Int
  g : List Int
  main : Nat
  deriving DecidableEq, Repr

/-- The taps and the target; a rung 1 step 6 or 7 holds one lane's taps at zero (10 R404). -/
def Dev.unit (d : Dev) (s : Nat) : Unit :=
  let step := (d.fes s).step
  let tap := fun (f : Field) => (List.range 16).map (fun i => toSigned 10 (d.getI f (16 * s + i)))
  ⟨if step = 7 then List.replicate 16 0 else tap F.RCH_S_TAP_TAP_A, if step = 6 then List.replicate 16 0 else tap F.RCH_S_TAP_TAP_B,
   d.target5 s, d.getI F.RCH_S_TARGET1_MAIN s⟩

/-- y of R337 from the codes of both lanes, the newest first, truncated toward zero and saturated to 10 bits (R340). -/
def eqOut (u : Unit) (a b : List Int) : Int :=
  clampSigned 10 (((List.range 16).foldl (fun (z : Int) i => z + intAt u.ha i * intAt a i + intAt u.hb i * intAt b i) 0).tdiv 256)

/-- Tangents of the bounds between the 256 parts of a circle in its first octant, times 2^40. -/
def tanBounds : List Nat :=
  [13493715087, 40497411280, 67549984031, 94684280215, 121933543295, 149331577682, 176912918942, 204713011702,
   232768397233, 261116912889, 289797905788, 318852463403, 348323664046, 378256850668, 408699931828, 439703714309,
   471322272536, 503613360779, 536638875159, 570465373672, 605164663922, 640814470055, 677499192566, 715310777305,
   754349713316, 794726183181, 836561394571, 879989127962, 925157543377, 972231298875, 1021394046121, 1072851384433]

/-- The angle of a vector in 256ths of a circle, to the nearest (R349). -/
def angle256 (i q : Int) : Nat :=
  let x := i.natAbs
  let y := q.natAbs
  let oct := fun (small big : Nat) => (tanBounds.filter (fun t => t * big < small * 2 ^ 40)).length
  let first := if y ≤ x then oct y x else 64 - oct x y
  let a := if 0 ≤ i then (if 0 ≤ q then first else 256 - first) else (if 0 ≤ q then 128 - first else 128 + first)
  a % 256

/-- The zero-phase start of R349 from z of eight bits: the whole UI by which the 2T pattern lies off, and φ in 1/64 UI, from -32 to 31. -/
def phaseSet (g : List Int) (z : List Int) : Nat × Int :=
  let iq := fun (x : Nat → Int) => ((x 0 - x 2) + (x 4 - x 6), (x 1 - x 3) + (x 5 - x 7))
  let m := iq (intAt z)
  let r := iq (preIdeal g)
  let t := angle256 (m.1 * r.1 + m.2 * r.2) (m.2 * r.1 - m.1 * r.2)
  ((t + 32) / 64 % 4, ((t : Int) + 32) % 64 - 32)

/-- F in 2^-24 UI a bit and φ in 2^-24 UI after a bit of the timing loop (R350, R351): F is clamped, φ kept within one UI. -/
def loopBit (kp ki : Nat) (delta f phi : Int) : Int × Int :=
  let f := clampInt (-16777) 16777 (f + delta.tdiv (2 ^ ki : Nat))
  (f, (phi + f + (delta * 2 ^ 18).tdiv (2 ^ kp : Nat)).tmod (2 ^ 24))

/-! ### The adaptive loops (R342, R343) -/

/-- A value at its range limit: the loop and lane of event 0x2006. -/
def Dev.rangeReseed (d : Dev) (s loop lane : Nat) : Dev :=
  ((d.setFe s (fun f => { f with seedDue := true })).put F.RCH_INT_STAT_RANGE 1).post 0x2006 [s, loop, lane]

/-- The gain loop's step: both lanes fall by `dg` (R342, R348). -/
def Dev.gainStep (d : Dev) (s : Nat) (dg : Int) : Dev :=
  let g := fun l => (d.getI F.RCH_S_LANE_AFE_GAIN (2 * s + l) : Int) - dg
  let outside := fun l => g l < 0 || 255 < g l
  let d := (d.putI F.RCH_S_LANE_AFE_GAIN (2 * s) (clampInt 0 255 (g 0)).toNat).putI F.RCH_S_LANE_AFE_GAIN (2 * s + 1) (clampInt 0 255 (g 1)).toNat
  if outside 0 then d.rangeReseed s 1 0 else if outside 1 then d.rangeReseed s 1 1 else d

/-- A sum over a block, the newest bit first. -/
def sumInt (l : List Int) : Int := l.foldl (fun (z : Int) v => z + v) 0

/-- A sum divided by 2^mu, truncated toward zero; `less` is what the acquisition takes off MU (R342, R348). -/
def byMu (z : Int) (mu less : Nat) : Int := if less ≤ mu then z.tdiv (2 ^ (mu - less) : Nat) else z * (2 ^ (less - mu) : Nat)

/-- The gain loop takes a block (R342, R348). -/
def Dev.gainBlock (d : Dev) (s : Nat) (blk : List (Int × Int)) (less : Nat) : Dev :=
  d.gainStep s (byMu (sumInt (blk.map (fun x => x.1 * x.2))) (d.getI F.RCH_S_MU_MU_G s) less)

def sgn (z : Int) : Int := if 0 < z then 1 else if z < 0 then -1 else 0

/-- A tap after its gradient, with whether it saturated. -/
def tapStep (h g : Int) : Int × Bool := (clampSigned 10 (h - g), clampSigned 10 (h - g) != h - g)

/-- A tap's gradient before its division: bit `j` of the block, the newest first, meets the code `i` bits older. -/
def tapSum (blk : List (Int × Int)) (hist : List Int) (i : Nat) : Int :=
  sumInt ((List.range blk.length).map (fun j => (at' blk j (0, 0)).1 * intAt hist (j + i)))

/-- The taps after a block (R342): lanes A and B, with whether lane A's or lane B's saturated. -/
def tapBlock (u : Unit) (blk : List (Int × Int)) (ha hb : List Int) (mu : Nat) : List Int × List Int × Bool × Bool :=
  let grad := fun (x : List Int) i => (tapSum blk x i).tdiv (2 ^ mu : Nat)
  let c := (grad ha u.main - grad hb u.main).tdiv 2
  let ta := (List.range 16).map (fun i => tapStep (intAt u.ha i) (if i = u.main then c else grad ha i))
  let tb := (List.range 16).map (fun i => tapStep (intAt u.hb i) (if i = u.main then -c else grad hb i))
  (ta.map (fun t => t.1), tb.map (fun t => t.1), ta.any (fun t => t.2), tb.any (fun t => t.2))

/-- A lane's offset or asymmetry after its step, saturated to 8 bits. -/
def Dev.laneStep (d : Dev) (f : Field) (s l : Nat) (step : Int) : Dev × Bool :=
  let v := toSigned 8 (d.getI f (2 * s + l)) + step
  (d.putI f (2 * s + l) (ofSigned 8 (clampSigned 8 v)), clampSigned 8 v != v)

def Dev.laneHist (d : Dev) (s l : Nat) : List Int := (at' (d.fes s).lanes l {}).hist

/-- The tap, gain, offset and asymmetry loops take a block of 16 bits (R342); the first that saturates is recorded (R343). -/
def Dev.adaptBlock (d : Dev) (s : Nat) (blk : List (Int × Int)) : Dev :=
  let u := d.unit s
  let step := (d.fes s).step
  let ha := d.laneHist s 0
  let hb := d.laneHist s 1
  let t := tapBlock u blk ha hb (d.getI F.RCH_S_MU_MU_F s)
  let put := fun (d : Dev) (f : Field) (l : List Int) => d.each (List.range 16) (fun d i => d.putI f (16 * s + i) (ofSigned 10 (intAt l i)))
  let d := if step = 7 then d else put d F.RCH_S_TAP_TAP_A t.1
  let d := if step = 6 then d else put d F.RCH_S_TAP_TAP_B t.2.1
  let d := if t.2.2.1 && step != 7 then d.rangeReseed s 0 0 else if t.2.2.2 && step != 6 then d.rangeReseed s 0 1 else d
  let d := d.gainBlock s blk 0
  let se := sumInt (blk.map (fun x => x.1))
  let off := fun (d : Dev) l h =>
    let r := d.laneStep F.RCH_S_LANE_OFFS_OFFSET s l ((se * sgn (sumInt h)).tdiv (2 ^ d.getI F.RCH_S_MU_MU_O s : Nat))
    if r.2 then r.1.rangeReseed s 2 l else r.1
  let d := off (off d 0 u.ha) 1 u.hb
  let sq := fun (c : List Int) => (sumInt ((c.take 16).map (fun v => v * v))).toNat
  let d := d.setFe s (fun f => { f with powA := (sq ha :: f.powA).take 16, powB := (sq hb :: f.powB).take 16 })
  let asym := fun (d : Dev) l (c : List Int) (pow : List Nat) =>
    let p : Int := (pow.sum / (16 * max 1 pow.length) : Nat)
    let w := sumInt ((List.range blk.length).map (fun j => (at' blk j (0, 0)).1 * (intAt c (j + u.main) * intAt c (j + u.main) - p)))
    let r := d.laneStep F.RCH_S_LANE_OFFS_ASYM s l (w.tdiv (2 ^ d.getI F.RCH_S_MU_MU_A s : Nat))
    if r.2 then r.1.rangeReseed s 3 l else r.1
  asym (asym d 0 ha (d.fes s).powA) 1 hb (d.fes s).powB

/-! ### Flags (R344 to R347) -/

/-- Do flags of either lane stand? -/
def Dev.flagged (d : Dev) (s : Nat) : Bool :=
  d.onI F.RCH_S_STAT_TA_A s || d.onI F.RCH_S_STAT_TA_B s || d.onI F.RCH_S_STAT_DEF_A s || d.onI F.RCH_S_STAT_DEF_B s

/-- The flag of a lane: thermal asperity or defect. -/
def flagField (ta : Bool) (lane : Nat) : Field :=
  if ta then (if lane = 0 then F.RCH_S_STAT_TA_A else F.RCH_S_STAT_TA_B) else (if lane = 0 then F.RCH_S_STAT_DEF_A else F.RCH_S_STAT_DEF_B)

/-- A lane's flag sets (R344 to R346). -/
def Dev.flagSet (d : Dev) (s lane : Nat) (ta : Bool) : Dev :=
  let d := d.putI (flagField ta lane) s 1
  if ta then (d.incI F.RCH_S_FLAGGED_TA s).put F.RCH_INT_STAT_TA 1 else (d.incI F.RCH_S_FLAGGED_DEFECT s).put F.RCH_INT_STAT_DEFECT 1

/-- A lane's flag clears after `bits` (R344 to R346; events 0x2003, 0x2004): 32 bits after the last one the loops run. -/
def Dev.flagClear (d : Dev) (s lane : Nat) (ta : Bool) (bits : Nat) : Dev :=
  let d := (d.putI (flagField ta lane) s 0).post (if ta then 0x2003 else 0x2004) [s, lane, bits]
  if d.flagged s then d else d.setFe s (fun f => { f with hold := 32 })

/-- A detector takes a bit: `past` the threshold that sets the flag, `within` that which clears it. -/
def FlagRun.step (r : FlagRun) (past within on : Bool) : FlagRun :=
  ⟨if past then r.past + 1 else 0, if within then r.within + 1 else 0, if on then r.bits + 1 else 0⟩

/-- TA_THR and DEF_THR of an attempt: rung 1 steps 11 and 12 change them (10 R404). -/
def Dev.taThr (d : Dev) (s : Nat) : Nat := let v := d.getI F.RCH_S_TADET_TA_THR s; if (d.fes s).step = 11 then v / 2 else v
def Dev.defThr (d : Dev) (s : Nat) : Nat := let v := d.getI F.RCH_S_TADET_DEF_THR s; if (d.fes s).step = 12 then min 255 (2 * v) else v

def Dev.setLane (d : Dev) (s l : Nat) (g : Lane → Lane) : Dev :=
  d.setFe s (fun f => { f with lanes := f.lanes.set l (g (at' f.lanes l {})) })

/-- A lane's flags after a bit (R344, R345): the mean of 16 codes in magnitude, the mean of 32 |codes| against the preamble's. -/
def Dev.laneFlags (d : Dev) (s l : Nat) : Dev :=
  let f := d.fes s
  let x := at' f.lanes l {}
  let mean16 := (sumInt (x.hist.take 16)).natAbs
  let thr := 16 * d.taThr s
  let seen := 16 ≤ f.seen
  let ta := x.ta.step (seen && decide (thr < mean16)) (seen && decide (2 * mean16 ≤ thr)) (d.onI (flagField true l) s)
  let mean32 := ((x.hist.take 32).map Int.natAbs).sum
  let low := 512 * mean32 < d.defThr s * x.env
  let judged := 32 ≤ f.seen && 96 < f.bits
  let df := x.df.step (judged && low) (judged && !low) (d.onI (flagField false l) s)
  let d := d.setLane s l (fun y => { y with ta := ta, df := df })
  let turn := fun (d : Dev) (k : Bool) (r : FlagRun) (need : Nat) =>
    if d.onI (flagField k l) s then (if 32 ≤ r.within then d.flagClear s l k r.bits else d)
    else if need ≤ r.past then d.flagSet s l k else d
  turn (turn d true ta 4) false df 1

/-! ### A bit -/

/-- A lane takes a code: `k` is the bit's number from START (R345, R367). -/
def Lane.take (x : Lane) (k : Nat) (c : Int) : Lane :=
  { x with hist := (c :: x.hist).take 48, env := if k = 0 then 0 else if 32 ≤ k && k < 96 then x.env + c.natAbs else x.env,
           full := (if k = 0 then 0 else x.full) + (if c = -64 || c = 63 then 1 else 0),
           first := if k = 0 then c else x.first, same := if k = 0 then true else x.same && c == x.first }

/-- The codes of a bit enter the lanes; the flags, the freeze of R346 and the sample word of R340 follow: y, and whether the loops stand. -/
def Dev.bitEnters (d : Dev) (s : Nat) (a b : Int) : Dev × Int × Bool :=
  let k := (d.fes s).bits
  let d := d.setFe s (fun f => { f with lanes := [(at' f.lanes 0 {}).take k a, (at' f.lanes 1 {}).take k b], bits := k + 1, seen := f.seen + 1 })
  let d := (d.laneFlags s 0).laneFlags s 1
  let flag := d.flagged s
  let frozen := flag || (d.fes s).hold != 0
  let d := d.flagI F.RCH_S_STAT_FROZEN s frozen
  let d := d.setFe s (fun f => { f with hold := if flag then f.hold else f.hold - 1, eraseRun := if flag then f.eraseRun + 1 else 0 })
  let y := eqOut (d.unit s) (d.laneHist s 0) (d.laneHist s 1)
  let w := sampleWord flag (d.onI F.RCH_S_STAT_TA_A s || d.onI F.RCH_S_STAT_TA_B s) y a b
  let d := match d.sliceOf s with
    | none => d
    | some q =>
      { d with det := { d.det with slices := d.det.slices.modify q (fun (x : Slice) => { x with
          slots := x.slots.map (fun (t : Attempt) => if t.stream == s && !t.ended then { t with words := w :: t.words } else t) }) } }
  (d, y, frozen)

/-- The timing loop takes a bit (R346, R350, R351): φ advances by F alone while the loops stand. -/
def Dev.timingBit (d : Dev) (s : Nat) (acq frozen : Bool) (y dd : Int) : Dev :=
  let f := d.fes s
  let delta := y * f.dPrev - f.yPrev * dd
  let kp := if acq then d.getI F.RCH_S_TLOOP_KP_ACQ s else d.getI F.RCH_S_TLOOP_KP_TRK s
  let ki := if acq then d.getI F.RCH_S_TLOOP_KI_ACQ s else d.getI F.RCH_S_TLOOP_KI_TRK s
  let t := if frozen then (f.f, (f.phi + f.f).tmod (2 ^ 24)) else loopBit kp ki delta f.f f.phi
  let d := (d.putI F.RCH_S_TIMING_F s (ofSigned 16 t.1)).putI F.RCH_S_TIMING_PHI s (ofSigned 6 (t.2.tdiv (2 ^ 18)))
  d.setFe s (fun f => { f with f := t.1, phi := t.2, deltas := if frozen then f.deltas else (delta.natAbs :: f.deltas).take 256 })

/-- The block in progress takes a bit's error and ideal output; a flagged bit discards it (R346). At `need` bits the loops take it: the gain loop with
MU less `less`, all four where `all`. -/
def Dev.blockBit (d : Dev) (s : Nat) (frozen : Bool) (e dd : Int) (need less : Nat) (all : Bool) : Dev :=
  let blk := if frozen then [] else (e, dd) :: (d.fes s).block
  if blk.length < need then d.setFe s (fun f => { f with block := blk })
  else
    let d := d.setFe s (fun f => { f with block := [] })
    if all then d.adaptBlock s blk else d.gainBlock s blk less

/-! ### Attempts -/

/-- A clearance sample at bit 96 of a locked data read (R362). -/
def Dev.clearanceSample (d : Dev) (s : Nat) : Dev :=
  let f := d.fes s
  if f.kc = 0 || !f.dataRead then d
  else
    let g2 : Int := (d.getI F.RCH_S_LANE_AFE_GAIN (2 * s) + d.getI F.RCH_S_LANE_AFE_GAIN (2 * s + 1) : Nat)
    let c : Int := f.cRef + roundAway ((toSigned 16 f.kc) * (g2 - 2 * f.gRef)) 512
    d.setFe s (fun f => { f with clearSum := f.clearSum + c, clearN := f.clearN + 1 })

/-- A preamble bit (R348, R349, R368): the phase counter stops while flagged in ZPS and GAIN_ACQ; at its eighth bit φ is set, F is zero and the
pattern's place in y is known: the whole UI of the zero-phase start, and the main tap's delay. -/
def Dev.preambleBit (d : Dev) (s : Nat) (a b : Int) : Dev :=
  let k := (d.fes s).bits
  let r := d.bitEnters s a b
  let d := r.1
  let y := r.2.1
  let g := (d.unit s).g
  let flag := d.flagged s
  let f := d.fes s
  let d := d.setFe s (fun f => { f with clean := if flag then f.clean else f.clean + 1 })
  if f.phase < 8 then
    if flag then d
    else
      let z := (a + b) :: f.z
      let d := d.setFe s (fun f => { f with phase := f.phase + 1, z := z })
      if f.phase < 7 then d
      else
        let p := phaseSet g z.reverse
        let sh := (p.1 + (d.unit s).main) % 4
        d.setFe s (fun f => { f with f := 0, phi := p.2 * 2 ^ 18, shift := sh, yPrev := y, dPrev := preIdeal g (k + 4 - sh), block := [] })
  else
    let dd := preIdeal g (k + 4 - f.shift)
    let d := d.timingBit s (decide (f.phase < 80)) r.2.2 y dd
    let d := d.blockBit s r.2.2 (y - dd) dd (if f.phase < 16 then 8 else 16) (if f.phase < 16 then 3 else 0) false
    d.setFe s (fun f => { f with phase := if flag && f.phase < 16 then f.phase else f.phase + 1, yPrev := y, dPrev := dd })

/-- The mean |Δ| of the last 32 bits is at most LOCK_THR (R352). -/
def Dev.lockMet (d : Dev) (s : Nat) : Bool := ((d.fes s).deltas.take 32).sum ≤ 32 * d.getI F.RCH_S_TLOOP_LOCK_THR s

/-- The preamble of an attempt, bit 0 to bit 96 (R348 to R352, R362, R368): the codes begin 16 bits before START. -/
def Dev.acquire (d : Dev) (s : Nat) (x : AttemptCodes) : Dev :=
  let old := fun (c : List Int) (l : Lane) => { l with hist := (c.take 16).reverse }
  let d := d.setFe s (fun f => { f with
    lanes := [old x.a (at' f.lanes 0 {}), old x.b (at' f.lanes 1 {})], seen := 16, phase := 0, z := [], shift := 0, clean := 0, block := [], deltas := [] })
  let d := ((x.a.zip x.b).drop 16).foldl (fun (d : Dev) c => d.preambleBit s c.1 c.2) d
  let f := d.fes s
  let locked := d.lockMet s
  let late := !locked || f.clean < 48
  let d := (d.flagI F.RCH_S_STAT_LOCKED s locked).flagI F.RCH_S_STAT_ACQ_LATE s late
  let sym := (List.range 4).map (fun i => preBit (99 - i - f.shift))
  let d := d.setFe s (fun f => { f with block := [], syms := sym, acquiring := !locked, deltas := if locked then [] else f.deltas })
  if locked then (if late then d.clearanceSample s |>.post 0x2005 [s, 96] else d.clearanceSample s) else d

/-- A bit past bit 95 (R337 to R347, R350 to R353): an attempt not locked leaves the acquisition gains where the last 32 bits meet LOCK_THR or at bit
160; long flags or a timing loop astray abandon it. -/
def Dev.dataBit (d : Dev) (s : Nat) (a b : Int) (plus : Bool) : Dev :=
  if !d.reading s || d.getI F.RCH_S_STAT_PHASE s != phTrack || (d.fes s).total ≤ (d.fes s).bits then d
  else
    let r := d.bitEnters s a b
    let d := r.1
    let y := r.2.1
    let syms := plus :: (d.fes s).syms
    let dd := idealOut (d.unit s).g (fun j => symbol (at' syms j false))
    let acq := (d.fes s).acquiring
    let d := (d.timingBit s acq r.2.2 y dd).blockBit s r.2.2 (y - dd) dd 16 0 true
    let edge := (d.fes s).f == 16777 || (d.fes s).f == -16777
    let d := d.setFe s (fun f => { f with syms := syms.take 4, yPrev := y, dPrev := dd, clampRun := if !acq && edge then f.clampRun + 1 else 0 })
    let f := d.fes s
    if d.getI F.RCH_S_TADET_FLAG_MAX s < f.eraseRun then d.abandonAttempt s 4
    else if acq then
      if d.lockMet s || 160 ≤ f.bits then (d.setFe s (fun f => { f with acquiring := false, deltas := [] })).post 0x2005 [s, f.bits] else d
    else if 256 ≤ f.clampRun || (f.deltas.length = 256 && 256 * 4 * d.getI F.RCH_S_TLOOP_LOCK_THR s < f.deltas.sum) then d.abandonAttempt s 3
    else d

/-- A stretch of bits of an attempt. -/
def Dev.dataBits (d : Dev) (s : Nat) (x : BitCodes) : Dev :=
  ((x.a.zip x.b).zip x.plus).foldl (fun (d : Dev) c => d.dataBit s c.1.1 c.1.2 c.2) d

/-- The sector a stream's channel reads next: its settled piece and the first sector left of it. -/
def Dev.sectorToRead (d : Dev) (s : Nat) : Option (Piece × Sec) :=
  match d.heldPiece s with
  | none => none
  | some p => if p.stage = .ready && p.why.kind != .writePass then p.secs.head?.map (fun x => (p, x)) else none

/-- May a stream start an attempt: its domain and the slices on, not fenced, idle, a slice serving it? -/
def Dev.mayAttempt (d : Dev) (s : Nat) : Bool :=
  d.powered (3 + s / 2) && d.powered 7 && !d.streamFenced s && d.getI F.RCH_S_STAT_PHASE s == phIdle && !d.reading s && (d.sliceOf s).isSome

/-- The slot of an attempt (10 R398, R399): with eight occupied, the decode in progress is deferred. -/
def Dev.takeSlot (d : Dev) (s : Nat) (op : ReadOp) : Dev :=
  match d.sliceOf s with
  | none => d
  | some q =>
    let sl := (d.detSlice q).slots
    let d := if sl.length < 8 then d
      else
        match sl.find? (fun (a : Attempt) => a.op.why.kind != .verifyRead), sl with
        | some a, _ => d.deferAttempt q a true
        | none, a :: r => (d.setSlots q r).readFailed a.stream a.op a.globals
        | none, [] => d
    d.setSlots q ((d.detSlice q).slots ++ [{ stream := s, op := op }])

/-- The stream is fenced by a front-end fault (R367, event 0x2008). -/
def Dev.frontFault (d : Dev) (s cause lane : Nat) : Dev := (d.post 0x2008 [s, cause, lane]).fenceStream s

/-- A sector attempt starts (R341, R348, R354 to R356, R367). -/
def Dev.attemptStart (d : Dev) (s : Nat) (x : AttemptCodes) : Dev :=
  match d.sectorToRead s with
  | none => d
  | some (p, sec) =>
    if !d.mayAttempt s then d
    else
      let op : ReadOp := ⟨sec, p.head, p.track, p.why, p.rung, p.step⟩
      let d := d.mapPiece p.id (fun q => { q with secs := q.secs.drop 1 })
      let d := d.setFe s (fun f => { f with bits := 0, total := 192 + codeBits (d.zone (d.zoneOf p.track)).code, dataRead := true,
                                            step := if p.rung = 1 then p.step else 0, hold := 0, acquiring := false, eraseRun := 0, clampRun := 0 })
      let d := d.sectorSeeds s p.head p.track
      let d := d.setFe s (fun f => { f with snap := some (d.adaptive s) })
      let d := ((d.setBit F.RCH_STAT_READING s true).incI F.RCH_S_SECTORS_COUNT s).putI F.RCH_S_STAT_PHASE s phTrack
      let d := d.takeSlot s op
      if x.synthLost then
        let n := (d.fes s).lossRun + 1
        let d := (d.setFe s (fun f => { f with lossRun := n })).post 0x2009 [s, d.getI F.RCH_S_SYNTH_RATIO s]
        let d := d.abandonAttempt s 8
        if 2 ≤ n then d.frontFault s 0 0 else d
      else (d.setFe s (fun f => { f with lossRun := 0 })).acquire s x

/-- The attempt runs to its END marker after its last bit (R341, R367): `parity` says whether the tap or seed registers fail their parity. -/
def Dev.attemptEnd (d : Dev) (s : Nat) (parity : Bool) : Dev :=
  if !d.reading s || (d.fes s).bits < (d.fes s).total then d
  else
    let d := (d.setBit F.RCH_STAT_READING s false).putI F.RCH_S_STAT_PHASE s phIdle
    let d := match d.sliceOf s with
      | none => d
      | some q => d.setSlots q ((d.detSlice q).slots.map (fun (a : Attempt) => if a.stream == s && !a.ended then { a with ended := true } else a))
    let f := d.fes s
    let lane := fun (l : Nat) => (at' f.lanes l {} : Lane)
    let run := fun (l : Nat) => (if 9 * f.bits ≤ 10 * (lane l).full then at' f.satRun l 0 + 1 else 0 : Nat)
    let d := (d.setFe s (fun f => { f with satRun := [run 0, run 1] })).pieceDone s
    if 3 ≤ run 0 then d.frontFault s 1 0
    else if 3 ≤ run 1 then d.frontFault s 1 1
    else if (lane 0).same then d.frontFault s 2 0
    else if (lane 1).same then d.frontFault s 2 1
    else if parity then d.frontFault s 3 0
    else d

/-- The servo window of a stream opens (R335, R368): flags clear, the detectors start again after it, the loops hold. -/
def Dev.servoOpen (d : Dev) (s : Nat) : Dev :=
  let ph := d.getI F.RCH_S_STAT_PHASE s
  if !d.powered (3 + s / 2) || ph = phServo || ph = phFenced then d
  else
    let d := if d.gateOn s then d.setWchan s { d.wchan s with windowed := true } else d
    let clear := fun (d : Dev) (c : Bool × Nat) =>
      let x := at' (d.fes s).lanes c.2 {}
      if d.onI (flagField c.1 c.2) s then d.flagClear s c.2 c.1 (if c.1 then x.ta.bits else x.df.bits) else d
    let d := d.each [(true, 0), (true, 1), (false, 0), (false, 1)] clear
    let d := d.each [0, 1] (fun d l => d.setLane s l (fun x => { x with ta := {}, df := {} }))
    ((d.setFe s (fun f => { f with prior := ph, hold := 0, eraseRun := 0, seen := 0 })).putI F.RCH_S_STAT_PHASE s phServo).putI F.RCH_S_STAT_FROZEN s 0

/-- The servo window closes (R336). -/
def Dev.servoClose (d : Dev) (s : Nat) : Dev :=
  if d.getI F.RCH_S_STAT_PHASE s = phServo then d.putI F.RCH_S_STAT_PHASE s (if d.reading s then (d.fes s).prior else phIdle) else d

/-- A write of a stream's register is dropped while its domain is off (R369; 02 R81). -/
def Dev.inDomain (d : Dev) (s : Nat) (f : Dev → Dev) : Dev := d.inPower (3 + s / 2) f

/-- A write of 1 to a stream's CTRL.RESEED (R354), or CTRL.FENCE (R367). -/
def Dev.rchReseed (d : Dev) (s : Nat) : Dev := d.inDomain s (fun d => d.setFe s (fun f => { f with seedDue := true }))
def Dev.rchFence (d : Dev) (s : Nat) : Dev := d.inDomain s (fun d =>
  let d := d.putI F.RCH_S_CTRL_FENCE s 1
  if d.streamFenced s then d else d.frontFault s 4 0)

/-- A write to an RWO register of a stream, at its offset (R368, R369, event 0x200A). -/
def Dev.rchWrite (d : Dev) (s off v : Nat) : Dev :=
  match regFind (0x20060100 + 0x100 * s + off / 4 * 4) with
  | none => d
  | some row =>
    d.inDomain s (fun d =>
      let ok := d.getI F.RCH_S_STAT_PHASE s = phIdle
      let rwo := row.1.places.any (fun p => p.access == .rwo)
      let d := d.writeRow row.1 row.2 v ok
      if rwo && !ok then ((d.putI F.RCH_S_STAT_WR_IGN s 1).put F.RCH_INT_STAT_WR_IGN 1).post 0x200A [s, off / 4 * 4] else d)

/-! ### The commands -/

/-- SECTOR_ATTEMPT_START (09 R348 to R356, R362). -/
def execSectorAttemptStart (st : Fin 8) (x : AttemptCodes) (s : State) : Out := s.runPort 0x06 (st.val / 2) (fun d => d.attemptStart st.val x)

/-- ADAPT_BLOCK (09 R337 to R347, R350 to R353): a stretch of bits, up to a block of 16. -/
def execAdaptBlock (st : Fin 8) (x : BitCodes) (s : State) : Out := s.runPort 0x06 (st.val / 2) (fun d => d.dataBits st.val x)

/-- TA_FLAG_CHANGE (09 R344, R346): the bits up to the one whose codes set or clear a thermal-asperity flag. -/
def execTaFlagChange (st : Fin 8) (x : BitCodes) (s : State) : Out := s.runPort 0x06 (st.val / 2) (fun d => d.dataBits st.val x)

/-- DEFECT_FLAG_CHANGE (09 R345, R346): the bits up to the one whose codes set or clear a defect flag. -/
def execDefectFlagChange (st : Fin 8) (x : BitCodes) (s : State) : Out := s.runPort 0x06 (st.val / 2) (fun d => d.dataBits st.val x)

/-- SECTOR_ATTEMPT_END (09 R341, R367). -/
def execSectorAttemptEnd (st : Fin 8) (parity : Bool) (s : State) : Out := s.runPort 0x06 (st.val / 2) (fun d => d.attemptEnd st.val parity)

/-- SECTOR_ATTEMPT_ABANDON (09 R364, R365): a cause of 1 to 8. -/
def execSectorAttemptAbandon (st : Fin 8) (cause : Fin 8) (s : State) : Out := s.runPort 0x06 (st.val / 2) (fun d => d.abandonAttempt st.val (cause.val + 1))

/-- SERVO_WINDOW_OPEN (09 R335). -/
def execServoWindowOpen (st : Fin 8) (s : State) : Out := s.runPort 0x06 (st.val / 2) (fun d => d.servoOpen st.val)

/-- SERVO_WINDOW_CLOSE (09 R336). -/
def execServoWindowClose (st : Fin 8) (s : State) : Out := s.runPort 0x06 (st.val / 2) (fun d => d.servoClose st.val)

/-- RCH_RESEED_WRITE (09 R354): a write of 1 to RCH_Sx_CTRL.RESEED. -/
def execRchReseedWrite (st : Fin 8) (s : State) : Out :=
  s.runCore (fun d => d.rchReseed st.val)

/-- RCH_FENCE_WRITE (09 R367): a write of 1 to RCH_Sx_CTRL.FENCE. -/
def execRchFenceWrite (st : Fin 8) (s : State) : Out :=
  s.runCore (fun d => d.rchFence st.val)

/-- RCH_RWO_WRITE (09 R368, R369): a write of an RWO register of a stream at an offset from its registers' start. -/
def execRchRwoWrite (st : Fin 8) (off : Fin 256) (v : BitVec 32) (s : State) : Out :=
  s.runCore (fun d => d.rchWrite st.val off.val v.toNat)

end Sys2Proof.Machine
end

