-- ==== Sys2Proof/Machine/Motor.lean ====
section
/-! DEFINITION. The spindle motor's quantities (spec/05 R155 to R173): the ADC scales, the transforms between phases, the stator frame and the
rotor frame, the back-EMF observer, space-vector duties and the six gate outputs they give, the zero crossings of phases at rest. -/

namespace Sys2Proof.Machine

/-! ### Angles -/

/-- The Taylor sum of sin(π/2 · t) to its ninth power, for `t` from 0 to 1 in 2^-16, in 2^-16. -/
def quarterSine (t : Nat) : Nat :=
  let s := t * t / 2 ^ 16
  let m := fun (c x : Nat) => c - s * x / 2 ^ 16
  t * m 102944 (m 42334 (m 5223 (m 307 11))) / 2 ^ 16

/-- The sine of an angle in 2^-32 turn, in 2^-15, but for the last place, which the spec does not fix (log entry 131). -/
def sine (th : Nat) : Int :=
  let x := th % 2 ^ 30
  let t := if th / 2 ^ 30 % 2 = 0 then x else 2 ^ 30 - x
  let v : Int := (quarterSine (t / 2 ^ 14) / 2 : Nat)
  (if th / 2 ^ 31 % 2 = 0 then v else -v) + ((Config.sineRounding th % 3 : Nat) : Int) - 1

def cosine (th : Nat) : Int := sine (th + 2 ^ 30)

/-- An angle difference in 2^-32 turn, from -2^31 to 2^31 - 1. -/
def angleGap (a b : Nat) : Int := toSigned 32 (ofSigned 32 ((a : Int) - (b : Int)))

/-! ### The ADC scales (R158; 21 R857) -/

/-- A phase current in µA: 0.640 V per I_MAX (mA) about 0.900 V, over 0.10 to 1.70 V in 4,096 codes. -/
def currentOf (iMax code : Nat) : Int := (iMax : Int) * 5000 * ((code : Int) - 2048) / 8192

/-- A phase, centre-tap or supply voltage in mV: divided by 10 at the ball, over 0 to 1.60 V in 4,096 codes. -/
def voltOf (code : Int) : Int := code * 125 / 32

/-- The codes at the two ends of the range, where a current exceeds 1.25 × I_MAX (R159; 21 R857). -/
def overCode (code : Nat) : Bool := code = 0 || code = 4095

/-! ### Transforms -/

/-- A quantity in the (α, β) or the (d, q) frame. -/
structure Pair where
  a : Int
  b : Int
  deriving DecidableEq, Repr

/-- 2^15 × √3. -/
def root3 : Int := 56756

/-- Three phase quantities in the stationary frame. -/
def clarke (u v w : Int) : Pair := ⟨(2 * u - v - w) / 3, (v - w) * 32768 / root3⟩

/-- A stationary-frame quantity in the frame at angle `th`. -/
def park (p : Pair) (th : Nat) : Pair :=
  ⟨(p.a * cosine th + p.b * sine th) / 32768, (p.b * cosine th - p.a * sine th) / 32768⟩

/-- The reverse of `park`. -/
def unpark (p : Pair) (th : Nat) : Pair :=
  ⟨(p.a * cosine th - p.b * sine th) / 32768, (p.a * sine th + p.b * cosine th) / 32768⟩

/-- The three phases of a stationary-frame quantity. -/
def phasesOf (p : Pair) : List Int :=
  let h := p.b * root3 / 32768
  [p.a, (h - p.a) / 2, (-h - p.a) / 2]

def Pair.size (p : Pair) : Nat := sqrtFloor (p.a * p.a + p.b * p.b).toNat

/-! ### The back-EMF observer (R166) -/

/-- The parameters the observer works with: R_PHASE (mΩ), L_PHASE (µH) and the four values the Mill fixes from them, visible in no register. -/
structure ObserverGain where
  r : Nat
  l : Nat
  ge : Nat
  kp : Nat
  ki : Nat
  emin : Nat
  deriving DecidableEq, Repr

/-- One period of the observer, line by line as the spec gives it: currents in µA, voltages in µV, the angle in 2^-32 turn, the speed in
2^-48 turn per period, the gains and the angle error in 2^-16. T / L is 25 / L per ohm for L in µH. -/
def Observer.step (o : Observer) (g : ObserverGain) (i v : Pair) : Observer :=
  let err : Pair := ⟨i.a - o.ia, i.b - o.ib⟩
  let ea := o.ea - err.a * g.ge / 2 ^ 16
  let eb := o.eb - err.b * g.ge / 2 ^ 16
  let drop := fun (vx ix ex : Int) => (vx - (g.r : Int) * ix / 1000 - ex) * 25 / (max 1 g.l : Nat)
  let eps := -(ea * cosine o.th) - eb * sine o.th
  let eps := eps * 2 / (max 1 (max (Pair.size ⟨ea, eb⟩) g.emin) : Nat)
  let w := o.w + g.ki * eps / 2 ^ 16
  { ia := i.a + drop v.a i.a ea, ib := i.b + drop v.b i.b eb, ea, eb, w,
    th := ofSigned 32 ((o.th : Int) + w / 2 ^ 16 + g.kp * eps / 2 ^ 16), resid := err.size }

/-- The speed in 1/16 rpm of a turning rate, for `pp` pole pairs and 40,000 periods each second. -/
def rate16 (w : Int) (pp : Nat) : Nat := min (2 ^ 20 - 1) (w.toNat * 38400000 / (2 ^ 48 * max 1 pp))

/-- The turning rate of a speed in 1/16 rpm. -/
def rateOf (rpm16 pp : Nat) : Int := (rpm16 * pp * 2 ^ 48 / 38400000 : Nat)

/-! ### Zero crossings (R168, R169, R171) -/

/-- A counted crossing of a phase: the interval from the one before, and whether the two came in the order of forward turning: rising
crossings come in the order U, V, W, and a falling one lies half a period from the rising one of its phase. -/
def Crossings.count1 (c : Crossings) (phase : Nat) (rising : Bool) : Crossings :=
  let place := fun (p : Nat) (r : Bool) => (2 * p + if r then 0 else 3) % 6
  let move := (place phase rising + 6 - place c.phase c.rising) % 6
  { c with
    first := if c.count = 0 then c.now else c.first
    gap := if c.count = 0 then 0 else c.now - c.last
    forward := c.forward + (if 0 < c.count && 0 < move && move < 3 then 1 else 0)
    backward := c.backward + (if 0 < c.count && 3 < move then 1 else 0)
    last := c.now, count := c.count + 1, phase, rising }

/-- One period's three values pass a phase `p`: a change of sign is a crossing, counted where the peak since the phase's last one is at
least `floor`. -/
def Crossings.phase1 (floor : Nat) (xs : List Int) (c : Crossings) (p : Nat) : Crossings :=
  let x := at' xs p 0
  let now : Option Bool := if x = 0 then none else some (decide (0 < x))
  let was := at' c.signs p none
  let peak := at' c.peaks p 0
  match now, was with
  | none, _ => c
  | some s, none => { c with signs := c.signs.set p (some s), peaks := c.peaks.set p x.natAbs }
  | some s, some t =>
    if s = t then { c with peaks := c.peaks.set p (max peak x.natAbs) }
    else
      let c := if floor ≤ peak then c.count1 p s else c
      { c with signs := c.signs.set p (some s), peaks := c.peaks.set p x.natAbs }

def Crossings.step (c : Crossings) (floor : Nat) (xs : List Int) : Crossings :=
  let c := { c with now := c.now + 1 }
  [0, 1, 2].foldl (Crossings.phase1 floor xs) c

/-- The speed in 1/16 rpm of the mean crossing interval, a sixth of an electrical period; zero below 3 crossings (R169). -/
def Crossings.mean16 (c : Crossings) (pp : Nat) : Nat :=
  if c.count < 3 then 0 else min (2 ^ 20 - 1) (6400000 * (c.count - 1) / (max 1 (c.last - c.first) * max 1 pp))

/-- The speed in 1/16 rpm of a brake (R171): the last interval's, or that of the time since the last crossing where that is longer. -/
def Crossings.brake16 (c : Crossings) (pp now16 : Nat) : Nat :=
  let since := 6400000 / (max 1 (c.now - c.last) * max 1 pp)
  if c.count < 2 then min now16 since else min (2 ^ 20 - 1) (min since (6400000 / (max 1 c.gap * max 1 pp)))

/-- The order of the crossings is U, W, V (R169). -/
def Crossings.reversed (c : Crossings) : Bool := c.forward < c.backward

/-- The rotor angle heard (R170), by the observer's own convention, in which phase U's back-EMF rises through zero half a turn on. -/
def Crossings.angle (c : Crossings) (w : Int) : Nat :=
  let sixth := (3 + 2 * c.phase + if c.rising then 0 else 3) % 6
  ofSigned 32 ((sixth * 2 ^ 32 / 6 : Nat) + ((c.now - c.last : Nat) : Int) * w / 2 ^ 16)

/-! ### Duties and gates (R155, R156; 21 R862) -/

/-- The PWM period in ns, its centre. -/
def pwmNs : Nat := 25000

/-- What the gates do: nothing, the short brake's three low sides, one of the six vectors, the duties. -/
inductive Drive where
  | off | brake | vector (k : Nat) | duty
  deriving DecidableEq, Repr

/-- The phases high in vector direction `k` (60 electrical degrees each). -/
def vectorHigh (k : Nat) : List Nat :=
  match k with
  | 0 => [0] | 1 => [0, 1] | 2 => [1] | 3 => [1, 2] | 4 => [2] | _ => [2, 0]

/-- The high sides' times, in ns, of a (d, q) vector in 1/32,768 of full modulation: the two zero vectors share what is left, and the one with
all high sides conducting is shortened so that the three low sides conduct about the centre long enough (21 R862). -/
def dutiesOf (p : Pair) (th dead : Nat) : List Nat :=
  let v := (phasesOf (unpark p th)).map (fun x => x * pwmNs / root3)
  let hi := v.foldl max 0
  let lo := v.foldl min 0
  let top : Int := (pwmNs : Int) - max (800 + dead) (2 * (600 + dead))
  let mid := min ((pwmNs : Int) / 2 - (hi + lo) / 2) (top - hi)
  v.map (fun x => (clampInt 0 top (x + mid)).toNat)

/-- One phase's high and low side at `t` ns of a period whose high side is commanded for `high` ns about the period's edges: each side
turns on the dead time after the other's turning off. -/
def phaseGates (high dead t : Nat) : Bool × Bool :=
  if high = 0 then (false, true)
  else
  let low := pwmNs - high
  let on := pwmNs / 2 - low / 2
  let off := on + low
  (t < on || off + dead ≤ t, on + dead ≤ t && t < off)

/-- SP_UH, SP_UL, SP_VH, SP_VL, SP_WH, SP_WL at `t` ns of the period. -/
def gatesOf (dr : Drive) (duty : List Nat) (dead t : Nat) : List Bool :=
  [0, 1, 2].flatMap (fun p =>
    match dr with
    | .off => [false, false]
    | .brake => [false, true]
    | .vector k => [(vectorHigh k).contains p, !(vectorHigh k).contains p]
    | .duty => let g := phaseGates (at' duty p 0) dead t; [g.1, g.2])

end Sys2Proof.Machine
end

