-- ==== Sys2Proof/Machine/Mill.lean ====
section
/-! DEFINITION. The Mill and the Miller (spec/05): starts, the observer, losses and stops of the spindle, the choice and
change of its speed, the gas gauge. -/

namespace Sys2Proof.Machine

/-! ### Starts -/

/-- SENSE is entered: the twelve pulses begin (R172). -/
def Dev.startSense (d : Dev) : Dev :=
  { d.setMil milSense with mil := { (d.setMil milSense).mil with senseT := 0, peaks := [0, 0, 0, 0, 0, 0] } }

/-- A start attempt fails (R174, R175): `reason` 1 hand-over, 2 overcurrent, 3 BRAKE_TIMEOUT. -/
def Dev.attemptFailed (d : Dev) (reason : Nat) : Dev :=
  let n := d.get F.MIL_START_ATTEMPTS + 1
  let d := ((d.put F.MIL_START_ATTEMPTS n).put F.MIL_START_REASON reason).put F.MIL_INT_STAT_START_FAIL 1
  let d := { d with mil := { d.mil with ocWindow := 0 } }
  if n < 6 then (d.setMil milRetry).post 0x1002 [n, reason]
  else (d.setMil milCoast).post 0x1003 [reason]

/-- RUN is entered: the current loops run, the speed loop closes with its set-point at the measured speed and ramps at ACCEL (R176, R195). -/
def Dev.enterRun (d : Dev) : Dev :=
  let d := ((d.setMil milRun).put F.MIL_INT_STAT_RUN 1).put F.MIL_TARGET_SETPOINT d.rpm
  let d := { d with mil := { d.mil with
    vmAtRun := d.get F.MIL_VM_VM, setMilli := d.rpm * 1000, atAccel := true, rampMs := 0, steadyMs := 0,
    fromPending := false, overRun := 0, ocWindow := 0, vmRun := 0 } }
  (d.loopClose 0).put F.MIL_STAT_MILLER 2

/-- RUN is entered from OPEN or LISTEN (R204, event 0x1004). -/
def Dev.startedRun (d : Dev) : Dev :=
  let d := d.put F.MIL_START_MS (min d.mil.startMs 65535)
  d.enterRun.post 0x1004 [d.get F.MIL_START_MS, d.rpm]

/-- The observer takes the angle and the speed heard (R170). -/
def Dev.seedObserver (d : Dev) : Dev :=
  let w := rateOf (d.get F.MIL_SPEED_RPM16) d.polePairs
  { d with mil := { d.mil with obs := { d.mil.obs with w, th := d.mil.cross.angle w } } }

/-- Listening ends (R169, R170): the crossings counted give the direction and the speed. -/
def Dev.listenEnd (d : Dev) : Dev :=
  if d.milState != milListen then d
  else
    let v16 := d.mil.cross.mean16 d.polePairs
    let v := v16 / 16
    let backward := d.mil.cross.reversed
    let kind := if v16 = 0 then 0
      else if !backward && d.baseRpm * 16 * 5 ≤ v16 * 100 then 1
      else if backward && d.baseRpm * 16 * 2 ≤ v16 * 100 then 2 else 0
    let d := ((d.flag F.MIL_STAT_DIR backward).put F.MIL_SPEED_RPM16 v16).put F.MIL_SPEED_SRC 0
    let d := (d.put F.MIL_START_KIND kind).post 0x1001 [kind, v, if backward then 1 else 0]
    if kind = 1 then d.seedObserver.startedRun
    else if kind = 2 then (d.setMil milBrake).post 0x1009 [v]
    else d.startSense

/-! ### The observer and its losses -/

/-- All heads are commanded to retract (R181): what is not parked 300 ms on gets RETRACT_N (06 R221). -/
def Dev.retractAll (d : Dev) : Dev := (d.retractDue 2).unloadAll 5

/-- A re-acquisition has failed (R182 to R184): `cause` 0 no lock, 1 speed below 70 %. Unless it is the third, the heads are reloaded once the speed
has settled. -/
def Dev.reacquireFailed (d : Dev) (cause : Nat) : Dev :=
  let n := min 3 (d.get F.MIL_OBS_FAILS + 1)
  let d := (d.put F.MIL_OBS_FAILS n).retractAll
  let d := { d.post 0x1007 [n, cause] with mil := { d.mil with reload := n < 3 } }
  if 3 ≤ n then
    let d := { d with mil := { d.mil with stopCause := 2 } }
    (d.setMil milStopping).post 0x1008 [d.get F.MIL_OBS_LOSSES]
  else if cause = 1 then d.enterRun
  else
    let d := d.setMil milListen
    { d with mil := { d.mil with startMs := 0 } }

/-- The observer is lost in RUN (R167, R179, R181). -/
def Dev.observerLost (d : Dev) : Dev :=
  let v := d.rpm
  let t := d.get F.MIL_TARGET_TARGET
  let d := d.killAssert 7
  let d := (d.put F.MIL_STAT_INHIBIT 1).inc F.MIL_OBS_LOSSES
  let slow := v * 100 < t * 70
  let d := ((d.setMil milLost).put F.MIL_STAT_LOCK 0).put F.MIL_INT_STAT_LOST 1
  let d := { d with mil := { d.mil with lockRun := 0, overRun := 0, retracted := slow } }
  let d := d.post 0x1006 [v, t, d.get F.MIL_OBS_RESID]
  if slow then d.retractAll else d

/-- The observer locks again with the spindle heard forward (R180, R182). -/
def Dev.reacquired (d : Dev) : Dev :=
  if d.mil.retracted then d.reacquireFailed 1 else d.enterRun

/-- The observer's residual is judged (R166, R167): 64 periods below OBS_RESID lock it; in RUN 8 above lose it, elsewhere they only clear LOCK
(log entry 133). -/
def Dev.judgeResid (d : Dev) : Dev :=
  let lim := d.policy 0x1011 200 * 1000
  let resid := d.mil.obs.resid
  let d := d.put F.MIL_OBS_RESID (min (resid / 1000) 65535)
  let below := if resid < lim then d.mil.lockRun + 1 else 0
  let above := if lim < resid then d.mil.overRun + 1 else 0
  let d := { d with mil := { d.mil with lockRun := below, overRun := above } }
  let d := if 64 ≤ below then d.put F.MIL_STAT_LOCK 1 else d
  if above < 8 then d
  else if d.milState == milRun then d.observerLost
  else d.put F.MIL_STAT_LOCK 0

/-- The rectification mode is chosen anew (R186): the current loops run in the active mode, no gate is driven in the other. -/
def Dev.rectifyChoice (d : Dev) : Dev :=
  if d.milState != milRectify then d
  else
    let active := d.on F.MIL_STAT_LOCK
    let iq : Int := -(1 + Config.rectifyCurrent (d.get F.MIL_VM_VM) (d.policy 0x1013 5000) % max 1 d.iMax : Nat)
    let d := { d with mil := { d.mil with iqRef := iq } }
    if d.mil.rectActive == some active then d
    else { d with mil := { d.mil with rectActive := some active } }.currentLoops.post 0x1010 [d.rpm, if active then 0 else 1]

/-- The phases whose current exceeds 1.25 × I_MAX (R159). -/
def overPhases (p : PwmSample) : List Nat :=
  (List.range 3).filter (fun k => overCode (at' [p.iu.val, p.iv.val, p.iw.val] k 2048))

/-- Overcurrent cuts the gates for the rest of the period; 16 such periods among the last 64 end the start attempt or, in RUN, the drive (R159). -/
def Dev.judgeCurrent (d : Dev) (hot : List Nat) : Dev :=
  let high := !hot.isEmpty
  let w := (d.mil.ocWindow * 2 + (if high then 1 else 0)) % 2 ^ 64
  let d := { d with mil := { d.mil with ocWindow := w, cut := high } }
  if popCount 64 w < 16 then d
  else if [milSense, milAlign, milOpen, milBrake].contains d.milState then d.attemptFailed 2
  else if d.milState == milRun then (d.setMil milCoast).post 0x1011 [hot.headD 0, d.get F.MIL_IDQ_IQ]
  else d

/-- SP_VM is judged against its value at RUN entry (R204). -/
def Dev.judgeSupply (d : Dev) (vm : Nat) : Dev :=
  let v := d.mil.vmAtRun
  let out := v != 0 && (vm * 2 < v || v * 120 < vm * 100)
  { d with mil := { d.mil with vmRun := if out then d.mil.vmRun + 1 else 0 } }

/-- The d-axis reference of R165 in mA, and the integrator after this period; `m` is the modulation index in 1/32,768. -/
def dAxis (iMax base rpm : Nat) (integ : Int) (m : Nat) : Int × Int :=
  let lim : Int := -(iMax * 3276800 / 2 : Nat)
  let integ := clampInt lim 0 (integ + (93 * 32768 - 100 * (m : Int)) * 64)
  let speed : Int := if base < rpm then -((iMax * (rpm - base) / (2 * (7200 - base)) : Nat) : Int) else 0
  (min (min (integ / 3276800) speed) 0, integ)

/-- The pulse of SENSE in progress, its vector direction, if one is: each of the twelve takes 2 periods of 16 (R172; log entry 133). -/
def Dev.sensePulse (d : Dev) : Option Nat :=
  if d.milState == milSense && d.mil.senseT < 192 && d.mil.senseT % 16 < 2 then some (d.mil.senseT / 16 % 6) else none

/-- What the gates do in the present state (R157, R159, R170 to R172, R174, R177, R186). -/
def Dev.drive (d : Dev) : Drive :=
  let st := d.milState
  if !d.powered 2 || d.clk.stopped then .off
  else if d.milDriving then .duty
  else if [milBrake, milRetry, milStopping].contains st then .brake
  else match d.sensePulse with
    | some k => .vector k
    | none => .off

/-- SP_UH, SP_UL, SP_VH, SP_VL, SP_WH, SP_WL at `t` ns of the present PWM period (R155 to R157, R159). -/
def Dev.gateOutputs (d : Dev) (t : Nat) : List Bool :=
  if d.mil.cut && pwmNs / 2 ≤ t then List.replicate 6 false
  else gatesOf d.drive d.mil.duty (d.policy 0x1012 200) t

/-- The voltage on the motor in the period, in µV: by the gates while they drive, as measured against the centre tap otherwise (R166; log
entry 131). -/
def Dev.phaseVolts (d : Dev) (p : PwmSample) : Pair :=
  let vm := voltOf p.vm.val
  let ph := fun (code : Fin 4096) => voltOf ((code.val : Int) - p.ct.val)
  let hi := fun (l : List Nat) (k : Nat) => if l.contains k then vm else 0
  let x := match d.drive with
    | .off => [ph p.vu, ph p.vv, ph p.vw]
    | .brake => [0, 0, 0]
    | .vector k => (List.range 3).map (hi (vectorHigh k))
    | .duty => if d.mil.cut then [ph p.vu, ph p.vv, ph p.vw] else d.mil.duty.map (fun (h : Nat) => vm * h / pwmNs)
  clarke (at' x 0 0 * 1000) (at' x 1 0 * 1000) (at' x 2 0 * 1000)

/-- The observer's parameters (R166). -/
def Dev.observerGain (d : Dev) : ObserverGain :=
  let r := d.policy 0x1003 0
  let l := d.policy 0x1004 1
  let g := Config.observerGain d.polePairs r l (d.policy 0x1008 400)
  ⟨r, l, g.1, g.2.1, g.2.2.1, g.2.2.2⟩

/-- The rotor-frame angle in use: the current vector's in ALIGN and OPEN, the observer's otherwise (R172, field-oriented control). -/
def Dev.frameAngle (d : Dev) : Nat := if [milAlign, milOpen].contains d.milState then d.mil.openTh else d.mil.obs.th

/-- The open loop turns by one period in OPEN: its speed rises at 1,000 rpm/s to HANDOVER_RPM (R172). -/
def Dev.openLoop (d : Dev) : Dev :=
  if d.milState != milOpen then d
  else
    let top := d.policy 0x1008 400 * 1000
    let m := min top (d.mil.openMilli + 25)
    let th := (d.mil.openTh + m * d.polePairs * 2 ^ 32 / 2400000000) % 2 ^ 32
    let apart := (angleGap th d.mil.obs.th).natAbs
    let off := gap (rate16 d.mil.obs.w d.polePairs * 1000) (m * 16)
    let ok := m = top && 64 ≤ d.mil.lockRun && apart * 12 ≤ 2 ^ 32 && off * 10 ≤ m * 16
    { d with mil := { d.mil with openMilli := m, openTh := th, agree := if ok then d.mil.agree + 1 else 0 } }

/-- The current reference of the d-axis and the duties of the next period (R155, R164, R165, R172). -/
def Dev.pwmDuties (d : Dev) : Dev :=
  let o : Pair := ⟨toSigned 16 (d.getI F.LPE_L_OUT_OUT 1), toSigned 16 (d.getI F.LPE_L_OUT_OUT 2)⟩
  let m := o.size
  let starting := [milAlign, milOpen].contains d.milState
  let ref := if starting then ((d.iMax : Int) / 2, 0) else dAxis d.iMax d.baseRpm d.rpm d.mil.fwInteg m
  let d := { d with mil := { d.mil with fwInteg := ref.2, idRef := ref.1, duty := dutiesOf o d.frameAngle (d.policy 0x1012 200) } }
  let d := d.put F.MIL_VM_MOD (min 255 (m / 128))
  if d.milState == milRun then d.flag F.MIL_STAT_FW_ACTIVE (ref.1 < 0) else d

/-- A period of the short brake, of listening and of SENSE: crossings, the speed of a brake, the pulses' peaks (R168, R171, R172). -/
def Dev.watchPhases (d : Dev) (p : PwmSample) (i : List Int) : Dev :=
  let st := d.milState
  if [milListen, milLost].contains st then
    let v := [p.vu, p.vv, p.vw].map (fun (c : Fin 4096) => (c.val : Int) - p.ct.val)
    { d with mil := { d.mil with cross := d.mil.cross.step 52 v } }
  else if d.drive = .brake then
    let c := d.mil.cross.step 0 i
    { d with mil := { d.mil with cross := c } }.put F.MIL_SPEED_RPM16 (c.brake16 d.polePairs (d.get F.MIL_SPEED_RPM16))
  else if st == milSense then
    let along := fun (k : Nat) => (if k % 2 = 0 then 1 else -1) * at' i (at' [0, 2, 1] (k % 3) 0) 0
    let k := d.mil.senseT / 16 % 6
    let top := if d.mil.senseT < 192 then max (at' d.mil.peaks k 0) (along k).toNat else at' d.mil.peaks k 0
    { d with mil := { d.mil with senseT := d.mil.senseT + 1, peaks := d.mil.peaks.set k top } }
  else d

/-- The currents reach MIL_IDQ as means over the speed loop's period, SP_VM reaches MIL_VM, the observer's speed MIL_SPEED where no actuator has servo
acquired (R162, R163, R206). -/
def Dev.pwmFigures (d : Dev) (i : Pair) (vm : Nat) : Dev :=
  let dq := park i d.frameAngle
  let d := { d with mil := { d.mil with
    idNow := roundAway dq.a 1000, iqNow := roundAway dq.b 1000, iqSum := d.mil.iqSum + roundAway dq.b 1000,
    idSum := d.mil.idSum + roundAway dq.a 1000, periods := d.mil.periods + 1 } }
  let d := d.put F.MIL_VM_VM (min vm 65535)
  let servo := (List.range 4).any (fun n => d.servoAcquired n)
  let turning := [milRun, milRectify, milOpen].contains d.milState || (d.milState == milStopping && d.mil.regen)
  let d := if turning && !servo then
      (d.put F.MIL_SPEED_RPM16 (rate16 d.mil.obs.w d.polePairs)).put F.MIL_SPEED_SRC 0 else d
  let t16 := d.get F.MIL_TARGET_TARGET * 16
  let d := { d with mil := { d.mil with
    gasIq := d.mil.gasIq + dq.b, gasN := d.mil.gasN + 1,
    gasOff := d.mil.gasOff || t16 < gap (d.get F.MIL_SPEED_RPM16) t16 * 1000 } }
  if d.mil.periods < 4 then d
  else
    let d := (d.put F.MIL_IDQ_IQ (ofSigned 16 (d.mil.iqSum / 4))).put F.MIL_IDQ_ID (ofSigned 16 (d.mil.idSum / 4))
    { d with mil := { d.mil with iqSum := 0, idSum := 0, periods := 0 } }

/-- The regenerative part of a stop ends at 10 % of BASE_RPM: the short brake follows (R177). -/
def Dev.regenEnd (d : Dev) : Dev :=
  if d.milState == milStopping && d.mil.regen && d.get F.MIL_SPEED_RPM16 * 10 ≤ d.baseRpm * 16 then
    { d with mil := { d.mil with regen := false, cross := {} } }.currentLoops
  else d

/-- One PWM period (R155 to R167, R171, R172, R177, R180, R186). -/
def Dev.pwmPeriod (d : Dev) (p : PwmSample) : Dev :=
  if !d.powered 2 || d.clk.stopped then d
  else
    let i := [p.iu.val, p.iv.val, p.iw.val].map (currentOf d.iMax)
    let ab := clarke (at' i 0 0) (at' i 1 0) (at' i 2 0)
    let vm := (voltOf p.vm.val).toNat
    let d := { d with mil := { d.mil with obs := d.mil.obs.step d.observerGain ab (d.phaseVolts p) } }
    let d := ((((d.pwmFigures ab vm).watchPhases p i).openLoop).judgeCurrent (overPhases p)).judgeSupply vm
    let d := (d.judgeResid.rectifyChoice).regenEnd
    let d := if d.milState == milLost && 3 ≤ d.mil.cross.count && !d.mil.cross.reversed && 64 ≤ d.mil.lockRun then
        (d.put F.MIL_SPEED_RPM16 (rate16 d.mil.obs.w d.polePairs)).reacquired
      else d
    d.pwmDuties

/-! ### The Miller -/

/-- Is a committed stream with FLAGS.FUA open (R191)? -/
def Dev.fuaStreamOpen (d : Dev) : Bool := d.streams.any (fun s => s.write && s.fua)

/-- One second of SERVE passes in the Miller (R189 to R191): of each actuator's busy fraction, in 1/1,024, the mean over those not fenced. -/
def Dev.millerSecond (d : Dev) : Dev :=
  if d.mod.mode != .serve then d
  else
    let live := (List.range 4).filter (fun n => d.actuatorFitted n && !d.actuatorFenced n)
    let sum := live.foldl (fun a n => a + at' d.mil.busyMs n 0) 0
    let mean := sum * 65536 / (max 1 live.length * max 1 d.mil.secMs)
    let e := if d.mil.demand ≤ mean then d.mil.demand + (mean - d.mil.demand) / 8
      else d.mil.demand - (d.mil.demand - mean) / 8
    let d := { d with mil := { d.mil with demand := e, secMs := 0, busyMs := [0, 0, 0, 0] } }
    let d := ((d.put F.MIL_DEMAND_E (e / 64)).computeNeed).subI F.MIL_RAMP_HOLD_LEFT 0 1
    if d.miller = 0 && d.milState == milRun && d.get F.MIL_RAMP_HOLD_LEFT = 0 && !d.fuaStreamOpen
        && 300 ≤ gap d.candidate (d.get F.MIL_TARGET_TARGET) then d.newTarget d.candidate 0
    else d

/-- PENDING passes to RAMP once no stripe write is on the medium (R194). -/
def Dev.rampStart (d : Dev) : Dev :=
  if d.miller != 1 || d.anyWriting then d
  else
    let d := ((d.put F.MIL_STAT_MILLER 2).put F.MIL_INT_STAT_RAMP 1).inc F.MIL_RAMP_COUNT
    let d := { d with mil := { d.mil with rampMs := 0, fromPending := true, atAccel := d.mod.mode == Mode.spin,
                                          setMilli := d.get F.MIL_TARGET_SETPOINT * 1000 } }
    d.post 0x100A [d.get F.MIL_TARGET_SETPOINT, d.get F.MIL_TARGET_TARGET, d.mil.rampCause]

/-- The set-point has reached the target (R194). -/
def Dev.rampReached (d : Dev) : Dev :=
  if d.miller != 2 || d.milState != milRun || d.mil.setMilli != d.get F.MIL_TARGET_TARGET * 1000 then d
  else
    let d := d.put F.MIL_STAT_MILLER 3
    if d.mil.spinning then
      { d with mil := { d.mil with spinning := false } }.post 0x1005 [d.rpm, d.mil.startMs]
    else d

/-- The heads parked by R181 are loaded again (R183), and loads that waited for STEADY begin (06 R253). -/
def Dev.reloadHeads (d : Dev) : Dev :=
  let all := d.mil.reload
  ({ d with mil := { d.mil with reload := false } }).each (List.range 4) (fun d n => if all || (d.shp n).loadWait then d.loadRequest n else d)

/-- Eight revolutions within ±0.05 % end SETTLE (R194, R180): the write hold and the Mill's inhibit are released, heads that R181 parked are
loaded. -/
def Dev.rampSettled (d : Dev) : Dev :=
  if d.miller != 3 then d
  else
    let ms := d.mil.rampMs
    let d := ((d.put F.MIL_STAT_MILLER 0).put F.MIL_STAT_WRITE_HOLD 0).put F.MIL_RAMP_HOLD_LEFT (d.policy 0x100C 30)
    let d := { d.put F.MIL_INT_STAT_SETTLED 1 with mil := { d.mil with steadyMs := 0, fromPending := false, atAccel := false,
                                                                       retracted := false } }
    let d := if d.on F.MIL_STAT_INHIBIT then (d.put F.MIL_STAT_INHIBIT 0).killRelease 7 else d
    let d := (d.post 0x100B [d.get F.MIL_TARGET_TARGET, ms]).reloadHeads
    { d with thm := { d.thm with forced := false } }.riskCheck

/-- Had the actuator medium work dispatched or waiting in the Drover (R189)? -/
def Dev.actuatorBusy (d : Dev) (n : Nat) : Bool := d.drv.pieces.any (fun p => p.act == n)

/-- A millisecond passes in the Mill and the Miller: the start and ramp times, the set-point's move (R195). -/
def Dev.millMs (d : Dev) : Dev :=
  let rate := if d.mil.atAccel || d.mod.mode == .spin then d.policy 0x1007 450 else d.policy 0x100B 200
  let t := d.get F.MIL_TARGET_TARGET * 1000
  let s := d.mil.setMilli
  let moved := if s ≤ t then min t (s + rate) else max t (s - rate)
  let ramping := d.miller = 2 && d.milState == milRun
  let d := { d with mil := { d.mil with
    startMs := d.mil.startMs + 1,
    rampMs := if 2 ≤ d.miller then d.mil.rampMs + 1 else d.mil.rampMs,
    steadyMs := if d.miller = 0 && d.milState == milRun then d.mil.steadyMs + 1 else 0,
    setMilli := if ramping then moved else s
    secMs := d.mil.secMs + 1
    busyMs := (List.range 4).map (fun n => at' d.mil.busyMs n 0 + (d.actuatorBusy n).toNat) } }
  if ramping then d.put F.MIL_TARGET_SETPOINT (moved / 1000) else d

/-! ### The gas gauge -/

/-- The drag torque of R199 in µN·m: KT times the mean q-axis current, in µA. -/
def gasTorque (kt : Nat) (iq : Int) : Int := kt * iq / 1000000

/-- The sample density of R199 in 0.0001 kg/m³; `theta16` is the temperature in 1/16 °C. -/
def gasDensity (t : Int) (tbRef : Nat) (tbTc : Int) (kw n : Nat) (theta16 : Int) : Int :=
  let tb : Int := ((tbRef : Int) * 16 + tbTc * (theta16 - 400)) * n / (16 * 7200)
  if kw = 0 ∨ n = 0 then 0 else (t - tb) * (7200 * 7200 * 10000 : Nat) / ((kw * n * n : Nat) : Int)

/-- The row of R202's table a density ratio falls in. -/
def gasRow (rho base : Nat) : Nat := if 90 * base ≤ rho * 100 then 0 else if 80 * base ≤ rho * 100 then 1 else 2

/-- The gas ceiling of a row (R202). -/
def gasCeiling (row ceil floor : Nat) : Nat :=
  if row = 0 then ceil else if row = 1 then (floor + (ceil - floor) / 2) / 60 * 60 else floor

/-- The gas ceiling is judged (R202, R203): within one boot it only falls, and each row is entered once. -/
def Dev.judgeGas (d : Dev) : Dev :=
  let rho := d.get F.MIL_GAS_DENSITY
  let base := d.get F.MIL_GAS_BASE
  let row := gasRow rho base
  if d.mil.gasSamples < 64 || base = 0 || row ≤ d.mil.gasBand then d
  else
    let old := d.get F.MIL_CEIL_GAS_CEIL
    let c := min old (gasCeiling row (d.get F.MIL_LIMITS_CEILING) (d.get F.MIL_LIMITS_FLOOR))
    let d := { d.put F.MIL_CEIL_GAS_CEIL c with mil := { d.mil with gasBand := row } }
    let d := if c < old then d.put F.MIL_INT_STAT_GAS 1 else d
    let d := d.post 0x100C [rho, rho * 1024 / base, c]
    (if row = 2 then d.post 0x100D [rho, base] else d).updateCeiling

/-- The second of the gas gauge starts again (R198). -/
def Dev.gasSecond (d : Dev) : Dev := { d with mil := { d.mil with gasIq := 0, gasN := 0, gasOff := false } }

/-- The conditions of a gas sample (R198) over the second that ends. -/
def Dev.gasDue (d : Dev) : Bool :=
  d.hasPolicy 0x1010 && d.milState == milRun && d.miller = 0 && 1000 ≤ d.mil.steadyMs && !d.mil.gasOff && d.mil.gasN != 0
    && d.on F.THM_ENC_VALID

/-- A gas sample (R198 to R203): the drag of the second's mean q-axis current gives the density; the baseline is taken at the 64th sample in
SERVE where the image has none. -/
def Dev.gasSample (d : Dev) : Dev :=
  if !d.gasDue then d.gasSecond
  else
    let t := gasTorque (d.policy 0x1002 0) (d.mil.gasIq / (d.mil.gasN : Nat))
    let rs := gasDensity t (d.policy 0x100E 0) (toSigned 32 (d.policy 0x100F 0)) (d.policy 0x1010 0) d.rpm
      (toSigned 16 (d.get F.THM_ENC_TEMP))
    let fine := if d.mil.gasSamples = 0 then rs * 65536 else d.mil.gasFine + (rs * 65536 - d.mil.gasFine) / 64
    let inServe := d.mod.mode == .serve
    let d := { d with mil := { d.mil with gasSamples := d.mil.gasSamples + 1, gasFine := fine,
                                          gasServe := d.mil.gasServe + (if inServe then 1 else 0) } }
    let d := (d.put F.MIL_GAS_DENSITY (min 65535 (fine / 65536).toNat)).put F.MIL_TORQUE_DRAG (min 65535 t.toNat)
    let d := if !d.hasPolicy 0x100D && d.get F.MIL_GAS_BASE = 0 && 64 ≤ d.mil.gasServe && inServe then
        (d.put F.MIL_GAS_BASE (d.get F.MIL_GAS_DENSITY)).post 0x100E [d.get F.MIL_GAS_DENSITY] else d
    d.judgeGas.gasSecond

/-! ### The commands -/

/-- PWM_PERIOD (05 R158 to R167, R180, R186). -/
def execPwmPeriod (p : PwmSample) (s : State) : Out := s.runIsland 0x03 (fun d => d.pwmPeriod p)

/-- REACQUIRE_TIMEOUT (05 R182). -/
def execReacquireTimeout (s : State) : Out :=
  s.runIsland 0x03 (fun d => if d.milState == milLost then d.reacquireFailed 0 else d)

/-- OBS_FAILS_CLEAR (05 R185). -/
def execObsFailsClear (s : State) : Out :=
  s.runIsland 0x03 (fun d => if d.milState == milRun && d.on F.MIL_STAT_LOCK then d.put F.MIL_OBS_FAILS 0 else d)

/-- LISTEN_END (05 R169, R170): two electrical periods or 50 ms have passed. -/
def execListenEnd (s : State) : Out := s.runIsland 0x03 Dev.listenEnd

/-- BRAKE_DONE (05 R170, R204): the short brake of BRAKE is below 0.5 % of BASE_RPM. -/
def execBrakeDone (s : State) : Out :=
  s.runIsland 0x03 (fun d => if d.milState == milBrake && d.nearRest then d.startSense else d)

/-- BRAKE_TIMEOUT (05 R171). -/
def execBrakeTimeout (s : State) : Out := s.runIsland 0x03 (fun d => if d.milState == milBrake then d.attemptFailed 3 else d)

/-- The rotor angle of SENSE (R172, R173): the direction of the largest peak, the U-phase vector's where the peaks differ by less than 10 %. -/
def senseAngle (peaks : List Nat) : Nat :=
  let hi := peaks.foldl max 0
  let lo := peaks.foldl min hi
  if (hi - lo) * 10 < hi || hi = 0 then 0 else peaks.findIdx (fun x => x == hi) * 2 ^ 32 / 6

/-- SENSE_DONE (05 R172, R173): ALIGN holds half of I_MAX at the sensed angle. -/
def Dev.senseDoneAct (d : Dev) : Dev :=
  if d.milState == milSense then
    { d with mil := { d.mil with openTh := senseAngle d.mil.peaks, openMilli := 0, agree := 0, idRef := (d.iMax : Int) / 2,
                                 iqRef := 0 } }.setMil milAlign
  else d

/-- SENSE_DONE acts as `Dev.senseDoneAct` says. -/
def execSenseDone (s : State) : Out := s.runIsland 0x03 (fun d => d.senseDoneAct)

/-- ALIGN_DONE (05 R172): the current vector begins to turn. -/
def execAlignDone (s : State) : Out := s.runIsland 0x03 (fun d => if d.milState == milAlign then d.setMil milOpen else d)

/-- HANDOVER_MET (05 R172, R204): for 20 ms at HANDOVER_RPM the observer has been locked and has agreed with the open loop. -/
def execHandoverMet (s : State) : Out :=
  s.runIsland 0x03 (fun d => if d.milState == milOpen && 800 ≤ d.mil.agree then d.startedRun else d)

/-- HANDOVER_TIMEOUT (05 R174): 100 ms since HANDOVER_RPM was reached. -/
def execHandoverTimeout (s : State) : Out :=
  s.runIsland 0x03 (fun d => if d.milState == milOpen && d.policy 0x1008 400 * 1000 ≤ d.mil.openMilli then d.attemptFailed 1 else d)

/-- RETRY_BRAKE_END (05 R174). -/
def execRetryBrakeEnd (s : State) : Out := s.runIsland 0x03 (fun d => if d.milState == milRetry then d.startSense else d)

/-- SPINDLE_AT_REST (05 R178; 04 R135 for the end of the REST entry): 1 s below 0.5 % of BASE_RPM. -/
def Dev.spindleAtRestAct (d : Dev) : Dev :=
  if d.milState == milStopping && d.nearRest then
    let d := (d.setMil milStopped).put F.MIL_SPEED_RPM16 0
    d.post 0x1012 [d.mil.stopCause]
  else d

/-- SPINDLE_AT_REST acts as `Dev.spindleAtRestAct` says. -/
def execSpindleAtRest (s : State) : Out := s.runIsland 0x03 (fun d => d.spindleAtRestAct)

/-- MOTOR_SUPPLY_FAULT (05 R204): SP_VM outside 50 % to 120 % of its value at RUN entry for 1 ms, 40 PWM periods. -/
def execMotorSupplyFault (s : State) : Out :=
  s.runIsland 0x03 (fun d => if 40 ≤ d.mil.vmRun then (d.setMil milCoast).post 0x1013 [d.get F.MIL_VM_VM, d.mil.vmAtRun] else d)

/-- MILLER_SECOND (05 R189 to R191). -/
def execMillerSecond (s : State) : Out := s.runIsland 0x03 Dev.millerSecond

/-- RAMP_START (05 R194). -/
def execRampStart (s : State) : Out := s.runIsland 0x03 Dev.rampStart

/-- RAMP_TARGET_REACHED (05 R194). -/
def execRampTargetReached (s : State) : Out := s.runIsland 0x03 Dev.rampReached

/-- RAMP_SETTLED (05 R194, R180). -/
def execRampSettled (s : State) : Out := s.runIsland 0x03 Dev.rampSettled

/-- GAS_SAMPLE (05 R198 to R203). -/
def execGasSample (s : State) : Out := s.runIsland 0x03 Dev.gasSample

end Sys2Proof.Machine
end

