-- ==== Sys2Proof/Machine/Trust.lean ====
section
/-! DEFINITION. The commands of spec/18: the Tally, the Seal engine, physical presence, the seal loop, the JTAG port. -/

namespace Sys2Proof.Machine

/-! ### The Tally -/

/-- The boot record is due once the self-test has ended, or in recovery hold (R735; 04 R134). -/
def Dev.bootRecordDue (d : Dev) : Bool := !d.mod.bootRecorded && d.mod.porstHigh && (d.mod.selfTested || d.mod.recovery)

/-- TAL_APPEND_BOOT (R735 to R737, R744). -/
def execTalAppendBoot (how : AppendEnd) (s : State) : Out := s.runIsland 0x11 (fun d => if d.bootRecordDue && !d.harvesting then d.talBoot how else d)

/-- TAL_APPEND with GO and KIND 4 (R757, R764). -/
def execTalAppendKeyRotate (s : State) : Out := s.runCore (fun d => d.talStart kindRotate none)

/-- TAL_APPEND with GO and KIND 5 (R757, R764). -/
def execTalAppendSvnFloor (s : State) : Out := s.runCore (fun d => d.talStart kindFloor none)

/-- TAL_APPEND with GO and KIND 6 (R757, R764). -/
def execTalAppendDebugUnlock (s : State) : Out := s.runCore (fun d => d.talStart kindDebug none)

/-- TAL_APPEND with GO and KIND 7 (R757, R764). -/
def execTalAppendUnsealBand (s : State) : Out := s.runCore (fun d => d.talStart kindUnseal none)

/-- TAL_APPEND with GO and KIND 0x10 (R741, R764). -/
def execTalAppendAttestation (s : State) : Out := s.runCore (fun d => d.talStart kindAttest none)

/-- TAL_REQUEST_DONE (R757, R764): `bad` are the entries the store reads uncorrectable meanwhile (R739). -/
def Dev.talRequestDoneAct (d : Dev) (how : AppendEnd) (bad : List (BitVec 32)) : Dev :=
  let d := d.each bad (fun d i => d.talRestore i.toNat)
  match d.tal.req with
  | none => d
  | some r => d.talDone r how

/-- TAL_REQUEST_DONE acts as `Dev.talRequestDoneAct` says. -/
def execTalRequestDone (how : AppendEnd) (bad : List (BitVec 32)) (s : State) : Out := s.runIsland 0x11 (fun d => d.talRequestDoneAct how bad)

/-- MIRROR_PROGRAM (R738): in BOOT every entry the mirror lacks, with event 0x5010; otherwise the oldest. The image gives the mirror
its place, so recovery hold without a selector programs nothing. -/
def Dev.mirrorProgramAct (d : Dev) : Dev :=
  if d.cfg.sel.isNone || d.tal.lacking.isEmpty || d.harvesting then d
  else if d.mod.mode = Mode.boot then
    let n := d.tal.lacking.length
    (d.each d.tal.lacking Dev.mirrorPut).post 0x5010 [n]
  else
    match d.tal.lacking with
    | i :: _ => d.mirrorPut i
    | [] => d

/-- MIRROR_PROGRAM acts as `Dev.mirrorProgramAct` says. -/
def execMirrorProgram (s : State) : Out := s.runIsland 0x11 (fun d => d.mirrorProgramAct)

/-! ### The Seal engine -/

/-- A computation is delivered by its class (R745). -/
def Dev.deliverComp (d : Dev) (x : Comp) (stored : List Nat) : Dev :=
  if x.cls = 1 then d.checkSealed x stored
  else if x.cls = 2 then d.keepTag x.band x.lba (sealValue x.band x.lba x.data)
  else d.jobResult x.data

/-- The computation in progress ends: `agree` says whether the two cores agreed throughout (R743, R744). One that they disagreed about twice is dropped
without an output, and a runtime job with it is over (log entry 156). -/
def Dev.compDone (d : Dev) (agree : Bool) (stored : List Nat) : Dev :=
  match d.sea.cur with
  | none => d
  | some x =>
    if x.cls = 3 && !d.sea.finished then d
    else if agree then ((d.inc F.SEA_COUNT_COUNT).nextComp).deliverComp x stored
    else
      let e := d.disagree x.cls x.redo
      if x.redo then (e.when (x.cls == 3) (fun d => { d with sea := { d.sea with input := [], finished := false } }.put F.SEA_STAT_JOB 0)).nextComp
      else { e with sea := { e.sea with cur := some { x with redo := true } } }

/-- SEAL_COMPUTATION_DONE (R743 to R750): `stored` is the value the medium's tag sector gives for a check (R750). -/
def execSealComputationDone (agree : Bool) (stored : List (BitVec 8)) (s : State) : Out :=
  s.runIsland 0x12 (fun d => d.compDone agree (stored.map (fun b => b.toNat)))

/-- The job fields of a write of SEA_JOB (R765): ignored while a job runs, whatever it carries (00 R7). -/
def Dev.jobFields (d : Dev) (v : Nat) : Dev :=
  let x := [(F.SEA_JOB_INLEN_LAST, slice v 16 8), (F.SEA_JOB_L64, slice v 13 1), (F.SEA_JOB_KEYLEN, slice v 7 6), (F.SEA_JOB_CUSTLEN, slice v 3 4)]
  if d.on F.SEA_STAT_JOB then d.put F.SEA_JOB_WR_IGN 1
  else d.each x (fun d p => d.put p.1 p.2)

/-- A write of SEA_JOB (R751, R765): WR_IGN is cleared by a 1, then GO and FINISH act. -/
def Dev.jobWrite (d : Dev) (v : Nat) : Dev :=
  let d := if v.testBit 29 then d.put F.SEA_JOB_WR_IGN 0 else d
  let d := d.jobFields v
  let d := if !v.testBit 31 then d
    else if d.on F.SEA_STAT_JOB then d.put F.SEA_JOB_WR_IGN 1
    else
      let d := { d with sea := { d.sea with input := [], finished := false } }
      (d.put F.SEA_STAT_JOB 1).askComp { cls := 3, data := d.sea.key }
  if !v.testBit 30 then d
  else if !d.on F.SEA_STAT_JOB || d.sea.finished then d.put F.SEA_JOB_WR_IGN 1
  else { d with sea := { d.sea with finished := true } }

/-- SEA_JOB_GO (R751): a write of SEA_JOB with GO set; `v` its other bits. -/
def execSeaJobGo (v : BitVec 31) (s : State) : Out := s.runCore (fun d => d.jobWrite (2 ^ 31 + v.toNat))

/-- A 64-bit write of SEA_DATA (R751): ignored with no job, or after FINISH. -/
def Dev.seaData (d : Dev) (v : Nat) : Dev :=
  if d.on F.SEA_STAT_JOB && !d.sea.finished then { d with sea := { d.sea with input := d.sea.input ++ leBytes 8 v } }
  else d.put F.SEA_JOB_WR_IGN 1

/-- SEA_DATA_WRITE (R751). -/
def execSeaDataWrite (v : BitVec 64) (s : State) : Out := s.runCore (fun d => d.seaData v.toNat)

/-- SEA_JOB_FINISH (R751): a write of SEA_JOB with FINISH set and GO clear; `v` its bits below. -/
def execSeaJobFinish (v : BitVec 30) (s : State) : Out := s.runCore (fun d => d.jobWrite (2 ^ 30 + v.toNat))

/-! ### Presence and the seal loop -/

/-- A millisecond passes in the blocks whose times the spec counts in milliseconds and gives no command of their own (log entry 30). -/
def Dev.msTick (d : Dev) : Dev :=
  let d := { d with mod := { d.mod with bootMs := d.mod.bootMs + 1, clockMs := d.mod.clockMs + 1 } }
  let d := { d with shps := d.shps.map (fun (x : Shp) => { x with acqMs := x.acqMs + 1, parkMs := x.parkMs + 1, fltAges := x.fltAges.map (fun (a : Option Nat) => a.map (fun m => m + 1)) }) }
  let d := { d with drv := { d.drv with tailMs := if d.drv.tail.isEmpty then 0 else d.drv.tailMs + 1 } }
  ({ d with ddr := { d.ddr with migs := d.ddr.migs.map (fun (m : Migration) => { m with ms := m.ms + 1 }) } }).millMs

/-- PRES_J is sampled (R753 to R755). -/
def Dev.presSample (d : Dev) (low : Bool) : Dev :=
  let d := d.flag F.PRS_STAT_JUMPER low
  let d := d.put F.PRS_HOLD_MS (if low then min 65535 (d.get F.PRS_HOLD_MS + 1) else 0)
  let d := { d with prs := { d.prs with highRun := if low then 0 else min 100 (d.prs.highRun + 1) } }
  let d := if d.on F.PRS_STAT_PRESENT then
      let left := d.prs.msLeft - 1
      { d with prs := { d.prs with msLeft := left } }.put F.PRS_STAT_REMAIN_S (ceilDiv left 1000)
    else d
  let d := if d.on F.PRS_STAT_REARM_WAIT && !d.on F.PRS_STAT_PRESENT && d.prs.highRun = 100 then d.put F.PRS_STAT_REARM_WAIT 0 else d
  if d.get F.PRS_HOLD_MS = 2000 && !d.on F.PRS_STAT_REARM_WAIT && !d.on F.PRS_STAT_PRESENT then d.presenceBegins else d

/-- PRES_SAMPLE (R753 to R755): `low` is the jumper's level; the millisecond of the device's own counts passes with it. -/
def execPresSample (low : Bool) (s : State) : Out := s.run (fun d => if !d.mod.porstHigh then d else (d.msTick).presSample low)

/-- PRESENCE_EXPIRE (R754). -/
def execPresenceExpire (s : State) : Out := s.run (fun d => d.presenceEnds 0)

/-- PRS_REVOKE_WRITE (R754). -/
def execPrsRevokeWrite (s : State) : Out := s.runCore (fun d => d.presenceEnds 1)

/-- SEAL_A takes its next bit and SEAL_B is sampled at level `b` (R760 to R762). -/
def Dev.sealSample (d : Dev) (b : Bool) : Dev :=
  if !d.on F.PRS_STAT_LOOP_FITTED then { d with pins := { d.pins with sealA := false } }
  else
    let a := d.prs.lfsr % 2 == 1
    let d := { d with pins := { d.pins with sealA := a }, prs := { d.prs with
      lfsr := lfsrNext d.prs.lfsr,
      differ := if a == b then 0 else min 4 (d.prs.differ + 1),
      same := if a == b then min 64 (d.prs.same + 1) else 0 } }
    let d := if a == b then d else d.inc F.PRS_LOOP_MISMATCH
    if d.prs.differ = 4 then d.loopChanged true else if d.prs.same = 64 then d.loopChanged false else d

/-- SEAL_LOOP_SAMPLE (R761, R762). -/
def execSealLoopSample (b : Bool) (s : State) : Out := s.run (fun d => if d.mod.porstHigh then d.sealSample b else d)

/-- SEAL_ENTRY_APPEND (R736, R762): the oldest pending entry, while the CORE domain is on. -/
def execSealEntryAppend (how : AppendEnd) (s : State) : Out := s.runIsland 0x11 (fun d => if !d.powered 1 || d.harvesting then d else d.talPendingOne how)

/-! ### The JTAG port (R759, 21 R866) -/

def jtagExtest : Nat := 0x00
def jtagIdcode : Nat := 0x01
def jtagSample : Nat := 0x02
def jtagDbg : Nat := 0x10
def jtagOtpprog : Nat := 0x20
def jtagBypass : Nat := 0xFF

/-- An instruction is in force, and its data register captures `v`. -/
def Dev.setIr (d : Dev) (i v : Nat) : Dev := { d with pins := { d.pins with ir := i, dr := v } }

/-- The bypass register is selected. -/
def Dev.bypass (d : Dev) : Dev := d.setIr jtagBypass 0

/-- An instruction that DEBUG gates: the bypass register is selected while DEBUG reads 0. -/
def Dev.gatedIr (d : Dev) (f : Dev → Dev) : Dev := if d.on F.TAL_STAT_DEBUG then f d else d.bypass

/-- The boundary register captures the balls: the spec gives no order of its cells, and the capture is a free value (log entry 5). -/
def Dev.captureIr (d : Dev) (i : Nat) : Dev := let v := d.fresh; v.2.setIr i v.1

/-- Does EXTEST drive the balls: only in SAFE, and only while DEBUG reads 1? -/
def Dev.extestDrives (d : Dev) : Bool := d.pins.ir == jtagExtest && d.mod.mode == Mode.safe && d.on F.TAL_STAT_DEBUG

/-- JTAG_BYPASS. -/
def execJtagBypass (s : State) : Out := s.run Dev.bypass

/-- JTAG_IDCODE: version 0, part number 0x8420, manufacturer field 0x2A3. -/
def execJtagIdcode (s : State) : Out := s.run (fun d => d.setIr jtagIdcode 0x08420547)

/-- JTAG_SAMPLE_PRELOAD: `pattern` is shifted in. -/
def Dev.jtagSamplePreloadAct (d : Dev) (pattern : Nat) : Dev :=
  d.gatedIr (fun d =>
   let d := d.captureIr jtagSample
   { d with pins := { d.pins with boundary := pattern } })

/-- JTAG_SAMPLE_PRELOAD acts as `Dev.jtagSamplePreloadAct` says. -/
def execJtagSamplePreload (pattern : Nat) (s : State) : Out := s.run (fun d => d.jtagSamplePreloadAct pattern)

/-- JTAG_EXTEST: the preloaded pattern stands at the balls in SAFE; in another mode the instruction acts as SAMPLE/PRELOAD. -/
def Dev.jtagExtestAct (d : Dev) (pattern : Nat) : Dev :=
  d.gatedIr (fun d =>
   let d := d.captureIr (if d.mod.mode = Mode.safe then jtagExtest else jtagSample)
   { d with pins := { d.pins with boundary := pattern } })

/-- JTAG_EXTEST acts as `Dev.jtagExtestAct` says. -/
def execJtagExtest (pattern : Nat) (s : State) : Out := s.run (fun d => d.jtagExtestAct pattern)

/-- JTAG_DBG: the debug module's register is selected; what the module does with it is the RISC-V debug specification's, which this spec
does not give (log entry 43). -/
def execJtagDbg (s : State) : Out := s.run (fun d => d.gatedIr (fun d => d.captureIr jtagDbg))

/-- JTAG_OTPPROG (R723, R740, R759): accepted only while ROOT_LOCK reads 0 and PRESENT or DEBUG reads 1; ROOTKEY_DIGEST is programmed
and ROOT_LOCK is set, from which the entries, the security floor and the openings count. -/
def Dev.jtagOtpprogAct (d : Dev) (digest : BitVec 512) : Dev :=
  if d.on F.TAL_STAT_ROOT_LOCK || !(d.on F.PRS_STAT_PRESENT || d.on F.TAL_STAT_DEBUG) then d.bypass
  else
    let d := (d.putDigest F.TAL_ROOT_BYTES (leBytes 64 digest.toNat)).setIr jtagOtpprog 0
    (((d.put F.TAL_STAT_ROOT_LOCK 1).put F.TAL_SVN_FLOOR_FLOOR 0).put F.TAL_INDEX_VALUE 0).put F.PRS_COUNT_OPENINGS 0

/-- JTAG_OTPPROG acts as `Dev.jtagOtpprogAct` says. -/
def execJtagOtpprog (digest : BitVec 512) (s : State) : Out := s.run (fun d => d.jtagOtpprogAct digest)

/-- JTAG_TAP_RESET (21 R866): IDCODE is the instruction after a reset of the TAP, as IEEE 1149.1 has it (PRESUMED, log entry 44). -/
def execJtagTapReset (s : State) : Out := s.run (fun d => d.setIr jtagIdcode 0x08420547)

end Sys2Proof.Machine
end

