-- ==== Sys2Proof/Machine/WritePath.lean ====
section
/-! DEFINITION. The write path (spec/11): sector buffers, segments and sectors, the reports to the Drover, write verify, the shock
sources and the runtime's inhibit. -/

namespace Sys2Proof.Machine

/-! ### Passes end -/

/-- A write pass whose last sector has left the channel is done: its piece leaves the table. -/
def Dev.passDone (d : Dev) (s : Nat) : Dev :=
  let c := d.wchan s
  if !c.queue.isEmpty || c.cur.isSome then d
  else
    match d.heldPiece s with
    | some p => if p.why.kind = .writePass then d.dropPiece p.id else d
    | none => d

/-! ### Segments and sectors (11 R427, R437, R439, R444) -/

/-- The sector at the front leaves the channel with a report. -/
def Dev.skipSector (d : Dev) (s : Nat) (x : WSector) (code : Nat) : Dev :=
  let c := d.wchan s
  (((d.setWchan s { c with queue := c.queue.drop 1 }).showBuffers s).sectorReport s x code).passDone s

/-- The zone, the index and the track of a sector where its stripe lies (10 R376, R377; 17 R676). -/
def Dev.sectorPlace (d : Dev) (x : WSector) : Option (Zone × Spot) :=
  (d.memberPlace x.stripe x.member).map (fun p => (d.zone (d.zoneOf p.track), p))

/-- The first bits of a sector's later segments (11 R425; 10 R377). -/
def Dev.segmentBreaks (d : Dev) (x : WSector) : List Nat :=
  match d.sectorPlace x with
  | some z => sectorBreaks z.1 d.wedges z.2.idx
  | none => []

/-- Eight bits before a segment: the next sector's gate opens, or the sector is reported; a sector in progress goes on into its next segment after a
servo window (11 R422, R425, R427, R437). -/
def Dev.segmentStart (d : Dev) (s : Nat) : Dev :=
  let c := d.wchan s
  if !d.powered (3 + s / 2) then d
  else if c.cur.isSome then
    if c.windowed && d.gateOn s then d.setWchan s { c with segment := c.segment + 1, windowed := false } else d
  else
    match c.queue with
    | [] => d
    | x :: l =>
      let may := d.gateOn s || ((d.shpCh (s / 2) (s % 2)).permit && d.writeOk (s / 2) (s % 2))
      if d.inhibited then d.skipSector s x 2
      else if !x.loaded then (d.skipSector s x 3).post 0x2207 [s, x.lba % 2 ^ 32]
      else if !may then d.skipSector s x 2
      else (d.setWchan s { c with queue := l, cur := some x, segment := 0, windowed := false }).putI F.WCH_W_STAT_STATE s wWriting

/-- The bits a channel sends for a sector, from START on (11 R423). -/
def Dev.sentBits (d : Dev) (x : WSector) : List Bool :=
  match d.sectorPlace x with
  | some z => writtenSector (codeOf d.zoneTab z.1.code) z.2.track z.2.idx x.bytes
  | none => []

/-- Does every check of the code hold over the codeword sent, where the encoder has sent the bits at `flips` wrong (11 R424)? -/
def Dev.sentHolds (d : Dev) (x : WSector) (flips : List Nat) : Bool :=
  match d.sectorPlace x with
  | some z =>
    let w := (((d.sentBits x).drop 160).take (codeBits z.1.code)).toArray
    (codeOf d.zoneTab z.1.code).unsat (flips.foldl (fun (w : Array Bool) i => w.setIfInBounds i (!w.getD i false)) w) == 0
  | none => flips.isEmpty

/-- A segment under way: its first bit and its bits, how many bits after its first bit the gate falls (11 R427). -/
structure Segment where
  first : Nat
  bits : Nat
  gate : Nat
  deriving DecidableEq, Repr

/-- The segment that a channel writes (11 R425, R427): the gate falls GUARD / 2 bits before the next servo window, or at the end of the gap of the last
written sector, whichever comes first. -/
def Dev.segment (d : Dev) (s : Nat) : Option Segment :=
  let c := d.wchan s
  match c.cur with
  | none => none
  | some x =>
    (d.sectorPlace x).map (fun z =>
      let brk := d.segmentBreaks x
      let lo := if c.segment = 0 then 0 else at' brk (c.segment - 1) 0
      let hi := at' brk c.segment (192 + codeBits z.1.code)
      let pos := if c.segment = 0 then (at' (sectorStarts z.1 d.wedges) z.2.idx (0, 0)).2 else 0
      let room := dataRegionBits z.1 - pos + (z.1.guard - z.1.guard / 2)
      let more := match c.queue with | y :: _ => y.loaded | [] => false
      ⟨lo, hi - lo, if c.segment < brk.length || more then room else min room (hi - lo + z.1.gap)⟩)

/-- The level of PAn_WG `t` bit periods after the first bit of the segment under way (11 R427): from 8 before it, unless the kill net holds it
(R434). -/
def Dev.gateLevel (d : Dev) (s : Nat) (t : Int) : Bool :=
  match d.segment s with
  | none => false
  | some g => d.gateOn s && !(d.wchan s).windowed && !d.inhibited && decide (-8 ≤ t) && decide (t < g.gate)

/-- The level of PAn_WA (11 R428, R429): from WA_LEAD before the first bit to WA_LAG after the last, and only while the gate is active. -/
def Dev.assistLevel (d : Dev) (s : Nat) (t : Int) : Bool :=
  match d.segment s with
  | none => false
  | some g => d.gateLevel s t && decide (-(d.getI F.WCH_W_ASSIST_WA_LEAD s : Int) ≤ t) && decide (t < g.bits + d.getI F.WCH_W_ASSIST_WA_LAG s)

/-- The level of PAn_WDP (11 R423, R425, R427): the bits of the segment, a written 0 through the gap. -/
def Dev.dataLevel (d : Dev) (s : Nat) (t : Nat) : Bool :=
  match d.segment s, (d.wchan s).cur with
  | some g, some x => if t < g.bits then at' (d.sentBits x) (g.first + t) false else false
  | _, _ => false

/-- How early, in 64ths of a bit, a transition into bit `k` of the bits sent is driven (11 R426); none where there is no transition. -/
def Dev.precomp (d : Dev) (s : Nat) (b : List Bool) (k : Nat) : Option Nat :=
  let v := fun (i : Nat) => if i < 2 then false else at' b (i - 2) false
  let k := k + 2
  if v (k - 1) == v k then none
  else
    let pc := [d.getI F.WCH_W_ZONE_PC_0 s, d.getI F.WCH_W_ZONE_PC_1 s, d.getI F.WCH_W_ZONE_PC_2 s, d.getI F.WCH_W_ASSIST_PC_3 s]
    some (at' pc (2 * (v (k - 2) != v (k - 1)).toNat + (v k != v (k + 1)).toNat) 0)

/-- The VGA gain of a lane (09 R326; 11 R431): held at 0 on lane B of a stream whose channel writes. -/
def Dev.vgaGain (d : Dev) (lane : Nat) : Nat :=
  if lane % 2 = 1 && d.gateOn (lane / 2) then 0 else d.getI F.RCH_S_LANE_AFE_GAIN lane

/-- Does write verify apply to a sector (11 R442)? -/
def Dev.verifyApplies (d : Dev) (x : WSector) : Bool :=
  let m := d.get F.WCH_VERIFY_MODE
  m == 2 || (m == 1 && d.drv.wb.any (fun (w : WriteBack) => w.lba == x.lba && w.tile == x.tile && w.ctx != 0))

/-- A sector waits for its verify read, which is filed as a piece (11 R443; 17 R685). -/
def Dev.fileVerify (d : Dev) (s : Nat) (x : WSector) : Dev :=
  let c := d.wchan s
  let d := d.setWchan s { c with verify := c.verify ++ [x] }
  match d.memberPlace x.stripe x.member with
  | none => d
  | some p => d.fileReads { kind := .verifyRead, verifies := some (s, x.seq) } 0 0 none [(p, ⟨p.idx, x.tag, x.stripe, x.member⟩)]

/-- An encoder check has failed on a channel (11 R424). -/
def Dev.encodeFails (d : Dev) (s : Nat) (x : WSector) : Dev :=
  let n := min 3 (d.getI F.WCH_W_STAT_ENC_FAILS s + 1)
  let d := ((d.putI F.WCH_W_STAT_ENC_FAILS s n).put F.WCH_INT_STAT_ENCODE 1).tear s x 1
  let d := d.post 0x2209 [s, n, if 2 ≤ n then 1 else 0]
  if 2 ≤ n then d.fenceStream s else d

/-- The postamble of the sector being written ends, in its last segment: `flips` are the codeword bits that the encoder has sent wrong; `mon` holds the
assist-monitor codes of its segments (11 R424, R431, R439 to R443). -/
def Dev.sectorEnd (d : Dev) (s : Nat) (flips : List Nat) (mon : List Int) : Dev :=
  let c := d.wchan s
  match c.cur with
  | none => d
  | some x =>
    if !d.gateOn s || c.windowed || c.segment < (d.segmentBreaks x).length then d
    else
      let c := { c with cur := none, monSum := c.monSum + mon.foldl (fun (a : Int) v => a + v) 0, monN := c.monN + mon.length }
      let next := match c.queue with | y :: _ => y.loaded | [] => false
      let checks := d.sentHolds x flips
      let d := ((d.setWchan s c).showBuffers s).putI F.WCH_W_STAT_STATE s (if next then wWriting else wIdle)
      let d := if !checks then d.encodeFails s x
        else if d.verifyApplies x then d.fileVerify s x
        else d.sectorReport s x 0
      d.passDone s

/-! ### Shock sources and the runtime's inhibit (11 R434 to R438) -/

/-- A comparator trips. -/
def Dev.shockTrip (d : Dev) (n : Nat) : Dev :=
  { d with wch := { d.wch with tripped := withBit d.wch.tripped n true, holding := false } }.killAssert n

/-- SHK_HOLD starts once no comparator is tripped. -/
def Dev.startHold (d : Dev) : Dev :=
  if d.wch.tripped != 0 || d.wch.testing then d
  else if d.bit F.WCH_INHIBIT_SOURCES 0 || d.bit F.WCH_INHIBIT_SOURCES 1 || d.bit F.WCH_INHIBIT_SOURCES killTest then
    { d with wch := { d.wch with holding := true } }
  else d

/-- A comparator returns inside its release window. -/
def Dev.shockRelease (d : Dev) (n : Nat) : Dev :=
  { d with wch := { d.wch with tripped := withBit d.wch.tripped n false } }.startHold

/-- SHK_HOLD ends: the shock sources release, and the heads that are to write are waited for (11 R436). -/
def Dev.holdExpire (d : Dev) : Dev :=
  if !d.wch.holding then d
  else
    let writers := (List.range 8).filter (fun s => match d.heldPiece s with | some p => p.why.kind == .writePass | none => false)
    let d := { d with wch := { d.wch with holding := false, await := writers } }
    let d := d.each writers (fun d s => d.setCh (s / 2) (s % 2) (fun c => { c with shockRun := 0 }))
    let d := d.each [killShkLin, killShkRot, killTest] (fun d k => d.setBit F.WCH_INHIBIT_SOURCES k false)
    d.inhibitCheck

/-- The 1 µs trip of SHK_TEST ends. -/
def Dev.shkTestEnd (d : Dev) : Dev :=
  if !d.wch.testing then d
  else ({ d with wch := { d.wch with testing := false } }.post 0x2208 [d.wch.tripped]).startHold

/-- A write of WCH_SHK (11 R446): a zero threshold is ignored. -/
def Dev.shkWrite (d : Dev) (v : Nat) : Dev :=
  let d := d.put F.WCH_SHK_HOLD (slice v 16 16)
  let d := if slice v 8 8 = 0 then d else d.put F.WCH_SHK_ROT_THR (slice v 8 8)
  if slice v 0 8 = 0 then d else d.put F.WCH_SHK_LIN_THR (slice v 0 8)

/-- Writes of 1 to WCH_CTRL: FORCE (11 R434), RELEASE (R436, R445), SHK_TEST (R438). -/
def Dev.forceInhibit (d : Dev) : Dev := (d.put F.WCH_CTRL_FORCE 1).killAssert killForce
def Dev.releaseInhibit (d : Dev) : Dev := (d.put F.WCH_CTRL_FORCE 0).killRelease killForce
def Dev.shkTest (d : Dev) : Dev := { d with wch := { d.wch with testing := true, holding := false } }.killAssert killTest

/-! ### The commands -/

/-- SEGMENT_START (11 R422, R427, R437, R444; 06 R236). -/
def execSegmentStart (st : Fin 8) (s : State) : Out := s.runPort 0x08 (st.val / 2) (fun d => d.segmentStart st.val)

/-- WRITE_SECTOR_END (11 R424, R431, R439 to R443). -/
def execWriteSectorEnd (st : Fin 8) (flips : List Nat) (mon : List Int) (s : State) : Out :=
  s.runPort 0x08 (st.val / 2) (fun d => d.sectorEnd st.val flips mon)

/-- SHOCK_TRIP (11 R435): 0 SHK_LIN, 1 SHK_ROT. -/
def execShockTrip (n : Fin 2) (s : State) : Out := s.runCore (fun d => d.shockTrip n.val)

/-- SHOCK_RELEASE (11 R435). -/
def execShockRelease (n : Fin 2) (s : State) : Out := s.runCore (fun d => d.shockRelease n.val)

/-- SHK_HOLD_EXPIRE (11 R436). -/
def execShkHoldExpire (s : State) : Out := s.runCore Dev.holdExpire

/-- WCH_FORCE_WRITE (11 R434). -/
def execWchForceWrite (s : State) : Out := s.runCore Dev.forceInhibit

/-- WCH_RELEASE_WRITE (11 R436, R445). -/
def execWchReleaseWrite (s : State) : Out := s.runCore Dev.releaseInhibit

/-- WCH_SHK_TEST_WRITE (11 R438). -/
def execWchShkTestWrite (s : State) : Out :=
  s.runCore Dev.shkTest

/-- SHK_TEST_END (11 R438). -/
def execShkTestEnd (s : State) : Out := s.runCore Dev.shkTestEnd

/-- WCH_SHK_WRITE (11 R435, R446). -/
def execWchShkWrite (v : BitVec 32) (s : State) : Out := s.runCore (fun d => d.shkWrite v.toNat)

/-- TILE_USE (12 R495, R496; 11 R421): a checked use of a whole tile; `intact` is false where the bytes read differ from the bytes
the devices were given. -/
def Dev.tileUseAct (d : Dev) (u : TileUser) (intact : Bool) : Dev :=
  if !d.powered 8 then d
  else
    match u with
    | .channel st => d.loadSector st.val intact
    | .porter t => (d.tileUse t 1 intact).1
    | .parity t => (d.tileUse t 2 intact).1

/-- TILE_USE acts as `Dev.tileUseAct` says. -/
def execTileUse (u : TileUser) (intact : Bool) (s : State) : Out := s.runIsland 0x09 (fun d => d.tileUseAct u intact)

/-- VERIFY_READ (11 R443): the decode of the verify read in front of the slice that serves a stream. -/
def execVerifyRead (st : Fin 8) (fault : DecodeFault) (s : State) : Out :=
  s.runIsland 0x07 (fun d => match d.sliceOf st.val with | some q => d.passEnd q true fault | none => d)

end Sys2Proof.Machine
end

