-- ==== Sys2Proof/Machine/Access.lean ====
section
/-! DEFINITION. A write to a register by its address (spec/00 R5 to R10), a read of one (R11), and the accesses of a Reeve core
(spec/01 R33 to R45; 19 R779, R781). Where one write sets several acting bits, they act from the lowest up (log entry 50). -/

namespace Sys2Proof.Machine

/-! ### Writes by block -/

/-- The source an island has, or is switching to (02 R70). -/
def Dev.islandSource (d : Dev) (i : Nat) : Nat := (at' d.clk.swTo i none).getD (d.getI F.CLK_ISL_STAT_SRC_NOW i)

/-- CLK_ISL_CTRL (02 R64, R70, R72, R75, R82): a write whose SRC is not the island's source is a source switch write, and one that is refused
is ignored whole (log entry 9). -/
def Dev.islCtrlWrite (d : Dev) (v : Nat) : Dev :=
  let i := d.get F.CLK_ISL_SEL_ISLAND
  if 0x1C < i then d
  else if aonIsland i then d.islandIgnore i
  else
    let src := slice v 0 2
    let moved := if src = d.islandSource i then d.putI F.CLK_ISL_CTRL_SRC i src else d.islandSwitch src
    if moved.islandSource i != src then moved
    else if v.testBit 2 && !d.onI F.CLK_ISL_CTRL_GATE i then moved.islandGate
    else if !v.testBit 2 && d.onI F.CLK_ISL_CTRL_GATE i then moved.islandUngate
    else moved

/-- CLK_PD_CTRL (02 R77, R80): each bit that changes is a request of its domain. -/
def Dev.pdCtrlWrite (d : Dev) (v : Nat) : Dev :=
  d.each ((List.range 10).filter (fun n => v.testBit n != d.bit F.CLK_PD_CTRL_ON n)) (fun d n =>
    if v.testBit n then d.powerUpRequest n else d.powerDownRequest n)

def Dev.clkWrite (d : Dev) (row : RegRow) (inst off v : Nat) : Dev :=
  if 0x20 ≤ off && off < 0x48 && off % 8 = 0 then (if v.testBit 0 then d.pllEnable inst else d.pllDisable inst)
  else if off = 0x84 then d.islCtrlWrite v
  else if off = 0x88 then
    let i := d.get F.CLK_ISL_SEL_ISLAND
    if 0x1C < i then d else d.writeRow row i v true
  else if off = 0xA0 then d.pdCtrlWrite v
  else if off = 0xA8 then (if v.testBit 31 then d.put F.CLK_PD_DROPWR_COUNT 0 else d)
  else d.writeRow row inst v true

def Dev.modWrite (d : Dev) (row : RegRow) (inst off v : Nat) : Dev :=
  if off = 0x0C then d.modRequest (v % 8)
  else if off = 0x10 then (if v.testBit 0 then d.reboot else d)
  else if off = 0x14 then d.idleWrite 2 (v % 2 ^ 17)
  else if off = 0x18 then d.idleWrite 3 (v % 2 ^ 17)
  else if off = 0x1C then d.idleWrite 4 (v % 2 ^ 13)
  else d.writeRow row inst v true

/-- The Shepherds (06 R221, R237, R252, R253). -/
def Dev.shpWrite (d : Dev) (row : RegRow) (inst off v : Nat) : Dev :=
  if off = 0x40 then (if v.testBit 31 then d.paGo inst v else d.writeRow row inst v true)
  else if off = 0x50 then
    (d.putI F.SHP_CTRL_RVFF_EN inst (slice v 1 1)).when (v.testBit 0) (fun d => d.fenceActuator inst)
  else d.writeRow row inst v true

/-- The loop engines (08 R313, R314). -/
def Dev.lpeWrite (d : Dev) (row : RegRow) (inst off v : Nat) : Dev :=
  if off < 0x100 then d.writeRow row inst v true
  else
    let r := (off - 0x100) / 0x40
    let o := (off - 0x100) % 0x40
    if o = 0 then (d.when (v.testBit 0) (fun d => d.ctrlClose r)).when (v.testBit 1) (fun d => d.ctrlOpen r)
    else d.coefWrite r o v

/-- The read front ends (09 R354, R367, R368). -/
def Dev.rchBlockWrite (d : Dev) (row : RegRow) (inst off v : Nat) : Dev :=
  if off < 0x100 then d.writeRow row inst v true
  else
    let s := (off - 0x100) / 0x100
    let o := (off - 0x100) % 0x100
    if o = 0 then (d.when (v.testBit 0) (fun d => d.rchFence s)).when (v.testBit 1) (fun d => d.rchReseed s)
    else d.rchWrite s o v

/-- The slices (10 R411, R412). -/
def Dev.detWrite (d : Dev) (row : RegRow) (inst off v : Nat) : Dev :=
  if 0x100 ≤ off && (off - 0x100) % 0x80 = 0 then (d.when (v.testBit 0) (fun d => d.detFence inst)).when (v.testBit 1) (fun d => d.detKat inst)
  else d.writeRow row inst v true

/-- The write channels (11 R434 to R438, R446). -/
def Dev.wchWrite (d : Dev) (row : RegRow) (inst off v : Nat) : Dev :=
  if off = 4 then
    ((d.when (v.testBit 0) Dev.forceInhibit).when (v.testBit 1) Dev.releaseInhibit).when (v.testBit 2) Dev.shkTest
  else if off = 0x0C then d.shkWrite v
  else d.writeRow row inst v true

/-- The metadata cache (13 R508, R515 to R524): fields of regions beyond the capacity keep their values. -/
def Dev.mccWrite (d : Dev) (row : RegRow) (inst off v : Nat) : Dev :=
  if off = 4 then (if v.testBit 0 then d.cacheEnable else d.cacheDrain)
  else if off = 0x0C then d.lockWrite v
  else if 0x20 ≤ off && off < 0x30 then
    d.each ((List.range 8).filter (fun j => (8 * inst + j) * 2 ^ 30 < d.capacity)) (fun d j =>
      (d.putI (attrField F.MCC_ATTR_POLICY0 j) inst (slice v (4 * j) 2)).putI (attrField F.MCC_ATTR_PREFETCH0 j) inst (slice v (4 * j + 3) 1))
  else if off = 0x3C then
    if v % 4 = 3 then d.mccIgnored 0x3C
    else if v.testBit 31 then d.maintGo (v % 4)
    else d.put F.MCC_MAINT_CTRL_OP v
  else d.writeRow row inst v true

/-- The Porter (14 R551, R564, R580 to R582). -/
def Dev.porBlockWrite (d : Dev) (row : RegRow) (inst off v : Nat) : Dev :=
  if off = 8 then d.ownerWrite v
  else if off = 0x0C then d.swreqWrite v
  else if 0x100 ≤ off then d.chanWrite ((off - 0x100) / 0x80) ((off - 0x100) % 0x80) v
  else d.writeRow row inst v true

/-- The host interface: the ring page is read-only to the cores (15 R617). -/
def Dev.hifWrite (d : Dev) (row : RegRow) (inst off v : Nat) (byHost : Bool) : Dev :=
  if off < 0x1000 then (if byHost then d else d.writeRow row inst v true)
  else if !byHost then d
  else if off < 0x1200 then
    let r := (off - 0x1000) / 0x20
    let o := off % 0x20
    if o = 0 then d.ringSet r 0 v
    else if o = 4 then d.ringSet r 1 v
    else if o = 8 then d.ringCfg r v
    else if o = 0x0C then d.headWrite r v
    else d.writeRow row inst v true
  else d.writeRow row inst v true

/-- The Tally (18 R764). -/
def Dev.talWrite (d : Dev) (row : RegRow) (inst off v : Nat) : Dev :=
  if off = 0x20 then
    if v.testBit 31 then d.talStart (v % 256) none else d.put F.TAL_APPEND_KIND v
  else d.writeRow row inst v true

/-- The Seal engine (18 R751, R765): SEA_CUST keeps its value while a job runs; the key's bytes are no register that can be read. -/
def Dev.seaWrite (d : Dev) (row : RegRow) (inst off v : Nat) : Dev :=
  if off = 8 then d.jobWrite v
  else if off = 0x0C || off = 0x10 then
    if d.on F.SEA_STAT_JOB then d.put F.SEA_JOB_WR_IGN 1 else d.writeRow row inst v true
  else if 0x40 ≤ off && off < 0x80 then
    { d with sea := { d.sea with key := d.sea.key.take (4 * inst) ++ leBytes 4 v ++ d.sea.key.drop (4 * inst + 4) } }
  else d.writeRow row inst v true

/-- The Watch (19 R778, R780, R783, R789). -/
def Dev.watBlockWrite (d : Dev) (row : RegRow) (inst off v : Nat) : Dev :=
  if off = 8 then d.when (v.testBit 0) Dev.forceSafe
  else if off = 0x0C then d.faultnWrite (v.testBit 0)
  else if 0x24 ≤ off && off < 0x34 then d.when (v.testBit 0) (fun d => d.watWrite (fun d => d.kick inst))
  else d.watWrite (fun d => d.writeRow row inst v true)

/-- The Day-Book (19 R803 to R807). -/
def Dev.dbkWrite (d : Dev) (row : RegRow) (inst off v : Nat) : Dev :=
  if off = 8 then (if v.testBit 0 then d.startFreeze else d.endFreeze false).when (v.testBit 1) Dev.nextRecord
  else if off = 0x18 then d.writeCursor (v % 2 ^ 32 + 2 ^ 32 * d.get F.DBK_CURSOR_HI_CURSOR)
  else if off = 0x1C then d.writeCursor (d.get F.DBK_CURSOR_LO_CURSOR + 2 ^ 32 * (v % 2 ^ 16))
  else d.writeRow row inst v true

/-- The balls (21 R871). -/
def Dev.pioWrite (d : Dev) (row : RegRow) (inst off v : Nat) : Dev :=
  if off = 4 then d.gpioFn v
  else if off = 0x10 then d.gpioPull v
  else if off = 0x20 then d.uartCfg v
  else if off = 0x28 then d.uartTx (v % 256)
  else if off = 0x30 then d.when (v.testBit 0) Dev.uartPop
  else d.writeRow row inst v true

/-- A 32-bit write at an internal address of a block region: nothing where no register lies (00 R10), dropped where its domain is off
(02 R81), else what the register's block does with it. -/
def Dev.storeReg (d : Dev) (addr v : Nat) (byHost : Bool) : Dev :=
  match regFind addr with
  | none => d
  | some x =>
    let off := addr % 0x10000
    d.inPower (rowDomain x.1 x.2) (fun d =>
      match (addr - 0x20000000) / 0x10000 with
      | 0 => d.clkWrite x.1 x.2 off v
      | 2 => d.modWrite x.1 x.2 off v
      | 4 => d.shpWrite x.1 x.2 (off % 0x4000) v
      | 5 => d.lpeWrite x.1 x.2 off v
      | 6 => d.rchBlockWrite x.1 x.2 off v
      | 7 => d.detWrite x.1 x.2 off v
      | 8 => d.wchWrite x.1 x.2 off v
      | 10 => if off = 0x10 then d.mapWrite false v else if off = 0x14 then d.mapWrite true v else d.writeRow x.1 x.2 v true
      | 11 => d.mccWrite x.1 x.2 off v
      | 12 => if off = 8 then d.flipArm v else d.writeRow x.1 x.2 v true
      | 13 => d.porBlockWrite x.1 x.2 off v
      | 14 => d.hifWrite x.1 x.2 off v byHost
      | 15 => if off = 4 then d.setPause (v.testBit 0) else d.writeRow x.1 x.2 v true
      | 17 => d.talWrite x.1 x.2 off v
      | 18 => d.seaWrite x.1 x.2 off v
      | 19 => if off = 0x14 then d.when (v.testBit 0) (fun d => d.presenceEnds 1) else d.writeRow x.1 x.2 v true
      | 20 => d.watBlockWrite x.1 x.2 off v
      | 21 => d.dbkWrite x.1 x.2 off v
      | 23 => d.pioWrite x.1 x.2 off v
      | _ => d.writeRow x.1 x.2 v true)

/-- A 64-bit write to a register pair, as one access (00 R6): of a domain that is off it is one dropped write (02 R81). -/
def Dev.storePair (d : Dev) (addr v : Nat) (byHost : Bool) : Dev :=
  match regFind addr with
  | none => d
  | some x =>
    d.inPower (rowDomain x.1 x.2) (fun d =>
      if addr = 0x20120018 then d.seaData v
      else if addr = 0x20150018 then d.writeCursor (v % 2 ^ 48)
      else if 0x200E1000 ≤ addr && addr < 0x200E1200 && byHost then d.ringSet ((addr - 0x200E1000) / 0x20) 3 v
      else (d.storeReg addr (v % 2 ^ 32) byHost).storeReg (addr + 4) (v / 2 ^ 32) byHost)

/-! ### Reads -/

/-- The entry that the window of TAL_SEL shows; an absent one is zero (18 R764). -/
def Dev.talShown (d : Dev) : List Nat :=
  let i := d.get F.TAL_SEL_INDEX
  if i = 2 ^ 32 - 1 then d.tal.attest else (d.talEntry i).getD []

/-- The macro that SRM_SEL shows; none above 95 (13 R544). -/
def Dev.macroShown (d : Dev) : Option Macro :=
  let m := d.get F.SRM_SEL_MACRO
  if 95 < m then none else some (d.macro m)

/-- A field of the macro shown. -/
def Dev.macroField (d : Dev) (key i : Nat) : Nat :=
  match d.macroShown with
  | none => 0
  | some m =>
    if key = F.SRM_MACRO_STAT_CE.key then m.ce
    else if key = F.SRM_MACRO_STAT_REMAPS.key then m.remaps.length
    else if key = F.SRM_MACRO_STAT_EXHAUSTED.key then m.exhausted.toNat
    else if key = F.SRM_MACRO_STAT_BUCKET.key then m.bucket
    else
      match m.remaps[i]? with
      | none => 0
      | some e => if key = F.SRM_REMAP_VALID.key then 1 else if key = F.SRM_REMAP_CAUSE.key then e.2 else e.1

/-- Is a field shown from the island of CLK_ISL_SEL (02 R83)? -/
def islandField (key : Nat) : Bool :=
  [F.CLK_ISL_CTRL_GATE.key, F.CLK_ISL_CTRL_SRC.key, F.CLK_ISL_STAT_SWITCHING.key, F.CLK_ISL_STAT_GATED.key, F.CLK_ISL_STAT_GATE_PENDING.key,
   F.CLK_ISL_STAT_GATE_TIMEOUT.key, F.CLK_ISL_STAT_WRITE_IGNORED.key, F.CLK_ISL_STAT_SRC_NOW.key].contains key

def macroKey (key : Nat) : Bool :=
  [F.SRM_MACRO_STAT_CE.key, F.SRM_MACRO_STAT_REMAPS.key, F.SRM_MACRO_STAT_EXHAUSTED.key, F.SRM_MACRO_STAT_BUCKET.key, F.SRM_REMAP_VALID.key,
   F.SRM_REMAP_CAUSE.key, F.SRM_REMAP_WORD.key].contains key

/-- What a field reads as: most are held, the others show what stands elsewhere in the device. -/
def Dev.fieldRead (d : Dev) (f : Field) (i : Nat) : Nat :=
  let k := f.key
  if islandField k then (let n := d.get F.CLK_ISL_SEL_ISLAND; if 0x1C < n then 0 else d.getI f n)
  else if macroKey k then d.macroField k i
  else if k = F.TWN_BUSY_MASK.key then d.busyMask i
  else if k = F.POR_HWREQ_ASSERTED.key then (if d.clk.released then maskOf ((List.range 16).filter (fun n => d.lineRoom n != 0)) else 0)
  else if k = F.TAL_ENTRY_BYTES.key then leAt d.talShown (4 * i) 4
  else d.getI f i

/-- The value of a register: write-only fields read zero (00 R7). -/
def Dev.rowRead (d : Dev) (row : RegRow) (inst : Nat) : Nat :=
  row.places.foldl (fun v p => if p.access = .wo then v else v + d.fieldRead p.field inst * 2 ^ p.lo) 0

/-- PIO_GPIO_IN (21 R871): a ball the device drives reads its level; what stands at an input is a free value (log entry 5). -/
def Dev.gpioIn (d : Dev) : Nat × Dev :=
  let v := d.fresh
  (maskOf ((List.range 8).filter (fun i => match d.gpioDrives i with | some b => b | none => v.1.testBit i)), v.2)

/-- A 32-bit read at an address of a block region (00 R8, R10, R11): zero where no register lies, and zero where its domain is off
(02 R81). -/
def Dev.readReg (d : Dev) (addr : Nat) : Nat × Dev :=
  if 0x200F4000 ≤ addr && addr < 0x200F8000 then (if d.powered (islandDomain 0x0F) then d.winRead ((addr - 0x200F4000) / 64) (addr % 64) else 0, d)
  else
    match regFind addr with
    | none => (0, d)
    | some x =>
      if !d.powered (rowDomain x.1 x.2) then (0, d)
      else if addr = 0x2017000C then d.gpioIn
      else if (addr - 0x20000000) / 0x10000 = 4 && addr % 0x4000 = 4 then (d.rowRead x.1 x.2 + (addr - 0x20040000) / 0x4000 * 2 ^ 30, d)
      else (d.rowRead x.1 x.2, d)

/-! ### A Reeve core's access -/

/-- The low registers of the aligned 64-bit pairs (00 R6). -/
def pairLow (addr : Nat) : Bool :=
  [0x20060008, 0x20070018, 0x200A0010, 0x200B0030, 0x20100020, 0x20100028, 0x20120018, 0x20150010, 0x20150018, 0x20150020,
   0x20160018].contains addr
  || (0x200D0100 ≤ addr && addr < 0x200D1100 && [0x08, 0x20, 0x40, 0x48, 0x50, 0x58, 0x60, 0x68, 0x70, 0x78].contains (addr % 0x80))
  || (0x200E1000 ≤ addr && addr < 0x200E1200 && addr % 0x20 = 0)
  || (0x200F4000 ≤ addr && addr < 0x200F8000 && addr % 64 = 0x38)

/-- A write of 32 bits to a register, or of 64 to a pair (00 R6); another 64-bit write has no effect (15 R594: a host's, dword by dword in
ascending order). -/
def Dev.registerWrite (d : Dev) (addr : Nat) (wide : Bool) (v : Nat) (byHost : Bool) : Dev :=
  if !wide then d.storeReg addr (v % 2 ^ 32) byHost
  else if pairLow addr then d.storePair addr v byHost
  else if byHost && addr % 8 == 0 then (d.storeReg addr (v % 2 ^ 32) byHost).storeReg (addr + 4) (v / 2 ^ 32) byHost
  else d

/-- Is it an address of a block region (01 R40, R42)? -/
def blockAddr (addr : Nat) : Bool := 0x20000000 ≤ addr && addr < 0x20180000

def opMisaligned : MemOp → BusFault
  | .load => .loadMisaligned
  | .lr => .loadMisaligned
  | .fetch => .fetchAccess
  | _ => .storeMisaligned

/-- LR, SC and AMO instructions (01 R38). -/
def opAtomic : MemOp → Bool
  | .load => false
  | .store => false
  | .fetch => false
  | _ => true

/-- An access to a block register (01 R38, R39). -/
def Dev.blockAccess (d : Dev) (core : Nat) (x : CoreAccess) : Dev :=
  if opAtomic x.op then d.busFault core .storeAccess x.addr
  else if !(x.len = 4 || (x.len = 8 && pairLow x.addr)) then d.busFault core (opFault x.op) x.addr
  else if opReads x.op then
    let lo := d.readReg x.addr
    if x.len = 4 then lo.2.reply core lo.1
    else
      let hi := lo.2.readReg (x.addr + 4)
      hi.2.reply core (lo.1 + 2 ^ 32 * hi.1)
  else
    let v := x.data % 2 ^ (8 * x.len)
    if x.len = 4 then (d.storeReg x.addr v false).reply core 0
    else (d.storePair x.addr v false).reply core 0

/-- A read of the boot ROM (01 R40); a write to it faults (R42), and so does LR there (log entry 52). -/
def Dev.romAccess (d : Dev) (core : Nat) (x : CoreAccess) : Dev :=
  if opReads x.op && !(opAtomic x.op) then d.reply core (leValue ((List.range x.len).map (fun i => Config.bootRom (x.addr + i) % 256)))
  else d.busFault core (opFault x.op) x.addr

/-- Every byte of an access lies where `p` holds. -/
def accessWithin (x : CoreAccess) (p : Nat → Bool) : Bool := p x.addr && p (x.addr + x.len - 1)

/-- An access by its address, where protection permits it (01 R35, R40 to R44). -/
def Dev.coreAccess (d : Dev) (core : Nat) (x : CoreAccess) : Dev :=
  if !(d.core core).allows x.op x.addr x.len then d.busFault core (opFault x.op) x.addr
  else if accessWithin x (fun a => a < 0x40000) then d.romAccess core x
  else if accessWithin x d.isSram then d.sramAccess core x
  else if accessWithin x d.isGranary then d.granAccess core x
  else if accessWithin x blockAddr then d.blockAccess core x
  else d.busFault core (opFault x.op) x.addr

/-- A parity error of an L1 cache is corrected and recorded; the sixteenth of a second fences the core (19 R779, R781, event 0x6004). The
line's index is a free value (log entry 5). -/
def Dev.l1Error (d : Dev) (core : Nat) (op : MemOp) : Dev :=
  let v := d.fresh
  let n := at' d.wat.l1Errors core 0 + 1
  let d := v.2.post 0x6004 [core, (if op = .fetch then 0 else 1), v.1]
  let d := { d with wat := { d.wat with l1Errors := d.wat.l1Errors.set core n } }
  if 16 ≤ n then d.coreFence core 1 else d

/-- Is the width one an instruction of the core has (01 R33)? -/
def accessLenOk (x : CoreAccess) : Bool :=
  match x.op with
  | .fetch => x.len = 2 || x.len = 4
  | .load => [1, 2, 4, 8].contains x.len
  | .store => [1, 2, 4, 8].contains x.len
  | _ => x.len = 4 || x.len = 8

/-- Must the address be a multiple of the width (01 R37)? A fetch's need be one of two only. -/
def accessAligned (x : CoreAccess) : Bool := if x.op = .fetch then x.addr % 2 = 0 else x.addr % x.len = 0

/-- REGISTER_WRITE (00 R5 to R10; 01 R25): by a Reeve core or, of the ring page alone, by the host (15 R607 to R614). -/
def Dev.registerWriteAct (d : Dev) (byHost : Bool) (addr : BitVec 40) (wide : Bool) (v : BitVec 64) : Dev :=
  if !byHost then d.registerWrite addr.toNat wide v.toNat false
  else if 0x200E1000 ≤ addr.toNat && addr.toNat < 0x200E2000 then d.tlp (fun d => d.registerWrite addr.toNat wide v.toNat true)
  else d

/-- REGISTER_WRITE acts as `Dev.registerWriteAct` says. -/
def execRegisterWrite (byHost : Bool) (addr : BitVec 40) (wide : Bool) (v : BitVec 64) (s : State) : Out := s.runCore (fun d => d.registerWriteAct byHost addr wide v)

/-- An access to memory: a fetch moves the core's pc to its address; a misaligned access is not performed (01 R37). -/
def Dev.memoryAccess (d : Dev) (core : Nat) (x : CoreAccess) : Dev :=
  if !accessLenOk x then d
  else
    let d := if x.op = .fetch then d.setCore core (fun c => { c with pc := x.addr }) else d
    let d := d.when x.l1Parity (fun d => d.l1Error core x.op)
    if !accessAligned x then d.busFault core (opMisaligned x.op) x.addr else d.coreAccess core x

/-- An instruction that accesses memory waits for the answer. -/
def Dev.issue (d : Dev) (n rd len : Nat) (signed : Bool) (npc : Nat) : Dev := d.setCore n (fun c => { c with waits := some ⟨rd, len, signed, npc⟩ })

/-- A core executes the instruction word it has fetched from its pc (01 R33): a register or the pc changes, memory is accessed, an exception is
taken, first of all an interrupt. -/
def Dev.execute (d : Dev) (n : Nat) (x : CoreAccess) : Dev :=
  let c := d.core n
  let npc := c.pc + insnBytes x.data
  let ends := fun rd v npc => d.setCore n (fun c => c.retire rd v npc)
  let width := fun (word : Bool) => if word then 32 else 64
  if c.interruptible && d.interrupts then d.setCore n Core.interrupted
  else
    match decodeInsn x.data with
    | none => d.busFault n .illegal 0
    | some i =>
      match i with
      | .alu op word rd rs1 rs2 => ends rd (rvResult (width word) op (c.xreg rs1) (c.xreg rs2)) npc
      | .aluImm op word rd rs1 imm => ends rd (rvResult (width word) op (c.xreg rs1) imm) npc
      | .lui rd imm => ends rd imm npc
      | .auipc rd imm => ends rd (c.pc + imm) npc
      | .jal rd off => ends rd npc (c.pc + off)
      | .jalr rd rs1 off => ends rd npc ((c.xreg rs1 + off) / 2 * 2)
      | .branch k rs1 rs2 off => ends 0 0 (if condHolds k (c.xreg rs1) (c.xreg rs2) then c.pc + off else npc)
      | .load len signed rd rs1 off =>
        (d.issue n rd len signed npc).memoryAccess n { x with op := .load, addr := (c.xreg rs1 + off) % 2 ^ 64, len := len, data := 0 }
      | .store len rs1 rs2 off =>
        (d.issue n 0 len false npc).memoryAccess n
          { x with op := .store, addr := (c.xreg rs1 + off) % 2 ^ 64, len := len, data := c.xreg rs2 % 2 ^ (8 * len) }
      | .atomic op len rd rs1 rs2 =>
        (d.issue n rd len true npc).memoryAccess n { x with op := op, addr := c.xreg rs1, len := len, data := c.xreg rs2 % 2 ^ (8 * len) }
      | .csr op imm rd src k => (d.issue n rd 8 false npc).csrAccess n op k (if imm then src else c.xreg src)
      | .fence => (d.issue n 0 8 false npc).coreFenceOp n
      | .fenceI => ends 0 0 npc
      | .ecall => d.ecall n
      | .ebreak => d.busFault n .breakpoint c.pc
      | .mret => d.mret n
      | .wfi => ends 0 0 npc

/-- What a core does (01 R33 to R45): an access, a control instruction, or a whole instruction with its registers. -/
def Dev.reeve (d : Dev) (core : Nat) (x : CoreAccess) : Dev :=
  match x.op with
  | .fence => d.coreFenceOp core
  | .csrRead => d.csrAccess core x.op x.addr x.data
  | .csrWrite => d.csrAccess core x.op x.addr x.data
  | .csrSet => d.csrAccess core x.op x.addr x.data
  | .csrClear => d.csrAccess core x.op x.addr x.data
  | .mret => d.mret core
  | .ecall => d.ecall core
  | .ebreak => d.busFault core .breakpoint (d.core core).pc
  | .insn => d.execute core x
  | _ => d.memoryAccess core x

/-- REEVE_ACCESS (01 R33 to R45): a core that is fenced makes none (19 R781), one whose instruction waits no other. -/
def Dev.reeveAccessAct (d : Dev) (core : Fin 4) (x : CoreAccess) : Dev :=
  if d.bit F.WAT_CORES_FENCED core.val || d.stalled core.val then d else d.reeve core.val x

/-- REEVE_ACCESS acts as `Dev.reeveAccessAct` says. -/
def execReeveAccess (core : Fin 4) (x : CoreAccess) (s : State) : Out := s.runCore (fun d => d.reeveAccessAct core x)

end Sys2Proof.Machine
end

