-- ==== Sys2Proof/Machine/Microcode.lean ====
section
/-! DEFINITION. Shepherd microcode (spec/07): micro-words and their sequencing, nanowords, ports, micro-traps, machine checks
and reloads. -/

namespace Sys2Proof.Machine

/-! ### Ports that are written -/

/-- Does a Drover piece settle for writing? -/
def pieceWrites (p : Piece) : Bool := p.why.kind == .writePass

/-- The read offset of a rung 1 step, 1/256 track (10 R404). -/
def stepOffset (p : Piece) : Int :=
  if p.rung != 1 then 0 else if p.step = 3 then 16 else if p.step = 4 then -16 else if p.step = 9 then 32 else if p.step = 10 then -32 else 0

/-- The target of a piece on its head's own surface: the track and the re-read's offset (06 R216). -/
def pieceTarget (p : Piece) : Nat := ofSigned 32 ((p.track * 256 : Nat) + stepOffset p)

/-- TAKEN (17 R690): the descriptor is removed and the Shepherd seeks to the piece's track (06 R221, R232). -/
def Dev.drvTaken (d : Dev) (n : Nat) : Dev :=
  match d.offered n with
  | none => d
  | some p =>
    let s := p.hold.getD (2 * n)
    let k := s % 2
    let d := d.mapPiece p.id (fun q => { q with stage := .taken })
    let other := d.drv.pieces.any (fun q => q.hold == some (if k = 0 then s + 1 else s - 1))
    let dist := ((p.track : Int) - d.posAt n k / 256).natAbs
    let d := (d.setTarget n k (pieceTarget p)).setCh n k (fun c => { c with
      moving := true, writes := pieceWrites p, settled := false, settleRun := 0, permit := false })
    let d := (d.flagI F.SHP_STAT_PAIRED n other).setShp n (fun x => { x with paired := other })
    let d := d.setBias n
    let d := if d.headSlot n k == p.head % 8 && d.headValid n k then d else d.selectHead n k (p.head % 8)
    if d.shpState n = shpFollow || d.shpState n = shpSettle then d.startSeek n dist else d

/-- SELECT (17 R690). -/
def Dev.drvSelect (d : Dev) (n w : Nat) : Dev := d.setShp n (fun s => { s with drvSelect := w % 4 })

/-- READY (17 R690): the channel has settled; the data path may start. -/
def Dev.drvReady (d : Dev) (n k : Nat) : Dev := d.pieceReady (2 * n + k)

/-- RETURN (17 R690): the piece returns to the grid with the last `left` of its sectors not done. -/
def Dev.drvReturn (d : Dev) (n k left : Nat) : Dev :=
  let s := 2 * n + k
  match d.heldPiece s with
  | none => d
  | some p =>
    let rest := p.secs.drop (p.secs.length - left)
    let d := d.mapPiece p.id (fun q => { q with secs := rest })
    let d := (d.setCh n k (fun c => { c with moving := false, settled := false })).pieceReturn s
    let d := (d.putI F.SHP_STAT_PAIRED n 0).setShp n (fun x => { x with paired := false })
    if rest.isEmpty then d.dropPiece p.id else d

/-- A microactuator write is clamped to the published reach (07 R271); full scale is code 8,191 (21). -/
def Dev.maWrite (d : Dev) (n k : Nat) (code : Int) : Dev :=
  let g := d.maGain (d.headNum n k)
  let lim : Int := if g = 0 then 0 else d.reach256 n k * 8191 / (g : Int)
  let c := clampInt (-lim) lim code
  d.setCh n k (fun x => { x with maPrev := x.maOut, maOut := c, y := c * (g : Int) / 8191 })

/-- A write permission request (07 R272). -/
def Dev.wgenWrite (d : Dev) (n v : Nat) : Dev :=
  d.each [0, 1] (fun d k => d.setCh n k (fun c => { c with permit := v.testBit k && (c.permit || d.writeOk n k) }))

/-- A STATE write (07 R273). -/
def Dev.stateWrite (d : Dev) (n v : Nat) : Dev :=
  let st := d.shpState n
  if st = shpFenced || st = shpRetracted then d else d.putI F.SHP_STAT_STATE n (v % 16)

/-- A HEADSEL write (07 R270, 06 R232). -/
def Dev.headselWrite (d : Dev) (n v : Nat) : Dev := d.selectHead n (v / 8 % 2) (v % 8)

/-- An EVENT write: a servo event with the parameters S24 to S27 (07 R270). -/
def Dev.eventWrite (d : Dev) (n v : Nat) : Dev :=
  let c := v % 2 ^ 16
  let u := (d.shp n).uc
  if 0x1101 ≤ c ∧ c ≤ 0x110F then d.post c [u.reg 24, u.reg 25, u.reg 26, u.reg 27] else d

/-- A write of operand A to a port (07 R270). -/
def Dev.portWrite (d : Dev) (n port v : Nat) : Dev :=
  match port with
  | 0x04 => d.setTarget n 0 v
  | 0x05 => d.setTarget n 1 v
  | 0x10 => d.maWrite n 0 (toSigned 32 v)
  | 0x11 => d.maWrite n 1 (toSigned 32 v)
  | 0x12 => d.setShp n (fun s => { s with iRef := toSigned 32 v })
  | 0x14 => d.stateWrite n v
  | 0x15 => d.headselWrite n v
  | 0x16 => d.wgenWrite n v
  | 0x18 =>
    match slice v 28 4 with
    | 0 => d.drvSelect n (v % 4)
    | 1 => d.drvTaken n
    | 2 => d.drvReady n (v % 2)
    | 3 => d.drvReturn n (slice v 16 1) (v % 2 ^ 16)
    | _ => d
  | 0x19 => d.eventWrite n v
  | 0x1A => d.setShp n (fun s => { s with tableAddr := v })
  | 0x1C => d.setShp n (fun s => { s with timer := v % 2 ^ 16 })
  | _ => d

/-! ### A micro-word -/

/-- The condition of 07 R264. -/
def Dev.microCond (d : Dev) (n : Nat) (w : Nano) : Bool :=
  let s := d.shp n
  let u := s.uc
  let c := match w.cond with
    | 0 => true
    | 1 => u.z
    | 2 => u.n
    | 3 => u.v
    | 4 => u.ctr w.ctr != 0
    | 5 => s.wstat.testBit 0 || s.wstat.testBit 8
    | 6 => s.wstat.testBit 1 || s.wstat.testBit 9
    | 7 => s.wstat.testBit 2 || s.wstat.testBit 10
    | 8 => d.onI F.SHP_STAT_CH0_ACTIVE n
    | 9 => d.onI F.SHP_STAT_CH1_ACTIVE n
    | 10 => d.onI F.SHP_STAT_PAIRED n
    | 11 => d.gateOn (2 * n) || d.gateOn (2 * n + 1)
    | 12 => (d.offered n).isSome
    | 13 => d.shpState n == shpUnloading
    | 14 => s.paNow.isSome || !s.paWait.isEmpty
    | 15 => d.miller == 0
    | 16 => d.milState == milRun
    | _ => false
  c != w.cinv

/-- A nanoword acts once (07 R263, R266): the ALU, the port, the counter load. -/
def Dev.nanoAct (d : Dev) (n : Nat) (w : Nano) : Dev :=
  let a := (d.shp n).uc.reg w.srcA
  let d := d.setUc n (fun u => u.alu w.alu w.srcA w.srcB w.dst w.we w.bImm w.sat w.imm)
  let d := if w.pdir = 1 then let v := d.portRead n w.port; d.setUc n (fun u => u.setReg w.dst v)
    else if w.pdir = 2 then d.portWrite n w.port a else d
  if w.cload then d.setUc n (fun u => u.setCtr w.ctr w.imm) else d

/-- The cause of 07 R275 that would be taken now: the highest priority latched one that qualifies. -/
def Uc.dueTrap (u : Uc) : Option Nat :=
  match (List.range 10).find? (fun c => 1 ≤ c && u.latch.testBit c) with
  | none => none
  | some c =>
    match u.frames with
    | [] => some c
    | [f] => if c < f.cause then some c else none
    | _ => none

def Dev.setPc (d : Dev) (n pc : Nat) : Dev := d.putI F.SHP_UC_PC_MICRO n (pc % 4096)

/-- A word of `w` bits with one odd-parity bit for each 16 bits, above it (R258). -/
def withParity (w v : Nat) : Nat :=
  (List.range (w / 16)).foldl (fun a g => withBit a (w + g) (popCount 16 (slice v (16 * g) 16) % 2 == 0)) (v % 2 ^ w)

/-- Do the parity bits of a stored word hold (R258)? -/
def parityHolds (w v : Nat) : Bool :=
  (List.range (w / 16)).all (fun g => (popCount 16 (slice v (16 * g) 16) + slice v (w + g) 1) % 2 == 1)

/-- The stores that a microcode section fills (R282, R283): the micro-words, unused words a FAULT, and the nanowords. -/
def microStore (b : List Nat) : List Nat :=
  ((List.range (leAt b 2 2)).map (fun i => leAt b (0x20 + 2 * i) 2) ++ List.replicate (4096 - leAt b 2 2) 0x0E00).map (withParity 16)

def nanoStore (b : List Nat) : List Nat :=
  let off := (0x20 + 2 * leAt b 2 2 + 15) / 16 * 16
  ((List.range (leAt b 4 2)).map (fun i => leAt b (off + 16 * i) 16) ++ List.replicate (512 - leAt b 4 2) 0).map (withParity 128)

/-- Both stores, and the spares in use, are filled from a section (R282, R283, R288). -/
def Uc.fill (u : Uc) (b : List Nat) : Uc :=
  let m := microStore b
  let n := nanoStore b
  { u with micro := m, nano := n, spareMicro := u.remapMicro.map (fun a => at' m a 0), spareNano := u.remapNano.map (fun a => at' n a 0) }

/-- The stored word at a logical address: the spare of a valid remap entry, else the address's own (R288); unused micro addresses hold the
FAULT word (R283). -/
def storedWord (store spare remap : List Nat) (addr unused : Nat) : Nat :=
  match remap.findIdx? (fun a => a == addr) with
  | some i => at' spare i unused
  | none => at' store addr unused

def Uc.microStored (u : Uc) (pc : Nat) : Nat := storedWord u.micro u.spareMicro u.remapMicro pc (withParity 16 0x0E00)

def Uc.nanoStored (u : Uc) (a : Nat) : Nat := storedWord u.nano u.spareNano u.remapNano a (withParity 128 0)

/-- A failing store address is added to its remap table, its spare holding the section's word (R289, R290). -/
def Dev.storeRemap (d : Dev) (n store addr : Nat) : Dev :=
  let u := (d.shp n).uc
  let b := d.sect 0x40 n
  if store = 0 then
    if 64 ≤ u.remapMicro.length then (d.fenceActuator n).post 0x1204 [n, store, addr]
    else
      let k := u.remapMicro.length + 1
      let d := d.setUc n (fun u => { u with remapMicro := u.remapMicro ++ [addr], spareMicro := u.spareMicro ++ [at' (microStore b) addr 0] })
      (d.putI F.SHP_UC_STAT_MICRO_SPARES n k).post 0x1203 [n, store, addr, k]
  else if 16 ≤ u.remapNano.length then (d.fenceActuator n).post 0x1204 [n, store, addr]
  else
    let k := u.remapNano.length + 1
    let d := d.setUc n (fun u => { u with remapNano := u.remapNano ++ [addr], spareNano := u.spareNano ++ [at' (nanoStore b) addr 0] })
    (d.putI F.SHP_UC_STAT_NANO_SPARES n k).post 0x1203 [n, store, addr, k]

/-- A machine check (07 R286, R287, R289, R292): `store` 0 micro, 1 nano, 2 remap table. -/
def Dev.machineCheck (d : Dev) (n store addr : Nat) : Dev :=
  let u := (d.shp n).uc
  let now := d.mod.bootMs
  let again := store < 2 && u.checked.contains (store, addr)
  let times := (u.checkTimes.filter (fun t => now ≤ t + 60000)) ++ [now]
  let d := (d.stopMicro n).killAssert killMissed
  let d := (d.putI F.SHP_UC_STAT_LOADED n 0).incI F.SHP_UC_STAT_RELOADS n
  let d := ((d.putI F.SHP_UC_PC_MICRO n 0).putI F.SHP_UC_PC_NANO n 0).putI F.SHP_INT_STAT_UC_CHECK n 1
  let d := (d.each [2 * n, 2 * n + 1] Dev.cutGate).channelsStop n
  let d := (d.putI F.SHP_STAT_STATE n shpRetracted).hardwarePark n
  let d := d.setUc n (fun u => { u with checked := (store, addr) :: u.checked, checkTimes := times, reloading := true, restarted := false, reloaded := false })
  let d := if again then d.storeRemap n store addr else d
  let d := d.post 0x1202 [n, store, addr, d.getI F.SHP_UC_STAT_RELOADS n]
  let d := if 4 ≤ times.length then (d.fenceActuator n).post 0x1206 [n, d.getI F.SHP_UC_STAT_RELOADS n] else d
  let d := d.offTrack n
  if d.shpHolds killMissed then d else d.killRelease killMissed

/-- What the word's SEQ does next (07 R261, R265, R279). -/
def Dev.microSequence (d : Dev) (n seq pc : Nat) (w : Nano) (cond : Bool) : Dev :=
  let u := (d.shp n).uc
  let next := (pc + 1) % 4096
  match seq with
  | 0 => d.setPc n next
  | 1 => d.setPc n (if cond then w.target else next)
  | 2 =>
    let c := (u.ctr w.ctr + 65535) % 65536
    (d.setUc n (fun u => u.setCtr w.ctr c)).setPc n (if c != 0 then w.target else next)
  | 3 => if 4 ≤ u.stack.length then d.microFault n 1
    else (d.setUc n (fun u => { u with stack := next :: u.stack })).setPc n w.target
  | 4 =>
    let depth := match u.frames with | [] => 0 | f :: _ => f.sdepth
    match u.stack with
    | [] => d.microFault n 1
    | a :: r => if u.stack.length ≤ depth then d.microFault n 1 else (d.setUc n (fun u => { u with stack := r })).setPc n a
  | 5 => d.setPc n (if cond then next else pc)
  | 6 =>
    match u.frames with
    | [] => d.microFault n 3
    | f :: r =>
      if u.stack.length != f.sdepth then d.microFault n 3
      else
        let d := d.setUc n (fun u => { u with frames := r, z := f.z, n := f.n, v := f.v })
        (d.putI F.SHP_UC_STAT_TRAP_DEPTH n r.length).setPc n f.resume
  | _ => d.microFault n 0

/-- The word at the present address runs, where its SEQ is `seq` and no trap is due before it (07 R258, R261 to R263, R280,
R286). -/
def Dev.microStep (d : Dev) (n seq : Nat) (f : MicroFetch) : Dev :=
  let u := (d.shp n).uc
  let pc := d.getI F.SHP_UC_PC_MICRO n
  let stored := u.microStored pc ^^^ f.micro.toNat
  let word := slice stored 0 16
  let na := slice word 0 9
  let act := u.nanoStored na ^^^ f.nano.toNat
  if !d.powered 2 || !u.run then d
  else if u.dueTrap.isSome && u.holdRun = 0 then d
  else if f.remap then d.machineCheck n 2 pc
  else if !parityHolds 16 stored then d.machineCheck n 0 pc
  else if slice word 9 3 != seq then d
  else if !parityHolds 128 act then d.machineCheck n 1 na
  else
    let w := Nano.ofWord (slice act 0 128)
    let d := d.putI F.SHP_UC_PC_NANO n na
    let cond := d.microCond n w
    let wait := seq = 5 && !cond
    let hold := if w.hold then u.holdRun + 1 else 0
    let d := if wait then d else d.nanoAct n w
    let d := d.setUc n (fun u => { u with waiting := wait, holdRun := if wait then 0 else hold })
    if 17 ≤ hold && u.dueTrap.isSome then d.microFault n 4
    else if (d.shp n).uc.run then d.microSequence n seq pc w cond else d

/-- A micro-trap is taken (07 R275, R276, R278). -/
def Dev.takeTrap (d : Dev) (n : Nat) : Dev :=
  let u := (d.shp n).uc
  if !d.powered 2 || !u.run || (u.holdRun != 0 && !u.waiting) then d
  else
    match u.dueTrap with
    | none => d
    | some c =>
      let f : TrapFrame := ⟨c, u.waiting, u.z, u.n, u.v, u.stack.length, d.getI F.SHP_UC_PC_MICRO n⟩
      let d := d.setUc n (fun u => { u with frames := f :: u.frames, latch := withBit u.latch c false,
                                            overruns := u.overruns.set c 0, waiting := false })
      (d.putI F.SHP_UC_STAT_TRAP_DEPTH n (d.shp n).uc.frames.length).setPc n c

/-- A store reload ends (07 R287, R291, R293, R294): every word read, with the copy's digest right or wrong, or a parity failure during it. -/
def Dev.reloadDone (d : Dev) (n : Nat) (o : ReloadOutcome) : Dev :=
  let u := (d.shp n).uc
  if !u.reloading then d
  else
    match o with
    | .parity =>
      if !u.restarted then d.setUc n (fun u => { u with restarted := true })
      else
        let now := d.mod.bootMs
        let times := (u.checkTimes.filter (fun t => now ≤ t + 60000)) ++ [now]
        let d := d.setUc n (fun u => { u with checkTimes := times, restarted := false })
        if 4 ≤ times.length then (d.fenceActuator n).post 0x1206 [n, d.getI F.SHP_UC_STAT_RELOADS n] else d
    | .done =>
      if !d.copyIntact 0x40 n then ((d.setUc n (fun u => { u with reloading := false })).fenceActuator n).post 0x1205 [n] else
      let b := d.retainedCopy 0x40 n
      let d := d.setUc n (fun u => { u.fill b with reloading := false, reloaded := true })
      if (d.shp n).hwPark || (d.shp n).fenced then d
      else (if d.shpState n = shpRetracted && !(d.shp n).retracted then d.putI F.SHP_STAT_STATE n shpParked else d).restartMicro n

/-! ### The commands -/

/-- MICRO_NEXT (07 R261): the word at the present address, where its SEQ is NEXT. -/
def execMicroNext (n : Fin 4) (f : MicroFetch) (s : State) : Out := s.runIsland 0x04 (fun d => d.microStep n.val 0 f)

/-- MICRO_BRANCH (07 R261, R262). -/
def execMicroBranch (n : Fin 4) (f : MicroFetch) (s : State) : Out := s.runIsland 0x04 (fun d => d.microStep n.val 1 f)

/-- MICRO_LOOP (07 R261). -/
def execMicroLoop (n : Fin 4) (f : MicroFetch) (s : State) : Out := s.runIsland 0x04 (fun d => d.microStep n.val 2 f)

/-- MICRO_CALL (07 R261, R265). -/
def execMicroCall (n : Fin 4) (f : MicroFetch) (s : State) : Out := s.runIsland 0x04 (fun d => d.microStep n.val 3 f)

/-- MICRO_RETURN (07 R261, R265). -/
def execMicroReturn (n : Fin 4) (f : MicroFetch) (s : State) : Out := s.runIsland 0x04 (fun d => d.microStep n.val 4 f)

/-- MICRO_WAIT (07 R261 to R263). -/
def execMicroWait (n : Fin 4) (f : MicroFetch) (s : State) : Out := s.runIsland 0x04 (fun d => d.microStep n.val 5 f)

/-- MICRO_TRET (07 R261, R279). -/
def execMicroTret (n : Fin 4) (f : MicroFetch) (s : State) : Out := s.runIsland 0x04 (fun d => d.microStep n.val 6 f)

/-- MICRO_FAULT (07 R261, R281). -/
def execMicroFault (n : Fin 4) (f : MicroFetch) (s : State) : Out := s.runIsland 0x04 (fun d => d.microStep n.val 7 f)

/-- An ALU operation on a Shepherd's scratch registers (07 R268). -/
def Dev.aluRun (d : Dev) (n op : Nat) (f : AluFields) : Dev :=
  d.setUc n (fun u => u.alu op f.srcA.val f.srcB.val f.dst.val f.we f.bImm f.sat f.imm)

/-- ALU_NOP (07 R268): nothing changes, the flags included. -/
def execAluNop (n : Fin 4) (f : AluFields) (s : State) : Out := s.runIsland 0x04 (fun d => d.aluRun n.val 0 f)

/-- ALU_ADD (07 R268). -/
def execAluAdd (n : Fin 4) (f : AluFields) (s : State) : Out := s.runIsland 0x04 (fun d => d.aluRun n.val 1 f)

/-- ALU_SUB (07 R268). -/
def execAluSub (n : Fin 4) (f : AluFields) (s : State) : Out := s.runIsland 0x04 (fun d => d.aluRun n.val 2 f)

/-- ALU_AND (07 R268). -/
def execAluAnd (n : Fin 4) (f : AluFields) (s : State) : Out := s.runIsland 0x04 (fun d => d.aluRun n.val 3 f)

/-- ALU_OR (07 R268). -/
def execAluOr (n : Fin 4) (f : AluFields) (s : State) : Out := s.runIsland 0x04 (fun d => d.aluRun n.val 4 f)

/-- ALU_XOR (07 R268). -/
def execAluXor (n : Fin 4) (f : AluFields) (s : State) : Out := s.runIsland 0x04 (fun d => d.aluRun n.val 5 f)

/-- ALU_SHL (07 R268). -/
def execAluShl (n : Fin 4) (f : AluFields) (s : State) : Out := s.runIsland 0x04 (fun d => d.aluRun n.val 6 f)

/-- ALU_SAR (07 R268). -/
def execAluSar (n : Fin 4) (f : AluFields) (s : State) : Out := s.runIsland 0x04 (fun d => d.aluRun n.val 7 f)

/-- ALU_MUL (07 R268). -/
def execAluMul (n : Fin 4) (f : AluFields) (s : State) : Out := s.runIsland 0x04 (fun d => d.aluRun n.val 8 f)

/-- ALU_MAC (07 R268). -/
def execAluMac (n : Fin 4) (f : AluFields) (s : State) : Out := s.runIsland 0x04 (fun d => d.aluRun n.val 9 f)

/-- ALU_MIN (07 R268). -/
def execAluMin (n : Fin 4) (f : AluFields) (s : State) : Out := s.runIsland 0x04 (fun d => d.aluRun n.val 10 f)

/-- ALU_MAX (07 R268). -/
def execAluMax (n : Fin 4) (f : AluFields) (s : State) : Out := s.runIsland 0x04 (fun d => d.aluRun n.val 11 f)

/-- ALU_CLAMP (07 R268). -/
def execAluClamp (n : Fin 4) (f : AluFields) (s : State) : Out := s.runIsland 0x04 (fun d => d.aluRun n.val 12 f)

/-- ALU_ABS (07 R268). -/
def execAluAbs (n : Fin 4) (f : AluFields) (s : State) : Out := s.runIsland 0x04 (fun d => d.aluRun n.val 13 f)

/-- ALU_PASS (07 R268). -/
def execAluPass (n : Fin 4) (f : AluFields) (s : State) : Out := s.runIsland 0x04 (fun d => d.aluRun n.val 14 f)

/-- ALU_LDI (07 R268). -/
def execAluLdi (n : Fin 4) (f : AluFields) (s : State) : Out := s.runIsland 0x04 (fun d => d.aluRun n.val 15 f)

/-- COUNTER_LOAD (07 R266): counter `c` from an immediate's low 16 bits. -/
def execCounterLoad (n c : Fin 4) (imm : BitVec 32) (s : State) : Out :=
  s.runIsland 0x04 (fun d => d.setUc n.val (fun u => u.setCtr c.val imm.toNat))

/-- PORT_MA_WRITE (07 R270, R271): MA0 or MA1. -/
def execPortMaWrite (n : Fin 4) (k : Fin 2) (v : BitVec 32) (s : State) : Out :=
  s.runIsland 0x04 (fun d => d.portWrite n.val (0x10 + k.val) v.toNat)

/-- PORT_TGT_WRITE (07 R270): TGT0 or TGT1. -/
def execPortTgtWrite (n : Fin 4) (k : Fin 2) (v : BitVec 32) (s : State) : Out :=
  s.runIsland 0x04 (fun d => d.portWrite n.val (0x04 + k.val) v.toNat)

/-- PORT_VCM_IREF_WRITE (07 R270). -/
def execPortVcmIrefWrite (n : Fin 4) (v : BitVec 32) (s : State) : Out := s.runIsland 0x04 (fun d => d.portWrite n.val 0x12 v.toNat)

/-- PORT_STATE_WRITE (07 R270, R273). -/
def execPortStateWrite (n : Fin 4) (v : BitVec 32) (s : State) : Out := s.runIsland 0x04 (fun d => d.portWrite n.val 0x14 v.toNat)

/-- PORT_HEADSEL_WRITE (07 R270, 06 R232). -/
def execPortHeadselWrite (n : Fin 4) (v : BitVec 32) (s : State) : Out := s.runIsland 0x04 (fun d => d.portWrite n.val 0x15 v.toNat)

/-- PORT_WGEN_WRITE (07 R270, R272). -/
def execPortWgenWrite (n : Fin 4) (v : BitVec 32) (s : State) : Out := s.runIsland 0x04 (fun d => d.portWrite n.val 0x16 v.toNat)

/-- DRV_RET_SELECT (17 R690). -/
def execDrvRetSelect (n w : Fin 4) (s : State) : Out := s.runIsland 0x04 (fun d => d.drvSelect n.val w.val)

/-- DRV_RET_TAKEN (17 R690; 06 R221). -/
def execDrvRetTaken (n : Fin 4) (s : State) : Out := s.runIsland 0x04 (fun d => d.drvTaken n.val)

/-- DRV_RET_READY (17 R690). -/
def execDrvRetReady (n : Fin 4) (k : Fin 2) (s : State) : Out := s.runIsland 0x04 (fun d => d.drvReady n.val k.val)

/-- DRV_RET_RETURN (17 R690). -/
def execDrvRetReturn (n : Fin 4) (k : Fin 2) (left : BitVec 16) (s : State) : Out :=
  s.runIsland 0x04 (fun d => d.drvReturn n.val k.val left.toNat)

/-- PORT_EVENT_WRITE (07 R270). -/
def execPortEventWrite (n : Fin 4) (v : BitVec 32) (s : State) : Out := s.runIsland 0x04 (fun d => d.portWrite n.val 0x19 v.toNat)

/-- PORT_TABLE_ADDR_WRITE (07 R270). -/
def execPortTableAddrWrite (n : Fin 4) (v : BitVec 32) (s : State) : Out := s.runIsland 0x04 (fun d => d.portWrite n.val 0x1A v.toNat)

/-- PORT_TIMER_WRITE (07 R270). -/
def execPortTimerWrite (n : Fin 4) (v : BitVec 32) (s : State) : Out := s.runIsland 0x04 (fun d => d.portWrite n.val 0x1C v.toNat)

/-- UC_TIMER_EXPIRE (07 R270, R274). -/
def execUcTimerExpire (n : Fin 4) (s : State) : Out :=
  s.runIsland 0x04 (fun d => if (d.shp n.val).timer = 0 then d else (d.setShp n.val (fun x => { x with timer := 0 })).latchTrap n.val 9)

/-- TRAP_TAKE (07 R275, R276). -/
def execTrapTake (n : Fin 4) (s : State) : Out := s.runIsland 0x04 (fun d => d.takeTrap n.val)

/-- STORE_RELOAD_DONE (07 R287, R291, R293). -/
def execStoreReloadDone (n : Fin 4) (o : ReloadOutcome) (s : State) : Out := s.runIsland 0x04 (fun d => d.reloadDone n.val o)

end Sys2Proof.Machine
end

