-- ==== Sys2Proof/Machine/Config.lean ====
section
/-! DEFINITION. The commands of the configuration load (spec/03), the Granary's training (spec/12 R453 to R460) and the self-test with the
exit from BOOT (spec/04 R134, R139). -/

namespace Sys2Proof.Machine

/-! ### CFG_STAT.PHASE (03 R124) -/

def loadIdle : Nat := 0
def loadSelect : Nat := 1
def loadHeader : Nat := 2
def loadSections : Nat := 3
def loadAdmit : Nat := 4
def loadDone : Nat := 5
def loadHold : Nat := 6

/-! ### Training (12 R453 to R460) -/

/-- Ranks 0 to `n` - 1 of a subchannel, in order, as far as training finds them: consecutive chip selects from 0. -/
def rankCount (answer sc : Nat) : Nat :=
  if !answer.testBit (3 * sc) then 0 else if !answer.testBit (3 * sc + 1) then 1 else if !answer.testBit (3 * sc + 2) then 2 else 3

/-- Ranks of one subchannel take their roles; `n` ranks are used. A rank RETIRED by its always-on copy stays so. -/
def Dev.trainSub (d : Dev) (r : RankFacts) (n : Nat) (held : List (Nat × Nat)) (sc : Nat) : Dev :=
  let retired := fun k => held.contains (sc, k)
  let bad := fun k => r.failed.testBit (3 * sc + k)
  let spareOk := n == 3 && !retired 2 && !bad 2
  let d := if n = 3 ∧ !retired 2 ∧ bad 2 then (d.setRank sc 2 roleRetired).post 0x3002 [sc, 2, 1]
    else if n = 3 then d.setRank sc 2 (if retired 2 then roleRetired else roleSpare) else d
  (d.each (List.range (min n 2)) (fun d k =>
    if retired k || bad k then
      let d := d.setRank sc k roleRetired
      if spareOk && d.rankRole sc 2 == roleSpare then
        let d := { d.setRank sc 2 roleActive with ddr := { d.ddr with served := d.ddr.served ++ [(sc, k, 2)] } }
        if retired k then d else d.post 0x3002 [sc, k, 0]
      else d.post 0x3003 [sc, k]
    else d.setRank sc k roleActive))

/-- Step 4 of R102: every rank is trained at 3,200 MT/s. -/
def Dev.train (d : Dev) (r : RankFacts) : Dev :=
  let a := rankCount r.answer 0
  let b := rankCount r.answer 1
  let n := min a b
  let held := d.retiredRanks
  let d := { d with ddr := { d.ddr with served := [] }, cfg := { d.cfg with trained := true } }
  let d := if a = b then d else d.post 0x300D [a, b]
  let d := if n = 0 then d.post 0x3003 [if a = 0 then 0 else 1, 0] else (d.trainSub r n held 0).trainSub r n held 1
  let active := min n 2
  let d := ((d.put F.DDR_CONFIG_ACTIVE active).flag F.DDR_CONFIG_DENSITY r.dense).put F.DDR_CONFIG_CAP_GIB (2 * active * (if r.dense then 8 else 4))
  let had := fun sc => n == 3 && !held.contains (sc, 2) && !r.failed.testBit (3 * sc + 2)
  let d := ((d.flag F.DDR_CONFIG_SPARE (had 0 && had 1)).put F.DDR_STAT_RATE 0).put F.DDR_STAT_STATE ddrRun
  if d.wat.safeDue.isSome then d.put F.DDR_STAT_STATE ddrFailed
  else d.post 0x3001 [3200, n, if r.dense then 16 else 8, d.get F.DDR_CONFIG_CAP_GIB]

/-- The retraining of R458 at DDR_MTS, or R459's return to 3,200 MT/s. -/
def Dev.retrainAtRate (d : Dev) (r : RankFacts) : Dev :=
  match (List.range 6).find? (fun k => r.retrain.testBit k && (d.rankRole (k / 3) (k % 3) == roleActive || d.rankRole (k / 3) (k % 3) == roleSpare)) with
  | some k =>
    if d.policy 0x3001 6400 = 6400 then ((d.put F.DDR_STAT_RATE 0).put F.DDR_INT_STAT_RATE_LOW 1).post 0x3004 [k / 3, k % 3]
    else (d.put F.DDR_STAT_RATE 0).put F.DDR_INT_STAT_RATE_LOW 1
  | none => d.flag F.DDR_STAT_RATE (d.policy 0x3001 6400 == 6400)

/-! ### What a load that is DONE sets (R102, R107, R115) -/

/-- The seed table's zone entry of a head: its record's, or the factory defaults (09 R357, R360, R361). -/
def Dev.seedEntry (d : Dev) (h z : Nat) : List Nat :=
  match d.headRecord h 0x200 with
  | some b => (b.drop (4 + 96 * z)).take 96
  | none =>
    let tap := (List.range 16).flatMap (fun i => leBytes 2 (if i = 6 then 128 else 0))
    [128, 128, 0x84, 0x84, 0, 0, 0, 0, 6, 0, 64, 96, 48, 16, 0, 0] ++ tap ++ tap ++ List.replicate 16 0

def Dev.seedLoopEntry (d : Dev) (h : Nat) : List Nat :=
  match d.headRecord h 0x201 with
  | some b => b.take 16
  | none => [10, 8, 9, 12, 3, 8, 6, 12] ++ leBytes 2 2048 ++ [24, 64] ++ leBytes 2 4096 ++ [0, 0]

/-- The heads fitted in the order of their numbers. -/
def Dev.headNumbers (d : Dev) : List Nat := (List.range 32).filter (fun h => h % 8 < d.headsOn (h / 8) && h / 8 < d.actuators)

/-- The retained copies and the seed table are placed in the system area (12 R490), the copies one after another in directory order. -/
def Dev.placeRetained (d : Dev) : Dev :=
  let copies := d.retained.flatMap (fun (s : Section) => s.bytes)
  let heads := d.headNumbers
  let seeds := heads.flatMap (fun h => (List.range d.zoneCount).flatMap (d.seedEntry h)) ++ heads.flatMap d.seedLoopEntry
  let a := granBase + copies.length
  let d := d.granWrite 0 (copies ++ seeds)
  (d.put F.RCH_SEED_BASE_LO_ADDR a).put F.RCH_SEED_BASE_HI_ADDR (a / 2 ^ 32)

/-- The tile pool is formed (12 R489). -/
def Dev.formPool (d : Dev) : Dev :=
  let cap := 1024 * d.get F.DDR_CONFIG_CAP_GIB
  let pool := d.policy 0x3011 (cap / 2)
  let d := (d.put F.GRN_POOL_BASE_TILES (256 * d.policy 0x3010 1024)).put F.GRN_POOL_TILES_TILES (256 * pool)
  d.put F.GRN_SIDE_BASE_TILES (256 * (cap - pool / 256))

/-- A Shepherd's stores are loaded and its microcode starts (07 R283, R285). -/
def Dev.loadMicro (d : Dev) (n : Nat) : Dev :=
  let b := d.sect 0x40 n
  ((d.setUc n (fun u => { ({} : Uc) with remapMicro := u.remapMicro, remapNano := u.remapNano }.fill b)).restartMicro n).flagI
    F.SHP_CTRL_RVFF_EN n (leAt (d.seekSect n) 3 1 == 1)

/-- The Porter programs go to the program area (14 R550). -/
def Dev.loadPorter (d : Dev) : Dev :=
  let b := d.sect 0x50 0
  let slots := (b.length + 31) / 32
  let d := d.sramWrite 0x100F0000 (b ++ List.replicate (32 * slots - b.length) 0) true
  ((d.put F.POR_PROG_ENTRIES (leAt b 0 2)).put F.POR_PROG_SLOTS slots).post 0x3201 [leAt b 0 2, slots]

/-- The Watch's and the memory's keys are loaded (13 R537, 19 R773, R776). -/
def Dev.loadKeys (d : Dev) : Dev :=
  let esc := (List.range 8).filterMap (fun i => let v := d.policy (0x6010 + i) 0; if v = 0 then none else some (v, 0x6010 + i))
  let d := { d with wat := { d.wat with escalated := esc } }.put F.WAT_WDOG_MS (d.policy 0x6001 100)
  let d := d.post 0x6001 [d.get F.WAT_HIST_PTR_ENTRIES, d.policy 0x6001 100]
  let d := ((d.put F.SRM_LB_CFG_INC (d.policy 0x3101 16)).put F.SRM_LB_CFG_THRESH (d.policy 0x3102 64)).put F.SRM_LB_CFG_LEAK_MS (d.policy 0x3103 1000)
  let d := ((d.put F.WCH_SHK_HOLD (d.policy 0x2205 500)).put F.WCH_SHK_LIN_THR (d.policy 0x2203 64)).put F.WCH_SHK_ROT_THR (d.policy 0x2204 64)
  d.flag F.PRS_STAT_LOOP_FITTED (d.policy 0x5001 0 == 1)

/-- The gas baseline (05 R201): the image's GAS_BASE; the first BOOT that lacks it sets aside the one of an image that had it, and counts samples
from there. -/
def Dev.loadGasBase (d : Dev) : Dev :=
  let d := if d.hasPolicy 0x100D then d.put F.MIL_GAS_BASE (d.policy 0x100D 0) else if d.mil.gasKey then d.put F.MIL_GAS_BASE 0 else d
  if d.hasPolicy 0x100D || d.mil.gasKey then { d with mil := { d.mil with gasKey := d.hasPolicy 0x100D, gasServe := 0 } } else d

/-- The modes' and the Miller's keys (04 R131, 05 R160, R188): the Miller's target is the ceiling (R115). -/
def Dev.loadMiller (d : Dev) : Dev :=
  let c := d.ceilingRpm
  let d := ((d.put F.MOD_EASE_IDLE_SECONDS (d.policy 0x0302 60)).put F.MOD_REST_IDLE_SECONDS (d.policy 0x0304 0)).put F.MOD_EASE_RPM_RPM (d.policy 0x0303 3600)
  let d := ((d.put F.MIL_LIMITS_CEILING c).put F.MIL_LIMITS_FLOOR d.floorRpm).put F.MIL_CEIL_GAS_CEIL c
  ((d.loadGasBase).put F.MIL_TARGET_TARGET c).updateCeiling

/-- The zone table's codes, one bit each (event 0x2101). -/
def Dev.codesUsed (d : Dev) : Nat := maskOf ((List.range d.zoneCount).map (fun z => (d.zone z).code))

/-- The code records loaded, one bit per CODE (10 R383, R417). -/
def Dev.codeMask (d : Dev) : Nat :=
  match codeRecs (d.zoneTab.length + 1) (d.zoneTab.drop (leAt d.zoneTab 0x10 4)) with
  | some l => maskOf (l.map (fun c => c.code))
  | none => 0

/-- What DET, WCH, GRN and DDR show of the configuration in force (10 R417; 11 R446; 12 R499, R500). -/
def Dev.loadShown (d : Dev) : Dev :=
  let d := (d.put F.DET_CAP_LOCAL (d.policy 0x2105 4)).put F.DET_SAMPLE_SETS_SIZE (d.policy 0x210A 1024)
  let d := ((d.put F.DET_FORMAT_CODES d.codeMask).put F.DET_FORMAT_TITHE_DATA d.titheData).put F.DET_FORMAT_ZONES d.zoneCount
  let d := ((d.put F.WCH_VERIFY_GLOBAL (d.policy 0x2202 2)).put F.WCH_VERIFY_MODE (d.policy 0x2201 1)).put F.GRN_TITHE_WIDTH d.titheData
  ((d.put F.DDR_AGE_HOST (d.policy 0x3003 20)).put F.DDR_AGE_META (d.policy 0x3004 40)).put F.DDR_AGE_BG (d.policy 0x3005 320)

/-- The sample store's address, which the spec does not give: a free value in the system area (log entry 5). -/
def Dev.placeSamples (d : Dev) : Dev :=
  let v := d.fresh
  let a := granBase + v.1 % 2 ^ 30
  (v.2.put F.DET_SAMPLE_BASE_LO_ADDR a).put F.DET_SAMPLE_BASE_HI_ADDR (a / 2 ^ 32)

/-! ### Admission at load (R120, R121) -/

def streamRecords (b : List Nat) : List (Stream × Bool) := (List.range (b.length / 32)).map (fun i => streamRecord ((b.drop (32 * i)).take 32))

def Dev.admitLoad (d : Dev) : Dev :=
  if !d.hasSect 0x60 0 then d
  else
    let b := d.sect 0x60 0
    let l := streamRecords b
    let d := d.put F.CFG_ADMIT_COUNT (min 255 l.length)
    match (if b.length % 32 != 0 then some (1, 0) else d.admitCheck l) with
    | some (why, i) =>
      let d := ((d.put F.CFG_ADMIT_RESULT 2).put F.CFG_ADMIT_REASON why).put F.CFG_ADMIT_STREAM i
      (d.put F.CFG_INT_STAT_ADMIT_REFUSED 1).post 0x020B [why, i, l.length]
    | none =>
      let ss := l.map (fun x => x.1)
      ({ d with streams := ss }.put F.CFG_ADMIT_RESULT 1).post 0x020A [l.length, d.headroom ss]

/-! ### Reading a slot (R102, R104) -/

/-- The fault a read of an item meets. -/
def flashFault (fl : Flash) (slot item : Nat) : Option FlashFault := fl.faults.find? (fun x => x.slot.val == slot && x.item == item)

/-- The bytes of the slot at an offset of the flash. -/
def Dev.flashSlot (d : Dev) (fl : Flash) (off : Nat) : Nat → Nat → List Nat := fun o n => readRuns (d.flashRuns fl.runs) (off + o) n

/-- A read is repeated at 100 MHz, where the rest of the load stays (R104, event 0x0207). -/
def Dev.reread (d : Dev) (item fault : Nat) : Dev :=
  ({ d with cfg := { d.cfg with slow := true } }.put F.CFG_STAT_FLASH_SLOW 1).post 0x0207 [item, fault]

/-- Items 1 to 3 of R727, or 1 and 2. -/
def Dev.measureFrom (d : Dev) (items : List (List Nat)) : Dev :=
  let m := items.foldl (fun m x => digest64 (m ++ x)) (List.replicate 64 0)
  d.each (List.range 16) (fun d i => d.putI F.TAL_MEASURE_BYTES i (leAt m (4 * i) 4))

/-- The boot ROM's digest (18 R727). -/
def romDigest : List Nat := digest64 ((List.range 262144).map (fun i => Config.bootRom i % 256))

/-- What the load has read of a slot so far. -/
structure Reading where
  d : Dev
  got : Loaded := []
  fault : Option (Nat × Nat × Nat) := none
  deriving DecidableEq, Repr

/-- Step 5 of R102 for the section of directory index `i`: a rank that faults while it is copied is replaced, and the section read again
(R122). -/
def readOne (fl : Flash) (slot off : Nat) (dir : List Nat) (f : LoadFacts) (x : Reading) (i : Nat) : Reading :=
  if x.fault.isSome then x
  else
    let d := x.d
    let e := dirEntry dir i
    let read := d.flashSlot fl off
    let b := read e.off e.len
    let d := d.each (fl.losses.filter (fun r => r.slot.val == slot && r.item.val == i)) (fun d r => d.rankFault r.sc.val r.rank.val 1)
    let cap := 1024 * d.get F.DDR_CONFIG_CAP_GIB
    let c := sectionCode (rootKey dir) e b (read (e.off + e.len) 114) cap f.journal
    let bad := flashFault fl slot i
    let d := match bad with
      | some w => d.reread i (if w.strobe then 0 else 1)
      | none => if c = 0x0A then d.reread i 1 else d
    let code := match bad with
      | some w => if w.again then (if w.strobe then 0x0D else 0x0A) else c
      | none => c
    if code != 0 then { x with d := d, fault := some (code, i, e.typ) }
    else
      let d := if knownType e.typ then d else d.post 0x0209 [e.typ, i]
      let d := if e.typ != 0x70 then d
        else
          let l := policyPairs (b.length / 8) b
          let d := d.each (l.filter (fun p => !policyDefined p.1)) (fun d p => d.post 0x0209 [p.1, i])
          ({ d with pol := l }).retrainAtRate fl.ranks
      { x with d := d, got := x.got ++ [(e, b)] }

/-- A slot is rejected (R109, R877). -/
def Dev.rejectSlot (d : Dev) (slot : Nat) (x : Nat × Nat × Nat) : Dev :=
  let d := if slot = 0 then ((d.put F.CFG_SLOT_A_ERR_CODE x.1).put F.CFG_SLOT_A_ERR_SECTION x.2.1).put F.CFG_SLOT_A_ERR_TYPE x.2.2
    else ((d.put F.CFG_SLOT_B_ERR_CODE x.1).put F.CFG_SLOT_B_ERR_SECTION x.2.1).put F.CFG_SLOT_B_ERR_TYPE x.2.2
  { d with pol := [] }.post 0x0203 [slot, x.1, x.2.1, x.2.2]

/-- Absent optional sections (event 0x0208). -/
def Dev.noteAbsent (d : Dev) (l : Loaded) (factory : Bool) : Dev :=
  let d := d.each [0x02, 0x60] (fun d t => if (l.first t).isNone then d.post 0x0208 [t, 0] else d)
  if factory then d.each d.headNumbers (fun d h => if (l.find 0x20 h).isNone then d.post 0x0208 [0x20, h] else d) else d

/-- Every section has passed: the image runs, and PHASE reads DONE (R102, R105). -/
def Dev.loadEnds (d : Dev) (fl : Flash) (slot : Nat) (fallback : Bool) (dir : List Nat) (l : Loaded) : Dev :=
  let n := imageSections dir
  let pol := d.pol.filter (fun p => policyDefined p.1)
  let d := { d with pol := pol, cfg := { d.cfg with
    sections := l.sections, dir := dir, svn := leAt dir 0x10 4, build := leAt dir 0x14 4 } }
  let d := (d.noteAbsent l ((leAt dir 0x0E 2).testBit 0)).put F.CFG_STAT_PHASE loadAdmit
  let d := { d with cfg := { d.cfg with openStreams := 2 * d.actuators - popCount 8 (d.get F.RCH_STAT_FENCED) } }.admitLoad
  let own := digest64 (dir.take (0x100 + 96 * n))
  let d := d.each (List.range 16) (fun d i => d.putI F.CFG_DIR_DIGEST_BYTES i (leAt own (4 * i) 4))
  let flags := slot + (if d.on F.MOD_STAT_WARM then 2 else 0) + (if fallback then 4 else 0)
  let d := { d with tal := { d.tal with rom := romDigest, dir := own, sections := n, flags := flags } }
  let d := d.measureFrom ([romDigest, d.rootDigest, own] ++ (List.range n).map (fun i => (dirEntry dir i).digest))
  let d := ((d.put F.CFG_IMAGE_VALUE (imageSize dir)).put F.CFG_BUILD_ID_VALUE d.cfg.build).put F.CFG_SVN_VALUE d.cfg.svn
  let d := ((((d.loadMiller).loadKeys).loadShown).formPool).placeRetained
  let d := ((d.placeSamples).loadPorter).each (List.range d.actuators) (fun d n => (d.loadMicro n).firstTemp n)
  let d := d.loadSets.post 0x2101 [d.zoneCount, d.wedges, (d.zone 0).spt, d.codesUsed]
  let d := ((d.put F.CFG_LOAD_TIME_MS (min 65535 fl.ms)).put F.CFG_STAT_PHASE loadDone).put F.CFG_INT_STAT_DONE 1
  let d := if fallback then ((d.put F.CFG_STAT_FALLBACK 1).put F.CFG_INT_STAT_FALLBACK 1).post 0x0204 [slot] else d
  (d.post 0x0202 [slot, d.cfg.build, d.cfg.svn, min 65535 fl.ms]).setPause false

/-- Steps 2 to 6 of R102 for one slot: whether it is loaded. -/
def Dev.loadSlot (d : Dev) (fl : Flash) (s : Selector) (slot : Nat) (fallback : Bool) : Dev × Bool :=
  let f := d.loadFacts s slot
  let off := s.slotOff slot
  let d := ((d.put F.CFG_STAT_SLOT slot).put F.CFG_STAT_PHASE loadHeader).post 0x0201 [slot, s.seq]
  let bad := flashFault fl slot 64
  let d := match bad with | some w => if w.strobe then d.reread 64 0 else d | none => d
  let dir := readDir (d.flashSlot fl off)
  let code := if f.flashSize < f.slotOff + f.slotSize then 0x01
    else match bad with
      | some w => if w.strobe && w.again then 0x0D else headerCode f dir
      | none => headerCode f dir
  if code != 0 then (d.rejectSlot slot (code, 0, 0), false)
  else
    match dirCode f dir with
    | some x => (d.rejectSlot slot (0x08, x.1, x.2), false)
    | none =>
      let d := if d.cfg.trained then d else d.train fl.ranks
      if d.get F.DDR_STAT_STATE != ddrRun then (d, true)
      else
        let d := d.put F.CFG_STAT_PHASE loadSections
        let r := (List.range (imageSections dir)).foldl (readOne fl slot off dir f) { d := d }
        match r.fault with
        | some x => (r.d.rejectSlot slot x, false)
        | none =>
          if r.d.wat.safeDue.isSome then (r.d, true) else
          match jointCode r.got ((leAt dir 0x0E 2).testBit 0) with
          | some x => (r.d.rejectSlot slot x, false)
          | none => (r.d.loadEnds fl slot fallback dir r.got, true)

/-- Recovery hold (R112, R114): `code` is 0x0205 or 0x020C. -/
def Dev.recoveryHold (d : Dev) (fl : Flash) (code : Nat) (ps : List Nat) : Dev :=
  let d : Dev := { d with pol := [], streams := [], cfg := { d.cfg with sections := [], dir := [], svn := 0, build := 0 },
                          mod := { d.mod with recovery := true },
                          tal := { d.tal with rom := romDigest, dir := List.replicate 64 0, sections := 0, flags := (if d.on F.MOD_STAT_WARM then 10 else 8) } }
  let d := d.measureFrom [romDigest, d.rootDigest]
  let d := ((d.put F.CFG_LOAD_TIME_MS (min 65535 fl.ms)).put F.CFG_STAT_PHASE loadHold).put F.CFG_INT_STAT_HOLD 1
  (d.post code ps).setPause false

/-- The load, from step 1 of R102 (R93, R111, R112, R114). -/
def Dev.loadConfig (d : Dev) (fl : Flash) : Dev :=
  let usable := fl.answers && fl.profile
  let density := if fl.answers then fl.density % 32 else 0
  let d := (d.put F.CFG_FLASH_DENSITY density).flag F.CFG_FLASH_PROFILE_OK usable
  if !usable then d.recoveryHold fl 0x020C [fl.answers.toNat, density]
  else
    let d := { d with cfg := { d.cfg with slow := false } }.put F.CFG_STAT_PHASE loadSelect
    let raw := fun k => readRuns (d.flashRuns fl.runs) (4096 * k) 48
    let bad := fun k => fl.faults.find? (fun x => x.item == 65 + k && x.strobe)
    let ok := fun k => selectorOk (raw k) (2 ^ density) && !(bad k).any (fun x => x.again)
    let d := d.each [0, 1] (fun d k => if (bad k).isSome then d.reread (65 + k) 0 else d)
    let sel := fun k => selectorOf k (raw k)
    let d := (d.flag F.CFG_SEL_COPY0_VALID (ok 0)).flag F.CFG_SEL_COPY1_VALID (ok 1)
    let d := d.each [0, 1] (fun d k => if ok k then d else d.post 0x0206 [k])
    if !ok 0 && !ok 1 then ({ d with cfg := { d.cfg with sel := none } }).recoveryHold fl 0x0205 [0, 0]
    else
      let s := if ok 0 && (!ok 1 || (sel 1).seq ≤ (sel 0).seq) then sel 0 else sel 1
      let d := { d with cfg := { d.cfg with sel := some s } }.put F.CFG_SEL_COPY s.copy
      let r := d.loadSlot fl s s.active false
      if r.2 then r.1
      else
        let r := r.1.loadSlot fl s (1 - s.active) true
        if r.2 then r.1
        else r.1.recoveryHold fl 0x0205 [r.1.get F.CFG_SLOT_A_ERR_CODE, r.1.get F.CFG_SLOT_B_ERR_CODE]

/-- Is every PLL locked, none failed (02 R65, R879)? -/
def Dev.pllsLocked (d : Dev) : Bool :=
  (List.range 5).all (fun p => d.getI F.CLK_PLL_STAT_LOCKED p == 1 && d.getI F.CLK_PLL_STAT_FAILED p == 0)

/-- May the load begin: in BOOT with the clocks brought up and PHASE IDLE (R102, 02 R65); at a cold BOOT, with every PLL locked (02 R879)? -/
def Dev.loadable (d : Dev) : Bool :=
  d.mod.mode == Mode.boot && d.clk.released && d.mod.porstHigh && !d.harvesting && !d.mod.pwrfailLow && d.get F.CFG_STAT_PHASE == loadIdle
    && (d.on F.MOD_STAT_WARM || d.pllsLocked) && !d.clk.stopped

/-- CONFIG_LOAD: before the first flash access after PORST_N release the flash is reset, and the load waits for the end of its status poll
(R89); a later load begins at once (R129). -/
def Dev.configLoadAct (d : Dev) (fl : Flash) : Dev :=
  if !d.loadable then d
  else if d.cfg.flashReady then d.loadConfig fl
  else { d with cfg := { d.cfg with flashReset := true } }

/-- CONFIG_LOAD acts as `Dev.configLoadAct` says. -/
def execConfigLoad (fl : Flash) (s : State) : Out := s.runIsland 0x01 (fun d => d.configLoadAct fl)

/-- FLASH_READY: the status poll ends, with no write in progress or at its 500 ms, and the load proceeds (R89). -/
def Dev.flashReadyAct (d : Dev) (fl : Flash) : Dev :=
  if d.loadable && d.cfg.flashReset && !d.cfg.flashReady then { d with cfg := { d.cfg with flashReady := true } }.loadConfig fl else d

/-- FLASH_READY acts as `Dev.flashReadyAct` says. -/
def execFlashReady (fl : Flash) (s : State) : Out := s.runIsland 0x01 (fun d => d.flashReadyAct fl)

/-! ### The self-test (04 R139) and the exit from BOOT (R134) -/

/-- What a failure came to: masked, a unit fenced, or SAFE. -/
inductive TestEnd where
  | masked | fenced | safe
  deriving DecidableEq, Repr

def Dev.noActuator (d : Dev) : Bool := (List.range d.actuators).all d.actuatorFenced

/-- A failure is treated as R139's table says. -/
def Dev.testFail (d : Dev) (x : TestFail) : Dev × TestEnd :=
  match x.bit.val with
  | 0 | 1 =>
    let d := d.each x.words (fun d w => d.wordRemap x.unit w 0)
    (d, if (d.macro x.unit).exhausted then .safe else .masked)
  | 2 =>
    let more := d.get F.WAT_CORES_FENCED != 0 && !d.bit F.WAT_CORES_FENCED (x.unit % 4)
    (d.setBit F.WAT_CORES_FENCED (x.unit % 4) true, if more then .safe else .masked)
  | 3 =>
    let n := x.unit % 4
    let d := d.each x.words (fun d w => if w < 4096 then d.storeRemap n 0 w else d.storeRemap n 1 (w - 4096))
    (d, if !d.actuatorFenced n then .masked else if d.noActuator then .safe else .fenced)
  | 4 =>
    let r := x.unit % 23
    let d := d.engineFail r 0
    (d, if d.loopState r != loopFenced then .masked else if r ≤ 2 || d.noActuator then .safe else .fenced)
  | 5 =>
    let q := x.unit % 9
    let s := d.getI F.DET_Q_STAT_STREAM q
    let d := d.sliceFault q 2
    (d, if s < 8 && d.streamFenced s then .fenced else .masked)
  | _ => (d, .safe)

/-- A failure with its record: 0x0303, 0x030E or 0x0304. -/
def Dev.testJudged (d : Dev) (x : TestFail) : Dev :=
  let r := d.testFail x
  let d := (r.1.setBit F.MOD_SELFTEST_FAIL x.bit.val true).put F.MOD_INT_STAT_SELFTEST_FAIL 1
  match r.2 with
  | .masked => (d.setBit F.MOD_SELFTEST_SPARED x.bit.val true).post 0x0303 [x.bit.val, x.unit]
  | .fenced => d.post 0x030E [x.bit.val, x.unit]
  | .safe => d.post 0x0304 [x.bit.val, x.unit]

/-- BOOT is left after the self-test (R134): for SPIN, or for REST. -/
def Dev.bootExit (d : Dev) : Dev :=
  let rest := match d.mod.bootFrom with
    | some .rest => true
    | some .spin => false
    | some .serve => false
    | some .ease => false
    | _ => d.policy 0x0301 0 == 1
  if rest then d.restReached 0x0202 false else d.goSpin 0x0202

/-- SELF_TEST: after DONE every test is complete, with the failures given (R139). -/
def Dev.selfTestAct (d : Dev) (l : List TestFail) : Dev :=
  if d.mod.mode != Mode.boot || d.get F.CFG_STAT_PHASE != loadDone || d.mod.selfTested || d.harvesting then d
  else
    let d := (d.put F.MOD_SELFTEST_DONE 0x7F).each l Dev.testJudged
    let d := { d with mod := { d.mod with selfTested := true } }
    if d.wat.safeDue.isSome then d else d.bootExit

/-- SELF_TEST acts as `Dev.selfTestAct` says. -/
def execSelfTest (l : List TestFail) (s : State) : Out := s.runIsland 0x01 (fun d => d.selfTestAct l)

end Sys2Proof.Machine
end

