-- ==== Sys2Proof/Machine/Thermal.lean ====
section
/-! DEFINITION. Temperature and throttle steps (spec/20): the sensors, the reported junction, the enclosure, the step, the trip. -/

namespace Sys2Proof.Machine

/-! ### The sensors (R819 to R824) -/

/-- The neighbours of a sensor (R819). -/
def neighbours (i : Nat) : List Nat :=
  at' [[1, 4, 11], [0, 2, 4], [1, 3, 5], [2, 5, 9], [0, 1, 5, 6], [2, 3, 4, 7], [4, 7, 8], [5, 6, 8], [6, 7, 9, 12], [3, 8, 10], [9, 12, 13],
       [0, 12, 13], [8, 10, 11], [10, 11, 12]] i []

/-- Readings placed in order. -/
def intInsert (x : Int) : List Int → List Int
  | [] => [x]
  | y :: r => if x ≤ y then x :: y :: r else y :: intInsert x r

/-- Twice the median (R821): the mean of the two middle readings for an even number. -/
def median2 (l : List Int) : Int :=
  let s := l.foldr intInsert []
  at' s ((s.length - 1) / 2) 0 + at' s (s.length / 2) 0

/-- The median of a sensor's valid neighbours, doubled; none where fewer than two are valid (R821). -/
def neighbourMedian (valid : Nat) (t : List Int) (i : Nat) : Option Int :=
  let l := (neighbours i).filter valid.testBit
  if l.length < 2 then none else some (median2 (l.map (fun j => at' t j 0)))

/-- The reading of a register's TEMP, 1/16 °C. -/
def tempBits (t : Int) : Nat := ofSigned 16 t

/-- A sensor is dropped (R822, event 0x7003); with none left the event 0x7006 (R824). -/
def Dev.dropSensor (d : Dev) (i : Nat) (t m2 : Int) : Dev :=
  let d := ((d.setBit F.THM_VALID_DROPPED i true).setBit F.THM_VALID_VALID i false).putI F.THM_SENSOR_VALID i 0
  let d := (d.putI F.THM_SENSOR_DROPPED i 1).put F.THM_INT_STAT_SENSOR 1
  let d := d.post 0x7003 [i, tempBits t, tempBits (m2 / 2)]
  if d.get F.THM_VALID_VALID = 0 then d.post 0x7006 [d.get F.THM_VALID_DROPPED] else d

/-- Each sensor is judged against its neighbours, all on the sample's valid set (R821, R822); a sample in which it is not judged ends its run (log entry
158). -/
def Dev.judgeSensors (d : Dev) (t : List Int) : Dev :=
  let valid := d.get F.THM_VALID_VALID
  d.each ((List.range 14).filter valid.testBit) (fun d i =>
    let n := min 64 (at' d.thm.samples i 0 + 1)
    let m := neighbourMedian valid t i
    let off := match m with | some m2 => decide (2 * 12 * 16 < (2 * at' t i 0 - m2).natAbs) | none => false
    let k := if off then at' d.thm.disagree i 0 + 1 else 0
    let d := { d with thm := { d.thm with samples := d.thm.samples.set i n, disagree := d.thm.disagree.set i k } }
    if 64 ≤ k && 64 ≤ n then d.dropSensor i (at' t i 0) (m.getD 0) else d)

/-! ### The step (R827 to R830) -/

/-- THR_T1 to THR_T5, 1/16 °C. -/
def Dev.threshold (d : Dev) (i : Nat) : Int := (16 * d.policy (0x7000 + i) (at' [0, 110, 118, 126, 134, 142] i 0) : Nat)

/-- THR_HYST, 1/16 °C. -/
def Dev.hysteresis (d : Dev) : Int := (16 * d.policy 0x7006 4 : Nat)

def Dev.junction (d : Dev) : Int := toSigned 16 (d.get F.THM_MAX_TEMP)

/-- The step changes (R828, R830): the trims follow, and the counts start again. -/
def Dev.setStep (d : Dev) (n : Nat) : Dev :=
  let d := { d.put F.THM_STAT_STEP n with thm := { d.thm with hot := 0, cool := 0 } }
  ((d.put F.THM_INT_STAT_STEP 1).riskCheck).updateCeiling

def Dev.raiseStep (d : Dev) (cause : Nat) : Dev :=
  let n := d.get F.THM_STAT_STEP + 1
  let d := { d with thm := { d.thm with riseMs := 0 } }.setStep n
  d.post 0x7001 [n, d.get F.THM_MAX_TEMP, cause]

def Dev.lowerStep (d : Dev) : Dev :=
  let n := d.get F.THM_STAT_STEP - 1
  let d := d.setStep n
  d.post 0x7002 [n, d.get F.THM_MAX_TEMP]

/-- The step moves where its counts let it (R828, R829): the enclosure's hold raises it to 4, each rise 100 ms after the one before (log entry 158), and
keeps it there. -/
def Dev.stepCheck (d : Dev) : Dev :=
  let step := d.get F.THM_STAT_STEP
  let hold := d.on F.THM_STAT_ENC_HOLD
  let ready := 100 ≤ d.thm.riseMs
  if step < 5 && 8 ≤ d.thm.hot && ready then d.raiseStep 0
  else if hold && step < 4 && ready then d.raiseStep 1
  else if 0 < step && 1000 ≤ d.thm.cool && !(hold && step ≤ 4) then d.lowerStep
  else d

/-- The counts of a sample (R828). -/
def Dev.countStep (d : Dev) (t : Int) : Dev :=
  let step := d.get F.THM_STAT_STEP
  let hot := step < 5 && d.threshold (step + 1) ≤ t
  let cool := 0 < step && t < d.threshold step - d.hysteresis
  { d with thm := { d.thm with
    hot := if hot then min 8 (d.thm.hot + 1) else 0, cool := if cool then min 1000 (d.thm.cool + 1) else 0,
    riseMs := min 100 (d.thm.riseMs + 1) } }

/-- The trip at 150 °C (R836, event 0x7008). -/
def Dev.tripCheck (d : Dev) (sensor : Nat) (t : Int) : Dev :=
  let run := if 2400 ≤ t then min 2 (d.thm.tripRun + 1) else 0
  let cool := if t < 2400 - d.hysteresis then min 1000 (d.thm.tripCool + 1) else 0
  let armed := !d.thm.tripped || cool = 1000
  let d := { d with thm := { d.thm with tripRun := run, tripCool := cool, tripped := !armed } }.flag F.THM_STAT_TRIP (!armed)
  if armed && run = 2 then
    ({ d with thm := { d.thm with tripped := true, tripCool := 0 } }.put F.THM_STAT_TRIP 1).post 0x7008 [sensor, tempBits t]
  else d

/-- The reported junction temperature with its sensor (R823): the guard of 5 °C below 7 valid sensors. -/
def Dev.report (d : Dev) (t : List Int) : Option (Nat × Int) :=
  let valid := (List.range 14).filter (d.get F.THM_VALID_VALID).testBit
  match valid.find? (fun i => valid.all (fun j => decide (at' t j 0 ≤ at' t i 0))) with
  | none => none
  | some i => some (i, at' t i 0 + if valid.length < 7 then 80 else 0)

/-- A sample of every sensor (R820 to R824, R828, R836, R881). -/
def Dev.thermalSample (d : Dev) (t : List Int) : Dev :=
  let d := d.each (List.range 14) (fun d i => d.putI F.THM_SENSOR_TEMP i (tempBits (at' t i 0)))
  let fed := d.thm.stale
  let d := { d with thm := { d.thm with stale := false } }.when fed Dev.updateCeiling
  let r := d.report t
  let few := popCount 14 (d.get F.THM_VALID_VALID) < 7
  let d := d.flag F.THM_STAT_GUARD few
  let d := if few && !d.thm.guarded then { d with thm := { d.thm with guarded := true } }.post 0x7004 [d.get F.THM_VALID_VALID] else d
  let d := match r with
    | none => d.put F.THM_MAX_VALID 0
    | some x =>
      let d := (d.put F.THM_MAX_VALID 1).put F.THM_MAX_TEMP (tempBits x.2)
      ((d.countStep x.2).stepCheck).tripCheck x.1 x.2
  let d := d.judgeSensors t
  d.flag F.THM_STAT_LEARNING (d.thm.samples.any (fun n => decide (n < 64)))

/-! ### The enclosure (R825, R826, R829) -/

/-- ln of a/b in 2^-40, by halvings and the series of the inverse hyperbolic tangent. -/
def lnSeries : Nat → Int → Int → Int → Int
  | 0, _, _, acc => acc
  | n + 1, z2, p, acc => lnSeries n z2 (p * z2 / 2 ^ 40) (acc + p / (2 * (24 - n) + 1 : Nat))

/-- ln of m / 2^40 for m from 2^40 to 2^41, in 2^-40. -/
def lnUnit (m : Int) : Int :=
  let z := (m - 2 ^ 40) * 2 ^ 40 / (m + 2 ^ 40)
  2 * lnSeries 25 (z * z / 2 ^ 40) z 0

def lnRatio (a b : Nat) : Int :=
  let k : Int := (Nat.log2 a : Int) - Nat.log2 b
  let m : Int := if 0 ≤ k then 2 ^ 40 * (a : Int) / (b * 2 ^ k.toNat : Nat) else 2 ^ 40 * (a * 2 ^ (-k).toNat : Nat) / (b : Int)
  let k2 := if m < 2 ^ 40 then k - 1 else k
  let m2 := if m < 2 ^ 40 then 2 * m else m
  k2 * 762123384786 + lnUnit m2

/-- The conversion of R825 to 1/16 °C, rounded to the nearest (log entry 49); none where no temperature comes out, or one outside −40 to
150 °C (R826). -/
def Dev.enclosureTemp (d : Dev) (code : Nat) : Option Int :=
  if code = 0 || 4095 ≤ code then none
  else
    let ln := lnRatio (code * 10000) ((4095 - code) * d.policy 0x700B 10000)
    let inv : Int := 2 ^ 40 * 100 / 29815 + ln / (d.policy 0x700C 3435 : Nat)
    if inv ≤ 0 then none
    else
      let t : Int := (3200 * 2 ^ 40 / inv - 874080 + 100) / 200
      if -640 ≤ t ∧ t ≤ 2400 then some t else none

/-- An enclosure sample (R825, R826, R829; event 0x7005). -/
def Dev.enclosureSample (d : Dev) (code : Nat) : Dev :=
  match d.enclosureTemp code with
  | none =>
    let first := !d.thm.encBad
    let d := { d with thm := { d.thm with encBad := true } }.put F.THM_ENC_VALID 0
    let d := (d.put F.THM_STAT_ENC_HOLD 0).when first (fun d => (d.put F.THM_INT_STAT_SENSOR 1).post 0x7005 [code])
    d.stepCheck
  | some t =>
    let hot : Int := (16 * d.policy 0x700A 60 : Nat)
    let d := ({ d with thm := { d.thm with encBad := false } }.put F.THM_ENC_VALID 1).put F.THM_ENC_TEMP (tempBits t)
    let d := if hot ≤ t then d.put F.THM_STAT_ENC_HOLD 1 else if t < hot - d.hysteresis then d.put F.THM_STAT_ENC_HOLD 0 else d
    d.stepCheck

/-- THERMAL_SAMPLE (R820 to R824, R828, R836): the 14 readings, 1/16 °C; none while the THM island stands (R881). -/
def execThermalSample (l : List Int) (s : State) : Out := s.runIsland 0x16 (fun d => if d.mod.porstHigh then d.thermalSample l else d)

/-- ENCLOSURE_SAMPLE (R825, R826, R829): the code of the ADC. -/
def execEnclosureSample (code : Fin 4096) (s : State) : Out := s.runIsland 0x16 (fun d => if d.mod.porstHigh then d.enclosureSample code.val else d)

/-- STEP_STALE (R881): the consumers apply step 5 until they receive a step. -/
def execStepStale (s : State) : Out := s.runCore (fun d => { d with thm := { d.thm with stale := true } }.updateCeiling)

end Sys2Proof.Machine
end

