-- ==== Sys2Proof/Machine/Dispatch.lean ====
section
/-! DEFINITION. The dispatch: one arm for each command, a direct call of its meaning. -/

namespace Sys2Proof.Machine

def exec (i : Instr) (s : State) : Host.Outcome State Fault Refusal :=
  match i with
  | .porstNRelease => Sys2Proof.Machine.execPorstNRelease s
  | .porstNAssert ns taken => Sys2Proof.Machine.execPorstNAssert ns taken s
  | .aonPowerOn => Sys2Proof.Machine.execAonPowerOn s
  | .vddioLoss => Sys2Proof.Machine.execVddioLoss s
  | .pwrfailFall => Sys2Proof.Machine.execPwrfailFall s
  | .harvestCommit => Sys2Proof.Machine.execHarvestCommit s
  | .pwrfailRise => Sys2Proof.Machine.execPwrfailRise s
  | .harvestTailWritten ms => Sys2Proof.Machine.execHarvestTailWritten ms s
  | .harvestHoldoffEnd => Sys2Proof.Machine.execHarvestHoldoffEnd s
  | .roscQualified => Sys2Proof.Machine.execRoscQualified s
  | .slowRingCounted => Sys2Proof.Machine.execSlowRingCounted s
  | .slowRingTimeout reached => Sys2Proof.Machine.execSlowRingTimeout reached s
  | .monitorWindow count => Sys2Proof.Machine.execMonitorWindow count s
  | .learningEnd => Sys2Proof.Machine.execLearningEnd s
  | .clockVote xin rosc => Sys2Proof.Machine.execClockVote xin rosc s
  | .xinEdgeTimeout => Sys2Proof.Machine.execXinEdgeTimeout s
  | .xinRequalified => Sys2Proof.Machine.execXinRequalified s
  | .roscAmplitudeLost => Sys2Proof.Machine.execRoscAmplitudeLost s
  | .coarseXinCheck xin => Sys2Proof.Machine.execCoarseXinCheck xin s
  | .pllEnableWrite p => Sys2Proof.Machine.execPllEnableWrite p s
  | .pllDisableWrite p => Sys2Proof.Machine.execPllDisableWrite p s
  | .pllLockWindow p count => Sys2Proof.Machine.execPllLockWindow p count s
  | .pllLockTimeout p => Sys2Proof.Machine.execPllLockTimeout p s
  | .islandSourceSwitch src => Sys2Proof.Machine.execIslandSourceSwitch src s
  | .islandSwitchDone island => Sys2Proof.Machine.execIslandSwitchDone island s
  | .islandGateRequest => Sys2Proof.Machine.execIslandGateRequest s
  | .islandUngate => Sys2Proof.Machine.execIslandUngate s
  | .islandDrained island part => Sys2Proof.Machine.execIslandDrained island part s
  | .gateTimeout island part outstanding => Sys2Proof.Machine.execGateTimeout island part outstanding s
  | .powerDownRequest dom => Sys2Proof.Machine.execPowerDownRequest dom s
  | .powerDownDone dom => Sys2Proof.Machine.execPowerDownDone dom s
  | .powerUpRequest dom => Sys2Proof.Machine.execPowerUpRequest dom s
  | .powerUpDone dom => Sys2Proof.Machine.execPowerUpDone dom s
  | .dropwrClear => Sys2Proof.Machine.execDropwrClear s
  | .registerWrite byHost addr wide v => Sys2Proof.Machine.execRegisterWrite byHost addr wide v s
  | .reeveAccess core x => Sys2Proof.Machine.execReeveAccess core x s
  | .configLoad fl => Sys2Proof.Machine.execConfigLoad fl s
  | .flashReady fl => Sys2Proof.Machine.execFlashReady fl s
  | .selfTest l => Sys2Proof.Machine.execSelfTest l s
  | .talAppendBoot how => Sys2Proof.Machine.execTalAppendBoot how s
  | .modReqWrite t => Sys2Proof.Machine.execModReqWrite t s
  | .modReboot => Sys2Proof.Machine.execModReboot s
  | .modEaseIdleWrite v => Sys2Proof.Machine.execModEaseIdleWrite v s
  | .modRestIdleWrite v => Sys2Proof.Machine.execModRestIdleWrite v s
  | .modEaseRpmWrite v => Sys2Proof.Machine.execModEaseRpmWrite v s
  | .easeIdleExpire => Sys2Proof.Machine.execEaseIdleExpire s
  | .restIdleExpire => Sys2Proof.Machine.execRestIdleExpire s
  | .pwmPeriod p => Sys2Proof.Machine.execPwmPeriod p s
  | .reacquireTimeout => Sys2Proof.Machine.execReacquireTimeout s
  | .obsFailsClear => Sys2Proof.Machine.execObsFailsClear s
  | .listenEnd => Sys2Proof.Machine.execListenEnd s
  | .brakeDone => Sys2Proof.Machine.execBrakeDone s
  | .brakeTimeout => Sys2Proof.Machine.execBrakeTimeout s
  | .senseDone => Sys2Proof.Machine.execSenseDone s
  | .alignDone => Sys2Proof.Machine.execAlignDone s
  | .handoverMet => Sys2Proof.Machine.execHandoverMet s
  | .handoverTimeout => Sys2Proof.Machine.execHandoverTimeout s
  | .retryBrakeEnd => Sys2Proof.Machine.execRetryBrakeEnd s
  | .spindleAtRest => Sys2Proof.Machine.execSpindleAtRest s
  | .motorSupplyFault => Sys2Proof.Machine.execMotorSupplyFault s
  | .millerSecond => Sys2Proof.Machine.execMillerSecond s
  | .rampStart => Sys2Proof.Machine.execRampStart s
  | .rampTargetReached => Sys2Proof.Machine.execRampTargetReached s
  | .rampSettled => Sys2Proof.Machine.execRampSettled s
  | .gasSample => Sys2Proof.Machine.execGasSample s
  | .wedge n w => Sys2Proof.Machine.execWedge n w s
  | .missedWedge n rot => Sys2Proof.Machine.execMissedWedge n rot s
  | .loadRequest n => Sys2Proof.Machine.execLoadRequest n s
  | .headsOffRamp n => Sys2Proof.Machine.execHeadsOffRamp n s
  | .acquireTimeout n => Sys2Proof.Machine.execAcquireTimeout n s
  | .seekTimeout n => Sys2Proof.Machine.execSeekTimeout n s
  | .lostTimeout n => Sys2Proof.Machine.execLostTimeout n s
  | .headOnRamp n => Sys2Proof.Machine.execHeadOnRamp n s
  | .retractTimeout n => Sys2Proof.Machine.execRetractTimeout n s
  | .hardwareParkDone n => Sys2Proof.Machine.execHardwareParkDone n s
  | .shpFenceWrite n => Sys2Proof.Machine.execShpFenceWrite n s
  | .preampTempRead n => Sys2Proof.Machine.execPreampTempRead n s
  | .preampFrameDone n answer => Sys2Proof.Machine.execPreampFrameDone n answer s
  | .paCmdGo n v => Sys2Proof.Machine.execPaCmdGo n v s
  | .preampFault n => Sys2Proof.Machine.execPreampFault n s
  | .storeReloadDone n o => Sys2Proof.Machine.execStoreReloadDone n o s
  | .microNext n f => Sys2Proof.Machine.execMicroNext n f s
  | .microBranch n f => Sys2Proof.Machine.execMicroBranch n f s
  | .microLoop n f => Sys2Proof.Machine.execMicroLoop n f s
  | .microCall n f => Sys2Proof.Machine.execMicroCall n f s
  | .microReturn n f => Sys2Proof.Machine.execMicroReturn n f s
  | .microWait n f => Sys2Proof.Machine.execMicroWait n f s
  | .microTret n f => Sys2Proof.Machine.execMicroTret n f s
  | .microFault n f => Sys2Proof.Machine.execMicroFault n f s
  | .aluNop n f => Sys2Proof.Machine.execAluNop n f s
  | .aluAdd n f => Sys2Proof.Machine.execAluAdd n f s
  | .aluSub n f => Sys2Proof.Machine.execAluSub n f s
  | .aluAnd n f => Sys2Proof.Machine.execAluAnd n f s
  | .aluOr n f => Sys2Proof.Machine.execAluOr n f s
  | .aluXor n f => Sys2Proof.Machine.execAluXor n f s
  | .aluShl n f => Sys2Proof.Machine.execAluShl n f s
  | .aluSar n f => Sys2Proof.Machine.execAluSar n f s
  | .aluMul n f => Sys2Proof.Machine.execAluMul n f s
  | .aluMac n f => Sys2Proof.Machine.execAluMac n f s
  | .aluMin n f => Sys2Proof.Machine.execAluMin n f s
  | .aluMax n f => Sys2Proof.Machine.execAluMax n f s
  | .aluClamp n f => Sys2Proof.Machine.execAluClamp n f s
  | .aluAbs n f => Sys2Proof.Machine.execAluAbs n f s
  | .aluPass n f => Sys2Proof.Machine.execAluPass n f s
  | .aluLdi n f => Sys2Proof.Machine.execAluLdi n f s
  | .counterLoad n c imm => Sys2Proof.Machine.execCounterLoad n c imm s
  | .portMaWrite n k v => Sys2Proof.Machine.execPortMaWrite n k v s
  | .portTgtWrite n k v => Sys2Proof.Machine.execPortTgtWrite n k v s
  | .portVcmIrefWrite n v => Sys2Proof.Machine.execPortVcmIrefWrite n v s
  | .portStateWrite n v => Sys2Proof.Machine.execPortStateWrite n v s
  | .portHeadselWrite n v => Sys2Proof.Machine.execPortHeadselWrite n v s
  | .portWgenWrite n v => Sys2Proof.Machine.execPortWgenWrite n v s
  | .drvRetSelect n w => Sys2Proof.Machine.execDrvRetSelect n w s
  | .drvRetTaken n => Sys2Proof.Machine.execDrvRetTaken n s
  | .drvRetReady n k => Sys2Proof.Machine.execDrvRetReady n k s
  | .drvRetReturn n k left => Sys2Proof.Machine.execDrvRetReturn n k left s
  | .portEventWrite n v => Sys2Proof.Machine.execPortEventWrite n v s
  | .portTableAddrWrite n v => Sys2Proof.Machine.execPortTableAddrWrite n v s
  | .portTimerWrite n v => Sys2Proof.Machine.execPortTimerWrite n v s
  | .ucTimerExpire n => Sys2Proof.Machine.execUcTimerExpire n s
  | .trapTake n => Sys2Proof.Machine.execTrapTake n s
  | .loopTick r m e f => Sys2Proof.Machine.execLoopTick r m e f s
  | .loopCloseRequest r byCtrl => Sys2Proof.Machine.execLoopCloseRequest r byCtrl s
  | .loopOpenRequest r byCtrl => Sys2Proof.Machine.execLoopOpenRequest r byCtrl s
  | .lpeCoefWrite r off v => Sys2Proof.Machine.execLpeCoefWrite r off v s
  | .patrolComplete => Sys2Proof.Machine.execPatrolComplete s
  | .referenceTestDone spareOk formerOk => Sys2Proof.Machine.execReferenceTestDone spareOk formerOk s
  | .sectorAttemptStart st x => Sys2Proof.Machine.execSectorAttemptStart st x s
  | .adaptBlock st x => Sys2Proof.Machine.execAdaptBlock st x s
  | .taFlagChange st x => Sys2Proof.Machine.execTaFlagChange st x s
  | .defectFlagChange st x => Sys2Proof.Machine.execDefectFlagChange st x s
  | .sectorAttemptEnd st parity => Sys2Proof.Machine.execSectorAttemptEnd st parity s
  | .sectorAttemptAbandon st cause => Sys2Proof.Machine.execSectorAttemptAbandon st cause s
  | .servoWindowOpen st => Sys2Proof.Machine.execServoWindowOpen st s
  | .servoWindowClose st => Sys2Proof.Machine.execServoWindowClose st s
  | .rchReseedWrite st => Sys2Proof.Machine.execRchReseedWrite st s
  | .rchFenceWrite st => Sys2Proof.Machine.execRchFenceWrite st s
  | .rchRwoWrite st off v => Sys2Proof.Machine.execRchRwoWrite st off v s
  | .syncFraming q => Sys2Proof.Machine.execSyncFraming q s
  | .globalIterationEnd q fault => Sys2Proof.Machine.execGlobalIterationEnd q fault s
  | .offlineDecodeStart => Sys2Proof.Machine.execOfflineDecodeStart s
  | .offlineDecodeEnd q fault => Sys2Proof.Machine.execOfflineDecodeEnd q fault s
  | .detFenceWrite q => Sys2Proof.Machine.execDetFenceWrite q s
  | .detKatWrite q => Sys2Proof.Machine.execDetKatWrite q s
  | .katDue q => Sys2Proof.Machine.execKatDue q s
  | .katDone q right => Sys2Proof.Machine.execKatDone q right s
  | .segmentStart st => Sys2Proof.Machine.execSegmentStart st s
  | .writeSectorEnd st flips mon => Sys2Proof.Machine.execWriteSectorEnd st flips mon s
  | .shockTrip n => Sys2Proof.Machine.execShockTrip n s
  | .shockRelease n => Sys2Proof.Machine.execShockRelease n s
  | .shkHoldExpire => Sys2Proof.Machine.execShkHoldExpire s
  | .wchForceWrite => Sys2Proof.Machine.execWchForceWrite s
  | .wchReleaseWrite => Sys2Proof.Machine.execWchReleaseWrite s
  | .wchShkTestWrite => Sys2Proof.Machine.execWchShkTestWrite s
  | .shkTestEnd => Sys2Proof.Machine.execShkTestEnd s
  | .wchShkWrite v => Sys2Proof.Machine.execWchShkWrite v s
  | .verifyRead st fault => Sys2Proof.Machine.execVerifyRead st fault s
  | .dramRequest asks j o => Sys2Proof.Machine.execDramRequest asks j o s
  | .agePromotion j => Sys2Proof.Machine.execAgePromotion j s
  | .rowIdlePrecharge sc rank bg ba => Sys2Proof.Machine.execRowIdlePrecharge sc rank bg ba s
  | .shortPause sc rank ok => Sys2Proof.Machine.execShortPause sc rank ok s
  | .longPause sc rank ok rate => Sys2Proof.Machine.execLongPause sc rank ok rate s
  | .dramPatrolRead x spare o => Sys2Proof.Machine.execDramPatrolRead x spare o s
  | .ceHourEnd => Sys2Proof.Machine.execCeHourEnd s
  | .migrationLineCopy sc o => Sys2Proof.Machine.execMigrationLineCopy sc o s
  | .ddrMapWrite high v => Sys2Proof.Machine.execDdrMapWrite high v s
  | .tileProduceWrite producer t off bytes => Sys2Proof.Machine.execTileProduceWrite producer t off bytes s
  | .tileUse u intact => Sys2Proof.Machine.execTileUse u intact s
  | .tileTestDone t pass => Sys2Proof.Machine.execTileTestDone t pass s
  | .cacheRequest port x => Sys2Proof.Machine.execCacheRequest port x s
  | .cacheFillDone port o => Sys2Proof.Machine.execCacheFillDone port o s
  | .noncachingAccess x => Sys2Proof.Machine.execNoncachingAccess x s
  | .victimWritebackDone line => Sys2Proof.Machine.execVictimWritebackDone line s
  | .mccLockWrite v => Sys2Proof.Machine.execMccLockWrite v s
  | .lockChangeDone => Sys2Proof.Machine.execLockChangeDone s
  | .maintClean => Sys2Proof.Machine.execMaintClean s
  | .maintInvalidate => Sys2Proof.Machine.execMaintInvalidate s
  | .maintCleanInvalidate => Sys2Proof.Machine.execMaintCleanInvalidate s
  | .maintDone => Sys2Proof.Machine.execMaintDone s
  | .cacheDisable => Sys2Proof.Machine.execCacheDisable s
  | .cacheEnable => Sys2Proof.Machine.execCacheEnable s
  | .drainDone => Sys2Proof.Machine.execDrainDone s
  | .sramPatrol m word o => Sys2Proof.Machine.execSramPatrol m word o s
  | .bucketLeak => Sys2Proof.Machine.execBucketLeak s
  | .flipArm v => Sys2Proof.Machine.execFlipArm v s
  | .porterGo c byCore v => Sys2Proof.Machine.execPorterGo c byCore v s
  | .porterAbort c v => Sys2Proof.Machine.execPorterAbort c v s
  | .porterMove c o word => Sys2Proof.Machine.execPorterMove c o word s
  | .porterLoop c o word => Sys2Proof.Machine.execPorterLoop c o word s
  | .porterWait c o word => Sys2Proof.Machine.execPorterWait c o word s
  | .porterSignal c o word => Sys2Proof.Machine.execPorterSignal c o word s
  | .porterBurstDone c x => Sys2Proof.Machine.execPorterBurstDone c x s
  | .porterWaitSatisfied c left => Sys2Proof.Machine.execPorterWaitSatisfied c left s
  | .porterBarrierMet c => Sys2Proof.Machine.execPorterBarrierMet c s
  | .porterWatchdog c => Sys2Proof.Machine.execPorterWatchdog c s
  | .porSwreqWrite v => Sys2Proof.Machine.execPorSwreqWrite v s
  | .porOwnerWrite v => Sys2Proof.Machine.execPorOwnerWrite v s
  | .porterRwoWrite c off v => Sys2Proof.Machine.execPorterRwoWrite c off v s
  | .linkL0 w r rev => Sys2Proof.Machine.execLinkL0 w r rev s
  | .linkDetect => Sys2Proof.Machine.execLinkDetect s
  | .laneFailure lane => Sys2Proof.Machine.execLaneFailure lane s
  | .functionReset kind => Sys2Proof.Machine.execFunctionReset kind s
  | .configRequest q => Sys2Proof.Machine.execConfigRequest q s
  | .l1Request => Sys2Proof.Machine.execL1Request s
  | .poisonedTlp header => Sys2Proof.Machine.execPoisonedTlp header s
  | .msixTableWrite v dw value => Sys2Proof.Machine.execMsixTableWrite v dw value s
  | .twnCmdWrite w start l => Sys2Proof.Machine.execTwnCmdWrite w start l s
  | .twnGo w v all => Sys2Proof.Machine.execTwnGo w v all s
  | .twnAck w => Sys2Proof.Machine.execTwnAck w s
  | .earlyRead bar2 off len => Sys2Proof.Machine.execEarlyRead bar2 off len s
  | .twnPauseWrite v => Sys2Proof.Machine.execTwnPauseWrite v s
  | .ringHeadWrite r v => Sys2Proof.Machine.execRingHeadWrite r v s
  | .ringEnable r v => Sys2Proof.Machine.execRingEnable r v s
  | .ringDisable r v => Sys2Proof.Machine.execRingDisable r v s
  | .ringConfigWrite r which v => Sys2Proof.Machine.execRingConfigWrite r which v s
  | .completionPost n arrived => Sys2Proof.Machine.execCompletionPost n arrived s
  | .statusMirrorRefresh j => Sys2Proof.Machine.execStatusMirrorRefresh j s
  | .read n v bad => Sys2Proof.Machine.execRead n v bad s
  | .write n v => Sys2Proof.Machine.execWrite n v s
  | .flush n => Sys2Proof.Machine.execFlush n s
  | .release n => Sys2Proof.Machine.execRelease n s
  | .verify n bad => Sys2Proof.Machine.execVerify n bad s
  | .abort n => Sys2Proof.Machine.execAbort n s
  | .streamOpen n => Sys2Proof.Machine.execStreamOpen n s
  | .streamClose n => Sys2Proof.Machine.execStreamClose n s
  | .sealBandCreate n => Sys2Proof.Machine.execSealBandCreate n s
  | .sealBandClose n => Sys2Proof.Machine.execSealBandClose n s
  | .identify n v => Sys2Proof.Machine.execIdentify n v s
  | .logRead n v lost => Sys2Proof.Machine.execLogRead n v lost s
  | .featureGet n => Sys2Proof.Machine.execFeatureGet n s
  | .featurePowerMode n => Sys2Proof.Machine.execFeaturePowerMode n s
  | .featureEaseIdle n => Sys2Proof.Machine.execFeatureEaseIdle n s
  | .featureRestIdle n => Sys2Proof.Machine.execFeatureRestIdle n s
  | .featureEaseRpm n => Sys2Proof.Machine.execFeatureEaseRpm n s
  | .featureKeyRotate n => Sys2Proof.Machine.execFeatureKeyRotate n s
  | .featureDebugUnlock n => Sys2Proof.Machine.execFeatureDebugUnlock n s
  | .featureSvnFloor n => Sys2Proof.Machine.execFeatureSvnFloor n s
  | .featureUnsealBand n => Sys2Proof.Machine.execFeatureUnsealBand n s
  | .fwDownload n v => Sys2Proof.Machine.execFwDownload n v s
  | .fwActivate n => Sys2Proof.Machine.execFwActivate n s
  | .activationTimeout => Sys2Proof.Machine.execActivationTimeout s
  | .resync n v => Sys2Proof.Machine.execResync n v s
  | .attestFresh n v => Sys2Proof.Machine.execAttestFresh n v s
  | .attestBootRecord n v => Sys2Proof.Machine.execAttestBootRecord n v s
  | .driveMakerCommand n v a => Sys2Proof.Machine.execDriveMakerCommand n v a s
  | .decisionPoint st bad => Sys2Proof.Machine.execDecisionPoint st bad s
  | .journalProgram => Sys2Proof.Machine.execJournalProgram s
  | .checkpoint => Sys2Proof.Machine.execCheckpoint s
  | .mapRestore bad stop ms => Sys2Proof.Machine.execMapRestore bad stop ms s
  | .rebuildDone stripe member bad => Sys2Proof.Machine.execRebuildDone stripe member bad s
  | .surfaceRebuildEnd => Sys2Proof.Machine.execSurfaceRebuildEnd s
  | .talAppendKeyRotate => Sys2Proof.Machine.execTalAppendKeyRotate s
  | .talAppendSvnFloor => Sys2Proof.Machine.execTalAppendSvnFloor s
  | .talAppendDebugUnlock => Sys2Proof.Machine.execTalAppendDebugUnlock s
  | .talAppendUnsealBand => Sys2Proof.Machine.execTalAppendUnsealBand s
  | .talAppendAttestation => Sys2Proof.Machine.execTalAppendAttestation s
  | .talRequestDone how bad => Sys2Proof.Machine.execTalRequestDone how bad s
  | .mirrorProgram => Sys2Proof.Machine.execMirrorProgram s
  | .sealComputationDone agree stored => Sys2Proof.Machine.execSealComputationDone agree stored s
  | .seaJobGo v => Sys2Proof.Machine.execSeaJobGo v s
  | .seaDataWrite v => Sys2Proof.Machine.execSeaDataWrite v s
  | .seaJobFinish v => Sys2Proof.Machine.execSeaJobFinish v s
  | .presSample low => Sys2Proof.Machine.execPresSample low s
  | .presenceExpire => Sys2Proof.Machine.execPresenceExpire s
  | .prsRevokeWrite => Sys2Proof.Machine.execPrsRevokeWrite s
  | .sealLoopSample b => Sys2Proof.Machine.execSealLoopSample b s
  | .sealEntryAppend how => Sys2Proof.Machine.execSealEntryAppend how s
  | .jtagBypass => Sys2Proof.Machine.execJtagBypass s
  | .jtagIdcode => Sys2Proof.Machine.execJtagIdcode s
  | .jtagSamplePreload pattern => Sys2Proof.Machine.execJtagSamplePreload pattern s
  | .jtagExtest pattern => Sys2Proof.Machine.execJtagExtest pattern s
  | .jtagDbg => Sys2Proof.Machine.execJtagDbg s
  | .jtagOtpprog digest => Sys2Proof.Machine.execJtagOtpprog digest s
  | .jtagTapReset => Sys2Proof.Machine.execJtagTapReset s
  | .eventReport code p0 p1 p2 p3 => Sys2Proof.Machine.execEventReport code p0 p1 p2 p3 s
  | .faultnPulseEnd => Sys2Proof.Machine.execFaultnPulseEnd s
  | .watchTake => Sys2Proof.Machine.execWatchTake s
  | .discardReport => Sys2Proof.Machine.execDiscardReport s
  | .watKickWrite n => Sys2Proof.Machine.execWatKickWrite n s
  | .coreWatchdogExpire n => Sys2Proof.Machine.execCoreWatchdogExpire n s
  | .watForceSafe => Sys2Proof.Machine.execWatForceSafe s
  | .watFaultnWrite level => Sys2Proof.Machine.execWatFaultnWrite level s
  | .watchRegFault off byte => Sys2Proof.Machine.execWatchRegFault off byte s
  | .daybookCommit ok => Sys2Proof.Machine.execDaybookCommit ok s
  | .repeatCommit ok => Sys2Proof.Machine.execRepeatCommit ok s
  | .tokenRefill => Sys2Proof.Machine.execTokenRefill s
  | .dbkFreezeWrite => Sys2Proof.Machine.execDbkFreezeWrite s
  | .dbkThawWrite => Sys2Proof.Machine.execDbkThawWrite s
  | .freezeExpire => Sys2Proof.Machine.execFreezeExpire s
  | .dbkCursorWrite v => Sys2Proof.Machine.execDbkCursorWrite v s
  | .dbkNextWrite => Sys2Proof.Machine.execDbkNextWrite s
  | .dbkWindowRefilled readable => Sys2Proof.Machine.execDbkWindowRefilled readable s
  | .opsecTick => Sys2Proof.Machine.execOpsecTick s
  | .opsecCommit => Sys2Proof.Machine.execOpsecCommit s
  | .thermalSample l => Sys2Proof.Machine.execThermalSample l s
  | .enclosureSample code => Sys2Proof.Machine.execEnclosureSample code s
  | .stepStale => Sys2Proof.Machine.execStepStale s
  | .uartTxWrite b => Sys2Proof.Machine.execUartTxWrite b s
  | .uartByteSent => Sys2Proof.Machine.execUartByteSent s
  | .uartRxByte b stop => Sys2Proof.Machine.execUartRxByte b stop s
  | .uartPopWrite => Sys2Proof.Machine.execUartPopWrite s
  | .pioUartCfgWrite v => Sys2Proof.Machine.execPioUartCfgWrite v s
  | .pioGpioFnWrite v => Sys2Proof.Machine.execPioGpioFnWrite v s
  | .pioGpioPullWrite v => Sys2Proof.Machine.execPioGpioPullWrite v s
  | .preampFaultClear n => Sys2Proof.Machine.execPreampFaultClear n s
  | .railFall r => Sys2Proof.Machine.execRailFall r s
  | .completionTimeout c => Sys2Proof.Machine.execCompletionTimeout c s
  | .dramRefresh sc rank ba => Sys2Proof.Machine.execDramRefresh sc rank ba s
  | .linkError e => Sys2Proof.Machine.execLinkError e s

end Sys2Proof.Machine
end

