-- ==== Sys2Proof/Safety.lean ====
section
/-! DEFINITION. The terms that claims about the block use: what a command does before the device settles, a device with nothing under way,
status fields that say what stands elsewhere in the device. -/

namespace Sys2Proof.Machine

/-- Command `c` acts: on device `d`, whatever waits in the queue, `exec` answers the next state that holds device `e` settled (04 R134, R141;
19 R774: `Dev.settle`), and leaves the queue as it was. -/
def Effect (c : Instr) (d e : Dev) : Prop := ∀ q : List Instr, exec c ⟨d, q⟩ = .next ⟨e.settle, q⟩

/-- Does the logic that performs a command run on a device (02 R51, R72, R78, R82)? The AON blocks, the balls and the JTAG port always do; an
island while it is powered, not gated and not stopped; what no one island holds while the islands outside AON are not stopped (log entry 160). -/
def Command.runsOn (i : Instr) (d : Dev) : Bool :=
  match i with
  | .porstNRelease | .porstNAssert _ _ | .aonPowerOn | .vddioLoss | .pwrfailFall | .harvestCommit | .pwrfailRise | .harvestHoldoffEnd
  | .roscQualified | .slowRingCounted | .slowRingTimeout _ | .monitorWindow _ | .learningEnd | .clockVote _ _ | .xinEdgeTimeout
  | .xinRequalified | .roscAmplitudeLost | .coarseXinCheck _ | .pllLockWindow _ _ | .pllLockTimeout _ | .powerDownDone _ | .powerUpDone _
  | .presSample _ | .presenceExpire | .sealLoopSample _ | .jtagBypass | .jtagIdcode | .jtagSamplePreload _ | .jtagExtest _ | .jtagDbg
  | .jtagOtpprog _ | .jtagTapReset | .eventReport _ _ _ _ _ | .faultnPulseEnd | .watchTake | .discardReport | .coreWatchdogExpire _
  | .watchRegFault _ _ | .daybookCommit _ | .repeatCommit _ | .tokenRefill | .freezeExpire | .dbkWindowRefilled _ | .opsecTick
  | .opsecCommit | .railFall _ => true
  | .harvestTailWritten _ | .pllEnableWrite _ | .pllDisableWrite _ | .islandSourceSwitch _ | .islandSwitchDone _ | .islandGateRequest
  | .islandUngate | .islandDrained _ _ | .gateTimeout _ _ _ | .powerDownRequest _ | .powerUpRequest _ | .dropwrClear
  | .registerWrite _ _ _ _ | .reeveAccess _ _ | .modReqWrite _ | .modReboot | .modEaseIdleWrite _ | .modRestIdleWrite _
  | .modEaseRpmWrite _ | .shpFenceWrite _ | .paCmdGo _ _ | .loopCloseRequest _ _ | .loopOpenRequest _ _ | .lpeCoefWrite _ _ _
  | .rchReseedWrite _ | .rchFenceWrite _ | .rchRwoWrite _ _ _ | .detFenceWrite _ | .detKatWrite _ | .shockTrip _ | .shockRelease _
  | .shkHoldExpire | .wchForceWrite | .wchReleaseWrite | .wchShkTestWrite | .shkTestEnd | .wchShkWrite _ | .ddrMapWrite _ _
  | .mccLockWrite _ | .maintClean | .maintInvalidate | .maintCleanInvalidate | .cacheDisable | .cacheEnable | .flipArm _ | .porterGo _ _ _
  | .porterAbort _ _ | .porSwreqWrite _ | .porOwnerWrite _ | .porterRwoWrite _ _ _ | .twnPauseWrite _ | .abort _ | .streamOpen _
  | .streamClose _ | .sealBandCreate _ | .sealBandClose _ | .identify _ _ | .logRead _ _ _ | .featureGet _ | .featurePowerMode _
  | .featureEaseIdle _ | .featureRestIdle _ | .featureEaseRpm _ | .featureKeyRotate _ | .featureDebugUnlock _ | .featureSvnFloor _
  | .featureUnsealBand _ | .fwDownload _ _ | .fwActivate _ | .activationTimeout | .resync _ _ | .attestFresh _ _ | .attestBootRecord _ _
  | .driveMakerCommand _ _ _ | .talAppendKeyRotate | .talAppendSvnFloor | .talAppendDebugUnlock | .talAppendUnsealBand
  | .talAppendAttestation | .seaJobGo _ | .seaDataWrite _ | .seaJobFinish _ | .prsRevokeWrite | .watKickWrite _ | .watForceSafe
  | .watFaultnWrite _ | .dbkFreezeWrite | .dbkThawWrite | .dbkCursorWrite _ | .dbkNextWrite | .stepStale | .uartTxWrite _ | .uartPopWrite
  | .pioUartCfgWrite _ | .pioGpioFnWrite _ | .pioGpioPullWrite _ => !d.clk.stopped
  | .configLoad _ | .flashReady _ | .selfTest _ => d.live 0x01
  | .talAppendBoot _ | .talRequestDone _ _ | .mirrorProgram | .sealEntryAppend _ => d.live 0x11
  | .easeIdleExpire | .restIdleExpire => d.live 0x02
  | .pwmPeriod _ | .reacquireTimeout | .obsFailsClear | .listenEnd | .brakeDone | .brakeTimeout | .senseDone | .alignDone | .handoverMet
  | .handoverTimeout | .retryBrakeEnd | .spindleAtRest | .motorSupplyFault | .millerSecond | .rampStart | .rampTargetReached | .rampSettled
  | .gasSample => d.live 0x03
  | .wedge _ _ | .missedWedge _ _ | .loadRequest _ | .headsOffRamp _ | .acquireTimeout _ | .seekTimeout _ | .lostTimeout _ | .headOnRamp _
  | .retractTimeout _ | .hardwareParkDone _ | .preampTempRead _ | .preampFrameDone _ _ | .preampFault _ | .storeReloadDone _ _
  | .microNext _ _ | .microBranch _ _ | .microLoop _ _ | .microCall _ _ | .microReturn _ _ | .microWait _ _ | .microTret _ _
  | .microFault _ _ | .aluNop _ _ | .aluAdd _ _ | .aluSub _ _ | .aluAnd _ _ | .aluOr _ _ | .aluXor _ _ | .aluShl _ _ | .aluSar _ _
  | .aluMul _ _ | .aluMac _ _ | .aluMin _ _ | .aluMax _ _ | .aluClamp _ _ | .aluAbs _ _ | .aluPass _ _ | .aluLdi _ _ | .counterLoad _ _ _
  | .portMaWrite _ _ _ | .portTgtWrite _ _ _ | .portVcmIrefWrite _ _ | .portStateWrite _ _ | .portHeadselWrite _ _ | .portWgenWrite _ _
  | .drvRetSelect _ _ | .drvRetTaken _ | .drvRetReady _ _ | .drvRetReturn _ _ _ | .portEventWrite _ _ | .portTableAddrWrite _ _
  | .portTimerWrite _ _ | .ucTimerExpire _ | .trapTake _ | .preampFaultClear _ => d.live 0x04
  | .loopTick _ _ _ _ | .patrolComplete | .referenceTestDone _ _ => d.live 0x05
  | .sectorAttemptStart st _ | .adaptBlock st _ | .taFlagChange st _ | .defectFlagChange st _ | .sectorAttemptEnd st _
  | .sectorAttemptAbandon st _ | .servoWindowOpen st | .servoWindowClose st => d.livePort 0x06 (st.val / 2)
  | .syncFraming _ | .globalIterationEnd _ _ | .offlineDecodeStart | .offlineDecodeEnd _ _ | .katDue _ | .katDone _ _ | .verifyRead _ _ => d.live 0x07
  | .segmentStart st | .writeSectorEnd st _ _ => d.livePort 0x08 (st.val / 2)
  | .dramRequest _ _ _ | .agePromotion _ | .rowIdlePrecharge _ _ _ _ | .shortPause _ _ _ | .longPause _ _ _ _ | .dramPatrolRead _ _ _
  | .ceHourEnd | .migrationLineCopy _ _ | .dramRefresh _ _ _ => d.live 0x0A
  | .tileProduceWrite _ _ _ _ | .tileUse _ _ | .tileTestDone _ _ => d.live 0x09
  | .cacheRequest _ _ | .cacheFillDone _ _ | .noncachingAccess _ | .victimWritebackDone _ | .lockChangeDone | .maintDone | .drainDone => d.live 0x0B
  | .sramPatrol _ _ _ | .bucketLeak => d.live 0x0C
  | .porterMove _ _ _ | .porterLoop _ _ _ | .porterWait _ _ _ | .porterSignal _ _ _ | .porterBurstDone _ _ | .porterWaitSatisfied _ _
  | .porterBarrierMet _ | .porterWatchdog _ | .completionTimeout _ => d.live 0x0D
  | .linkL0 _ _ _ | .linkDetect | .laneFailure _ | .functionReset _ | .configRequest _ | .l1Request | .poisonedTlp _
  | .msixTableWrite _ _ _ | .twnCmdWrite _ _ _ | .twnGo _ _ _ | .twnAck _ | .earlyRead _ _ _ | .ringHeadWrite _ _ | .ringEnable _ _
  | .ringDisable _ _ | .ringConfigWrite _ _ _ | .linkError _ => d.live 0x0E
  | .completionPost _ _ | .statusMirrorRefresh _ => d.live 0x0F
  | .read _ _ _ | .write _ _ | .flush _ | .release _ | .verify _ _ | .decisionPoint _ _ | .journalProgram | .checkpoint | .mapRestore _ _ _
  | .rebuildDone _ _ _ | .surfaceRebuildEnd => d.live 0x10
  | .sealComputationDone _ _ => d.live 0x12
  | .thermalSample _ | .enclosureSample _ => d.live 0x16
  | .uartByteSent | .uartRxByte _ _ => d.live 0x17

/-- Nothing is under way that a command's end takes further: no Harvest, the islands outside AON not stopped, no SAFE decision due (19 R774), no
change of mode (04 R134), no activation (16 R663), not in SPIN (04 R134), in SAFE every park over (04 R141), no stripe waiting for a name (17
R706), no FLUSH or FUA WRITE under way (16 R646, R647), no piece, pass or open band (17 R690), in EASE no run pass due (17 R694). -/
structure Quiet (d : Dev) : Prop where
  harvest : d.harvesting = false
  clocks : d.clk.stopped = false
  decision : d.wat.safeDue = none
  transit : d.mod.transit = none
  activation : d.cmd.act = none
  spin : d.mod.mode ≠ Mode.spin
  parked : d.mod.mode = Mode.safe → d.mod.parkDone = true
  named : d.on F.DRV_STAT_MAP_FULL = false
  flushed : ∀ c ∈ d.cmd.ctxs, c.state = .dispatched → c.opcode ≠ opFlush ∧ d.fuaWrite c = false
  pieces : d.drv.pieces = []
  passes : d.drv.passes = []
  band : d.openBand = none
  run : d.mod.mode = Mode.ease → d.passDue = false

/-- The status fields that a command's end writes from what stands elsewhere in the device. -/
def statusFields : List Field :=
  [F.MOD_STAT_MODE, F.MOD_STAT_TRANSIT, F.DET_CAP_GLOBAL_CAP, F.DET_CAP_STEP, F.WAT_STAT_PENDING, F.WAT_STAT_FAULTN_LOW, F.DRV_STAT_SPEED_HOLD]

/-- The status fields say what stands elsewhere: the mode (04 R128), a change in progress (04 R134), the iteration cap and the step it is
taken from (10 R396), the events held and FAULT_N (19 R783, R814), the write hold (17 R700), the
latency reported (15 R592); and no SAFE decision waits (19 R774). -/
structure StatusTrue (d : Dev) : Prop where
  decided : d.wat.safeDue = none
  mode : d.get F.MOD_STAT_MODE = d.mod.mode.code
  transit : d.get F.MOD_STAT_TRANSIT = if d.mod.transit.isSome then 1 else 0
  cap : d.get F.DET_CAP_GLOBAL_CAP = d.globalCap % 2 ^ F.DET_CAP_GLOBAL_CAP.width
  step : d.get F.DET_CAP_STEP = d.appliedStep % 2 ^ F.DET_CAP_STEP.width
  pending : d.get F.WAT_STAT_PENDING = min 255 d.eventsHeld
  faultn : d.get F.WAT_STAT_FAULTN_LOW = if d.faultnLow then 1 else 0
  ltr : d.hif.ltrUs = if d.mod.mode = Mode.rest then 3000 else 100
  hold : d.get F.DRV_STAT_SPEED_HOLD = d.get F.MIL_STAT_WRITE_HOLD % 2 ^ F.DRV_STAT_SPEED_HOLD.width

/-- What an ALU operation with the exact result `x` leaves in a Shepherd's microcode machine: the flags, and DST where WE is set (07 R266, R268). -/
def Uc.aluDone (u : Uc) (x : Int) (f : AluFields) : Uc :=
  let v := u.withFlags (aluResult x f.sat) (aluOverflow x)
  if f.we then v.setReg f.dst.val (aluResult x f.sat) else v

/-- Map entries name ranges of LBAs, none empty, that rise without overlapping (17 R704). -/
def mapOrdered (l : List Extent) : Prop := l.Pairwise (fun a b => a.lba + a.count ≤ b.lba) ∧ ∀ e ∈ l, 0 < e.count

end Sys2Proof.Machine
end

