-- ==== Sys2Proof/Certificates/Slice0/Obligations.lean ====
section
/-! DEFINITION. The statements to be proved: the step, the status fields, the registers and memories, the events, and for every command
where it completes and with what effect. -/

open Sys2Proof Sys2Proof.Machine

/-- For every command c and device d with queue c followed by q, a step is exec of c on d with queue q; with an empty queue a step answers the
same state, which is the model’s own reading (log entry 54, DESIGN CHOICE). -/
def Obligations.StepTakesTheFrontCommand : Prop :=
  (∀ (c : Instr) (d : Dev) (q : List Instr), step ⟨d, c :: q⟩ = exec c ⟨d, q⟩) ∧
  (∀ d : Dev, step ⟨d, []⟩ = .next ⟨d, []⟩)

/-- No command faults and none is refused: for every command and device there is a device that exec settles into a next state whatever the queue
holds, and the queue stays as it was. -/
def Obligations.EveryCommandCompletes : Prop :=
  (∀ (c : Instr) (d : Dev), ∃ e : Dev, Effect c d e)

/-- State.reset has an empty queue and mode BOOT, no byte listed in its memories, and every field of every register at the reset value its field
gives: those of the spec, and for what the spec gives no value those of log entry 3 (DESIGN CHOICE). By address: the ID registers of CLK and
MOD, the mode, the Watch’s and the Porter’s status. -/
def Obligations.ResetIsTheStateAfterPowerOn : Prop :=
  (State.reset.pending = [] ∧ State.reset.mod.mode = Mode.boot ∧ State.reset.mem = [] ∧ State.reset.hostMem = []) ∧
  (∀ (f : Machine.Field) (i : Nat), State.reset.toDev.getI f i = resetValue f i) ∧
  ((State.reset.toDev.readReg 0x20000000).1 = 0x0C1C00B0 ∧ (State.reset.toDev.readReg 0x20020000).1 = 0x0E0D00B0 ∧
    (State.reset.toDev.readReg 0x20020004).1 = 0 ∧ (State.reset.toDev.readReg 0x20010084).1 = 0)

/-- The mode, a change in progress, the iteration cap and step, the events held, FAULT_N, the latency reported and the Drover’s hold read at
reset what the device holds, and no SAFE decision waits. -/
def Obligations.StatusHoldsAtReset : Prop :=
  StatusTrue State.reset.toDev

/-- For every state whose status fields say what stands elsewhere in the device, the state after a step is such a state: MOD_STAT.MODE and
TRANSIT, DET_CAP, WAT_STAT.PENDING and FAULTN_LOW and DRV_STAT.SPEED_HOLD agree with the mode, the change in progress, the policy and step,
the ports, the drivers of FAULT_N and the Miller’s hold, the LTR value reported agrees with the mode, and no SAFE decision waits. -/
def Obligations.StatusHoldsAfterEveryStep : Prop :=
  (∀ s t : State, StatusTrue s.toDev → step s = .next t → StatusTrue t.toDev)

/-- Where no Harvest, SAFE decision, change of mode, activation, SPIN, open park, waiting name, FLUSH or FUA WRITE, piece, pass or open band is
under way and the clocks run, what a command’s end does is write the status fields and the LTR value: every other register field reads as
before, and everything else that is not a register is as it was. -/
def Obligations.QuietDeviceSettles : Prop :=
  (∀ d : Dev, Quiet d → d.settle = d.showStatus ∧ { d.settle with regs := d.regs, hif := d.hif } = d ∧
    { d.settle.hif with ltrUs := d.hif.ltrUs } = d.hif ∧
    ∀ (f : Machine.Field) (i : Nat), (∀ g ∈ statusFields, g.key ≠ f.key) → d.settle.getI f i = d.getI f i)

/-- For every command and device: where the island that performs the command is off, gated or stopped, or the command is one that no single
island holds and the islands outside AON are stopped, the command changes nothing (log entry 160, DESIGN CHOICE: such a command can’t come
about). Where the spec leaves a point open, the model’s own reading is meant: log entry 160. -/
def Obligations.StoppedIslandsDoNothing : Prop :=
  (∀ (c : Instr) (d : Dev), Command.runsOn c d = false → Effect c d d)

/-- For every field of a register, bit k of it after a write of v: RO and WO keep it, RW takes v’s bit, W1S sets it where v’s bit is 1, W1C
clears it where v’s bit is 1, RWO takes v’s bit where the owner permits and else keeps it; every other field keeps its value; and a register
of write-only fields reads as zero. -/
def Obligations.AccessCodesMeanWhatTheySay : Prop :=
  (∀ (d : Dev) (p : Place) (i v k : Nat) (ok : Bool), k < p.field.width →
      ((d.writeField p i v ok).getI p.field i).testBit k =
        match p.access with
        | .ro => (d.getI p.field i).testBit k
        | .wo => (d.getI p.field i).testBit k
        | .rw => v.testBit (p.lo + k)
        | .w1s => (d.getI p.field i).testBit k || v.testBit (p.lo + k)
        | .w1c => (d.getI p.field i).testBit k && !v.testBit (p.lo + k)
        | .rwo => if ok then v.testBit (p.lo + k) else (d.getI p.field i).testBit k) ∧
  (∀ (d : Dev) (p : Place) (i v : Nat) (ok : Bool) (f : Machine.Field) (j : Nat), f.key ≠ p.field.key ∨ j ≠ i →
      (d.writeField p i v ok).getI f j = d.getI f j) ∧
  (∀ (d : Dev) (row : RegRow) (i : Nat), (∀ p ∈ row.places, p.access = .wo) → d.readRow row i = 0)

/-- For every register of every block: its address and strides are multiples of 4, and its fields lie within bits 0 to 31, no two of them
sharing a bit. The Shepherds’ registers have four instances, for actuators 0 to 3, at offsets 0, 0x4000, 0x8000 and 0xC000 from the SHP
base. Inside a block’s region, an offset that no register occupies reads zero and a write there has no effect and is not counted, whatever
the domain’s state; while a register’s domain is off, a read of it returns zero and a write of it is dropped and counted in
CLK_PD_DROPWR.COUNT. The window page of the TWN block reads zero while its domain is off. -/
def Obligations.RegistersLieAtTheirPlaces : Prop :=
  (∀ b < 24, ∀ row ∈ Layout.block b, row.addr % 4 = 0 ∧ row.stride1 % 4 = 0 ∧ row.stride2 % 4 = 0 ∧
      (∀ p ∈ row.places, p.lo + p.field.width ≤ 32) ∧ row.places.Pairwise (fun p q => q.lo + q.field.width ≤ p.lo)) ∧
  (∀ row ∈ Layout.shp, 0x20040000 ≤ row.addr ∧ row.addr < 0x20044000 ∧ row.n1 = 4 ∧ row.stride1 = 0x4000) ∧
  (∀ (d : Dev) (a v : Nat) (h : Bool), 0x20000000 ≤ a → a < 0x20180000 → regFind a = none → (a < 0x200F4000 ∨ 0x200F8000 ≤ a) →
      d.readReg a = (0, d) ∧ d.storeReg a v h = d) ∧
  (∀ (d : Dev) (a v : Nat) (h : Bool) (row : RegRow) (i : Nat), regFind a = some (row, i) → (a < 0x200F4000 ∨ 0x200F8000 ≤ a) →
      d.powered (rowDomain row i) = false → d.readReg a = (0, d) ∧ d.storeReg a v h = d.inc F.CLK_PD_DROPWR_COUNT) ∧
  (∀ (d : Dev) (a v : Nat) (h : Bool), 0x200F4000 ≤ a → a < 0x200F8000 → d.storeReg a v h = d ∧
      (d.powered (islandDomain 0x0F) = false → d.readReg a = (0, d)))

/-- A FREE window reads PHASE PAUSED while PAUSE is 1 and FREE while it is 0; a BUSY or DONE window reads its phase either way; a change of
PAUSE changes no window; a window whose GO was refused PAUSED reads DONE; and an acknowledged window reads PAUSED while PAUSE is 1. -/
def Obligations.WindowsWhilePaused : Prop :=
  (∀ (d : Dev) (w : Nat), (d.win w).phase = 0 → d.winPhase w = if d.on F.TWN_CTRL_PAUSE then 3 else 0) ∧
  (∀ (d : Dev) (w : Nat), (d.win w).phase ≠ 0 → d.winPhase w = (d.win w).phase) ∧
  (∀ (d : Dev) (b : Bool) (w : Nat), (d.setPause b).win w = d.win w) ∧
  (∀ (d : Dev) (c : Ctx), c.window < d.hif.wins.length → ((d.refuseGo c whyPaused).win c.window).phase = 2) ∧
  (∀ (d : Dev) (w : Nat), w < d.hif.wins.length → (d.win w).phase = 2 → d.on F.TWN_CTRL_PAUSE = true → (d.ackWindow w).winPhase w = 3)

/-- Whatever the address, what a register read leaves is the device as it was, but for the model’s own count of free values taken (log entry 5).
A core’s 4-byte load of a register then changes only what the core is answered. A host’s read of BAR0 or BAR2 changes only what the host is
answered, but for a read of a BUSY window’s result, which returns zero and advances that window’s early-read counter and the common one. -/
def Obligations.RegisterReadsChangeNothing : Prop :=
  (∀ (d : Dev) (a : Nat), ∃ k : Nat, (d.readReg a).2 = { d with freeCount := k }) ∧
  (∀ (d : Dev) (bar2 : Bool) (off len : Nat), d.earlyWindow bar2 off = none → { d.barsRead bar2 off len with bus := d.bus } = d) ∧
  (∀ (d : Dev) (off len : Nat), len = 4 ∨ len = 8 → off % len = 0 → 0x38 ≤ off % 64 → (d.win (off / 64)).phase = 1 → off / 64 < d.hif.wins.length →
      ((d.barsRead false off len).win (off / 64)).early = min 255 ((d.win (off / 64)).early + 1) ∧
      (d.barsRead false off len).get F.TWN_EARLY_COUNT = (d.inc F.TWN_EARLY_COUNT).get F.TWN_EARLY_COUNT ∧
      (d.barsRead false off len).bus.value = 0)

/-- Where a faulty word’s read-back agrees: after a write of bytes at an address, reading as many bytes there gives those bytes; a read of any
byte outside them gives what it gave before; a memory in canonical form (addresses rising, no zero listed) is in it again; and with no bit
flip armed, nothing of the device but the memory, the words’ marks and the cores’ reservations changes. -/
def Obligations.SramHoldsWhatIsWritten : Prop :=
  (∀ (d : Dev) (a : Nat) (bytes : List Nat), (∀ x ∈ bytes, x < 256) →
      (d.sramWrite a bytes true).sramRead a bytes.length = bytes) ∧
  (∀ (d : Dev) (a x : Nat) (bytes : List Nat), x < a ∨ a + bytes.length ≤ x →
      memAt (d.sramWrite a bytes true).mem x = memAt d.mem x) ∧
  (∀ (d : Dev) (a : Nat) (bytes : List Nat), Memory.wf d.mem = true → Memory.wf (d.sramWrite a bytes true).mem = true) ∧
  (∀ (d : Dev) (a : Nat) (bytes : List Nat), d.on F.SRM_FLIP_CTRL_ARMED = false →
      { d.sramWrite a bytes true with mem := d.mem, srm := d.srm, bus := d.bus } = d)

/-- For an event with a severity, at its block’s port: below 3, with fewer than 8 ordinary events held there, it is appended to them; with 8 it
is discarded, the port’s and WAT_DROP’s counts rise and the port’s lists stay. Of severity 3 or 4 it is appended to the port’s faults with
its lines’ reaction whatever the port holds, never discarded, and FAULT_N pulses. Every other port stays as it was, and so does everything
but the Watch and its registers. -/
def Obligations.EventsReachTheirPorts : Prop :=
  (∀ (d : Dev) (code sev : Nat) (ps : List Nat), Events.severity code = some sev → Events.port code < d.wat.ports.length → sev < 3 →
      (at' d.wat.ports (Events.port code) {}).ordinary.length < 8 →
      at' (d.post code ps).wat.ports (Events.port code) {} =
        { at' d.wat.ports (Events.port code) {} with ordinary := (at' d.wat.ports (Events.port code) {}).ordinary ++ [mkEvent code ps] }) ∧
  (∀ (d : Dev) (code sev : Nat) (ps : List Nat), Events.severity code = some sev → Events.port code < d.wat.ports.length → sev < 3 →
      8 ≤ (at' d.wat.ports (Events.port code) {}).ordinary.length →
      at' (d.post code ps).wat.ports (Events.port code) {} =
        { at' d.wat.ports (Events.port code) {} with dropped := (at' d.wat.ports (Events.port code) {}).dropped + 1 } ∧
      (d.post code ps).get F.WAT_DROP_COUNT = (d.inc F.WAT_DROP_COUNT).get F.WAT_DROP_COUNT) ∧
  (∀ (d : Dev) (code sev : Nat) (ps : List Nat), Events.severity code = some sev → Events.port code < d.wat.ports.length → 3 ≤ sev →
      at' (d.post code ps).wat.ports (Events.port code) {} =
        { at' d.wat.ports (Events.port code) {} with
          faults := (at' d.wat.ports (Events.port code) {}).faults ++ [⟨mkEvent code ps, d.reaction code sev⟩] } ∧
      (d.post code ps).on F.WAT_STAT_PULSE = true) ∧
  (∀ (d : Dev) (code n : Nat) (ps : List Nat), n ≠ Events.port code → at' (d.post code ps).wat.ports n {} = at' d.wat.ports n {}) ∧
  (∀ (d : Dev) (code : Nat) (ps : List Nat), { d.post code ps with regs := d.regs, wat := d.wat } = d)

/-- Where no Harvest is committed and SAFE has not been entered since BOOT, the SAFE entry leaves the device in SAFE with no change of mode in
progress, the acknowledged sectors that are not on the medium once the write gates are cut counted for the next BOOT, no piece, pass or
surface rebuild, and WAT_STAT.SAFE set; where a Harvest is committed or SAFE was entered it only takes the decision back. Where the spec
leaves a point open, the model’s own reading is meant: log entry 97. -/
def Obligations.SafeEntryEndsTheWork : Prop :=
  (∀ (d : Dev) (code : Nat), d.harvesting = false → d.on F.WAT_STAT_SAFE = false →
      (d.safeEntry code).mod.mode = Mode.safe ∧ (d.safeEntry code).mod.transit = none ∧ 
      (d.safeEntry code).mod.lostAtSafe =
        ((({ d with wat := { d.wat with safeDue := none } } : Dev).put F.WAT_STAT_SAFE 1).killAssert killSafe).unwritten ∧
      (d.safeEntry code).drv.pieces = [] ∧ (d.safeEntry code).drv.passes = [] ∧ (d.safeEntry code).drv.surf = none ∧
      (d.safeEntry code).on F.WAT_STAT_SAFE = true) ∧
  (∀ (d : Dev) (code : Nat), d.harvesting = true ∨ d.on F.WAT_STAT_SAFE = true → d.safeEntry code = { d with wat := { d.wat with safeDue := none } })

/-- In a map whose entries rise without overlapping, after a new entry each of its LBAs has the data index that the entry gives (none where it
is LOST), every other LBA has the one it had, and the entries rise without overlapping; after a clear the LBAs of the range have none, every
other LBA the one it had, and the entries rise without overlapping. -/
def Obligations.ExtentMapTakesEntries : Prop :=
  (∀ (d : Dev) (e : Extent) (lba : Nat), mapOrdered d.drv.map → 0 < e.count →
      (d.mapSet e).dataIndex lba =
        if e.lba ≤ lba ∧ lba < e.lba + e.count then (if e.lost then none else some (e.dstart + (lba - e.lba))) else d.dataIndex lba) ∧
  (∀ (d : Dev) (e : Extent), mapOrdered d.drv.map → 0 < e.count →
      mapOrdered (d.mapSet e).drv.map) ∧
  (∀ (d : Dev) (lba count x : Nat), mapOrdered d.drv.map →
      (d.mapClear lba count).dataIndex x = (if lba ≤ x ∧ x < lba + count then none else d.dataIndex x) ∧
      mapOrdered (d.mapClear lba count).drv.map)

/-- For a code record that keeps R385’s last limit (an entry of shift 0 on every parity column’s diagonal, none below it) and repeats no place,
and 32,896 data bits: the codeword that the write path forms has 32 bits for each information column and each base row, begins with the data
bits as they are, and leaves no check of R384 unsatisfied. Where the spec leaves a point open, the model’s own reading is meant: log entries
143 and 144. -/
def Obligations.CodewordsSatisfyEveryCheck : Prop :=
  (∀ (c : CodeRec) (data : List Bool), data.length = infoBits → (∀ j < c.rows, (1028 + j, j, 0) ∈ c.edges) →
      (∀ e ∈ c.edges, e.1 ≤ 1028 + e.2.1) → (c.edges.map (fun e => (e.1, e.2.1))).Nodup →
      (c.encode data).size = 32 * (1028 + c.rows) ∧ (c.encode data).toList.take infoBits = data ∧ c.unsat (c.encode data) = 0)

/-- ROSC_QUALIFIED and SLOW_RING_COUNTED set their bits, and the second of the two arms the monitor into its learning phase. SLOW_RING_TIMEOUT
holds the reset, drives FAULT_N low and stages event 0x0106 with the cycles reached. A window in the start-up band adds its count to the
learned sum; one outside asks for a vote. LEARNING_END takes the rounded mean of 64 windows as CREF, enters tracking, releases the islands
and enables the five PLLs. CLOCK_VOTE with both counts in band counts an unresolved vote and learns again until the fourth; with XIN in band
and ROSC out it holds the reset with event 0x0103. XIN_EDGE_TIMEOUT in the learning phase makes XIN wait for a window in band and records
0x0102 once. XIN_REQUALIFIED after 64 good windows returns to tracking, releases source 8 of the kill net, records 0x0108 and restarts the
lock of every enabled PLL. ROSC_AMPLITUDE_LOST in tracking enters ROSC_LOST with event 0x0109, and COARSE_XIN_CHECK there judges XIN by the
band 2286 to 5333. Where the spec leaves a point open, the model’s own reading is meant: log entries 113, 122 and 123. -/
def Obligations.ClockStartUp : Prop :=
  (∀ (d : Dev),
      Effect (.roscQualified) d (d.roscQualified)) ∧
  (∀ (d : Dev),
      d.clk.held = false →
      d.phase = phaseUnarmed →
      d.on F.CLK_MON_STAT_SLOW_COUNTED = false →
      Effect (.roscQualified) d (d.put F.CLK_MON_STAT_ROSC_QUAL 1)) ∧
  (∀ (d : Dev),
      Effect (.slowRingCounted) d (d.slowRingCounted)) ∧
  (∀ (d : Dev),
      d.clk.held = false →
      d.mod.porstHigh = true →
      d.phase = phaseUnarmed →
      d.on F.CLK_MON_STAT_ROSC_QUAL = true →
      Effect (.slowRingCounted) d ({ (d.put F.CLK_MON_STAT_SLOW_COUNTED 1).put F.CLK_MON_STAT_PHASE phaseLearning with clk := { d.clk with learnN := 0, learnSum := 0 } })) ∧
  (∀ (d : Dev) (reached : Nat),
      Effect (.slowRingTimeout reached) d (d.slowRingTimeout reached)) ∧
  (∀ (d : Dev) (n : Nat),
      d.clk.held = false →
      d.on F.CLK_MON_STAT_ROSC_QUAL = true →
      d.on F.CLK_MON_STAT_SLOW_COUNTED = false →
      Effect (.slowRingTimeout n) d ((({ d with clk := { d.clk with held := true, faultLow := true, voteDue := false } } : Dev).put F.CLK_MON_STAT_PHASE phaseHeld).stageDirect 0x0106 [n])) ∧
  (∀ (d : Dev) (count : Nat),
      Effect (.monitorWindow count) d (d.monitorWindow count)) ∧
  (∀ (d : Dev) (n : Nat),
      d.clk.held = false →
      d.clk.stopped = false →
      d.phase = phaseLearning →
      d.clk.voteDue = false →
      d.clk.awaitXin = false →
      1150 ≤ n →
      n ≤ 1433 →
      d.clk.learnN < 64 →
      Effect (.monitorWindow n) d ({ ((d.put F.CLK_MON_LAST_COUNT n).put F.CLK_MON_STAT_XIN_OK 1).put F.CLK_MON_STAT_DISAGREE 0 with
          clk := { d.clk with learnN := d.clk.learnN + 1, learnSum := d.clk.learnSum + n } })) ∧
  (∀ (d : Dev) (n : Nat),
      d.clk.held = false →
      d.clk.stopped = false →
      d.phase = phaseLearning →
      d.clk.voteDue = false →
      d.clk.awaitXin = false →
      (n < 1150 ∨ 1433 < n) →
      Effect (.monitorWindow n) d ({ ((d.put F.CLK_MON_LAST_COUNT n).put F.CLK_MON_STAT_XIN_OK 0).put F.CLK_MON_STAT_DISAGREE 1 with
          clk := { d.clk with voteDue := true } })) ∧
  (∀ (d : Dev),
      Effect (.learningEnd) d (d.learningEnd)) ∧
  (∀ (d : Dev),
      d.clk.held = false →
      d.phase = phaseLearning →
      d.clk.voteDue = false →
      64 ≤ d.clk.learnN →
      Effect (.learningEnd) d (let e : Dev := { ((d.put F.CLK_MON_REF_CREF (roundDiv d.clk.learnSum 64)).put F.CLK_MON_STAT_PHASE phaseTracking).put F.CLK_MON_STAT_XIN_OK 1 with
          clk := { d.clk with crefFrac := 0, badRun := 0, released := true } }
        (e.post 0x0101 [e.get F.CLK_MON_REF_CREF]).each (List.range 5) (fun x p => (x.putI F.CLK_PLL_CTRL_EN p 1).startLock p))) ∧
  (∀ (d : Dev) (xin rosc : Nat),
      Effect (.clockVote xin rosc) d (d.clockVote xin rosc)) ∧
  (∀ (d : Dev) (xin rosc : Nat),
      d.clk.held = false →
      d.phase = phaseLearning →
      d.clk.voteDue = true →
      2286 ≤ xin →
      xin ≤ 5333 →
      1682 ≤ rosc →
      rosc ≤ 4608 →
      d.get F.CLK_VOTE_STAT_UNRESOLVED < 3 →
      Effect (.clockVote xin rosc) d ({ (((d.put F.CLK_VOTE_STAT_XIN_CNT xin).put F.CLK_VOTE_STAT_ROSC_CNT rosc).put F.CLK_VOTE_STAT_OUTCOME 4).put
          F.CLK_VOTE_STAT_UNRESOLVED (d.get F.CLK_VOTE_STAT_UNRESOLVED + 1) with clk := { d.clk with voteDue := false, learnN := 0, learnSum := 0 } })) ∧
  (∀ (d : Dev) (xin rosc : Nat),
      d.clk.held = false →
      d.phase = phaseLearning →
      d.clk.voteDue = true →
      2286 ≤ xin →
      xin ≤ 5333 →
      (rosc < 1682 ∨ 4608 < rosc) →
      Effect (.clockVote xin rosc) d ((({ ((d.put F.CLK_VOTE_STAT_XIN_CNT xin).put F.CLK_VOTE_STAT_ROSC_CNT rosc).put F.CLK_VOTE_STAT_OUTCOME 2 with
          clk := { d.clk with held := true, faultLow := true, voteDue := false } } : Dev).put F.CLK_MON_STAT_PHASE phaseHeld).stageDirect 0x0103 [xin, rosc])) ∧
  (∀ (d : Dev),
      Effect (.xinEdgeTimeout) d (d.xinEdgeTimeout)) ∧
  (∀ (d : Dev),
      d.clk.held = false →
      d.clk.stopped = false →
      d.phase = phaseLearning →
      d.clk.awaitXin = false →
      d.clk.noted0102 = false →
      Effect (.xinEdgeTimeout) d (({ d.fresh.2.fresh.2 with clk := { d.clk with voteDue := false, awaitXin := true, learnN := 0, learnSum := 0, noted0102 := true } } : Dev).post
          0x0102 [d.fresh.1, d.fresh.2.fresh.1])) ∧
  (∀ (d : Dev),
      Effect (.xinRequalified) d (d.xinRequalified)) ∧
  (∀ (d : Dev),
      d.phase = phaseXinLost →
      64 ≤ d.clk.goodRun →
      Effect (.xinRequalified) d (let e : Dev := { d with clk := { d.clk with xinFailed := false, goodRun := 0, badRun := 0 } }
        let e := ((e.put F.CLK_MON_STAT_PHASE phaseTracking).put F.CLK_INT_STAT_XIN_REGAINED 1).killRelease 8
        (e.post 0x0108 [e.get F.CLK_MON_REF_CREF]).each (List.range 5) (fun x p => if x.onI F.CLK_PLL_CTRL_EN p then x.startLock p else x))) ∧
  (∀ (d : Dev),
      Effect (.roscAmplitudeLost) d (d.roscAmplitudeLost)) ∧
  (∀ (d : Dev),
      d.clk.held = false →
      d.clk.stopped = false →
      d.phase = phaseTracking →
      Effect (.roscAmplitudeLost) d ((((d.put F.CLK_MON_STAT_ROSC_QUAL 0).put F.CLK_MON_STAT_PHASE phaseRoscLost).put F.CLK_INT_STAT_ROSC_LOST 1).post 0x0109 [d.get F.CLK_MON_LAST_COUNT])) ∧
  (∀ (d : Dev) (xin : Nat),
      Effect (.coarseXinCheck xin) d (d.coarseXinCheck xin)) ∧
  (∀ (d : Dev) (n : Nat),
      d.phase = phaseRoscLost →
      d.clk.stopped = false →
      2286 ≤ n →
      n ≤ 5333 →
      Effect (.coarseXinCheck n) d (d.put F.CLK_MON_STAT_XIN_OK 1))

/-- PLL_ENABLE_WRITE on a PLL neither locked nor locking starts its first attempt. A lock window within 3 % of CREF counts; the fourth in a row
locks the PLL (stated here in tracking with a warm device, where no island is switched by it). PLL_LOCK_TIMEOUT counts the attempt with
event 0x010A and starts the next, and at the third fails the PLL with 0x010B. PLL_DISABLE_WRITE is refused while an island uses the PLL, and
otherwise clears EN and LOCKED. Where the spec leaves a point open, the model’s own reading is meant: log entries 113 and 124. -/
def Obligations.PllLockAndLoss : Prop :=
  (∀ (d : Dev) (p : Fin 5),
      d.clk.stopped = false →
      Effect (.pllEnableWrite p) d (d.pllEnable p.val)) ∧
  (∀ (d : Dev) (p : Fin 5),
      d.onI F.CLK_PLL_STAT_LOCKED p.val = false →
      at' d.clk.pllRun p.val false = false →
      d.clk.xinFailed = false →
      d.clk.stopped = false →
      Effect (.pllEnableWrite p) d ((((d.putI F.CLK_PLL_CTRL_EN p.val 1).putI F.CLK_PLL_STAT_ATTEMPTS p.val 0).putI F.CLK_PLL_STAT_FAILED p.val 0).startLock p.val)) ∧
  (∀ (d : Dev) (p : Fin 5),
      d.clk.stopped = false →
      Effect (.pllDisableWrite p) d (d.pllDisable p.val)) ∧
  (∀ (d : Dev) (p : Fin 5),
      d.pllInUse p.val = true →
      d.clk.stopped = false →
      Effect (.pllDisableWrite p) d (d.putI F.CLK_PLL_STAT_EN_REFUSED p.val 1)) ∧
  (∀ (d : Dev) (p : Fin 5),
      d.pllInUse p.val = false →
      d.clk.stopped = false →
      Effect (.pllDisableWrite p) d ({ (d.putI F.CLK_PLL_CTRL_EN p.val 0).putI F.CLK_PLL_STAT_LOCKED p.val 0 with
          clk := { d.clk with pllRun := d.clk.pllRun.set p.val false, pllGood := d.clk.pllGood.set p.val 0 } })) ∧
  (∀ (d : Dev) (p : Fin 5) (count : Nat),
      Effect (.pllLockWindow p count) d (d.pllLockWindow p.val count)) ∧
  (∀ (d : Dev) (p : Fin 5) (n : Nat),
      at' d.clk.pllRun p.val false = true →
      gap n (d.get F.CLK_MON_REF_CREF) ≤ d.get F.CLK_MON_REF_CREF * 3 / 100 →
      at' d.clk.pllGood p.val 0 < 3 →
      Effect (.pllLockWindow p n) d ({ d with clk := { d.clk with pllGood := d.clk.pllGood.set p.val (at' d.clk.pllGood p.val 0 + 1) } })) ∧
  (∀ (d : Dev) (p : Fin 5) (n : Nat),
      at' d.clk.pllRun p.val false = true →
      gap n (d.get F.CLK_MON_REF_CREF) ≤ d.get F.CLK_MON_REF_CREF * 3 / 100 →
      at' d.clk.pllGood p.val 0 = 3 →
      d.mod.mode ≠ Mode.boot →
      Effect (.pllLockWindow p n) d (({ d with clk := { d.clk with pllRun := d.clk.pllRun.set p.val false, pllGood := d.clk.pllGood.set p.val 0 } } : Dev).putI F.CLK_PLL_STAT_LOCKED p.val 1)) ∧
  (∀ (d : Dev) (p : Fin 5),
      Effect (.pllLockTimeout p) d (d.pllLockTimeout p.val)) ∧
  (∀ (d : Dev) (p : Fin 5),
      at' d.clk.pllRun p.val false = true →
      d.getI F.CLK_PLL_STAT_ATTEMPTS p.val < 2 →
      Effect (.pllLockTimeout p) d ((((d.putI F.CLK_PLL_STAT_ATTEMPTS p.val (d.getI F.CLK_PLL_STAT_ATTEMPTS p.val + 1)).put F.CLK_INT_STAT_PLL_FAIL 1).startLock p.val).post
          0x010A [p.val, d.getI F.CLK_PLL_STAT_ATTEMPTS p.val + 1])) ∧
  (∀ (d : Dev) (p : Fin 5),
      at' d.clk.pllRun p.val false = true →
      2 ≤ d.getI F.CLK_PLL_STAT_ATTEMPTS p.val →
      Effect (.pllLockTimeout p) d ((({ (d.putI F.CLK_PLL_STAT_ATTEMPTS p.val (d.getI F.CLK_PLL_STAT_ATTEMPTS p.val + 1)).put F.CLK_INT_STAT_PLL_FAIL 1 with
          clk := { d.clk with pllRun := d.clk.pllRun.set p.val false, pllGood := d.clk.pllGood.set p.val 0 } } : Dev).putI
          F.CLK_PLL_STAT_FAILED p.val 1).post 0x010B [p.val]))

/-- With CLK_ISL_SEL naming an island i outside the AON domain (and, where ungating is stated, outside RCH and WCH and in a powered domain): a
source other than PLL is taken by an island neither gated, gating nor switching, and the switch ends at ISLAND_SWITCH_DONE with SRC_NOW the
new source. A gate request makes GATE_PENDING read 1 until the drain, which gates the island; a request that does not drain is taken back
with event 0x010C; an ungate restarts the clock. An AON island ignores its writes and marks WRITE_IGNORED. Where the spec leaves a point
open, the model’s own reading is meant: log entries 9, 121 and 125. -/
def Obligations.IslandSwitchAndGate : Prop :=
  (∀ (d : Dev) (src : Fin 4),
      d.clk.stopped = false →
      Effect (.islandSourceSwitch src) d (d.islandSwitch src.val)) ∧
  (∀ (d : Dev) (src : Fin 4),
      d.get F.CLK_ISL_SEL_ISLAND ≤ 0x1C →
      aonIsland (d.get F.CLK_ISL_SEL_ISLAND) = false →
      (src.val = 1 ∨ src.val = 2) →
      d.onI F.CLK_ISL_STAT_GATED (d.get F.CLK_ISL_SEL_ISLAND) = false →
      d.onI F.CLK_ISL_STAT_GATE_PENDING (d.get F.CLK_ISL_SEL_ISLAND) = false →
      d.onI F.CLK_ISL_STAT_SWITCHING (d.get F.CLK_ISL_SEL_ISLAND) = false →
      d.clk.stopped = false →
      Effect (.islandSourceSwitch src) d ((d.putI F.CLK_ISL_CTRL_SRC (d.get F.CLK_ISL_SEL_ISLAND) src.val).startSwitch (d.get F.CLK_ISL_SEL_ISLAND) src.val)) ∧
  (∀ (d : Dev) (src : Fin 4),
      d.get F.CLK_ISL_SEL_ISLAND ≤ 0x1C →
      aonIsland (d.get F.CLK_ISL_SEL_ISLAND) = true →
      d.clk.stopped = false →
      Effect (.islandSourceSwitch src) d (d.putI F.CLK_ISL_STAT_WRITE_IGNORED (d.get F.CLK_ISL_SEL_ISLAND) 1)) ∧
  (∀ (d : Dev) (island : Fin 29),
      d.clk.stopped = false →
      Effect (.islandSwitchDone island) d (d.islandSwitched island.val)) ∧
  (∀ (d : Dev) (i : Fin 29) (src : Nat),
      at' d.clk.swTo i.val none = some src →
      at' d.clk.gateAfter i.val false = false →
      (({ d with clk := { d.clk with swTo := d.clk.swTo.set i.val none, gateAfter := d.clk.gateAfter.set i.val false } } : Dev).putI F.CLK_ISL_STAT_SRC_NOW i.val src).anyOnRosc = true →
      d.get F.DDR_STAT_STATE ≠ ddrSelfRefresh →
      d.clk.stopped = false →
      Effect (.islandSwitchDone i) d (((({ d with clk := { d.clk with swTo := d.clk.swTo.set i.val none, gateAfter := d.clk.gateAfter.set i.val false } } : Dev).putI
          F.CLK_ISL_STAT_SRC_NOW i.val src).putI F.CLK_ISL_STAT_SWITCHING i.val 0).put F.CLK_INT_STAT_SWITCH_DONE 1)) ∧
  (∀ (d : Dev),
      d.clk.stopped = false →
      Effect (.islandGateRequest) d (d.islandGate)) ∧
  (∀ (d : Dev),
      d.get F.CLK_ISL_SEL_ISLAND ≤ 0x1C →
      aonIsland (d.get F.CLK_ISL_SEL_ISLAND) = false →
      d.onI F.CLK_ISL_STAT_GATED (d.get F.CLK_ISL_SEL_ISLAND) = false →
      d.onI F.CLK_ISL_STAT_SWITCHING (d.get F.CLK_ISL_SEL_ISLAND) = false →
      d.clk.stopped = false →
      Effect (.islandGateRequest) d ((d.putI F.CLK_ISL_CTRL_GATE (d.get F.CLK_ISL_SEL_ISLAND) 1).putI F.CLK_ISL_STAT_GATE_PENDING (d.get F.CLK_ISL_SEL_ISLAND) 1)) ∧
  (∀ (d : Dev) (island : Fin 29) (part : Fin 4),
      d.clk.stopped = false →
      Effect (.islandDrained island part) d (d.islandDrained island.val part.val)) ∧
  (∀ (d : Dev) (i : Fin 29) (part : Fin 4),
      i.val ≠ 0x06 →
      i.val ≠ 0x08 →
      islandDomain i.val ≠ 8 →
      d.onI F.CLK_ISL_STAT_GATE_PENDING i.val = true →
      d.clk.stopped = false →
      Effect (.islandDrained i part) d (let l := (at' d.clk.drain (islandDomain i.val) []).filter (fun x => x != i.val)
        (({ d with clk := { d.clk with drain := d.clk.drain.set (islandDomain i.val) l } } : Dev).putI F.CLK_ISL_STAT_GATED i.val 1).putI
          F.CLK_ISL_STAT_GATE_PENDING i.val 0)) ∧
  (∀ (d : Dev) (island : Fin 29) (part : Fin 4) (outstanding : Nat),
      d.clk.stopped = false →
      Effect (.gateTimeout island part outstanding) d (d.gateTimeout island.val part.val outstanding)) ∧
  (∀ (d : Dev) (i : Fin 29) (part : Fin 4) (n : Nat),
      i.val ≠ 0x06 →
      i.val ≠ 0x08 →
      islandDomain i.val ≠ 8 →
      at' d.clk.drain (islandDomain i.val) [] = [] →
      d.onI F.CLK_ISL_STAT_GATE_PENDING i.val = true →
      d.clk.stopped = false →
      Effect (.gateTimeout i part n) d (((((d.putI F.CLK_ISL_CTRL_GATE i.val 0).ungate i.val).putI F.CLK_ISL_STAT_GATE_TIMEOUT i.val 1).put F.CLK_INT_STAT_GATE_TIMEOUT 1).post 0x010C [i.val, n])) ∧
  (∀ (d : Dev),
      d.clk.stopped = false →
      Effect (.islandUngate) d (d.islandUngate)) ∧
  (∀ (d : Dev),
      d.get F.CLK_ISL_SEL_ISLAND ≤ 0x1C →
      aonIsland (d.get F.CLK_ISL_SEL_ISLAND) = false →
      d.powered (islandDomain (d.get F.CLK_ISL_SEL_ISLAND)) = true →
      d.clk.stopped = false →
      Effect (.islandUngate) d ((d.putI F.CLK_ISL_CTRL_GATE (d.get F.CLK_ISL_SEL_ISLAND) 0).ungate (d.get F.CLK_ISL_SEL_ISLAND)))

/-- A write of 0 to the CLK_PD_CTRL bit of a powered domain (2 to 9) with no change under way starts its drain; once its islands are drained it
goes off with event 0x010D (stated for a domain other than DDR with no power-up waiting). A write of 1 while it is off starts the power-up,
which ends with event 0x010E, the islands not gated by software restarted and the Porter channels resumed; where software has meanwhile
written 0 again the drain starts anew. DROPWR_CLEAR clears the count of dropped writes. Where the spec leaves a point open, the model’s own
reading is meant: log entries 98 and 125. -/
def Obligations.PowerDomainDownAndUp : Prop :=
  (∀ (d : Dev) (dom : Fin 10),
      d.clk.stopped = false →
      Effect (.powerDownRequest dom) d (d.powerDownRequest dom.val)) ∧
  (∀ (d : Dev) (dom : Fin 10),
      1 < dom.val →
      d.powered dom.val = true →
      d.clk.draining.testBit dom.val = false →
      d.bit F.CLK_PD_STAT_BUSY dom.val = false →
      d.clk.stopped = false →
      Effect (.powerDownRequest dom) d (d.startPowerDown dom.val)) ∧
  (∀ (d : Dev) (dom : Fin 10),
      Effect (.powerDownDone dom) d (d.powerDownDone dom.val)) ∧
  (∀ (d : Dev) (dom : Fin 10),
      dom.val ≠ 8 →
      d.clk.draining.testBit dom.val = true →
      at' d.clk.drain dom.val [] = [] →
      at' d.clk.upAfter dom.val false = false →
      Effect (.powerDownDone dom) d ((((({ d with clk := { d.clk with draining := withBit d.clk.draining dom.val false, upAfter := d.clk.upAfter.set dom.val false } } : Dev).setBit
          F.CLK_PD_STAT_OFF dom.val true).setBit F.CLK_PD_STAT_BUSY dom.val false).domainOff dom.val).post 0x010D [dom.val])) ∧
  (∀ (d : Dev) (dom : Fin 10),
      d.clk.stopped = false →
      Effect (.powerUpRequest dom) d (d.powerUpRequest dom.val)) ∧
  (∀ (d : Dev) (dom : Fin 10),
      d.clk.draining.testBit dom.val = false →
      d.powered dom.val = false →
      d.clk.stopped = false →
      Effect (.powerUpRequest dom) d (((d.setBit F.CLK_PD_CTRL_ON dom.val true).setBit F.CLK_PD_CTRL_ON dom.val true).setBit F.CLK_PD_STAT_BUSY dom.val true)) ∧
  (∀ (d : Dev) (dom : Fin 10),
      Effect (.powerUpDone dom) d (d.powerUpDone dom.val)) ∧
  (∀ (d : Dev) (dom : Fin 10),
      d.powered dom.val = false →
      d.bit F.CLK_PD_STAT_BUSY dom.val = true →
      Effect (.powerUpDone dom) d (let e := ((((d.setBit F.CLK_PD_STAT_OFF dom.val false).setBit F.CLK_PD_STAT_BUSY dom.val false).each (domainIslands dom.val) (fun x i =>
          if i = 0x06 ∨ i = 0x08 then if x.onI F.CLK_ISL_CTRL_GATE i then x
            else { (x.putI F.CLK_ISL_STAT_GATED i 0) with clk := { x.clk with parts := x.clk.parts.set (partPlace i (dom.val - 3)) false } }
          else if x.onI F.CLK_ISL_CTRL_GATE i then x else x.ungate i)).selfRefreshExit.post 0x010E [dom.val]).porterPowerBack dom.val
        let e := if 3 ≤ dom.val && dom.val ≤ 6 then e.portOn (dom.val - 3) else e
        if e.bit F.CLK_PD_CTRL_ON dom.val then e else e.startPowerDown dom.val)) ∧
  (∀ (d : Dev),
      d.clk.stopped = false →
      Effect (.dropwrClear) d (d.put F.CLK_PD_DROPWR_COUNT 0))

/-- A release of PORST_N with nothing standing against it begins the cold BOOT. A low of PORST_N below 1 µs is filtered; one of 10 µs or more is
taken (with no presence and no debug access, it is exactly the cold reset), and during a Harvest that is not DONE it is held off. VDD_AON
lost and returned leaves what non-volatile memory keeps, counts a power cycle and records 0x6101. VDDIO lost acts as PORST_N; a fall of a
rail of the channels, the DRAM or the link marks the rail. HARVEST_HOLDOFF_END honours a PORST_N held off; with none it does nothing. Where
the spec leaves a point open, the model’s own reading is meant: log entries 19, 94 and 95. -/
def Obligations.ResetBallsAndRails : Prop :=
  (∀ (d : Dev),
      Effect (.porstNRelease) d (d.porstNReleaseAct)) ∧
  (∀ (d : Dev),
      d.mod.porstHeldOff = false →
      d.mod.porstHigh = false →
      d.wch.tripped = 0 →
      d.wch.preamp = 0 →
      d.clk.xinFailed = false →
      d.mod.pwrfailLow = false →
      d.mod.harvStarted = false →
      d.mod.lostAtSafe = 0 →
      Effect (.porstNRelease) d ({ d.put F.MOD_LOST_SECTORS 0 with mod := { d.mod with porstHigh := true, bootMs := 0 }, pins := { d.pins with rails := 0 } })) ∧
  (∀ (d : Dev) (ns : Nat) (taken : Bool),
      Effect (.porstNAssert ns taken) d (d.porstNAssertAct ns taken)) ∧
  (∀ (d : Dev) (ns : Nat) (taken : Bool),
      ns < 1000 →
      Effect (.porstNAssert ns taken) d (d)) ∧
  (∀ (d : Dev) (ns : Nat) (taken : Bool),
      10000 ≤ ns →
      d.holdsOff = false →
      d.on F.PRS_STAT_PRESENT = false →
      d.on F.TAL_STAT_DEBUG = false →
      Effect (.porstNAssert ns taken) d (d.coldReset)) ∧
  (∀ (d : Dev) (ns : Nat) (taken : Bool),
      10000 ≤ ns →
      d.holdsOff = true →
      Effect (.porstNAssert ns taken) d ({ d with mod := { d.mod with porstHeldOff := true, porstRose := false } })) ∧
  (∀ (d : Dev),
      Effect (.aonPowerOn) d (let e := d.aonLost.inc F.DBK_PCYCLES_CYCLES
        e.post 0x6101 [e.get F.DBK_STAT_RECORDS, e.get F.DBK_CAP_CAPACITY, e.get F.DBK_CAP_RETIRED, e.get F.DBK_PCYCLES_CYCLES])) ∧
  (∀ (d : Dev),
      Effect (.vddioLoss) d (d.vddioLost)) ∧
  (∀ (d : Dev),
      (d.railLow 6).holdsOff = true →
      Effect (.vddioLoss) d ({ d with mod := { d.mod with porstHeldOff := true, porstRose := false }, pins := { d.pins with rails := withBit d.pins.rails 6 true } })) ∧
  (∀ (d : Dev),
      (d.railLow 6).holdsOff = false →
      Effect (.vddioLoss) d ((d.railLow 6).porstTaken)) ∧
  (∀ (d : Dev) (r : Fin 7),
      Effect (.railFall r) d (d.railFallAct r)) ∧
  (∀ (d : Dev) (r : Fin 7),
      r.val ≠ 0 →
      r.val ≠ 1 →
      r.val ≠ 6 →
      Effect (.railFall r) d ({ d with pins := { d.pins with rails := withBit d.pins.rails r.val true } })) ∧
  (∀ (d : Dev) (r : Fin 7),
      r.val = 1 →
      Effect (.railFall r) d ((d.railLow 1).aonLost)) ∧
  (∀ (d : Dev),
      Effect (.harvestHoldoffEnd) d (d.harvestHoldoffEndAct)) ∧
  (∀ (d : Dev),
      d.mod.porstHeldOff = true →
      d.mod.porstRose = false →
      Effect (.harvestHoldoffEnd) d (d.porstTaken)) ∧
  (∀ (d : Dev),
      d.mod.porstHeldOff = false →
      Effect (.harvestHoldoffEnd) d (d))

/-- PWRFAIL_N falling with PORST_N high and no Harvest asserts source 6 of the kill net at once. HARVEST_COMMIT with the supply still low
commits the Harvest; with the supply back it does nothing. PWRFAIL_N rising before the commit releases source 6; during a committed Harvest
not DONE it is kept for the restart. HARVEST_TAIL_WRITTEN ends a Harvest that is not DONE, and does nothing without one. Where the spec
leaves a point open, the model’s own reading is meant: log entries 19, 96 and 129. -/
def Obligations.PowerFailAndHarvest : Prop :=
  (∀ (d : Dev),
      Effect (.pwrfailFall) d (d.pwrfailFallAct)) ∧
  (∀ (d : Dev),
      d.mod.pwrfailLow = false →
      d.mod.porstHigh = true →
      ({ d with mod := { d.mod with pwrfailLow := true } } : Dev).harvesting = false →
      Effect (.pwrfailFall) d (({ d with mod := { d.mod with pwrfailLow := true } } : Dev).killAssert killSupply)) ∧
  (∀ (d : Dev),
      Effect (.harvestCommit) d (d.harvestCommitAct)) ∧
  (∀ (d : Dev),
      d.mod.pwrfailLow = true →
      d.mod.porstHigh = true →
      d.harvesting = false →
      Effect (.harvestCommit) d (d.harvestCommit)) ∧
  (∀ (d : Dev),
      d.mod.pwrfailLow = false →
      Effect (.harvestCommit) d (d)) ∧
  (∀ (d : Dev),
      Effect (.pwrfailRise) d (d.pwrfailRiseAct)) ∧
  (∀ (d : Dev),
      ({ d with mod := { d.mod with pwrfailLow := false } } : Dev).harvesting = false →
      Effect (.pwrfailRise) d (({ d with mod := { d.mod with pwrfailLow := false } } : Dev).killRelease killSupply)) ∧
  (∀ (d : Dev),
      ({ d with mod := { d.mod with pwrfailLow := false } } : Dev).harvesting = true →
      ({ d with mod := { d.mod with pwrfailLow := false } } : Dev).on F.MOD_HARV_STAT_DONE = false →
      Effect (.pwrfailRise) d ({ d with mod := { d.mod with pwrfailLow := false, restartAfterHarvest := true } })) ∧
  (∀ (d : Dev) (ms : Nat),
      d.clk.stopped = false →
      Effect (.harvestTailWritten ms) d (if d.holdsOff then d.harvestDone ms else d)) ∧
  (∀ (d : Dev) (ms : Nat),
      d.holdsOff = true →
      d.clk.stopped = false →
      Effect (.harvestTailWritten ms) d (d.harvestDone ms)) ∧
  (∀ (d : Dev) (ms : Nat),
      d.holdsOff = false →
      d.clk.stopped = false →
      Effect (.harvestTailWritten ms) d (d))

/-- A MOD_REQ write of REST from SERVE with no stream open, or of EASE or SERVE as the table allows, begins that change; a value outside 2 to 4
is refused with reason 2. A REBOOT that may start begins the warm BOOT; from BOOT it is refused with reason 4. EASE_IDLE up to 86,400 s,
REST_IDLE of 0 or 60 to 86,400 s and EASE_RPM from 3,600 to the floor (outside EASE) are taken; others set REQ_REFUSED. The idle timers,
once expired with no stream open and no change in progress, enter EASE, or begin the REST entry. Where the spec leaves a point open, the
model’s own reading is meant: log entries 60, 61, 112 and 130. -/
def Obligations.ModeRequestsAndIdleTimers : Prop :=
  (∀ (d : Dev) (t : Fin 8),
      d.clk.stopped = false →
      Effect (.modReqWrite t) d (d.modRequest t.val)) ∧
  (∀ (d : Dev) (t : Fin 8),
      d.mod.mode = Mode.serve →
      d.mod.transit = none →
      d.harvesting = false →
      d.streams = [] →
      t.val = 4 →
      d.clk.stopped = false →
      Effect (.modReqWrite t) d ({ d with mod := { d.mod with transit := some ⟨Mode.rest, 1, 0, false⟩ } })) ∧
  (∀ (d : Dev) (t : Fin 8),
      d.mod.mode = Mode.rest →
      d.mod.transit = none →
      d.harvesting = false →
      t.val = 2 →
      d.clk.stopped = false →
      Effect (.modReqWrite t) d (d.goSpin 0)) ∧
  (∀ (d : Dev) (t : Fin 8),
      (t.val < 2 ∨ 4 < t.val) →
      d.clk.stopped = false →
      Effect (.modReqWrite t) d (((d.put F.MOD_STAT_REQ_REFUSED 1).put F.MOD_INT_STAT_REQ_REFUSED 1).post 0x030A [t.val, d.mod.mode.code, 2])) ∧
  (∀ (d : Dev),
      d.clk.stopped = false →
      Effect (.modReboot) d (d.reboot)) ∧
  (∀ (d : Dev),
      d.mod.mode = Mode.safe →
      d.harvesting = false →
      d.clk.stopped = false →
      Effect (.modReboot) d (d.warmBoot 1)) ∧
  (∀ (d : Dev),
      d.mod.mode = Mode.boot →
      d.clk.stopped = false →
      Effect (.modReboot) d (((d.put F.MOD_STAT_REQ_REFUSED 1).put F.MOD_INT_STAT_REQ_REFUSED 1).post 0x030A [0, 0, 4])) ∧
  (∀ (d : Dev) (v : BitVec 17),
      d.clk.stopped = false →
      Effect (.modEaseIdleWrite v) d (d.idleWrite 2 v.toNat)) ∧
  (∀ (d : Dev) (v : BitVec 17),
      v.toNat ≤ 86400 →
      d.clk.stopped = false →
      Effect (.modEaseIdleWrite v) d (d.put F.MOD_EASE_IDLE_SECONDS v.toNat)) ∧
  (∀ (d : Dev) (v : BitVec 17),
      86400 < v.toNat →
      d.clk.stopped = false →
      Effect (.modEaseIdleWrite v) d ((d.put F.MOD_STAT_REQ_REFUSED 1).put F.MOD_INT_STAT_REQ_REFUSED 1)) ∧
  (∀ (d : Dev) (v : BitVec 17),
      d.clk.stopped = false →
      Effect (.modRestIdleWrite v) d (d.idleWrite 3 v.toNat)) ∧
  (∀ (d : Dev) (v : BitVec 17),
      (v.toNat = 0 ∨ 60 ≤ v.toNat) →
      v.toNat ≤ 86400 →
      d.clk.stopped = false →
      Effect (.modRestIdleWrite v) d (d.put F.MOD_REST_IDLE_SECONDS v.toNat)) ∧
  (∀ (d : Dev) (v : BitVec 13),
      d.clk.stopped = false →
      Effect (.modEaseRpmWrite v) d (d.idleWrite 4 v.toNat)) ∧
  (∀ (d : Dev) (v : BitVec 13),
      3600 ≤ v.toNat →
      v.toNat ≤ d.get F.MIL_LIMITS_FLOOR →
      d.mod.mode ≠ Mode.ease →
      d.clk.stopped = false →
      Effect (.modEaseRpmWrite v) d (d.put F.MOD_EASE_RPM_RPM v.toNat)) ∧
  (∀ (d : Dev),
      d.live 0x02 = true →
      Effect (.easeIdleExpire) d (d.easeIdleExpireAct)) ∧
  (∀ (d : Dev),
      d.mod.mode = Mode.serve →
      d.mod.transit = none →
      d.harvesting = false →
      d.streams = [] →
      d.get F.MOD_EASE_IDLE_SECONDS ≠ 0 →
      d.get F.MOD_REST_IDLE_SECONDS = 0 →
      d.get F.MOD_EASE_IDLE_SECONDS ≤ d.get F.MOD_IDLE_NOW_SECONDS →
      d.live 0x02 = true →
      Effect (.easeIdleExpire) d (d.toEase)) ∧
  (∀ (d : Dev),
      d.live 0x02 = true →
      Effect (.restIdleExpire) d (d.restIdleExpireAct)) ∧
  (∀ (d : Dev),
      (d.mod.mode = Mode.serve ∨ d.mod.mode = Mode.ease) →
      d.mod.transit = none →
      d.harvesting = false →
      d.streams = [] →
      d.get F.MOD_REST_IDLE_SECONDS ≠ 0 →
      d.get F.MOD_REST_IDLE_SECONDS ≤ d.get F.MOD_IDLE_NOW_SECONDS →
      d.live 0x02 = true →
      Effect (.restIdleExpire) d ({ d with mod := { d.mod with transit := some ⟨Mode.rest, 1, 0, false⟩ } }))

/-- In the state of the Mill that each command belongs to: a listen with fewer than three crossings gives speed 0, records 0x1001 kind 0 and
goes to SENSE. BRAKE ends in SENSE below 0.5 % of BASE_RPM, the retry’s brake too; SENSE ends in ALIGN, with half of I_MAX on the d axis at
the direction of the largest of the six peaks, or at the U-phase vector where the peaks differ by less than 10 %; ALIGN ends in OPEN.
HANDOVER_MET starts RUN once 800 PWM periods (20 ms) have agreed, and does nothing before. BRAKE_TIMEOUT, and HANDOVER_TIMEOUT at
HANDOVER_RPM, fail the attempt with reasons 3 and 1: below the sixth with 0x1002 and RETRY, at the sixth with 0x1003 and COAST. At rest in
STOPPING the Mill is STOPPED at speed 0 with 0x1012. A supply out of its range for 40 periods coasts the spindle with 0x1013. A
re-acquisition that times out for the first or second time retracts the heads, marks their reload and listens again with 0x1007.
OBS_FAILS_CLEAR clears the count in RUN with LOCK. Where the spec leaves a point open, the model’s own reading is meant: log entries 19,
131, 132 and 133. -/
def Obligations.MillStartsTheSpindle : Prop :=
  (∀ (d : Dev),
      d.live 0x03 = true →
      Effect (.listenEnd) d (d.listenEnd)) ∧
  (∀ (d : Dev),
      d.milState = milListen →
      d.mil.cross.mean16 d.polePairs = 0 →
      d.live 0x03 = true →
      Effect (.listenEnd) d (let e := (((((d.flag F.MIL_STAT_DIR d.mil.cross.reversed).put F.MIL_SPEED_RPM16 0).put F.MIL_SPEED_SRC 0).put F.MIL_START_KIND 0).post 0x1001
          [0, 0, if d.mil.cross.reversed then 1 else 0])
        { e.setMil milSense with mil := { (e.setMil milSense).mil with senseT := 0, peaks := [0, 0, 0, 0, 0, 0] } })) ∧
  (∀ (d : Dev),
      d.live 0x03 = true →
      Effect (.brakeDone) d (if d.milState == milBrake && d.nearRest then d.startSense else d)) ∧
  (∀ (d : Dev),
      d.milState = milBrake →
      d.get F.MIL_SPEED_RPM16 * 200 < d.baseRpm * 16 →
      d.live 0x03 = true →
      Effect (.brakeDone) d ({ d.setMil milSense with mil := { (d.setMil milSense).mil with senseT := 0, peaks := [0, 0, 0, 0, 0, 0] } })) ∧
  (∀ (d : Dev),
      d.milState = milBrake →
      d.baseRpm * 16 ≤ d.get F.MIL_SPEED_RPM16 * 200 →
      d.live 0x03 = true →
      Effect (.brakeDone) d (d)) ∧
  (∀ (d : Dev),
      d.live 0x03 = true →
      Effect (.retryBrakeEnd) d (if d.milState == milRetry then d.startSense else d)) ∧
  (∀ (d : Dev),
      d.milState = milRetry →
      d.live 0x03 = true →
      Effect (.retryBrakeEnd) d ({ d.setMil milSense with mil := { (d.setMil milSense).mil with senseT := 0, peaks := [0, 0, 0, 0, 0, 0] } })) ∧
  (∀ (d : Dev),
      d.live 0x03 = true →
      Effect (.senseDone) d (d.senseDoneAct)) ∧
  (∀ (d : Dev),
      d.milState = milSense →
      d.live 0x03 = true →
      Effect (.senseDone) d ({ d with mil := { d.mil with openTh := senseAngle d.mil.peaks, openMilli := 0, agree := 0, idRef := (d.iMax : Int) / 2, iqRef := 0 } }.setMil milAlign)) ∧
  (∀ peaks : List Nat, peaks ≠ [] → (∀ x ∈ peaks, ∀ y ∈ peaks, 0 < x ∧ (x - y) * 10 < x) → senseAngle peaks = 0) ∧
  (∀ k < 6, senseAngle ((List.replicate 6 100).set k 150) = k * 2 ^ 32 / 6) ∧
  (∀ (d : Dev),
      d.live 0x03 = true →
      Effect (.alignDone) d (if d.milState == milAlign then d.setMil milOpen else d)) ∧
  (∀ (d : Dev),
      d.milState = milAlign →
      d.live 0x03 = true →
      Effect (.alignDone) d (d.setMil milOpen)) ∧
  (∀ (d : Dev),
      d.live 0x03 = true →
      Effect (.handoverMet) d (if d.milState == milOpen && 800 ≤ d.mil.agree then d.startedRun else d)) ∧
  (∀ (d : Dev),
      d.milState = milOpen →
      800 ≤ d.mil.agree →
      d.live 0x03 = true →
      Effect (.handoverMet) d (let e := d.put F.MIL_START_MS (min d.mil.startMs 65535)
        e.enterRun.post 0x1004 [e.get F.MIL_START_MS, e.rpm])) ∧
  (∀ (d : Dev),
      d.milState = milOpen →
      d.mil.agree < 800 →
      d.live 0x03 = true →
      Effect (.handoverMet) d (d)) ∧
  (∀ (d : Dev),
      d.live 0x03 = true →
      Effect (.handoverTimeout) d (if d.milState == milOpen && d.policy 0x1008 400 * 1000 ≤ d.mil.openMilli then d.attemptFailed 1 else d)) ∧
  (∀ (d : Dev),
      d.milState = milOpen →
      d.policy 0x1008 400 * 1000 ≤ d.mil.openMilli →
      d.get F.MIL_START_ATTEMPTS < 5 →
      d.live 0x03 = true →
      Effect (.handoverTimeout) d (let e := ((d.put F.MIL_START_ATTEMPTS (d.get F.MIL_START_ATTEMPTS + 1)).put F.MIL_START_REASON 1).put F.MIL_INT_STAT_START_FAIL 1
        (({ e with mil := { e.mil with ocWindow := 0 } } : Dev).setMil milRetry).post 0x1002 [d.get F.MIL_START_ATTEMPTS + 1, 1])) ∧
  (∀ (d : Dev),
      d.live 0x03 = true →
      Effect (.brakeTimeout) d (if d.milState == milBrake then d.attemptFailed 3 else d)) ∧
  (∀ (d : Dev),
      d.milState = milBrake →
      5 ≤ d.get F.MIL_START_ATTEMPTS →
      d.live 0x03 = true →
      Effect (.brakeTimeout) d (let e := ((d.put F.MIL_START_ATTEMPTS (d.get F.MIL_START_ATTEMPTS + 1)).put F.MIL_START_REASON 3).put F.MIL_INT_STAT_START_FAIL 1
        (({ e with mil := { e.mil with ocWindow := 0 } } : Dev).setMil milCoast).post 0x1003 [3])) ∧
  (∀ (d : Dev),
      d.live 0x03 = true →
      Effect (.spindleAtRest) d (d.spindleAtRestAct)) ∧
  (∀ (d : Dev),
      d.milState = milStopping →
      d.nearRest = true →
      d.live 0x03 = true →
      Effect (.spindleAtRest) d (let e := (d.setMil milStopped).put F.MIL_SPEED_RPM16 0
        e.post 0x1012 [e.mil.stopCause])) ∧
  (∀ (d : Dev),
      d.live 0x03 = true →
      Effect (.motorSupplyFault) d (if 40 ≤ d.mil.vmRun then (d.setMil milCoast).post 0x1013 [d.get F.MIL_VM_VM, d.mil.vmAtRun] else d)) ∧
  (∀ (d : Dev),
      40 ≤ d.mil.vmRun →
      d.live 0x03 = true →
      Effect (.motorSupplyFault) d ((d.setMil milCoast).post 0x1013 [d.get F.MIL_VM_VM, d.mil.vmAtRun])) ∧
  (∀ (d : Dev),
      d.mil.vmRun < 40 →
      d.live 0x03 = true →
      Effect (.motorSupplyFault) d (d)) ∧
  (∀ (d : Dev),
      d.live 0x03 = true →
      Effect (.reacquireTimeout) d (if d.milState == milLost then d.reacquireFailed 0 else d)) ∧
  (∀ (d : Dev),
      d.milState = milLost →
      d.get F.MIL_OBS_FAILS < 2 →
      d.live 0x03 = true →
      Effect (.reacquireTimeout) d (let e := ((((d.put F.MIL_OBS_FAILS (d.get F.MIL_OBS_FAILS + 1)).retractDue 2).unloadAll 5))
        let e := ({ e.post 0x1007 [d.get F.MIL_OBS_FAILS + 1, 0] with mil := { e.mil with reload := true } } : Dev).setMil milListen
        { e with mil := { e.mil with startMs := 0 } })) ∧
  (∀ (d : Dev),
      d.live 0x03 = true →
      Effect (.obsFailsClear) d (if d.milState == milRun && d.on F.MIL_STAT_LOCK then d.put F.MIL_OBS_FAILS 0 else d)) ∧
  (∀ (d : Dev),
      d.milState = milRun →
      d.on F.MIL_STAT_LOCK = true →
      d.live 0x03 = true →
      Effect (.obsFailsClear) d (d.put F.MIL_OBS_FAILS 0))

/-- PWM_PERIOD acts by the currents, voltages and the observer of its period (log entries 131 to 133) and then sets the next duties. At no time
of a period are the high and the low side of a phase active together; with the Mill’s supply off or its clock stopped, and while the Mill is
STOPPED, in LISTEN, LOST or COAST, every gate output is inactive; a period cut for overcurrent drives nothing in its second half. Where the
spec leaves a point open, the model’s own reading is meant: log entry 131. -/
def Obligations.PwmPeriodMeasuresAndDrives : Prop :=
  (∀ (d : Dev) (p : PwmSample),
      d.live 0x03 = true →
      Effect (.pwmPeriod p) d (d.pwmPeriod p)) ∧
  (∀ (d : Dev) (t : Nat), ((d.gateOutputs t)[0]? ≠ some true ∨ (d.gateOutputs t)[1]? ≠ some true) ∧
      ((d.gateOutputs t)[2]? ≠ some true ∨ (d.gateOutputs t)[3]? ≠ some true) ∧
      ((d.gateOutputs t)[4]? ≠ some true ∨ (d.gateOutputs t)[5]? ≠ some true)) ∧
  (∀ (d : Dev) (t : Nat), d.powered 2 = false ∨ d.clk.stopped = true ∨ d.milState = milStopped ∨ d.milState = milListen ∨ d.milState = milLost ∨
      d.milState = milCoast → ∀ x ∈ d.gateOutputs t, x = false) ∧
  (∀ (d : Dev) (t : Nat), d.mil.cut = true → 12500 ≤ t → ∀ x ∈ d.gateOutputs t, x = false)

/-- MILLER_SECOND in SERVE moves the demand estimate by an eighth of the way to the mean of the actuators’ busy fractions of the second, shows
it and the speed needed, and counts RAMP_HOLD_LEFT down (stated outside STEADY, where no new target is chosen). RAMP_START from PENDING with
no write gate open enters RAMP, counts it and records 0x100A. RAMP_TARGET_REACHED enters SETTLE once the set-point is the target.
RAMP_SETTLED enters STEADY, releases the write hold, starts RAMP_HOLD, records 0x100B and loads the heads that wait for it (stated with the
Mill's inhibit not held). GAS_SAMPLE where a condition of a sample lacks only starts the second again; the first sample of a boot is the
density of the second’s mean q-axis current. Where the spec leaves a point open, the model’s own reading is meant: log entries 134 and 135. -/
def Obligations.MillerChangesTheSpeed : Prop :=
  (∀ (d : Dev),
      d.live 0x03 = true →
      Effect (.millerSecond) d (d.millerSecond)) ∧
  (∀ (d : Dev),
      d.mod.mode = Mode.serve →
      d.miller ≠ 0 →
      d.live 0x03 = true →
      Effect (.millerSecond) d (let live := (List.range 4).filter (fun n => d.actuatorFitted n && !d.actuatorFenced n)
        let sum := live.foldl (fun a n => a + at' d.mil.busyMs n 0) 0
        let mean := sum * 65536 / (max 1 live.length * max 1 d.mil.secMs)
        let v := if d.mil.demand ≤ mean then d.mil.demand + (mean - d.mil.demand) / 8 else d.mil.demand - (d.mil.demand - mean) / 8
        ((({ d with mil := { d.mil with demand := v, secMs := 0, busyMs := [0, 0, 0, 0] } } : Dev).put F.MIL_DEMAND_E (v / 64)).put F.MIL_DEMAND_NEED
          (min 8191 (neededRpm (d.get F.MIL_TARGET_TARGET) v))).subI F.MIL_RAMP_HOLD_LEFT 0 1)) ∧
  (∀ (d : Dev),
      d.live 0x03 = true →
      Effect (.rampStart) d (d.rampStart)) ∧
  (∀ (d : Dev),
      d.miller = 1 →
      d.anyWriting = false →
      d.live 0x03 = true →
      Effect (.rampStart) d (let e := ((d.put F.MIL_STAT_MILLER 2).put F.MIL_INT_STAT_RAMP 1).inc F.MIL_RAMP_COUNT
        let e : Dev := { e with mil := { e.mil with rampMs := 0, fromPending := true, atAccel := d.mod.mode == Mode.spin, setMilli := e.get F.MIL_TARGET_SETPOINT * 1000 } }
        e.post 0x100A [e.get F.MIL_TARGET_SETPOINT, e.get F.MIL_TARGET_TARGET, e.mil.rampCause])) ∧
  (∀ (d : Dev),
      d.live 0x03 = true →
      Effect (.rampTargetReached) d (d.rampReached)) ∧
  (∀ (d : Dev),
      d.miller = 2 →
      d.milState = milRun →
      d.mil.spinning = false →
      d.mil.setMilli = d.get F.MIL_TARGET_TARGET * 1000 →
      d.live 0x03 = true →
      Effect (.rampTargetReached) d (d.put F.MIL_STAT_MILLER 3)) ∧
  (∀ (d : Dev),
      d.live 0x03 = true →
      Effect (.rampSettled) d (d.rampSettled)) ∧
  (∀ (d : Dev),
      d.miller = 3 →
      d.on F.MIL_STAT_INHIBIT = false →
      d.live 0x03 = true →
      Effect (.rampSettled) d (let e := (((d.put F.MIL_STAT_MILLER 0).put F.MIL_STAT_WRITE_HOLD 0).put F.MIL_RAMP_HOLD_LEFT (d.policy 0x100C 30)).put F.MIL_INT_STAT_SETTLED 1
        let e : Dev := { e with mil := { d.mil with steadyMs := 0, fromPending := false, atAccel := false, retracted := false } }
        let e := (e.post 0x100B [d.get F.MIL_TARGET_TARGET, d.mil.rampMs]).reloadHeads
        ({ e with thm := { e.thm with forced := false } } : Dev).riskCheck)) ∧
  (∀ (d : Dev),
      d.live 0x03 = true →
      Effect (.gasSample) d (d.gasSample)) ∧
  (∀ (d : Dev),
      d.gasDue = false →
      d.live 0x03 = true →
      Effect (.gasSample) d ({ d with mil := { d.mil with gasIq := 0, gasN := 0, gasOff := false } })) ∧
  (∀ (d : Dev),
      d.gasDue = true →
      d.mil.gasSamples = 0 →
      d.mod.mode ≠ Mode.serve →
      d.live 0x03 = true →
      Effect (.gasSample) d (let t := d.policy 0x1002 0 * (d.mil.gasIq / d.mil.gasN) / 1000000
        let rs := gasDensity t (d.policy 0x100E 0) (toSigned 32 (d.policy 0x100F 0)) (d.policy 0x1010 0) d.rpm (toSigned 16 (d.get F.THM_ENC_TEMP))
        let e : Dev := { d with mil := { d.mil with gasSamples := 1, gasFine := rs * 65536 } }
        let e := ((e.put F.MIL_GAS_DENSITY (min 65535 rs.toNat)).put F.MIL_TORQUE_DRAG (min 65535 t.toNat)).judgeGas
        { e with mil := { e.mil with gasIq := 0, gasN := 0, gasOff := false } }))

/-- In power and with the states and counts named: a load of a parked, fitted, unfenced actuator with the Mill in RUN and STEADY enters LOADING;
leaving the ramp enters ACQUIRE with the interval the spindle speed gives. An acquisition or a LOST that times out for the first or second
time unloads with event 0x1102 and loads again; a first seek timeout seeks again with 0x110A. The head on the ramp parks the actuator (or
leaves it FENCED) with 0x110D; a retract not complete in 300 ms asserts RETRACT_N with 0x110E and enters RETRACTED; a hardware park ends
like one. FENCE fences the actuator. None of these acts in another state. Where the spec leaves a point open, the model’s own reading is
meant: log entries 35 and 138. -/
def Obligations.ShepherdLoadsAndParks : Prop :=
  (∀ (d : Dev) (n : Fin 4),
      d.live 0x04 = true →
      Effect (.loadRequest n) d (d.loadRequest n.val)) ∧
  (∀ (d : Dev) (n : Fin 4),
      d.powered 2 = true →
      d.actuatorFitted n.val = true →
      (d.shp n.val).fenced = false →
      d.on F.WAT_STAT_SAFE = false →
      d.shpState n.val = shpParked →
      (d.shp n.val).uc.reloading = false →
      (d.shp n.val).hwPark = false →
      d.milState = milRun →
      d.miller = 0 →
      (d.shp n.val).tempRead = true →
      d.live 0x04 = true →
      Effect (.loadRequest n) d ((d.setShp n.val (fun s =>
          { s with
            loadWait := false, reload := false, acqMs := 0, lastWedge := none, samRun := 0, validRun := 0, loadVel := 0,
            retractDue := none })).putI F.SHP_STAT_STATE n.val shpLoading)) ∧
  (∀ (d : Dev) (n : Fin 4),
      d.live 0x04 = true →
      Effect (.headsOffRamp n) d (d.headsOffRamp n.val)) ∧
  (∀ (d : Dev) (n : Fin 4),
      d.shpState n.val = shpLoading →
      d.live 0x04 = true →
      Effect (.headsOffRamp n) d (((((d.putI F.SHP_STAT_STATE n.val shpAcquire).putI F.SHP_INTERVAL_CYCLES n.val d.millInterval).setShp n.val
          (fun s => { s with acqMs := 0, samRun := 0, validRun := 0, lastWedge := none, jFine := d.millInterval * 65536, revCycles := 0, revWedges := 0 })).each [0, 1]
          (fun x k => x.setCh n.val k (fun c => { c with known := 0, sinceValid := 0, settleRun := 0, vel := 0, missedRun := 0, idErrRun := 0 }))))) ∧
  (∀ d : Dev, d.get F.MIL_SPEED_RPM16 * d.wedges ≠ 0 →
      d.millInterval = min (800000000 * 60 * 16 / (d.get F.MIL_SPEED_RPM16 * d.wedges)) (2 ^ 20 - 1)) ∧
  (∀ (d : Dev) (n : Fin 4),
      d.live 0x04 = true →
      Effect (.acquireTimeout n) d (d.acquireTimeout n.val)) ∧
  (∀ (d : Dev) (n : Fin 4),
      d.shpState n.val = shpAcquire →
      d.getI F.SHP_STAT_ACQ_FAILS n.val < 2 →
      d.live 0x04 = true →
      Effect (.acquireTimeout n) d ((((d.putI F.SHP_STAT_ACQ_FAILS n.val (d.getI F.SHP_STAT_ACQ_FAILS n.val + 1)).enterUnloading n.val 3).post
          0x1102 [n.val, d.getI F.SHP_STAT_ACQ_FAILS n.val + 1]).setShp n.val (fun s => { s with reload := true }))) ∧
  (∀ (d : Dev) (n : Fin 4),
      d.live 0x04 = true →
      Effect (.lostTimeout n) d (d.lostTimeout n.val)) ∧
  (∀ (d : Dev) (n : Fin 4),
      d.shpState n.val = shpLost →
      d.getI F.SHP_STAT_ACQ_FAILS n.val < 2 →
      d.live 0x04 = true →
      Effect (.lostTimeout n) d ((((d.putI F.SHP_STAT_ACQ_FAILS n.val (d.getI F.SHP_STAT_ACQ_FAILS n.val + 1)).enterUnloading n.val 3).post
          0x1102 [n.val, d.getI F.SHP_STAT_ACQ_FAILS n.val + 1]).setShp n.val (fun s => { s with reload := true }))) ∧
  (∀ (d : Dev) (n : Fin 4),
      d.live 0x04 = true →
      Effect (.seekTimeout n) d (d.seekTimeout n.val)) ∧
  (∀ (d : Dev) (n : Fin 4) (e : Dev),
      e = d.post 0x110A [n.val, d.getI F.SHP_SEEK_DIST_DIST n.val, (d.shp n.val).seekCycles / 800] →
      (d.shpState n.val = shpSeek ∨ d.shpState n.val = shpSettle) →
      ((e.shp n.val).seekTries = 0) →
      d.live 0x04 = true →
      Effect (.seekTimeout n) d (((e.putI F.SHP_STAT_STATE n.val shpSeek).setShp n.val (fun s => { s with seekTries := 1, seekCycles := 0 })).each [0, 1]
          (fun x k => x.setCh n.val k (fun c => { c with settleRun := 0 })))) ∧
  (∀ (d : Dev) (n : Fin 4),
      d.live 0x04 = true →
      Effect (.headOnRamp n) d (d.headOnRamp n.val)) ∧
  (∀ (d : Dev) (n : Fin 4),
      d.shpState n.val = shpUnloading →
      (d.shp n.val).reload = false →
      d.live 0x04 = true →
      Effect (.headOnRamp n) d (((((d.putI F.SHP_STAT_STATE n.val (if (d.shp n.val).fenced then shpFenced else shpParked)).putI F.SHP_INT_STAT_PARKED n.val 1).setShp n.val
          (fun s => { s with hwPark := false, parkOut := false, iRef := 0, retractDue := none, fenceDue := false })).post 0x110D [n.val, (d.shp n.val).parkMs, (d.shp n.val).parkCause]).offTrack n.val)) ∧
  (∀ (d : Dev) (n : Fin 4),
      d.live 0x04 = true →
      Effect (.hardwareParkDone n) d (d.hardwareParkDone n.val)) ∧
  (∀ (d : Dev) (n : Fin 4),
      d.shpState n.val = shpUnloading →
      (d.shp n.val).reload = false →
      (d.shp n.val).hwPark = true →
      d.live 0x04 = true →
      Effect (.hardwareParkDone n) d (((((d.putI F.SHP_STAT_STATE n.val (if (d.shp n.val).fenced then shpFenced else shpParked)).putI F.SHP_INT_STAT_PARKED n.val 1).setShp n.val
          (fun s => { s with hwPark := false, parkOut := false, iRef := 0, retractDue := none, fenceDue := false })).post 0x110D [n.val, (d.shp n.val).parkMs, (d.shp n.val).parkCause]).offTrack n.val)) ∧
  (∀ (d : Dev) (n : Fin 4),
      d.live 0x04 = true →
      Effect (.retractTimeout n) d (d.retractTimeout n.val)) ∧
  (∀ (d : Dev) (n : Fin 4),
      d.shpState n.val = shpUnloading →
      (d.shp n.val).retractDue.isSome = true →
      d.live 0x04 = true →
      Effect (.retractTimeout n) d (let e := (d.putI F.SHP_STAT_STATE n.val shpRetracted).setShp n.val (fun s => { s with retracted := true, hwPark := false, retractDue := none })
        (e.assertRetractN.post 0x110E [n.val, (e.shp n.val).retractState]).offTrack n.val)) ∧
  (∀ (d : Dev) (n : Fin 4),
      d.powered 2 = true →
      d.clk.stopped = false →
      Effect (.shpFenceWrite n) d (d.fenceActuator n.val)) ∧
  (∀ (d : Dev) (n : Fin 4),
      d.powered 2 = false →
      d.clk.stopped = false →
      Effect (.shpFenceWrite n) d (d.inc F.CLK_PD_DROPWR_COUNT))

/-- WEDGE whose SAM one active head shows: the wedge is numbered, the interval taken, rotation sampled, the position demodulated and the wedge
judged; a valid wedge leaves the position decoded and the error TARGET − P, held to 16 bits. MISSED_WEDGE outside the servo states does
nothing; within them it counts the wedge, numbers it on, keeps the interval and gives each active head the compensator’s prediction (a free
value, log entry 5). A temperature read that is due is queued as a frame while the port’s domain is on, and fails at once while it is off. A
completed frame leaves the port; an answer whose parity fails is recorded with 0x110F and read once more; a sound temperature is stored with
its source and the reach published. A write frame is 25 bits, RW 0, ADDR, DATA, and odd parity; a read frame sends 9. A GO of a command
frame takes the command written, marks BUSY and queues it, is refused for a head select away from the ramp, and is ignored while BUSY.
PAn_FLT_N falling asserts the kill net's preamp source and queues the read of FLT, and its rise lets the source release once the clearing
write is sent. Where the spec leaves a point open, the model’s own reading is meant: log entries 19, 21, 22, 34, 136, 137, 139 and 140. -/
def Obligations.ShepherdWedgesAndPreamp : Prop :=
  (∀ (d : Dev) (n : Fin 4) (w : WedgeSample),
      d.live 0x04 = true →
      Effect (.wedge n w) d (d.wedge n.val w)) ∧
  (∀ (d : Dev) (n : Fin 4) (w : WedgeSample) (h : WedgeHead) (e0 e1 : Dev),
      e0 = ((d.wedgePassed n.val (h.number % 1024) w.interval).samFound n.val w.interval).rvSample n.val w.rot →
      e1 = e0.wedgeChannel n.val 0 h false →
      d.shpState n.val = shpFollow →
      d.powered 2 = true →
      d.activeCh n.val = [0] →
      h = wedgeHead (at' w.lanes (d.servoLane n.val 0) []) →
      h.sam = true →
      (d.shp n.val).lastWedge = none →
      d.gatedCh n.val = [] →
      decide (h.number / 1024 = 1) = decide (h.number % 1024 = 0) →
      (e1.shpCh n.val 0).idErrRun = 0 →
      d.live 0x04 = true →
      Effect (.wedge n w) d (e1.wedgeJudged n.val [] (some true))) ∧
  (∀ (d e : Dev) (n : Fin 4) (k : Fin 2) (w : WedgeHead) (p : Int), d.demodulate n.val k.val w = (p, e) → trackAstray (d.shpCh n.val k.val) (d.signedTrack (grayDecode 24 w.gray * 256)) = false →
      (d.wedgeChannel n.val k.val w false).posn n.val k.val = ofSigned 32 p ∧
      (d.wedgeChannel n.val k.val w false).pes n.val k.val = clampSigned 16 (d.targetAt n.val k.val - p)) ∧
  (∀ (kn kq a b c e : Nat), a + b ≠ 0 → c + e ≠ 0 → ((a : Int) - b).natAbs * (c + e) ≤ ((c : Int) - e).natAbs * (a + b) →
      burstFraction kn kq a b c e = some (roundAway ((kn : Int) * ((a : Int) - b)) (a + b : Nat))) ∧
  (∀ (d : Dev) (n : Fin 4) (rot : BitVec 12),
      d.live 0x04 = true →
      Effect (.missedWedge n rot) d (d.missedWedge n.val rot)) ∧
  (∀ (d : Dev) (n : Fin 4) (rot : BitVec 12),
      d.servoLive n.val = false →
      d.live 0x04 = true →
      Effect (.missedWedge n rot) d (d)) ∧
  (∀ (d : Dev) (n : Fin 4) (rot : BitVec 12) (l : Nat) (e : Dev),
      e = ((d.incI F.SHP_FAULTS_MISSED n.val).wedgePassed n.val ((l + 1) % max 1 d.wedges) (d.getI F.SHP_INTERVAL_CYCLES n.val)).rvSample n.val rot →
      d.servoLive n.val = true →
      (d.shp n.val).lastWedge = some l →
      d.live 0x04 = true →
      Effect (.missedWedge n rot) d ((e.each (e.activeCh n.val) (fun x k => x.wedgeMissed n.val k)).wedgeJudged n.val (d.gatedCh n.val) none)) ∧
  (∀ (d : Dev) (n : Fin 4),
      d.live 0x04 = true →
      Effect (.preampTempRead n) d (d.tempDue n.val)) ∧
  (∀ (d : Dev) (n : Fin 4),
      d.actuatorFitted n.val = true →
      d.powered 2 = true →
      d.powered (3 + n.val) = true →
      (d.shp n.val).paNow = none →
      (d.shp n.val).paWait = [] →
      d.live 0x04 = true →
      Effect (.preampTempRead n) d (d.paQueue n.val .tempRead)) ∧
  (∀ (d : Dev) (n : Fin 4),
      d.actuatorFitted n.val = true →
      d.powered 2 = true →
      d.powered (3 + n.val) = false →
      d.live 0x04 = true →
      Effect (.preampTempRead n) d (d.preampTemp n.val none)) ∧
  (∀ (d : Dev) (n : Fin 4), d.actuatorFitted n.val = true → d.powered 2 = true → d.powered (3 + n.val) = true → d.getI F.SHP_TEMP_SRC n.val = 0 →
      d.preampTemp n.val (some 400) = (((d.putI F.SHP_TEMP_SRC n.val 0).putI F.SHP_TEMP_VALID n.val 1).putI F.SHP_TEMP_TEMP n.val 400).publishReach n.val (some 400)) ∧
  (∀ (d : Dev) (n : Fin 4) (answer : BitVec 17),
      d.live 0x04 = true →
      Effect (.preampFrameDone n answer) d (d.frameDone n.val answer)) ∧
  (∀ (d : Dev) (n : Fin 4) (answer : BitVec 17) (a v : Nat),
      (d.shp n.val).paNow = some (.loopOut a v) →
      d.live 0x04 = true →
      Effect (.preampFrameDone n answer) d ((d.setShp n.val (fun s => { s with paNow := none, paRetry := false, paLast := a })).paStart n.val)) ∧
  (∀ (d : Dev) (n : Fin 4) (answer : BitVec 17) (e : Dev),
      e = d.post 0x110F [n.val, 0x0B, 1] →
      (d.shp n.val).paNow = some .fltRead →
      popCount 17 answer.toNat % 2 = 0 →
      (e.shp n.val).paRetry = false →
      d.live 0x04 = true →
      Effect (.preampFrameDone n answer) d (e.setShp n.val (fun s => { s with paRetry := true }))) ∧
  (∀ f : Frame, (f.reads = false → f.sent.length = 25) ∧ (f.reads = true → f.sent.length = 9) ∧ (f.sent.filter id).length % 2 = 1 ∧ f.sent.headD false = f.reads) ∧
  (∀ (d : Dev) (n : Fin 4) (v : BitVec 24),
      d.powered 2 = true →
      d.clk.stopped = false →
      Effect (.paCmdGo n v) d (d.paGo n.val v.toNat)) ∧
  (∀ (d : Dev) (n : Fin 4) (v : BitVec 24),
      d.onI F.SHP_PA_RESP_BUSY n.val = false →
      slice v.toNat 16 7 ≠ 1 →
      slice v.toNat 16 7 ≠ 2 →
      d.powered 2 = true →
      d.clk.stopped = false →
      Effect (.paCmdGo n v) d (let e := ((d.putI F.SHP_PA_CMD_RW n.val (slice v.toNat 23 1)).putI F.SHP_PA_CMD_ADDR n.val (slice v.toNat 16 7)).putI F.SHP_PA_CMD_DATA n.val (slice v.toNat 0 16)
        ((((e.putI F.SHP_PA_RESP_PERR n.val 0).putI F.SHP_PA_RESP_REFUSED n.val 0).putI F.SHP_PA_RESP_DONE n.val 0).putI F.SHP_PA_RESP_BUSY n.val 1).paQueue n.val
          (.command (v.toNat.testBit 23) (slice v.toNat 16 7) (slice v.toNat 0 16)))) ∧
  (∀ (d : Dev) (n : Fin 4) (v : BitVec 24),
      d.onI F.SHP_PA_RESP_BUSY n.val = true →
      d.powered 2 = true →
      d.clk.stopped = false →
      Effect (.paCmdGo n v) d (d)) ∧
  (∀ (d : Dev) (n : Fin 4),
      d.live 0x04 = true →
      Effect (.preampFault n) d (d.preampFault n.val)) ∧
  (∀ (d : Dev) (n : Fin 4),
      d.onI F.SHP_PA_FLT_ACTIVE n.val = false →
      d.live 0x04 = true →
      Effect (.preampFault n) d (let e := (d.putI F.SHP_PA_FLT_ACTIVE n.val 1).putI F.SHP_INT_STAT_PA_FAULT n.val 1
        let e : Dev := { e with wch := { e.wch with preamp := withBit e.wch.preamp n.val true } }
        ((e.setShp n.val (fun s => { s with clearSent := false })).killAssert killPreamp).paQueue n.val .fltRead)) ∧
  (∀ (d : Dev) (n : Fin 4),
      d.live 0x04 = true →
      Effect (.preampFaultClear n) d (d.preampFaultClear n.val)) ∧
  (∀ (d : Dev) (n : Fin 4),
      (d.shp n.val).clearSent = false →
      d.live 0x04 = true →
      Effect (.preampFaultClear n) d (d.putI F.SHP_PA_FLT_ACTIVE n.val 0))

/-- With the servo domain powered, the microcode running, no trap due and its words’ parity good as they are read, the word at the present
address (its SEQ as the command says, its nanoword without HOLD, the machine still running after the nanoword acted): NEXT goes to the next
address; BRANCH to TARGET where the condition holds, else to the next; LOOP counts its counter down and goes to TARGET while it is not zero;
CALL pushes the next address below four levels and goes to TARGET; RETURN pops above the trap's depth; WAIT goes on once its condition
holds, and with it false does nothing but wait; TRET closes the trap frame, restores the flags and resumes; FAULT is a microcode fault. A
failing parity of a remap table, or of the micro-word, is a machine check instead (stated of NEXT). Where the spec leaves a point open, the
model’s own reading is meant: log entry 36. -/
def Obligations.MicroWordsAct : Prop :=
  (∀ (d : Dev) (n : Fin 4) (f : MicroFetch),
      d.live 0x04 = true →
      Effect (.microNext n f) d (d.microStep n.val 0 f)) ∧
  (∀ (d : Dev) (n : Fin 4) (f : MicroFetch) (stored word act : Nat) (w : Nano) (e : Dev),
      e = ((d.putI F.SHP_UC_PC_NANO n.val (slice word 0 9)).nanoAct n.val w).setUc n.val (fun u => { u with waiting := false, holdRun := 0 }) →
      d.powered 2 = true →
      (d.shp n.val).uc.run = true →
      (d.shp n.val).uc.dueTrap = none →
      f.remap = false →
      stored = (d.shp n.val).uc.microStored (d.getI F.SHP_UC_PC_MICRO n.val) ^^^ f.micro.toNat →
      parityHolds 16 stored = true →
      word = slice stored 0 16 →
      slice word 9 3 = 0 →
      act = (d.shp n.val).uc.nanoStored (slice word 0 9) ^^^ f.nano.toNat →
      parityHolds 128 act = true →
      w = Nano.ofWord (slice act 0 128) →
      w.hold = false →
      (e.shp n.val).uc.run = true →
      d.live 0x04 = true →
      Effect (.microNext n f) d (e.setPc n.val ((d.getI F.SHP_UC_PC_MICRO n.val + 1) % 4096))) ∧
  (∀ (d : Dev) (n : Fin 4) (f : MicroFetch),
      d.powered 2 = true →
      (d.shp n.val).uc.run = true →
      (d.shp n.val).uc.dueTrap = none →
      f.remap = true →
      d.live 0x04 = true →
      Effect (.microNext n f) d (d.machineCheck n.val 2 (d.getI F.SHP_UC_PC_MICRO n.val))) ∧
  (∀ (d : Dev) (n : Fin 4) (f : MicroFetch),
      d.powered 2 = true →
      (d.shp n.val).uc.run = true →
      (d.shp n.val).uc.dueTrap = none →
      f.remap = false →
      parityHolds 16 ((d.shp n.val).uc.microStored (d.getI F.SHP_UC_PC_MICRO n.val) ^^^ f.micro.toNat) = false →
      d.live 0x04 = true →
      Effect (.microNext n f) d (d.machineCheck n.val 0 (d.getI F.SHP_UC_PC_MICRO n.val))) ∧
  (∀ (d : Dev) (n : Fin 4) (f : MicroFetch),
      d.live 0x04 = true →
      Effect (.microBranch n f) d (d.microStep n.val 1 f)) ∧
  (∀ (d : Dev) (n : Fin 4) (f : MicroFetch) (stored word act : Nat) (w : Nano) (e : Dev),
      e = ((d.putI F.SHP_UC_PC_NANO n.val (slice word 0 9)).nanoAct n.val w).setUc n.val (fun u => { u with waiting := false, holdRun := 0 }) →
      d.powered 2 = true →
      (d.shp n.val).uc.run = true →
      (d.shp n.val).uc.dueTrap = none →
      f.remap = false →
      stored = (d.shp n.val).uc.microStored (d.getI F.SHP_UC_PC_MICRO n.val) ^^^ f.micro.toNat →
      parityHolds 16 stored = true →
      word = slice stored 0 16 →
      slice word 9 3 = 1 →
      act = (d.shp n.val).uc.nanoStored (slice word 0 9) ^^^ f.nano.toNat →
      parityHolds 128 act = true →
      w = Nano.ofWord (slice act 0 128) →
      w.hold = false →
      (e.shp n.val).uc.run = true →
      d.live 0x04 = true →
      Effect (.microBranch n f) d (e.setPc n.val (if (d.putI F.SHP_UC_PC_NANO n.val (slice word 0 9)).microCond n.val w then w.target else (d.getI F.SHP_UC_PC_MICRO n.val + 1) % 4096))) ∧
  (∀ (d : Dev) (n : Fin 4) (f : MicroFetch),
      d.live 0x04 = true →
      Effect (.microLoop n f) d (d.microStep n.val 2 f)) ∧
  (∀ (d : Dev) (n : Fin 4) (f : MicroFetch) (stored word act : Nat) (w : Nano) (e : Dev),
      e = ((d.putI F.SHP_UC_PC_NANO n.val (slice word 0 9)).nanoAct n.val w).setUc n.val (fun u => { u with waiting := false, holdRun := 0 }) →
      d.powered 2 = true →
      (d.shp n.val).uc.run = true →
      (d.shp n.val).uc.dueTrap = none →
      f.remap = false →
      stored = (d.shp n.val).uc.microStored (d.getI F.SHP_UC_PC_MICRO n.val) ^^^ f.micro.toNat →
      parityHolds 16 stored = true →
      word = slice stored 0 16 →
      slice word 9 3 = 2 →
      act = (d.shp n.val).uc.nanoStored (slice word 0 9) ^^^ f.nano.toNat →
      parityHolds 128 act = true →
      w = Nano.ofWord (slice act 0 128) →
      w.hold = false →
      (e.shp n.val).uc.run = true →
      d.live 0x04 = true →
      Effect (.microLoop n f) d ((e.setUc n.val (fun u => u.setCtr w.ctr (((e.shp n.val).uc.ctr w.ctr + 65535) % 65536))).setPc n.val (if (((e.shp n.val).uc.ctr w.ctr + 65535) % 65536) = 0 then (d.getI F.SHP_UC_PC_MICRO n.val + 1) % 4096 else w.target))) ∧
  (∀ (d : Dev) (n : Fin 4) (f : MicroFetch),
      d.live 0x04 = true →
      Effect (.microCall n f) d (d.microStep n.val 3 f)) ∧
  (∀ (d : Dev) (n : Fin 4) (f : MicroFetch) (stored word act : Nat) (w : Nano) (e : Dev),
      e = ((d.putI F.SHP_UC_PC_NANO n.val (slice word 0 9)).nanoAct n.val w).setUc n.val (fun u => { u with waiting := false, holdRun := 0 }) →
      d.powered 2 = true →
      (d.shp n.val).uc.run = true →
      (d.shp n.val).uc.dueTrap = none →
      f.remap = false →
      stored = (d.shp n.val).uc.microStored (d.getI F.SHP_UC_PC_MICRO n.val) ^^^ f.micro.toNat →
      parityHolds 16 stored = true →
      word = slice stored 0 16 →
      slice word 9 3 = 3 →
      act = (d.shp n.val).uc.nanoStored (slice word 0 9) ^^^ f.nano.toNat →
      parityHolds 128 act = true →
      w = Nano.ofWord (slice act 0 128) →
      w.hold = false →
      (e.shp n.val).uc.run = true →
      (e.shp n.val).uc.stack.length < 4 →
      d.live 0x04 = true →
      Effect (.microCall n f) d ((e.setUc n.val (fun u => { u with stack := ((d.getI F.SHP_UC_PC_MICRO n.val + 1) % 4096) :: u.stack })).setPc n.val w.target)) ∧
  (∀ (d : Dev) (n : Fin 4) (f : MicroFetch),
      d.live 0x04 = true →
      Effect (.microReturn n f) d (d.microStep n.val 4 f)) ∧
  (∀ (d : Dev) (n : Fin 4) (f : MicroFetch) (stored word act : Nat) (w : Nano) (a : Nat) (r : List Nat) (e : Dev),
      e = ((d.putI F.SHP_UC_PC_NANO n.val (slice word 0 9)).nanoAct n.val w).setUc n.val (fun u => { u with waiting := false, holdRun := 0 }) →
      d.powered 2 = true →
      (d.shp n.val).uc.run = true →
      (d.shp n.val).uc.dueTrap = none →
      f.remap = false →
      stored = (d.shp n.val).uc.microStored (d.getI F.SHP_UC_PC_MICRO n.val) ^^^ f.micro.toNat →
      parityHolds 16 stored = true →
      word = slice stored 0 16 →
      slice word 9 3 = 4 →
      act = (d.shp n.val).uc.nanoStored (slice word 0 9) ^^^ f.nano.toNat →
      parityHolds 128 act = true →
      w = Nano.ofWord (slice act 0 128) →
      w.hold = false →
      (e.shp n.val).uc.run = true →
      (e.shp n.val).uc.stack = a :: r →
      (e.shp n.val).uc.frames = [] →
      d.live 0x04 = true →
      Effect (.microReturn n f) d ((e.setUc n.val (fun u => { u with stack := r })).setPc n.val a)) ∧
  (∀ (d : Dev) (n : Fin 4) (f : MicroFetch),
      d.live 0x04 = true →
      Effect (.microTret n f) d (d.microStep n.val 6 f)) ∧
  (∀ (d : Dev) (n : Fin 4) (f : MicroFetch) (stored word act : Nat) (w : Nano) (t : TrapFrame) (r : List TrapFrame) (e : Dev),
      e = ((d.putI F.SHP_UC_PC_NANO n.val (slice word 0 9)).nanoAct n.val w).setUc n.val (fun u => { u with waiting := false, holdRun := 0 }) →
      d.powered 2 = true →
      (d.shp n.val).uc.run = true →
      (d.shp n.val).uc.dueTrap = none →
      f.remap = false →
      stored = (d.shp n.val).uc.microStored (d.getI F.SHP_UC_PC_MICRO n.val) ^^^ f.micro.toNat →
      parityHolds 16 stored = true →
      word = slice stored 0 16 →
      slice word 9 3 = 6 →
      act = (d.shp n.val).uc.nanoStored (slice word 0 9) ^^^ f.nano.toNat →
      parityHolds 128 act = true →
      w = Nano.ofWord (slice act 0 128) →
      w.hold = false →
      (e.shp n.val).uc.run = true →
      (e.shp n.val).uc.frames = t :: r →
      (e.shp n.val).uc.stack.length = t.sdepth →
      d.live 0x04 = true →
      Effect (.microTret n f) d (((e.setUc n.val (fun u => { u with frames := r, z := t.z, n := t.n, v := t.v })).putI F.SHP_UC_STAT_TRAP_DEPTH n.val r.length).setPc n.val t.resume)) ∧
  (∀ (d : Dev) (n : Fin 4) (f : MicroFetch),
      d.live 0x04 = true →
      Effect (.microFault n f) d (d.microStep n.val 7 f)) ∧
  (∀ (d : Dev) (n : Fin 4) (f : MicroFetch) (stored word act : Nat) (w : Nano) (e : Dev),
      e = ((d.putI F.SHP_UC_PC_NANO n.val (slice word 0 9)).nanoAct n.val w).setUc n.val (fun u => { u with waiting := false, holdRun := 0 }) →
      d.powered 2 = true →
      (d.shp n.val).uc.run = true →
      (d.shp n.val).uc.dueTrap = none →
      f.remap = false →
      stored = (d.shp n.val).uc.microStored (d.getI F.SHP_UC_PC_MICRO n.val) ^^^ f.micro.toNat →
      parityHolds 16 stored = true →
      word = slice stored 0 16 →
      slice word 9 3 = 7 →
      act = (d.shp n.val).uc.nanoStored (slice word 0 9) ^^^ f.nano.toNat →
      parityHolds 128 act = true →
      w = Nano.ofWord (slice act 0 128) →
      w.hold = false →
      (e.shp n.val).uc.run = true →
      d.live 0x04 = true →
      Effect (.microFault n f) d (e.microFault n.val 0)) ∧
  (∀ (d : Dev) (n : Fin 4) (f : MicroFetch),
      d.live 0x04 = true →
      Effect (.microWait n f) d (d.microStep n.val 5 f)) ∧
  (∀ (d : Dev) (n : Fin 4) (f : MicroFetch) (stored word act : Nat) (w : Nano) (e : Dev),
      e = ((d.putI F.SHP_UC_PC_NANO n.val (slice word 0 9)).nanoAct n.val w).setUc n.val (fun u => { u with waiting := false, holdRun := 0 }) →
      d.powered 2 = true →
      (d.shp n.val).uc.run = true →
      (d.shp n.val).uc.dueTrap = none →
      f.remap = false →
      stored = (d.shp n.val).uc.microStored (d.getI F.SHP_UC_PC_MICRO n.val) ^^^ f.micro.toNat →
      parityHolds 16 stored = true →
      word = slice stored 0 16 →
      slice word 9 3 = 5 →
      act = (d.shp n.val).uc.nanoStored (slice word 0 9) ^^^ f.nano.toNat →
      parityHolds 128 act = true →
      w = Nano.ofWord (slice act 0 128) →
      w.hold = false →
      (e.shp n.val).uc.run = true →
      (d.putI F.SHP_UC_PC_NANO n.val (slice word 0 9)).microCond n.val w = true →
      d.live 0x04 = true →
      Effect (.microWait n f) d (e.setPc n.val ((d.getI F.SHP_UC_PC_MICRO n.val + 1) % 4096))) ∧
  (∀ (d : Dev) (n : Fin 4) (f : MicroFetch) (stored word act : Nat) (w : Nano) (e : Dev),
      e = (d.putI F.SHP_UC_PC_NANO n.val (slice word 0 9)).setUc n.val (fun u => { u with waiting := true, holdRun := 0 }) →
      d.powered 2 = true →
      (d.shp n.val).uc.run = true →
      (d.shp n.val).uc.dueTrap = none →
      f.remap = false →
      stored = (d.shp n.val).uc.microStored (d.getI F.SHP_UC_PC_MICRO n.val) ^^^ f.micro.toNat →
      parityHolds 16 stored = true →
      word = slice stored 0 16 →
      slice word 9 3 = 5 →
      act = (d.shp n.val).uc.nanoStored (slice word 0 9) ^^^ f.nano.toNat →
      parityHolds 128 act = true →
      w = Nano.ofWord (slice act 0 128) →
      w.hold = false →
      (e.shp n.val).uc.run = true →
      (d.putI F.SHP_UC_PC_NANO n.val (slice word 0 9)).microCond n.val w = false →
      d.live 0x04 = true →
      Effect (.microWait n f) d (e.setPc n.val (d.getI F.SHP_UC_PC_MICRO n.val)))

/-- For every Shepherd and every operand field: ADD, SUB, AND, OR, XOR, SHL, SAR, MUL and MAC (products of 29 fraction bits to the nearest),
MIN, MAX, CLAMP, ABS, PASS and LDI have the exact result the table gives from A, B, the old DST and IMM. The 32-bit result is saturated with
SAT and wrapped without; Z and N follow the result and V says whether the exact result leaves 32 bits; DST is written where WE is set. NOP
leaves the device as it was. Where the spec leaves a point open, the model’s own reading is meant: log entries 19 and 22. -/
def Obligations.AluOperations : Prop :=
  (∀ (d : Dev) (n : Fin 4) (f : AluFields),
      d.live 0x04 = true →
      Effect (.aluNop n f) d (d)) ∧
  (∀ (d : Dev) (n : Fin 4) (f : AluFields),
      d.live 0x04 = true →
      Effect (.aluAdd n f) d (d.setUc n.val (fun u => u.aluDone (u.opA f.srcA.val + u.opB f.srcB.val f.bImm f.imm) f))) ∧
  (∀ (d : Dev) (n : Fin 4) (f : AluFields),
      d.live 0x04 = true →
      Effect (.aluSub n f) d (d.setUc n.val (fun u => u.aluDone (u.opA f.srcA.val - u.opB f.srcB.val f.bImm f.imm) f))) ∧
  (∀ (d : Dev) (n : Fin 4) (f : AluFields),
      d.live 0x04 = true →
      Effect (.aluAnd n f) d (d.setUc n.val (fun u => u.aluDone (toSigned 32 (ofSigned 32 (u.opA f.srcA.val) &&& ofSigned 32 (u.opB f.srcB.val f.bImm f.imm))) f))) ∧
  (∀ (d : Dev) (n : Fin 4) (f : AluFields),
      d.live 0x04 = true →
      Effect (.aluOr n f) d (d.setUc n.val (fun u => u.aluDone (toSigned 32 (ofSigned 32 (u.opA f.srcA.val) ||| ofSigned 32 (u.opB f.srcB.val f.bImm f.imm))) f))) ∧
  (∀ (d : Dev) (n : Fin 4) (f : AluFields),
      d.live 0x04 = true →
      Effect (.aluXor n f) d (d.setUc n.val (fun u => u.aluDone (toSigned 32 (ofSigned 32 (u.opA f.srcA.val) ^^^ ofSigned 32 (u.opB f.srcB.val f.bImm f.imm))) f))) ∧
  (∀ (d : Dev) (n : Fin 4) (f : AluFields),
      d.live 0x04 = true →
      Effect (.aluShl n f) d (d.setUc n.val (fun u => u.aluDone (u.opA f.srcA.val * (2 ^ (ofSigned 32 (u.opB f.srcB.val f.bImm f.imm) % 32) : Nat)) f))) ∧
  (∀ (d : Dev) (n : Fin 4) (f : AluFields),
      d.live 0x04 = true →
      Effect (.aluSar n f) d (d.setUc n.val (fun u => u.aluDone (u.opA f.srcA.val / (2 ^ (ofSigned 32 (u.opB f.srcB.val f.bImm f.imm) % 32) : Nat)) f))) ∧
  (∀ (d : Dev) (n : Fin 4) (f : AluFields),
      d.live 0x04 = true →
      Effect (.aluMul n f) d (d.setUc n.val (fun u => u.aluDone (mulQ29 (u.opA f.srcA.val) (u.opB f.srcB.val f.bImm f.imm)) f))) ∧
  (∀ (d : Dev) (n : Fin 4) (f : AluFields),
      d.live 0x04 = true →
      Effect (.aluMac n f) d (d.setUc n.val (fun u => u.aluDone (toSigned 32 (u.reg f.dst.val) + mulQ29 (u.opA f.srcA.val) (u.opB f.srcB.val f.bImm f.imm)) f))) ∧
  (∀ (d : Dev) (n : Fin 4) (f : AluFields),
      d.live 0x04 = true →
      Effect (.aluMin n f) d (d.setUc n.val (fun u => u.aluDone (min (u.opA f.srcA.val) (u.opB f.srcB.val f.bImm f.imm)) f))) ∧
  (∀ (d : Dev) (n : Fin 4) (f : AluFields),
      d.live 0x04 = true →
      Effect (.aluMax n f) d (d.setUc n.val (fun u => u.aluDone (max (u.opA f.srcA.val) (u.opB f.srcB.val f.bImm f.imm)) f))) ∧
  (∀ (d : Dev) (n : Fin 4) (f : AluFields),
      d.live 0x04 = true →
      Effect (.aluClamp n f) d (d.setUc n.val (fun u => u.aluDone (clampInt (-((u.opB f.srcB.val f.bImm f.imm).natAbs : Int)) ((u.opB f.srcB.val f.bImm f.imm).natAbs : Int) (u.opA f.srcA.val)) f))) ∧
  (∀ (d : Dev) (n : Fin 4) (f : AluFields),
      d.live 0x04 = true →
      Effect (.aluAbs n f) d (d.setUc n.val (fun u => u.aluDone (((u.opA f.srcA.val).natAbs : Int)) f))) ∧
  (∀ (d : Dev) (n : Fin 4) (f : AluFields),
      d.live 0x04 = true →
      Effect (.aluPass n f) d (d.setUc n.val (fun u => u.aluDone (u.opA f.srcA.val) f))) ∧
  (∀ (d : Dev) (n : Fin 4) (f : AluFields),
      d.live 0x04 = true →
      Effect (.aluLdi n f) d (d.setUc n.val (fun u => u.aluDone (toSigned 32 f.imm) f)))

/-- A write of a port sets what the port stands for: the target of a channel in 1/256 track, the VCM current, the state (but FENCED and
RETRACTED stay), the head select of a channel, the write permissions asked for that R236 grants, the table address, the timer; an event of
the servo's codes is recorded with S24 to S27; a microactuator code is clamped to the reach. A counter takes the low 16 bits of the
immediate. A timer that expires latches cause 9, and one that does not run does nothing. Where the spec leaves a point open, the model’s own
reading is meant: log entries 19 and 38. -/
def Obligations.PortsAndCounters : Prop :=
  (∀ (d : Dev) (n : Fin 4) (k : Fin 2) (v : BitVec 32),
      d.live 0x04 = true →
      Effect (.portTgtWrite n k v) d ((d.putI F.SHP_TARGET_TRACK (2 * n.val + k.val) (v.toNat / 256)).putI F.SHP_TARGET_FRAC (2 * n.val + k.val) (v.toNat % 256))) ∧
  (∀ (d : Dev) (n : Fin 4) (v : BitVec 32),
      d.live 0x04 = true →
      Effect (.portVcmIrefWrite n v) d (d.setShp n.val (fun s => { s with iRef := toSigned 32 v.toNat }))) ∧
  (∀ (d : Dev) (n : Fin 4) (v : BitVec 32),
      d.live 0x04 = true →
      Effect (.portStateWrite n v) d (d.portWrite n.val 0x14 v.toNat)) ∧
  (∀ (d : Dev) (n : Fin 4) (v : BitVec 32),
      d.shpState n.val ≠ shpFenced →
      d.shpState n.val ≠ shpRetracted →
      d.live 0x04 = true →
      Effect (.portStateWrite n v) d (d.putI F.SHP_STAT_STATE n.val (v.toNat % 16))) ∧
  (∀ (d : Dev) (n : Fin 4) (v : BitVec 32),
      (d.shpState n.val = shpFenced ∨ d.shpState n.val = shpRetracted) →
      d.live 0x04 = true →
      Effect (.portStateWrite n v) d (d)) ∧
  (∀ (d : Dev) (n : Fin 4) (v : BitVec 32),
      d.live 0x04 = true →
      Effect (.portHeadselWrite n v) d (d.selectHead n.val (v.toNat / 8 % 2) (v.toNat % 8))) ∧
  (∀ (d : Dev) (n : Fin 4) (v : BitVec 32),
      d.live 0x04 = true →
      Effect (.portWgenWrite n v) d (d.each [0, 1] (fun e k => e.setCh n.val k (fun c => { c with permit := v.toNat.testBit k && (c.permit || e.writeOk n.val k) })))) ∧
  (∀ (d : Dev) (n : Fin 4) (v : BitVec 32),
      d.live 0x04 = true →
      Effect (.portEventWrite n v) d (d.portWrite n.val 0x19 v.toNat)) ∧
  (∀ (d : Dev) (n : Fin 4) (v : BitVec 32),
      0x1101 ≤ v.toNat % 2 ^ 16 →
      v.toNat % 2 ^ 16 ≤ 0x110F →
      d.live 0x04 = true →
      Effect (.portEventWrite n v) d (d.post (v.toNat % 2 ^ 16) [(d.shp n.val).uc.reg 24, (d.shp n.val).uc.reg 25, (d.shp n.val).uc.reg 26, (d.shp n.val).uc.reg 27])) ∧
  (∀ (d : Dev) (n : Fin 4) (v : BitVec 32),
      d.live 0x04 = true →
      Effect (.portTableAddrWrite n v) d (d.setShp n.val (fun s => { s with tableAddr := v.toNat }))) ∧
  (∀ (d : Dev) (n : Fin 4) (v : BitVec 32),
      d.live 0x04 = true →
      Effect (.portTimerWrite n v) d (d.setShp n.val (fun s => { s with timer := v.toNat % 2 ^ 16 }))) ∧
  (∀ (d : Dev) (n : Fin 4) (k : Fin 2) (v : BitVec 32),
      d.live 0x04 = true →
      Effect (.portMaWrite n k v) d (d.portWrite n.val (0x10 + k.val) v.toNat)) ∧
  (∀ (d : Dev) (n : Fin 4) (k : Fin 2) (v : BitVec 32),
      d.maGain (d.headNum n.val k.val) ≠ 0 →
      d.live 0x04 = true →
      Effect (.portMaWrite n k v) d (let g := d.maGain (d.headNum n.val k.val)
        let lim : Int := d.reach256 n.val k.val * 8191 / (g : Int)
        let x := clampInt (-lim) lim (toSigned 32 v.toNat)
        d.setCh n.val k.val (fun c => { c with maPrev := c.maOut, maOut := x, y := x * (g : Int) / 8191 }))) ∧
  (∀ (d : Dev) (n k : Fin 4) (imm : BitVec 32),
      d.live 0x04 = true →
      Effect (.counterLoad n k imm) d (d.setUc n.val (fun u => u.setCtr k.val imm.toNat))) ∧
  (∀ (d : Dev) (n : Fin 4),
      d.live 0x04 = true →
      Effect (.ucTimerExpire n) d (if (d.shp n.val).timer = 0 then d else (d.setShp n.val (fun x => { x with timer := 0 })).latchTrap n.val 9)) ∧
  (∀ (d : Dev) (n : Fin 4),
      (d.shp n.val).timer ≠ 0 →
      d.live 0x04 = true →
      Effect (.ucTimerExpire n) d ((d.setShp n.val (fun s => { s with timer := 0 })).latchTrap n.val 9)) ∧
  (∀ (d : Dev) (n : Fin 4),
      (d.shp n.val).timer = 0 →
      d.live 0x04 = true →
      Effect (.ucTimerExpire n) d (d))

/-- DRV_RET SELECT names the descriptor word shown; TAKEN, READY and RETURN with no descriptor offered or held do nothing; READY of a piece
taken makes it ready; RETURN with nothing left drops the piece, else files the rest again. TRAP_TAKE with a trap due outside a HOLD opens a
frame, clears the latched cause and goes to its address. A first parity failure of a reload restarts it; a wrong digest fences the actuator
with 0x1205; a reload that ends well outside a park restarts the microcode. Where the spec leaves a point open, the model’s own reading is
meant: log entries 19 and 36. -/
def Obligations.DescriptorsTrapsReloads : Prop :=
  (∀ (d : Dev) (n w : Fin 4),
      d.live 0x04 = true →
      Effect (.drvRetSelect n w) d (d.setShp n.val (fun s => { s with drvSelect := w.val }))) ∧
  (∀ (d : Dev) (n : Fin 4),
      d.live 0x04 = true →
      Effect (.drvRetTaken n) d (d.drvTaken n.val)) ∧
  (∀ (d : Dev) (n : Fin 4),
      d.offered n.val = none →
      d.live 0x04 = true →
      Effect (.drvRetTaken n) d (d)) ∧
  (∀ (d : Dev) (n : Fin 4) (p : Piece) (s : Nat) (e1 e2 e : Dev),
      e1 = d.mapPiece p.id (fun q => { q with stage := .taken }) →
      e2 = (e1.setTarget n.val (s % 2) (pieceTarget p)).setCh n.val (s % 2) (fun c =>
        { c with moving := true, writes := pieceWrites p, settled := false, settleRun := 0, permit := false }) →
      e = ((e2.flagI F.SHP_STAT_PAIRED n.val (e1.drv.pieces.any (fun q => q.hold == some (if s % 2 = 0 then s + 1 else s - 1)))).setShp n.val
        (fun x => { x with paired := e1.drv.pieces.any (fun q => q.hold == some (if s % 2 = 0 then s + 1 else s - 1)) })).setBias n.val →
      d.offered n.val = some p →
      p.hold = some s →
      e.headSlot n.val (s % 2) = p.head % 8 →
      e.headValid n.val (s % 2) = true →
      e.shpState n.val = shpFollow →
      d.live 0x04 = true →
      Effect (.drvRetTaken n) d ((((e.incI F.SHP_SEEK_CNT_COUNT n.val).putI F.SHP_SEEK_DIST_DIST n.val (min ((p.track : Int) - e1.posAt n.val (s % 2) / 256).natAbs (2 ^ 24 - 1))).putI
          F.SHP_STAT_STATE n.val shpSeek).setShp n.val (fun x => { x with seekCycles := 0, seekTries := 0, reseek := false }))) ∧
  (∀ (d : Dev) (n : Fin 4) (k : Fin 2),
      d.live 0x04 = true →
      Effect (.drvRetReady n k) d (d.drvReady n.val k.val)) ∧
  (∀ (d : Dev) (n : Fin 4) (k : Fin 2) (p : Piece),
      d.heldPiece (2 * n.val + k.val) = some p →
      p.stage = .taken →
      p.why.kind ≠ .writePass →
      d.live 0x04 = true →
      Effect (.drvRetReady n k) d (d.mapPiece p.id (fun q => { q with stage := .ready }))) ∧
  (∀ (d : Dev) (n : Fin 4) (k : Fin 2) (left : BitVec 16),
      d.live 0x04 = true →
      Effect (.drvRetReturn n k left) d (d.drvReturn n.val k.val left.toNat)) ∧
  (∀ (d : Dev) (n : Fin 4) (k : Fin 2) (left : BitVec 16),
      d.heldPiece (2 * n.val + k.val) = none →
      d.live 0x04 = true →
      Effect (.drvRetReturn n k left) d (d)) ∧
  (∀ (d : Dev) (n : Fin 4) (k : Fin 2) (left : BitVec 16) (p : Piece),
      d.heldPiece (2 * n.val + k.val) = some p →
      left.toNat = 0 →
      d.live 0x04 = true →
      Effect (.drvRetReturn n k left) d (let e := d.mapPiece p.id (fun q => { q with secs := [] })
        let e := (e.setCh n.val k.val (fun c => { c with moving := false, settled := false })).pieceReturn (2 * n.val + k.val)
        ((e.putI F.SHP_STAT_PAIRED n.val 0).setShp n.val (fun x => { x with paired := false })).dropPiece p.id)) ∧
  (∀ (d : Dev) (n : Fin 4),
      d.live 0x04 = true →
      Effect (.trapTake n) d (d.takeTrap n.val)) ∧
  (∀ (d : Dev) (n : Fin 4) (k : Nat) (e : Dev),
      e = d.setUc n.val (fun u => { u with frames := (⟨k, (d.shp n.val).uc.waiting, (d.shp n.val).uc.z, (d.shp n.val).uc.n, (d.shp n.val).uc.v,
        (d.shp n.val).uc.stack.length, d.getI F.SHP_UC_PC_MICRO n.val⟩ : TrapFrame) :: u.frames, latch := withBit u.latch k false, overruns := u.overruns.set k 0, waiting := false }) →
      d.powered 2 = true →
      (d.shp n.val).uc.run = true →
      (d.shp n.val).uc.holdRun = 0 →
      (d.shp n.val).uc.dueTrap = some k →
      d.live 0x04 = true →
      Effect (.trapTake n) d ((e.putI F.SHP_UC_STAT_TRAP_DEPTH n.val (e.shp n.val).uc.frames.length).setPc n.val k)) ∧
  (∀ (d : Dev) (n : Fin 4) (o : ReloadOutcome),
      d.live 0x04 = true →
      Effect (.storeReloadDone n o) d (d.reloadDone n.val o)) ∧
  (∀ (d : Dev) (n : Fin 4) (o : ReloadOutcome),
      (d.shp n.val).uc.reloading = true →
      (d.shp n.val).uc.restarted = false →
      o = .parity →
      d.live 0x04 = true →
      Effect (.storeReloadDone n o) d (d.setUc n.val (fun u => { u with restarted := true }))) ∧
  (∀ (d : Dev) (n : Fin 4) (o : ReloadOutcome),
      (d.shp n.val).uc.reloading = true →
      o = .done →
      d.copyIntact 0x40 n.val = false →
      d.live 0x04 = true →
      Effect (.storeReloadDone n o) d (((d.setUc n.val (fun u => { u with reloading := false })).fenceActuator n.val).post 0x1205 [n.val]))

/-- A close request of an open role makes it wait for its tick, an open request of a role not fenced opens it and forgets the output due; by
CTRL, roles 0 to 6 only mark WR_IGN, and with the domain off the write is dropped and counted. A tick of an OPEN VCM role (3 to 6) takes the
measured value and drives OPEN_OUT. A tick of a CLOSED one puts out what the last tick computed and computes the next from the target, the
measured value, the coefficients and what it held (where the spare does not patrol the role and the engine is sound or off by err); the
set-point of a close starts at the measured value, ramps, and is the target in CLOSED. Or, for a heater or laser role without a new value,
only sets STALE. A coefficient is taken in OPEN, in another state ignored with event 0x1305. The patrol goes on to the next role not fenced;
a reference test retires the former or the spare. Where the spec leaves a point open, the model’s own reading is meant: log entries 22, 111
and 141. -/
def Obligations.LoopsOpenCloseAndTick : Prop :=
  (∀ (d : Dev) (r : Fin 23) (byCtrl : Bool),
      d.clk.stopped = false →
      Effect (.loopCloseRequest r byCtrl) d (if byCtrl then d.ctrlClose r.val else d.loopClose r.val)) ∧
  (∀ (d : Dev) (r : Fin 23) (byCtrl : Bool),
      byCtrl = false →
      d.loopState r.val = loopOpenSt →
      d.clk.stopped = false →
      Effect (.loopCloseRequest r byCtrl) d ((d.putI F.LPE_L_STAT_STATE r.val loopPend).setRole r.val (fun x => { x with closeDue := false, satSeen := false }))) ∧
  (∀ (d : Dev) (r : Fin 23) (byCtrl : Bool),
      byCtrl = true →
      r.val ≤ 6 →
      d.powered 2 = true →
      d.clk.stopped = false →
      Effect (.loopCloseRequest r byCtrl) d ((d.putI F.LPE_L_STAT_WR_IGN r.val 1).put F.LPE_INT_STAT_WR_IGN 1)) ∧
  (∀ (d : Dev) (r : Fin 23) (byCtrl : Bool),
      byCtrl = true →
      d.powered 2 = false →
      d.clk.stopped = false →
      Effect (.loopCloseRequest r byCtrl) d (d.inc F.CLK_PD_DROPWR_COUNT)) ∧
  (∀ (d : Dev) (r : Fin 23) (byCtrl : Bool),
      d.clk.stopped = false →
      Effect (.loopOpenRequest r byCtrl) d (if byCtrl then d.ctrlOpen r.val else d.loopOpen r.val)) ∧
  (∀ (d : Dev) (r : Fin 23) (byCtrl : Bool),
      byCtrl = false →
      d.loopState r.val = loopClosed →
      d.clk.stopped = false →
      Effect (.loopOpenRequest r byCtrl) d (((d.setRole r.val (fun x => { x with closeDue := false })).putI F.LPE_L_STAT_STATE r.val loopOpenSt).setRole r.val (fun x => { x with next := none }))) ∧
  (∀ (d : Dev) (r : Fin 23) (byCtrl : Bool),
      byCtrl = true →
      r.val ≤ 6 →
      d.powered 2 = true →
      d.clk.stopped = false →
      Effect (.loopOpenRequest r byCtrl) d ((d.putI F.LPE_L_STAT_WR_IGN r.val 1).put F.LPE_INT_STAT_WR_IGN 1)) ∧
  (∀ (d : Dev) (r : Fin 23) (m err spareErr : Int),
      d.live 0x05 = true →
      Effect (.loopTick r m err spareErr) d (d.loopTick r.val m err spareErr)) ∧
  (∀ (d : Dev) (r : Fin 23) (m err spareErr : Int),
      d.powered 2 = true →
      3 ≤ r.val →
      r.val ≤ 6 →
      d.shpState (r.val - 3) ≠ shpLoading →
      d.loopState r.val = loopOpenSt →
      (d.role r.val).closeDue = false →
      d.patrols r.val = false →
      d.live 0x05 = true →
      Effect (.loopTick r m err spareErr) d ((((d.putI F.LPE_L_STAT_STALE r.val 0).putI F.LPE_L_MEAS_VALUE r.val (ofSigned 32 m)).putI F.LPE_L_OUT_OUT r.val
          (ofSigned 16 (toSigned 16 (d.getI F.LPE_L_OUT_OPEN_OUT r.val)))).vcmPeriod r.val)) ∧
  (∀ (d : Dev) (r : Fin 23) (m err spareErr : Int) (y : Int) (e g : Dev),
      e = ((d.putI F.LPE_L_STAT_STALE r.val 0).putI F.LPE_L_MEAS_VALUE r.val (ofSigned 32 m)).putI F.LPE_L_OUT_OUT r.val (ofSigned 16 y) →
      g = e.vcmPeriod r.val →
      d.powered 2 = true →
      3 ≤ r.val →
      r.val ≤ 6 →
      d.shpState (r.val - 3) ≠ shpLoading →
      d.loopState r.val = loopClosed →
      (d.role r.val).next = some y →
      d.patrols r.val = false →
      d.live 0x05 = true →
      Effect (.loopTick r m err spareErr) d (let res := loopLaw (g.loopSet r.val) (g.role r.val) (g.loopTarget r.val) m (d.get F.MIL_VM_VM)
        let x : Role := { g.role r.val with i := res.i, dv := res.dv, mPrev := m, sPrev := g.loopTarget r.val, atMax := res.atMax, atMin := res.atMin, next := some (res.y + err) }
        let h := (((g.setRole r.val (fun _ => x)).putI F.LPE_L_STAT_STATE r.val loopClosed).putI F.LPE_L_SETPT_VALUE r.val (ofSigned 32 (g.loopTarget r.val))).flagI
          F.LPE_L_STAT_CLAMPED r.val (res.atMax || res.atMin)
        (h.putI F.LPE_L_TARGET_VALUE r.val (ofSigned 32 (h.loopTarget r.val))).loopSaturation r.val res.sat)) ∧
  (∀ (d : Dev) (r : Fin 23) (m : Int), (d.loopState r.val = loopPend → d.loopSetpoint r.val m = (256 * m, loopRamping)) ∧
      (d.loopState r.val = loopClosed → d.loopSetpoint r.val m = (d.loopTarget r.val, loopClosed)) ∧
      (d.loopState r.val = loopRamping → gap ((toSigned 32 (d.getI F.LPE_L_SETPT_VALUE r.val)).toNat) (d.loopTarget r.val).toNat ≤ (d.loopRate r.val).toNat →
        0 ≤ toSigned 32 (d.getI F.LPE_L_SETPT_VALUE r.val) → 0 ≤ d.loopTarget r.val → 0 ≤ d.loopRate r.val → d.loopSetpoint r.val m = (d.loopTarget r.val, loopClosed))) ∧
  (∀ (d : Dev) (r : Fin 23) (m err spareErr : Int),
      d.powered 2 = true →
      7 ≤ r.val →
      r.val ≤ 14 →
      d.loopState r.val = loopClosed →
      (d.fes (r.val - 7)).clearN = 0 →
      d.patrols r.val = false →
      d.live 0x05 = true →
      Effect (.loopTick r m err spareErr) d (((d.setFe (r.val - 7) (fun f => { f with clearSum := 0, clearN := 0 })).putI F.RCH_S_CLEAR_VALID (r.val - 7) 0).putI F.LPE_L_STAT_STALE r.val 1)) ∧
  (∀ (d : Dev) (r : Fin 23) (off : Fin 64) (v : BitVec 32),
      d.clk.stopped = false →
      Effect (.lpeCoefWrite r off v) d (d.coefWrite r.val off.val v.toNat)) ∧
  (∀ (d : Dev) (r : Fin 23) (off : Fin 64) (v : BitVec 32),
      d.powered 2 = true →
      off.val = 0x0C →
      r.val = 7 →
      d.loopState r.val = loopOpenSt →
      d.clk.stopped = false →
      Effect (.lpeCoefWrite r off v) d ((d.putI F.LPE_L_KP_MANT 7 (slice v.toNat 0 18)).putI F.LPE_L_KP_EXP 7 (slice v.toNat 18 6))) ∧
  (∀ (d : Dev) (r : Fin 23) (off : Fin 64) (v : BitVec 32),
      d.powered 2 = true →
      off.val = 0x0C →
      r.val = 7 →
      d.loopState r.val = loopClosed →
      d.clk.stopped = false →
      Effect (.lpeCoefWrite r off v) d (((d.putI F.LPE_L_STAT_WR_IGN 7 1).put F.LPE_INT_STAT_WR_IGN 1).post 0x1305 [7, 0x0C])) ∧
  (∀ (d : Dev),
      d.live 0x05 = true →
      Effect (.patrolComplete) d (d.patrolComplete)) ∧
  (∀ (d : Dev) (k : Nat),
      d.get F.LPE_STAT_SPARE = 1 →
      d.lpe.testing = none →
      64 ≤ d.lpe.shadowTicks →
      (List.range 23).find? (fun k => decide (d.get F.LPE_STAT_SPARE_ROLE < k) && !d.bit F.LPE_FENCED_MASK k) = some k →
      d.live 0x05 = true →
      Effect (.patrolComplete) d (({ d with lpe := { d.lpe with testing := none, shadow := none, shadowTicks := 0 } } : Dev).put F.LPE_STAT_SPARE_ROLE k)) ∧
  (∀ (d : Dev),
      d.get F.LPE_STAT_SPARE = 1 →
      d.lpe.testing = none →
      64 ≤ d.lpe.shadowTicks →
      d.get F.LPE_STAT_SPARE_ROLE = 22 →
      d.bit F.LPE_FENCED_MASK 0 = false →
      d.live 0x05 = true →
      Effect (.patrolComplete) d ((({ d with lpe := { d.lpe with testing := none, shadow := none, shadowTicks := 0 } } : Dev).inc F.LPE_STAT_PATROLS).put F.LPE_STAT_SPARE_ROLE 0)) ∧
  (∀ (d : Dev) (spareOk formerOk : Bool),
      d.live 0x05 = true →
      Effect (.referenceTestDone spareOk formerOk) d (d.referenceDone spareOk formerOk)) ∧
  (∀ (d : Dev) (spareOk formerOk : Bool) (r : Nat),
      d.lpe.testing = some r →
      spareOk = false →
      d.live 0x05 = true →
      Effect (.referenceTestDone spareOk formerOk) d (((({ d with lpe := { d.lpe with testing := none, shadow := none, shadowTicks := 0 } } : Dev).setBit F.LPE_RETIRED_MASK (d.get F.LPE_STAT_SPARE_PHYS) true).put F.LPE_STAT_SPARE 3).post
          0x1303 [0x1F, d.get F.LPE_STAT_SPARE_PHYS])) ∧
  (∀ (d : Dev) (spareOk formerOk : Bool) (r : Nat),
      d.lpe.testing = some r →
      spareOk = true →
      formerOk = true →
      d.lpe.shadow = none →
      d.loopState r ≠ loopRamping →
      d.live 0x05 = true →
      Effect (.referenceTestDone spareOk formerOk) d ((((({ d with lpe := { d.lpe with testing := none, shadow := none, shadowTicks := 0 } } : Dev).putI F.LPE_L_STAT_PHYS r (d.get F.LPE_STAT_SPARE_PHYS)).put F.LPE_INT_STAT_SPARE 1).put
          F.LPE_STAT_SPARE_PHYS (d.getI F.LPE_L_STAT_PHYS r)).post 0x1307 [r, d.getI F.LPE_L_STAT_PHYS r, d.get F.LPE_STAT_SPARE_PHYS])) ∧
  (∀ (d : Dev) (spareOk formerOk : Bool) (r : Nat),
      d.lpe.testing = some r →
      spareOk = true →
      formerOk = false →
      d.lpe.shadow = none →
      d.loopState r ≠ loopRamping →
      d.live 0x05 = true →
      Effect (.referenceTestDone spareOk formerOk) d (((((({ d with lpe := { d.lpe with testing := none, shadow := none, shadowTicks := 0 } } : Dev).putI F.LPE_L_STAT_PHYS r (d.get F.LPE_STAT_SPARE_PHYS)).put F.LPE_INT_STAT_SPARE 1).setBit
          F.LPE_RETIRED_MASK (d.getI F.LPE_L_STAT_PHYS r) true).put F.LPE_STAT_SPARE 2).post 0x1302 [r, d.getI F.LPE_L_STAT_PHYS r, 1]))

/-- With a settled piece of which a sector is left and a stream that may read (its domains on, not fenced, idle, served by a slice),
SECTOR_ATTEMPT_START takes that sector off the piece, restores and seeds what is due, keeps a snapshot of the adaptive values, counts the
sector, takes a slot of the slice and acquires; where the synthesiser loses lock, event 0x2009 is recorded, the attempt is abandoned with
cause 8 and the second in a row fences the stream. SECTOR_ATTEMPT_END frees the stream and closes the slot's attempt; three saturated
attempts in a row, a stuck lane or a parity failure fence it. SECTOR_ATTEMPT_ABANDON with no attempt does nothing; else it is counted,
restored from the snapshot, and read again at its rung for cause 5 or failed at its rung. Where the spec leaves a point open, the model’s
own reading is meant: log entries 19, 81, 82 and 145. -/
def Obligations.AttemptsStartAndEnd : Prop :=
  (∀ (d : Dev) (st : Fin 8) (x : AttemptCodes),
      d.livePort 0x06 (st.val / 2) = true →
      Effect (.sectorAttemptStart st x) d (d.attemptStart st.val x)) ∧
  (∀ (d : Dev) (st : Fin 8) (x : AttemptCodes) (p : Piece) (sec : Sec) (d0 d1 d2 d3 e : Dev),
      d0 = d.mapPiece p.id (fun q => { q with secs := q.secs.drop 1 }) →
      d1 = d0.setFe st.val (fun f => { f with
        bits := 0, total := 192 + codeBits (d0.zone (d0.zoneOf p.track)).code, dataRead := true, step := if p.rung = 1 then p.step else 0, hold := 0,
        acquiring := false, eraseRun := 0, clampRun := 0 }) →
      d2 = d1.sectorSeeds st.val p.head p.track →
      d3 = d2.setFe st.val (fun f => { f with snap := some (d2.adaptive st.val) }) →
      e = (((d3.setBit F.RCH_STAT_READING st.val true).incI F.RCH_S_SECTORS_COUNT st.val).putI F.RCH_S_STAT_PHASE st.val phTrack).takeSlot st.val ⟨sec, p.head, p.track, p.why, p.rung, p.step⟩ →
      d.sectorToRead st.val = some (p, sec) →
      d.mayAttempt st.val = true →
      x.synthLost = false →
      d.livePort 0x06 (st.val / 2) = true →
      Effect (.sectorAttemptStart st x) d ((e.setFe st.val (fun f => { f with lossRun := 0 })).acquire st.val x)) ∧
  (∀ (d : Dev) (st : Fin 8) (x : AttemptCodes) (p : Piece) (sec : Sec) (d0 d1 d2 d3 e : Dev),
      d0 = d.mapPiece p.id (fun q => { q with secs := q.secs.drop 1 }) →
      d1 = d0.setFe st.val (fun f => { f with
        bits := 0, total := 192 + codeBits (d0.zone (d0.zoneOf p.track)).code, dataRead := true, step := if p.rung = 1 then p.step else 0, hold := 0,
        acquiring := false, eraseRun := 0, clampRun := 0 }) →
      d2 = d1.sectorSeeds st.val p.head p.track →
      d3 = d2.setFe st.val (fun f => { f with snap := some (d2.adaptive st.val) }) →
      e = (((d3.setBit F.RCH_STAT_READING st.val true).incI F.RCH_S_SECTORS_COUNT st.val).putI F.RCH_S_STAT_PHASE st.val phTrack).takeSlot st.val ⟨sec, p.head, p.track, p.why, p.rung, p.step⟩ →
      d.sectorToRead st.val = some (p, sec) →
      d.mayAttempt st.val = true →
      x.synthLost = true →
      (e.fes st.val).lossRun = 0 →
      d.livePort 0x06 (st.val / 2) = true →
      Effect (.sectorAttemptStart st x) d (((e.setFe st.val (fun f => { f with lossRun := 1 })).post 0x2009 [st.val, e.getI F.RCH_S_SYNTH_RATIO st.val]).abandonAttempt st.val 8)) ∧
  (∀ (d : Dev) (st : Fin 8) (x : AttemptCodes),
      (d.sectorToRead st.val = none ∨ d.mayAttempt st.val = false) →
      d.livePort 0x06 (st.val / 2) = true →
      Effect (.sectorAttemptStart st x) d (d)) ∧
  (∀ (d : Dev) (st : Fin 8) (parity : Bool),
      d.livePort 0x06 (st.val / 2) = true →
      Effect (.sectorAttemptEnd st parity) d (d.attemptEnd st.val parity)) ∧
  (∀ (d : Dev) (st : Fin 8) (parity : Bool),
      (d.reading st.val = false ∨ (d.fes st.val).bits < (d.fes st.val).total) →
      d.livePort 0x06 (st.val / 2) = true →
      Effect (.sectorAttemptEnd st parity) d (d)) ∧
  (∀ (d : Dev) (st : Fin 8) (parity : Bool) (q : Nat) (d1 d2 : Dev),
      d1 = (d.setBit F.RCH_STAT_READING st.val false).putI F.RCH_S_STAT_PHASE st.val phIdle →
      d2 = d1.setSlots q ((d1.detSlice q).slots.map (fun (a : Attempt) => if a.stream == st.val && !a.ended then { a with ended := true } else a)) →
      d.reading st.val = true →
      (d.fes st.val).total ≤ (d.fes st.val).bits →
      d1.sliceOf st.val = some q →
      10 * (at' (d2.fes st.val).lanes 0 {}).full < 9 * (d2.fes st.val).bits →
      10 * (at' (d2.fes st.val).lanes 1 {}).full < 9 * (d2.fes st.val).bits →
      (at' (d2.fes st.val).lanes 0 {}).same = false →
      (at' (d2.fes st.val).lanes 1 {}).same = false →
      parity = false →
      d.livePort 0x06 (st.val / 2) = true →
      Effect (.sectorAttemptEnd st parity) d ((d2.setFe st.val (fun f => { f with satRun := [0, 0] })).pieceDone st.val)) ∧
  (∀ (d : Dev) (st : Fin 8) (parity : Bool) (q : Nat) (d1 d2 : Dev),
      d1 = (d.setBit F.RCH_STAT_READING st.val false).putI F.RCH_S_STAT_PHASE st.val phIdle →
      d2 = d1.setSlots q ((d1.detSlice q).slots.map (fun (a : Attempt) => if a.stream == st.val && !a.ended then { a with ended := true } else a)) →
      d.reading st.val = true →
      (d.fes st.val).total ≤ (d.fes st.val).bits →
      d1.sliceOf st.val = some q →
      10 * (at' (d2.fes st.val).lanes 0 {}).full < 9 * (d2.fes st.val).bits →
      10 * (at' (d2.fes st.val).lanes 1 {}).full < 9 * (d2.fes st.val).bits →
      (at' (d2.fes st.val).lanes 0 {}).same = true →
      d.livePort 0x06 (st.val / 2) = true →
      Effect (.sectorAttemptEnd st parity) d ((((d2.setFe st.val (fun f => { f with satRun := [0, 0] })).pieceDone st.val).post 0x2008 [st.val, 2, 0]).fenceStream st.val)) ∧
  (∀ (d : Dev) (st : Fin 8) (parity : Bool) (q : Nat) (d1 d2 : Dev),
      d1 = (d.setBit F.RCH_STAT_READING st.val false).putI F.RCH_S_STAT_PHASE st.val phIdle →
      d2 = d1.setSlots q ((d1.detSlice q).slots.map (fun (a : Attempt) => if a.stream == st.val && !a.ended then { a with ended := true } else a)) →
      d.reading st.val = true →
      (d.fes st.val).total ≤ (d.fes st.val).bits →
      d1.sliceOf st.val = some q →
      9 * (d2.fes st.val).bits ≤ 10 * (at' (d2.fes st.val).lanes 0 {}).full →
      10 * (at' (d2.fes st.val).lanes 1 {}).full < 9 * (d2.fes st.val).bits →
      at' (d2.fes st.val).satRun 0 0 = 2 →
      d.livePort 0x06 (st.val / 2) = true →
      Effect (.sectorAttemptEnd st parity) d ((((d2.setFe st.val (fun f => { f with satRun := [3, 0] })).pieceDone st.val).post 0x2008 [st.val, 1, 0]).fenceStream st.val)) ∧
  (∀ (d : Dev) (st : Fin 8) (cause : Fin 8),
      d.livePort 0x06 (st.val / 2) = true →
      Effect (.sectorAttemptAbandon st cause) d (d.abandonAttempt st.val (cause.val + 1))) ∧
  (∀ (d : Dev) (st cause : Fin 8),
      d.reading st.val = false →
      d.livePort 0x06 (st.val / 2) = true →
      Effect (.sectorAttemptAbandon st cause) d (d)) ∧
  (∀ (d : Dev) (st cause : Fin 8) (q : Nat) (a : Attempt) (d1 d2 d3 : Dev),
      d1 = (((((d.setBit F.RCH_STAT_READING st.val false).putI F.RCH_S_STAT_PHASE st.val phIdle).putI F.RCH_S_STAT_LAST_ABANDON st.val (cause.val + 1)).incI
        F.RCH_S_ABANDON_COUNT st.val).put F.RCH_INT_STAT_ABANDON 1).post 0x2002 [st.val, cause.val + 1, (d.fes st.val).bits] →
      d2 = (d1.restoreSnap st.val 1).pieceDone st.val →
      d3 = d2.setSlots q ((d2.detSlice q).slots.filter (fun (x : Attempt) => x.ended || x.stream != st.val)) →
      d.reading st.val = true →
      d2.sliceOf st.val = some q →
      (d2.detSlice q).slots.find? (fun (a : Attempt) => !a.ended && a.stream == st.val) = some a →
      d.livePort 0x06 (st.val / 2) = true →
      Effect (.sectorAttemptAbandon st cause) d (if cause.val = 4 then d3.fileOp a.op else if a.op.why.kind = PieceKind.verifyRead then d3.readFailed st.val a.op a.globals else (d3.keepSet a).readFailed st.val a.op a.globals))

/-- A stretch of bits acts bit by bit while the stream reads in TRACK before its last bit, and else not at all. A thermal-asperity flag sets at
the fourth bit in a row whose mean of 16 codes passes the threshold and is counted by its kind; a flag that clears is recorded with its
length and, when no other stands, holds the loops 32 bits more; while they stand the timing loop keeps F and advances φ by F alone. A block
adds to the gain of both lanes what R342 says. A servo window shows SERVO and starts the detectors afresh, and at its close the phase before
it comes back. RESEED makes a seeding due, FENCE fences the stream with event 0x2008 cause 4, an RWO write outside IDLE only sets WR_IGN
with event 0x200A, and with the stream's domain off each is dropped. Where the spec leaves a point open, the model’s own reading is meant:
log entries 19, 33, 82 and 145. -/
def Obligations.FlagsWindowsAndStreamWrites : Prop :=
  (∀ (d : Dev) (st : Fin 8) (x : BitCodes),
      d.livePort 0x06 (st.val / 2) = true →
      Effect (.taFlagChange st x) d (d.dataBits st.val x)) ∧
  (∀ (d : Dev) (st : Fin 8) (x : BitCodes),
      d.reading st.val = false →
      d.livePort 0x06 (st.val / 2) = true →
      Effect (.taFlagChange st x) d (d)) ∧
  (∀ (d : Dev) (st : Fin 8) (x : BitCodes),
      d.livePort 0x06 (st.val / 2) = true →
      Effect (.defectFlagChange st x) d (d.dataBits st.val x)) ∧
  (∀ (d : Dev) (st : Fin 8) (x : BitCodes),
      d.getI F.RCH_S_STAT_PHASE st.val ≠ phTrack →
      d.livePort 0x06 (st.val / 2) = true →
      Effect (.defectFlagChange st x) d (d)) ∧
  (∀ (d : Dev) (st : Fin 8) (x : BitCodes),
      d.livePort 0x06 (st.val / 2) = true →
      Effect (.adaptBlock st x) d (d.dataBits st.val x)) ∧
  (∀ (d : Dev) (st : Fin 8) (x : BitCodes) (a b : Int) (plus : Bool),
      x = ⟨[a], [b], [plus]⟩ →
      d.livePort 0x06 (st.val / 2) = true →
      Effect (.adaptBlock st x) d (d.dataBit st.val a b plus)) ∧
  (∀ (d : Dev) (s : Fin 8), d.getI F.RCH_S_STAT_PHASE s.val ≠ phServo →
      d.flagSet s.val 0 true = ((d.putI F.RCH_S_STAT_TA_A s.val 1).incI F.RCH_S_FLAGGED_TA s.val).put F.RCH_INT_STAT_TA 1 ∧
      d.flagSet s.val 1 false = ((d.putI F.RCH_S_STAT_DEF_B s.val 1).incI F.RCH_S_FLAGGED_DEFECT s.val).put F.RCH_INT_STAT_DEFECT 1) ∧
  (∀ (d e : Dev) (s : Fin 8) (bits : Nat), e = (d.putI F.RCH_S_STAT_TA_B s.val 0).post 0x2003 [s.val, 1, bits] →
      d.flagClear s.val 1 true bits = if e.flagged s.val then e else e.setFe s.val (fun f => { f with hold := 32 })) ∧
  (∀ (d : Dev) (s : Fin 8) (l : Fin 2), d.onI (flagField true l.val) s.val = false → 16 ≤ (d.fes s.val).seen →
      16 * d.taThr s.val < (sumInt ((at' (d.fes s.val).lanes l.val {}).hist.take 16)).natAbs → (at' (d.fes s.val).lanes l.val {}).ta.past = 3 →
      l.val < (d.fes s.val).lanes.length → s.val < d.fe.length → (d.laneFlags s.val l.val).onI (flagField true l.val) s.val = true) ∧
  (∀ (d : Dev) (s : Nat) (acq : Bool) (y dd : Int), s < d.fe.length → ((d.timingBit s acq true y dd).fes s).f = (d.fes s).f ∧
      ((d.timingBit s acq true y dd).fes s).phi = ((d.fes s).phi + (d.fes s).f).tmod (2 ^ 24)) ∧
  (∀ (d : Dev) (s : Fin 8) (blk : List (Int × Int)) (g : Int), g = (sumInt (blk.map (fun x => x.1 * x.2))).tdiv (2 ^ d.getI F.RCH_S_MU_MU_G s.val : Nat) →
      0 ≤ (d.getI F.RCH_S_LANE_AFE_GAIN (2 * s.val) : Int) - g → (d.getI F.RCH_S_LANE_AFE_GAIN (2 * s.val) : Int) - g ≤ 255 →
      ((d.gainBlock s.val blk 0).getI F.RCH_S_LANE_AFE_GAIN (2 * s.val) : Int) = d.getI F.RCH_S_LANE_AFE_GAIN (2 * s.val) - g) ∧
  (∀ (d : Dev) (st : Fin 8),
      d.livePort 0x06 (st.val / 2) = true →
      Effect (.servoWindowOpen st) d (d.servoOpen st.val)) ∧
  (∀ (d : Dev) (st : Fin 8),
      d.powered (3 + st.val / 2) = true →
      d.getI F.RCH_S_STAT_PHASE st.val ≠ phServo →
      d.getI F.RCH_S_STAT_PHASE st.val ≠ phFenced →
      d.gateOn st.val = false →
      d.flagged st.val = false →
      d.livePort 0x06 (st.val / 2) = true →
      Effect (.servoWindowOpen st) d ((((d.each [0, 1] (fun x l => x.setLane st.val l (fun y => { y with ta := {}, df := {} }))).setFe st.val (fun f =>
          { f with prior := d.getI F.RCH_S_STAT_PHASE st.val, hold := 0, eraseRun := 0, seen := 0 })).putI F.RCH_S_STAT_PHASE st.val phServo).putI
          F.RCH_S_STAT_FROZEN st.val 0)) ∧
  (∀ (d : Dev) (st : Fin 8),
      d.livePort 0x06 (st.val / 2) = true →
      Effect (.servoWindowClose st) d (d.servoClose st.val)) ∧
  (∀ (d : Dev) (st : Fin 8),
      d.getI F.RCH_S_STAT_PHASE st.val = phServo →
      d.reading st.val = true →
      d.livePort 0x06 (st.val / 2) = true →
      Effect (.servoWindowClose st) d (d.putI F.RCH_S_STAT_PHASE st.val (d.fes st.val).prior)) ∧
  (∀ (d : Dev) (st : Fin 8),
      d.getI F.RCH_S_STAT_PHASE st.val = phServo →
      d.reading st.val = false →
      d.livePort 0x06 (st.val / 2) = true →
      Effect (.servoWindowClose st) d (d.putI F.RCH_S_STAT_PHASE st.val phIdle)) ∧
  (∀ (d : Dev) (st : Fin 8),
      d.clk.stopped = false →
      Effect (.rchReseedWrite st) d (d.rchReseed st.val)) ∧
  (∀ (d : Dev) (st : Fin 8),
      d.powered (3 + st.val / 2) = true →
      d.clk.stopped = false →
      Effect (.rchReseedWrite st) d (d.setFe st.val (fun f => { f with seedDue := true }))) ∧
  (∀ (d : Dev) (st : Fin 8),
      d.clk.stopped = false →
      Effect (.rchFenceWrite st) d (d.rchFence st.val)) ∧
  (∀ (d : Dev) (st : Fin 8),
      d.powered (3 + st.val / 2) = true →
      d.streamFenced st.val = false →
      d.clk.stopped = false →
      Effect (.rchFenceWrite st) d (((d.putI F.RCH_S_CTRL_FENCE st.val 1).post 0x2008 [st.val, 4, 0]).fenceStream st.val)) ∧
  (∀ (d : Dev) (st : Fin 8),
      d.powered (3 + st.val / 2) = false →
      d.clk.stopped = false →
      Effect (.rchFenceWrite st) d (d.inc F.CLK_PD_DROPWR_COUNT)) ∧
  (∀ (d : Dev) (st : Fin 8) (off : Fin 256) (v : BitVec 32),
      d.clk.stopped = false →
      Effect (.rchRwoWrite st off v) d (d.rchWrite st.val off.val v.toNat)) ∧
  (∀ (d : Dev) (st : Fin 8) (off : Fin 256) (v : BitVec 32),
      st = 3 →
      off = 0x18 →
      d.powered 4 = true →
      d.getI F.RCH_S_STAT_PHASE 3 ≠ phIdle →
      d.clk.stopped = false →
      Effect (.rchRwoWrite st off v) d (((d.putI F.RCH_S_STAT_WR_IGN 3 1).put F.RCH_INT_STAT_WR_IGN 1).post 0x200A [3, 0x18]))

/-- With the slices' domain on: framing with no attempt unframed, on a failed slice, or before its sample words are there, does nothing; an
attempt whose marks are found in neither window takes codeword start 160 with result 5 and event 0x2103. A global iteration of the attempt
in front is computed from its sample words, the target and the a-priori values; its counts are shown; where checks are left unsatisfied
below the cap it goes on, else it is released, failed or put off-line; a memory parity failure is a slice fault of cause 0, an overrun one
of cause 1. A codeword is released only with every check satisfied, CRCF right and its TAG the sector’s. An off-line job starts on a free
slice, and its end releases it or climbs the rungs; a verify read ends only by VERIFY_READ. A slice due for its test shows KAT, a right
answer counts and a wrong one is a slice fault; FENCE is one of cause 3 and is dropped with the domain off. Where the spec leaves a point
open, the model’s own reading is meant: log entries 19, 81, 142, 144 and 146. -/
def Obligations.SlicesFrameDecodeAndTest : Prop :=
  (∀ (d : Dev) (q : Fin 9),
      d.live 0x07 = true →
      Effect (.syncFraming q) d (d.frame q.val)) ∧
  (∀ (d : Dev) (q : Fin 9),
      d.sliceState q.val ≠ slFailed →
      (d.detSlice q.val).slots.find? (fun (a : Attempt) => a.start.isNone) = none →
      d.live 0x07 = true →
      Effect (.syncFraming q) d (d)) ∧
  (∀ (d : Dev) (q : Fin 9) (a : Attempt),
      (d.detSlice q.val).slots.find? (fun (a : Attempt) => a.start.isNone) = some a →
      a.words.length < 224 →
      d.live 0x07 = true →
      Effect (.syncFraming q) d (d)) ∧
  (∀ (d : Dev) (q : Fin 9) (a : Attempt) (ys : List Int) (bits : List Bool) (m : Marks) (e1 e : Dev),
      e1 = (((((d.putI F.DET_Q_FRAME_RESULT q.val 5).putI F.DET_Q_NSCALE_NSCALE q.val (noiseScale (d.target5 a.stream) (intAt ys))).putI F.DET_Q_FRAME_SM1_OFF q.val 0x80).putI
        F.DET_Q_FRAME_SM2_OFF q.val 0x80).putI F.DET_Q_FRAME_SM1_DIST q.val (min 15 m.d1)).putI F.DET_Q_FRAME_SM2_DIST q.val (min 15 m.d2) →
      e = (e1.incI F.DET_Q_SYNC_WIDE q.val).post 0x2103 [a.stream, a.op.head, a.op.track] →
      d.powered 7 = true →
      d.sliceState q.val ≠ slFailed →
      (d.detSlice q.val).slots.find? (fun (a : Attempt) => a.start.isNone) = some a →
      a.op.rung ≠ 1 →
      224 ≤ a.words.length →
      ys = (a.words.reverse.take 224).map (fun w => sampleY (storedSample w)) →
      bits = hardDecisions (branchOuts (d.target5 a.stream)) (List.replicate 16 ⟨0, []⟩) ys →
      (findMarks bits (d.policy 0x2107 8) (d.policy 0x2106 2)).start = none →
      findMarks bits (d.policy 0x2108 32) (d.policy 0x2106 2) = m →
      m.o1 = none →
      m.o2 = none →
      d.live 0x07 = true →
      Effect (.syncFraming q) d (e.setSlots q.val ((d.detSlice q.val).slots.map (fun (y : Attempt) => if y == a then { y with start := some 160, nscale := noiseScale (d.target5 a.stream) (intAt ys) } else y)))) ∧
  (∀ (d : Dev) (q : Fin 9) (fault : DecodeFault),
      d.live 0x07 = true →
      Effect (.globalIterationEnd q fault) d (d.passEnd q.val false fault)) ∧
  (∀ (d : Dev) (q : Fin 9) (fault : DecodeFault) (a b : Attempt) (l : List Attempt) (p : GlobalPass) (n : Nat) (e : Dev),
      e = (d.setSlots q.val (b :: l)).decodeShown q.val a.stream a.op (p.ends a.op b.locals) b.globals b.locals (judge a.op (p.ends a.op b.locals) b.globals (d.attemptCap a)) →
      (d.detSlice q.val).slots = a :: l →
      d.powered 7 = true →
      d.sliceState q.val ≠ slFailed →
      a.ended = true →
      a.start = some n →
      p = d.globalIter a.stream a.op (a.words.reverse.map storedSample).toArray a.nscale n a.apriori →
      b = { a with globals := a.globals + 1, locals := a.locals + p.locals, apriori := p.apriori } →
      a.op.why.kind ≠ .verifyRead →
      fault = .none →
      d.live 0x07 = true →
      Effect (.globalIterationEnd q fault) d (if judge a.op (p.ends a.op b.locals) b.globals (d.attemptCap a) = .goesOn then e else e.attemptJudged q.val b (p.ends a.op b.locals) (judge a.op (p.ends a.op b.locals) b.globals (d.attemptCap a)))) ∧
  (∀ (d : Dev) (q : Fin 9) (fault : DecodeFault) (a b : Attempt) (l : List Attempt) (p : GlobalPass) (n : Nat) (e : Dev),
      e = (d.setSlots q.val (b :: l)).decodeShown q.val a.stream a.op (p.ends a.op b.locals) b.globals b.locals (judge a.op (p.ends a.op b.locals) b.globals (d.attemptCap a)) →
      (d.detSlice q.val).slots = a :: l →
      d.powered 7 = true →
      d.sliceState q.val ≠ slFailed →
      a.ended = true →
      a.start = some n →
      p = d.globalIter a.stream a.op (a.words.reverse.map storedSample).toArray a.nscale n a.apriori →
      b = { a with globals := a.globals + 1, locals := a.locals + p.locals, apriori := p.apriori } →
      a.op.why.kind ≠ .verifyRead →
      fault = .parity →
      d.live 0x07 = true →
      Effect (.globalIterationEnd q fault) d (e.sliceFault q.val 0)) ∧
  (∀ (d : Dev) (st : Fin 8) (fault : DecodeFault),
      d.live 0x07 = true →
      Effect (.verifyRead st fault) d (match d.sliceOf st.val with | some q => d.passEnd q true fault | none => d)) ∧
  (∀ (d : Dev) (st : Fin 8) (fault : DecodeFault) (q : Nat) (a b : Attempt) (l : List Attempt) (p : GlobalPass) (n : Nat) (e : Dev),
      e = (d.setSlots q (b :: l)).decodeShown q a.stream a.op (p.ends a.op b.locals) b.globals b.locals (judge a.op (p.ends a.op b.locals) b.globals (d.attemptCap a)) →
      d.sliceOf st.val = some q →
      (d.detSlice q).slots = a :: l →
      d.powered 7 = true →
      d.sliceState q ≠ slFailed →
      a.ended = true →
      a.start = some n →
      p = d.globalIter a.stream a.op (a.words.reverse.map storedSample).toArray a.nscale n a.apriori →
      b = { a with globals := a.globals + 1, locals := a.locals + p.locals, apriori := p.apriori } →
      a.op.why.kind = .verifyRead →
      fault = .none →
      d.live 0x07 = true →
      Effect (.verifyRead st fault) d (if judge a.op (p.ends a.op b.locals) b.globals (d.attemptCap a) = .goesOn then e else e.attemptJudged q b (p.ends a.op b.locals) (judge a.op (p.ends a.op b.locals) b.globals (d.attemptCap a)))) ∧
  (∀ (d : Dev) (st : Fin 8) (fault : DecodeFault) (q : Nat) (a : Attempt) (l : List Attempt),
      d.sliceOf st.val = some q →
      (d.detSlice q).slots = a :: l →
      a.op.why.kind ≠ .verifyRead →
      d.live 0x07 = true →
      Effect (.verifyRead st fault) d (d)) ∧
  (∀ (op : ReadOp) (x : DecodePass) (g cap : Nat), judge op x g cap = .released →
      x.satisfied = true ∧ crc64 (x.bytes.take 4096) / 2 ^ 32 = crcfOf x.bytes ∧ (op.sec.lba = anyTag ∨ tagOf x.bytes = op.sec.lba)) ∧
  (∀ (op : ReadOp) (x : DecodePass) (g cap : Nat), x.satisfied = false → judge op x g cap = if g < cap then .goesOn else .failed) ∧
  (∀ (d e : Dev) (q : Nat) (a : Attempt) (x : DecodePass), a.op.why.kind ≠ .verifyRead → e = d.setSlots q ((d.detSlice q).slots.filter (fun y => y != a)) →
      d.attemptJudged q a x .released = (e.rungRelease a.stream a.op 0 0 (x.bytes.take 4096)).released a.op (x.bytes.take 4096)) ∧
  (∀ (d : Dev),
      d.live 0x07 = true →
      Effect (.offlineDecodeStart) d (d.offlineStart)) ∧
  (∀ (d : Dev) (j : Job) (q : Nat),
      d.powered 7 = true →
      d.det.jobs.find? (fun (j : Job) => j.slice.isNone) = some j →
      d.offlineSlice = some q →
      d.live 0x07 = true →
      Effect (.offlineDecodeStart) d ((d.setJobs (d.det.jobs.map (fun (y : Job) => if y.id == j.id then { y with slice := some q } else y))).showSlice q)) ∧
  (∀ (d : Dev) (q : Fin 9) (fault : DecodeFault),
      d.live 0x07 = true →
      Effect (.offlineDecodeEnd q fault) d (d.offlineEnd q.val fault)) ∧
  (∀ (d : Dev) (q : Fin 9) (fault : DecodeFault) (j : Job) (r : DecodePass × Nat) (v : Judged) (e : Dev),
      e = (d.decodeShown q.val j.stream j.op r.1 r.2 r.1.locals v).jobEnds j q.val →
      d.det.jobs.find? (fun (j : Job) => j.slice == some q.val) = some j →
      d.powered 7 = true →
      d.sliceState q.val = slOffline →
      j.rung2 = false →
      fault = .none →
      d.jobDecode j = r →
      judge j.op r.1 r.2 0 = v →
      d.live 0x07 = true →
      Effect (.offlineDecodeEnd q fault) d (if v = .released then (e.rungRelease j.stream j.op 0 0 (r.1.bytes.take 4096)).released j.op (r.1.bytes.take 4096) else (e.firstFailure j.stream j.op).readFailed j.stream j.op r.2)) ∧
  (∀ (d : Dev) (q : Fin 9) (fault : DecodeFault),
      d.det.jobs.find? (fun (j : Job) => j.slice == some q.val) = none →
      d.live 0x07 = true →
      Effect (.offlineDecodeEnd q fault) d (d)) ∧
  (∀ (d : Dev) (j : Job), j.rung2 = false → d.det.sets = [] → d.jobDecode j = (⟨false, 0, 0, []⟩, 0)) ∧
  (∀ (d : Dev) (q : Fin 9),
      d.live 0x07 = true →
      Effect (.katDue q) d (d.katDue q.val)) ∧
  (∀ (d : Dev) (q : Fin 9),
      d.powered 7 = true →
      d.sliceState q.val ≠ slFailed →
      d.live 0x07 = true →
      Effect (.katDue q) d (({ d with det := { d.det with slices := d.det.slices.modify q.val (fun (x : Slice) => { x with katDue := true }) } } : Dev).showSlice q.val)) ∧
  (∀ (d : Dev) (q : Fin 9),
      d.clk.stopped = false →
      Effect (.detKatWrite q) d (d.detKat q.val)) ∧
  (∀ (d : Dev) (q : Fin 9),
      d.powered 7 = true →
      d.sliceState q.val ≠ slFailed →
      d.clk.stopped = false →
      Effect (.detKatWrite q) d (({ d with det := { d.det with slices := d.det.slices.modify q.val (fun (x : Slice) => { x with katDue := true }) } } : Dev).showSlice q.val)) ∧
  (∀ (d : Dev) (q : Fin 9) (right : Bool),
      d.live 0x07 = true →
      Effect (.katDone q right) d (d.katDone q.val right)) ∧
  (∀ (d : Dev) (q : Fin 9) (right : Bool) (e : Dev),
      e = ((({ d with det := { d.det with slices := d.det.slices.modify q.val (fun (x : Slice) => { x with katDue := false }) } } : Dev).putI F.DET_Q_KAT_AGE q.val 0).showSlice q.val) →
      d.powered 7 = true →
      d.sliceState q.val = slKat →
      d.live 0x07 = true →
      Effect (.katDone q right) d (if right then e.incI F.DET_Q_KAT_PASSES q.val else e.sliceFault q.val 2)) ∧
  (∀ (d : Dev) (q : Fin 9),
      d.clk.stopped = false →
      Effect (.detFenceWrite q) d (d.detFence q.val)) ∧
  (∀ (d : Dev) (q : Fin 9),
      d.powered 7 = true →
      d.clk.stopped = false →
      Effect (.detFenceWrite q) d ((d.putI F.DET_Q_CTRL_FENCE q.val 1).sliceFault q.val 3)) ∧
  (∀ (d : Dev) (q : Fin 9),
      d.powered 7 = false →
      d.clk.stopped = false →
      Effect (.detFenceWrite q) d (d.inc F.CLK_PD_DROPWR_COUNT))

/-- A segment of the next sector of a channel with nothing being written: under an inhibit it is reported NOT_STARTED; with its data late it is
skipped with report 3 and event 0x2207; without write permission it is reported NOT_STARTED; otherwise the gate opens and the channel is
WRITING; a sector in progress goes on into its next segment after a servo window. The end of the last segment of the sector being written:
where the codeword sent, with the encoder’s wrong bits, fails a check it is torn with cause 1, counted and recorded as 0x2209; with write
verify it is filed for its verify read; else it is reported WRITTEN. A tile that is not SEALED is refused at its use with 0x3013; a sealed
one that fails its check goes to TEST with 0x3010; one that passes changes nothing. Where the spec leaves a point open, the model’s own
reading is meant: log entries 19, 83, 143 and 147. -/
def Obligations.ChannelsWriteSectors : Prop :=
  (∀ (d : Dev) (st : Fin 8),
      d.livePort 0x08 (st.val / 2) = true →
      Effect (.segmentStart st) d (d.segmentStart st.val)) ∧
  (∀ (d : Dev) (st : Fin 8) (x : WSector) (l : List WSector),
      d.powered (3 + st.val / 2) = true →
      (d.wchan st.val).cur = none →
      (d.wchan st.val).queue = x :: l →
      d.inhibited = true →
      d.livePort 0x08 (st.val / 2) = true →
      Effect (.segmentStart st) d (d.skipSector st.val x 2)) ∧
  (∀ (d : Dev) (st : Fin 8) (x : WSector) (l : List WSector),
      d.powered (3 + st.val / 2) = true →
      (d.wchan st.val).cur = none →
      (d.wchan st.val).queue = x :: l →
      d.inhibited = false →
      x.loaded = false →
      d.livePort 0x08 (st.val / 2) = true →
      Effect (.segmentStart st) d ((d.skipSector st.val x 3).post 0x2207 [st.val, x.lba % 2 ^ 32])) ∧
  (∀ (d : Dev) (st : Fin 8) (x : WSector) (l : List WSector),
      d.powered (3 + st.val / 2) = true →
      (d.wchan st.val).cur = none →
      (d.wchan st.val).queue = x :: l →
      d.inhibited = false →
      x.loaded = true →
      d.gateOn st.val = false →
      (d.shpCh (st.val / 2) (st.val % 2)).permit = false →
      d.livePort 0x08 (st.val / 2) = true →
      Effect (.segmentStart st) d (d.skipSector st.val x 2)) ∧
  (∀ (d : Dev) (st : Fin 8) (x : WSector) (l : List WSector),
      d.powered (3 + st.val / 2) = true →
      (d.wchan st.val).cur = none →
      (d.wchan st.val).queue = x :: l →
      d.inhibited = false →
      x.loaded = true →
      (d.shpCh (st.val / 2) (st.val % 2)).permit = true →
      (d.writeOk (st.val / 2) (st.val % 2) = true ∨ d.gateOn st.val = true) →
      d.livePort 0x08 (st.val / 2) = true →
      Effect (.segmentStart st) d ((d.setWchan st.val { d.wchan st.val with queue := l, cur := some x, segment := 0, windowed := false }).putI F.WCH_W_STAT_STATE st.val wWriting)) ∧
  (∀ (d : Dev) (st : Fin 8) (flips : List Nat) (mon : List Int),
      d.livePort 0x08 (st.val / 2) = true →
      Effect (.writeSectorEnd st flips mon) d (d.sectorEnd st.val flips mon)) ∧
  (∀ (d : Dev) (st : Fin 8) (flips : List Nat) (mon : List Int) (x : WSector) (e : Dev),
      e = ((d.setWchan st.val { d.wchan st.val with
        cur := none, monSum := (d.wchan st.val).monSum + mon.foldl (fun (a : Int) v => a + v) 0, monN := (d.wchan st.val).monN + mon.length }).showBuffers st.val).putI
        F.WCH_W_STAT_STATE st.val wIdle →
      (d.wchan st.val).cur = some x →
      d.gateOn st.val = true →
      (d.wchan st.val).queue = [] →
      (d.wchan st.val).windowed = false →
      (d.segmentBreaks x).length ≤ (d.wchan st.val).segment →
      d.sentHolds x flips = false →
      d.livePort 0x08 (st.val / 2) = true →
      Effect (.writeSectorEnd st flips mon) d ((e.encodeFails st.val x).passDone st.val)) ∧
  (∀ (d : Dev) (st : Fin 8) (flips : List Nat) (mon : List Int) (x : WSector) (e : Dev),
      e = ((d.setWchan st.val { d.wchan st.val with
        cur := none, monSum := (d.wchan st.val).monSum + mon.foldl (fun (a : Int) v => a + v) 0, monN := (d.wchan st.val).monN + mon.length }).showBuffers st.val).putI
        F.WCH_W_STAT_STATE st.val wIdle →
      (d.wchan st.val).cur = some x →
      d.gateOn st.val = true →
      (d.wchan st.val).queue = [] →
      (d.wchan st.val).windowed = false →
      (d.segmentBreaks x).length ≤ (d.wchan st.val).segment →
      d.sentHolds x flips = true →
      d.livePort 0x08 (st.val / 2) = true →
      Effect (.writeSectorEnd st flips mon) d ((if e.verifyApplies x then e.fileVerify st.val x else e.sectorReport st.val x 0).passDone st.val)) ∧
  (∀ (d : Dev) (st : Fin 8) (x : WSector),
      d.powered (3 + st.val / 2) = true →
      (d.wchan st.val).cur = some x →
      (d.wchan st.val).windowed = true →
      d.gateOn st.val = true →
      d.livePort 0x08 (st.val / 2) = true →
      Effect (.segmentStart st) d (d.setWchan st.val { d.wchan st.val with segment := (d.wchan st.val).segment + 1, windowed := false })) ∧
  (∀ (d : Dev) (st : Fin 8) (flips : List Nat) (mon : List Int),
      (d.wchan st.val).cur = none →
      d.livePort 0x08 (st.val / 2) = true →
      Effect (.writeSectorEnd st flips mon) d (d)) ∧
  (∀ (d : Dev) (u : TileUser) (intact : Bool),
      d.live 0x09 = true →
      Effect (.tileUse u intact) d (d.tileUseAct u intact)) ∧
  (∀ (d : Dev) (u : TileUser) (intact : Bool) (t : Nat),
      d.powered 8 = true →
      u = .porter t →
      (d.tile t).state ≠ .sealed →
      d.live 0x09 = true →
      Effect (.tileUse u intact) d (((d.inc F.GRN_REFUSED_USES).put F.GRN_INT_STAT_REFUSED 1).post 0x3013 [t, 1, (d.tile t).state.code])) ∧
  (∀ (d : Dev) (u : TileUser) (intact : Bool) (t : Nat),
      d.powered 8 = true →
      u = .parity t →
      (d.tile t).state = .sealed →
      intact = false →
      d.live 0x09 = true →
      Effect (.tileUse u intact) d (((((((((d.setTile { d.tile t with state := .test, next := 0 }).countTiles).inc F.GRN_MISMATCH_COUNT).put F.GRN_INT_STAT_MISMATCH 1).put
          F.GRN_LAST_CONSUMER 2).put F.GRN_LAST_PRODUCER (d.tile t).producer).put F.GRN_LAST_TILE t).post 0x3010 [t, 2, (d.tile t).producer, (d.tile t).gen])))

/-- A trip marks the comparator, cancels the hold and asserts its source of the kill net; a release clears the mark and, with a shock or test
source in force, no other comparator tripped and no test, starts SHK_HOLD. The end of the hold waits for the heads that are to write, clears
the shock and test sources and lifts the inhibit when nothing else holds it. FORCE sets its bit and asserts source 9, RELEASE clears both;
SHK_TEST asserts source 10 for a microsecond and records 0x2208 at its end. WCH_SHK takes HOLD and each threshold that is not zero. Where
the spec leaves a point open, the model’s own reading is meant: log entries 19 and 33. -/
def Obligations.ShockSourcesAndInhibit : Prop :=
  (∀ (d : Dev) (n : Fin 2),
      d.clk.stopped = false →
      Effect (.shockTrip n) d (({ d with wch := { d.wch with tripped := withBit d.wch.tripped n.val true, holding := false } } : Dev).killAssert n.val)) ∧
  (∀ (d : Dev) (n : Fin 2),
      d.clk.stopped = false →
      Effect (.shockRelease n) d (d.shockRelease n.val)) ∧
  (∀ (d : Dev) (n : Fin 2),
      withBit d.wch.tripped n.val false = 0 →
      d.wch.testing = false →
      d.bit F.WCH_INHIBIT_SOURCES n.val = true →
      d.clk.stopped = false →
      Effect (.shockRelease n) d ({ d with wch := { d.wch with tripped := 0, holding := true } })) ∧
  (∀ (d : Dev) (n : Fin 2),
      withBit d.wch.tripped n.val false ≠ 0 →
      d.clk.stopped = false →
      Effect (.shockRelease n) d ({ d with wch := { d.wch with tripped := withBit d.wch.tripped n.val false } })) ∧
  (∀ (d : Dev),
      d.clk.stopped = false →
      Effect (.shkHoldExpire) d (d.holdExpire)) ∧
  (∀ (d : Dev),
      d.wch.holding = false →
      d.clk.stopped = false →
      Effect (.shkHoldExpire) d (d)) ∧
  (∀ (d : Dev) (w : List Nat),
      d.wch.holding = true →
      w = (List.range 8).filter (fun s => match d.heldPiece s with | some p => p.why.kind == .writePass | none => false) →
      d.clk.stopped = false →
      Effect (.shkHoldExpire) d (let e : Dev := { d with wch := { d.wch with holding := false, await := w } }
        let e := e.each w (fun x s => x.setCh (s / 2) (s % 2) (fun c => { c with shockRun := 0 }))
        (e.each [killShkLin, killShkRot, killTest] (fun x k => x.setBit F.WCH_INHIBIT_SOURCES k false)).inhibitCheck)) ∧
  (∀ (d : Dev),
      d.clk.stopped = false →
      Effect (.wchForceWrite) d ((d.put F.WCH_CTRL_FORCE 1).killAssert 9)) ∧
  (∀ (d : Dev),
      d.clk.stopped = false →
      Effect (.wchReleaseWrite) d ((d.put F.WCH_CTRL_FORCE 0).killRelease 9)) ∧
  (∀ (d : Dev),
      d.clk.stopped = false →
      Effect (.wchShkTestWrite) d (({ d with wch := { d.wch with testing := true, holding := false } } : Dev).killAssert 10)) ∧
  (∀ (d : Dev),
      d.clk.stopped = false →
      Effect (.shkTestEnd) d (d.shkTestEnd)) ∧
  (∀ (d : Dev),
      d.wch.testing = true →
      d.clk.stopped = false →
      Effect (.shkTestEnd) d ((({ d with wch := { d.wch with testing := false } } : Dev).post 0x2208 [d.wch.tripped]).startHold)) ∧
  (∀ (d : Dev),
      d.wch.testing = false →
      d.clk.stopped = false →
      Effect (.shkTestEnd) d (d)) ∧
  (∀ (d : Dev) (v : BitVec 32),
      d.clk.stopped = false →
      Effect (.wchShkWrite v) d (d.shkWrite v.toNat)) ∧
  (∀ (d : Dev) (v : BitVec 32),
      slice v.toNat 8 8 ≠ 0 →
      slice v.toNat 0 8 ≠ 0 →
      d.clk.stopped = false →
      Effect (.wchShkWrite v) d (((d.put F.WCH_SHK_HOLD (slice v.toNat 16 16)).put F.WCH_SHK_ROT_THR (slice v.toNat 8 8)).put F.WCH_SHK_LIN_THR (slice v.toNat 0 8))) ∧
  (∀ (d : Dev) (v : BitVec 32),
      slice v.toNat 8 8 = 0 →
      slice v.toNat 0 8 ≠ 0 →
      d.clk.stopped = false →
      Effect (.wchShkWrite v) d ((d.put F.WCH_SHK_HOLD (slice v.toNat 16 16)).put F.WCH_SHK_LIN_THR (slice v.toNat 0 8)))

/-- With the block running: DRAM_REQUEST queues the requests inside the capacity and issues the one named where no earlier one of its row holds
it and none of a lower class waits: it leaves the queue and touches its bank, a write stores its bytes and a read meets what the devices
answer. An old request moves up one class. A short or long pause of a fitted rank closes its rows and is counted; a failed one is a rank
fault of cause 1; a long one takes the refresh multiplier read. A patrol read of a good line, or of the spare's, changes nothing; a
corrected one is counted against its rank. A migration without its last line advances. A refresh or an idle row closes rows. The hourly
counts restart, and the region orders within the capacity are written, region 0 apart. Where the spec leaves a point open, the model’s own
reading is meant: log entries 19, 84, 117 and 148. -/
def Obligations.GranaryServesRequests : Prop :=
  (∀ (d : Dev) (asks : List DramAsk) (i : Nat) (o : DramRead),
      d.live 0x0A = true →
      Effect (.dramRequest asks i o) d (d.dramRequest asks i o)) ∧
  (∀ (d : Dev) (asks : List DramAsk) (i : Nat) (o : DramRead) (r : DramReq) (e : Dev),
      e = d.setQueue (d.ddr.queue ++ (asks.filter (fun (a : DramAsk) => a.addr < d.capacity && a.addr + a.bytes.length ≤ d.capacity)).map (fun (a : DramAsk) => (⟨a.cls.val, a.write, a.addr, a.bytes⟩ : DramReq))) →
      d.ddrRunning = true →
      e.ddr.queue[i]? = some r →
      e.mayIssue i = true →
      r.write = true →
      d.live 0x0A = true →
      Effect (.dramRequest asks i o) d (((e.setQueue (e.ddr.queue.eraseIdx i)).touchBank (e.dramPlace r.addr)).dramWrite r.addr r.bytes)) ∧
  (∀ (d : Dev) (asks : List DramAsk) (i : Nat) (o : DramRead) (r : DramReq) (e : Dev),
      e = d.setQueue (d.ddr.queue ++ (asks.filter (fun (a : DramAsk) => a.addr < d.capacity && a.addr + a.bytes.length ≤ d.capacity)).map (fun (a : DramAsk) => (⟨a.cls.val, a.write, a.addr, a.bytes⟩ : DramReq))) →
      d.ddrRunning = true →
      e.ddr.queue[i]? = some r →
      e.mayIssue i = true →
      r.write = false →
      d.live 0x0A = true →
      Effect (.dramRequest asks i o) d ((((e.setQueue (e.ddr.queue.eraseIdx i)).touchBank (e.dramPlace r.addr)).dramMeet r.addr o r.cls).1)) ∧
  (∀ (d : Dev) (asks : List DramAsk) (i : Nat) (o : DramRead) (e : Dev),
      e = d.setQueue (d.ddr.queue ++ (asks.filter (fun (a : DramAsk) => a.addr < d.capacity && a.addr + a.bytes.length ≤ d.capacity)).map (fun (a : DramAsk) => (⟨a.cls.val, a.write, a.addr, a.bytes⟩ : DramReq))) →
      d.ddrRunning = true →
      e.mayIssue i = false →
      d.live 0x0A = true →
      Effect (.dramRequest asks i o) d (e)) ∧
  (∀ (d : Dev) (i : Nat),
      d.live 0x0A = true →
      Effect (.agePromotion i) d (if d.ddrRunning then d.promote i else d)) ∧
  (∀ (d : Dev) (i : Nat) (r : DramReq) (l : List DramReq),
      d.ddrRunning = true →
      i = 0 →
      d.ddr.queue = r :: l →
      r.cls ≠ 0 →
      d.live 0x0A = true →
      Effect (.agePromotion i) d ((d.setQueue ({ r with cls := r.cls - 1 } :: l)).inc F.DDR_PROMOTED_COUNT)) ∧
  (∀ (d : Dev) (i : Nat),
      d.ddr.queue[i]? = none →
      d.live 0x0A = true →
      Effect (.agePromotion i) d (d)) ∧
  (∀ (d : Dev) (sc : Fin 2) (rank : Fin 3) (bg : Fin 8) (ba : Fin 4),
      d.live 0x0A = true →
      Effect (.rowIdlePrecharge sc rank bg ba) d ({ d with ddr := { d.ddr with banks := d.ddr.banks.map (fun (b : Bank) => if b.num == bankNum sc.val rank.val bg.val ba.val then { b with row := none } else b) } })) ∧
  (∀ (d : Dev) (sc : Fin 2) (rank : Fin 3) (ba : Option (Fin 4)),
      d.live 0x0A = true →
      Effect (.dramRefresh sc rank ba) d (d.closeRank sc.val rank.val (ba.map (fun b => b.val)))) ∧
  (∀ (d : Dev) (sc : Fin 2) (rank : Fin 3) (ba : Option (Fin 4)) (b : Fin 4),
      ba = some b →
      d.live 0x0A = true →
      Effect (.dramRefresh sc rank ba) d (d.closeRows (fun n => n / 32 == sc.val * 3 + rank.val && n / 8 % 4 == b.val))) ∧
  (∀ (d : Dev) (sc : Fin 2) (rank : Fin 3) (ba : Option (Fin 4)),
      ba = none →
      d.live 0x0A = true →
      Effect (.dramRefresh sc rank ba) d (d.closeRows (fun n => n / 32 == sc.val * 3 + rank.val))) ∧
  (∀ (d : Dev) (sc : Fin 2) (rank : Fin 3) (ok : Bool),
      d.live 0x0A = true →
      Effect (.shortPause sc rank ok) d (d.pause sc.val rank.val ok false)) ∧
  (∀ (d : Dev) (sc : Fin 2) (rank : Fin 3) (ok : Bool) (e : Dev),
      e = (d.closeRank sc.val rank.val none).inc F.DDR_RETRAIN_SHORT →
      d.ddrRunning = true →
      (d.rankRole sc.val rank.val = roleActive ∨ d.rankRole sc.val rank.val = roleSpare) →
      d.live 0x0A = true →
      Effect (.shortPause sc rank ok) d (if ok then e else e.rankFault sc.val rank.val 1)) ∧
  (∀ (d : Dev) (sc : Fin 2) (rank : Fin 3) (ok : Bool) (rate : Fin 3),
      d.live 0x0A = true →
      Effect (.longPause sc rank ok rate) d (d.longPauseAct sc rank ok rate)) ∧
  (∀ (d : Dev) (sc : Fin 2) (rank : Fin 3) (ok : Bool) (rate : Fin 3) (e : Dev),
      e = (d.closeRank sc.val rank.val none).inc F.DDR_RETRAIN_LONG →
      d.ddrRunning = true →
      (d.rankRole sc.val rank.val = roleActive ∨ d.rankRole sc.val rank.val = roleSpare) →
      slice (d.get F.DDR_REFRESH_RATE) (6 * sc.val + 2 * rank.val) 2 = rate.val →
      d.live 0x0A = true →
      Effect (.longPause sc rank ok rate) d (if ok then e else e.rankFault sc.val rank.val 1)) ∧
  (∀ (d : Dev) (sc : Fin 2) (rank : Fin 3) (ok : Bool),
      (d.rankRole sc.val rank.val = roleAbsent ∨ d.rankRole sc.val rank.val = roleRetired) →
      d.live 0x0A = true →
      Effect (.shortPause sc rank ok) d (d)) ∧
  (∀ (d : Dev) (x : Nat) (spare : Bool) (o : DramRead),
      d.live 0x0A = true →
      Effect (.dramPatrolRead x spare o) d (d.dramPatrol x spare o)) ∧
  (∀ (d : Dev) (x : Nat) (spare : Bool) (o : DramRead),
      d.ddrRunning = true →
      x < d.capacity →
      spare = false →
      d.live 0x0A = true →
      Effect (.dramPatrolRead x spare o) d ((d.dramMeet x o 3).1)) ∧
  (∀ (d : Dev) (x : Nat) (spare : Bool) (o : DramRead) (r s : Nat),
      d.ddrRunning = true →
      x < d.capacity →
      spare = true →
      (List.range 3).find? (fun r => d.rankRole (d.dramPlace x).sc r == roleSpare) = some r →
      o = .corrected s →
      d.live 0x0A = true →
      Effect (.dramPatrolRead x spare o) d (d.correctedRead (d.dramPlace x).sc r s (granBase + x / 64 * 64))) ∧
  (∀ (d : Dev),
      d.live 0x0A = true →
      Effect (.ceHourEnd) d ((((((d.put F.DDR_CE_A_RANK0 0).put F.DDR_CE_A_RANK1 0).put F.DDR_CE_A_RANK2 0).put F.DDR_CE_B_RANK0 0).put F.DDR_CE_B_RANK1 0).put F.DDR_CE_B_RANK2 0)) ∧
  (∀ (d : Dev) (sc : Fin 2) (o : DramRead),
      d.live 0x0A = true →
      Effect (.migrationLineCopy sc o) d (d.copyLine sc.val o)) ∧
  (∀ (d : Dev) (sc : Fin 2) (o : DramRead) (m : Migration) (e : Dev),
      e = (d.setMigs (d.ddr.migs.map (fun (x : Migration) => if x.sc == sc.val then { m with lines := m.lines + 1 } else x))).showMig { m with lines := m.lines + 1 } →
      d.migration sc.val = some m →
      d.ddrRunning = true →
      o = .good →
      m.lines + 1 < d.rankLines →
      d.live 0x0A = true →
      Effect (.migrationLineCopy sc o) d (e)) ∧
  (∀ (d : Dev) (sc : Fin 2) (o : DramRead),
      d.migration sc.val = none →
      d.live 0x0A = true →
      Effect (.migrationLineCopy sc o) d (d)) ∧
  (∀ (d : Dev) (high : Bool) (v : BitVec 32),
      d.powered 8 = true →
      d.clk.stopped = false →
      Effect (.ddrMapWrite high v) d (d.each ((List.range 16).filter (fun i => (if high then 16 else 0) + i != 0 && ((if high then 16 else 0) + i) * 2 ^ 30 < d.capacity)) (fun x i => x.put (orderField ((if high then 16 else 0) + i)) (slice v.toNat (2 * i) 2)))) ∧
  (∀ (d : Dev) (high : Bool) (v : BitVec 32),
      d.powered 8 = false →
      d.clk.stopped = false →
      Effect (.ddrMapWrite high v) d (d.inc F.CLK_PD_DROPWR_COUNT))

/-- With the domain on, a write of 1 to 4,096 bytes at offset 0 opens an EMPTY or SEALED tile for its producer with the next generation; a write
at the offset reached by the same producer goes on; the last byte seals it with the CRC-64 of its 4,096 bytes. Any other write is refused
and counted with event 0x3014. Writes to a tile in TEST wait. A test that passes empties the tile with event 0x3011, one that fails retires
it with 0x3012. Where the spec leaves a point open, the model’s own reading is meant: log entries 19 and 87. -/
def Obligations.TilesAreProducedAndTested : Prop :=
  (∀ (d : Dev) (producer : Fin 3) (t off : Nat) (bytes : List Nat),
      d.live 0x09 = true →
      Effect (.tileProduceWrite producer t off bytes) d (d.produce (producer.val + 1) t off bytes)) ∧
  (∀ (d : Dev) (producer : Fin 3) (t off : Nat) (bytes : List Nat),
      d.powered 8 = true →
      off = 0 →
      ((d.tile t).state = .empty ∨ (d.tile t).state = .sealed) →
      bytes ≠ [] →
      bytes.length < 4096 →
      t < d.poolTiles →
      d.live 0x09 = true →
      Effect (.tileProduceWrite producer t off bytes) d ((d.granWrite (d.tileBase t) bytes).setTile { (d.tile t) with state := .opened, producer := producer.val + 1, gen := ((d.tile t).gen + 1) % 2 ^ 32, next := bytes.length })) ∧
  (∀ (d : Dev) (producer : Fin 3) (t off : Nat) (bytes : List Nat) (e : Dev),
      e = d.granWrite (d.tileBase t + off) bytes →
      d.powered 8 = true →
      (d.tile t).state = .opened →
      (d.tile t).producer = producer.val + 1 →
      (d.tile t).next = off →
      off ≠ 0 →
      bytes ≠ [] →
      off + bytes.length = 4096 →
      t < d.poolTiles →
      d.live 0x09 = true →
      Effect (.tileProduceWrite producer t off bytes) d (e.setTile { (d.tile t) with state := .sealed, next := 0, crc := crc64 (e.granRead (e.tileBase t) 4096) })) ∧
  (∀ (d : Dev) (producer : Fin 3) (t off : Nat) (bytes : List Nat),
      d.powered 8 = true →
      (d.tile t).state = .opened →
      (d.tile t).next ≠ off →
      d.live 0x09 = true →
      Effect (.tileProduceWrite producer t off bytes) d (((d.inc F.GRN_REFUSED_WRITES).put F.GRN_INT_STAT_REFUSED 1).post 0x3014 [t, 2])) ∧
  (∀ (d : Dev) (producer : Fin 3) (t off : Nat) (bytes : List Nat),
      d.powered 8 = true →
      (d.tile t).state = .test →
      d.live 0x09 = true →
      Effect (.tileProduceWrite producer t off bytes) d (d.setTile { (d.tile t) with held := (d.tile t).held ++ [(producer.val + 1, off, bytes)] })) ∧
  (∀ (d : Dev) (t : Nat) (pass : Bool),
      d.live 0x09 = true →
      Effect (.tileTestDone t pass) d (d.tileTestDone t pass)) ∧
  (∀ (d : Dev) (t : Nat) (pass : Bool),
      (d.tile t).state = .test →
      (d.tile t).held = [] →
      pass = true →
      d.live 0x09 = true →
      Effect (.tileTestDone t pass) d (((d.setTile { (d.tile t) with state := .empty, held := [], next := 0 }).countTiles).post 0x3011 [t])) ∧
  (∀ (d : Dev) (t : Nat) (pass : Bool) (e : Dev),
      e = (d.setTile { (d.tile t) with state := .retired, held := [], next := 0 }).countTiles →
      (d.tile t).state = .test →
      (d.tile t).held = [] →
      pass = false →
      d.live 0x09 = true →
      Effect (.tileTestDone t pass) d ((e.put F.GRN_INT_STAT_RETIRED 1).post 0x3012 [t, e.get F.GRN_BAD_RETIRED])) ∧
  (∀ (d : Dev) (t : Nat) (pass : Bool),
      (d.tile t).state ≠ .test →
      d.live 0x09 = true →
      Effect (.tileTestDone t pass) d (d))

/-- With the Granary on: a load that finds its line, whose words are clean, answers its bytes, is counted as a hit and marks the way used. A
store into a pool tile is refused with a store access fault and event 0x3014. A load that misses becomes the outstanding miss of its port,
or waits behind it. A fill with good data allocates the line and serves its access; a fill with none outstanding does nothing. Another
agent's read sees a dirty line's data, its write invalidates lines and stores. A victim's write-back reaches the Granary and frees its
entry. Where the spec leaves a point open, the model’s own reading is meant: log entries 19, 85, 86, 87, 150, 151 and 152. -/
def Obligations.CacheServesPorts : Prop :=
  (∀ (d : Dev) (port : Fin 5) (x : CoreAccess),
      d.live 0x0B = true →
      Effect (.cacheRequest port x) d (if d.powered 8 && !d.stalled port.val && d.isGranary x.addr && d.isGranary (x.addr + x.len - 1) then d.granAccess port.val x else d)) ∧
  (∀ (d : Dev) (port : Fin 5) (x : CoreAccess) (c : CLine) (e : Dev),
      e = (d.issueVictims x.issued).engineTo x.engine →
      d.powered 8 = true →
      d.stalled port.val = false →
      d.isGranary x.addr = true →
      d.isGranary (x.addr + x.len - 1) = true →
      x.op = .load →
      e.mustWait port.val (⟨x.addr, x.len, x.op, x.data, e.regionPolicy (x.addr - granBase), x.word, x.tag, x.dram⟩ : Access1) = false →
      e.on F.MCC_CTRL_ENABLE = true →
      e.cline ((x.addr - granBase) / 64) = some c →
      e.regionPolicy (x.addr - granBase) ≠ 0 →
      e.checkLine c ((x.addr - granBase) % 64) x.word x.tag = (e, .there) →
      c.pre = false →
      d.live 0x0B = true →
      Effect (.cacheRequest port x) d ((((e.inc F.MCC_HIT_COUNT).touchWay (c.line % 4096) c.way).reply port.val (leValue ((c.data.drop ((x.addr - granBase) % 64)).take x.len))).putLine c)) ∧
  (∀ (d : Dev) (port : Fin 5) (x : CoreAccess) (t : Nat) (e : Dev),
      e = (d.issueVictims x.issued).engineTo x.engine →
      d.powered 8 = true →
      d.stalled port.val = false →
      d.isGranary x.addr = true →
      d.isGranary (x.addr + x.len - 1) = true →
      port.val < 4 →
      x.op = .store →
      e.tileOf (x.addr - granBase) = some t →
      d.live 0x0B = true →
      Effect (.cacheRequest port x) d ((e.writeRefused t 0).busFault port.val .storeAccess x.addr)) ∧
  (∀ (d : Dev) (port : Fin 5) (x : CoreAccess) (e : Dev),
      e = (d.issueVictims x.issued).engineTo x.engine →
      d.powered 8 = true →
      d.stalled port.val = false →
      d.isGranary x.addr = true →
      d.isGranary (x.addr + x.len - 1) = true →
      x.op = .load →
      e.on F.MCC_CTRL_ENABLE = true →
      e.mustWait port.val (⟨x.addr, x.len, x.op, x.data, e.regionPolicy (x.addr - granBase), x.word, x.tag, x.dram⟩ : Access1) = true →
      d.live 0x0B = true →
      Effect (.cacheRequest port x) d (e.portWait port.val (⟨x.addr, x.len, x.op, x.data, e.regionPolicy (x.addr - granBase), x.word, x.tag, x.dram⟩ : Access1))) ∧
  (∀ (d : Dev) (port : Fin 5) (x : CoreAccess) (e : Dev),
      e = (d.issueVictims x.issued).engineTo x.engine →
      d.powered 8 = true →
      d.stalled port.val = false →
      d.isGranary x.addr = true →
      d.isGranary (x.addr + x.len - 1) = true →
      x.op = .load →
      e.mustWait port.val (⟨x.addr, x.len, x.op, x.data, e.regionPolicy (x.addr - granBase), x.word, x.tag, x.dram⟩ : Access1) = false →
      e.on F.MCC_CTRL_ENABLE = true →
      e.cline ((x.addr - granBase) / 64) = none →
      e.victim ((x.addr - granBase) / 64) = none →
      e.regionPolicy (x.addr - granBase) ≠ 0 →
      e.on F.MCC_STAT_DRAINING = false →
      e.anyWay = true →
      e.missAt port.val = true →
      d.live 0x0B = true →
      Effect (.cacheRequest port x) d (e.portWait port.val (⟨x.addr, x.len, x.op, x.data, e.regionPolicy (x.addr - granBase), x.word, x.tag, x.dram⟩ : Access1))) ∧
  (∀ (d : Dev) (port : Fin 5) (x : CoreAccess) (e : Dev),
      e = (d.issueVictims x.issued).engineTo x.engine →
      d.powered 8 = true →
      d.stalled port.val = false →
      d.isGranary x.addr = true →
      d.isGranary (x.addr + x.len - 1) = true →
      x.op = .load →
      e.mustWait port.val (⟨x.addr, x.len, x.op, x.data, e.regionPolicy (x.addr - granBase), x.word, x.tag, x.dram⟩ : Access1) = false →
      e.on F.MCC_CTRL_ENABLE = true →
      e.cline ((x.addr - granBase) / 64) = none →
      e.victim ((x.addr - granBase) / 64) = none →
      e.regionPolicy (x.addr - granBase) ≠ 0 →
      e.on F.MCC_STAT_DRAINING = false →
      e.anyWay = true →
      e.missAt port.val = false →
      d.live 0x0B = true →
      Effect (.cacheRequest port x) d ((({ e with mcc := { e.mcc with misses := e.mcc.misses ++ [⟨port.val, (⟨x.addr, x.len, x.op, x.data, e.regionPolicy (x.addr - granBase), x.word, x.tag, x.dram⟩ : Access1), false⟩] } } : Dev).inc F.MCC_MISS_COUNT).prefetchNext (x.addr - granBase))) ∧
  (∀ (d : Dev) (port : Option (Fin 5)) (o : DramRead),
      d.live 0x0B = true →
      Effect (.cacheFillDone port o) d (match port with | some p => d.fillDone p.val o | none => d.prefetchDone o)) ∧
  (∀ (d : Dev) (port : Option (Fin 5)) (o : DramRead) (p : Fin 5) (m : Miss) (l : Nat) (c : CLine) (e : Dev),
      port = some p →
      d.mcc.misses.find? (fun (m : Miss) => m.port == p.val) = some m →
      l = (m.acc.addr - granBase) / 64 →
      m.filled = false →
      d.victim l = none →
      d.cline l = none →
      d.dramMeet (64 * l) o 2 = (d, false) →
      d.on F.MCC_CTRL_ENABLE = true →
      d.on F.MCC_STAT_DRAINING = false →
      d.anyWay = true →
      d.allocLine l false false (d.dramRead (64 * l) 64) = some e →
      e.cline l = some c →
      d.live 0x0B = true →
      Effect (.cacheFillDone port o) d (((e.missEnds m).lineHit m.port m.acc c (m.acc.pol == 1)).portGoesOn m.port)) ∧
  (∀ (d : Dev) (port : Option (Fin 5)) (o : DramRead) (p : Fin 5),
      port = some p →
      d.mcc.misses.find? (fun (m : Miss) => m.port == p.val) = none →
      d.live 0x0B = true →
      Effect (.cacheFillDone port o) d (d)) ∧
  (∀ (d : Dev) (port : Option (Fin 5)) (o : DramRead),
      port = none →
      d.mcc.prefetch = none →
      d.live 0x0B = true →
      Effect (.cacheFillDone port o) d (d)) ∧
  (∀ (d : Dev) (x : GranAccess),
      d.live 0x0B = true →
      Effect (.noncachingAccess x) d (d.nonCaching x)) ∧
  (∀ (d : Dev) (x : GranAccess),
      d.powered 8 = true →
      x.addr + x.len ≤ d.capacity →
      x.write = false →
      d.linesMeet x.addr x.len x.dram x.cls.val = (d, false) →
      d.live 0x0B = true →
      Effect (.noncachingAccess x) d (d.answer (leValue (d.granRead x.addr x.len)) .none)) ∧
  (∀ (d : Dev) (x : GranAccess),
      d.powered 8 = true →
      x.addr + x.bytes.length ≤ d.capacity →
      x.write = true →
      d.tileOf x.addr = none →
      d.inSideTable x.addr = false →
      d.live 0x0B = true →
      Effect (.noncachingAccess x) d (d.granWrite x.addr x.bytes)) ∧
  (∀ (d : Dev) (x : GranAccess) (t : Nat),
      d.powered 8 = true →
      x.addr + x.bytes.length ≤ d.capacity →
      x.write = true →
      d.tileOf x.addr = some t →
      d.live 0x0B = true →
      Effect (.noncachingAccess x) d (d.writeRefused t 2)) ∧
  (∀ (d : Dev) (line : Nat),
      d.live 0x0B = true →
      Effect (.victimWritebackDone line) d (d.victimDone line)) ∧
  (∀ (d : Dev) (line : Nat) (v : Victim),
      d.victim line = some v →
      d.mcc.misses = [] →
      d.live 0x0B = true →
      Effect (.victimWritebackDone line) d ((d.writeBack line v.data).dropVictim line)) ∧
  (∀ (d : Dev) (line : Nat),
      d.victim line = none →
      d.live 0x0B = true →
      Effect (.victimWritebackDone line) d (d))

/-- A smaller MCC_LOCK takes effect at once with event 0x3103 and empties the ways let go, a larger one shows LOCK_BUSY until its ways are
clean, one above eight ways or during another operation is ignored with event 0x310E. A range operation with lines starts with its OP and
shows MAINT, one without is ignored; its end cleans and drops lines as OP says. Clearing ENABLE drains, the drain's end records 0x3102,
setting ENABLE records 0x3101. The patrol counts a single-bit error and moves its bucket; a double one in SRAM faults the word with 0x310B.
Buckets leak by one. A flip mask is armed for a macro of 0 to 95. Where the spec leaves a point open, the model’s own reading is meant: log
entries 19, 85, 86, 150 and 151. -/
def Obligations.CacheLocksRangesAndProtection : Prop :=
  (∀ (d : Dev) (v : BitVec 32),
      d.clk.stopped = false →
      Effect (.mccLockWrite v) d (d.lockWrite v.toNat)) ∧
  (∀ (d : Dev) (v : BitVec 32),
      d.on F.MCC_STAT_LOCK_BUSY = false →
      d.on F.MCC_STAT_DRAINING = false →
      d.on F.MCC_STAT_MAINT = false →
      v.toNat % 16 < d.get F.MCC_LOCK_WAYS →
      d.get F.MCC_LOCK_WAYS ≤ 8 →
      d.clk.stopped = false →
      Effect (.mccLockWrite v) d ((((d.clearWays (v.toNat % 16) (d.get F.MCC_LOCK_WAYS)).put F.MCC_LOCK_WAYS (v.toNat % 16)).put F.MCC_INT_STAT_LOCK_DONE 1).post 0x3103 [d.get F.MCC_LOCK_WAYS, v.toNat % 16])) ∧
  (∀ (d : Dev) (v : BitVec 32),
      d.on F.MCC_STAT_LOCK_BUSY = false →
      d.on F.MCC_STAT_DRAINING = false →
      d.on F.MCC_STAT_MAINT = false →
      d.get F.MCC_LOCK_WAYS < v.toNat % 16 →
      v.toNat % 16 ≤ 8 →
      d.get F.MCC_FENCE_WAYS = 0 →
      d.clk.stopped = false →
      Effect (.mccLockWrite v) d ((({ d with mcc := { d.mcc with lockTo := v.toNat % 16 } } : Dev).put F.MCC_STAT_LOCK_BUSY 1).showMcc)) ∧
  (∀ (d : Dev) (v : BitVec 32),
      (8 < v.toNat % 16 ∨ d.on F.MCC_STAT_MAINT = true) →
      d.clk.stopped = false →
      Effect (.mccLockWrite v) d (((d.put F.MCC_STAT_WR_IGN 1).put F.MCC_INT_STAT_WR_IGN 1).post 0x310E [0xC, d.mccBusyBits])) ∧
  (∀ (d : Dev),
      d.live 0x0B = true →
      Effect (.lockChangeDone) d (d.lockDone)) ∧
  (∀ (d : Dev),
      d.on F.MCC_STAT_LOCK_BUSY = false →
      d.live 0x0B = true →
      Effect (.lockChangeDone) d (d)) ∧
  (∀ (d : Dev) (e e2 : Dev),
      e = d.cleanLines (d.mcc.lines.filter (fun (c : CLine) => d.get F.MCC_LOCK_WAYS ≤ c.way && c.way < d.mcc.lockTo)) true true →
      e2 = ((e.clearWays (d.get F.MCC_LOCK_WAYS) d.mcc.lockTo).put F.MCC_LOCK_WAYS d.mcc.lockTo).put F.MCC_STAT_LOCK_BUSY 0 →
      d.on F.MCC_STAT_LOCK_BUSY = true →
      d.live 0x0B = true →
      Effect (.lockChangeDone) d (((({ e2 with mcc := { e2.mcc with lockTo := 0 } } : Dev).showMcc).put F.MCC_INT_STAT_LOCK_DONE 1).post 0x3103 [d.get F.MCC_LOCK_WAYS, d.mcc.lockTo])) ∧
  (∀ (d : Dev),
      d.clk.stopped = false →
      Effect (.maintClean) d (d.maintGo 0)) ∧
  (∀ (d : Dev) (e : Dev),
      e = (d.put F.MCC_MAINT_CTRL_OP 0).put F.MCC_STAT_MAINT 1 →
      d.on F.MCC_STAT_LOCK_BUSY = false →
      d.on F.MCC_STAT_DRAINING = false →
      d.on F.MCC_STAT_MAINT = false →
      d.get F.MCC_MAINT_LEN_LINES ≠ 0 →
      d.clk.stopped = false →
      Effect (.maintClean) d (({ e with mcc := { e.mcc with
          maint := some (0, (d.get F.MCC_MAINT_ADDR_LO_ADDR * 64 + d.get F.MCC_MAINT_ADDR_HI_ADDR * 2 ^ 32) / 64, d.get F.MCC_MAINT_LEN_LINES), pos := 0 } } : Dev).showMcc)) ∧
  (∀ (d : Dev),
      d.clk.stopped = false →
      Effect (.maintInvalidate) d (d.maintGo 1)) ∧
  (∀ (d : Dev) (e : Dev),
      e = (d.put F.MCC_MAINT_CTRL_OP 1).put F.MCC_STAT_MAINT 1 →
      d.on F.MCC_STAT_LOCK_BUSY = false →
      d.on F.MCC_STAT_DRAINING = false →
      d.on F.MCC_STAT_MAINT = false →
      d.get F.MCC_MAINT_LEN_LINES ≠ 0 →
      d.clk.stopped = false →
      Effect (.maintInvalidate) d (({ e with mcc := { e.mcc with
          maint := some (1, (d.get F.MCC_MAINT_ADDR_LO_ADDR * 64 + d.get F.MCC_MAINT_ADDR_HI_ADDR * 2 ^ 32) / 64, d.get F.MCC_MAINT_LEN_LINES), pos := 0 } } : Dev).showMcc)) ∧
  (∀ (d : Dev),
      d.clk.stopped = false →
      Effect (.maintCleanInvalidate) d (d.maintGo 2)) ∧
  (∀ (d : Dev) (e : Dev),
      e = (d.put F.MCC_MAINT_CTRL_OP 2).put F.MCC_STAT_MAINT 1 →
      d.on F.MCC_STAT_LOCK_BUSY = false →
      d.on F.MCC_STAT_DRAINING = false →
      d.on F.MCC_STAT_MAINT = false →
      d.get F.MCC_MAINT_LEN_LINES ≠ 0 →
      d.clk.stopped = false →
      Effect (.maintCleanInvalidate) d (({ e with mcc := { e.mcc with
          maint := some (2, (d.get F.MCC_MAINT_ADDR_LO_ADDR * 64 + d.get F.MCC_MAINT_ADDR_HI_ADDR * 2 ^ 32) / 64, d.get F.MCC_MAINT_LEN_LINES), pos := 0 } } : Dev).showMcc)) ∧
  (∀ (d : Dev),
      d.get F.MCC_MAINT_LEN_LINES = 0 →
      d.clk.stopped = false →
      Effect (.maintClean) d (((d.put F.MCC_STAT_WR_IGN 1).put F.MCC_INT_STAT_WR_IGN 1).post 0x310E [0x3C, d.mccBusyBits])) ∧
  (∀ (d : Dev),
      d.live 0x0B = true →
      Effect (.maintDone) d (d.maintDone)) ∧
  (∀ (d : Dev),
      d.mcc.maint = none →
      d.live 0x0B = true →
      Effect (.maintDone) d (d)) ∧
  (∀ (d : Dev) (r : Nat × Nat × Nat) (e : Dev),
      e = d.engineTo 65536 →
      d.mcc.maint = some r →
      e.mcc.drainAfter = false →
      d.live 0x0B = true →
      Effect (.maintDone) d (((({ e with mcc := { e.mcc with maint := none } } : Dev).put F.MCC_STAT_MAINT 0).showMcc).put F.MCC_INT_STAT_OP_DONE 1)) ∧
  (∀ (d : Dev) (r : Nat × Nat × Nat) (e : Dev),
      e = d.engineTo 65536 →
      d.mcc.maint = some r →
      e.mcc.drainAfter = true →
      d.live 0x0B = true →
      Effect (.maintDone) d ((((({ e with mcc := { e.mcc with maint := none } } : Dev).put F.MCC_STAT_MAINT 0).showMcc).put F.MCC_INT_STAT_OP_DONE 1).cacheDrain)) ∧
  (∀ (d : Dev),
      d.clk.stopped = false →
      Effect (.cacheDisable) d (d.cacheDrain)) ∧
  (∀ (d : Dev),
      d.on F.MCC_CTRL_ENABLE = true →
      d.on F.MCC_STAT_DRAINING = false →
      d.on F.MCC_STAT_MAINT = false →
      d.clk.stopped = false →
      Effect (.cacheDisable) d ((({ d with mcc := { d.mcc with drainAfter := false, pos := 0, written := 0 } } : Dev).put F.MCC_STAT_DRAINING 1).showMcc)) ∧
  (∀ (d : Dev),
      d.on F.MCC_CTRL_ENABLE = true →
      d.on F.MCC_STAT_DRAINING = false →
      d.on F.MCC_STAT_MAINT = true →
      d.clk.stopped = false →
      Effect (.cacheDisable) d ({ d with mcc := { d.mcc with drainAfter := true } })) ∧
  (∀ (d : Dev),
      d.clk.stopped = false →
      Effect (.cacheEnable) d (d.cacheEnable)) ∧
  (∀ (d : Dev),
      d.draining = false →
      d.on F.MCC_CTRL_ENABLE = false →
      d.clk.stopped = false →
      Effect (.cacheEnable) d ((d.put F.MCC_CTRL_ENABLE 1).post 0x3101 [d.get F.MCC_LOCK_WAYS, d.get F.MCC_FENCE_WAYS])) ∧
  (∀ (d : Dev),
      d.draining = true →
      d.clk.stopped = false →
      Effect (.cacheEnable) d (((d.put F.MCC_STAT_WR_IGN 1).put F.MCC_INT_STAT_WR_IGN 1).post 0x310E [4, d.mccBusyBits])) ∧
  (∀ (d : Dev),
      d.live 0x0B = true →
      Effect (.drainDone) d (d.drainDone)) ∧
  (∀ (d : Dev) (e : Dev),
      e = d.engineTo 65536 →
      d.on F.MCC_STAT_DRAINING = true →
      d.live 0x0B = true →
      Effect (.drainDone) d (((((e.put F.MCC_CTRL_ENABLE 0).put F.MCC_STAT_DRAINING 0).showMcc).put F.MCC_INT_STAT_OP_DONE 1).post 0x3102 [e.mcc.written])) ∧
  (∀ (d : Dev),
      d.on F.MCC_STAT_DRAINING = false →
      d.live 0x0B = true →
      Effect (.drainDone) d (d)) ∧
  (∀ (d : Dev) (m : Fin 96) (word : Fin 8192) (o : Ecc),
      d.live 0x0C = true →
      Effect (.sramPatrol m word o) d (d.sramPatrol m.val word.val o)) ∧
  (∀ (d : Dev) (m : Fin 96) (word : Fin 8192) (o : Ecc),
      d.wordValid m.val word.val = true →
      d.wordEcc m.val word.val o = .single →
      d.live 0x0C = true →
      Effect (.sramPatrol m word o) d (d.sramCorrected m.val word.val)) ∧
  (∀ (d : Dev) (m : Fin 96) (word : Fin 8192) (o : Ecc),
      (d.wordValid m.val word.val = false ∨ d.wordEcc m.val word.val o = .clean) →
      d.live 0x0C = true →
      Effect (.sramPatrol m word o) d (d)) ∧
  (∀ (d : Dev) (m : Fin 96) (word : Fin 8192) (o : Ecc) (e e2 : Dev),
      e = d.sramDouble m.val word.val →
      e2 = e.setMacro { e.macro m.val with bad := if (e.macro m.val).bad.contains word.val then (e.macro m.val).bad else word.val :: (e.macro m.val).bad } →
      d.wordValid m.val word.val = true →
      d.wordEcc m.val word.val o = .double →
      m.val < 16 →
      d.live 0x0C = true →
      Effect (.sramPatrol m word o) d (e2.fresh.2.post 0x310B [m.val, word.val, e2.fresh.1])) ∧
  (∀ (d : Dev),
      d.live 0x0C = true →
      Effect (.bucketLeak) d (d.each (d.srm.macros.filter (fun (e : Macro) => e.bucket != 0)) (fun x (e : Macro) => x.setBucket e.num (e.bucket - 1)))) ∧
  (∀ (d : Dev) (v : BitVec 32),
      d.clk.stopped = false →
      Effect (.flipArm v) d (d.flipArm v.toNat)) ∧
  (∀ (d : Dev) (v : BitVec 32),
      slice v.toNat 0 7 ≤ 95 →
      v.toNat.testBit 31 = true →
      d.clk.stopped = false →
      Effect (.flipArm v) d (((d.put F.SRM_FLIP_CTRL_CHECK_MASK (slice v.toNat 8 8)).put F.SRM_FLIP_CTRL_MACRO (slice v.toNat 0 7)).put F.SRM_FLIP_CTRL_ARMED 1)) ∧
  (∀ (d : Dev) (v : BitVec 32),
      95 < slice v.toNat 0 7 →
      d.clk.stopped = false →
      Effect (.flipArm v) d (d))

/-- For a channel in RUN with nothing in progress whose fetch answers eight words that R562 allows: a MOVE outside the tile pool without overlap
sets REMAIN to its length and issues its first burst; a LOOP with a counter at zero takes COUNT, each pass takes one off, and at zero the
program goes on; a WAIT on a counter that has reached its value takes it and goes on, on another shows WAIT; a SIGNAL counts its event and
goes on. A row of another kind than the instruction fetched changes nothing, a bad instruction ends the channel with status 5, a failed
fetch with 4, and a fetch from a domain that is off pauses the channel. Where the spec leaves a point open, the model’s own reading is
meant: log entries 19, 24, 27 and 98. -/
def Obligations.PorterInstructionsAct : Prop :=
  (∀ (d : Dev) (c : Fin 32) (o : DramRead) (word : Ecc),
      d.live 0x0D = true →
      Effect (.porterMove c o word) d (d.porStep c.val 0 o word (fun d w => d.moveStart c.val w))) ∧
  (∀ (d : Dev) (c : Fin 32) (o : DramRead) (word : Ecc) (e : Dev) (w : List Nat) (m : Move),
      d.porState c.val = porRun →
      (d.pch c.val).move = none →
      (d.pch c.val).wait = none →
      d.domainUp (addrDomain (d.porPc c.val)) = true →
      d.porFetch c.val o word = (e, some w) →
      d.badInstr c.val w = false →
      pwOp w = 0 →
      m = e.porMove c.val w →
      m.srcSpace = 0 →
      m.dstSpace = 0 →
      e.inPool m.src m.length = false →
      e.inPool m.dst m.length = false →
      (m.dst + m.length ≤ m.src ∨ m.src + m.length ≤ m.dst) →
      m.down = false →
      m.staged = false →
      d.live 0x0D = true →
      Effect (.porterMove c o word) d (((e.putI F.POR_C_REMAIN_REMAIN c.val m.length).setPch c.val (fun x => { x with move := some m, claimed := false, last := pwEnd w, stage := [] })).issueBurst c.val)) ∧
  (∀ (d : Dev) (c : Fin 32) (o : DramRead) (word : Ecc),
      d.live 0x0D = true →
      Effect (.porterLoop c o word) d (d.porStep c.val 1 o word (fun d w => d.loopAct c.val w))) ∧
  (∀ (d : Dev) (c : Fin 32) (o : DramRead) (word : Ecc) (e : Dev) (w : List Nat),
      d.porState c.val = porRun →
      (d.pch c.val).move = none →
      (d.pch c.val).wait = none →
      d.domainUp (addrDomain (d.porPc c.val)) = true →
      d.porFetch c.val o word = (e, some w) →
      d.badInstr c.val w = false →
      pwOp w = 1 →
      (pw w 0).testBit 23 = false →
      (pw w 0).testBit 22 = false →
      e.getI F.POR_C_LOOPS_LC0 c.val = 0 →
      1 < slice (pw w 1) 0 16 →
      d.live 0x0D = true →
      Effect (.porterLoop c o word) d ((e.putI F.POR_C_LOOPS_LC0 c.val (slice (pw w 1) 0 16 - 1)).instrEnds c.val
          (ofSigned 40 ((e.porPc c.val : Int) - 32 * (slice (pw w 1) 16 16 : Nat))) false (pwEnd w))) ∧
  (∀ (d : Dev) (c : Fin 32) (o : DramRead) (word : Ecc) (e : Dev) (w : List Nat),
      d.porState c.val = porRun →
      (d.pch c.val).move = none →
      (d.pch c.val).wait = none →
      d.domainUp (addrDomain (d.porPc c.val)) = true →
      d.porFetch c.val o word = (e, some w) →
      d.badInstr c.val w = false →
      pwOp w = 1 →
      (pw w 0).testBit 23 = false →
      e.getI F.POR_C_LOOPS_LC0 c.val = 0 →
      slice (pw w 1) 0 16 = 1 →
      d.live 0x0D = true →
      Effect (.porterLoop c o word) d ((e.putI F.POR_C_LOOPS_LC0 c.val 0).instrEnds c.val (e.porPc c.val + 32) false (pwEnd w))) ∧
  (∀ (d : Dev) (c : Fin 32) (o : DramRead) (word : Ecc),
      d.live 0x0D = true →
      Effect (.porterWait c o word) d (d.porStep c.val 2 o word (fun d w => d.waitAct c.val w))) ∧
  (∀ (d : Dev) (c : Fin 32) (o : DramRead) (word : Ecc) (e : Dev) (w : List Nat),
      d.porState c.val = porRun →
      (d.pch c.val).move = none →
      (d.pch c.val).wait = none →
      d.domainUp (addrDomain (d.porPc c.val)) = true →
      d.porFetch c.val o word = (e, some w) →
      d.badInstr c.val w = false →
      pwOp w = 2 →
      slice (pw w 0) 22 2 = 1 →
      e.por.ch.length = 32 →
      e.getI F.POR_EVCNT_COUNT (slice (pw w 0) 10 4) < pw w 1 →
      d.live 0x0D = true →
      Effect (.porterWait c o word) d ((e.setPch c.val (fun x => { x with wait := some (.counter (slice (pw w 0) 10 4) (pw w 1)), last := pwEnd w, held := false })).setPor c.val porWait)) ∧
  (∀ (d : Dev) (c : Fin 32) (o : DramRead) (word : Ecc),
      d.live 0x0D = true →
      Effect (.porterSignal c o word) d (d.porStep c.val 3 o word (fun d w => d.signalAct c.val w))) ∧
  (∀ (d : Dev) (c : Fin 32) (o : DramRead) (word : Ecc) (e : Dev) (w : List Nat),
      d.porState c.val = porRun →
      (d.pch c.val).move = none →
      (d.pch c.val).wait = none →
      d.domainUp (addrDomain (d.porPc c.val)) = true →
      d.porFetch c.val o word = (e, some w) →
      d.badInstr c.val w = false →
      pwOp w = 3 →
      (pw w 0).testBit 19 = true →
      (pw w 0).testBit 18 = false →
      (pw w 0).testBit 17 = false →
      d.live 0x0D = true →
      Effect (.porterSignal c o word) d ((e.incI F.POR_EVCNT_COUNT (slice (pw w 0) 20 4)).instrEnds c.val (e.porPc c.val + 32) false (pwEnd w))) ∧
  (∀ (d : Dev) (c : Fin 32) (o : DramRead) (word : Ecc) (e : Dev) (w : List Nat),
      d.porState c.val = porRun →
      (d.pch c.val).move = none →
      (d.pch c.val).wait = none →
      d.domainUp (addrDomain (d.porPc c.val)) = true →
      d.porFetch c.val o word = (e, some w) →
      d.badInstr c.val w = true →
      d.live 0x0D = true →
      Effect (.porterSignal c o word) d (e.porError c.val 5 (d.porPc c.val))) ∧
  (∀ (d : Dev) (c : Fin 32) (o : DramRead) (word : Ecc) (e : Dev) (w : List Nat),
      d.porState c.val = porRun →
      (d.pch c.val).move = none →
      (d.pch c.val).wait = none →
      d.domainUp (addrDomain (d.porPc c.val)) = true →
      d.porFetch c.val o word = (e, some w) →
      d.badInstr c.val w = false →
      pwOp w ≠ 0 →
      d.live 0x0D = true →
      Effect (.porterMove c o word) d (d)) ∧
  (∀ (d : Dev) (c : Fin 32) (o : DramRead) (word : Ecc),
      d.porState c.val = porRun →
      (d.pch c.val).move = none →
      (d.pch c.val).wait = none →
      d.domainUp (addrDomain (d.porPc c.val)) = false →
      d.live 0x0D = true →
      Effect (.porterMove c o word) d (d.porPause c.val (addrDomain (d.porPc c.val)))) ∧
  (∀ (d : Dev) (c : Fin 32) (o : DramRead) (word : Ecc),
      d.porState c.val ≠ porRun →
      d.live 0x0D = true →
      Effect (.porterWait c o word) d (d))

/-- GO on a channel at rest that its writer owns starts it at its PC with its counters and loops cleared and the options given; on a running
channel it is ignored. A burst of a plain internal MOVE reads its bytes, stores them, and goes on to the next burst or the next instruction;
a host error ends the channel with 10. A barrier met completes its instruction; a line, counter or timer that comes sets the channel going
again. The watchdog of a waiting channel shows STALLED with event 0x3203. ABORT ends a channel not at rest with status 1. SWREQ counts a
request, OWNER changes channels at rest, and an RWO write to a running channel is ignored with event 0x3209. Where the spec leaves a point
open, the model’s own reading is meant: log entries 19, 27, 116, 153 and 154. -/
def Obligations.PorterChannelsRunAndEnd : Prop :=
  (∀ (d : Dev) (c : Fin 32) (byCore : Bool) (v : BitVec 30),
      d.clk.stopped = false →
      Effect (.porterGo c byCore v) d (d.ctrlWrite c.val (2 ^ 31 + v.toNat) byCore)) ∧
  (∀ (d : Dev) (c : Fin 32) (byCore : Bool) (v : BitVec 30) (e : Dev),
      e = d.ctrlOpts c.val (2 ^ 31 + v.toNat) →
      d.porRests c.val = true →
      e.porRests c.val = true →
      byCore = false →
      d.clk.stopped = false →
      Effect (.porterGo c byCore v) d ((((((e.setPor c.val porRun).putI F.POR_C_STAT_OVERLAP_SEEN c.val 0).putI F.POR_C_MOVED_MOVED c.val 0).putI F.POR_C_LOOPS_LC0 c.val 0).putI F.POR_C_LOOPS_LC1 c.val 0).setPch c.val
          (fun x => { x with move := none, wait := none, claimed := false, held := false, paused := none, last := false }))) ∧
  (∀ (d : Dev) (c : Fin 32) (byCore : Bool) (v : BitVec 30),
      d.porRests c.val = false →
      d.clk.stopped = false →
      Effect (.porterGo c byCore v) d (((((d.putI F.POR_C_STAT_WR_IGN c.val 1).put F.POR_INT_STAT_WR_IGN 1).post 0x3209 [c.val, 0, d.porState c.val]).putI F.POR_C_STAT_WR_IGN c.val 1).put F.POR_INT_STAT_WR_IGN 1)) ∧
  (∀ (d : Dev) (c : Fin 32) (v : BitVec 30),
      d.clk.stopped = false →
      Effect (.porterAbort c v) d (d.ctrlWrite c.val (2 ^ 30 + v.toNat) true)) ∧
  (∀ (d : Dev) (c : Fin 32) (v : BitVec 30),
      d.porRests c.val = false →
      d.clk.stopped = false →
      Effect (.porterAbort c v) d ((((d.putI F.POR_C_STAT_WR_IGN c.val 1).put F.POR_INT_STAT_WR_IGN 1).post 0x3209 [c.val, 0, d.porState c.val]).porEnd c.val 1)) ∧
  (∀ (d : Dev) (c : Fin 32) (v : BitVec 30),
      d.porRests c.val = true →
      d.clk.stopped = false →
      Effect (.porterAbort c v) d (((d.putI F.POR_C_CTRL_RESUMABLE c.val (slice v.toNat 5 1)).putI F.POR_C_CTRL_IRQ_DONE c.val (slice v.toNat 4 1)).putI F.POR_C_CTRL_PRIO c.val (slice v.toNat 0 2))) ∧
  (∀ (d : Dev) (c : Fin 32) (x : BurstEnd),
      d.live 0x0D = true →
      Effect (.porterBurstDone c x) d (d.burstDone c.val x)) ∧
  (∀ (d : Dev) (c : Fin 32) (x : BurstEnd) (m : Move) (b : Burst) (e : Dev),
      e = (d.sramCheck (m.srcAt b.off) b.n x.word).1 →
      (d.pch c.val).move = some m →
      b = d.burstOf m (d.remain c.val) →
      (d.pch c.val).wait = some .data →
      d.porState c.val = porWait →
      m.srcSpace = 0 →
      m.dstSpace = 0 →
      m.staged = false →
      m.dstAt b.off < granBase →
      d.porRead (m.srcAt b.off) b.n m.cls x = (e, false, (d.sramRead (m.srcAt b.off) b.n)) →
      d.live 0x0D = true →
      Effect (.porterBurstDone c x) d ((e.busWrite (m.dstAt b.off) (d.sramRead (m.srcAt b.off) b.n)).burstEnds c.val m b.n)) ∧
  (∀ (d : Dev) (c : Fin 32) (x : BurstEnd) (m : Move),
      (d.pch c.val).move = some m →
      (d.pch c.val).wait = some .data →
      d.porState c.val = porWait →
      m.srcSpace = 1 →
      x.hostError = true →
      d.live 0x0D = true →
      Effect (.porterBurstDone c x) d (d.porError c.val 10 (m.srcAt (d.burstOf m (d.remain c.val)).off))) ∧
  (∀ (d : Dev) (c : Fin 32),
      d.live 0x0D = true →
      Effect (.porterBarrierMet c) d (d.porterBarrierMetAct c)) ∧
  (∀ (d : Dev) (c : Fin 32),
      (d.pch c.val).wait = some .barrier →
      d.porState c.val ≠ porPaused →
      d.live 0x0D = true →
      Effect (.porterBarrierMet c) d ((d.setPch c.val (fun x => { x with outstanding := false })).instrDone c.val)) ∧
  (∀ (d : Dev) (c : Fin 32),
      (d.pch c.val).wait ≠ some .barrier →
      d.live 0x0D = true →
      Effect (.porterBarrierMet c) d (d)) ∧
  (∀ (d : Dev) (c : Fin 32) (left : Nat),
      d.live 0x0D = true →
      Effect (.porterWaitSatisfied c left) d (d.waitSatisfied c.val left)) ∧
  (∀ (d : Dev) (c : Fin 32) (left n v : Nat) (e : Dev),
      e = (d.setPch c.val (fun x => { x with held := true })).putI F.POR_EVCNT_COUNT n (d.getI F.POR_EVCNT_COUNT n - v) →
      d.porState c.val = porWait →
      (d.pch c.val).wait = some (.counter n v) →
      v ≤ d.getI F.POR_EVCNT_COUNT n →
      d.por.ch.length = 32 →
      d.live 0x0D = true →
      Effect (.porterWaitSatisfied c left) d (e.waitMet c.val)) ∧
  (∀ (d : Dev) (c : Fin 32),
      d.live 0x0D = true →
      Effect (.porterWatchdog c) d (d.porWatchdog c.val)) ∧
  (∀ (d : Dev) (c : Fin 32) (n v : Nat),
      d.porState c.val = porWait →
      (d.pch c.val).wait = some (.counter n v) →
      d.live 0x0D = true →
      Effect (.porterWatchdog c) d (((d.setPor c.val porStalled).porChInt c.val).post 0x3203 [c.val, d.getI F.POR_C_STAT_LINE c.val, d.remain c.val, 1])) ∧
  (∀ (d : Dev) (c : Fin 32),
      (d.pch c.val).wait = none →
      d.live 0x0D = true →
      Effect (.porterWatchdog c) d (d)) ∧
  (∀ (d : Dev) (v : BitVec 32),
      d.clk.stopped = false →
      Effect (.porSwreqWrite v) d (d.swreqWrite v.toNat)) ∧
  (∀ (d : Dev) (v : BitVec 32),
      v = 5#32 →
      at' d.por.sw 0 0 < 255 →
      at' d.por.sw 2 0 < 255 →
      d.clk.stopped = false →
      Effect (.porSwreqWrite v) d ((d.setSw 0 (at' d.por.sw 0 0 + 1)).setSw 2 (at' d.por.sw 2 0 + 1))) ∧
  (∀ (d : Dev) (v : BitVec 32),
      v = 0x80000000#32 →
      at' d.por.sw 31 0 = 255 →
      d.clk.stopped = false →
      Effect (.porSwreqWrite v) d ((d.put F.POR_INT_STAT_OVERFLOW 1).post 0x3208 [47])) ∧
  (∀ (d : Dev) (v : BitVec 32),
      d.clk.stopped = false →
      Effect (.porOwnerWrite v) d (d.each ((List.range 32).filter d.porRests) (fun x k => x.setBit F.POR_OWNER_DROVER k (v.toNat.testBit k)))) ∧
  (∀ (d : Dev) (c : Fin 32) (off : Fin 128) (v : BitVec 32),
      d.clk.stopped = false →
      Effect (.porterRwoWrite c off v) d (d.chanWrite c.val off.val v.toNat)) ∧
  (∀ (d : Dev) (c : Fin 32) (off : Fin 128) (v : BitVec 32),
      off.val = 0x08 →
      d.porRests c.val = false →
      d.clk.stopped = false →
      Effect (.porterRwoWrite c off v) d (((d.putI F.POR_C_STAT_WR_IGN c.val 1).put F.POR_INT_STAT_WR_IGN 1).post 0x3209 [c.val, 0x08, d.porState c.val])) ∧
  (∀ (d : Dev) (c : Fin 32) (off : Fin 128) (v : BitVec 32),
      off.val = 0x08 →
      d.porRests c.val = true →
      d.clk.stopped = false →
      Effect (.porterRwoWrite c off v) d (d.putI F.POR_C_PC_LO_PC c.val (v.toNat / 32))) ∧
  (∀ (d : Dev) (c : Fin 32),
      d.live 0x0D = true →
      Effect (.completionTimeout c) d (d.hostTimeout c.val)) ∧
  (∀ (d : Dev) (c : Fin 32) (m : Move),
      (d.pch c.val).move = some m →
      m.srcSpace = 1 →
      (d.pch c.val).wait = some .data →
      d.hif.noTimeout = false →
      d.porState c.val ≠ porPaused →
      d.live 0x0D = true →
      Effect (.completionTimeout c) d (d.porError c.val 10 (m.srcAt (d.burstOf m (d.remain c.val)).off))) ∧
  (∀ (d : Dev) (c : Fin 32),
      (d.pch c.val).move = none →
      d.live 0x0D = true →
      Effect (.completionTimeout c) d (d))

/-- LINK_DETECT from another state shows Detect with width and rate 0, event 0x4002, host bursts ended and the notice; in Detect it does
nothing. L0 is not reached while the device runs on ROSC or PLL3 is not locked. A lane that has failed already, or one outside the width in
use, is no more than marked. Errors are counted, an uncorrectable one with event 0x4006. In L0 a configuration request acts (MSI-X enable,
bus mastering, ASPM, sizes, timeouts) once the link has been up, L1 is entered when enabled with nothing in flight, and a transaction of the
host in L1 leaves it. A function reset drops every context, closes the host's streams, disables the rings, clears the windows and records
0x4106 and 0x4007. Where the spec leaves a point open, the model’s own reading is meant: log entries 14, 15, 16, 19, 32, 66 and 109. -/
def Obligations.LinkStatesErrorsAndResets : Prop :=
  (∀ (d : Dev),
      d.live 0x0E = true →
      Effect (.linkDetect) d (d.linkDetect 0)) ∧
  (∀ (d : Dev),
      d.get F.HIF_LINK_STATE = 0 →
      d.live 0x0E = true →
      Effect (.linkDetect) d (d)) ∧
  (∀ (d : Dev),
      d.get F.HIF_LINK_STATE ≠ 0 →
      d.live 0x0E = true →
      Effect (.linkDetect) d (((((((d.put F.HIF_LINK_STATE 0).put F.HIF_LINK_WIDTH 0).put F.HIF_LINK_RATE 0).put F.HIF_INT_STAT_LINK 1).post 0x4002 [d.get F.HIF_LINK_STATE, 0]).porterHostDown).notice 3)) ∧
  (∀ (d : Dev) (w : Fin 4) (r : Fin 5) (rev : Bool),
      d.live 0x0E = true →
      Effect (.linkL0 w r rev) d (d.linkToL0 (2 ^ w.val) (r.val + 1) rev)) ∧
  (∀ (d : Dev) (w : Fin 4) (r : Fin 5) (rev : Bool),
      (d.on F.CLK_MON_STAT_ON_ROSC = true ∨ d.onI F.CLK_PLL_STAT_LOCKED 3 = false) →
      d.live 0x0E = true →
      Effect (.linkL0 w r rev) d (d)) ∧
  (∀ (d : Dev) (w : Fin 4) (r : Fin 5) (rev : Bool) (e : Dev),
      e = (((((d.put F.HIF_LINK_STATE 3).put F.HIF_LINK_WIDTH (2 ^ w.val)).put F.HIF_LINK_RATE (r.val + 1)).flag F.HIF_LANES_REVERSED rev).put
        F.HIF_INT_STAT_LINK 1).post 0x4001 [2 ^ w.val, r.val + 1, rev.toNat] →
      d.powered 9 = true →
      d.on F.CLK_MON_STAT_ON_ROSC = false →
      d.onI F.CLK_PLL_STAT_LOCKED 3 = true →
      d.get F.HIF_LANES_FAILED = 0 →
      d.topRate = 5 →
      d.get F.HIF_LINK_RATE = 0 →
      d.live 0x0E = true →
      Effect (.linkL0 w r rev) d (({ (e.notice 3) with hif := { (e.notice 3).hif with seenL0 := true } } : Dev).linkFlush)) ∧
  (∀ (d : Dev) (lane : Fin 8),
      d.live 0x0E = true →
      Effect (.laneFailure lane) d (d.laneFail lane.val)) ∧
  (∀ (d : Dev) (lane : Fin 8),
      d.bit F.HIF_LANES_FAILED lane.val = true →
      d.live 0x0E = true →
      Effect (.laneFailure lane) d (d)) ∧
  (∀ (d : Dev) (lane : Fin 8),
      d.bit F.HIF_LANES_FAILED lane.val = false →
      d.get F.HIF_LINK_WIDTH = 1 →
      d.on F.HIF_LANES_REVERSED = false →
      lane ≠ 0 →
      d.live 0x0E = true →
      Effect (.laneFailure lane) d (d.setBit F.HIF_LANES_FAILED lane.val true)) ∧
  (∀ (d : Dev) (e : LinkErr),
      d.live 0x0E = true →
      Effect (.linkError e) d (d.linkErrorAct e)) ∧
  (∀ (d : Dev) (x : LinkErr) (b : Fin 32) (h : Nat),
      x = .uncorrectable b h →
      d.live 0x0E = true →
      Effect (.linkError x) d (((d.inc F.HIF_AER_UE_COUNT).put F.HIF_INT_STAT_UE 1).post 0x4006 [b.val, h])) ∧
  (∀ (d : Dev) (x : LinkErr) (b : Fin 32),
      x = .correctable b →
      (d.inc F.HIF_AER_CE_COUNT).get F.HIF_AER_CE_COUNT % 1024 ≠ 0 →
      d.live 0x0E = true →
      Effect (.linkError x) d (d.inc F.HIF_AER_CE_COUNT)) ∧
  (∀ (d : Dev) (header : BitVec 32),
      d.live 0x0E = true →
      Effect (.poisonedTlp header) d (d.tlp (fun d => d.uncorrectable 12 header.toNat))) ∧
  (∀ (d : Dev) (header : BitVec 32),
      d.get F.HIF_LINK_STATE = 3 →
      d.hif.memOn = true →
      d.live 0x0E = true →
      Effect (.poisonedTlp header) d (((d.inc F.HIF_AER_UE_COUNT).put F.HIF_INT_STAT_UE 1).post 0x4006 [12, header.toNat])) ∧
  (∀ (d : Dev) (header : BitVec 32),
      (d.get F.HIF_LINK_STATE = 0 ∨ d.hif.memOn = false) →
      d.live 0x0E = true →
      Effect (.poisonedTlp header) d (d)) ∧
  (∀ (d : Dev) (q : ConfigAsk),
      d.live 0x0E = true →
      Effect (.configRequest q) d (d.request (fun d => d.configAsk q))) ∧
  (∀ (d : Dev) (q : ConfigAsk) (m : Bool),
      d.get F.HIF_LINK_STATE = 3 →
      q = .linkControl m →
      d.hif.seenL0 = true →
      d.live 0x0E = true →
      Effect (.configRequest q) d ({ d with hif := { d.hif with l1On := m } })) ∧
  (∀ (d : Dev) (q : ConfigAsk) (m : Bool),
      d.get F.HIF_LINK_STATE = 3 →
      q = .timeout m →
      d.hif.seenL0 = true →
      d.live 0x0E = true →
      Effect (.configRequest q) d ({ d with hif := { d.hif with noTimeout := m } })) ∧
  (∀ (d : Dev) (q : ConfigAsk),
      d.get F.HIF_LINK_STATE = 3 →
      d.hif.seenL0 = false →
      d.live 0x0E = true →
      Effect (.configRequest q) d (d)) ∧
  (∀ (d : Dev) (q : ConfigAsk) (dw : Fin 1024),
      q = .read dw →
      dw = 4 →
      d.get F.HIF_LINK_STATE = 5 →
      d.hif.seenL0 = true →
      d.live 0x0E = true →
      Effect (.configRequest q) d ((d.put F.HIF_LINK_STATE 3).answer ((at' d.hif.bars 0 0 % 2 ^ 32 + 4) % 2 ^ 32) .none)) ∧
  (∀ (d : Dev) (q : ConfigAsk) (dw : Fin 1024),
      d.get F.HIF_LINK_STATE = 3 →
      q = .read dw →
      (dw.val = 8 ∨ dw.val = 9 ∨ dw.val = 12) →
      d.hif.seenL0 = true →
      d.live 0x0E = true →
      Effect (.configRequest q) d (d.answer 0 .none)) ∧
  (∀ (d : Dev) (q : ConfigAsk) (dw : Fin 1024) (v : BitVec 32),
      d.get F.HIF_LINK_STATE = 3 →
      q = .bar dw v →
      dw = 6 →
      d.hif.seenL0 = true →
      d.live 0x0E = true →
      Effect (.configRequest q) d ({ d with hif := { d.hif with bars := d.hif.bars.set 1 (at' d.hif.bars 1 0 / 2 ^ 32 * 2 ^ 32 + v.toNat / 2 ^ 20 * 2 ^ 20) } })) ∧
  (∀ (d : Dev) (q : ConfigAsk) (e m : Bool),
      d.get F.HIF_LINK_STATE = 3 →
      q = .command e m →
      d.hif.seenL0 = true →
      d.live 0x0E = true →
      Effect (.configRequest q) d (({ d with hif := { d.hif with memOn := e, master := m } } : Dev).sendPending)) ∧
  (∀ (d : Dev),
      d.live 0x0E = true →
      Effect (.l1Request) d (d.askL1)) ∧
  (∀ (d : Dev),
      d.hif.l1On = true →
      d.get F.HIF_LINK_STATE = 3 →
      d.hostBurst = false →
      d.cmd.ctxs.any (fun (c : Ctx) => c.state == .committed) = false →
      d.live 0x0E = true →
      Effect (.l1Request) d (d.put F.HIF_LINK_STATE 5)) ∧
  (∀ (d : Dev),
      d.hif.l1On = false →
      d.live 0x0E = true →
      Effect (.l1Request) d (d)) ∧
  (∀ (d : Dev) (kind : Fin 3),
      d.live 0x0E = true →
      Effect (.functionReset kind) d (d.functionReset kind.val)) ∧
  (∀ (d : Dev) (kind : Fin 3) (e1 e2 e3 : Dev),
      e1 = ({ d with cmd := { d.cmd with ctxs := [], posted := [], series := false } } : Dev).put F.DRV_CONTEXTS_IN_USE 0 →
      e2 = (e1.put F.DRV_LOCKS_IN_USE 0).each (List.range 16) (fun x r => (x.putI F.HIF_RING_CFG_ENABLE r 0).putI F.HIF_RING_STAT_WAITING r 0) →
      e3 = { e2 with hif := { e2.hif with
        wins := List.replicate 256 {}, armed := List.replicate 16 false, full := List.replicate 16 false, msix := List.replicate 64 {},
        pend := List.replicate 64 false, memOn := false, bars := [0, 0], msixOn := false, fnMask := false, master := false, l1On := false, noTimeout := false,
        mrrs := 512, mps := 128 } } →
      d.cmd.ctxs = [] →
      d.cmd.act = none →
      d.streams = [] →
      d.drv.seals = [] →
      d.drv.wb = [] →
      d.drv.unprog = [] →
      d.live 0x0E = true →
      Effect (.functionReset kind) d (((e3.post 0x4106 [0, d.cmd.posted.length]).put F.HIF_INT_STAT_RESET 1).post 0x4007 [kind.val])) ∧
  (∀ (d : Dev) (v : Fin 64) (dw : Fin 4) (value : BitVec 32),
      d.live 0x0E = true →
      Effect (.msixTableWrite v dw value) d (d.tlp (fun d => d.msixWrite v.val dw.val value.toNat))) ∧
  (∀ (d : Dev) (v : Fin 64) (dw : Fin 4) (value : BitVec 32),
      d.get F.HIF_LINK_STATE = 3 →
      d.hif.memOn = true →
      dw = 2 →
      (at' d.hif.pend v.val false) = false →
      d.live 0x0E = true →
      Effect (.msixTableWrite v dw value) d ({ d with hif := { d.hif with msix := d.hif.msix.set v.val { at' d.hif.msix v.val {} with data := value.toNat } } }))

/-- With the link in L0: a write of command dwords to a FREE window is stored byte by byte, to one not FREE counted as ignored. GO on a window
not FREE is ignored with event 0x4008; on a FREE one it is accepted where no check fails and else refused with the first reason. GO counts
only with all four bytes enabled. ACK of a DONE window frees it. A result read of a BUSY window answers 0 and counts as early, of a DONE one
answers the result. PAUSE is recorded as 0x400B. A HEAD past TAIL is refused with 0x4009; a ring's configuration is taken while disabled,
its enabling clears HEAD and TAIL, and while enabled writes are ignored with 0x400C. A completion that may not be written yet waits; a
mirror word is its source's value. Where the spec leaves a point open, the model’s own reading is meant: log entries 14, 19, 62, 63, 64 and
120. -/
def Obligations.WindowsRingsAndMirror : Prop :=
  (∀ (d : Dev) (w : Fin 256) (start : Fin 16) (l : List (BitVec 32 × BitVec 4)),
      d.live 0x0E = true →
      Effect (.twnCmdWrite w start l) d (d.tlp (fun d => d.winWrite w.val start.val (l.map (fun x => (x.1.toNat, x.2.toNat)))))) ∧
  (∀ (d : Dev) (w : Fin 256) (start : Fin 16) (l : List (BitVec 32 × BitVec 4)) (v : BitVec 32),
      d.get F.HIF_LINK_STATE = 3 →
      d.hif.memOn = true →
      start.val < 12 →
      l = [(v, 15#4)] →
      d.winPhase w.val = 0 →
      d.live 0x0E = true →
      Effect (.twnCmdWrite w start l) d (d.setWin w.val (fun x => { x with words := x.words.set start.val (mergeBytes (at' x.words start.val 0) v.toNat 15) }))) ∧
  (∀ (d : Dev) (w : Fin 256) (start : Fin 16) (l : List (BitVec 32 × BitVec 4)) (v : BitVec 32),
      d.get F.HIF_LINK_STATE = 3 →
      d.hif.memOn = true →
      start.val < 12 →
      l = [(v, 15#4)] →
      d.winPhase w.val ≠ 0 →
      d.live 0x0E = true →
      Effect (.twnCmdWrite w start l) d (d.inc F.TWN_IGNORED_COUNT)) ∧
  (∀ (d : Dev) (w : Fin 256) (v : BitVec 32) (all : Bool),
      d.live 0x0E = true →
      Effect (.twnGo w v all) d (d.tlp (fun d => d.writeGo w.val v.toNat all))) ∧
  (∀ (d : Dev) (w : Fin 256) (v : BitVec 32) (all : Bool),
      d.get F.HIF_LINK_STATE = 3 →
      d.hif.memOn = true →
      all = false →
      d.live 0x0E = true →
      Effect (.twnGo w v all) d (d)) ∧
  (∀ (d : Dev) (w : Fin 256) (v : BitVec 32) (all : Bool),
      d.get F.HIF_LINK_STATE = 3 →
      d.hif.memOn = true →
      all = true →
      v.toNat.testBit 31 = true →
      v.toNat.testBit 30 = false →
      (d.win w.val).phase ≠ 0 →
      d.live 0x0E = true →
      Effect (.twnGo w v all) d (((d.inc F.TWN_IGNORED_COUNT).put F.TWN_INT_STAT_IGNORED 1).post 0x4008 [w.val, (d.win w.val).phase])) ∧
  (∀ (d : Dev) (w : Fin 256) (v : BitVec 32) (all : Bool) (k : Ctx),
      d.get F.HIF_LINK_STATE = 3 →
      d.hif.memOn = true →
      all = true →
      v.toNat.testBit 31 = true →
      v.toNat.testBit 30 = false →
      (d.win w.val).phase = 0 →
      k = { num := 0, words := (d.win w.val).words, window := w.val, ring := v.toNat % 16, hold := v.toNat.testBit 29 } →
      d.goReason k (v.toNat / 16 % 2 ^ 25 != 0) ≠ 0 →
      d.live 0x0E = true →
      Effect (.twnGo w v all) d (d.refuseGo k (d.goReason k (v.toNat / 16 % 2 ^ 25 != 0)))) ∧
  (∀ (d : Dev) (w : Fin 256) (v : BitVec 32) (all : Bool) (k : Ctx),
      d.get F.HIF_LINK_STATE = 3 →
      d.hif.memOn = true →
      all = true →
      v.toNat.testBit 31 = true →
      v.toNat.testBit 30 = false →
      (d.win w.val).phase = 0 →
      k = { num := 0, words := (d.win w.val).words, window := w.val, ring := v.toNat % 16, hold := v.toNat.testBit 29 } →
      d.goReason k (v.toNat / 16 % 2 ^ 25 != 0) = 0 →
      d.live 0x0E = true →
      Effect (.twnGo w v all) d (d.acceptGo k)) ∧
  (∀ (d : Dev) (w : Fin 256),
      d.live 0x0E = true →
      Effect (.twnAck w) d (d.tlp (fun d => d.ackWindow w.val))) ∧
  (∀ (d : Dev) (w : Fin 256),
      d.get F.HIF_LINK_STATE = 3 →
      d.hif.memOn = true →
      (d.win w.val).phase = 2 →
      d.live 0x0E = true →
      Effect (.twnAck w) d (d.setWin w.val (fun x => { x with phase := 0, answer := 0, reason := 0, early := 0, lo := 0, hi := 0 }))) ∧
  (∀ (d : Dev) (w : Fin 256),
      d.get F.HIF_LINK_STATE = 3 →
      d.hif.memOn = true →
      (d.win w.val).phase ≠ 2 →
      d.live 0x0E = true →
      Effect (.twnAck w) d (d)) ∧
  (∀ (d : Dev) (bar2 : Bool) (off : BitVec 20) (len : Fin 65),
      d.live 0x0E = true →
      Effect (.earlyRead bar2 off len) d (d.tlp (fun d => d.barsRead bar2 (if bar2 then off.toNat else off.toNat % 2 ^ 14) len.val))) ∧
  (∀ (d : Dev) (bar2 : Bool) (off : BitVec 20) (len : Fin 65) (w : Nat),
      d.get F.HIF_LINK_STATE = 3 →
      d.hif.memOn = true →
      (len = 4 ∨ len = 8) →
      (if bar2 = true then off.toNat else off.toNat % 2 ^ 14) % len.val = 0 →
      d.earlyWindow bar2 (if bar2 = true then off.toNat else off.toNat % 2 ^ 14) = some w →
      d.live 0x0E = true →
      Effect (.earlyRead bar2 off len) d (((d.setWin w (fun y => { y with early := min 255 (y.early + 1) })).inc F.TWN_EARLY_COUNT).answer 0 .none)) ∧
  (∀ (d : Dev) (bar2 : Bool) (off : BitVec 20) (len : Fin 65),
      d.get F.HIF_LINK_STATE = 3 →
      d.hif.memOn = true →
      len = 4 →
      (if bar2 = true then off.toNat else off.toNat % 2 ^ 14) % 4 = 0 →
      d.earlyWindow bar2 (if bar2 = true then off.toNat else off.toNat % 2 ^ 14) = none →
      d.live 0x0E = true →
      Effect (.earlyRead bar2 off len) d (d.answer (d.barRead bar2 (if bar2 = true then off.toNat else off.toNat % 2 ^ 14) % 2 ^ 32) .none)) ∧
  (∀ (d : Dev) (bar2 : Bool) (off : BitVec 20) (len : Fin 65),
      d.get F.HIF_LINK_STATE = 3 →
      d.hif.memOn = true →
      len ≠ 4 →
      len ≠ 8 →
      d.live 0x0E = true →
      Effect (.earlyRead bar2 off len) d (d.answer 0 .none)) ∧
  (∀ (d : Dev) (v : Bool),
      d.clk.stopped = false →
      Effect (.twnPauseWrite v) d (d.setPause v)) ∧
  (∀ (d : Dev) (v : Bool),
      d.on F.TWN_CTRL_PAUSE = false →
      v = true →
      d.clk.stopped = false →
      Effect (.twnPauseWrite v) d (((d.put F.TWN_CTRL_PAUSE 1).post 0x400B [1, d.busyWindows]).notice 4)) ∧
  (∀ (d : Dev) (v : Bool),
      d.on F.TWN_CTRL_PAUSE = v →
      d.clk.stopped = false →
      Effect (.twnPauseWrite v) d (d)) ∧
  (∀ (d : Dev) (r : Fin 16) (v : BitVec 32),
      d.live 0x0E = true →
      Effect (.ringHeadWrite r v) d (d.tlp (fun d => d.headWrite r.val v.toNat))) ∧
  (∀ (d : Dev) (r : Fin 16) (v : BitVec 32),
      d.get F.HIF_LINK_STATE = 3 →
      d.hif.memOn = true →
      d.ringSize r.val ≤ v.toNat % 2 ^ 16 →
      d.live 0x0E = true →
      Effect (.ringHeadWrite r v) d (((d.putI F.HIF_RING_STAT_HEAD_BAD r.val 1).put F.TWN_INT_STAT_HEAD_BAD 1).post 0x4009 [r.val, v.toNat % 2 ^ 16, d.getI F.HIF_RING_TAIL_TAIL r.val])) ∧
  (∀ (d : Dev) (r : Fin 16) (v : BitVec 32) (e e2 : Dev),
      e = d.putI F.HIF_RING_HEAD_HEAD r.val 2 →
      e2 = { e with cmd := { e.cmd with posted := consumeTags r.val 1 d.cmd.posted }, hif := { e.hif with full := e.hif.full.set r.val false } } →
      d.get F.HIF_LINK_STATE = 3 →
      d.hif.memOn = true →
      d.getI F.HIF_RING_CFG_ENABLE r.val = 0 →
      d.ringSize r.val = 16 →
      v.toNat = 2 →
      d.getI F.HIF_RING_HEAD_HEAD r.val = 1 →
      d.getI F.HIF_RING_TAIL_TAIL r.val = 2 →
      d.live 0x0E = true →
      Effect (.ringHeadWrite r v) d ((e2.drainWaiting r.val).ringMessage r.val)) ∧
  (∀ (d : Dev) (r : Fin 16) (v : BitVec 31),
      d.live 0x0E = true →
      Effect (.ringEnable r v) d (d.tlp (fun d => d.ringCfg r.val (2 ^ 31 + v.toNat)))) ∧
  (∀ (d : Dev) (r : Fin 16) (v : BitVec 31) (e e2 : Dev),
      e = ((d.putI F.HIF_RING_CFG_IEN r.val (v.toNat / 2 ^ 30)).putI F.HIF_RING_CFG_VECTOR r.val (v.toNat / 2 ^ 16)).putI F.HIF_RING_CFG_LOG2 r.val v.toNat →
      e2 = (((e.putI F.HIF_RING_HEAD_HEAD r.val 0).putI F.HIF_RING_TAIL_TAIL r.val 0).putI F.HIF_RING_TAIL_PHASE r.val 1).putI F.HIF_RING_CFG_ENABLE r.val 1 →
      d.get F.HIF_LINK_STATE = 3 →
      d.hif.memOn = true →
      d.getI F.HIF_RING_CFG_ENABLE r.val = 0 →
      4 ≤ v.toNat % 32 →
      v.toNat % 32 ≤ 16 →
      d.live 0x0E = true →
      Effect (.ringEnable r v) d ({ e2 with hif := { e2.hif with armed := e2.hif.armed.set r.val (v.toNat.testBit 30), full := e2.hif.full.set r.val false } })) ∧
  (∀ (d : Dev) (r : Fin 16) (v : BitVec 31),
      d.get F.HIF_LINK_STATE = 3 →
      d.hif.memOn = true →
      d.getI F.HIF_RING_CFG_ENABLE r.val = 1 →
      d.live 0x0E = true →
      Effect (.ringEnable r v) d ((d.putI F.HIF_RING_STAT_CFG_IGN r.val 1).post 0x400C [r.val, 0x1000 + 0x20 * r.val + 8])) ∧
  (∀ (d : Dev) (r : Fin 16) (v : BitVec 31),
      d.live 0x0E = true →
      Effect (.ringDisable r v) d (d.tlp (fun d => d.ringCfg r.val v.toNat))) ∧
  (∀ (d : Dev) (r : Fin 16) (v : BitVec 31) (e : Dev),
      e = ((d.putI F.HIF_RING_STAT_CFG_IGN r.val 1).post 0x400C [r.val, 0x1000 + 0x20 * r.val + 8]).putI F.HIF_RING_CFG_ENABLE r.val 0 →
      d.get F.HIF_LINK_STATE = 3 →
      d.hif.memOn = true →
      d.getI F.HIF_RING_CFG_ENABLE r.val = 1 →
      d.cmd.ctxs = [] →
      d.cmd.posted = [] →
      d.live 0x0E = true →
      Effect (.ringDisable r v) d ({ e with hif := { e.hif with armed := e.hif.armed.set r.val false } })) ∧
  (∀ (d : Dev) (r : Fin 16) (which : Fin 4) (v : BitVec 64),
      d.live 0x0E = true →
      Effect (.ringConfigWrite r which v) d (d.tlp (fun d => d.ringSet r.val which.val v.toNat))) ∧
  (∀ (d : Dev) (r : Fin 16) (which : Fin 4) (v : BitVec 64),
      d.get F.HIF_LINK_STATE = 3 →
      d.hif.memOn = true →
      d.getI F.HIF_RING_CFG_ENABLE r.val = 0 →
      which = 0 →
      d.live 0x0E = true →
      Effect (.ringConfigWrite r which v) d (d.putI F.HIF_RING_BASE_LO_ADDR r.val (v.toNat % 2 ^ 32 / 64))) ∧
  (∀ (d : Dev) (r : Fin 16) (which : Fin 4) (v : BitVec 64),
      d.get F.HIF_LINK_STATE = 3 →
      d.hif.memOn = true →
      d.getI F.HIF_RING_CFG_ENABLE r.val = 0 →
      which = 3 →
      d.live 0x0E = true →
      Effect (.ringConfigWrite r which v) d ((d.putI F.HIF_RING_BASE_LO_ADDR r.val (v.toNat % 2 ^ 32 / 64)).putI F.HIF_RING_BASE_HI_ADDR r.val (v.toNat / 2 ^ 32))) ∧
  (∀ (d : Dev) (r : Fin 16) (which : Fin 4) (v : BitVec 64),
      d.get F.HIF_LINK_STATE = 3 →
      d.hif.memOn = true →
      d.getI F.HIF_RING_CFG_ENABLE r.val = 1 →
      which = 1 →
      d.live 0x0E = true →
      Effect (.ringConfigWrite r which v) d ((d.putI F.HIF_RING_STAT_CFG_IGN r.val 1).post 0x400C [r.val, 0x1000 + 0x20 * r.val + 4])) ∧
  (∀ (d : Dev) (n : Nat) (arrived : Bool),
      d.live 0x0F = true →
      Effect (.completionPost n arrived) d (d.postCompletion n arrived)) ∧
  (∀ (d : Dev) (n : Nat) (arrived : Bool) (x : Ctx),
      arrived = false →
      d.ctx n = some x →
      d.entryReady x = true →
      d.ringFull x.ring = false →
      d.live 0x0F = true →
      Effect (.completionPost n arrived) d (d.writeEntry x)) ∧
  (∀ (d : Dev) (n : Nat) (arrived : Bool),
      arrived = false →
      d.ctx n = none →
      d.live 0x0F = true →
      Effect (.completionPost n arrived) d (d)) ∧
  (∀ (d : Dev) (i : Fin 18),
      d.live 0x0F = true →
      Effect (.statusMirrorRefresh i) d ({ d with hif := { d.hif with mirror := d.hif.mirror.set i.val (d.mirrorWord i.val) } }))

/-- A QUEUED context that may be dispatched is dispatched with its range locked, and acts. A READ whose data list is in order serves its
sectors, and one whose host transfer fails ends HOST_ERROR with what moved, which are free values (log entry 5); a list that breaks the
rules ends the command with DLIST_ERROR and event 0x4111; a VERIFY serves its sectors and moves nothing; a WRITE places the bytes that its
list names, or ends HOST_ERROR with nothing acknowledged; a FLUSH waits for what is not durable and is checked at once; a RELEASE drops its
range and ends OK with the sectors released, a COUNT of 2^36 as two ranges. A context that is not there leaves everything as it was. Where
the spec leaves a point open, the model’s own reading is meant: log entries 70, 101 and 118. -/
def Obligations.CommandsMoveData : Prop :=
  (∀ (d : Dev) (n : Nat) (v : HostView) (bad : List Nat),
      d.live 0x10 = true →
      Effect (.read n v bad) d (d.readAct n v bad)) ∧
  (∀ (d : Dev) (n : Nat) (v : HostView) (bad : List Nat) (c c' : Ctx) (w : ListWalk) (e : Dev),
      e = d.dispatch n →
      d.ctx n = some c →
      c.opcode = opRead →
      e.ctx n = some c' →
      w = e.dataList v c' (4096 * c.count) →
      w.bad = none →
      v.error = none →
      d.mayDispatch c = true →
      d.metaPoisoned c = false →
      d.live 0x10 = true →
      Effect (.read n v bad) d ((e.mapCtx n (fun x => { x with segs := w.segs })).serveRead c bad)) ∧
  (∀ (d : Dev) (n : Nat) (v : HostView) (bad : List Nat) (c c' : Ctx) (w : ListWalk) (k : Nat) (e : Dev),
      e = d.dispatch n →
      d.ctx n = some c →
      c.opcode = opRead →
      e.ctx n = some c' →
      w = e.dataList v c' (4096 * c.count) →
      w.bad = none →
      v.error = some k →
      d.mayDispatch c = true →
      d.metaPoisoned c = false →
      d.live 0x10 = true →
      Effect (.read n v bad) d ((((e.mapCtx n (fun x => { x with segs := w.segs })).freshBytes (min k (4096 * c.count))).1.segsToHost { c with segs := w.segs } 0 ((e.mapCtx n (fun x => { x with segs := w.segs })).freshBytes (min k (4096 * c.count))).2).commit n stHost k 0)) ∧
  (∀ (d : Dev) (n : Nat) (v : HostView) (bad : List Nat) (c c' : Ctx) (w : ListWalk) (e : Dev),
      e = d.dispatch n →
      d.ctx n = some c →
      c.opcode = opRead →
      e.ctx n = some c' →
      w = e.dataList v c' (4096 * c.count) →
      w.bad = some (0, 4) →
      d.mayDispatch c = true →
      d.metaPoisoned c = false →
      d.live 0x10 = true →
      Effect (.read n v bad) d ((e.post 0x4111 [c'.tag, 0, 4]).commit n stDlist 0 4)) ∧
  (∀ (d : Dev) (n : Nat) (bad : List Nat),
      d.live 0x10 = true →
      Effect (.verify n bad) d (d.verifyAct n bad)) ∧
  (∀ (d : Dev) (n : Nat) (bad : List Nat) (c : Ctx) (e : Dev),
      e = d.dispatch n →
      d.ctx n = some c →
      c.opcode = opVerify →
      d.mayDispatch c = true →
      d.metaPoisoned c = false →
      d.live 0x10 = true →
      Effect (.verify n bad) d (e.serveRead c bad)) ∧
  (∀ (d : Dev) (n : Nat) (v : HostView),
      d.live 0x10 = true →
      Effect (.write n v) d (d.writeAct n v)) ∧
  (∀ (d : Dev) (n : Nat) (v : HostView) (c c' : Ctx) (w : ListWalk) (e : Dev),
      e = d.reserveCheck.dispatch n →
      d.reserveCheck.ctx n = some c →
      c.opcode = opWrite →
      d.reserveCheck.writeMay c = true →
      d.reserveCheck.mayDispatch c = true →
      d.reserveCheck.metaPoisoned c = false →
      e.ctx n = some c' →
      w = e.dataList v c' (4096 * c.count) →
      w.bad = none →
      v.error = none →
      d.live 0x10 = true →
      Effect (.write n v) d ((e.mapCtx n (fun x => { x with segs := w.segs })).doWrite c ((e.mapCtx n (fun x => { x with segs := w.segs })).gather v w.segs))) ∧
  (∀ (d : Dev) (n : Nat) (v : HostView) (c c' : Ctx) (w : ListWalk) (k : Nat) (e : Dev),
      e = d.reserveCheck.dispatch n →
      d.reserveCheck.ctx n = some c →
      c.opcode = opWrite →
      d.reserveCheck.writeMay c = true →
      d.reserveCheck.mayDispatch c = true →
      d.reserveCheck.metaPoisoned c = false →
      e.ctx n = some c' →
      w = e.dataList v c' (4096 * c.count) →
      w.bad = none →
      v.error = some k →
      d.live 0x10 = true →
      Effect (.write n v) d ((e.mapCtx n (fun x => { x with segs := w.segs })).commit n stHost k 0)) ∧
  (∀ (d : Dev) (n : Nat),
      d.live 0x10 = true →
      Effect (.flush n) d (d.flushAct n)) ∧
  (∀ (d : Dev) (n : Nat) (c : Ctx) (e l : Dev),
      e = d.dispatch n →
      l = e.flushTags (fun _ _ => true) →
      d.ctx n = some c →
      c.opcode = opFlush →
      c.ordered = false →
      l.notDurable c.waitOrder = 0 →
      d.mayDispatch c = true →
      d.metaPoisoned c = false →
      d.live 0x10 = true →
      Effect (.flush n) d ((l.mapCtx n (fun x => { x with waitOrder := c.waitOrder, left := 0 })).flushProgress)) ∧
  (∀ (d : Dev) (n : Nat),
      d.live 0x10 = true →
      Effect (.release n) d (d.releaseAct n)) ∧
  (∀ (d : Dev) (n : Nat) (c : Ctx) (e : Dev),
      e = d.dispatch n →
      d.ctx n = some c →
      c.opcode = opRelease →
      c.count ≠ 2 ^ 36 →
      d.mayDispatch c = true →
      d.metaPoisoned c = false →
      d.live 0x10 = true →
      Effect (.release n) d (((e.releaseRange c.lba c.count).commit n stOk (c.count % 2 ^ 32) (c.count / 2 ^ 32)).flushProgress)) ∧
  (∀ (d : Dev) (n : Nat) (c : Ctx) (e : Dev),
      e = d.dispatch n →
      d.ctx n = some c →
      c.opcode = opRelease →
      c.count = 2 ^ 36 →
      d.mayDispatch c = true →
      d.metaPoisoned c = false →
      d.live 0x10 = true →
      Effect (.release n) d ((((e.releaseRange c.lba (2 ^ 35)).releaseRange (c.lba + 2 ^ 35) (2 ^ 35)).commit n stOk (c.count % 2 ^ 32) (c.count / 2 ^ 32)).flushProgress))

/-- An ABORT of a tag that is nowhere ends NOT_FOUND, of a posted or committed one ALREADY_COMPLETE with event 0x4105, of a command that R648
protects NOT_ABORTABLE; a QUEUED target ends ABORTED and the ABORT OK after it; a dispatched READ stops and ends ABORTED with the sectors
done. STREAM_OPEN answers the headroom; STREAM_CLOSE ends once its stream’s earlier commands have. SEAL_BAND without CLOSE takes the lowest
free index with event 0x410E, or ends SEAL_NOT_EMPTY; with CLOSE it closes the band that starts there or ends NOT_FOUND. IDENTIFY and
LOG_READ move their pages. FEATURE_GET answers the value; the plain features take a value in range, or end FEATURE_REFUSED. Where the spec
leaves a point open, the model’s own reading is meant: log entries 67, 74, 77 and 100. -/
def Obligations.CommandsManage : Prop :=
  (∀ (d : Dev) (n : Nat),
      d.clk.stopped = false →
      Effect (.abort n) d (d.abortAct n)) ∧
  (∀ (d : Dev) (n : Nat) (c : Ctx) (e : Dev),
      e = d.dispatch n →
      d.ctx n = some c →
      c.opcode = opAbort →
      d.abortMay c = true →
      d.mayDispatch c = true →
      d.metaPoisoned c = false →
      e.abortTarget c = none →
      e.cmd.posted.any (fun q => q.2 == c.p0) = false →
      d.clk.stopped = false →
      Effect (.abort n) d (e.commit n stNotFound c.p0 0)) ∧
  (∀ (d : Dev) (n : Nat) (c : Ctx) (e : Dev),
      e = d.dispatch n →
      d.ctx n = some c →
      c.opcode = opAbort →
      d.abortMay c = true →
      d.mayDispatch c = true →
      d.metaPoisoned c = false →
      e.abortTarget c = none →
      e.cmd.posted.any (fun q => q.2 == c.p0) = true →
      d.clk.stopped = false →
      Effect (.abort n) d ((e.post 0x4105 [c.p0]).commit n stAlready c.p0 0)) ∧
  (∀ (d : Dev) (n : Nat) (c : Ctx) (x : Ctx) (e : Dev),
      e = d.dispatch n →
      d.ctx n = some c →
      c.opcode = opAbort →
      d.abortMay c = true →
      d.mayDispatch c = true →
      d.metaPoisoned c = false →
      e.abortTarget c = some x →
      [opAbort, opActivate, opResync, opAttest].contains x.opcode = true →
      d.clk.stopped = false →
      Effect (.abort n) d (e.commit n stNotAbortable c.p0 0)) ∧
  (∀ (d : Dev) (n : Nat) (c : Ctx) (x : Ctx) (e : Dev),
      e = d.dispatch n →
      d.ctx n = some c →
      c.opcode = opAbort →
      d.abortMay c = true →
      d.mayDispatch c = true →
      d.metaPoisoned c = false →
      e.abortTarget c = some x →
      [opAbort, opActivate, opResync, opAttest].contains x.opcode = false →
      x.state = .committed →
      d.clk.stopped = false →
      Effect (.abort n) d ((e.post 0x4105 [c.p0]).commit n stAlready c.p0 0)) ∧
  (∀ (d : Dev) (n : Nat) (c : Ctx) (x : Ctx) (e : Dev),
      e = d.dispatch n →
      d.ctx n = some c →
      c.opcode = opAbort →
      d.abortMay c = true →
      d.mayDispatch c = true →
      d.metaPoisoned c = false →
      e.abortTarget c = some x →
      [opAbort, opActivate, opResync, opAttest].contains x.opcode = false →
      x.state = .queued →
      d.clk.stopped = false →
      Effect (.abort n) d (((((e.mapCtx x.num (fun x => { x with abortSeen := true })).abortCtx x.num).mapCtx n (fun c => { c with after := some x.num })).commit n stOk c.p0 0))) ∧
  (∀ (d : Dev) (n : Nat) (c : Ctx) (x : Ctx) (e : Dev),
      e = d.dispatch n →
      d.ctx n = some c →
      c.opcode = opAbort →
      d.abortMay c = true →
      d.mayDispatch c = true →
      d.metaPoisoned c = false →
      e.abortTarget c = some x →
      [opAbort, opActivate, opResync, opAttest].contains x.opcode = false →
      x.state = .dispatched →
      x.opcode ≠ opFlush →
      d.clk.stopped = false →
      Effect (.abort n) d (((((e.mapCtx x.num (fun x => { x with abortSeen := true })).abortDispatched x).mapCtx n (fun c => { c with after := some x.num })).commit n stOk c.p0 0))) ∧
  (∀ (d : Dev) (n : Nat),
      d.clk.stopped = false →
      Effect (.streamOpen n) d (d.streamOpenAct n)) ∧
  (∀ (d : Dev) (n : Nat) (c : Ctx) (e : Dev),
      e = d.dispatch n →
      d.ctx n = some c →
      c.opcode = opStreamOpen →
      d.mayDispatch c = true →
      d.metaPoisoned c = false →
      d.clk.stopped = false →
      Effect (.streamOpen n) d (e.commit n stOk (e.headroom e.streams) c.record.1.id)) ∧
  (∀ (d : Dev) (n : Nat),
      d.clk.stopped = false →
      Effect (.streamClose n) d (d.streamCloseAct n)) ∧
  (∀ (d : Dev) (n : Nat) (c : Ctx) (e : Dev),
      e = d.dispatch n →
      d.ctx n = some c →
      c.opcode = opStreamClose →
      d.mayDispatch c = true →
      d.metaPoisoned c = false →
      d.clk.stopped = false →
      Effect (.streamClose n) d (e.closeProgress)) ∧
  (∀ (d : Dev) (n : Nat),
      d.clk.stopped = false →
      Effect (.sealBandCreate n) d (d.sealBandCreateAct n)) ∧
  (∀ (d : Dev) (n : Nat) (c : Ctx) (i : Nat) (e : Dev),
      e = d.dispatch n →
      d.ctx n = some c →
      c.opcode = opSealBand →
      c.p2 = 0 →
      (List.range 64).find? (fun i => !e.drv.seals.any (fun (b : SealBand) => b.idx == i)) = some i →
      e.rangeWritten c.lba c.count = false →
      e.bandsTouched c.lba c.count = [] →
      d.mayDispatch c = true →
      d.metaPoisoned c = false →
      d.clk.stopped = false →
      Effect (.sealBandCreate n) d ((((({ e with drv := { e.drv with seals := e.drv.seals ++ [({ idx := i, lba := c.lba, count := c.count, ptr := c.lba, closed := false, written := c.lba } : SealBand)] } } : Dev).showMap.journal recMapSet (leBytes 12 ({ idx := i, lba := c.lba, count := c.count, ptr := c.lba, closed := false, written := c.lba } : SealBand).bits)).post 0x410E [i, c.lba % 2 ^ 32, 0]).commit n stOk i 0))) ∧
  (∀ (d : Dev) (n : Nat) (c : Ctx) (e : Dev),
      e = d.dispatch n →
      d.ctx n = some c →
      c.opcode = opSealBand →
      c.p2 = 0 →
      e.rangeWritten c.lba c.count = true →
      d.mayDispatch c = true →
      d.metaPoisoned c = false →
      d.clk.stopped = false →
      Effect (.sealBandCreate n) d (e.commit n stSealNotEmpty 0 0)) ∧
  (∀ (d : Dev) (n : Nat),
      d.clk.stopped = false →
      Effect (.sealBandClose n) d (d.sealBandCloseAct n)) ∧
  (∀ (d : Dev) (n : Nat) (c : Ctx) (b : SealBand) (e : Dev),
      e = d.dispatch n →
      d.ctx n = some c →
      c.opcode = opSealBand →
      c.p2 = 1 →
      e.drv.seals.find? (fun (b : SealBand) => b.lba == c.lba) = some b →
      d.mayDispatch c = true →
      d.metaPoisoned c = false →
      d.clk.stopped = false →
      Effect (.sealBandClose n) d (((((e.setSeal { b with closed := true }).journal recMapSet (leBytes 12 ({ b with closed := true } : SealBand).journaled)).flushTags (fun x _ => x.idx == b.idx)).post 0x410E [b.idx, b.lba % 2 ^ 32, 1]).commit n stOk b.idx 1)) ∧
  (∀ (d : Dev) (n : Nat) (c : Ctx) (e : Dev),
      e = d.dispatch n →
      d.ctx n = some c →
      c.opcode = opSealBand →
      c.p2 = 1 →
      e.drv.seals.find? (fun (b : SealBand) => b.lba == c.lba) = none →
      d.mayDispatch c = true →
      d.metaPoisoned c = false →
      d.clk.stopped = false →
      Effect (.sealBandClose n) d (e.commit n stNotFound 0 0)) ∧
  (∀ (d : Dev) (n : Nat) (v : HostView),
      d.clk.stopped = false →
      Effect (.identify n v) d (d.identifyAct n v)) ∧
  (∀ (d : Dev) (n : Nat) (v : HostView) (c c' : Ctx) (w : ListWalk) (x : Ctx) (e : Dev),
      e = d.dispatch n →
      d.ctx n = some c →
      c.opcode = opIdentify →
      e.ctx n = some c' →
      w = e.dataList v c' e.identifyPage.length →
      w.bad = none →
      x = { c' with segs := w.segs } →
      (e.mapCtx n (fun x => { x with segs := w.segs })).ctx n = some x →
      v.error = none →
      d.mayDispatch c = true →
      d.metaPoisoned c = false →
      d.clk.stopped = false →
      Effect (.identify n v) d (((e.mapCtx n (fun x => { x with segs := w.segs })).segsToHost x 0 e.identifyPage).commit n stOk 4096 0)) ∧
  (∀ (d : Dev) (n : Nat) (v : HostView) (lost : List Nat),
      d.clk.stopped = false →
      Effect (.logRead n v lost) d (d.logReadAct n v lost)) ∧
  (∀ (d : Dev) (n : Nat) (v : HostView) (lost : List Nat) (c : Ctx) (e : Dev),
      e = d.dispatch n →
      d.ctx n = some c →
      c.opcode = opLogRead →
      c.p0 < 64 →
      d.mayDispatch c = true →
      d.metaPoisoned c = false →
      d.clk.stopped = false →
      Effect (.logRead n v lost) d ((e.logPage (c.p0 % 256)).1.movePage v n (e.logPage (c.p0 % 256)).2 4096 0)) ∧
  (∀ (d : Dev) (n : Nat) (v : HostView) (lost : List Nat) (c : Ctx) (e g : Dev),
      e = d.dispatch n →
      g = e.each lost Dev.rowUnreadable →
      d.ctx n = some c →
      c.opcode = opLogRead →
      c.p0 = 64 →
      d.mayDispatch c = true →
      d.metaPoisoned c = false →
      d.clk.stopped = false →
      Effect (.logRead n v lost) d ((g.logPage 64).1.movePage v n (g.logPage 64).2 4096 0)) ∧
  (∀ (d : Dev) (n : Nat),
      d.clk.stopped = false →
      Effect (.featureGet n) d (d.featureGetAct n)) ∧
  (∀ (d : Dev) (n : Nat) (c : Ctx) (e : Dev),
      e = d.dispatch n →
      d.ctx n = some c →
      c.opcode = opFeatureGet →
      d.mayDispatch c = true →
      d.metaPoisoned c = false →
      d.clk.stopped = false →
      Effect (.featureGet n) d ((e.featureRead (c.p0 % 256)).2.commit n stOk (e.featureRead (c.p0 % 256)).1 (c.p0 % 256))) ∧
  (∀ (d : Dev) (n : Nat),
      d.clk.stopped = false →
      Effect (.featurePowerMode n) d (d.featurePowerModeAct n)) ∧
  (∀ (d : Dev) (n : Nat) (c : Ctx) (e : Dev),
      e = d.dispatch n →
      d.ctx n = some c →
      c.opcode = opFeatureSet →
      c.p0 = 1 →
      e.requestReason c.value = none →
      d.mayDispatch c = true →
      d.metaPoisoned c = false →
      d.clk.stopped = false →
      Effect (.featurePowerMode n) d ((e.modRequest c.value).featureDone n 1 e.mod.mode.code c.value)) ∧
  (∀ (d : Dev) (n : Nat) (c : Ctx) (why : Nat) (e : Dev),
      e = d.dispatch n →
      d.ctx n = some c →
      c.opcode = opFeatureSet →
      c.p0 = 1 →
      e.requestReason c.value = some why →
      d.mayDispatch c = true →
      d.metaPoisoned c = false →
      d.clk.stopped = false →
      Effect (.featurePowerMode n) d ((e.refuseRequest c.value why).featureRefused n 1 why)) ∧
  (∀ (d : Dev) (n : Nat),
      d.clk.stopped = false →
      Effect (.featureEaseIdle n) d (d.featureEaseIdleAct n)) ∧
  (∀ (d : Dev) (n : Nat) (c : Ctx) (e : Dev),
      e = d.dispatch n →
      d.ctx n = some c →
      c.opcode = opFeatureSet →
      c.p0 = 2 →
      c.value ≤ 86400 →
      d.mayDispatch c = true →
      d.metaPoisoned c = false →
      d.clk.stopped = false →
      Effect (.featureEaseIdle n) d ((e.put F.MOD_EASE_IDLE_SECONDS c.value).featureDone n 2 (e.get F.MOD_EASE_IDLE_SECONDS) c.value)) ∧
  (∀ (d : Dev) (n : Nat) (c : Ctx) (e : Dev),
      e = d.dispatch n →
      d.ctx n = some c →
      c.opcode = opFeatureSet →
      c.p0 = 2 →
      86400 < c.value →
      d.mayDispatch c = true →
      d.metaPoisoned c = false →
      d.clk.stopped = false →
      Effect (.featureEaseIdle n) d (((e.put F.MOD_STAT_REQ_REFUSED 1).put F.MOD_INT_STAT_REQ_REFUSED 1).featureRefused n 2 1)) ∧
  (∀ (d : Dev) (n : Nat),
      d.clk.stopped = false →
      Effect (.featureRestIdle n) d (d.featureRestIdleAct n)) ∧
  (∀ (d : Dev) (n : Nat) (c : Ctx) (e : Dev),
      e = d.dispatch n →
      d.ctx n = some c →
      c.opcode = opFeatureSet →
      c.p0 = 3 →
      60 ≤ c.value →
      c.value ≤ 86400 →
      d.mayDispatch c = true →
      d.metaPoisoned c = false →
      d.clk.stopped = false →
      Effect (.featureRestIdle n) d ((e.put F.MOD_REST_IDLE_SECONDS c.value).featureDone n 3 (e.get F.MOD_REST_IDLE_SECONDS) c.value)) ∧
  (∀ (d : Dev) (n : Nat) (c : Ctx) (e : Dev),
      e = d.dispatch n →
      d.ctx n = some c →
      c.opcode = opFeatureSet →
      c.p0 = 3 →
      c.value = 59 →
      d.mayDispatch c = true →
      d.metaPoisoned c = false →
      d.clk.stopped = false →
      Effect (.featureRestIdle n) d (((e.put F.MOD_STAT_REQ_REFUSED 1).put F.MOD_INT_STAT_REQ_REFUSED 1).featureRefused n 3 1)) ∧
  (∀ (d : Dev) (n : Nat),
      d.clk.stopped = false →
      Effect (.featureEaseRpm n) d (d.featureEaseRpmAct n)) ∧
  (∀ (d : Dev) (n : Nat) (c : Ctx) (e : Dev),
      e = d.dispatch n →
      d.ctx n = some c →
      c.opcode = opFeatureSet →
      c.p0 = 4 →
      3600 ≤ c.value →
      c.value ≤ e.get F.MIL_LIMITS_FLOOR →
      e.mod.mode ≠ Mode.ease →
      d.mayDispatch c = true →
      d.metaPoisoned c = false →
      d.clk.stopped = false →
      Effect (.featureEaseRpm n) d ((e.put F.MOD_EASE_RPM_RPM c.value).featureDone n 4 (e.get F.MOD_EASE_RPM_RPM) c.value)) ∧
  (∀ (d : Dev) (n : Nat) (c : Ctx) (e : Dev),
      e = d.dispatch n →
      d.ctx n = some c →
      c.opcode = opFeatureSet →
      c.p0 = 4 →
      c.value < 3600 →
      d.mayDispatch c = true →
      d.metaPoisoned c = false →
      d.clk.stopped = false →
      Effect (.featureEaseRpm n) d (((e.put F.MOD_STAT_REQ_REFUSED 1).put F.MOD_INT_STAT_REQ_REFUSED 1).featureRefused n 4 1))

/-- With no request waiting, a dispatched KEY_ROTATE whose value is EPOCH + 1 asks for a KIND 4 entry carrying the new public key, and is
refused with reason 2 at epoch 65,535 and with reason 1 for another value; DEBUG_UNLOCK with 1 asks for its entry, with 0 locks at once and
ends OK, and is refused with reason 1 otherwise; SVN_FLOOR asks for an entry with both floors, or is refused with reason 3 (not above the
floor) or 4 (above the loaded SVN); UNSEAL_BAND asks for an entry that names the closed band, or is refused with reason 5. A request refused
at once ends the feature with reason 6, the feature unchanged. Where the spec leaves a point open, the model’s own reading is meant: log
entry 108. -/
def Obligations.ProtectedFeaturesAskTheTally : Prop :=
  (∀ (d : Dev) (n : Nat),
      d.clk.stopped = false →
      Effect (.featureKeyRotate n) d (d.featureKeyRotateAct n)) ∧
  (∀ (d : Dev) (n : Nat) (c : Ctx) (e : Dev),
      e = d.dispatch n →
      d.ctx n = some c →
      c.opcode = opFeatureSet →
      c.p0 = 0x80 →
      d.tal.req.isNone = true →
      e.get F.TAL_KEY_EPOCH_EPOCH ≠ 65535 →
      c.value = e.get F.TAL_KEY_EPOCH_EPOCH + 1 →
      d.mayDispatch c = true →
      d.metaPoisoned c = false →
      d.clk.stopped = false →
      Effect (.featureKeyRotate n) d (e.featureAsk n 0x80 kindRotate (identityPublic (e.get F.TAL_KEY_EPOCH_EPOCH + 1)))) ∧
  (∀ (d : Dev) (n : Nat) (c : Ctx) (e : Dev),
      e = d.dispatch n →
      d.ctx n = some c →
      c.opcode = opFeatureSet →
      c.p0 = 0x80 →
      d.tal.req.isNone = true →
      e.get F.TAL_KEY_EPOCH_EPOCH = 65535 →
      d.mayDispatch c = true →
      d.metaPoisoned c = false →
      d.clk.stopped = false →
      Effect (.featureKeyRotate n) d (e.featureRefused n 0x80 2)) ∧
  (∀ (d : Dev) (n : Nat) (c : Ctx) (e : Dev),
      e = d.dispatch n →
      d.ctx n = some c →
      c.opcode = opFeatureSet →
      c.p0 = 0x80 →
      d.tal.req.isNone = true →
      e.get F.TAL_KEY_EPOCH_EPOCH ≠ 65535 →
      c.value ≠ e.get F.TAL_KEY_EPOCH_EPOCH + 1 →
      d.mayDispatch c = true →
      d.metaPoisoned c = false →
      d.clk.stopped = false →
      Effect (.featureKeyRotate n) d (e.featureRefused n 0x80 1)) ∧
  (∀ (d : Dev) (n : Nat),
      d.clk.stopped = false →
      Effect (.featureDebugUnlock n) d (d.featureDebugUnlockAct n)) ∧
  (∀ (d : Dev) (n : Nat) (c : Ctx) (e x : Dev),
      e = d.dispatch n →
      x = e.talAsk kindDebug ([]) (some n) →
      d.ctx n = some c →
      c.opcode = opFeatureSet →
      c.p0 = 0x81 →
      d.tal.req.isNone = true →
      c.value = 1 →
      x.tal.req.isSome = true →
      d.mayDispatch c = true →
      d.metaPoisoned c = false →
      d.clk.stopped = false →
      Effect (.featureDebugUnlock n) d (x)) ∧
  (∀ (d : Dev) (n : Nat) (c : Ctx) (e x : Dev),
      e = d.dispatch n →
      x = e.talAsk kindDebug ([]) (some n) →
      d.ctx n = some c →
      c.opcode = opFeatureSet →
      c.p0 = 0x81 →
      d.tal.req.isNone = true →
      c.value = 1 →
      x.tal.req.isSome = false →
      d.mayDispatch c = true →
      d.metaPoisoned c = false →
      d.clk.stopped = false →
      Effect (.featureDebugUnlock n) d (x.featureRefused n 0x81 6)) ∧
  (∀ (d : Dev) (n : Nat) (c : Ctx) (e : Dev),
      e = d.dispatch n →
      d.ctx n = some c →
      c.opcode = opFeatureSet →
      c.p0 = 0x81 →
      c.value = 0 →
      d.mayDispatch c = true →
      d.metaPoisoned c = false →
      d.clk.stopped = false →
      Effect (.featureDebugUnlock n) d ((e.lockDebug 0).featureDone n 0x81 (e.get F.TAL_STAT_DEBUG) 0)) ∧
  (∀ (d : Dev) (n : Nat) (c : Ctx) (e : Dev),
      e = d.dispatch n →
      d.ctx n = some c →
      c.opcode = opFeatureSet →
      c.p0 = 0x81 →
      d.tal.req.isNone = true →
      1 < c.value →
      d.mayDispatch c = true →
      d.metaPoisoned c = false →
      d.clk.stopped = false →
      Effect (.featureDebugUnlock n) d (e.featureRefused n 0x81 1)) ∧
  (∀ (d : Dev) (n : Nat),
      d.clk.stopped = false →
      Effect (.featureSvnFloor n) d (d.featureSvnFloorAct n)) ∧
  (∀ (d : Dev) (n : Nat) (c : Ctx) (e x : Dev),
      e = d.dispatch n →
      x = e.talAsk kindFloor (leBytes 4 (e.get F.TAL_SVN_FLOOR_FLOOR) ++ leBytes 4 c.value) (some n) →
      d.ctx n = some c →
      c.opcode = opFeatureSet →
      c.p0 = 0x82 →
      d.tal.req.isNone = true →
      e.get F.TAL_SVN_FLOOR_FLOOR < c.value →
      c.value ≤ e.cfg.svn →
      x.tal.req.isSome = true →
      d.mayDispatch c = true →
      d.metaPoisoned c = false →
      d.clk.stopped = false →
      Effect (.featureSvnFloor n) d (x)) ∧
  (∀ (d : Dev) (n : Nat) (c : Ctx) (e : Dev),
      e = d.dispatch n →
      d.ctx n = some c →
      c.opcode = opFeatureSet →
      c.p0 = 0x82 →
      d.tal.req.isNone = true →
      c.value ≤ e.get F.TAL_SVN_FLOOR_FLOOR →
      d.mayDispatch c = true →
      d.metaPoisoned c = false →
      d.clk.stopped = false →
      Effect (.featureSvnFloor n) d (e.featureRefused n 0x82 3)) ∧
  (∀ (d : Dev) (n : Nat) (c : Ctx) (e : Dev),
      e = d.dispatch n →
      d.ctx n = some c →
      c.opcode = opFeatureSet →
      c.p0 = 0x82 →
      d.tal.req.isNone = true →
      e.get F.TAL_SVN_FLOOR_FLOOR < c.value →
      e.cfg.svn < c.value →
      d.mayDispatch c = true →
      d.metaPoisoned c = false →
      d.clk.stopped = false →
      Effect (.featureSvnFloor n) d (e.featureRefused n 0x82 4)) ∧
  (∀ (d : Dev) (n : Nat),
      d.clk.stopped = false →
      Effect (.featureUnsealBand n) d (d.featureUnsealBandAct n)) ∧
  (∀ (d : Dev) (n : Nat) (c : Ctx) (b : SealBand) (e x : Dev),
      e = d.dispatch n →
      x = e.talAsk kindUnseal (leBytes 8 b.idx ++ leBytes 8 b.lba ++ leBytes 8 b.count) (some n) →
      d.ctx n = some c →
      c.opcode = opFeatureSet →
      c.p0 = 0x83 →
      d.tal.req.isNone = true →
      e.drv.seals.find? (fun (b : SealBand) => b.idx == c.value && b.closed) = some b →
      x.tal.req.isSome = true →
      d.mayDispatch c = true →
      d.metaPoisoned c = false →
      d.clk.stopped = false →
      Effect (.featureUnsealBand n) d (x)) ∧
  (∀ (d : Dev) (n : Nat) (c : Ctx) (e : Dev),
      e = d.dispatch n →
      d.ctx n = some c →
      c.opcode = opFeatureSet →
      c.p0 = 0x83 →
      d.tal.req.isNone = true →
      e.drv.seals.find? (fun (b : SealBand) => b.idx == c.value && b.closed) = none →
      d.mayDispatch c = true →
      d.metaPoisoned c = false →
      d.clk.stopped = false →
      Effect (.featureUnsealBand n) d (e.featureRefused n 0x83 5))

/-- FW_DOWNLOAD with no selector, or past the end of its slot, ends DOWNLOAD_ERROR; else the bytes its list names are programmed, and the slot
is checked with LAST. FW_ACTIVATE pauses the windows with event 0x4107, in recovery hold and SAFE going on at once; its timeout ends every
QUEUED command ABORTED_ACTIVATION with event 0x4108. RESYNC builds the summary page and answers its number and the tags in use. ATTEST with
P0 zero reads the nonce and asks for its structure; with another P0 it ends NOT_FOUND where no such boot record is held. A drive-maker
command ends with the status that the policy code answers; a status outside R671 leaves it as it is (DEDUCED). Where the spec leaves a point
open, the model’s own reading is meant: log entries 19, 66, 73, 93 and 102. -/
def Obligations.FirmwareResyncAttestAndVendor : Prop :=
  (∀ (d : Dev) (n : Nat) (v : HostView),
      d.clk.stopped = false →
      Effect (.fwDownload n v) d (d.fwDownloadAct n v)) ∧
  (∀ (d : Dev) (n : Nat) (v : HostView) (c : Ctx) (e : Dev),
      e = d.dispatch n →
      d.ctx n = some c →
      c.opcode = opDownload →
      e.cfg.sel = none →
      d.mayDispatch c = true →
      d.metaPoisoned c = false →
      d.clk.stopped = false →
      Effect (.fwDownload n v) d (e.commit n stDownload 0 1)) ∧
  (∀ (d : Dev) (n : Nat) (v : HostView) (c : Ctx) (sel : Selector) (e : Dev),
      e = d.dispatch n →
      d.ctx n = some c →
      c.opcode = opDownload →
      e.cfg.sel = some sel →
      sel.slotSize < c.p0 + c.p1 →
      d.mayDispatch c = true →
      d.metaPoisoned c = false →
      d.clk.stopped = false →
      Effect (.fwDownload n v) d (e.commit n stDownload 0 8)) ∧
  (∀ (d : Dev) (n : Nat) (v : HostView) (c c' : Ctx) (w : ListWalk) (sel : Selector) (e : Dev),
      e = d.dispatch n →
      d.ctx n = some c →
      c.opcode = opDownload →
      e.ctx n = some c' →
      w = e.dataList v c' c.p1 →
      w.bad = none →
      e.cfg.sel = some sel →
      c.p0 + c.p1 ≤ sel.slotSize →
      v.error = none →
      d.mayDispatch c = true →
      d.metaPoisoned c = false →
      d.clk.stopped = false →
      Effect (.fwDownload n v) d ((e.mapCtx n (fun x => { x with segs := w.segs })).program c sel ((e.mapCtx n (fun x => { x with segs := w.segs })).gather v w.segs))) ∧
  (∀ (d : Dev) (n : Nat) (v : HostView) (c c' : Ctx) (w : ListWalk) (sel : Selector) (k : Nat) (e : Dev),
      e = d.dispatch n →
      d.ctx n = some c →
      c.opcode = opDownload →
      e.ctx n = some c' →
      w = e.dataList v c' c.p1 →
      w.bad = none →
      e.cfg.sel = some sel →
      c.p0 + c.p1 ≤ sel.slotSize →
      v.error = some k →
      d.mayDispatch c = true →
      d.metaPoisoned c = false →
      d.clk.stopped = false →
      Effect (.fwDownload n v) d ((e.mapCtx n (fun x => { x with segs := w.segs })).commit n stHost k 0)) ∧
  (∀ (d : Dev) (n : Nat),
      d.clk.stopped = false →
      Effect (.fwActivate n) d (d.fwActivateAct n)) ∧
  (∀ (d : Dev) (n : Nat) (c : Ctx) (e : Dev),
      e = d.dispatch n →
      d.ctx n = some c →
      c.opcode = opActivate →
      e.mod.recovery = false →
      e.mod.mode ≠ Mode.safe →
      d.mayDispatch c = true →
      d.metaPoisoned c = false →
      d.clk.stopped = false →
      Effect (.fwActivate n) d (((e.setPause true).post 0x4107 [c.p0, (e.cmd.ctxs.filter (fun (x : Ctx) => x.state == CtxState.queued)).length]).setAct { ctx := n, step := 2, ended := 0, short := false })) ∧
  (∀ (d : Dev) (n : Nat) (c : Ctx) (e : Dev),
      e = d.dispatch n →
      d.ctx n = some c →
      c.opcode = opActivate →
      e.mod.mode = Mode.safe →
      e.mod.recovery = false →
      d.mayDispatch c = true →
      d.metaPoisoned c = false →
      d.clk.stopped = false →
      Effect (.fwActivate n) d ((((e.setPause true).post 0x4107 [c.p0, (e.cmd.ctxs.filter (fun (x : Ctx) => x.state == CtxState.queued)).length]).setAct { ctx := n, step := 2, ended := 0, short := true }).activationSwitch { ctx := n, step := 2, ended := 0, short := true })) ∧
  (∀ (d : Dev),
      d.clk.stopped = false →
      Effect (.activationTimeout) d (d.activationTimeoutAct)) ∧
  (∀ (d : Dev) (a : Activation),
      d.cmd.act = some a →
      a.step = 2 →
      d.cmd.ctxs.filter (fun (x : Ctx) => x.state == CtxState.queued) = [] →
      d.clk.stopped = false →
      Effect (.activationTimeout) d (d.setAct { a with ended := 0 })) ∧
  (∀ (d : Dev) (a : Activation) (x : Ctx),
      d.cmd.act = some a →
      a.step = 2 →
      d.cmd.ctxs.filter (fun (x : Ctx) => x.state == CtxState.queued) = [x] →
      d.clk.stopped = false →
      Effect (.activationTimeout) d (((d.commit x.num stAbortedActivation 0 0).setAct { a with ended := 1 }).post 0x4108 [1])) ∧
  (∀ (d : Dev),
      d.cmd.act = none →
      d.clk.stopped = false →
      Effect (.activationTimeout) d (d)) ∧
  (∀ (d : Dev) (n : Nat) (v : HostView),
      d.clk.stopped = false →
      Effect (.resync n v) d (d.resyncAct n v)) ∧
  (∀ (d : Dev) (n : Nat) (v : HostView) (c : Ctx) (e : Dev),
      e = d.dispatch n →
      d.ctx n = some c →
      c.opcode = opResync →
      c.p2 = 0 →
      d.mayDispatch c = true →
      d.metaPoisoned c = false →
      d.clk.stopped = false →
      Effect (.resync n v) d (e.buildSummary.commit n stOk e.buildSummary.cmd.resyncs (min 65535 e.tagsInUse.length))) ∧
  (∀ (d : Dev) (n : Nat) (v : HostView) (c : Ctx) (e : Dev),
      e = d.dispatch n →
      d.ctx n = some c →
      c.opcode = opResync →
      c.p2 = 1 →
      d.mayDispatch c = true →
      d.metaPoisoned c = false →
      d.clk.stopped = false →
      Effect (.resync n v) d (e.buildSummary.movePage v n (e.buildSummary.hif.summary ++ []) e.buildSummary.cmd.resyncs (min 65535 e.tagsInUse.length))) ∧
  (∀ (d : Dev) (n : Nat) (v : HostView),
      d.clk.stopped = false →
      Effect (.attestFresh n v) d (d.attestFreshAct n v)) ∧
  (∀ (d : Dev) (n : Nat) (v : HostView) (c c' : Ctx) (w : ListWalk) (e : Dev),
      e = d.dispatch n →
      d.ctx n = some c →
      c.opcode = opAttest →
      e.ctx n = some c' →
      w = e.dataList v c' 512 →
      w.bad = none →
      c.p0 = 0 →
      d.tal.req.isNone = true →
      v.error = none →
      d.mayDispatch c = true →
      d.metaPoisoned c = false →
      d.clk.stopped = false →
      Effect (.attestFresh n v) d ((e.mapCtx n (fun x => { x with segs := w.segs })).talAsk kindAttest ((e.mapCtx n (fun x => { x with segs := w.segs })).hostRead v c.p1 32) (some n))) ∧
  (∀ (d : Dev) (n : Nat) (v : HostView),
      d.clk.stopped = false →
      Effect (.attestBootRecord n v) d (d.attestBootRecordAct n v)) ∧
  (∀ (d : Dev) (n : Nat) (v : HostView) (c : Ctx) (e : Dev),
      e = d.dispatch n →
      d.ctx n = some c →
      c.opcode = opAttest →
      c.p0 ≠ 0 →
      e.tal.entries.reverse.find? (fun (x : List Nat) => entryWhole x && entryKind x == kindBoot && entryBoots x + 1 == c.p0) = none →
      d.mayDispatch c = true →
      d.metaPoisoned c = false →
      d.clk.stopped = false →
      Effect (.attestBootRecord n v) d (e.commit n stNotFound 0 0)) ∧
  (∀ (d : Dev) (n : Nat) (v : HostView) (c : Ctx) (x : List Nat) (e : Dev),
      e = d.dispatch n →
      d.ctx n = some c →
      c.opcode = opAttest →
      c.p0 ≠ 0 →
      e.tal.entries.reverse.find? (fun (x : List Nat) => entryWhole x && entryKind x == kindBoot && entryBoots x + 1 == c.p0) = some x →
      d.mayDispatch c = true →
      d.metaPoisoned c = false →
      d.clk.stopped = false →
      Effect (.attestBootRecord n v) d (e.movePage v n x 512 0)) ∧
  (∀ (d : Dev) (n : Nat) (v : HostView) (a : PolicyAnswer),
      d.clk.stopped = false →
      Effect (.driveMakerCommand n v a) d (d.driveMakerCommandAct n v a)) ∧
  (∀ (d : Dev) (n : Nat) (v : HostView) (a : PolicyAnswer) (c : Ctx) (e : Dev),
      e = d.dispatch n →
      d.ctx n = some c →
      0xC0 ≤ c.opcode →
      policyStatus a.status.toNat = true →
      d.mayDispatch c = true →
      d.metaPoisoned c = false →
      a.bytes = [] →
      d.clk.stopped = false →
      Effect (.driveMakerCommand n v a) d (e.commit n a.status.toNat a.detail.toNat a.hi.toNat)) ∧
  (∀ (d : Dev) (n : Nat) (v : HostView) (a : PolicyAnswer) (c : Ctx),
      d.ctx n = some c →
      policyStatus a.status.toNat = false →
      d.clk.stopped = false →
      Effect (.driveMakerCommand n v a) d (d))

/-- A channel that may not decide leaves everything; otherwise the choice is made and the cleaner, the surface rebuild and the FREE reserve
follow. A non-empty tail that the log takes with HARVEST_TAIL bytes kept erased goes into it as whole blocks of 127 records, its data is
durable and FLUSH contexts are looked at; before the restore or in a Harvest nothing is programmed. Under half log use no checkpoint is
written; a due one goes to the area and superblock copy not in use. A restore with no valid superblock formats an erased partition, else
reports event 0x420E; once restored it acts no more. A rebuild with a peer missing waits; the surface rebuild ends with event 0x4208 after
its last band, or 0x420F with no FREE band. Where the spec leaves a point open, the model’s own reading is meant: log entries 19, 47, 48,
117, 129 and 155. -/
def Obligations.DroverDecidesJournalsAndRestores : Prop :=
  (∀ (d : Dev) (st : Fin 8) (bad : List Nat),
      d.live 0x10 = true →
      Effect (.decisionPoint st bad) d (d.decisionPointAct st bad)) ∧
  (∀ (d : Dev) (st : Fin 8) (bad : List Nat),
      d.mayDecide st.val = true →
      d.live 0x10 = true →
      Effect (.decisionPoint st bad) d (((d.decide' st.val bad).cleaner.surfaceNext).reserveCheck)) ∧
  (∀ (d : Dev) (st : Fin 8) (bad : List Nat),
      d.mayDecide st.val = false →
      d.live 0x10 = true →
      Effect (.decisionPoint st bad) d (d)) ∧
  (∀ (d : Dev),
      d.live 0x10 = true →
      Effect (.journalProgram) d (d.journalProgramAct)) ∧
  (∀ (d : Dev) (b : List JBlock) (e : Dev),
      e = { d with drv := { d.drv with tail := [], tailMs := 0, unprog := [], jseq := (d.drv.jseq - d.drv.tail.length) + 127 * b.length, jrn := { d.drv.jrn with blocks := d.drv.jrn.blocks ++ b, erased := false } } } →
      d.harvesting = false →
      d.drv.restored = true →
      d.drv.tail.isEmpty = false →
      b = journalBlocks (d.drv.jseq - d.drv.tail.length) d.drv.tail.length d.drv.tail →
      4096 * (d.drv.jrn.blocks.length + b.length) + d.tailMax ≤ d.logSize →
      d.live 0x10 = true →
      Effect (.journalProgram) d (((e.put F.DRV_TAIL_BYTES 0).showJseq).flushProgress)) ∧
  (∀ (d : Dev) (b : List JBlock),
      d.harvesting = false →
      d.drv.restored = true →
      d.logSize < 4096 * (d.drv.jrn.blocks.length + b.length) + d.tailMax →
      b = journalBlocks (d.drv.jseq - d.drv.tail.length) d.drv.tail.length d.drv.tail →
      d.live 0x10 = true →
      Effect (.journalProgram) d (d.flushProgress)) ∧
  (∀ (d : Dev),
      (d.drv.restored = false ∨ d.harvesting = true) →
      d.live 0x10 = true →
      Effect (.journalProgram) d (d)) ∧
  (∀ (d : Dev),
      d.harvesting = false →
      d.drv.restored = true →
      d.drv.tail = [] →
      d.live 0x10 = true →
      Effect (.journalProgram) d (d.flushProgress)) ∧
  (∀ (d : Dev),
      d.live 0x10 = true →
      Effect (.checkpoint) d (d.checkpointAct)) ∧
  (∀ (d : Dev),
      2 * 4096 * d.drv.jrn.blocks.length < d.logSize →
      d.live 0x10 = true →
      Effect (.checkpoint) d (d)) ∧
  (∀ (d : Dev) (k n a m : Nat) (p q r : Dev),
      p = d.tailToLog d.tailMax →
      q = { p with drv := { p.drv with jrn := { p.drv.jrn with areas := p.drv.jrn.areas.set (1 - a) (some p.ckpt), supers := p.drv.jrn.supers.set (1 - k) (some (n + 1, 1 - a, p.drv.jseq)), blocks := p.drv.jrn.blocks.filter (fun (b : JBlock) => p.drv.jseq < b.first + b.recs.length) } } } →
      r = (q.tailToLog q.tailMax).appendRec recCheckpoint (leBytes 4 (1 - a) ++ leBytes 8 p.drv.jseq) →
      d.harvesting = false →
      d.drv.restored = true →
      d.logSize ≤ 2 * 4096 * d.drv.jrn.blocks.length →
      p.drv.jrn.super = some (k, n, a, m) →
      d.live 0x10 = true →
      Effect (.checkpoint) d (((r.appendRec recSurface (leBytes 4 (r.get F.GRN_TITHE_RETIRED_VALUE))).appendRec recSeq (leBytes 6 r.drv.reserved)).flushProgress)) ∧
  (∀ (d : Dev) (bad : Fin 4) (stop : Option Nat) (ms : Nat),
      d.live 0x10 = true →
      Effect (.mapRestore bad stop ms) d (d.mapRestoreAct bad stop ms)) ∧
  (∀ (d : Dev) (bad : Fin 4) (stop : Option Nat) (ms : Nat),
      d.drv.restored = false →
      d.harvesting = false →
      d.mod.mode ≠ Mode.safe →
      d.mod.recovery = false →
      d.get F.CFG_STAT_PHASE = 5 →
      d.drv.jrn.supers = [none, none] →
      d.drv.jrn.erased = true →
      d.live 0x10 = true →
      Effect (.mapRestore bad stop ms) d (d.formatJournal ms)) ∧
  (∀ (d : Dev) (bad : Fin 4) (stop : Option Nat) (ms : Nat),
      d.drv.restored = false →
      d.harvesting = false →
      d.mod.mode ≠ Mode.safe →
      d.mod.recovery = false →
      d.get F.CFG_STAT_PHASE = 5 →
      bad = 3 →
      d.drv.jrn.erased = false →
      d.live 0x10 = true →
      Effect (.mapRestore bad stop ms) d (d.fresh.2.post 0x420E [d.fresh.1 % 2 ^ 32])) ∧
  (∀ (d : Dev) (bad : Fin 4) (stop : Option Nat) (ms : Nat),
      d.drv.restored = true →
      d.live 0x10 = true →
      Effect (.mapRestore bad stop ms) d (d)) ∧
  (∀ (d : Dev) (stripe member : Nat) (bad : List Nat),
      d.live 0x10 = true →
      Effect (.rebuildDone stripe member bad) d (d.rebuildDone stripe member bad)) ∧
  (∀ (d : Dev) (stripe member : Nat) (bad : List Nat) (r : Recovery),
      d.det.recov.find? (fun (r : Recovery) => r.op.rung == 3 && recovAt stripe member r) = some r →
      r.got.length < r.peers →
      d.live 0x10 = true →
      Effect (.rebuildDone stripe member bad) d (d)) ∧
  (∀ (d : Dev) (stripe member : Nat) (bad : List Nat) (r : Recovery),
      d.det.recov.find? (fun (r : Recovery) => r.op.rung == 3 && recovAt stripe member r) = some r →
      r.got.any d.tileMigrates = true →
      d.live 0x10 = true →
      Effect (.rebuildDone stripe member bad) d (d)) ∧
  (∀ (d : Dev) (stripe member : Nat) (bad : List Nat),
      d.det.recov = [] →
      d.live 0x10 = true →
      Effect (.rebuildDone stripe member bad) d (d)) ∧
  (∀ (d : Dev) (stripe member : Nat) (bad : List Nat) (r : Recovery) (e : Dev),
      e = (d.each r.got Dev.freeTile).dropRecov stripe member →
      d.det.recov.find? (fun (r : Recovery) => r.op.rung == 3 && recovAt stripe member r) = some r →
      r.peers ≤ r.got.length →
      r.got.any d.tileMigrates = false →
      (∀ t ∈ r.got, d.tileUse t 2 (!bad.contains t) = (d, .good)) →
      d.live 0x10 = true →
      Effect (.rebuildDone stripe member bad) d (((e.inc F.DRV_RUNG3_COUNT).post 0x4204 [r.op.sec.lba % 2 ^ 32, r.op.sec.lba / 2 ^ 32 % 2 ^ 16, stripe % 2 ^ 32]).rebuilt r (xorTiles (r.got.map d.tileBytes)))) ∧
  (∀ (d : Dev),
      d.live 0x10 = true →
      Effect (.surfaceRebuildEnd) d (d.surfaceRebuildEndAct)) ∧
  (∀ (d : Dev) (x : SurfaceRebuild),
      d.drv.surf = some x →
      d.bandCount ≤ x.band →
      d.rebuildBusy = false →
      d.live 0x10 = true →
      Effect (.surfaceRebuildEnd) d ((d.post 0x4208 [x.surface, x.sectors % 2 ^ 32, x.seconds]).nextSurface)) ∧
  (∀ (d : Dev) (x : SurfaceRebuild),
      d.drv.surf = some x →
      d.rebuildBusy = true →
      d.freeBands = 0 →
      d.openBand = none →
      d.live 0x10 = true →
      Effect (.surfaceRebuildEnd) d ((d.post 0x420F [x.surface, d.get F.GRN_TITHE_PERMILLE]).nextSurface)) ∧
  (∀ (d : Dev),
      d.drv.surf = none →
      d.live 0x10 = true →
      Effect (.surfaceRebuildEnd) d (d))

/-- Where no load may begin, CONFIG_LOAD and FLASH_READY leave everything. Until the flash has answered ready CONFIG_LOAD starts its reset, and
FLASH_READY proceeds with the load; a later CONFIG_LOAD loads at once. A flash that does not answer leaves recovery hold with event 0x020C;
two selectors that are not valid leave it with events 0x0206 and 0x0205. The self-test acts once, after DONE: without a failure every test
is done, and BOOT is left for SPIN or REST (a test that fails is judged first: masked, a unit fenced, or SAFE). Where the spec leaves a
point open, the model’s own reading is meant: log entries 19, 91, 126, 127 and 128. -/
def Obligations.ConfigurationLoadsAndSelfTest : Prop :=
  (∀ (d : Dev) (fl : Flash),
      d.live 0x01 = true →
      Effect (.configLoad fl) d (d.configLoadAct fl)) ∧
  (∀ (d : Dev) (fl : Flash),
      d.loadable = false →
      d.live 0x01 = true →
      Effect (.configLoad fl) d (d)) ∧
  (∀ (d : Dev) (fl : Flash),
      d.loadable = true →
      d.cfg.flashReady = false →
      d.live 0x01 = true →
      Effect (.configLoad fl) d ({ d with cfg := { d.cfg with flashReset := true } })) ∧
  (∀ (d : Dev) (fl : Flash),
      d.loadable = true →
      d.cfg.flashReady = true →
      fl.answers = false →
      d.live 0x01 = true →
      Effect (.configLoad fl) d (((d.put F.CFG_FLASH_DENSITY 0).flag F.CFG_FLASH_PROFILE_OK false).recoveryHold fl 0x020C [0, 0])) ∧
  (∀ (d : Dev) (fl : Flash),
      d.live 0x01 = true →
      Effect (.flashReady fl) d (d.flashReadyAct fl)) ∧
  (∀ (d : Dev) (fl : Flash),
      (d.loadable = false ∨ d.cfg.flashReset = false ∨ d.cfg.flashReady = true) →
      d.live 0x01 = true →
      Effect (.flashReady fl) d (d)) ∧
  (∀ (d : Dev) (fl : Flash),
      d.loadable = true →
      d.cfg.flashReset = true →
      d.cfg.flashReady = false →
      d.live 0x01 = true →
      Effect (.flashReady fl) d (({ d with cfg := { d.cfg with flashReady := true } } : Dev).loadConfig fl)) ∧
  (∀ (d : Dev) (fl : Flash) (e0 e1 e g : Dev),
      e0 = { d with cfg := { d.cfg with flashReady := true } } →
      e1 = (e0.put F.CFG_FLASH_DENSITY (fl.density % 32)).flag F.CFG_FLASH_PROFILE_OK true →
      e = ({ e1 with cfg := { e1.cfg with slow := false } } : Dev).put F.CFG_STAT_PHASE 1 →
      g = ((((e.flag F.CFG_SEL_COPY0_VALID false).flag F.CFG_SEL_COPY1_VALID false).post 0x0206 [0]).post 0x0206 [1]) →
      d.loadable = true →
      d.cfg.flashReset = true →
      d.cfg.flashReady = false →
      fl.answers = true →
      fl.profile = true →
      fl.runs = [] →
      fl.faults = [] →
      d.cfg.flash = [] →
      d.live 0x01 = true →
      Effect (.flashReady fl) d (({ g with cfg := { g.cfg with sel := none } } : Dev).recoveryHold fl 0x0205 [0, 0])) ∧
  (∀ (d : Dev) (l : List TestFail),
      d.live 0x01 = true →
      Effect (.selfTest l) d (d.selfTestAct l)) ∧
  (∀ (d : Dev) (l : List TestFail) (e g : Dev),
      e = d.put F.MOD_SELFTEST_DONE 0x7F →
      g = { e with mod := { e.mod with selfTested := true } } →
      d.mod.mode = Mode.boot →
      d.get F.CFG_STAT_PHASE = 5 →
      d.mod.selfTested = false →
      d.harvesting = false →
      l = [] →
      d.wat.safeDue = none →
      d.live 0x01 = true →
      Effect (.selfTest l) d (g.bootExit)) ∧
  (∀ (d : Dev) (l : List TestFail) (x : TestFail) (e g : Dev),
      e = d.put F.MOD_SELFTEST_DONE 0x7F →
      g = e.testJudged x →
      d.mod.mode = Mode.boot →
      d.get F.CFG_STAT_PHASE = 5 →
      d.mod.selfTested = false →
      d.harvesting = false →
      l = [x] →
      (e.testJudged x).wat.safeDue.isSome = true →
      d.live 0x01 = true →
      Effect (.selfTest l) d ({ g with mod := { g.mod with selfTested := true } })) ∧
  (∀ (d : Dev) (l : List TestFail),
      (d.mod.mode ≠ Mode.boot ∨ d.mod.selfTested = true) →
      d.live 0x01 = true →
      Effect (.selfTest l) d (d))

/-- With no seal entry pending, the due boot record is appended and event 0x5001 posted with its index, the boot counter before it, the sections
and flags; a store that cannot be written gives event 0x5013 and appends nothing. A TAL_APPEND of KIND 4 to 7 with no request in progress
starts one under PRESENT without TAMPER, else reads RESULT 1 with REFUSED; KIND 0x10 needs no presence; a GO while a request is in progress
sets KIND alone (log entry 41); an append whose cores disagree twice appends nothing, with events 0x5011, 0x5012 and 0x5013. At its end a
debug entry appended sets DEBUG and gives RESULT 0, an append that fails RESULT 3. The mirror takes its oldest missing entry, in BOOT all of
them with event 0x5010. Where the spec leaves a point open, the model’s own reading is meant: log entries 19, 92, 107, 108 and 156. -/
def Obligations.TallyRecordsAndRequests : Prop :=
  (∀ (d : Dev) (how : AppendEnd),
      d.live 0x11 = true →
      Effect (.talAppendBoot how) d (if d.bootRecordDue && !d.harvesting then d.talBoot how else d)) ∧
  (∀ (d : Dev) (how : AppendEnd),
      d.bootRecordDue = true →
      d.harvesting = false →
      d.tal.pending = [] →
      how = .failed →
      d.live 0x11 = true →
      Effect (.talAppendBoot how) d (d.post 0x5013 [kindBoot, d.get F.TAL_INDEX_VALUE])) ∧
  (∀ (d : Dev) (how : AppendEnd) (r : Dev),
      r = (d.talAppend kindBoot (d.digestRegs F.TAL_ROOT_BYTES) .good).1 →
      d.bootRecordDue = true →
      d.harvesting = false →
      d.tal.pending = [] →
      how = .good →
      d.live 0x11 = true →
      Effect (.talAppendBoot how) d (({ r with mod := { r.mod with bootRecorded := true } } : Dev).post 0x5001 [d.get F.TAL_INDEX_VALUE, d.get F.TAL_BOOT_COUNT_VALUE, d.tal.sections, d.tal.flags])) ∧
  (∀ (d : Dev) (how : AppendEnd),
      d.bootRecordDue = true →
      d.harvesting = false →
      d.tal.pending = [] →
      d.talLast.isSome = true →
      how = .disagreed →
      d.live 0x11 = true →
      Effect (.talAppendBoot how) d (((d.disagree 0 false).disagree 0 true).post 0x5013 [kindBoot, d.get F.TAL_INDEX_VALUE])) ∧
  (∀ (d : Dev) (how : AppendEnd),
      d.bootRecordDue = false →
      d.live 0x11 = true →
      Effect (.talAppendBoot how) d (d)) ∧
  (∀ (d : Dev),
      d.clk.stopped = false →
      Effect (.talAppendKeyRotate) d (d.talStart kindRotate none)) ∧
  (∀ (d : Dev) (p : Dev),
      p = d.put F.TAL_APPEND_KIND 4 →
      d.tal.req = none →
      d.on F.PRS_STAT_PRESENT = true →
      d.on F.PRS_STAT_TAMPER = false →
      d.clk.stopped = false →
      Effect (.talAppendKeyRotate) d (({ p with tal := { p.tal with req := some ⟨4, p.digestRegs F.TAL_PAYLOAD_BYTES, none⟩ } } : Dev).put F.TAL_STAT_BUSY 1)) ∧
  (∀ (d : Dev),
      d.tal.req = none →
      (d.on F.PRS_STAT_PRESENT = false ∨ d.on F.PRS_STAT_TAMPER = true) →
      d.clk.stopped = false →
      Effect (.talAppendKeyRotate) d (((d.put F.TAL_APPEND_KIND 4).put F.TAL_STAT_RESULT 1).put F.TAL_INT_STAT_REFUSED 1)) ∧
  (∀ (d : Dev),
      d.clk.stopped = false →
      Effect (.talAppendSvnFloor) d (d.talStart kindFloor none)) ∧
  (∀ (d : Dev) (p : Dev),
      p = d.put F.TAL_APPEND_KIND 5 →
      d.tal.req = none →
      d.on F.PRS_STAT_PRESENT = true →
      d.on F.PRS_STAT_TAMPER = false →
      d.clk.stopped = false →
      Effect (.talAppendSvnFloor) d (({ p with tal := { p.tal with req := some ⟨5, p.digestRegs F.TAL_PAYLOAD_BYTES, none⟩ } } : Dev).put F.TAL_STAT_BUSY 1)) ∧
  (∀ (d : Dev),
      d.tal.req = none →
      (d.on F.PRS_STAT_PRESENT = false ∨ d.on F.PRS_STAT_TAMPER = true) →
      d.clk.stopped = false →
      Effect (.talAppendSvnFloor) d (((d.put F.TAL_APPEND_KIND 5).put F.TAL_STAT_RESULT 1).put F.TAL_INT_STAT_REFUSED 1)) ∧
  (∀ (d : Dev),
      d.clk.stopped = false →
      Effect (.talAppendDebugUnlock) d (d.talStart kindDebug none)) ∧
  (∀ (d : Dev) (p : Dev),
      p = d.put F.TAL_APPEND_KIND 6 →
      d.tal.req = none →
      d.on F.PRS_STAT_PRESENT = true →
      d.on F.PRS_STAT_TAMPER = false →
      d.clk.stopped = false →
      Effect (.talAppendDebugUnlock) d (({ p with tal := { p.tal with req := some ⟨6, p.digestRegs F.TAL_PAYLOAD_BYTES, none⟩ } } : Dev).put F.TAL_STAT_BUSY 1)) ∧
  (∀ (d : Dev),
      d.tal.req = none →
      (d.on F.PRS_STAT_PRESENT = false ∨ d.on F.PRS_STAT_TAMPER = true) →
      d.clk.stopped = false →
      Effect (.talAppendDebugUnlock) d (((d.put F.TAL_APPEND_KIND 6).put F.TAL_STAT_RESULT 1).put F.TAL_INT_STAT_REFUSED 1)) ∧
  (∀ (d : Dev),
      d.clk.stopped = false →
      Effect (.talAppendUnsealBand) d (d.talStart kindUnseal none)) ∧
  (∀ (d : Dev) (p : Dev),
      p = d.put F.TAL_APPEND_KIND 7 →
      d.tal.req = none →
      d.on F.PRS_STAT_PRESENT = true →
      d.on F.PRS_STAT_TAMPER = false →
      d.clk.stopped = false →
      Effect (.talAppendUnsealBand) d (({ p with tal := { p.tal with req := some ⟨7, p.digestRegs F.TAL_PAYLOAD_BYTES, none⟩ } } : Dev).put F.TAL_STAT_BUSY 1)) ∧
  (∀ (d : Dev),
      d.tal.req = none →
      (d.on F.PRS_STAT_PRESENT = false ∨ d.on F.PRS_STAT_TAMPER = true) →
      d.clk.stopped = false →
      Effect (.talAppendUnsealBand) d (((d.put F.TAL_APPEND_KIND 7).put F.TAL_STAT_RESULT 1).put F.TAL_INT_STAT_REFUSED 1)) ∧
  (∀ (d : Dev),
      d.clk.stopped = false →
      Effect (.talAppendAttestation) d (d.talStart kindAttest none)) ∧
  (∀ (d : Dev) (p : Dev),
      p = d.put F.TAL_APPEND_KIND 16 →
      d.tal.req = none →
      d.clk.stopped = false →
      Effect (.talAppendAttestation) d (({ p with tal := { p.tal with req := some ⟨16, p.digestRegs F.TAL_PAYLOAD_BYTES, none⟩ } } : Dev).put F.TAL_STAT_BUSY 1)) ∧
  (∀ (d : Dev),
      d.tal.req.isSome = true →
      d.clk.stopped = false →
      Effect (.talAppendSvnFloor) d (d.put F.TAL_APPEND_KIND 5)) ∧
  (∀ (d : Dev) (how : AppendEnd) (bad : List (BitVec 32)),
      d.live 0x11 = true →
      Effect (.talRequestDone how bad) d (d.talRequestDoneAct how bad)) ∧
  (∀ (d : Dev) (how : AppendEnd) (bad : List (BitVec 32)),
      bad = [] →
      d.tal.req = none →
      d.live 0x11 = true →
      Effect (.talRequestDone how bad) d (d)) ∧
  (∀ (d : Dev) (how : AppendEnd) (bad : List (BitVec 32)) (p : List Nat) (x : Dev),
      x = ({ d with tal := { d.tal with req := none } } : Dev).put F.TAL_STAT_BUSY 0 →
      bad = [] →
      d.tal.req = some ⟨kindFloor, p, none⟩ →
      d.on F.PRS_STAT_TAMPER = false →
      how = .failed →
      d.live 0x11 = true →
      Effect (.talRequestDone how bad) d (((x.post 0x5013 [kindFloor, x.get F.TAL_INDEX_VALUE]).put F.TAL_STAT_RESULT 3).put F.TAL_INT_STAT_DONE 1)) ∧
  (∀ (d : Dev) (how : AppendEnd) (bad : List (BitVec 32)) (p : List Nat) (x y : Dev),
      x = ({ d with tal := { d.tal with req := none } } : Dev).put F.TAL_STAT_BUSY 0 →
      y = (x.talAppend kindDebug p .good).1 →
      bad = [] →
      d.tal.req = some ⟨kindDebug, p, none⟩ →
      d.on F.PRS_STAT_TAMPER = false →
      how = .good →
      d.live 0x11 = true →
      Effect (.talRequestDone how bad) d ((((y.setDebug true).post 0x5009 [x.get F.TAL_INDEX_VALUE]).put F.TAL_STAT_RESULT 0).put F.TAL_INT_STAT_DONE 1)) ∧
  (∀ (d : Dev),
      d.live 0x11 = true →
      Effect (.mirrorProgram) d (d.mirrorProgramAct)) ∧
  (∀ (d : Dev),
      d.cfg.sel = none →
      d.live 0x11 = true →
      Effect (.mirrorProgram) d (d)) ∧
  (∀ (d : Dev) (i : Nat),
      d.cfg.sel.isSome = true →
      d.tal.lacking = [i] →
      d.harvesting = false →
      d.mod.mode = Mode.boot →
      d.live 0x11 = true →
      Effect (.mirrorProgram) d ((d.mirrorPut i).post 0x5010 [1])) ∧
  (∀ (d : Dev) (i : Nat) (l : List Nat),
      d.cfg.sel.isSome = true →
      d.tal.lacking = i :: l →
      d.harvesting = false →
      d.mod.mode ≠ Mode.boot →
      d.live 0x11 = true →
      Effect (.mirrorProgram) d (d.mirrorPut i))

/-- A computation on whose whole course the two cores agreed is counted, gives way to the next, and is delivered by its class: a class 1 check
is decided, a class 2 value is kept. A disagreement is counted with DISAGREE and begins the computation again with event 0x5011; at a second
one it is dropped with event 0x5012. A class 3 job still open is not delivered. GO with no job in progress takes the fields, clears the
input and asks for the job; with one in progress, and FINISH or data without one, the write is ignored with WR_IGN. Data is taken eight
bytes at a time, the lowest first; FINISH closes the input. Where the spec leaves a point open, the model’s own reading is meant: log
entries 5, 19, 108 and 156. -/
def Obligations.SealEngineComputesAndChecksItself : Prop :=
  (∀ (d : Dev) (agree : Bool) (stored : List (BitVec 8)),
      d.live 0x12 = true →
      Effect (.sealComputationDone agree stored) d (d.compDone agree (stored.map (fun b => b.toNat)))) ∧
  (∀ (d : Dev) (agree : Bool) (stored : List (BitVec 8)) (x : Comp),
      d.sea.cur = some x →
      agree = true →
      x.cls = 2 →
      d.live 0x12 = true →
      Effect (.sealComputationDone agree stored) d (((d.inc F.SEA_COUNT_COUNT).nextComp).keepTag x.band x.lba (sealValue x.band x.lba x.data))) ∧
  (∀ (d : Dev) (agree : Bool) (stored : List (BitVec 8)) (x : Comp),
      d.sea.cur = some x →
      agree = true →
      x.cls = 1 →
      d.live 0x12 = true →
      Effect (.sealComputationDone agree stored) d (((d.inc F.SEA_COUNT_COUNT).nextComp).checkSealed x (stored.map (fun b => b.toNat)))) ∧
  (∀ (d : Dev) (agree : Bool) (stored : List (BitVec 8)) (x : Comp) (e : Dev),
      e = (d.inc F.SEA_DISAGREE_COUNT).put F.SEA_INT_STAT_DISAGREE 1 →
      d.sea.cur = some x →
      agree = false →
      x.cls ≠ 3 →
      x.redo = false →
      d.live 0x12 = true →
      Effect (.sealComputationDone agree stored) d (({ e with sea := { e.sea with cur := some { x with redo := true } } } : Dev).post 0x5011 [x.cls])) ∧
  (∀ (d : Dev) (agree : Bool) (stored : List (BitVec 8)) (x : Comp) (e : Dev),
      e = (d.inc F.SEA_DISAGREE_COUNT).put F.SEA_INT_STAT_DISAGREE 1 →
      d.sea.cur = some x →
      agree = false →
      x.cls ≠ 3 →
      x.redo = true →
      d.live 0x12 = true →
      Effect (.sealComputationDone agree stored) d ((e.post 0x5012 [x.cls]).nextComp)) ∧
  (∀ (d : Dev) (agree : Bool) (stored : List (BitVec 8)) (x : Comp),
      d.sea.cur = some x →
      x.cls = 3 →
      d.sea.finished = false →
      d.live 0x12 = true →
      Effect (.sealComputationDone agree stored) d (d)) ∧
  (∀ (d : Dev) (agree : Bool) (stored : List (BitVec 8)),
      d.sea.cur = none →
      d.live 0x12 = true →
      Effect (.sealComputationDone agree stored) d (d)) ∧
  (∀ (d : Dev) (v : BitVec 31),
      d.clk.stopped = false →
      Effect (.seaJobGo v) d (d.jobWrite (2 ^ 31 + v.toNat))) ∧
  (∀ (d : Dev) (v : BitVec 31) (e : Dev),
      e = d.jobFields (2 ^ 31 + v.toNat) →
      v.toNat < 2 ^ 29 →
      d.on F.SEA_STAT_JOB = false →
      e.on F.SEA_STAT_JOB = false →
      d.clk.stopped = false →
      Effect (.seaJobGo v) d ((({ e with sea := { e.sea with input := [], finished := false } } : Dev).put F.SEA_STAT_JOB 1).askComp { cls := 3, data := e.sea.key })) ∧
  (∀ (d : Dev) (v : BitVec 31) (e : Dev),
      e = d.jobFields (2 ^ 31 + v.toNat) →
      v.toNat < 2 ^ 29 →
      d.on F.SEA_STAT_JOB = true →
      e.on F.SEA_STAT_JOB = true →
      d.clk.stopped = false →
      Effect (.seaJobGo v) d (e.put F.SEA_JOB_WR_IGN 1)) ∧
  (∀ (d : Dev) (v : BitVec 64),
      d.clk.stopped = false →
      Effect (.seaDataWrite v) d (d.seaData v.toNat)) ∧
  (∀ (d : Dev) (v : BitVec 64),
      d.on F.SEA_STAT_JOB = true →
      d.sea.finished = false →
      d.clk.stopped = false →
      Effect (.seaDataWrite v) d ({ d with sea := { d.sea with input := d.sea.input ++ leBytes 8 v.toNat } })) ∧
  (∀ (d : Dev) (v : BitVec 64),
      (d.on F.SEA_STAT_JOB = false ∨ d.sea.finished = true) →
      d.clk.stopped = false →
      Effect (.seaDataWrite v) d (d.put F.SEA_JOB_WR_IGN 1)) ∧
  (∀ (d : Dev) (v : BitVec 30),
      d.clk.stopped = false →
      Effect (.seaJobFinish v) d (d.jobWrite (2 ^ 30 + v.toNat))) ∧
  (∀ (d : Dev) (v : BitVec 30) (e : Dev),
      e = d.jobFields (2 ^ 30 + v.toNat) →
      v.toNat < 2 ^ 29 →
      e.on F.SEA_STAT_JOB = true →
      e.sea.finished = false →
      d.clk.stopped = false →
      Effect (.seaJobFinish v) d ({ e with sea := { e.sea with finished := true } })) ∧
  (∀ (d : Dev) (v : BitVec 30) (e : Dev),
      e = d.jobFields (2 ^ 30 + v.toNat) →
      v.toNat < 2 ^ 29 →
      e.on F.SEA_STAT_JOB = false →
      d.clk.stopped = false →
      Effect (.seaJobFinish v) d (e.put F.SEA_JOB_WR_IGN 1))

/-- A low sample of the jumper counts HOLD_MS and the sample that reaches 2,000 begins presence (600 s, TAMPER cleared, event 0x5002); a high
sample clears HOLD_MS. Presence ends at its expiry or at a write of PRS_REVOKE, with event 0x5003, and waits to be rearmed; without presence
these change nothing. A loop sample drives the next bit, counts a difference, and the fourth in a row finds the loop open. The oldest
pending seal entry is appended while CORE is on. BYPASS, IDCODE and the TAP reset act at once; SAMPLE, EXTEST and DBG select the bypass
register while DEBUG reads 0; OTPPROG is accepted only before ROOT_LOCK under PRESENT or DEBUG, and sets it. Where the spec leaves a point
open, the model’s own reading is meant: log entries 19, 43, 44 and 105. -/
def Obligations.PresenceLoopAndJtag : Prop :=
  (∀ (d : Dev) (low : Bool),
      Effect (.presSample low) d (if !d.mod.porstHigh then d else (d.msTick).presSample low)) ∧
  (∀ (d : Dev) (low : Bool),
      d.mod.porstHigh = false →
      Effect (.presSample low) d (d)) ∧
  (∀ (d : Dev) (low : Bool) (m n : Dev),
      m = d.msTick →
      n = (m.put F.PRS_STAT_JUMPER 1).put F.PRS_HOLD_MS 2000 →
      d.mod.porstHigh = true →
      low = true →
      m.get F.PRS_HOLD_MS = 1999 →
      m.on F.PRS_STAT_PRESENT = false →
      m.on F.PRS_STAT_REARM_WAIT = false →
      Effect (.presSample low) d (({ n with prs := { n.prs with highRun := 0 } } : Dev).presenceBegins)) ∧
  (∀ (d : Dev) (low : Bool) (m n : Dev),
      m = d.msTick →
      n = (m.put F.PRS_STAT_JUMPER 0).put F.PRS_HOLD_MS 0 →
      d.mod.porstHigh = true →
      low = false →
      m.on F.PRS_STAT_PRESENT = false →
      m.on F.PRS_STAT_REARM_WAIT = false →
      Effect (.presSample low) d ({ n with prs := { n.prs with highRun := min 100 (n.prs.highRun + 1) } })) ∧
  (∀ (d : Dev),
      Effect (.presenceExpire) d (d.presenceEnds 0)) ∧
  (∀ (d : Dev) (e : Dev),
      e = ((d.put F.PRS_STAT_PRESENT 0).put F.PRS_STAT_REMAIN_S 0).put F.PRS_STAT_REARM_WAIT 1 →
      d.on F.PRS_STAT_PRESENT = true →
      Effect (.presenceExpire) d ((({ e with prs := { e.prs with msLeft := 0, highRun := 0 } } : Dev).put F.PRS_INT_STAT_ENDED 1).post 0x5003 [0])) ∧
  (∀ (d : Dev),
      d.on F.PRS_STAT_PRESENT = false →
      Effect (.presenceExpire) d (d)) ∧
  (∀ (d : Dev),
      d.clk.stopped = false →
      Effect (.prsRevokeWrite) d (d.presenceEnds 1)) ∧
  (∀ (d : Dev) (e : Dev),
      e = ((d.put F.PRS_STAT_PRESENT 0).put F.PRS_STAT_REMAIN_S 0).put F.PRS_STAT_REARM_WAIT 1 →
      d.on F.PRS_STAT_PRESENT = true →
      d.clk.stopped = false →
      Effect (.prsRevokeWrite) d ((({ e with prs := { e.prs with msLeft := 0, highRun := 0 } } : Dev).put F.PRS_INT_STAT_ENDED 1).post 0x5003 [1])) ∧
  (∀ (d : Dev) (b : Bool),
      Effect (.sealLoopSample b) d (if d.mod.porstHigh then d.sealSample b else d)) ∧
  (∀ (d : Dev) (b : Bool) (e : Dev),
      e = { d with pins := { d.pins with sealA := d.prs.lfsr % 2 == 1 }, prs := { d.prs with lfsr := lfsrNext d.prs.lfsr, differ := 4, same := 0 } } →
      d.mod.porstHigh = true →
      d.on F.PRS_STAT_LOOP_FITTED = true →
      b ≠ (d.prs.lfsr % 2 == 1) →
      d.prs.differ = 3 →
      Effect (.sealLoopSample b) d ((e.inc F.PRS_LOOP_MISMATCH).loopChanged true)) ∧
  (∀ (d : Dev) (b : Bool),
      d.mod.porstHigh = true →
      d.on F.PRS_STAT_LOOP_FITTED = false →
      Effect (.sealLoopSample b) d ({ d with pins := { d.pins with sealA := false } })) ∧
  (∀ (d : Dev) (how : AppendEnd),
      d.live 0x11 = true →
      Effect (.sealEntryAppend how) d (if !d.powered 1 || d.harvesting then d else d.talPendingOne how)) ∧
  (∀ (d : Dev) (how : AppendEnd),
      d.tal.pending = [] →
      d.live 0x11 = true →
      Effect (.sealEntryAppend how) d (d)) ∧
  (∀ (d : Dev) (how : AppendEnd) (x : Nat) (l : List (Bool × Nat)) (r : Dev),
      r = (d.talAppend kindOpened (leBytes 8 x) .good).1 →
      d.tal.pending = (true, x) :: l →
      d.powered 1 = true →
      d.harvesting = false →
      how = .good →
      d.live 0x11 = true →
      Effect (.sealEntryAppend how) d ({ r with tal := { r.tal with pending := l } })) ∧
  (∀ (d : Dev) (how : AppendEnd) (x : Nat) (l : List (Bool × Nat)),
      d.tal.pending = (false, x) :: l →
      d.powered 1 = true →
      d.harvesting = false →
      how = .failed →
      d.live 0x11 = true →
      Effect (.sealEntryAppend how) d (d.post 0x5013 [kindClosed, d.get F.TAL_INDEX_VALUE])) ∧
  (∀ (d : Dev),
      Effect (.jtagBypass) d ({ d with pins := { d.pins with ir := 0xFF, dr := 0 } })) ∧
  (∀ (d : Dev),
      Effect (.jtagIdcode) d ({ d with pins := { d.pins with ir := 1, dr := 0x08420547 } })) ∧
  (∀ (d : Dev),
      Effect (.jtagTapReset) d ({ d with pins := { d.pins with ir := 1, dr := 0x08420547 } })) ∧
  (∀ (d : Dev) (pattern : Nat),
      Effect (.jtagSamplePreload pattern) d (d.jtagSamplePreloadAct pattern)) ∧
  (∀ (d : Dev) (p : Nat),
      d.on F.TAL_STAT_DEBUG = false →
      Effect (.jtagSamplePreload p) d (d.bypass)) ∧
  (∀ (d : Dev) (p : Nat),
      d.on F.TAL_STAT_DEBUG = true →
      Effect (.jtagSamplePreload p) d ({ d.fresh.2 with pins := { d.pins with ir := 2, dr := d.fresh.1, boundary := p } })) ∧
  (∀ (d : Dev) (pattern : Nat),
      Effect (.jtagExtest pattern) d (d.jtagExtestAct pattern)) ∧
  (∀ (d : Dev) (p : Nat),
      d.on F.TAL_STAT_DEBUG = true →
      d.mod.mode = Mode.safe →
      Effect (.jtagExtest p) d ({ d.fresh.2 with pins := { d.pins with ir := 0, dr := d.fresh.1, boundary := p } })) ∧
  (∀ (d : Dev) (p : Nat),
      d.on F.TAL_STAT_DEBUG = false →
      Effect (.jtagExtest p) d (d.bypass)) ∧
  (∀ (d : Dev),
      Effect (.jtagDbg) d (d.gatedIr (fun d => d.captureIr jtagDbg))) ∧
  (∀ (d : Dev),
      d.on F.TAL_STAT_DEBUG = true →
      Effect (.jtagDbg) d ({ d.fresh.2 with pins := { d.pins with ir := 0x10, dr := d.fresh.1 } })) ∧
  (∀ (d : Dev) (digest : BitVec 512),
      Effect (.jtagOtpprog digest) d (d.jtagOtpprogAct digest)) ∧
  (∀ (d : Dev) (g : BitVec 512) (e : Dev),
      e = d.putDigest F.TAL_ROOT_BYTES (leBytes 64 g.toNat) →
      d.on F.TAL_STAT_ROOT_LOCK = false →
      d.on F.PRS_STAT_PRESENT = true →
      Effect (.jtagOtpprog g) d ((((({ e with pins := { e.pins with ir := 0x20, dr := 0 } } : Dev).put F.TAL_STAT_ROOT_LOCK 1).put F.TAL_SVN_FLOOR_FLOOR 0).put F.TAL_INDEX_VALUE 0).put F.PRS_COUNT_OPENINGS 0)) ∧
  (∀ (d : Dev) (g : BitVec 512),
      d.on F.TAL_STAT_ROOT_LOCK = true →
      Effect (.jtagOtpprog g) d (d.bypass))

/-- EVENT_REPORT puts an event (other than those that pass the Watch by) into its block's port; with the clocks stopped only the blocks of AON
report. WATCH_TAKE takes the one event that waits, from whichever port holds it, and stages it in the Day-Book. DISCARD_REPORT turns a
port's count of discarded events into an event 0x6007 and clears the count. FAULTN_PULSE_END ends the pulse. While no register fault stands
FORCE_SAFE posts 0x6008 with the mode, a kick after DONE arms the watchdog of a core not fenced, and WAT_FAULTN drives the ball; while one
stands these writes have no effect. WATCH_REG_FAULT marks the fault, stages 0x6003 and, with no Harvest, no SAFE and no decision due, makes
the SAFE decision due. CORE_WATCHDOG_EXPIRE of an armed core not yet fenced sets its bit of WAT_CORES_FENCED and WAT_INT_STAT.CORE, disarms
it, puts it in reset without its reservation and records 0x6005 with the core, cause 0 and the number of cores left; with fewer than three
left 0x6006 with the mask is recorded too. A watchdog that is not armed does nothing. Where the spec leaves a point open, the model’s own
reading is meant: log entries 19, 103 and 157. -/
def Obligations.WatchTakesEventsAndWrites : Prop :=
  (∀ (d : Dev) (code : BitVec 16) (p0 p1 p2 p3 : BitVec 32),
      Effect (.eventReport code p0 p1 p2 p3) d (d.eventReportAct code p0 p1 p2 p3)) ∧
  (∀ (d : Dev) (code : BitVec 16) (p0 p1 p2 p3 : BitVec 32),
      [0x0103, 0x0104, 0x0105, 0x0106, 0x6003].contains code.toNat = false →
      (d.clk.stopped = false ∨ aonReporter code.toNat = true) →
      Effect (.eventReport code p0 p1 p2 p3) d (d.post code.toNat [p0.toNat, p1.toNat, p2.toNat, p3.toNat])) ∧
  (∀ (d : Dev) (code : BitVec 16) (p0 p1 p2 p3 : BitVec 32),
      d.clk.stopped = true →
      aonReporter code.toNat = false →
      Effect (.eventReport code p0 p1 p2 p3) d (d)) ∧
  (∀ (d : Dev),
      Effect (.watchTake) d (d.watchTake)) ∧
  (∀ (d : Dev) (n : Fin 20) (e : Event),
      d.wat.ports = (List.replicate 20 ({} : Port)).set n.val { ordinary := [e] } →
      Events.severity e.code = some 0 →
      d.dbk.staged.length < 32 →
      Effect (.watchTake) d (({ d with wat := { d.wat with ports := d.wat.ports.set n.val {}, served := n.val } } : Dev).stage e 0)) ∧
  (∀ (d : Dev),
      Effect (.discardReport) d (d.discardReportAct)) ∧
  (∀ (d : Dev) (n : Fin 20) (k : Nat),
      d.wat.ports = (List.replicate 20 ({} : Port)).set n.val { dropped := k + 1 } →
      Effect (.discardReport) d (({ d with wat := { d.wat with ports := List.replicate 20 {} } } : Dev).post 0x6007 [n.val, k + 1])) ∧
  (∀ (d : Dev),
      Effect (.faultnPulseEnd) d (d.put F.WAT_STAT_PULSE 0)) ∧
  (∀ (d : Dev),
      d.clk.stopped = false →
      Effect (.watForceSafe) d (d.forceSafe)) ∧
  (∀ (d : Dev),
      d.on F.WAT_STAT_REG_FAULT = false →
      d.clk.stopped = false →
      Effect (.watForceSafe) d (d.post 0x6008 [d.mod.mode.code])) ∧
  (∀ (d : Dev),
      d.on F.WAT_STAT_REG_FAULT = true →
      d.clk.stopped = false →
      Effect (.watForceSafe) d (d)) ∧
  (∀ (d : Dev) (n : Fin 4),
      d.clk.stopped = false →
      Effect (.watKickWrite n) d (d.watWrite (fun d => d.kick n.val))) ∧
  (∀ (d : Dev) (n : Fin 4),
      d.on F.WAT_STAT_REG_FAULT = false →
      d.bit F.WAT_CORES_FENCED n.val = false →
      d.get F.CFG_STAT_PHASE = 5 →
      d.clk.stopped = false →
      Effect (.watKickWrite n) d ({ d with wat := { d.wat with armed := d.wat.armed.set n.val true } })) ∧
  (∀ (d : Dev) (level : Bool),
      d.clk.stopped = false →
      Effect (.watFaultnWrite level) d (d.faultnWrite level)) ∧
  (∀ (d : Dev) (b : Bool),
      d.on F.WAT_STAT_REG_FAULT = false →
      d.clk.stopped = false →
      Effect (.watFaultnWrite b) d ({ d.flag F.WAT_FAULTN_LEVEL b with wat := { d.wat with driven := d.wat.driven || !b } })) ∧
  (∀ (d : Dev) (off byte : BitVec 32),
      Effect (.watchRegFault off byte) d (d.watchRegFaultAct off byte)) ∧
  (∀ (d : Dev) (off byte : BitVec 32),
      ((d.put F.WAT_STAT_REG_FAULT 1).stageDirect 0x6003 [off.toNat, byte.toNat]).harvesting = false →
      ((d.put F.WAT_STAT_REG_FAULT 1).stageDirect 0x6003 [off.toNat, byte.toNat]).on F.WAT_STAT_SAFE = false →
      ((d.put F.WAT_STAT_REG_FAULT 1).stageDirect 0x6003 [off.toNat, byte.toNat]).wat.safeDue = none →
      Effect (.watchRegFault off byte) d (let e := (d.put F.WAT_STAT_REG_FAULT 1).stageDirect 0x6003 [off.toNat, byte.toNat]
        { e with wat := { e.wat with driven := true, safeDue := some (0x6003, 0) } })) ∧
  (∀ (d : Dev) (n : Fin 4),
      Effect (.coreWatchdogExpire n) d (if at' d.wat.armed n.val false then d.coreFence n.val 0 else d)) ∧
  (∀ (d : Dev) (n : Fin 4),
      at' d.wat.armed n.val false = true →
      d.bit F.WAT_CORES_FENCED n.val = false →
      Effect (.coreWatchdogExpire n) d (let e : Dev := { ((d.setBit F.WAT_CORES_FENCED n.val true).put F.WAT_INT_STAT_CORE 1) with
          wat := { d.wat with armed := d.wat.armed.set n.val false }, bus := { d.bus with resv := d.bus.resv.set n.val none, cores := d.bus.cores.set n.val {} } }
        let left := 4 - popCount 4 (e.get F.WAT_CORES_FENCED)
        let e := e.post 0x6005 [n.val, 0, left]
        if left < 3 then e.post 0x6006 [e.get F.WAT_CORES_FENCED] else e)) ∧
  (∀ (d : Dev) (n : Fin 4),
      at' d.wat.armed n.val false = false →
      Effect (.coreWatchdogExpire n) d (d))

/-- A freeze sets FROZEN and clears the four counts of events missed; THAW and the expiry end it, record 0x6102 where a count is not zero, and
only the expiry sets FREEZE_END (stated with nothing staged). The cursor and NEXT set the cursor and WIN_BUSY, and the refill clears it and
shows the window, past a record whose row is not readable. A second's refill adds the policy's tokens up to 32,768 (stated with the bucket
never empty). OPSEC_TICK counts a second while PORST_N is high, and OPSEC_COMMIT stores the count. A commit or a repeat commit during a
freeze does nothing; a commit with nothing staged changes nothing. Where the spec leaves a point open, the model’s own reading is meant: log
entries 19, 104 and 157. -/
def Obligations.DayBookFreezesAndCursor : Prop :=
  (∀ (d : Dev),
      d.clk.stopped = false →
      Effect (.dbkFreezeWrite) d (d.startFreeze)) ∧
  (∀ (d : Dev),
      d.on F.DBK_STAT_FROZEN = false →
      d.clk.stopped = false →
      Effect (.dbkFreezeWrite) d ((((((d.put F.DBK_STAT_FROZEN 1).put F.DBK_CTRL_FREEZE 1).put F.DBK_FROZEN_SEV01 0).put F.DBK_FROZEN_SEV2 0).put F.DBK_FROZEN_SEV3 0).put F.DBK_FROZEN_SEV4 0)) ∧
  (∀ (d : Dev),
      d.clk.stopped = false →
      Effect (.dbkThawWrite) d (d.endFreeze false)) ∧
  (∀ (d : Dev),
      d.on F.DBK_STAT_FROZEN = true →
      d.dbk.staged = [] →
      d.clk.stopped = false →
      Effect (.dbkThawWrite) d (let e := (d.put F.DBK_STAT_FROZEN 0).put F.DBK_CTRL_FREEZE 0
        let l := [d.get F.DBK_FROZEN_SEV01, d.get F.DBK_FROZEN_SEV2, d.get F.DBK_FROZEN_SEV3, d.get F.DBK_FROZEN_SEV4]
        if l.all (fun x => x == 0) then e else e.post 0x6102 l)) ∧
  (∀ (d : Dev),
      Effect (.freezeExpire) d (if d.on F.DBK_STAT_FROZEN then d.endFreeze true else d)) ∧
  (∀ (d : Dev),
      d.on F.DBK_STAT_FROZEN = true →
      d.dbk.staged = [] →
      Effect (.freezeExpire) d (let e := ((d.put F.DBK_STAT_FROZEN 0).put F.DBK_CTRL_FREEZE 0).put F.DBK_INT_STAT_FREEZE_END 1
        let l := [d.get F.DBK_FROZEN_SEV01, d.get F.DBK_FROZEN_SEV2, d.get F.DBK_FROZEN_SEV3, d.get F.DBK_FROZEN_SEV4]
        if l.all (fun x => x == 0) then e else e.post 0x6102 l)) ∧
  (∀ (d : Dev) (ok : Bool),
      Effect (.daybookCommit ok) d (if d.on F.DBK_STAT_FROZEN then d else d.commitStaged ok)) ∧
  (∀ (d : Dev) (ok : Bool),
      (d.on F.DBK_STAT_FROZEN = true ∨ d.dbk.staged = []) →
      Effect (.daybookCommit ok) d (d)) ∧
  (∀ (d : Dev) (ok : Bool) (x : Rec) (l : List Rec) (n q : Nat) (y : Rec),
      d.on F.DBK_STAT_FROZEN = false →
      d.dbk.staged = x :: l →
      d.get F.DBK_BUDGET_TOKENS ≠ 0 →
      d.newestRow = some (n, q, y) →
      y.event = x.event →
      Effect (.daybookCommit ok) d ({ d with dbk := { d.dbk with staged := l, gathered := d.dbk.gathered + 1 + x.rep } })) ∧
  (∀ (d : Dev) (ok : Bool),
      Effect (.repeatCommit ok) d (d.repeatCommitAct ok)) ∧
  (∀ (d : Dev) (ok : Bool) (n q : Nat) (y : Rec),
      d.on F.DBK_STAT_FROZEN = false →
      d.newestRow = some (n, q, y) →
      2 ≤ y.sev →
      d.dbk.gathered = 0 →
      Effect (.repeatCommit ok) d (d.windowLive)) ∧
  (∀ (d : Dev),
      Effect (.tokenRefill) d (d.refill)) ∧
  (∀ (d : Dev),
      d.dbk.emptied = false →
      Effect (.tokenRefill) d (d.put F.DBK_BUDGET_TOKENS (min 32768 (d.get F.DBK_BUDGET_TOKENS + d.policy 0x6101 2000)))) ∧
  (∀ (d : Dev) (v : BitVec 48),
      d.clk.stopped = false →
      Effect (.dbkCursorWrite v) d (((d.put F.DBK_CURSOR_LO_CURSOR v.toNat).put F.DBK_CURSOR_HI_CURSOR (v.toNat / 2 ^ 32)).put F.DBK_STAT_WIN_BUSY 1)) ∧
  (∀ (d : Dev),
      d.clk.stopped = false →
      Effect (.dbkNextWrite) d (let v := (d.get F.DBK_WIN_SEQ_LO_SEQ + 2 ^ 32 * d.get F.DBK_WIN_SEQ_HI_SEQ + 1) % 2 ^ 48
        ((d.put F.DBK_CURSOR_LO_CURSOR v).put F.DBK_CURSOR_HI_CURSOR (v / 2 ^ 32)).put F.DBK_STAT_WIN_BUSY 1)) ∧
  (∀ (d : Dev) (readable : Bool),
      Effect (.dbkWindowRefilled readable) d (d.dbkWindowRefilledAct readable)) ∧
  (∀ (d : Dev) (readable : Bool),
      d.on F.DBK_STAT_WIN_BUSY = true →
      readable = true →
      Effect (.dbkWindowRefilled readable) d ((d.put F.DBK_STAT_WIN_BUSY 0).showWindow)) ∧
  (∀ (d : Dev) (readable : Bool) (n : Nat),
      d.on F.DBK_STAT_WIN_BUSY = true →
      readable = false →
      d.windowRow = some n →
      Effect (.dbkWindowRefilled readable) d (((d.rowUnreadable n).put F.DBK_STAT_WIN_BUSY 0).showWindow)) ∧
  (∀ (d : Dev),
      Effect (.opsecTick) d (d.opsecTickAct)) ∧
  (∀ (d : Dev),
      d.mod.porstHigh = true →
      Effect (.opsecTick) d ((d.put F.DBK_OPSEC_SECONDS (d.get F.DBK_OPSEC_SECONDS + 1)).secondCounts)) ∧
  (∀ (d : Dev),
      Effect (.opsecCommit) d ({ d with dbk := { d.dbk with opsecNv := d.get F.DBK_OPSEC_SECONDS } }))

/-- A byte written below 64 waiting joins the transmit queue, one more sets TX_DROP and ERR; a byte sent leaves the queue while the UART is
enabled. A byte received with its stop bit joins the receive queue, one without sets FRAME_ERR and ERR (with the UART enabled). POP drops
the oldest byte, and with none held is ignored. A UART configuration with a divider of at least 8, GPIO functions all at most 5 and pulls
that do not pull one ball both ways are taken; the others only set WR_IGN. The gate, assist and spindle gate outputs of a domain that is off
are held low, the write data at the written-0 level (where their supply is in range); every output whose supply is below its range is
high-impedance. Where the spec leaves a point open, the model’s own reading is meant: log entries 79, 115 and 159. -/
def Obligations.BallsUartGpio : Prop :=
  (∀ (d : Dev) (b : BitVec 8),
      d.clk.stopped = false →
      Effect (.uartTxWrite b) d (d.uartTx b.toNat)) ∧
  (∀ (d : Dev) (b : BitVec 8),
      d.pins.tx.length < 64 →
      d.clk.stopped = false →
      Effect (.uartTxWrite b) d (({ d with pins := { d.pins with tx := d.pins.tx ++ [b.toNat] } } : Dev).put F.PIO_UART_STAT_TX_LEVEL (d.pins.tx.length + 1))) ∧
  (∀ (d : Dev) (b : BitVec 8),
      64 ≤ d.pins.tx.length →
      d.clk.stopped = false →
      Effect (.uartTxWrite b) d ((d.put F.PIO_UART_STAT_TX_DROP 1).put F.PIO_INT_STAT_ERR 1)) ∧
  (∀ (d : Dev),
      d.live 0x17 = true →
      Effect (.uartByteSent) d (d.uartSent)) ∧
  (∀ (d : Dev) (b : Nat) (c : Nat) (l : List Nat),
      d.pins.tx = b :: c :: l →
      d.on F.PIO_UART_CFG_EN = true →
      d.live 0x17 = true →
      Effect (.uartByteSent) d (({ d with pins := { d.pins with tx := c :: l } } : Dev).put F.PIO_UART_STAT_TX_LEVEL (l.length + 1))) ∧
  (∀ (d : Dev) (b : Nat),
      d.pins.tx = [b] →
      d.on F.PIO_UART_CFG_EN = true →
      d.live 0x17 = true →
      Effect (.uartByteSent) d ((({ d with pins := { d.pins with tx := [] } } : Dev).put F.PIO_UART_STAT_TX_LEVEL 0).put F.PIO_INT_STAT_TX_EMPTY 1)) ∧
  (∀ (d : Dev) (b : BitVec 8) (stop : Bool),
      d.live 0x17 = true →
      Effect (.uartRxByte b stop) d (d.uartRx b.toNat stop)) ∧
  (∀ (d : Dev) (b : BitVec 8) (stop : Bool),
      d.on F.PIO_UART_CFG_EN = true →
      stop = true →
      d.pins.rx = [] →
      d.live 0x17 = true →
      Effect (.uartRxByte b stop) d (((((({ d with pins := { d.pins with rx := [b.toNat] } } : Dev).put F.PIO_UART_STAT_RX_LEVEL 1).put F.PIO_UART_RX_VALID 1).put
          F.PIO_UART_RX_DATA b.toNat).put F.PIO_INT_STAT_RX 1))) ∧
  (∀ (d : Dev) (b : BitVec 8) (stop : Bool),
      d.on F.PIO_UART_CFG_EN = true →
      stop = false →
      d.live 0x17 = true →
      Effect (.uartRxByte b stop) d ((d.put F.PIO_UART_STAT_FRAME_ERR 1).put F.PIO_INT_STAT_ERR 1)) ∧
  (∀ (d : Dev),
      d.clk.stopped = false →
      Effect (.uartPopWrite) d (d.uartPop)) ∧
  (∀ (d : Dev),
      d.pins.rx = [] →
      d.clk.stopped = false →
      Effect (.uartPopWrite) d (d.put F.PIO_INT_STAT_WR_IGN 1)) ∧
  (∀ (d : Dev) (b c : Nat) (l : List Nat),
      d.pins.rx = b :: c :: l →
      d.clk.stopped = false →
      Effect (.uartPopWrite) d ((((({ d with pins := { d.pins with rx := c :: l } } : Dev).put F.PIO_UART_STAT_RX_LEVEL (l.length + 1)).put F.PIO_UART_RX_VALID 1).put F.PIO_UART_RX_DATA c))) ∧
  (∀ (d : Dev) (v : BitVec 32),
      d.clk.stopped = false →
      Effect (.pioUartCfgWrite v) d (d.uartCfg v.toNat)) ∧
  (∀ (d : Dev) (v : BitVec 32),
      8 ≤ slice v.toNat 4 16 →
      d.clk.stopped = false →
      Effect (.pioUartCfgWrite v) d (((d.put F.PIO_UART_CFG_EN (v.toNat / 2 ^ 31)).put F.PIO_UART_CFG_DIV_INT (slice v.toNat 4 16)).put F.PIO_UART_CFG_DIV_FRAC (slice v.toNat 0 4))) ∧
  (∀ (d : Dev) (v : BitVec 32),
      slice v.toNat 4 16 < 8 →
      d.clk.stopped = false →
      Effect (.pioUartCfgWrite v) d (d.put F.PIO_INT_STAT_WR_IGN 1)) ∧
  (∀ (d : Dev) (v : BitVec 32),
      d.clk.stopped = false →
      Effect (.pioGpioFnWrite v) d (d.gpioFn v.toNat)) ∧
  (∀ (d : Dev) (v : BitVec 32),
      (∀ i < 8, slice v.toNat (4 * i) 4 ≤ 5) →
      d.clk.stopped = false →
      Effect (.pioGpioFnWrite v) d (let f := fun i => slice v.toNat (4 * i) 4
        ((((((((d.put F.PIO_GPIO_FN_FN0 (f 0)).put F.PIO_GPIO_FN_FN1 (f 1)).put F.PIO_GPIO_FN_FN2 (f 2)).put F.PIO_GPIO_FN_FN3 (f 3)).put
          F.PIO_GPIO_FN_FN4 (f 4)).put F.PIO_GPIO_FN_FN5 (f 5)).put F.PIO_GPIO_FN_FN6 (f 6)).put F.PIO_GPIO_FN_FN7 (f 7)))) ∧
  (∀ (d : Dev) (v : BitVec 32) (i : Fin 8),
      5 < slice v.toNat (4 * i.val) 4 →
      d.clk.stopped = false →
      Effect (.pioGpioFnWrite v) d (d.put F.PIO_INT_STAT_WR_IGN 1)) ∧
  (∀ (d : Dev) (v : BitVec 32),
      d.clk.stopped = false →
      Effect (.pioGpioPullWrite v) d (d.gpioPull v.toNat)) ∧
  (∀ (d : Dev) (v : BitVec 32),
      slice v.toNat 8 8 &&& slice v.toNat 0 8 = 0 →
      d.clk.stopped = false →
      Effect (.pioGpioPullWrite v) d ((d.put F.PIO_GPIO_PULL_UP (slice v.toNat 8 8)).put F.PIO_GPIO_PULL_DOWN (slice v.toNat 0 8))) ∧
  (∀ (d : Dev) (v : BitVec 32),
      slice v.toNat 8 8 &&& slice v.toNat 0 8 ≠ 0 →
      d.clk.stopped = false →
      Effect (.pioGpioPullWrite v) d (d.put F.PIO_INT_STAT_WR_IGN 1)) ∧
  (∀ (d : Dev) (n k : Nat), n < 4 → d.powered (3 + n) = false → d.pins.rails.testBit 6 = false →
      d.heldState (.paWg n k) = some .low ∧ d.heldState (.paWa n k) = some .low ∧ d.heldState (.paSen n) = some .low ∧
        d.heldState (.paWdp n k) = (if d.pins.rails.testBit 2 = true then some .highZ else some .writtenZero)) ∧
  (∀ (d : Dev) (p : Nat) (high : Bool), d.powered 2 = false → d.pins.rails.testBit 6 = false → d.heldState (.spGate p high) = some .low) ∧
  (∀ (d : Dev) (s : Signal), s.row.1.drives = true → d.pins.rails.testBit s.row.2.1.place = true → d.heldState s = some .highZ)

/-- With PORST_N high, the step fed and at least seven sensors valid, THERMAL_SAMPLE stores the readings, shows the highest valid one, counts it
toward the step and the trip and judges every sensor (x is the sensor and temperature reported). An ENCLOSURE_SAMPLE that converts to t is
stored; at or above the enclosure limit ENC_HOLD is set, and the step is checked. STEP_STALE has the consumers apply step 5. With PORST_N
low no sample is taken. Where the spec leaves a point open, the model’s own reading is meant: log entries 19, 49, 75 and 158. -/
def Obligations.ThermalSamplesMoveTheStep : Prop :=
  (∀ (d : Dev) (l : List Int),
      d.live 0x16 = true →
      Effect (.thermalSample l) d (if d.mod.porstHigh then d.thermalSample l else d)) ∧
  (∀ (d : Dev) (l : List Int) (x : Nat × Int),
      d.mod.porstHigh = true →
      d.thm.stale = false →
      ({ (d.each (List.range 14) (fun e i => e.putI F.THM_SENSOR_TEMP i (tempBits (at' l i 0)))) with thm := { d.thm with stale := false } } : Dev).report l = some x →
      7 ≤ popCount 14 (({ (d.each (List.range 14) (fun e i => e.putI F.THM_SENSOR_TEMP i (tempBits (at' l i 0)))) with thm := { d.thm with stale := false } } : Dev).get F.THM_VALID_VALID) →
      d.live 0x16 = true →
      Effect (.thermalSample l) d (let e : Dev := { (d.each (List.range 14) (fun e i => e.putI F.THM_SENSOR_TEMP i (tempBits (at' l i 0)))) with thm := { d.thm with stale := false } }
        let e := ((e.put F.THM_STAT_GUARD 0).put F.THM_MAX_VALID 1).put F.THM_MAX_TEMP (tempBits x.2)
        let e := ((((e.countStep x.2).stepCheck).tripCheck x.1 x.2)).judgeSensors l
        e.flag F.THM_STAT_LEARNING (e.thm.samples.any (fun n => decide (n < 64))))) ∧
  (∀ (d : Dev) (l : List Int),
      d.mod.porstHigh = false →
      d.live 0x16 = true →
      Effect (.thermalSample l) d (d)) ∧
  (∀ (d : Dev) (code : Fin 4096),
      d.live 0x16 = true →
      Effect (.enclosureSample code) d (if d.mod.porstHigh then d.enclosureSample code.val else d)) ∧
  (∀ (d : Dev) (code : Fin 4096) (t : Int),
      d.mod.porstHigh = true →
      d.enclosureTemp code.val = some t →
      (16 * d.policy 0x700A 60 : Nat) ≤ t →
      d.live 0x16 = true →
      Effect (.enclosureSample code) d (((((({ d with thm := { d.thm with encBad := false } } : Dev).put F.THM_ENC_VALID 1).put F.THM_ENC_TEMP (tempBits t)).put F.THM_STAT_ENC_HOLD 1)).stepCheck)) ∧
  (∀ (d : Dev),
      d.clk.stopped = false →
      Effect (.stepStale) d (({ d with thm := { d.thm with stale := true } } : Dev).updateCeiling))

/-- A write at an offset where no register lies has no effect; one to a domain that is off is dropped and counted once, a 64-bit one too. A
write of a register of the MIL, CFG, GRN, DRV or THM block is taken field by field; a write of MOD_REQ requests a mode; a 64-bit write to a
register pair is one access, to another address none; the host reaches the ring page only. A fenced core does nothing. A misaligned access
raises its misaligned exception, one that the core’s protection entries refuse or that lies nowhere its access fault, an atomic on a
register a store access fault, each saved in the core’s registers as the RISC-V privileged specification says (log entry 149). A 4-byte load
of a register answers its value, a 4-byte store writes it; the boot ROM answers its bytes (free values, log entry 5) and faults a store; a
load of clean SRAM words answers the bytes, a store writes them. mhartid reads the core’s number; a control register refused by the mode,
MRET, ECALL and EBREAK act as the privileged specification says. A whole instruction computes its registers and the pc as the unprivileged
specification says, an access of it waits for its answer, an illegal word raises its exception, and an enabled interrupt of a block is taken
first (log entry 149). An unstated order of faults is log entry 55’s. Where the spec leaves a point open, the model’s own reading is meant:
log entries 19, 25, 51, 55, 56 and 149. -/
def Obligations.CoresAndRegistersByAddress : Prop :=
  (∀ (d : Dev) (byHost : Bool) (addr : BitVec 40) (wide : Bool) (v : BitVec 64),
      d.clk.stopped = false →
      Effect (.registerWrite byHost addr wide v) d (d.registerWriteAct byHost addr wide v)) ∧
  (∀ (d : Dev) (a : BitVec 40) (v : BitVec 64),
      regFind a.toNat = none →
      d.clk.stopped = false →
      Effect (.registerWrite false a false v) d (d)) ∧
  (∀ (d : Dev) (a : BitVec 40) (v : BitVec 64) (row : RegRow) (i : Nat),
      regFind a.toNat = some (row, i) →
      d.powered (rowDomain row i) = false →
      d.clk.stopped = false →
      Effect (.registerWrite false a false v) d (d.inc F.CLK_PD_DROPWR_COUNT)) ∧
  (∀ (d : Dev) (a : BitVec 40) (v : BitVec 64) (row : RegRow) (i : Nat),
      pairLow a.toNat = true →
      regFind a.toNat = some (row, i) →
      d.powered (rowDomain row i) = false →
      d.clk.stopped = false →
      Effect (.registerWrite false a true v) d (d.inc F.CLK_PD_DROPWR_COUNT)) ∧
  (∀ (d : Dev) (a : BitVec 40) (v : BitVec 64),
      pairLow a.toNat = false →
      d.clk.stopped = false →
      Effect (.registerWrite false a true v) d (d)) ∧
  (∀ (d : Dev) (a : BitVec 40) (v : BitVec 64),
      a = 0x20120018#40 →
      d.powered 6 = true →
      d.clk.stopped = false →
      Effect (.registerWrite false a true v) d (d.seaData v.toNat)) ∧
  (∀ (d : Dev) (a : BitVec 40) (v : BitVec 64) (row : RegRow) (i : Nat),
      regFind a.toNat = some (row, i) →
      d.powered (rowDomain row i) = true →
      (a.toNat - 0x20000000) / 0x10000 ∈ [1, 3, 9, 16, 22] →
      d.clk.stopped = false →
      Effect (.registerWrite false a false v) d (d.writeRow row i (v.toNat % 2 ^ 32) true)) ∧
  (∀ (d : Dev) (a : BitVec 40) (v : BitVec 64),
      a = 0x2002000C#40 →
      d.powered (islandDomain 2) = true →
      d.clk.stopped = false →
      Effect (.registerWrite false a false v) d (d.modRequest (v.toNat % 8))) ∧
  (∀ (d : Dev) (a : BitVec 40) (wide : Bool) (v : BitVec 64),
      (a.toNat < 0x200E1000 ∨ 0x200E2000 ≤ a.toNat) →
      d.clk.stopped = false →
      Effect (.registerWrite true a wide v) d (d)) ∧
  (∀ (d : Dev) (core : Fin 4) (x : CoreAccess),
      d.clk.stopped = false →
      Effect (.reeveAccess core x) d (d.reeveAccessAct core x)) ∧
  (∀ (d : Dev) (core : Fin 4) (x : CoreAccess),
      d.bit F.WAT_CORES_FENCED core.val = true →
      d.clk.stopped = false →
      Effect (.reeveAccess core x) d (d)) ∧
  (∀ (d : Dev) (core : Fin 4) (x : CoreAccess),
      d.bit F.WAT_CORES_FENCED core.val = false →
      d.stalled core.val = false →
      accessLenOk x = true →
      x.l1Parity = false →
      x.op ∉ [MemOp.fence, .csrRead, .csrWrite, .csrSet, .csrClear, .mret, .ecall, .ebreak, .insn, .fetch] →
      accessAligned x = false →
      d.clk.stopped = false →
      Effect (.reeveAccess core x) d (d.busFault core.val (opMisaligned x.op) x.addr)) ∧
  (∀ (d : Dev) (core : Fin 4) (x : CoreAccess),
      d.bit F.WAT_CORES_FENCED core.val = false →
      d.stalled core.val = false →
      accessLenOk x = true →
      x.l1Parity = false →
      x.op ∉ [MemOp.fence, .csrRead, .csrWrite, .csrSet, .csrClear, .mret, .ecall, .ebreak, .insn, .fetch] →
      accessAligned x = true →
      (d.core core.val).allows x.op x.addr x.len = false →
      d.clk.stopped = false →
      Effect (.reeveAccess core x) d (d.busFault core.val (opFault x.op) x.addr)) ∧
  (∀ (d : Dev) (core : Fin 4) (x : CoreAccess),
      d.bit F.WAT_CORES_FENCED core.val = false →
      d.stalled core.val = false →
      x.op = .fetch →
      (x.len = 2 ∨ x.len = 4) →
      x.l1Parity = false →
      x.addr % 2 = 0 →
      d.clk.stopped = false →
      Effect (.reeveAccess core x) d ((d.setCore core.val (fun c => { c with pc := x.addr })).coreAccess core.val x)) ∧
  (∀ (d : Dev) (core : Fin 4) (x : CoreAccess),
      d.bit F.WAT_CORES_FENCED core.val = false →
      d.stalled core.val = false →
      accessLenOk x = true →
      x.l1Parity = false →
      x.op ∉ [MemOp.fence, .csrRead, .csrWrite, .csrSet, .csrClear, .mret, .ecall, .ebreak, .insn, .fetch] →
      accessAligned x = true →
      (d.core core.val).allows x.op x.addr x.len = true →
      d.isSram x.addr = false →
      0x20180000 ≤ x.addr →
      x.addr + x.len ≤ granBase →
      d.clk.stopped = false →
      Effect (.reeveAccess core x) d (d.busFault core.val (opFault x.op) x.addr)) ∧
  (∀ (d : Dev) (core : Fin 4) (x : CoreAccess),
      d.bit F.WAT_CORES_FENCED core.val = false →
      d.stalled core.val = false →
      accessLenOk x = true →
      x.l1Parity = false →
      x.op ∉ [MemOp.fence, .csrRead, .csrWrite, .csrSet, .csrClear, .mret, .ecall, .ebreak, .insn, .fetch] →
      accessAligned x = true →
      (d.core core.val).allows x.op x.addr x.len = true →
      0x20000000 ≤ x.addr →
      x.addr + x.len ≤ 0x20180000 →
      d.isSram x.addr = false →
      x.op = .load →
      x.len = 4 →
      d.clk.stopped = false →
      Effect (.reeveAccess core x) d ((d.readReg x.addr).2.reply core.val (d.readReg x.addr).1)) ∧
  (∀ (d : Dev) (core : Fin 4) (x : CoreAccess),
      d.bit F.WAT_CORES_FENCED core.val = false →
      d.stalled core.val = false →
      accessLenOk x = true →
      x.l1Parity = false →
      x.op ∉ [MemOp.fence, .csrRead, .csrWrite, .csrSet, .csrClear, .mret, .ecall, .ebreak, .insn, .fetch] →
      accessAligned x = true →
      (d.core core.val).allows x.op x.addr x.len = true →
      0x20000000 ≤ x.addr →
      x.addr + x.len ≤ 0x20180000 →
      d.isSram x.addr = false →
      x.op = .store →
      x.len = 4 →
      d.clk.stopped = false →
      Effect (.reeveAccess core x) d ((d.storeReg x.addr (x.data % 2 ^ 32) false).reply core.val 0)) ∧
  (∀ (d : Dev) (core : Fin 4) (x : CoreAccess),
      d.bit F.WAT_CORES_FENCED core.val = false →
      d.stalled core.val = false →
      accessLenOk x = true →
      x.l1Parity = false →
      x.op ∉ [MemOp.fence, .csrRead, .csrWrite, .csrSet, .csrClear, .mret, .ecall, .ebreak, .insn, .fetch] →
      accessAligned x = true →
      (d.core core.val).allows x.op x.addr x.len = true →
      0x20000000 ≤ x.addr →
      x.addr + x.len ≤ 0x20180000 →
      d.isSram x.addr = false →
      x.op = .store →
      x.len = 8 →
      pairLow x.addr = true →
      d.clk.stopped = false →
      Effect (.reeveAccess core x) d ((d.storePair x.addr (x.data % 2 ^ 64) false).reply core.val 0)) ∧
  (∀ (d : Dev) (core : Fin 4) (x : CoreAccess),
      d.bit F.WAT_CORES_FENCED core.val = false →
      d.stalled core.val = false →
      accessLenOk x = true →
      x.l1Parity = false →
      x.op ∉ [MemOp.fence, .csrRead, .csrWrite, .csrSet, .csrClear, .mret, .ecall, .ebreak, .insn, .fetch] →
      accessAligned x = true →
      (d.core core.val).allows x.op x.addr x.len = true →
      0x20000000 ≤ x.addr →
      x.addr + x.len ≤ 0x20180000 →
      d.isSram x.addr = false →
      opAtomic x.op = true →
      d.clk.stopped = false →
      Effect (.reeveAccess core x) d (d.busFault core.val .storeAccess x.addr)) ∧
  (∀ (d : Dev) (core : Fin 4) (x : CoreAccess),
      d.bit F.WAT_CORES_FENCED core.val = false →
      d.stalled core.val = false →
      accessLenOk x = true →
      x.l1Parity = false →
      x.op ∉ [MemOp.fence, .csrRead, .csrWrite, .csrSet, .csrClear, .mret, .ecall, .ebreak, .insn, .fetch] →
      accessAligned x = true →
      (d.core core.val).allows x.op x.addr x.len = true →
      0x20000000 ≤ x.addr →
      x.addr + x.len ≤ 0x20180000 →
      d.isSram x.addr = false →
      (x.op = .load ∨ x.op = .store) →
      (x.len = 1 ∨ x.len = 2 ∨ (x.len = 8 ∧ pairLow x.addr = false)) →
      d.clk.stopped = false →
      Effect (.reeveAccess core x) d (d.busFault core.val (opFault x.op) x.addr)) ∧
  (∀ (d : Dev) (core : Fin 4) (x : CoreAccess),
      d.bit F.WAT_CORES_FENCED core.val = false →
      d.stalled core.val = false →
      accessLenOk x = true →
      x.l1Parity = false →
      x.op ∉ [MemOp.fence, .csrRead, .csrWrite, .csrSet, .csrClear, .mret, .ecall, .ebreak, .insn, .fetch] →
      accessAligned x = true →
      (d.core core.val).allows x.op x.addr x.len = true →
      x.addr + x.len ≤ 0x40000 →
      x.op = .load →
      d.clk.stopped = false →
      Effect (.reeveAccess core x) d (d.reply core.val (leValue ((List.range x.len).map (fun i => Config.bootRom (x.addr + i) % 256))))) ∧
  (∀ (d : Dev) (core : Fin 4) (x : CoreAccess),
      d.bit F.WAT_CORES_FENCED core.val = false →
      d.stalled core.val = false →
      accessLenOk x = true →
      x.l1Parity = false →
      x.op ∉ [MemOp.fence, .csrRead, .csrWrite, .csrSet, .csrClear, .mret, .ecall, .ebreak, .insn, .fetch] →
      accessAligned x = true →
      (d.core core.val).allows x.op x.addr x.len = true →
      x.addr + x.len ≤ 0x40000 →
      x.op = .store →
      d.clk.stopped = false →
      Effect (.reeveAccess core x) d (d.busFault core.val .storeAccess x.addr)) ∧
  (∀ (d : Dev) (core : Fin 4) (x : CoreAccess),
      d.bit F.WAT_CORES_FENCED core.val = false →
      d.stalled core.val = false →
      accessLenOk x = true →
      x.l1Parity = false →
      x.op ∉ [MemOp.fence, .csrRead, .csrWrite, .csrSet, .csrClear, .mret, .ecall, .ebreak, .insn, .fetch] →
      accessAligned x = true →
      (d.core core.val).allows x.op x.addr x.len = true →
      0x10000000 ≤ x.addr →
      x.addr + x.len ≤ 0x10100000 →
      x.op = .load →
      d.sramCheck x.addr x.len x.word = (d, false) →
      d.clk.stopped = false →
      Effect (.reeveAccess core x) d (d.reply core.val (leValue (d.sramRead x.addr x.len)))) ∧
  (∀ (d : Dev) (core : Fin 4) (x : CoreAccess),
      d.bit F.WAT_CORES_FENCED core.val = false →
      d.stalled core.val = false →
      accessLenOk x = true →
      x.l1Parity = false →
      x.op ∉ [MemOp.fence, .csrRead, .csrWrite, .csrSet, .csrClear, .mret, .ecall, .ebreak, .insn, .fetch] →
      accessAligned x = true →
      (d.core core.val).allows x.op x.addr x.len = true →
      0x10000000 ≤ x.addr →
      x.addr + x.len ≤ 0x10100000 →
      x.op = .store →
      d.clk.stopped = false →
      Effect (.reeveAccess core x) d (((d.reply core.val 0).dropResv x.addr x.len).sramWrite x.addr (leBytes x.len x.data) x.back)) ∧
  (∀ (d : Dev) (core : Fin 4) (x : CoreAccess),
      d.bit F.WAT_CORES_FENCED core.val = false →
      d.stalled core.val = false →
      x.op = .csrRead →
      x.addr = 0xF14 →
      (d.core core.val).user = false →
      d.clk.stopped = false →
      Effect (.reeveAccess core x) d (d.reply core.val core.val)) ∧
  (∀ (d : Dev) (core : Fin 4) (x : CoreAccess),
      d.bit F.WAT_CORES_FENCED core.val = false →
      d.stalled core.val = false →
      x.op ∈ [MemOp.csrRead, .csrWrite, .csrSet, .csrClear] →
      (d.core core.val).user = true →
      x.addr ∈ [0x300, 0x304, 0x305, 0x340, 0x341, 0x342, 0x343, 0x3A0, 0x3A2, 0xF14] →
      d.clk.stopped = false →
      Effect (.reeveAccess core x) d (d.busFault core.val .illegal 0)) ∧
  (∀ (d : Dev) (core : Fin 4) (x : CoreAccess),
      d.bit F.WAT_CORES_FENCED core.val = false →
      d.stalled core.val = false →
      x.op = .csrWrite →
      x.addr = 0x340 →
      (d.core core.val).user = false →
      d.clk.stopped = false →
      Effect (.reeveAccess core x) d ((d.setCore core.val (fun c => { c with mscratch := x.data % 2 ^ 64 })).reply core.val (d.core core.val).mscratch)) ∧
  (∀ (d : Dev) (core : Fin 4) (x : CoreAccess),
      d.bit F.WAT_CORES_FENCED core.val = false →
      d.stalled core.val = false →
      x.op = .mret →
      (d.core core.val).user = false →
      d.clk.stopped = false →
      Effect (.reeveAccess core x) d ((d.setCore core.val Core.ret).answer 0 .none)) ∧
  (∀ (d : Dev) (core : Fin 4) (x : CoreAccess),
      d.bit F.WAT_CORES_FENCED core.val = false →
      d.stalled core.val = false →
      x.op = .mret →
      (d.core core.val).user = true →
      d.clk.stopped = false →
      Effect (.reeveAccess core x) d (d.busFault core.val .illegal 0)) ∧
  (∀ (d : Dev) (core : Fin 4) (x : CoreAccess),
      d.bit F.WAT_CORES_FENCED core.val = false →
      d.stalled core.val = false →
      x.op = .ecall →
      (d.core core.val).user = true →
      d.clk.stopped = false →
      Effect (.reeveAccess core x) d (d.busFault core.val .callUser 0)) ∧
  (∀ (d : Dev) (core : Fin 4) (x : CoreAccess),
      d.bit F.WAT_CORES_FENCED core.val = false →
      d.stalled core.val = false →
      x.op = .ecall →
      (d.core core.val).user = false →
      d.clk.stopped = false →
      Effect (.reeveAccess core x) d (d.busFault core.val .callMachine 0)) ∧
  (∀ (d : Dev) (core : Fin 4) (x : CoreAccess),
      d.bit F.WAT_CORES_FENCED core.val = false →
      d.stalled core.val = false →
      x.op = .ebreak →
      d.clk.stopped = false →
      Effect (.reeveAccess core x) d (d.busFault core.val .breakpoint (d.core core.val).pc)) ∧
  (∀ (d : Dev) (core : Fin 4) (x : CoreAccess),
      d.bit F.WAT_CORES_FENCED core.val = false →
      d.stalled core.val = false →
      x.op = .fence →
      d.missAt core.val = false →
      d.clk.stopped = false →
      Effect (.reeveAccess core x) d (d.reply core.val 0)) ∧
  (∀ (d : Dev) (core : Fin 4) (x : CoreAccess) (op : RvOp) (w : Bool) (rd rs1 rs2 : Nat),
      d.bit F.WAT_CORES_FENCED core.val = false →
      d.stalled core.val = false →
      x.op = .insn →
      ((d.core core.val).interruptible && d.interrupts) = false →
      decodeInsn x.data = some (.alu op w rd rs1 rs2) →
      d.clk.stopped = false →
      Effect (.reeveAccess core x) d (d.setCore core.val (fun c => c.retire rd (rvResult (if w = true then 32 else 64) op ((d.core core.val).xreg rs1) ((d.core core.val).xreg rs2)) ((d.core core.val).pc + insnBytes x.data)))) ∧
  (∀ (d : Dev) (core : Fin 4) (x : CoreAccess) (op : RvOp) (w : Bool) (rd rs1 imm : Nat),
      d.bit F.WAT_CORES_FENCED core.val = false →
      d.stalled core.val = false →
      x.op = .insn →
      ((d.core core.val).interruptible && d.interrupts) = false →
      decodeInsn x.data = some (.aluImm op w rd rs1 imm) →
      d.clk.stopped = false →
      Effect (.reeveAccess core x) d (d.setCore core.val (fun c => c.retire rd (rvResult (if w = true then 32 else 64) op ((d.core core.val).xreg rs1) imm) ((d.core core.val).pc + insnBytes x.data)))) ∧
  (∀ (d : Dev) (core : Fin 4) (x : CoreAccess) (rd rs1 off : Nat),
      d.bit F.WAT_CORES_FENCED core.val = false →
      d.stalled core.val = false →
      x.op = .insn →
      ((d.core core.val).interruptible && d.interrupts) = false →
      decodeInsn x.data = some (.jalr rd rs1 off) →
      d.clk.stopped = false →
      Effect (.reeveAccess core x) d (d.setCore core.val (fun c => c.retire rd ((d.core core.val).pc + insnBytes x.data) (((d.core core.val).xreg rs1 + off) / 2 * 2)))) ∧
  (∀ (d : Dev) (core : Fin 4) (x : CoreAccess) (k : Cond) (rs1 rs2 off : Nat),
      d.bit F.WAT_CORES_FENCED core.val = false →
      d.stalled core.val = false →
      x.op = .insn →
      ((d.core core.val).interruptible && d.interrupts) = false →
      decodeInsn x.data = some (.branch k rs1 rs2 off) →
      d.clk.stopped = false →
      Effect (.reeveAccess core x) d (d.setCore core.val (fun c => c.retire 0 0 (if condHolds k ((d.core core.val).xreg rs1) ((d.core core.val).xreg rs2) = true then (d.core core.val).pc + off else (d.core core.val).pc + insnBytes x.data)))) ∧
  (∀ (d : Dev) (core : Fin 4) (x : CoreAccess) (len : Nat) (signed : Bool) (rd rs1 off : Nat),
      d.bit F.WAT_CORES_FENCED core.val = false →
      d.stalled core.val = false →
      x.op = .insn →
      ((d.core core.val).interruptible && d.interrupts) = false →
      decodeInsn x.data = some (.load len signed rd rs1 off) →
      d.clk.stopped = false →
      Effect (.reeveAccess core x) d ((d.issue core.val rd len signed ((d.core core.val).pc + insnBytes x.data)).memoryAccess core.val { x with op := .load, addr := ((d.core core.val).xreg rs1 + off) % 2 ^ 64, len := len, data := 0 })) ∧
  (∀ (d : Dev) (core : Fin 4) (x : CoreAccess),
      d.bit F.WAT_CORES_FENCED core.val = false →
      d.stalled core.val = false →
      x.op = .insn →
      ((d.core core.val).interruptible && d.interrupts) = false →
      decodeInsn x.data = none →
      d.clk.stopped = false →
      Effect (.reeveAccess core x) d (d.busFault core.val .illegal 0)) ∧
  (∀ (d : Dev) (core : Fin 4) (x : CoreAccess),
      d.bit F.WAT_CORES_FENCED core.val = false →
      d.stalled core.val = false →
      x.op = .insn →
      (d.core core.val).interruptible = true →
      d.interrupts = true →
      d.clk.stopped = false →
      Effect (.reeveAccess core x) d (d.setCore core.val Core.interrupted)) ∧
  (∀ (c : Core) (w : Waits) (v : Nat), c.waits = some w →
      c.delivered v = c.retire w.rd (if w.signed = true then signExt (8 * w.len) v else v % 2 ^ (8 * w.len)) w.npc) ∧
  (∀ (d : Dev), (∃ b n, b < 24 ∧ n < (if b = 4 then 4 else 1) ∧ d.interrupt b n = true) ↔ d.interrupts = true) ∧
  (∀ (d : Dev) (n : Nat) (f : BusFault) (a : Nat), n < 4 → n < d.bus.cores.length →
      ((d.busFault n f a).core n).mepc = (d.core n).pc ∧ ((d.busFault n f a).core n).mcause = f.code ∧
      ((d.busFault n f a).core n).mtval = a ∧ ((d.busFault n f a).core n).mpie = (d.core n).mie ∧ ((d.busFault n f a).core n).mie = false ∧
      ((d.busFault n f a).core n).mpp = (d.core n).user ∧ ((d.busFault n f a).core n).user = false ∧
      ((d.busFault n f a).core n).pc = (d.core n).mtvec / 4 * 4) ∧
  (∀ c : Core, c.ret.pc = c.mepc ∧ c.ret.user = c.mpp ∧ c.ret.mie = c.mpie ∧ c.ret.mpie = true ∧ c.ret.mpp = true) ∧
  (∀ (c : Core) (bit addr len : Nat), (∀ i < 16, c.pmpCovers i addr = false ∧ c.pmpCovers i (addr + len - 1) = false) →
      c.permits true bit addr len = false ∧ c.permits false bit addr len = true) ∧
  (∀ (c : Core) (i addr len bit : Nat) (user : Bool), i < 16 → c.pmpCovers i addr = true → c.pmpCovers i (addr + len - 1) = true →
      (∀ j < i, c.pmpCovers j addr = false ∧ c.pmpCovers j (addr + len - 1) = false) →
      c.permits user bit addr len = ((at' c.pmpCfg i 0).testBit bit || (!user && !(at' c.pmpCfg i 0).testBit 7)))
end

