-- ==== Sys2Proof/Laws/Commands.lean ====
section
/-! SUPPORT. What the shared operations of a dispatched command do: a dispatch, and the reading of a data list. -/

namespace Sys2Proof.Machine

/-- A context that may be dispatched is dispatched and acts. -/
theorem onDispatch_runs {d : Dev} {n o : Nat} {p : Ctx → Bool} {c : Ctx} (g : Dev → Ctx → Dev) (hc : d.ctx n = some c) (ho : c.opcode = o)
    (hp : p c = true) (hm : d.mayDispatch c = true) (hl : d.metaPoisoned c = false) : d.onDispatch n o p g = g (d.dispatch n) c := by
  simp [Dev.onDispatch, hc, ho, hp, hm, hl]

/-- A context whose command lines are lost ends INTERNAL (12 R478; 16 R627). -/
theorem onDispatch_poisoned {d : Dev} {n o : Nat} {p : Ctx → Bool} {c : Ctx} (g : Dev → Ctx → Dev) (hc : d.ctx n = some c) (ho : c.opcode = o)
    (hp : p c = true) (hm : d.mayDispatch c = true) (hl : d.metaPoisoned c = true) : d.onDispatch n o p g = d.commit n stInternal 0 0 := by
  simp [Dev.onDispatch, hc, ho, hp, hm, hl]

/-- A context held back stays as it is. -/
theorem onDispatch_held {d : Dev} {n o : Nat} {p : Ctx → Bool} {c : Ctx} (g : Dev → Ctx → Dev) (hc : d.ctx n = some c)
    (hm : d.mayDispatch c = false) : d.onDispatch n o p g = d := by
  simp [Dev.onDispatch, hc, hm]

/-- A context that is not there leaves the device as it is. -/
theorem onDispatch_none {d : Dev} {n o : Nat} {p : Ctx → Bool} (g : Dev → Ctx → Dev) (hc : d.ctx n = none) : d.onDispatch n o p g = d := by
  simp [Dev.onDispatch, hc]

/-- A data list in order: its command goes on with the list's entries. -/
theorem withList_ok {d : Dev} {v : HostView} {n want : Nat} {c : Ctx} {w : ListWalk} (g : Dev → List (Nat × Nat) → Dev)
    (hc : d.ctx n = some c) (hw : d.dataList v c want = w) (hb : w.bad = none) :
    d.withList v n want g = g (d.mapCtx n (fun x => { x with segs := w.segs })) w.segs := by
  subst hw
  simp [Dev.withList, hc, hb]

/-- A data list that breaks the rules ends its command DLIST_ERROR with event 0x4111 (16 R629). -/
theorem withList_bad {d : Dev} {v : HostView} {n want : Nat} {c : Ctx} {w : ListWalk} {e : Nat × Nat} (g : Dev → List (Nat × Nat) → Dev)
    (hc : d.ctx n = some c) (hw : d.dataList v c want = w) (hb : w.bad = some e) :
    d.withList v n want g = (d.post 0x4111 [c.tag, e.1, e.2]).commit n stDlist e.1 e.2 := by
  subst hw
  simp [Dev.withList, hc, hb]

end Sys2Proof.Machine
end

