-- ==== Sys2Proof/Laws/State.lean ====
section
/-! SUPPORT. What the named updates of the state leave alone, one lemma per field: the register writes, a free value taken, the answer of an
access, and the step's frame around a command's effect. -/

namespace Sys2Proof.Machine

@[simp] theorem Dev.putI_freeCount (d : Dev) (g : Field) (i v : Nat) : (d.putI g i v).freeCount = d.freeCount := rfl
@[simp] theorem Dev.putI_pol (d : Dev) (g : Field) (i v : Nat) : (d.putI g i v).pol = d.pol := rfl
@[simp] theorem Dev.putI_streams (d : Dev) (g : Field) (i v : Nat) : (d.putI g i v).streams = d.streams := rfl
@[simp] theorem Dev.putI_cfg (d : Dev) (g : Field) (i v : Nat) : (d.putI g i v).cfg = d.cfg := rfl
@[simp] theorem Dev.putI_clk (d : Dev) (g : Field) (i v : Nat) : (d.putI g i v).clk = d.clk := rfl
@[simp] theorem Dev.putI_mod (d : Dev) (g : Field) (i v : Nat) : (d.putI g i v).mod = d.mod := rfl
@[simp] theorem Dev.putI_mil (d : Dev) (g : Field) (i v : Nat) : (d.putI g i v).mil = d.mil := rfl
@[simp] theorem Dev.putI_shps (d : Dev) (g : Field) (i v : Nat) : (d.putI g i v).shps = d.shps := rfl
@[simp] theorem Dev.putI_wch (d : Dev) (g : Field) (i v : Nat) : (d.putI g i v).wch = d.wch := rfl
@[simp] theorem Dev.putI_cmd (d : Dev) (g : Field) (i v : Nat) : (d.putI g i v).cmd = d.cmd := rfl
@[simp] theorem Dev.putI_drv (d : Dev) (g : Field) (i v : Nat) : (d.putI g i v).drv = d.drv := rfl
@[simp] theorem Dev.putI_wat (d : Dev) (g : Field) (i v : Nat) : (d.putI g i v).wat = d.wat := rfl
@[simp] theorem Dev.putI_dbk (d : Dev) (g : Field) (i v : Nat) : (d.putI g i v).dbk = d.dbk := rfl
@[simp] theorem Dev.putI_thm (d : Dev) (g : Field) (i v : Nat) : (d.putI g i v).thm = d.thm := rfl
@[simp] theorem Dev.putI_pins (d : Dev) (g : Field) (i v : Nat) : (d.putI g i v).pins = d.pins := rfl
@[simp] theorem Dev.putI_lpe (d : Dev) (g : Field) (i v : Nat) : (d.putI g i v).lpe = d.lpe := rfl
@[simp] theorem Dev.putI_ddr (d : Dev) (g : Field) (i v : Nat) : (d.putI g i v).ddr = d.ddr := rfl
@[simp] theorem Dev.putI_grn (d : Dev) (g : Field) (i v : Nat) : (d.putI g i v).grn = d.grn := rfl
@[simp] theorem Dev.putI_mcc (d : Dev) (g : Field) (i v : Nat) : (d.putI g i v).mcc = d.mcc := rfl
@[simp] theorem Dev.putI_srm (d : Dev) (g : Field) (i v : Nat) : (d.putI g i v).srm = d.srm := rfl
@[simp] theorem Dev.putI_por (d : Dev) (g : Field) (i v : Nat) : (d.putI g i v).por = d.por := rfl
@[simp] theorem Dev.putI_mem (d : Dev) (g : Field) (i v : Nat) : (d.putI g i v).mem = d.mem := rfl
@[simp] theorem Dev.putI_hostMem (d : Dev) (g : Field) (i v : Nat) : (d.putI g i v).hostMem = d.hostMem := rfl
@[simp] theorem Dev.putI_fe (d : Dev) (g : Field) (i v : Nat) : (d.putI g i v).fe = d.fe := rfl
@[simp] theorem Dev.putI_det (d : Dev) (g : Field) (i v : Nat) : (d.putI g i v).det = d.det := rfl
@[simp] theorem Dev.putI_hif (d : Dev) (g : Field) (i v : Nat) : (d.putI g i v).hif = d.hif := rfl
@[simp] theorem Dev.putI_bus (d : Dev) (g : Field) (i v : Nat) : (d.putI g i v).bus = d.bus := rfl
@[simp] theorem Dev.putI_tal (d : Dev) (g : Field) (i v : Nat) : (d.putI g i v).tal = d.tal := rfl
@[simp] theorem Dev.putI_sea (d : Dev) (g : Field) (i v : Nat) : (d.putI g i v).sea = d.sea := rfl
@[simp] theorem Dev.putI_prs (d : Dev) (g : Field) (i v : Nat) : (d.putI g i v).prs = d.prs := rfl

@[simp] theorem Dev.put_freeCount (d : Dev) (g : Field) (v : Nat) : (d.put g v).freeCount = d.freeCount := rfl
@[simp] theorem Dev.put_pol (d : Dev) (g : Field) (v : Nat) : (d.put g v).pol = d.pol := rfl
@[simp] theorem Dev.put_streams (d : Dev) (g : Field) (v : Nat) : (d.put g v).streams = d.streams := rfl
@[simp] theorem Dev.put_cfg (d : Dev) (g : Field) (v : Nat) : (d.put g v).cfg = d.cfg := rfl
@[simp] theorem Dev.put_clk (d : Dev) (g : Field) (v : Nat) : (d.put g v).clk = d.clk := rfl
@[simp] theorem Dev.put_mod (d : Dev) (g : Field) (v : Nat) : (d.put g v).mod = d.mod := rfl
@[simp] theorem Dev.put_mil (d : Dev) (g : Field) (v : Nat) : (d.put g v).mil = d.mil := rfl
@[simp] theorem Dev.put_shps (d : Dev) (g : Field) (v : Nat) : (d.put g v).shps = d.shps := rfl
@[simp] theorem Dev.put_wch (d : Dev) (g : Field) (v : Nat) : (d.put g v).wch = d.wch := rfl
@[simp] theorem Dev.put_cmd (d : Dev) (g : Field) (v : Nat) : (d.put g v).cmd = d.cmd := rfl
@[simp] theorem Dev.put_drv (d : Dev) (g : Field) (v : Nat) : (d.put g v).drv = d.drv := rfl
@[simp] theorem Dev.put_wat (d : Dev) (g : Field) (v : Nat) : (d.put g v).wat = d.wat := rfl
@[simp] theorem Dev.put_dbk (d : Dev) (g : Field) (v : Nat) : (d.put g v).dbk = d.dbk := rfl
@[simp] theorem Dev.put_thm (d : Dev) (g : Field) (v : Nat) : (d.put g v).thm = d.thm := rfl
@[simp] theorem Dev.put_pins (d : Dev) (g : Field) (v : Nat) : (d.put g v).pins = d.pins := rfl
@[simp] theorem Dev.put_lpe (d : Dev) (g : Field) (v : Nat) : (d.put g v).lpe = d.lpe := rfl
@[simp] theorem Dev.put_ddr (d : Dev) (g : Field) (v : Nat) : (d.put g v).ddr = d.ddr := rfl
@[simp] theorem Dev.put_grn (d : Dev) (g : Field) (v : Nat) : (d.put g v).grn = d.grn := rfl
@[simp] theorem Dev.put_mcc (d : Dev) (g : Field) (v : Nat) : (d.put g v).mcc = d.mcc := rfl
@[simp] theorem Dev.put_srm (d : Dev) (g : Field) (v : Nat) : (d.put g v).srm = d.srm := rfl
@[simp] theorem Dev.put_por (d : Dev) (g : Field) (v : Nat) : (d.put g v).por = d.por := rfl
@[simp] theorem Dev.put_mem (d : Dev) (g : Field) (v : Nat) : (d.put g v).mem = d.mem := rfl
@[simp] theorem Dev.put_hostMem (d : Dev) (g : Field) (v : Nat) : (d.put g v).hostMem = d.hostMem := rfl
@[simp] theorem Dev.put_fe (d : Dev) (g : Field) (v : Nat) : (d.put g v).fe = d.fe := rfl
@[simp] theorem Dev.put_det (d : Dev) (g : Field) (v : Nat) : (d.put g v).det = d.det := rfl
@[simp] theorem Dev.put_hif (d : Dev) (g : Field) (v : Nat) : (d.put g v).hif = d.hif := rfl
@[simp] theorem Dev.put_bus (d : Dev) (g : Field) (v : Nat) : (d.put g v).bus = d.bus := rfl
@[simp] theorem Dev.put_tal (d : Dev) (g : Field) (v : Nat) : (d.put g v).tal = d.tal := rfl
@[simp] theorem Dev.put_sea (d : Dev) (g : Field) (v : Nat) : (d.put g v).sea = d.sea := rfl
@[simp] theorem Dev.put_prs (d : Dev) (g : Field) (v : Nat) : (d.put g v).prs = d.prs := rfl

@[simp] theorem Dev.flagI_freeCount (d : Dev) (g : Field) (i : Nat) (b : Bool) : (d.flagI g i b).freeCount = d.freeCount := rfl
@[simp] theorem Dev.flagI_pol (d : Dev) (g : Field) (i : Nat) (b : Bool) : (d.flagI g i b).pol = d.pol := rfl
@[simp] theorem Dev.flagI_streams (d : Dev) (g : Field) (i : Nat) (b : Bool) : (d.flagI g i b).streams = d.streams := rfl
@[simp] theorem Dev.flagI_cfg (d : Dev) (g : Field) (i : Nat) (b : Bool) : (d.flagI g i b).cfg = d.cfg := rfl
@[simp] theorem Dev.flagI_clk (d : Dev) (g : Field) (i : Nat) (b : Bool) : (d.flagI g i b).clk = d.clk := rfl
@[simp] theorem Dev.flagI_mod (d : Dev) (g : Field) (i : Nat) (b : Bool) : (d.flagI g i b).mod = d.mod := rfl
@[simp] theorem Dev.flagI_mil (d : Dev) (g : Field) (i : Nat) (b : Bool) : (d.flagI g i b).mil = d.mil := rfl
@[simp] theorem Dev.flagI_shps (d : Dev) (g : Field) (i : Nat) (b : Bool) : (d.flagI g i b).shps = d.shps := rfl
@[simp] theorem Dev.flagI_wch (d : Dev) (g : Field) (i : Nat) (b : Bool) : (d.flagI g i b).wch = d.wch := rfl
@[simp] theorem Dev.flagI_cmd (d : Dev) (g : Field) (i : Nat) (b : Bool) : (d.flagI g i b).cmd = d.cmd := rfl
@[simp] theorem Dev.flagI_drv (d : Dev) (g : Field) (i : Nat) (b : Bool) : (d.flagI g i b).drv = d.drv := rfl
@[simp] theorem Dev.flagI_wat (d : Dev) (g : Field) (i : Nat) (b : Bool) : (d.flagI g i b).wat = d.wat := rfl
@[simp] theorem Dev.flagI_dbk (d : Dev) (g : Field) (i : Nat) (b : Bool) : (d.flagI g i b).dbk = d.dbk := rfl
@[simp] theorem Dev.flagI_thm (d : Dev) (g : Field) (i : Nat) (b : Bool) : (d.flagI g i b).thm = d.thm := rfl
@[simp] theorem Dev.flagI_pins (d : Dev) (g : Field) (i : Nat) (b : Bool) : (d.flagI g i b).pins = d.pins := rfl
@[simp] theorem Dev.flagI_lpe (d : Dev) (g : Field) (i : Nat) (b : Bool) : (d.flagI g i b).lpe = d.lpe := rfl
@[simp] theorem Dev.flagI_ddr (d : Dev) (g : Field) (i : Nat) (b : Bool) : (d.flagI g i b).ddr = d.ddr := rfl
@[simp] theorem Dev.flagI_grn (d : Dev) (g : Field) (i : Nat) (b : Bool) : (d.flagI g i b).grn = d.grn := rfl
@[simp] theorem Dev.flagI_mcc (d : Dev) (g : Field) (i : Nat) (b : Bool) : (d.flagI g i b).mcc = d.mcc := rfl
@[simp] theorem Dev.flagI_srm (d : Dev) (g : Field) (i : Nat) (b : Bool) : (d.flagI g i b).srm = d.srm := rfl
@[simp] theorem Dev.flagI_por (d : Dev) (g : Field) (i : Nat) (b : Bool) : (d.flagI g i b).por = d.por := rfl
@[simp] theorem Dev.flagI_mem (d : Dev) (g : Field) (i : Nat) (b : Bool) : (d.flagI g i b).mem = d.mem := rfl
@[simp] theorem Dev.flagI_hostMem (d : Dev) (g : Field) (i : Nat) (b : Bool) : (d.flagI g i b).hostMem = d.hostMem := rfl
@[simp] theorem Dev.flagI_fe (d : Dev) (g : Field) (i : Nat) (b : Bool) : (d.flagI g i b).fe = d.fe := rfl
@[simp] theorem Dev.flagI_det (d : Dev) (g : Field) (i : Nat) (b : Bool) : (d.flagI g i b).det = d.det := rfl
@[simp] theorem Dev.flagI_hif (d : Dev) (g : Field) (i : Nat) (b : Bool) : (d.flagI g i b).hif = d.hif := rfl
@[simp] theorem Dev.flagI_bus (d : Dev) (g : Field) (i : Nat) (b : Bool) : (d.flagI g i b).bus = d.bus := rfl
@[simp] theorem Dev.flagI_tal (d : Dev) (g : Field) (i : Nat) (b : Bool) : (d.flagI g i b).tal = d.tal := rfl
@[simp] theorem Dev.flagI_sea (d : Dev) (g : Field) (i : Nat) (b : Bool) : (d.flagI g i b).sea = d.sea := rfl
@[simp] theorem Dev.flagI_prs (d : Dev) (g : Field) (i : Nat) (b : Bool) : (d.flagI g i b).prs = d.prs := rfl

@[simp] theorem Dev.flag_freeCount (d : Dev) (g : Field) (b : Bool) : (d.flag g b).freeCount = d.freeCount := rfl
@[simp] theorem Dev.flag_pol (d : Dev) (g : Field) (b : Bool) : (d.flag g b).pol = d.pol := rfl
@[simp] theorem Dev.flag_streams (d : Dev) (g : Field) (b : Bool) : (d.flag g b).streams = d.streams := rfl
@[simp] theorem Dev.flag_cfg (d : Dev) (g : Field) (b : Bool) : (d.flag g b).cfg = d.cfg := rfl
@[simp] theorem Dev.flag_clk (d : Dev) (g : Field) (b : Bool) : (d.flag g b).clk = d.clk := rfl
@[simp] theorem Dev.flag_mod (d : Dev) (g : Field) (b : Bool) : (d.flag g b).mod = d.mod := rfl
@[simp] theorem Dev.flag_mil (d : Dev) (g : Field) (b : Bool) : (d.flag g b).mil = d.mil := rfl
@[simp] theorem Dev.flag_shps (d : Dev) (g : Field) (b : Bool) : (d.flag g b).shps = d.shps := rfl
@[simp] theorem Dev.flag_wch (d : Dev) (g : Field) (b : Bool) : (d.flag g b).wch = d.wch := rfl
@[simp] theorem Dev.flag_cmd (d : Dev) (g : Field) (b : Bool) : (d.flag g b).cmd = d.cmd := rfl
@[simp] theorem Dev.flag_drv (d : Dev) (g : Field) (b : Bool) : (d.flag g b).drv = d.drv := rfl
@[simp] theorem Dev.flag_wat (d : Dev) (g : Field) (b : Bool) : (d.flag g b).wat = d.wat := rfl
@[simp] theorem Dev.flag_dbk (d : Dev) (g : Field) (b : Bool) : (d.flag g b).dbk = d.dbk := rfl
@[simp] theorem Dev.flag_thm (d : Dev) (g : Field) (b : Bool) : (d.flag g b).thm = d.thm := rfl
@[simp] theorem Dev.flag_pins (d : Dev) (g : Field) (b : Bool) : (d.flag g b).pins = d.pins := rfl
@[simp] theorem Dev.flag_lpe (d : Dev) (g : Field) (b : Bool) : (d.flag g b).lpe = d.lpe := rfl
@[simp] theorem Dev.flag_ddr (d : Dev) (g : Field) (b : Bool) : (d.flag g b).ddr = d.ddr := rfl
@[simp] theorem Dev.flag_grn (d : Dev) (g : Field) (b : Bool) : (d.flag g b).grn = d.grn := rfl
@[simp] theorem Dev.flag_mcc (d : Dev) (g : Field) (b : Bool) : (d.flag g b).mcc = d.mcc := rfl
@[simp] theorem Dev.flag_srm (d : Dev) (g : Field) (b : Bool) : (d.flag g b).srm = d.srm := rfl
@[simp] theorem Dev.flag_por (d : Dev) (g : Field) (b : Bool) : (d.flag g b).por = d.por := rfl
@[simp] theorem Dev.flag_mem (d : Dev) (g : Field) (b : Bool) : (d.flag g b).mem = d.mem := rfl
@[simp] theorem Dev.flag_hostMem (d : Dev) (g : Field) (b : Bool) : (d.flag g b).hostMem = d.hostMem := rfl
@[simp] theorem Dev.flag_fe (d : Dev) (g : Field) (b : Bool) : (d.flag g b).fe = d.fe := rfl
@[simp] theorem Dev.flag_det (d : Dev) (g : Field) (b : Bool) : (d.flag g b).det = d.det := rfl
@[simp] theorem Dev.flag_hif (d : Dev) (g : Field) (b : Bool) : (d.flag g b).hif = d.hif := rfl
@[simp] theorem Dev.flag_bus (d : Dev) (g : Field) (b : Bool) : (d.flag g b).bus = d.bus := rfl
@[simp] theorem Dev.flag_tal (d : Dev) (g : Field) (b : Bool) : (d.flag g b).tal = d.tal := rfl
@[simp] theorem Dev.flag_sea (d : Dev) (g : Field) (b : Bool) : (d.flag g b).sea = d.sea := rfl
@[simp] theorem Dev.flag_prs (d : Dev) (g : Field) (b : Bool) : (d.flag g b).prs = d.prs := rfl

@[simp] theorem Dev.addI_freeCount (d : Dev) (g : Field) (i k : Nat) : (d.addI g i k).freeCount = d.freeCount := rfl
@[simp] theorem Dev.addI_pol (d : Dev) (g : Field) (i k : Nat) : (d.addI g i k).pol = d.pol := rfl
@[simp] theorem Dev.addI_streams (d : Dev) (g : Field) (i k : Nat) : (d.addI g i k).streams = d.streams := rfl
@[simp] theorem Dev.addI_cfg (d : Dev) (g : Field) (i k : Nat) : (d.addI g i k).cfg = d.cfg := rfl
@[simp] theorem Dev.addI_clk (d : Dev) (g : Field) (i k : Nat) : (d.addI g i k).clk = d.clk := rfl
@[simp] theorem Dev.addI_mod (d : Dev) (g : Field) (i k : Nat) : (d.addI g i k).mod = d.mod := rfl
@[simp] theorem Dev.addI_mil (d : Dev) (g : Field) (i k : Nat) : (d.addI g i k).mil = d.mil := rfl
@[simp] theorem Dev.addI_shps (d : Dev) (g : Field) (i k : Nat) : (d.addI g i k).shps = d.shps := rfl
@[simp] theorem Dev.addI_wch (d : Dev) (g : Field) (i k : Nat) : (d.addI g i k).wch = d.wch := rfl
@[simp] theorem Dev.addI_cmd (d : Dev) (g : Field) (i k : Nat) : (d.addI g i k).cmd = d.cmd := rfl
@[simp] theorem Dev.addI_drv (d : Dev) (g : Field) (i k : Nat) : (d.addI g i k).drv = d.drv := rfl
@[simp] theorem Dev.addI_wat (d : Dev) (g : Field) (i k : Nat) : (d.addI g i k).wat = d.wat := rfl
@[simp] theorem Dev.addI_dbk (d : Dev) (g : Field) (i k : Nat) : (d.addI g i k).dbk = d.dbk := rfl
@[simp] theorem Dev.addI_thm (d : Dev) (g : Field) (i k : Nat) : (d.addI g i k).thm = d.thm := rfl
@[simp] theorem Dev.addI_pins (d : Dev) (g : Field) (i k : Nat) : (d.addI g i k).pins = d.pins := rfl
@[simp] theorem Dev.addI_lpe (d : Dev) (g : Field) (i k : Nat) : (d.addI g i k).lpe = d.lpe := rfl
@[simp] theorem Dev.addI_ddr (d : Dev) (g : Field) (i k : Nat) : (d.addI g i k).ddr = d.ddr := rfl
@[simp] theorem Dev.addI_grn (d : Dev) (g : Field) (i k : Nat) : (d.addI g i k).grn = d.grn := rfl
@[simp] theorem Dev.addI_mcc (d : Dev) (g : Field) (i k : Nat) : (d.addI g i k).mcc = d.mcc := rfl
@[simp] theorem Dev.addI_srm (d : Dev) (g : Field) (i k : Nat) : (d.addI g i k).srm = d.srm := rfl
@[simp] theorem Dev.addI_por (d : Dev) (g : Field) (i k : Nat) : (d.addI g i k).por = d.por := rfl
@[simp] theorem Dev.addI_mem (d : Dev) (g : Field) (i k : Nat) : (d.addI g i k).mem = d.mem := rfl
@[simp] theorem Dev.addI_hostMem (d : Dev) (g : Field) (i k : Nat) : (d.addI g i k).hostMem = d.hostMem := rfl
@[simp] theorem Dev.addI_fe (d : Dev) (g : Field) (i k : Nat) : (d.addI g i k).fe = d.fe := rfl
@[simp] theorem Dev.addI_det (d : Dev) (g : Field) (i k : Nat) : (d.addI g i k).det = d.det := rfl
@[simp] theorem Dev.addI_hif (d : Dev) (g : Field) (i k : Nat) : (d.addI g i k).hif = d.hif := rfl
@[simp] theorem Dev.addI_bus (d : Dev) (g : Field) (i k : Nat) : (d.addI g i k).bus = d.bus := rfl
@[simp] theorem Dev.addI_tal (d : Dev) (g : Field) (i k : Nat) : (d.addI g i k).tal = d.tal := rfl
@[simp] theorem Dev.addI_sea (d : Dev) (g : Field) (i k : Nat) : (d.addI g i k).sea = d.sea := rfl
@[simp] theorem Dev.addI_prs (d : Dev) (g : Field) (i k : Nat) : (d.addI g i k).prs = d.prs := rfl

@[simp] theorem Dev.inc_freeCount (d : Dev) (g : Field) : (d.inc g).freeCount = d.freeCount := rfl
@[simp] theorem Dev.inc_pol (d : Dev) (g : Field) : (d.inc g).pol = d.pol := rfl
@[simp] theorem Dev.inc_streams (d : Dev) (g : Field) : (d.inc g).streams = d.streams := rfl
@[simp] theorem Dev.inc_cfg (d : Dev) (g : Field) : (d.inc g).cfg = d.cfg := rfl
@[simp] theorem Dev.inc_clk (d : Dev) (g : Field) : (d.inc g).clk = d.clk := rfl
@[simp] theorem Dev.inc_mod (d : Dev) (g : Field) : (d.inc g).mod = d.mod := rfl
@[simp] theorem Dev.inc_mil (d : Dev) (g : Field) : (d.inc g).mil = d.mil := rfl
@[simp] theorem Dev.inc_shps (d : Dev) (g : Field) : (d.inc g).shps = d.shps := rfl
@[simp] theorem Dev.inc_wch (d : Dev) (g : Field) : (d.inc g).wch = d.wch := rfl
@[simp] theorem Dev.inc_cmd (d : Dev) (g : Field) : (d.inc g).cmd = d.cmd := rfl
@[simp] theorem Dev.inc_drv (d : Dev) (g : Field) : (d.inc g).drv = d.drv := rfl
@[simp] theorem Dev.inc_wat (d : Dev) (g : Field) : (d.inc g).wat = d.wat := rfl
@[simp] theorem Dev.inc_dbk (d : Dev) (g : Field) : (d.inc g).dbk = d.dbk := rfl
@[simp] theorem Dev.inc_thm (d : Dev) (g : Field) : (d.inc g).thm = d.thm := rfl
@[simp] theorem Dev.inc_pins (d : Dev) (g : Field) : (d.inc g).pins = d.pins := rfl
@[simp] theorem Dev.inc_lpe (d : Dev) (g : Field) : (d.inc g).lpe = d.lpe := rfl
@[simp] theorem Dev.inc_ddr (d : Dev) (g : Field) : (d.inc g).ddr = d.ddr := rfl
@[simp] theorem Dev.inc_grn (d : Dev) (g : Field) : (d.inc g).grn = d.grn := rfl
@[simp] theorem Dev.inc_mcc (d : Dev) (g : Field) : (d.inc g).mcc = d.mcc := rfl
@[simp] theorem Dev.inc_srm (d : Dev) (g : Field) : (d.inc g).srm = d.srm := rfl
@[simp] theorem Dev.inc_por (d : Dev) (g : Field) : (d.inc g).por = d.por := rfl
@[simp] theorem Dev.inc_mem (d : Dev) (g : Field) : (d.inc g).mem = d.mem := rfl
@[simp] theorem Dev.inc_hostMem (d : Dev) (g : Field) : (d.inc g).hostMem = d.hostMem := rfl
@[simp] theorem Dev.inc_fe (d : Dev) (g : Field) : (d.inc g).fe = d.fe := rfl
@[simp] theorem Dev.inc_det (d : Dev) (g : Field) : (d.inc g).det = d.det := rfl
@[simp] theorem Dev.inc_hif (d : Dev) (g : Field) : (d.inc g).hif = d.hif := rfl
@[simp] theorem Dev.inc_bus (d : Dev) (g : Field) : (d.inc g).bus = d.bus := rfl
@[simp] theorem Dev.inc_tal (d : Dev) (g : Field) : (d.inc g).tal = d.tal := rfl
@[simp] theorem Dev.inc_sea (d : Dev) (g : Field) : (d.inc g).sea = d.sea := rfl
@[simp] theorem Dev.inc_prs (d : Dev) (g : Field) : (d.inc g).prs = d.prs := rfl

@[simp] theorem Dev.fresh_regs (d : Dev) : d.fresh.2.regs = d.regs := rfl
@[simp] theorem Dev.fresh_pol (d : Dev) : d.fresh.2.pol = d.pol := rfl
@[simp] theorem Dev.fresh_streams (d : Dev) : d.fresh.2.streams = d.streams := rfl
@[simp] theorem Dev.fresh_cfg (d : Dev) : d.fresh.2.cfg = d.cfg := rfl
@[simp] theorem Dev.fresh_clk (d : Dev) : d.fresh.2.clk = d.clk := rfl
@[simp] theorem Dev.fresh_mod (d : Dev) : d.fresh.2.mod = d.mod := rfl
@[simp] theorem Dev.fresh_mil (d : Dev) : d.fresh.2.mil = d.mil := rfl
@[simp] theorem Dev.fresh_shps (d : Dev) : d.fresh.2.shps = d.shps := rfl
@[simp] theorem Dev.fresh_wch (d : Dev) : d.fresh.2.wch = d.wch := rfl
@[simp] theorem Dev.fresh_cmd (d : Dev) : d.fresh.2.cmd = d.cmd := rfl
@[simp] theorem Dev.fresh_drv (d : Dev) : d.fresh.2.drv = d.drv := rfl
@[simp] theorem Dev.fresh_wat (d : Dev) : d.fresh.2.wat = d.wat := rfl
@[simp] theorem Dev.fresh_dbk (d : Dev) : d.fresh.2.dbk = d.dbk := rfl
@[simp] theorem Dev.fresh_thm (d : Dev) : d.fresh.2.thm = d.thm := rfl
@[simp] theorem Dev.fresh_pins (d : Dev) : d.fresh.2.pins = d.pins := rfl
@[simp] theorem Dev.fresh_lpe (d : Dev) : d.fresh.2.lpe = d.lpe := rfl
@[simp] theorem Dev.fresh_ddr (d : Dev) : d.fresh.2.ddr = d.ddr := rfl
@[simp] theorem Dev.fresh_grn (d : Dev) : d.fresh.2.grn = d.grn := rfl
@[simp] theorem Dev.fresh_mcc (d : Dev) : d.fresh.2.mcc = d.mcc := rfl
@[simp] theorem Dev.fresh_srm (d : Dev) : d.fresh.2.srm = d.srm := rfl
@[simp] theorem Dev.fresh_por (d : Dev) : d.fresh.2.por = d.por := rfl
@[simp] theorem Dev.fresh_mem (d : Dev) : d.fresh.2.mem = d.mem := rfl
@[simp] theorem Dev.fresh_hostMem (d : Dev) : d.fresh.2.hostMem = d.hostMem := rfl
@[simp] theorem Dev.fresh_fe (d : Dev) : d.fresh.2.fe = d.fe := rfl
@[simp] theorem Dev.fresh_det (d : Dev) : d.fresh.2.det = d.det := rfl
@[simp] theorem Dev.fresh_hif (d : Dev) : d.fresh.2.hif = d.hif := rfl
@[simp] theorem Dev.fresh_bus (d : Dev) : d.fresh.2.bus = d.bus := rfl
@[simp] theorem Dev.fresh_tal (d : Dev) : d.fresh.2.tal = d.tal := rfl
@[simp] theorem Dev.fresh_sea (d : Dev) : d.fresh.2.sea = d.sea := rfl
@[simp] theorem Dev.fresh_prs (d : Dev) : d.fresh.2.prs = d.prs := rfl

@[simp] theorem Dev.answer_regs (d : Dev) (v : Nat) (x : BusFault) : (d.answer v x).regs = d.regs := rfl
@[simp] theorem Dev.answer_freeCount (d : Dev) (v : Nat) (x : BusFault) : (d.answer v x).freeCount = d.freeCount := rfl
@[simp] theorem Dev.answer_pol (d : Dev) (v : Nat) (x : BusFault) : (d.answer v x).pol = d.pol := rfl
@[simp] theorem Dev.answer_streams (d : Dev) (v : Nat) (x : BusFault) : (d.answer v x).streams = d.streams := rfl
@[simp] theorem Dev.answer_cfg (d : Dev) (v : Nat) (x : BusFault) : (d.answer v x).cfg = d.cfg := rfl
@[simp] theorem Dev.answer_clk (d : Dev) (v : Nat) (x : BusFault) : (d.answer v x).clk = d.clk := rfl
@[simp] theorem Dev.answer_mod (d : Dev) (v : Nat) (x : BusFault) : (d.answer v x).mod = d.mod := rfl
@[simp] theorem Dev.answer_mil (d : Dev) (v : Nat) (x : BusFault) : (d.answer v x).mil = d.mil := rfl
@[simp] theorem Dev.answer_shps (d : Dev) (v : Nat) (x : BusFault) : (d.answer v x).shps = d.shps := rfl
@[simp] theorem Dev.answer_wch (d : Dev) (v : Nat) (x : BusFault) : (d.answer v x).wch = d.wch := rfl
@[simp] theorem Dev.answer_cmd (d : Dev) (v : Nat) (x : BusFault) : (d.answer v x).cmd = d.cmd := rfl
@[simp] theorem Dev.answer_drv (d : Dev) (v : Nat) (x : BusFault) : (d.answer v x).drv = d.drv := rfl
@[simp] theorem Dev.answer_wat (d : Dev) (v : Nat) (x : BusFault) : (d.answer v x).wat = d.wat := rfl
@[simp] theorem Dev.answer_dbk (d : Dev) (v : Nat) (x : BusFault) : (d.answer v x).dbk = d.dbk := rfl
@[simp] theorem Dev.answer_thm (d : Dev) (v : Nat) (x : BusFault) : (d.answer v x).thm = d.thm := rfl
@[simp] theorem Dev.answer_pins (d : Dev) (v : Nat) (x : BusFault) : (d.answer v x).pins = d.pins := rfl
@[simp] theorem Dev.answer_lpe (d : Dev) (v : Nat) (x : BusFault) : (d.answer v x).lpe = d.lpe := rfl
@[simp] theorem Dev.answer_ddr (d : Dev) (v : Nat) (x : BusFault) : (d.answer v x).ddr = d.ddr := rfl
@[simp] theorem Dev.answer_grn (d : Dev) (v : Nat) (x : BusFault) : (d.answer v x).grn = d.grn := rfl
@[simp] theorem Dev.answer_mcc (d : Dev) (v : Nat) (x : BusFault) : (d.answer v x).mcc = d.mcc := rfl
@[simp] theorem Dev.answer_srm (d : Dev) (v : Nat) (x : BusFault) : (d.answer v x).srm = d.srm := rfl
@[simp] theorem Dev.answer_por (d : Dev) (v : Nat) (x : BusFault) : (d.answer v x).por = d.por := rfl
@[simp] theorem Dev.answer_mem (d : Dev) (v : Nat) (x : BusFault) : (d.answer v x).mem = d.mem := rfl
@[simp] theorem Dev.answer_hostMem (d : Dev) (v : Nat) (x : BusFault) : (d.answer v x).hostMem = d.hostMem := rfl
@[simp] theorem Dev.answer_fe (d : Dev) (v : Nat) (x : BusFault) : (d.answer v x).fe = d.fe := rfl
@[simp] theorem Dev.answer_det (d : Dev) (v : Nat) (x : BusFault) : (d.answer v x).det = d.det := rfl
@[simp] theorem Dev.answer_hif (d : Dev) (v : Nat) (x : BusFault) : (d.answer v x).hif = d.hif := rfl
@[simp] theorem Dev.answer_tal (d : Dev) (v : Nat) (x : BusFault) : (d.answer v x).tal = d.tal := rfl
@[simp] theorem Dev.answer_sea (d : Dev) (v : Nat) (x : BusFault) : (d.answer v x).sea = d.sea := rfl
@[simp] theorem Dev.answer_prs (d : Dev) (v : Nat) (x : BusFault) : (d.answer v x).prs = d.prs := rfl

/-- A command that acts answers a next state: the settled device, the queue as it was. -/
theorem State.run_eq (s : State) (f : Dev → Dev) : s.run f = .next { s with toDev := (f s.toDev).settle } := rfl

/-- A command of an island acts where the island runs, and does nothing where it does not (02 R72, R78, R82). -/
theorem State.runIsland_eq {s : State} {isl : Nat} (f : Dev → Dev) (h : s.toDev.live isl = true) : s.runIsland isl f = s.run f := by
  simp [State.runIsland, State.run, h]

theorem State.runIsland_idle {s : State} {isl : Nat} (f : Dev → Dev) (h : s.toDev.live isl = false) : s.runIsland isl f = s.run id := by
  simp [State.runIsland, State.run, h]

/-- The same of a port part of RCH or WCH (02 R882). -/
theorem State.runPort_eq {s : State} {isl n : Nat} (f : Dev → Dev) (h : s.toDev.livePort isl n = true) : s.runPort isl n f = s.run f := by
  simp [State.runPort, State.run, h]

theorem State.runPort_idle {s : State} {isl n : Nat} (f : Dev → Dev) (h : s.toDev.livePort isl n = false) : s.runPort isl n f = s.run id := by
  simp [State.runPort, State.run, h]

/-- The same of logic outside AON that no one island holds (02 R82). -/
theorem State.runCore_eq {s : State} (f : Dev → Dev) (h : s.toDev.clk.stopped = false) : s.runCore f = s.run f := by
  simp [State.runCore, State.run, h]

theorem State.runCore_idle {s : State} (f : Dev → Dev) (h : s.toDev.clk.stopped = true) : s.runCore f = s.run id := by
  simp [State.runCore, State.run, h]

/-- A register write acts while the domain is on, and is dropped and counted while it is off (02 R81). -/
theorem State.runWrite_eq {s : State} {dom : Nat} (f : Dev → Dev) (hp : s.toDev.powered dom = true) : s.runWrite dom f = s.runCore f := by
  simp [State.runWrite, State.runCore, State.run, Dev.inPower, hp]

theorem State.runWrite_dropped {s : State} {dom : Nat} (f : Dev → Dev) (hp : s.toDev.powered dom = false) :
    s.runWrite dom f = s.runCore Dev.droppedWrite := by
  simp [State.runWrite, State.runCore, State.run, Dev.inPower, hp]

end Sys2Proof.Machine
end

