-- ==== Sys2Proof/Laws/Effect.lean ====
section
/-! SUPPORT. How a command's effect is shown: from the change that its meaning makes to the device. -/

namespace Sys2Proof.Machine

/-- A command whose meaning runs `f` has the effect that `f` gives. -/
theorem effect_intro {c : Instr} {f : Dev → Dev} {d e : Dev} (h : ∀ s : State, exec c s = s.run f) (he : f d = e) : Effect c d e := by
  intro q
  rw [h, State.run_eq, he]

/-- The same of a command of an island that runs. -/
theorem effect_island {c : Instr} {isl : Nat} {f : Dev → Dev} {d e : Dev} (hl : d.live isl = true) (h : ∀ s : State, exec c s = s.runIsland isl f)
    (he : f d = e) : Effect c d e := by
  intro q
  rw [h, State.runIsland_eq (s := ⟨d, q⟩) f hl, State.run_eq, he]

/-- The same of a command of a port part that runs. -/
theorem effect_port {c : Instr} {isl n : Nat} {f : Dev → Dev} {d e : Dev} (hl : d.livePort isl n = true)
    (h : ∀ s : State, exec c s = s.runPort isl n f) (he : f d = e) : Effect c d e := by
  intro q
  rw [h, State.runPort_eq (s := ⟨d, q⟩) f hl, State.run_eq, he]

/-- The same of logic outside AON that no one island holds. -/
theorem effect_core {c : Instr} {f : Dev → Dev} {d e : Dev} (hs : d.clk.stopped = false) (h : ∀ s : State, exec c s = s.runCore f)
    (he : f d = e) : Effect c d e := by
  intro q
  rw [h, State.runCore_eq (s := ⟨d, q⟩) f hs, State.run_eq, he]

/-- The same of a register write whose domain is on. -/
theorem effect_write {c : Instr} {dom : Nat} {f : Dev → Dev} {d e : Dev} (hp : d.powered dom = true) (hs : d.clk.stopped = false)
    (h : ∀ s : State, exec c s = s.runWrite dom f) (he : f d = e) : Effect c d e := by
  intro q
  rw [h, State.runWrite_eq (s := ⟨d, q⟩) f hp, State.runCore_eq (s := ⟨d, q⟩) f hs, State.run_eq, he]

/-- A register write whose domain is off is dropped and counted (02 R81). -/
theorem effect_dropped {c : Instr} {dom : Nat} {f : Dev → Dev} {d e : Dev} (hp : d.powered dom = false) (hs : d.clk.stopped = false)
    (h : ∀ s : State, exec c s = s.runWrite dom f) (he : d.droppedWrite = e) : Effect c d e := by
  intro q
  rw [h, State.runWrite_dropped (s := ⟨d, q⟩) f hp, State.runCore_eq (s := ⟨d, q⟩) _ hs, State.run_eq, he]

/-- A command of an island that does not run leaves the device as it was; so of a port part, and of what no one island holds. -/
theorem effect_idle {c : Instr} {isl : Nat} {f : Dev → Dev} {d : Dev} (hl : d.live isl = false) (h : ∀ s : State, exec c s = s.runIsland isl f) :
    Effect c d d := by
  intro q
  rw [h, State.runIsland_idle (s := ⟨d, q⟩) f hl]
  rfl

theorem effect_idlePort {c : Instr} {isl n : Nat} {f : Dev → Dev} {d : Dev} (hl : d.livePort isl n = false)
    (h : ∀ s : State, exec c s = s.runPort isl n f) : Effect c d d := by
  intro q
  rw [h, State.runPort_idle (s := ⟨d, q⟩) f hl]
  rfl

theorem effect_idleCore {c : Instr} {f : Dev → Dev} {d : Dev} (hs : d.clk.stopped = true) (h : ∀ s : State, exec c s = s.runCore f) :
    Effect c d d := by
  intro q
  rw [h, State.runCore_idle (s := ⟨d, q⟩) f hs]
  rfl

theorem effect_idleWrite {c : Instr} {dom : Nat} {f : Dev → Dev} {d : Dev} (hs : d.clk.stopped = true)
    (h : ∀ s : State, exec c s = s.runWrite dom f) : Effect c d d :=
  effect_idleCore hs h

/-- The effect of a command is one: the device it settles from determines the step. -/
theorem effect_exec {c : Instr} {d e : Dev} (h : Effect c d e) (q : List Instr) : exec c ⟨d, q⟩ = .next ⟨e.settle, q⟩ := h q

end Sys2Proof.Machine
end

