-- ==== Sys2Proof/Laws/Events.lean ====
section
/-! SUPPORT. What the shared operations on events and messages leave alone, one lemma per field: an event posted changes the registers and
the Watch; a message to the host changes the pending bits and host memory; the asynchronous notice those and its register. What holds of
every part of a conditional or repeated operation holds of the whole. -/

namespace Sys2Proof.Machine

/-- What each turn keeps, a repeated operation keeps. -/
theorem Dev.each_keeps {α β : Type} (p : Dev → β) (f : Dev → α → Dev) (h : ∀ d a, p (f d a) = p d) (d : Dev) (l : List α) :
    p (d.each l f) = p d := by
  unfold Dev.each
  induction l generalizing d with
  | nil => rfl
  | cons a l ih => exact (ih (f d a)).trans (h d a)

/-- What the operation keeps, a conditional operation keeps. -/
theorem Dev.when_keeps {β : Type} (p : Dev → β) (b : Bool) (f : Dev → Dev) (d : Dev) (h : p (f d) = p d) : p (d.when b f) = p d := by
  unfold Dev.when
  split
  · exact h
  · rfl

/-- An operation on a domain that is on keeps what it keeps; while the domain is off only the count of dropped writes changes. -/
theorem Dev.inPower_keeps {β : Type} (p : Dev → β) (dom : Nat) (f : Dev → Dev) (d : Dev) (h : p (f d) = p d)
    (hw : p d.droppedWrite = p d) : p (d.inPower dom f) = p d := by
  unfold Dev.inPower
  split
  · exact h
  · exact hw

@[simp] theorem Dev.post_freeCount (d : Dev) (code : Nat) (ps : List Nat) : (d.post code ps).freeCount = d.freeCount := by
  unfold Dev.post
  dsimp only
  repeat' (first | rfl | split)

@[simp] theorem Dev.post_pol (d : Dev) (code : Nat) (ps : List Nat) : (d.post code ps).pol = d.pol := by
  unfold Dev.post
  dsimp only
  repeat' (first | rfl | split)

@[simp] theorem Dev.post_streams (d : Dev) (code : Nat) (ps : List Nat) : (d.post code ps).streams = d.streams := by
  unfold Dev.post
  dsimp only
  repeat' (first | rfl | split)

@[simp] theorem Dev.post_cfg (d : Dev) (code : Nat) (ps : List Nat) : (d.post code ps).cfg = d.cfg := by
  unfold Dev.post
  dsimp only
  repeat' (first | rfl | split)

@[simp] theorem Dev.post_clk (d : Dev) (code : Nat) (ps : List Nat) : (d.post code ps).clk = d.clk := by
  unfold Dev.post
  dsimp only
  repeat' (first | rfl | split)

@[simp] theorem Dev.post_mod (d : Dev) (code : Nat) (ps : List Nat) : (d.post code ps).mod = d.mod := by
  unfold Dev.post
  dsimp only
  repeat' (first | rfl | split)

@[simp] theorem Dev.post_mil (d : Dev) (code : Nat) (ps : List Nat) : (d.post code ps).mil = d.mil := by
  unfold Dev.post
  dsimp only
  repeat' (first | rfl | split)

@[simp] theorem Dev.post_shps (d : Dev) (code : Nat) (ps : List Nat) : (d.post code ps).shps = d.shps := by
  unfold Dev.post
  dsimp only
  repeat' (first | rfl | split)

@[simp] theorem Dev.post_wch (d : Dev) (code : Nat) (ps : List Nat) : (d.post code ps).wch = d.wch := by
  unfold Dev.post
  dsimp only
  repeat' (first | rfl | split)

@[simp] theorem Dev.post_cmd (d : Dev) (code : Nat) (ps : List Nat) : (d.post code ps).cmd = d.cmd := by
  unfold Dev.post
  dsimp only
  repeat' (first | rfl | split)

@[simp] theorem Dev.post_drv (d : Dev) (code : Nat) (ps : List Nat) : (d.post code ps).drv = d.drv := by
  unfold Dev.post
  dsimp only
  repeat' (first | rfl | split)

@[simp] theorem Dev.post_dbk (d : Dev) (code : Nat) (ps : List Nat) : (d.post code ps).dbk = d.dbk := by
  unfold Dev.post
  dsimp only
  repeat' (first | rfl | split)

@[simp] theorem Dev.post_thm (d : Dev) (code : Nat) (ps : List Nat) : (d.post code ps).thm = d.thm := by
  unfold Dev.post
  dsimp only
  repeat' (first | rfl | split)

@[simp] theorem Dev.post_pins (d : Dev) (code : Nat) (ps : List Nat) : (d.post code ps).pins = d.pins := by
  unfold Dev.post
  dsimp only
  repeat' (first | rfl | split)

@[simp] theorem Dev.post_lpe (d : Dev) (code : Nat) (ps : List Nat) : (d.post code ps).lpe = d.lpe := by
  unfold Dev.post
  dsimp only
  repeat' (first | rfl | split)

@[simp] theorem Dev.post_ddr (d : Dev) (code : Nat) (ps : List Nat) : (d.post code ps).ddr = d.ddr := by
  unfold Dev.post
  dsimp only
  repeat' (first | rfl | split)

@[simp] theorem Dev.post_grn (d : Dev) (code : Nat) (ps : List Nat) : (d.post code ps).grn = d.grn := by
  unfold Dev.post
  dsimp only
  repeat' (first | rfl | split)

@[simp] theorem Dev.post_mcc (d : Dev) (code : Nat) (ps : List Nat) : (d.post code ps).mcc = d.mcc := by
  unfold Dev.post
  dsimp only
  repeat' (first | rfl | split)

@[simp] theorem Dev.post_srm (d : Dev) (code : Nat) (ps : List Nat) : (d.post code ps).srm = d.srm := by
  unfold Dev.post
  dsimp only
  repeat' (first | rfl | split)

@[simp] theorem Dev.post_por (d : Dev) (code : Nat) (ps : List Nat) : (d.post code ps).por = d.por := by
  unfold Dev.post
  dsimp only
  repeat' (first | rfl | split)

@[simp] theorem Dev.post_mem (d : Dev) (code : Nat) (ps : List Nat) : (d.post code ps).mem = d.mem := by
  unfold Dev.post
  dsimp only
  repeat' (first | rfl | split)

@[simp] theorem Dev.post_hostMem (d : Dev) (code : Nat) (ps : List Nat) : (d.post code ps).hostMem = d.hostMem := by
  unfold Dev.post
  dsimp only
  repeat' (first | rfl | split)

@[simp] theorem Dev.post_fe (d : Dev) (code : Nat) (ps : List Nat) : (d.post code ps).fe = d.fe := by
  unfold Dev.post
  dsimp only
  repeat' (first | rfl | split)

@[simp] theorem Dev.post_det (d : Dev) (code : Nat) (ps : List Nat) : (d.post code ps).det = d.det := by
  unfold Dev.post
  dsimp only
  repeat' (first | rfl | split)

@[simp] theorem Dev.post_hif (d : Dev) (code : Nat) (ps : List Nat) : (d.post code ps).hif = d.hif := by
  unfold Dev.post
  dsimp only
  repeat' (first | rfl | split)

@[simp] theorem Dev.post_bus (d : Dev) (code : Nat) (ps : List Nat) : (d.post code ps).bus = d.bus := by
  unfold Dev.post
  dsimp only
  repeat' (first | rfl | split)

@[simp] theorem Dev.post_tal (d : Dev) (code : Nat) (ps : List Nat) : (d.post code ps).tal = d.tal := by
  unfold Dev.post
  dsimp only
  repeat' (first | rfl | split)

@[simp] theorem Dev.post_sea (d : Dev) (code : Nat) (ps : List Nat) : (d.post code ps).sea = d.sea := by
  unfold Dev.post
  dsimp only
  repeat' (first | rfl | split)

@[simp] theorem Dev.post_prs (d : Dev) (code : Nat) (ps : List Nat) : (d.post code ps).prs = d.prs := by
  unfold Dev.post
  dsimp only
  repeat' (first | rfl | split)

@[simp] theorem Dev.setBit_freeCount (d : Dev) (g : Field) (n : Nat) (b : Bool) : (d.setBit g n b).freeCount = d.freeCount := rfl
@[simp] theorem Dev.setBit_pol (d : Dev) (g : Field) (n : Nat) (b : Bool) : (d.setBit g n b).pol = d.pol := rfl
@[simp] theorem Dev.setBit_streams (d : Dev) (g : Field) (n : Nat) (b : Bool) : (d.setBit g n b).streams = d.streams := rfl
@[simp] theorem Dev.setBit_cfg (d : Dev) (g : Field) (n : Nat) (b : Bool) : (d.setBit g n b).cfg = d.cfg := rfl
@[simp] theorem Dev.setBit_clk (d : Dev) (g : Field) (n : Nat) (b : Bool) : (d.setBit g n b).clk = d.clk := rfl
@[simp] theorem Dev.setBit_mod (d : Dev) (g : Field) (n : Nat) (b : Bool) : (d.setBit g n b).mod = d.mod := rfl
@[simp] theorem Dev.setBit_mil (d : Dev) (g : Field) (n : Nat) (b : Bool) : (d.setBit g n b).mil = d.mil := rfl
@[simp] theorem Dev.setBit_shps (d : Dev) (g : Field) (n : Nat) (b : Bool) : (d.setBit g n b).shps = d.shps := rfl
@[simp] theorem Dev.setBit_wch (d : Dev) (g : Field) (n : Nat) (b : Bool) : (d.setBit g n b).wch = d.wch := rfl
@[simp] theorem Dev.setBit_cmd (d : Dev) (g : Field) (n : Nat) (b : Bool) : (d.setBit g n b).cmd = d.cmd := rfl
@[simp] theorem Dev.setBit_drv (d : Dev) (g : Field) (n : Nat) (b : Bool) : (d.setBit g n b).drv = d.drv := rfl
@[simp] theorem Dev.setBit_wat (d : Dev) (g : Field) (n : Nat) (b : Bool) : (d.setBit g n b).wat = d.wat := rfl
@[simp] theorem Dev.setBit_dbk (d : Dev) (g : Field) (n : Nat) (b : Bool) : (d.setBit g n b).dbk = d.dbk := rfl
@[simp] theorem Dev.setBit_thm (d : Dev) (g : Field) (n : Nat) (b : Bool) : (d.setBit g n b).thm = d.thm := rfl
@[simp] theorem Dev.setBit_pins (d : Dev) (g : Field) (n : Nat) (b : Bool) : (d.setBit g n b).pins = d.pins := rfl
@[simp] theorem Dev.setBit_lpe (d : Dev) (g : Field) (n : Nat) (b : Bool) : (d.setBit g n b).lpe = d.lpe := rfl
@[simp] theorem Dev.setBit_ddr (d : Dev) (g : Field) (n : Nat) (b : Bool) : (d.setBit g n b).ddr = d.ddr := rfl
@[simp] theorem Dev.setBit_grn (d : Dev) (g : Field) (n : Nat) (b : Bool) : (d.setBit g n b).grn = d.grn := rfl
@[simp] theorem Dev.setBit_mcc (d : Dev) (g : Field) (n : Nat) (b : Bool) : (d.setBit g n b).mcc = d.mcc := rfl
@[simp] theorem Dev.setBit_srm (d : Dev) (g : Field) (n : Nat) (b : Bool) : (d.setBit g n b).srm = d.srm := rfl
@[simp] theorem Dev.setBit_por (d : Dev) (g : Field) (n : Nat) (b : Bool) : (d.setBit g n b).por = d.por := rfl
@[simp] theorem Dev.setBit_mem (d : Dev) (g : Field) (n : Nat) (b : Bool) : (d.setBit g n b).mem = d.mem := rfl
@[simp] theorem Dev.setBit_hostMem (d : Dev) (g : Field) (n : Nat) (b : Bool) : (d.setBit g n b).hostMem = d.hostMem := rfl
@[simp] theorem Dev.setBit_fe (d : Dev) (g : Field) (n : Nat) (b : Bool) : (d.setBit g n b).fe = d.fe := rfl
@[simp] theorem Dev.setBit_det (d : Dev) (g : Field) (n : Nat) (b : Bool) : (d.setBit g n b).det = d.det := rfl
@[simp] theorem Dev.setBit_hif (d : Dev) (g : Field) (n : Nat) (b : Bool) : (d.setBit g n b).hif = d.hif := rfl
@[simp] theorem Dev.setBit_bus (d : Dev) (g : Field) (n : Nat) (b : Bool) : (d.setBit g n b).bus = d.bus := rfl
@[simp] theorem Dev.setBit_tal (d : Dev) (g : Field) (n : Nat) (b : Bool) : (d.setBit g n b).tal = d.tal := rfl
@[simp] theorem Dev.setBit_sea (d : Dev) (g : Field) (n : Nat) (b : Bool) : (d.setBit g n b).sea = d.sea := rfl
@[simp] theorem Dev.setBit_prs (d : Dev) (g : Field) (n : Nat) (b : Bool) : (d.setBit g n b).prs = d.prs := rfl

@[simp] theorem Dev.sendMessage_freeCount (d : Dev) (v : Nat) : (d.sendMessage v).freeCount = d.freeCount := by
  unfold Dev.sendMessage
  dsimp only
  repeat' (first | rfl | split)

@[simp] theorem Dev.sendMessage_pol (d : Dev) (v : Nat) : (d.sendMessage v).pol = d.pol := by
  unfold Dev.sendMessage
  dsimp only
  repeat' (first | rfl | split)

@[simp] theorem Dev.sendMessage_streams (d : Dev) (v : Nat) : (d.sendMessage v).streams = d.streams := by
  unfold Dev.sendMessage
  dsimp only
  repeat' (first | rfl | split)

@[simp] theorem Dev.sendMessage_cfg (d : Dev) (v : Nat) : (d.sendMessage v).cfg = d.cfg := by
  unfold Dev.sendMessage
  dsimp only
  repeat' (first | rfl | split)

@[simp] theorem Dev.sendMessage_clk (d : Dev) (v : Nat) : (d.sendMessage v).clk = d.clk := by
  unfold Dev.sendMessage
  dsimp only
  repeat' (first | rfl | split)

@[simp] theorem Dev.sendMessage_mod (d : Dev) (v : Nat) : (d.sendMessage v).mod = d.mod := by
  unfold Dev.sendMessage
  dsimp only
  repeat' (first | rfl | split)

@[simp] theorem Dev.sendMessage_mil (d : Dev) (v : Nat) : (d.sendMessage v).mil = d.mil := by
  unfold Dev.sendMessage
  dsimp only
  repeat' (first | rfl | split)

@[simp] theorem Dev.sendMessage_shps (d : Dev) (v : Nat) : (d.sendMessage v).shps = d.shps := by
  unfold Dev.sendMessage
  dsimp only
  repeat' (first | rfl | split)

@[simp] theorem Dev.sendMessage_wch (d : Dev) (v : Nat) : (d.sendMessage v).wch = d.wch := by
  unfold Dev.sendMessage
  dsimp only
  repeat' (first | rfl | split)

@[simp] theorem Dev.sendMessage_cmd (d : Dev) (v : Nat) : (d.sendMessage v).cmd = d.cmd := by
  unfold Dev.sendMessage
  dsimp only
  repeat' (first | rfl | split)

@[simp] theorem Dev.sendMessage_drv (d : Dev) (v : Nat) : (d.sendMessage v).drv = d.drv := by
  unfold Dev.sendMessage
  dsimp only
  repeat' (first | rfl | split)

@[simp] theorem Dev.sendMessage_wat (d : Dev) (v : Nat) : (d.sendMessage v).wat = d.wat := by
  unfold Dev.sendMessage
  dsimp only
  repeat' (first | rfl | split)

@[simp] theorem Dev.sendMessage_dbk (d : Dev) (v : Nat) : (d.sendMessage v).dbk = d.dbk := by
  unfold Dev.sendMessage
  dsimp only
  repeat' (first | rfl | split)

@[simp] theorem Dev.sendMessage_thm (d : Dev) (v : Nat) : (d.sendMessage v).thm = d.thm := by
  unfold Dev.sendMessage
  dsimp only
  repeat' (first | rfl | split)

@[simp] theorem Dev.sendMessage_pins (d : Dev) (v : Nat) : (d.sendMessage v).pins = d.pins := by
  unfold Dev.sendMessage
  dsimp only
  repeat' (first | rfl | split)

@[simp] theorem Dev.sendMessage_lpe (d : Dev) (v : Nat) : (d.sendMessage v).lpe = d.lpe := by
  unfold Dev.sendMessage
  dsimp only
  repeat' (first | rfl | split)

@[simp] theorem Dev.sendMessage_ddr (d : Dev) (v : Nat) : (d.sendMessage v).ddr = d.ddr := by
  unfold Dev.sendMessage
  dsimp only
  repeat' (first | rfl | split)

@[simp] theorem Dev.sendMessage_grn (d : Dev) (v : Nat) : (d.sendMessage v).grn = d.grn := by
  unfold Dev.sendMessage
  dsimp only
  repeat' (first | rfl | split)

@[simp] theorem Dev.sendMessage_mcc (d : Dev) (v : Nat) : (d.sendMessage v).mcc = d.mcc := by
  unfold Dev.sendMessage
  dsimp only
  repeat' (first | rfl | split)

@[simp] theorem Dev.sendMessage_srm (d : Dev) (v : Nat) : (d.sendMessage v).srm = d.srm := by
  unfold Dev.sendMessage
  dsimp only
  repeat' (first | rfl | split)

@[simp] theorem Dev.sendMessage_por (d : Dev) (v : Nat) : (d.sendMessage v).por = d.por := by
  unfold Dev.sendMessage
  dsimp only
  repeat' (first | rfl | split)

@[simp] theorem Dev.sendMessage_mem (d : Dev) (v : Nat) : (d.sendMessage v).mem = d.mem := by
  unfold Dev.sendMessage
  dsimp only
  repeat' (first | rfl | split)

@[simp] theorem Dev.sendMessage_fe (d : Dev) (v : Nat) : (d.sendMessage v).fe = d.fe := by
  unfold Dev.sendMessage
  dsimp only
  repeat' (first | rfl | split)

@[simp] theorem Dev.sendMessage_det (d : Dev) (v : Nat) : (d.sendMessage v).det = d.det := by
  unfold Dev.sendMessage
  dsimp only
  repeat' (first | rfl | split)

@[simp] theorem Dev.sendMessage_bus (d : Dev) (v : Nat) : (d.sendMessage v).bus = d.bus := by
  unfold Dev.sendMessage
  dsimp only
  repeat' (first | rfl | split)

@[simp] theorem Dev.sendMessage_tal (d : Dev) (v : Nat) : (d.sendMessage v).tal = d.tal := by
  unfold Dev.sendMessage
  dsimp only
  repeat' (first | rfl | split)

@[simp] theorem Dev.sendMessage_sea (d : Dev) (v : Nat) : (d.sendMessage v).sea = d.sea := by
  unfold Dev.sendMessage
  dsimp only
  repeat' (first | rfl | split)

@[simp] theorem Dev.sendMessage_prs (d : Dev) (v : Nat) : (d.sendMessage v).prs = d.prs := by
  unfold Dev.sendMessage
  dsimp only
  repeat' (first | rfl | split)

@[simp] theorem Dev.sendMessage_regs (d : Dev) (v : Nat) : (d.sendMessage v).regs = d.regs := by
  unfold Dev.sendMessage
  dsimp only
  repeat' (first | rfl | split)

@[simp] theorem Dev.notice_freeCount (d : Dev) (n : Nat) : (d.notice n).freeCount = d.freeCount := by
  unfold Dev.notice
  dsimp only
  repeat' (first | rfl | split)
  exact Dev.sendMessage_freeCount _ _

@[simp] theorem Dev.notice_pol (d : Dev) (n : Nat) : (d.notice n).pol = d.pol := by
  unfold Dev.notice
  dsimp only
  repeat' (first | rfl | split)
  exact Dev.sendMessage_pol _ _

@[simp] theorem Dev.notice_streams (d : Dev) (n : Nat) : (d.notice n).streams = d.streams := by
  unfold Dev.notice
  dsimp only
  repeat' (first | rfl | split)
  exact Dev.sendMessage_streams _ _

@[simp] theorem Dev.notice_cfg (d : Dev) (n : Nat) : (d.notice n).cfg = d.cfg := by
  unfold Dev.notice
  dsimp only
  repeat' (first | rfl | split)
  exact Dev.sendMessage_cfg _ _

@[simp] theorem Dev.notice_clk (d : Dev) (n : Nat) : (d.notice n).clk = d.clk := by
  unfold Dev.notice
  dsimp only
  repeat' (first | rfl | split)
  exact Dev.sendMessage_clk _ _

@[simp] theorem Dev.notice_mod (d : Dev) (n : Nat) : (d.notice n).mod = d.mod := by
  unfold Dev.notice
  dsimp only
  repeat' (first | rfl | split)
  exact Dev.sendMessage_mod _ _

@[simp] theorem Dev.notice_mil (d : Dev) (n : Nat) : (d.notice n).mil = d.mil := by
  unfold Dev.notice
  dsimp only
  repeat' (first | rfl | split)
  exact Dev.sendMessage_mil _ _

@[simp] theorem Dev.notice_shps (d : Dev) (n : Nat) : (d.notice n).shps = d.shps := by
  unfold Dev.notice
  dsimp only
  repeat' (first | rfl | split)
  exact Dev.sendMessage_shps _ _

@[simp] theorem Dev.notice_wch (d : Dev) (n : Nat) : (d.notice n).wch = d.wch := by
  unfold Dev.notice
  dsimp only
  repeat' (first | rfl | split)
  exact Dev.sendMessage_wch _ _

@[simp] theorem Dev.notice_cmd (d : Dev) (n : Nat) : (d.notice n).cmd = d.cmd := by
  unfold Dev.notice
  dsimp only
  repeat' (first | rfl | split)
  exact Dev.sendMessage_cmd _ _

@[simp] theorem Dev.notice_drv (d : Dev) (n : Nat) : (d.notice n).drv = d.drv := by
  unfold Dev.notice
  dsimp only
  repeat' (first | rfl | split)
  exact Dev.sendMessage_drv _ _

@[simp] theorem Dev.notice_wat (d : Dev) (n : Nat) : (d.notice n).wat = d.wat := by
  unfold Dev.notice
  dsimp only
  repeat' (first | rfl | split)
  exact Dev.sendMessage_wat _ _

@[simp] theorem Dev.notice_dbk (d : Dev) (n : Nat) : (d.notice n).dbk = d.dbk := by
  unfold Dev.notice
  dsimp only
  repeat' (first | rfl | split)
  exact Dev.sendMessage_dbk _ _

@[simp] theorem Dev.notice_thm (d : Dev) (n : Nat) : (d.notice n).thm = d.thm := by
  unfold Dev.notice
  dsimp only
  repeat' (first | rfl | split)
  exact Dev.sendMessage_thm _ _

@[simp] theorem Dev.notice_pins (d : Dev) (n : Nat) : (d.notice n).pins = d.pins := by
  unfold Dev.notice
  dsimp only
  repeat' (first | rfl | split)
  exact Dev.sendMessage_pins _ _

@[simp] theorem Dev.notice_lpe (d : Dev) (n : Nat) : (d.notice n).lpe = d.lpe := by
  unfold Dev.notice
  dsimp only
  repeat' (first | rfl | split)
  exact Dev.sendMessage_lpe _ _

@[simp] theorem Dev.notice_ddr (d : Dev) (n : Nat) : (d.notice n).ddr = d.ddr := by
  unfold Dev.notice
  dsimp only
  repeat' (first | rfl | split)
  exact Dev.sendMessage_ddr _ _

@[simp] theorem Dev.notice_grn (d : Dev) (n : Nat) : (d.notice n).grn = d.grn := by
  unfold Dev.notice
  dsimp only
  repeat' (first | rfl | split)
  exact Dev.sendMessage_grn _ _

@[simp] theorem Dev.notice_mcc (d : Dev) (n : Nat) : (d.notice n).mcc = d.mcc := by
  unfold Dev.notice
  dsimp only
  repeat' (first | rfl | split)
  exact Dev.sendMessage_mcc _ _

@[simp] theorem Dev.notice_srm (d : Dev) (n : Nat) : (d.notice n).srm = d.srm := by
  unfold Dev.notice
  dsimp only
  repeat' (first | rfl | split)
  exact Dev.sendMessage_srm _ _

@[simp] theorem Dev.notice_por (d : Dev) (n : Nat) : (d.notice n).por = d.por := by
  unfold Dev.notice
  dsimp only
  repeat' (first | rfl | split)
  exact Dev.sendMessage_por _ _

@[simp] theorem Dev.notice_mem (d : Dev) (n : Nat) : (d.notice n).mem = d.mem := by
  unfold Dev.notice
  dsimp only
  repeat' (first | rfl | split)
  exact Dev.sendMessage_mem _ _

@[simp] theorem Dev.notice_fe (d : Dev) (n : Nat) : (d.notice n).fe = d.fe := by
  unfold Dev.notice
  dsimp only
  repeat' (first | rfl | split)
  exact Dev.sendMessage_fe _ _

@[simp] theorem Dev.notice_det (d : Dev) (n : Nat) : (d.notice n).det = d.det := by
  unfold Dev.notice
  dsimp only
  repeat' (first | rfl | split)
  exact Dev.sendMessage_det _ _

@[simp] theorem Dev.notice_bus (d : Dev) (n : Nat) : (d.notice n).bus = d.bus := by
  unfold Dev.notice
  dsimp only
  repeat' (first | rfl | split)
  exact Dev.sendMessage_bus _ _

@[simp] theorem Dev.notice_tal (d : Dev) (n : Nat) : (d.notice n).tal = d.tal := by
  unfold Dev.notice
  dsimp only
  repeat' (first | rfl | split)
  exact Dev.sendMessage_tal _ _

@[simp] theorem Dev.notice_sea (d : Dev) (n : Nat) : (d.notice n).sea = d.sea := by
  unfold Dev.notice
  dsimp only
  repeat' (first | rfl | split)
  exact Dev.sendMessage_sea _ _

@[simp] theorem Dev.notice_prs (d : Dev) (n : Nat) : (d.notice n).prs = d.prs := by
  unfold Dev.notice
  dsimp only
  repeat' (first | rfl | split)
  exact Dev.sendMessage_prs _ _

end Sys2Proof.Machine
end

