-- ==== Sys2Proof/Laws/Memory.lean ====
section
/-! SUPPORT. The bytes of memory: a byte written reads as written, every other byte as before, and every memory operation keeps the
canonical form of the list, which is that of the reset state. -/

namespace Sys2Proof.Machine

theorem memAt_drop_self (l : List Host.Cell) (k : Nat) : memAt (memDrop l k) k = 0 := by
  induction l with
  | nil => rfl
  | cons c r ih =>
    unfold memDrop at ih ⊢
    by_cases h : c.1 = k
    · simp [h]; simpa using ih
    · simp [h, memAt]; simpa using ih

theorem memAt_drop_other (l : List Host.Cell) {k j : Nat} (h : k ≠ j) : memAt (memDrop l k) j = memAt l j := by
  induction l with
  | nil => rfl
  | cons c r ih =>
    unfold memDrop at ih ⊢
    by_cases hc : c.1 = k
    · have : c.1 ≠ j := by omega
      simp [hc, memAt, h]; simpa using ih
    · simp [hc, memAt]
      split
      · rfl
      · simpa using ih

theorem memAt_insert_self (l : List Host.Cell) (k : Nat) (v : BitVec 8) : memAt (memInsert l k v) k = v.toNat := by
  induction l with
  | nil => simp [memInsert, memAt]
  | cons c r ih =>
    by_cases hc : c.1 = k
    · simp [memInsert, hc, memAt]
    · by_cases hb : k < c.1
      · simp [memInsert, hc, hb, memAt]
      · simp [memInsert, hc, hb, memAt, ih]

theorem memAt_insert_other (l : List Host.Cell) {k j : Nat} (v : BitVec 8) (h : k ≠ j) : memAt (memInsert l k v) j = memAt l j := by
  induction l with
  | nil => simp [memInsert, memAt, h]
  | cons c r ih =>
    by_cases hc : c.1 = k
    · have : c.1 ≠ j := by omega
      simp [memInsert, hc, memAt, h]
    · by_cases hb : k < c.1
      · simp [memInsert, hc, hb, memAt, h]
      · simp [memInsert, hc, hb, memAt, ih]

/-- A byte written reads as written. -/
theorem memAt_put_self (l : List Host.Cell) (k v : Nat) : memAt (memPut l k v) k = v % 256 := by
  unfold memPut
  dsimp only
  split
  · rename_i h
    rw [memAt_drop_self]
    have := congrArg BitVec.toNat h
    simpa using this.symm
  · rw [memAt_insert_self]; simp

/-- A byte written leaves every other as it was. -/
theorem memAt_put_other (l : List Host.Cell) {k j : Nat} (v : Nat) (h : k ≠ j) : memAt (memPut l k v) j = memAt l j := by
  unfold memPut
  dsimp only
  split
  · exact memAt_drop_other l h
  · exact memAt_insert_other l _ h

/-- Bytes written outside a key leave it as it was. -/
theorem memAt_putAll_other (key : Nat → Nat) (j : Nat) : ∀ (b : List Nat) (l : List Host.Cell) (a : Nat),
    (∀ i, a ≤ i → i < a + b.length → key i ≠ j) → memAt (memPutAll l key a b) j = memAt l j
  | [], _, _, _ => rfl
  | v :: b, l, a, h => by
    have h1 := memAt_putAll_other key j b (memPut l (key a) v) (a + 1) (fun i h1 h2 => h i (by omega) (by simp at *; omega))
    rw [memPutAll, h1, memAt_put_other _ _ (h a (by omega) (by simp))]

theorem Memory.wf_cons {c : Host.Cell} {l : List Host.Cell} :
    Memory.wf (c :: l) = true ↔ c.2 ≠ 0#8 ∧ Memory.wf l = true ∧ ∀ e ∈ l, c.1 < e.1 := by
  induction l generalizing c with
  | nil => simp [Memory.wf]
  | cons e r ih =>
    simp only [Memory.wf, Bool.and_eq_true, decide_eq_true_eq, bne_iff_ne]
    constructor
    · rintro ⟨⟨h1, h2⟩, h3⟩
      refine ⟨h1, h3, ?_⟩
      intro x hx
      rcases List.mem_cons.mp hx with rfl | hx
      · exact h2
      · exact lt_trans h2 ((ih.mp h3).2.2 x hx)
    · rintro ⟨h1, h2, h3⟩
      exact ⟨⟨h1, h3 e (by simp)⟩, h2⟩

theorem Memory.wf_drop (k : Nat) : ∀ l : List Host.Cell, Memory.wf l = true → Memory.wf (memDrop l k) = true
  | [], _ => rfl
  | c :: r, h => by
    obtain ⟨h1, h2, h3⟩ := Memory.wf_cons.mp h
    have ih := Memory.wf_drop k r h2
    unfold memDrop at ih ⊢
    by_cases hc : c.1 = k
    · simpa [hc] using ih
    · have : (c :: r).filter (fun c => c.1 != k) = c :: r.filter (fun c => c.1 != k) := by simp [hc]
      rw [this]
      exact Memory.wf_cons.mpr ⟨h1, ih, fun e he => h3 e (List.mem_of_mem_filter he)⟩

theorem mem_memInsert {l : List Host.Cell} {k : Nat} {v : BitVec 8} {e : Host.Cell} (h : e ∈ memInsert l k v) : e = (k, v) ∨ e ∈ l := by
  induction l with
  | nil => simp [memInsert] at h; exact .inl h
  | cons c r ih =>
    unfold memInsert at h
    split at h
    · rcases List.mem_cons.mp h with h | h
      · exact .inl h
      · exact .inr (List.mem_cons_of_mem _ h)
    · split at h
      · rcases List.mem_cons.mp h with h | h
        · exact .inl h
        · exact .inr h
      · rcases List.mem_cons.mp h with h | h
        · exact .inr (by simp [h])
        · rcases ih h with h | h
          · exact .inl h
          · exact .inr (List.mem_cons_of_mem _ h)

theorem Memory.wf_insert (k : Nat) (v : BitVec 8) (hv : v ≠ 0#8) :
    ∀ l : List Host.Cell, Memory.wf l = true → Memory.wf (memInsert l k v) = true
  | [], _ => by simpa [memInsert, Memory.wf] using hv
  | c :: r, h => by
    obtain ⟨h1, h2, h3⟩ := Memory.wf_cons.mp h
    unfold memInsert
    split
    · rename_i hc
      exact Memory.wf_cons.mpr ⟨hv, h2, fun e he => by have := h3 e he; simp; omega⟩
    · rename_i hc
      split
      · rename_i hb
        refine Memory.wf_cons.mpr ⟨hv, h, fun e he => ?_⟩
        rcases List.mem_cons.mp he with rfl | he
        · exact hb
        · exact lt_trans hb (h3 e he)
      · rename_i hb
        refine Memory.wf_cons.mpr ⟨h1, Memory.wf_insert k v hv r h2, fun e he => ?_⟩
        rcases mem_memInsert he with rfl | he
        · simp; omega
        · exact h3 e he

/-- Writing a byte keeps the canonical form. -/
theorem Memory.wf_put (l : List Host.Cell) (k v : Nat) (h : Memory.wf l = true) : Memory.wf (memPut l k v) = true := by
  unfold memPut
  dsimp only
  split
  · exact Memory.wf_drop k l h
  · rename_i hv
    exact Memory.wf_insert k _ hv l h

/-- Writing bytes keeps the canonical form. -/
theorem Memory.wf_putAll (key : Nat → Nat) : ∀ (b : List Nat) (l : List Host.Cell) (a : Nat),
    Memory.wf l = true → Memory.wf (memPutAll l key a b) = true
  | [], _, _, h => h
  | v :: b, l, a, h => Memory.wf_putAll key b (memPut l (key a) v) (a + 1) (Memory.wf_put l (key a) v h)

/-- Cells taken out keep the canonical form. -/
theorem Memory.wf_filter (p : Host.Cell → Bool) : ∀ l : List Host.Cell, Memory.wf l = true → Memory.wf (l.filter p) = true
  | [], _ => rfl
  | c :: r, h => by
    obtain ⟨h1, h2, h3⟩ := Memory.wf_cons.mp h
    have ih := Memory.wf_filter p r h2
    by_cases hc : p c = true
    · simp only [List.filter, hc]
      exact Memory.wf_cons.mpr ⟨h1, ih, fun e he => h3 e (List.mem_of_mem_filter he)⟩
    · simp only [Bool.not_eq_true] at hc
      simpa only [List.filter, hc] using ih

theorem reset_mem_wf : Memory.wf State.reset.mem = true := rfl
theorem reset_hostMem_wf : Memory.wf State.reset.hostMem = true := rfl

/-- The Granary's writes keep the form. -/
theorem Dev.dramWrite_wf (d : Dev) (x : Nat) (b : List Nat) (h : Memory.wf d.mem = true) : Memory.wf (d.dramWrite x b).mem = true := by
  unfold Dev.dramWrite
  exact Memory.wf_putAll _ _ _ _ h

/-- The device's writes to host memory keep the form. -/
theorem Dev.hostWrite_wf (d : Dev) (a : Nat) (b : List Nat) (h : Memory.wf d.hostMem = true) : Memory.wf (d.hostWrite a b).hostMem = true :=
  Memory.wf_putAll _ _ _ _ h

/-- The CRC of zero bytes is zero (12 R491). -/
theorem crc64_zeros (n : Nat) : crc64 (List.replicate n 0) = 0 := by
  unfold crc64
  induction n with
  | zero => rfl
  | succ n ih => rw [List.replicate_succ, List.foldl_cons, show crcByte 0 0 = 0 by decide, ih]

end Sys2Proof.Machine
end

