-- ==== Sys2Proof/Laws/Registers.lean ====
section
/-! SUPPORT. Reading and writing register fields (spec/00 R5 to R8): a field written reads as written, every other field reads as before,
and the list of cells keeps its canonical form. -/

namespace Sys2Proof.Machine

theorem cellsFind_drop_self (l : List RegCell) (k i : Nat) : cellsFind (cellsDrop l k i) k i = none := by
  induction l with
  | nil => rfl
  | cons c r ih =>
    unfold cellsDrop at ih ⊢
    by_cases h : c.field = k ∧ c.inst = i
    · simp [List.filter, h.1, h.2]; simpa using ih
    · have h2 : (!(c.field == k && c.inst == i)) = true := by cases hh : (c.field == k && c.inst == i) <;> simp_all
      simp only [List.filter, h2]
      simp only [cellsFind, h, if_false]
      exact ih

theorem cellsFind_drop_other (l : List RegCell) {k i k' i' : Nat} (h : k ≠ k' ∨ i ≠ i') :
    cellsFind (cellsDrop l k i) k' i' = cellsFind l k' i' := by
  induction l with
  | nil => rfl
  | cons c r ih =>
    unfold cellsDrop at ih ⊢
    by_cases hc : c.field = k ∧ c.inst = i
    · have h2 : (!(c.field == k && c.inst == i)) = false := by simp [hc.1, hc.2]
      have h3 : ¬(c.field = k' ∧ c.inst = i') := by rcases h with h | h <;> (rintro ⟨a, b⟩; omega)
      simp only [List.filter, h2, cellsFind, h3, if_false]
      exact ih
    · have h2 : (!(c.field == k && c.inst == i)) = true := by cases hh : (c.field == k && c.inst == i) <;> simp_all
      simp only [List.filter, h2, cellsFind]
      rw [ih]

theorem cellsFind_insert_self (l : List RegCell) (k i v : Nat) : cellsFind (cellsInsert l k i v) k i = some v := by
  induction l with
  | nil => simp [cellsInsert, cellsFind]
  | cons c r ih =>
    by_cases hc : c.field = k ∧ c.inst = i
    · simp [cellsInsert, hc, cellsFind]
    · by_cases hb : cellBefore k i c = true
      · simp [cellsInsert, hc, hb, cellsFind]
      · simp [cellsInsert, hc, hb, cellsFind, ih]

theorem cellsFind_insert_other (l : List RegCell) {k i k' i' : Nat} (v : Nat) (h : k ≠ k' ∨ i ≠ i') :
    cellsFind (cellsInsert l k i v) k' i' = cellsFind l k' i' := by
  have h0 : ¬(k = k' ∧ i = i') := by rcases h with h | h <;> (rintro ⟨a, b⟩; omega)
  induction l with
  | nil => simp [cellsInsert, cellsFind, h0]
  | cons c r ih =>
    by_cases hc : c.field = k ∧ c.inst = i
    · have h3 : ¬(c.field = k' ∧ c.inst = i') := by rcases h with h | h <;> (rintro ⟨a, b⟩; omega)
      simp [cellsInsert, hc, cellsFind, h0]
    · by_cases hb : cellBefore k i c = true
      · simp [cellsInsert, hc, hb, cellsFind, h0]
      · simp [cellsInsert, hc, hb, cellsFind, ih]

/-- A field reads as it was last written, within its width. -/
@[simp] theorem Dev.getI_putI_self (d : Dev) (f : Field) (i v : Nat) : (d.putI f i v).getI f i = v % 2 ^ f.width := by
  unfold Dev.getI Dev.putI cellsPut
  by_cases h : v % 2 ^ f.width = resetValue f i
  · simp [h, cellsFind_drop_self]
  · simp [h, cellsFind_insert_self]

/-- Writing one field instance leaves every other as it was. -/
theorem Dev.getI_putI_other (d : Dev) {f g : Field} {i j : Nat} (v : Nat) (h : f.key ≠ g.key ∨ i ≠ j) :
    (d.putI f i v).getI g j = d.getI g j := by
  unfold Dev.getI Dev.putI cellsPut
  by_cases h2 : v % 2 ^ f.width = resetValue f i
  · simp [h2, cellsFind_drop_other _ h]
  · simp [h2, cellsFind_insert_other _ _ h]

@[simp] theorem Dev.get_put_self (d : Dev) (f : Field) (v : Nat) : (d.put f v).get f = v % 2 ^ f.width := d.getI_putI_self f 0 v

theorem Dev.get_put_other (d : Dev) {f g : Field} (v : Nat) (h : f.key ≠ g.key) : (d.put f v).get g = d.get g :=
  d.getI_putI_other v (.inl h)

@[simp] theorem Dev.putI_ne (d : Dev) {f g : Field} {i : Nat} (j v : Nat) (h : f.key ≠ g.key) : (d.putI f i v).getI g j = d.getI g j :=
  d.getI_putI_other v (.inl h)

@[simp] theorem Dev.getI_put_ne (d : Dev) {f g : Field} (j v : Nat) (h : f.key ≠ g.key) : (d.put f v).getI g j = d.getI g j :=
  d.getI_putI_other v (.inl h)

/-! ### The canonical form: cells rising by field and instance, none listed for its reset value -/

/-- Does cell `a` stand before cell `b`? -/
def cellLt (a b : RegCell) : Bool := a.field < b.field || (a.field == b.field && a.inst < b.inst)

/-- The cells rise. -/
def cellsRise : List RegCell → Bool
  | [] => true
  | [_] => true
  | a :: b :: r => cellLt a b && cellsRise (b :: r)

theorem cellLt_trans {a b c : RegCell} (h1 : cellLt a b = true) (h2 : cellLt b c = true) : cellLt a c = true := by
  simp only [cellLt, Bool.or_eq_true, decide_eq_true_eq, Bool.and_eq_true, beq_iff_eq] at *
  omega

theorem cellsRise_cons {a : RegCell} {l : List RegCell} :
    cellsRise (a :: l) = true ↔ cellsRise l = true ∧ ∀ b ∈ l, cellLt a b = true := by
  induction l generalizing a with
  | nil => simp [cellsRise]
  | cons b r ih =>
    simp only [cellsRise, Bool.and_eq_true]
    constructor
    · rintro ⟨h1, h2⟩
      refine ⟨h2, ?_⟩
      intro c hc
      rcases List.mem_cons.mp hc with rfl | hc
      · exact h1
      · exact cellLt_trans h1 ((ih.mp h2).2 c hc)
    · rintro ⟨h1, h2⟩
      exact ⟨h2 b (by simp), h1⟩

theorem cellsRise_filter (p : RegCell → Bool) : ∀ l : List RegCell, cellsRise l = true → cellsRise (l.filter p) = true
  | [], _ => rfl
  | a :: r, h => by
    obtain ⟨h1, h2⟩ := cellsRise_cons.mp h
    have ih := cellsRise_filter p r h1
    by_cases hp : p a = true
    · simp only [List.filter, hp]
      exact cellsRise_cons.mpr ⟨ih, fun b hb => h2 b (List.mem_of_mem_filter hb)⟩
    · simp only [Bool.not_eq_true] at hp
      simpa only [List.filter, hp] using ih

theorem mem_cellsInsert {l : List RegCell} {k i v : Nat} {b : RegCell} (h : b ∈ cellsInsert l k i v) : b = ⟨k, i, v⟩ ∨ b ∈ l := by
  induction l with
  | nil => simp [cellsInsert] at h; exact .inl h
  | cons c r ih =>
    unfold cellsInsert at h
    split at h
    · rcases List.mem_cons.mp h with h | h
      · exact .inl h
      · exact .inr (List.mem_cons_of_mem _ h)
    · split at h
      · rcases List.mem_cons.mp h with h | h
        · exact .inl h
        · exact .inr h
      · rcases List.mem_cons.mp h with h | h
        · exact .inr (by simp [h])
        · rcases ih h with h | h
          · exact .inl h
          · exact .inr (List.mem_cons_of_mem _ h)

theorem cellsRise_insert (k i v : Nat) : ∀ l : List RegCell, cellsRise l = true → cellsRise (cellsInsert l k i v) = true
  | [], _ => rfl
  | c :: r, h => by
    obtain ⟨h1, h2⟩ := cellsRise_cons.mp h
    unfold cellsInsert
    split
    · rename_i hc
      refine cellsRise_cons.mpr ⟨h1, fun b hb => ?_⟩
      have := h2 b hb
      simpa [cellLt, hc.1, hc.2] using this
    · rename_i hc
      split
      · rename_i hb
        refine cellsRise_cons.mpr ⟨h, fun b hb' => ?_⟩
        have hlt : cellLt ⟨k, i, v⟩ c = true := by simpa [cellLt, cellBefore] using hb
        rcases List.mem_cons.mp hb' with rfl | hb'
        · exact hlt
        · exact cellLt_trans hlt (h2 b hb')
      · rename_i hb
        refine cellsRise_cons.mpr ⟨cellsRise_insert k i v r h1, fun b hb' => ?_⟩
        rcases mem_cellsInsert hb' with rfl | hb'
        · simp only [cellBefore, Bool.or_eq_true, decide_eq_true_eq, Bool.and_eq_true, beq_iff_eq] at hb
          simp only [cellLt, Bool.or_eq_true, decide_eq_true_eq, Bool.and_eq_true, beq_iff_eq]
          omega
        · exact h2 b hb'

/-- Writing a register keeps the cells rising. -/
theorem Dev.putI_rise (d : Dev) (f : Field) (i v : Nat) (h : cellsRise d.regs = true) : cellsRise (d.putI f i v).regs = true := by
  unfold Dev.putI cellsPut cellsDrop
  dsimp only
  split
  · exact cellsRise_filter _ _ h
  · exact cellsRise_insert _ _ _ _ h

/-- An event leaves every field of the registers alone but the Watch's three. -/
theorem Dev.post_getI (d : Dev) {f : Field} (code : Nat) (ps : List Nat) (i : Nat) (h0 : F.WAT_DROP_COUNT.key ≠ f.key)
    (h1 : F.WAT_INT_STAT_DROP.key ≠ f.key) (h2 : F.WAT_STAT_PULSE.key ≠ f.key) : (d.post code ps).getI f i = d.getI f i := by
  unfold Dev.post Dev.flag Dev.flagI Dev.inc Dev.addI
  dsimp only
  repeat' split
  all_goals first | rfl | (simp only [Dev.putI_ne _ _ _ h0, Dev.putI_ne _ _ _ h1, Dev.putI_ne _ _ _ h2]; rfl)

end Sys2Proof.Machine
end

