-- ==== Sys2Proof/WellFormed.lean ====
section
/-! DEFINITION. Which commands are well formed: the bytes are bytes, the lists have the lengths that the rules give, the addresses lie in
their spaces. An ill-formed command stands for nothing that can happen to the device (log entry 53). -/

namespace Sys2Proof

/-- Every number is a byte. -/
def bytesOk (l : List Nat) : Bool := l.all (fun b => b < 256)

/-- Runs of bytes at addresses. -/
def runsOk (l : List (Nat × List Nat)) : Bool := l.all (fun r => bytesOk r.2)

/-- Every number is a code of the 7-bit ADC (09 R330). -/
def codesOk (l : List Int) : Bool := l.all (fun c => -64 ≤ c && c ≤ 63)

/-- Bits -16 to 95 of both lanes (09 R330, R348). -/
def attemptOk (x : AttemptCodes) : Bool := codesOk x.a && codesOk x.b && x.a.length == 112 && x.b.length == 112

/-- 1 to 16 bits of both lanes, with a decision for each (09 R330, R339). -/
def bitsOk (x : BitCodes) : Bool :=
  codesOk x.a && codesOk x.b && 1 ≤ x.a.length && x.a.length ≤ 16 && x.b.length == x.a.length && x.plus.length == x.a.length

/-- The widths of a core's operations (01 R33), a 40-bit address (R40), a value of the access's width. -/
def accessOk (x : CoreAccess) : Bool :=
  [1, 2, 4, 8].contains x.len && x.addr < 2 ^ 40 && x.data < 2 ^ (8 * x.len)

def granOk (x : GranAccess) : Bool := bytesOk x.bytes && x.addr < 2 ^ 35

def askOk (x : DramAsk) : Bool := bytesOk x.bytes && x.addr < 2 ^ 35

/-- Four lanes of 320 samples of the 7-bit ADC (06 R211, R212; 09 R324). -/
def wedgeOk (w : WedgeSample) : Bool :=
  w.lanes.length == 4 && w.lanes.all (fun l => l.length == 320 && l.all (fun x => -64 ≤ x && x ≤ 63))

/-- The 32-bit immediate (07 R266). -/
def aluOk (f : AluFields) : Bool := f.imm < 2 ^ 32

def burstOk (x : BurstEnd) : Bool := bytesOk x.host

/-- One bit per rank, three ranks on each of two subchannels (12 R450). -/
def ranksOk (x : RankFacts) : Bool := x.answer < 64 && x.failed < 64 && x.retrain < 64

def flashOk (x : Flash) : Bool := runsOk x.runs && ranksOk x.ranks && x.faults.all (fun f => f.item ≤ 66)

def viewOk (v : HostView) : Bool := runsOk v.runs

def answerOk (a : PolicyAnswer) : Bool := bytesOk a.bytes

/-- The first header dword of a TLP (15 R620). -/
def linkErrOk (e : LinkErr) : Bool :=
  match e with
  | .uncorrectable _ h => h < 2 ^ 32
  | .receiver _ => true
  | .correctable _ => true

/-- Is a command well formed? -/
def Instr.wellFormed (i : Instr) : Bool :=
  match i with
  | .porstNRelease => true
  | .porstNAssert _ _ => true
  | .aonPowerOn => true
  | .vddioLoss => true
  | .pwrfailFall => true
  | .harvestCommit => true
  | .pwrfailRise => true
  | .harvestTailWritten _ => true
  | .harvestHoldoffEnd => true
  | .roscQualified => true
  | .slowRingCounted => true
  | .slowRingTimeout _ => true
  | .monitorWindow _ => true
  | .learningEnd => true
  | .clockVote _ _ => true
  | .xinEdgeTimeout => true
  | .xinRequalified => true
  | .roscAmplitudeLost => true
  | .coarseXinCheck _ => true
  | .pllEnableWrite _ => true
  | .pllDisableWrite _ => true
  | .pllLockWindow _ _ => true
  | .pllLockTimeout _ => true
  | .islandSourceSwitch _ => true
  | .islandSwitchDone _ => true
  | .islandGateRequest => true
  | .islandUngate => true
  | .islandDrained _ _ => true
  | .gateTimeout _ _ _ => true
  | .powerDownRequest _ => true
  | .powerDownDone _ => true
  | .powerUpRequest _ => true
  | .powerUpDone _ => true
  | .dropwrClear => true
  | .registerWrite _ _ wide v => wide || v.toNat < 2 ^ 32
  | .reeveAccess _ x => accessOk x
  | .configLoad fl => flashOk fl
  | .flashReady fl => flashOk fl
  | .selfTest _ => true
  | .talAppendBoot _ => true
  | .modReqWrite _ => true
  | .modReboot => true
  | .modEaseIdleWrite _ => true
  | .modRestIdleWrite _ => true
  | .modEaseRpmWrite _ => true
  | .easeIdleExpire => true
  | .restIdleExpire => true
  | .pwmPeriod _ => true
  | .reacquireTimeout => true
  | .obsFailsClear => true
  | .listenEnd => true
  | .brakeDone => true
  | .brakeTimeout => true
  | .senseDone => true
  | .alignDone => true
  | .handoverMet => true
  | .handoverTimeout => true
  | .retryBrakeEnd => true
  | .spindleAtRest => true
  | .motorSupplyFault => true
  | .millerSecond => true
  | .rampStart => true
  | .rampTargetReached => true
  | .rampSettled => true
  | .gasSample => true
  | .wedge _ w => wedgeOk w
  | .missedWedge _ _ => true
  | .loadRequest _ => true
  | .headsOffRamp _ => true
  | .acquireTimeout _ => true
  | .seekTimeout _ => true
  | .lostTimeout _ => true
  | .headOnRamp _ => true
  | .retractTimeout _ => true
  | .hardwareParkDone _ => true
  | .shpFenceWrite _ => true
  | .preampTempRead _ => true
  | .preampFrameDone _ _ => true
  | .paCmdGo _ _ => true
  | .preampFault _ => true
  | .storeReloadDone _ _ => true
  | .microNext _ _ => true
  | .microBranch _ _ => true
  | .microLoop _ _ => true
  | .microCall _ _ => true
  | .microReturn _ _ => true
  | .microWait _ _ => true
  | .microTret _ _ => true
  | .microFault _ _ => true
  | .aluNop _ f => aluOk f
  | .aluAdd _ f => aluOk f
  | .aluSub _ f => aluOk f
  | .aluAnd _ f => aluOk f
  | .aluOr _ f => aluOk f
  | .aluXor _ f => aluOk f
  | .aluShl _ f => aluOk f
  | .aluSar _ f => aluOk f
  | .aluMul _ f => aluOk f
  | .aluMac _ f => aluOk f
  | .aluMin _ f => aluOk f
  | .aluMax _ f => aluOk f
  | .aluClamp _ f => aluOk f
  | .aluAbs _ f => aluOk f
  | .aluPass _ f => aluOk f
  | .aluLdi _ f => aluOk f
  | .counterLoad _ _ _ => true
  | .portMaWrite _ _ _ => true
  | .portTgtWrite _ _ _ => true
  | .portVcmIrefWrite _ _ => true
  | .portStateWrite _ _ => true
  | .portHeadselWrite _ _ => true
  | .portWgenWrite _ _ => true
  | .drvRetSelect _ _ => true
  | .drvRetTaken _ => true
  | .drvRetReady _ _ => true
  | .drvRetReturn _ _ _ => true
  | .portEventWrite _ _ => true
  | .portTableAddrWrite _ _ => true
  | .portTimerWrite _ _ => true
  | .ucTimerExpire _ => true
  | .trapTake _ => true
  | .loopTick _ _ _ _ => true
  | .loopCloseRequest _ _ => true
  | .loopOpenRequest _ _ => true
  | .lpeCoefWrite _ _ _ => true
  | .patrolComplete => true
  | .referenceTestDone _ _ => true
  | .sectorAttemptStart _ x => attemptOk x
  | .adaptBlock _ x => bitsOk x
  | .taFlagChange _ x => bitsOk x
  | .defectFlagChange _ x => bitsOk x
  | .sectorAttemptEnd _ _ => true
  | .sectorAttemptAbandon _ _ => true
  | .servoWindowOpen _ => true
  | .servoWindowClose _ => true
  | .rchReseedWrite _ => true
  | .rchFenceWrite _ => true
  | .rchRwoWrite _ _ _ => true
  | .syncFraming _ => true
  | .globalIterationEnd _ _ => true
  | .offlineDecodeStart => true
  | .offlineDecodeEnd _ _ => true
  | .detFenceWrite _ => true
  | .detKatWrite _ => true
  | .katDue _ => true
  | .katDone _ _ => true
  | .segmentStart _ => true
  | .writeSectorEnd _ _ mon => codesOk mon
  | .shockTrip _ => true
  | .shockRelease _ => true
  | .shkHoldExpire => true
  | .wchForceWrite => true
  | .wchReleaseWrite => true
  | .wchShkTestWrite => true
  | .shkTestEnd => true
  | .wchShkWrite _ => true
  | .verifyRead _ _ => true
  | .dramRequest asks _ _ => asks.all askOk
  | .agePromotion _ => true
  | .rowIdlePrecharge _ _ _ _ => true
  | .shortPause _ _ _ => true
  | .longPause _ _ _ _ => true
  | .dramPatrolRead _ _ _ => true
  | .ceHourEnd => true
  | .migrationLineCopy _ _ => true
  | .ddrMapWrite _ _ => true
  | .tileProduceWrite _ _ _ bytes => bytesOk bytes
  | .tileUse _ _ => true
  | .tileTestDone _ _ => true
  | .cacheRequest _ x => accessOk x
  | .cacheFillDone _ _ => true
  | .noncachingAccess x => granOk x
  | .victimWritebackDone _ => true
  | .mccLockWrite _ => true
  | .lockChangeDone => true
  | .maintClean => true
  | .maintInvalidate => true
  | .maintCleanInvalidate => true
  | .maintDone => true
  | .cacheDisable => true
  | .cacheEnable => true
  | .drainDone => true
  | .sramPatrol _ _ _ => true
  | .bucketLeak => true
  | .flipArm _ => true
  | .porterGo _ _ _ => true
  | .porterAbort _ _ => true
  | .porterMove _ _ _ => true
  | .porterLoop _ _ _ => true
  | .porterWait _ _ _ => true
  | .porterSignal _ _ _ => true
  | .porterBurstDone _ x => burstOk x
  | .porterWaitSatisfied _ _ => true
  | .porterBarrierMet _ => true
  | .porterWatchdog _ => true
  | .porSwreqWrite _ => true
  | .porOwnerWrite _ => true
  | .porterRwoWrite _ _ _ => true
  | .linkL0 _ _ _ => true
  | .linkDetect => true
  | .laneFailure _ => true
  | .functionReset _ => true
  | .configRequest _ => true
  | .l1Request => true
  | .poisonedTlp _ => true
  | .msixTableWrite _ _ _ => true
  | .twnCmdWrite _ start l => (start.val + l.length ≤ 16)
  | .twnGo _ _ _ => true
  | .twnAck _ => true
  | .earlyRead bar2 off _ => bar2 || off.toNat < 2 ^ 14
  | .twnPauseWrite _ => true
  | .ringHeadWrite _ _ => true
  | .ringEnable _ _ => true
  | .ringDisable _ _ => true
  | .ringConfigWrite _ which v => which.val == 3 || v.toNat < 2 ^ 32
  | .completionPost _ _ => true
  | .statusMirrorRefresh _ => true
  | .read _ v _ => viewOk v
  | .write _ v => viewOk v
  | .flush _ => true
  | .release _ => true
  | .verify _ _ => true
  | .abort _ => true
  | .streamOpen _ => true
  | .streamClose _ => true
  | .sealBandCreate _ => true
  | .sealBandClose _ => true
  | .identify _ v => viewOk v
  | .logRead _ v _ => viewOk v
  | .featureGet _ => true
  | .featurePowerMode _ => true
  | .featureEaseIdle _ => true
  | .featureRestIdle _ => true
  | .featureEaseRpm _ => true
  | .featureKeyRotate _ => true
  | .featureDebugUnlock _ => true
  | .featureSvnFloor _ => true
  | .featureUnsealBand _ => true
  | .fwDownload _ v => viewOk v
  | .fwActivate _ => true
  | .activationTimeout => true
  | .resync _ v => viewOk v
  | .attestFresh _ v => viewOk v
  | .attestBootRecord _ v => viewOk v
  | .driveMakerCommand _ v a => viewOk v && answerOk a
  | .decisionPoint _ _ => true
  | .journalProgram => true
  | .checkpoint => true
  | .mapRestore _ _ _ => true
  | .rebuildDone _ _ _ => true
  | .surfaceRebuildEnd => true
  | .talAppendKeyRotate => true
  | .talAppendSvnFloor => true
  | .talAppendDebugUnlock => true
  | .talAppendUnsealBand => true
  | .talAppendAttestation => true
  | .talRequestDone _ _ => true
  | .mirrorProgram => true
  | .sealComputationDone _ _ => true
  | .seaJobGo _ => true
  | .seaDataWrite _ => true
  | .seaJobFinish _ => true
  | .presSample _ => true
  | .presenceExpire => true
  | .prsRevokeWrite => true
  | .sealLoopSample _ => true
  | .sealEntryAppend _ => true
  | .jtagBypass => true
  | .jtagIdcode => true
  | .jtagSamplePreload _ => true
  | .jtagExtest _ => true
  | .jtagDbg => true
  | .jtagOtpprog _ => true
  | .jtagTapReset => true
  | .eventReport _ _ _ _ _ => true
  | .faultnPulseEnd => true
  | .watchTake => true
  | .discardReport => true
  | .watKickWrite _ => true
  | .coreWatchdogExpire _ => true
  | .watForceSafe => true
  | .watFaultnWrite _ => true
  | .watchRegFault _ _ => true
  | .daybookCommit _ => true
  | .repeatCommit _ => true
  | .tokenRefill => true
  | .dbkFreezeWrite => true
  | .dbkThawWrite => true
  | .freezeExpire => true
  | .dbkCursorWrite _ => true
  | .dbkNextWrite => true
  | .dbkWindowRefilled _ => true
  | .opsecTick => true
  | .opsecCommit => true
  | .thermalSample l => l.length == 14
  | .enclosureSample _ => true
  | .stepStale => true
  | .uartTxWrite _ => true
  | .uartByteSent => true
  | .uartRxByte _ _ => true
  | .uartPopWrite => true
  | .pioUartCfgWrite _ => true
  | .pioGpioFnWrite _ => true
  | .pioGpioPullWrite _ => true
  | .preampFaultClear _ => true
  | .railFall _ => true
  | .completionTimeout _ => true
  | .dramRefresh _ _ _ => true
  | .linkError e => linkErrOk e

end Sys2Proof
end

