-- ==== Sys2Proof/Tests/Slice0.lean ====
section
/-! SUPPORT. The tests: the well-formedness checks each refuse a term, single steps give what the spec's own values say, and every
statement's premises are met by a device. -/

open Sys2Proof Sys2Proof.Machine

set_option maxRecDepth 10000
set_option linter.unusedVariables false
set_option Elab.async false

/-! The well-formedness checks: one term of each kind that the check refuses. -/

theorem test_wf_bytes : bytesOk [255, 256] = false := by decide
theorem test_wf_runs : runsOk [(0, [0]), (9, [256])] = false := by decide
theorem test_wf_codes : codesOk [63, 64] = false := by decide
theorem test_wf_codes_low : codesOk [-64, -65] = false := by decide
theorem test_wf_access_width : (Instr.reeveAccess 0 ⟨.load, 0x10000000, 3, 0, false, .clean, .clean, .good, true, [], 0⟩).wellFormed = false := by decide
theorem test_wf_access_address : (Instr.cacheRequest 4 ⟨.load, 0x10000000000, 4, 0, false, .clean, .clean, .good, true, [], 0⟩).wellFormed = false := by decide
theorem test_wf_access_value : accessOk ⟨.store, 0x10000000, 1, 256, false, .clean, .clean, .good, true, [], 0⟩ = false := by decide
theorem test_wf_register_write : (Instr.registerWrite false 0x20010084#40 false 0x100000000#64).wellFormed = false := by decide
theorem test_wf_flash_fault : flashOk ⟨true, true, 25, [], [⟨0, 67, true, true⟩], [], ⟨0, 0, 0, true⟩, 5⟩ = false := by decide
theorem test_wf_config_load : (Instr.configLoad ⟨true, true, 25, [(0, [256])], [], [], ⟨0, 0, 0, true⟩, 5⟩).wellFormed = false := by decide
theorem test_wf_flash_ready : (Instr.flashReady ⟨true, true, 25, [(0, [256])], [], [], ⟨0, 0, 0, true⟩, 5⟩).wellFormed = false := by decide
theorem test_wf_ranks : ranksOk ⟨64, 0, 0, false⟩ = false := by decide
theorem test_wf_wedge_lanes : (Instr.wedge 0 ⟨0, 0, []⟩).wellFormed = false := by decide
theorem test_wf_wedge_code : wedgeOk ⟨0, 0, List.replicate 4 (List.replicate 320 64)⟩ = false := by decide +kernel
theorem test_wf_alu_nop : (Instr.aluNop 0 ⟨0, 0, 0, false, true, false, 0x100000000⟩).wellFormed = false := by decide
theorem test_wf_alu_ldi : (Instr.aluLdi 3 ⟨0, 0, 0, true, true, false, 0x100000000⟩).wellFormed = false := by decide
theorem test_wf_attempt : (Instr.sectorAttemptStart 0 ⟨[0], [0], false⟩).wellFormed = false := by decide
theorem test_wf_adapt : (Instr.adaptBlock 0 ⟨[0], [0], []⟩).wellFormed = false := by decide
theorem test_wf_ta : (Instr.taFlagChange 0 ⟨List.replicate 17 0, List.replicate 17 0, List.replicate 17 true⟩).wellFormed = false := by decide
theorem test_wf_defect : (Instr.defectFlagChange 0 ⟨[], [], []⟩).wellFormed = false := by decide
theorem test_wf_monitor : (Instr.writeSectorEnd 0 [] [64]).wellFormed = false := by decide
theorem test_wf_dram_request : (Instr.dramRequest [⟨0, false, 0x800000000, []⟩] 0 .good).wellFormed = false := by decide
theorem test_wf_tile_write : (Instr.tileProduceWrite 0 0 0 [256]).wellFormed = false := by decide
theorem test_wf_noncaching : (Instr.noncachingAccess ⟨true, 0, 0, 1, [300], .good⟩).wellFormed = false := by decide
theorem test_wf_burst : (Instr.porterBurstDone 0 ⟨[256], .good, .clean, true, false⟩).wellFormed = false := by decide
theorem test_wf_window_write : (Instr.twnCmdWrite 255 15 [(0, 0xF), (0, 0xF)]).wellFormed = false := by decide
theorem test_wf_early_read : (Instr.earlyRead false 0x4000 0).wellFormed = false := by decide
theorem test_wf_ring_config : (Instr.ringConfigWrite 0 0 0x100000000#64).wellFormed = false := by decide
theorem test_wf_host_view : (Instr.read 0 ⟨[(0, [256])], none⟩ []).wellFormed = false := by decide
theorem test_wf_policy_answer : (Instr.driveMakerCommand 0 ⟨[], none⟩ ⟨0, 0, 0, [256]⟩).wellFormed = false := by decide
theorem test_wf_thermal : (Instr.thermalSample [25]).wellFormed = false := by decide
theorem test_wf_link_error : (Instr.linkError (.uncorrectable 4 0x100000000)).wellFormed = false := by decide
theorem test_wf_accepts : (Instr.reeveAccess 3 ⟨.store, 0x10000000, 4, 0xFFFFFFFF, false, .clean, .clean, .good, true, [], 0⟩).wellFormed = true := by decide
theorem test_wf_accepts_selector_fault : flashOk ⟨true, true, 25, [], [⟨0, 66, true, true⟩], [], ⟨0, 0, 0, true⟩, 5⟩ = true := by decide

/-! Single steps. Each expected value is one the spec's text gives. -/

/-- A device with one command waiting. -/
def waiting (d : Dev) (c : Instr) : State := ⟨d, [c]⟩

/-- What a step leaves of the device, where it answers a next state. -/
def after (s : State) : Option Dev :=
  match step s with
  | .next t => some t.toDev
  | .fault _ => none
  | .refused _ => none

/-- CLEAR sets COUNT to zero (02 R83). -/
theorem test_dropwr_clear :
    (after (waiting (({} : Dev).put F.CLK_PD_DROPWR_COUNT 7) (.dropwrClear))).map (fun d => d.get F.CLK_PD_DROPWR_COUNT) = some (0) := by decide +kernel

/-- A fall to Detect reads state 0 and width 0 (15 R586). -/
theorem test_link_detect :
    (after (waiting ((({} : Dev).put F.HIF_LINK_STATE 3).put F.HIF_LINK_WIDTH 8) (.linkDetect))).map (fun d => (d.get F.HIF_LINK_STATE, d.get F.HIF_LINK_WIDTH)) = some ((0, 0)) := by decide +kernel

/-- A store of a core puts its bytes into the SRAM, lowest first (01 R33, R40). -/
theorem test_core_store :
    (after (waiting ({}) (.reeveAccess 1 ⟨.store, 0x10000000, 4, 0x04030201, false, .clean, .clean, .good, true, [], 0⟩))).map (fun d => d.mem) = some ([(0x10000000, 1#8), (0x10000001, 2#8), (0x10000002, 3#8), (0x10000003, 4#8)]) := by decide +kernel

/-- A write to a register of a domain that is off is dropped and counted (02 R81). -/
theorem test_register_off :
    (after (waiting (({} : Dev).put F.CLK_PD_STAT_OFF 2) (.registerWrite false 0x20010084#40 false 7#64))).map (fun d => (d.get F.CLK_PD_DROPWR_COUNT, d.get F.CFG_INT_EN_DONE)) = some ((1, 0)) := by decide +kernel

/-- While PAUSE is 1 a FREE window reads PAUSED (15 R605). -/
theorem test_window_paused :
    (after (waiting ((({} : Dev).put F.HIF_LINK_STATE 3).put F.TWN_CTRL_PAUSE 0) (.twnPauseWrite true))).map (fun d => d.winPhase 255) = some (3) := by decide +kernel

/-- A critical fault pulses FAULT_N (19 R783). -/
theorem test_fault_pulses :
    (after (waiting ({}) (.eventReport 0x0305 0 0 0 0))).map (fun d => d.on F.WAT_STAT_PULSE) = some (true) := by decide +kernel

/-- A saturating addition stops at the largest 32-bit value; V says the exact result left 32 bits (07 R266, R268). -/
theorem test_alu_saturates :
    (after (waiting (({} : Dev).setUc 0 (fun u => u.setReg 3 0x7FFFFFFF)) (.aluAdd 0 ⟨3, 0, 1, true, true, true, 1⟩))).map (fun d => ((d.shp 0).uc.reg 1, (d.shp 0).uc.n, (d.shp 0).uc.v)) = some (0x7FFFFFFF, false, true) := by decide +kernel

/-- Without saturation the addition wraps (07 R266, R268). -/
theorem test_alu_wraps :
    (after (waiting (({} : Dev).setUc 0 (fun u => u.setReg 3 0x7FFFFFFF)) (.aluAdd 0 ⟨3, 0, 1, true, true, false, 1⟩))).map (fun d => ((d.shp 0).uc.reg 1, (d.shp 0).uc.n, (d.shp 0).uc.v)) = some (0x80000000, true, true) := by decide +kernel

/-- WE 0 leaves DST (07 R266). -/
theorem test_alu_pass_keeps :
    (after (waiting (({} : Dev).setUc 0 (fun u => u.setReg 3 0x7FFFFFFF)) (.aluPass 0 ⟨3, 0, 1, false, true, false, 1⟩))).map (fun d => ((d.shp 0).uc.reg 1, (d.shp 0).uc.n, (d.shp 0).uc.v)) = some (0, false, false) := by decide +kernel

/-- The worked example of 06 R215: head 3 of actuator 1, target track 412,337; f is 24, and with c = -5 the position error is -19. -/
theorem test_wedge_example :
    burstFraction 128 128 900 620 410 1130 = some 24 ∧ positionOf 412337 24 (-5) = 412337 * 256 + 19 ∧
      pesOf (412337 * 256) (positionOf 412337 24 (-5)) = -19 := by decide +kernel

/-- The check value of the tile CRC over "123456789" (12 R491). -/
theorem test_tile_crc : crc64 [0x31, 0x32, 0x33, 0x34, 0x35, 0x36, 0x37, 0x38, 0x39] = 0x6C40DF5F0B497347 := by decide +kernel

/-- A block's interrupt needs the cause and its enable (02 R84). -/
theorem test_interrupt_needs_enable :
    ((({} : Dev).put F.CLK_INT_STAT_XIN_LOST 1).interrupt 0 0, ((({} : Dev).put F.CLK_INT_STAT_XIN_LOST 1).put F.CLK_INT_EN_XIN_LOST 1).interrupt 0 0) =
      (false, true) := by decide +kernel

/-- A core reads its own number in mhartid (01 R36). -/
theorem test_mhartid :
    (after (waiting ({}) (.reeveAccess 3 ⟨.csrRead, 0xF14, 8, 0, false, .clean, .clean, .good, true, [], 0⟩))).map (fun d => d.bus.value) = some 3 := by decide +kernel

/-- No phase conducts on both sides, at any time of a period of a small duty (05 R156). -/
theorem test_no_shoot_through :
    (List.range 250).all (fun i => let g := phaseGates 300 200 (100 * i); !(g.1 && g.2)) = true := by decide +kernel

/-- Words of the published RISC-V specifications: addi x1, x0, 10; mul x2, x1, x2; beq x0, x0, -16; c.sdsp ra, 24(sp); c.jr ra; mret (01 R33). -/
theorem test_core_words :
    [0x00A00093, 0x02208133, 0xFE0008E3, 0xEC06, 0x8082, 0x30200073, 0].map decodeInsn =
      [some (.aluImm .add false 1 0 10), some (.alu .mul false 2 1 2), some (.branch .eq 0 0 (2 ^ 64 - 16)), some (.store 8 2 1 24),
       some (.jalr 0 1 0), some .mret, none] := by decide +kernel

/-- A core executes sw x1, 4(x5), which stores a register (01 R33, R40). -/
theorem test_core_instruction :
    (after (waiting (({} : Dev).setCore 1 (fun c => (c.setX 1 0x0A0B).setX 5 0x10000000))
      (.reeveAccess 1 ⟨.insn, 0, 4, 0x0012A223, false, .clean, .clean, .good, true, [], 0⟩))).map (fun d => (d.mem, (d.core 1).pc)) =
      some ([(0x10000004, 0x0B#8), (0x10000005, 0x0A#8)], 4) := by decide +kernel

/-- The balls that 21 R846 works out: F1, F2, F3, H3, H4, M1 (rows 6, 8, 12), F6, F7, M6. -/
theorem test_balls_worked_out :
    [(6, 1), (6, 2), (6, 3), (8, 3), (8, 4), (12, 1), (6, 6), (6, 7), (12, 6)].map (fun p => ballUse p.1 p.2) =
      [.signal (.paRdp 0 0), .signal (.paRdn 0 0), .vss, .signal (.paWdp 0 0), .signal (.paWdn 0 0), .signal (.paRdp 1 0), .rail .q, .vss,
       .rail .ch] := by decide +kernel

/-- 329 signal balls, 392 supply balls and 723 VSS balls (21 R846). -/
theorem test_ball_counts :
    let l := (List.range 38).flatMap (fun r => (List.range 38).map (fun c => ballUse (r + 1) (c + 1)))
    ((l.filter (fun u => match u with | .signal _ => true | _ => false)).length, (l.filter (fun u => match u with | .rail _ => true | _ => false)).length,
      (l.filter (fun u => u == .vss)).length) = (329, 392, 723) := by decide +kernel

/-! What meets each statement's premises. -/

theorem witness_statusHoldsAfterEveryStep :
    (∃ s t : State, StatusTrue s.toDev ∧ step s = .next t) :=
  ⟨⟨{}, [.dropwrClear]⟩, _, ⟨by decide, by decide +kernel, by decide +kernel, by decide +kernel, by decide +kernel, by decide +kernel, by decide +kernel, by decide +kernel, by decide +kernel⟩, rfl⟩

theorem witness_quietDeviceSettles :
    (∃ d : Dev, Quiet d) :=
  ⟨{}, ⟨by decide, rfl, rfl, rfl, rfl, by decide, by decide, by decide, by decide, rfl, rfl, by decide, by decide⟩⟩

theorem witness_stoppedIslandsDoNothing :
    (∃ (c : Instr) (d : Dev), Command.runsOn c d = false) :=
  ⟨.sectorAttemptAbandon 7 0, { clk := { stopped := true } }, by decide +kernel⟩

theorem witness_accessCodesMeanWhatTheySay :
    (∃ (p : Place) (k : Nat), k < p.field.width) ∧
    (∃ (p : Place) (f : Machine.Field), f.key ≠ p.field.key) ∧
    (∃ row : RegRow, row.places ≠ [] ∧ ∀ p ∈ row.places, p.access = .wo) :=
  ⟨⟨⟨F.CFG_INT_EN_DONE, 0, .rw⟩, 0, by decide⟩,
   ⟨⟨F.CFG_INT_EN_DONE, 0, .rw⟩, F.CFG_INT_EN_HOLD, by decide⟩,
   ⟨⟨0x2002000C, 1, 0, 1, 0, [⟨F.MOD_REQ_TARGET, 0, .wo⟩]⟩, by decide, by decide⟩⟩

theorem witness_registersLieAtTheirPlaces :
    (∃ a : Nat, 0x20000000 ≤ a ∧ a < 0x20180000 ∧ regFind a = none ∧ (a < 0x200F4000 ∨ 0x200F8000 ≤ a)) ∧
    (∃ (d : Dev) (row : RegRow) (i : Nat), regFind 0x20010084 = some (row, i) ∧ d.powered (rowDomain row i) = false) ∧
    (∃ (d : Dev) (a : Nat), 0x200F4000 ≤ a ∧ a < 0x200F8000 ∧ d.powered (islandDomain 0x0F) = false) :=
  ⟨⟨0x20030FF0, by decide +kernel⟩,
   ⟨({} : Dev).put F.CLK_PD_STAT_OFF 2, ⟨0x20010084, 1, 0, 1, 0, [⟨F.CFG_INT_EN_ADMIT_REFUSED, 3, .rw⟩, ⟨F.CFG_INT_EN_HOLD, 2, .rw⟩, ⟨F.CFG_INT_EN_FALLBACK, 1, .rw⟩, ⟨F.CFG_INT_EN_DONE, 0, .rw⟩]⟩, 0, by decide +kernel⟩,
   ⟨({} : Dev).put F.CLK_PD_STAT_OFF 2, 0x200F7FFC, by decide +kernel⟩⟩

theorem witness_windowsWhilePaused :
    (∃ (d : Dev) (w : Nat), (d.win w).phase = 0) ∧
    (∃ (d : Dev) (w : Nat), (d.win w).phase ≠ 0) ∧
    (∃ (d : Dev) (c : Ctx), c.window < d.hif.wins.length) ∧
    (∃ (d : Dev) (w : Nat), w < d.hif.wins.length ∧ (d.win w).phase = 2 ∧ d.on F.TWN_CTRL_PAUSE = true) :=
  ⟨⟨{}, 255, by decide⟩,
   ⟨({} : Dev).setWin 3 (fun w => { w with phase := 2 }), 3, by decide⟩,
   ⟨{}, { num := 0, words := [], window := 255, ring := 0, hold := false }, by decide⟩,
   ⟨(({} : Dev).setWin 3 (fun w => { w with phase := 2 })).put F.TWN_CTRL_PAUSE 1, 3, by decide +kernel⟩⟩

theorem witness_registerReadsChangeNothing :
    (∃ (d : Dev) (bar2 : Bool) (off : Nat), d.earlyWindow bar2 off = none) ∧
    (∃ (d : Dev) (off len : Nat), (len = 4 ∨ len = 8) ∧ off % len = 0 ∧ 0x38 ≤ off % 64 ∧ (d.win (off / 64)).phase = 1 ∧ off / 64 < d.hif.wins.length) :=
  ⟨⟨{}, false, 0x3FFC, by decide⟩,
   ⟨({} : Dev).setWin 255 (fun w => { w with phase := 1 }), 0x3FF8, 8, by decide⟩⟩

theorem witness_sramHoldsWhatIsWritten :
    (∃ bytes : List Nat, bytes ≠ [] ∧ ∀ x ∈ bytes, x < 256) ∧
    (∃ (a x : Nat) (bytes : List Nat), x < a ∨ a + bytes.length ≤ x) ∧
    (∃ d : Dev, d.mem ≠ [] ∧ Memory.wf d.mem = true) ∧
    (∃ d : Dev, d.on F.SRM_FLIP_CTRL_ARMED = false) :=
  ⟨⟨[255, 0, 7], by decide⟩,
   ⟨0x10000000, 0x10000003, [1, 2, 3], by decide⟩,
   ⟨{ mem := [(3, 1#8), (9, 2#8)] }, by decide⟩,
   ⟨{}, by decide⟩⟩

theorem witness_eventsReachTheirPorts :
    (∃ (d : Dev) (code sev : Nat), Events.severity code = some sev ∧ Events.port code < d.wat.ports.length ∧ sev < 3 ∧
      (at' d.wat.ports (Events.port code) {}).ordinary.length < 8) ∧
    (∃ (d : Dev) (code sev : Nat), Events.severity code = some sev ∧ Events.port code < d.wat.ports.length ∧ sev < 3 ∧
      8 ≤ (at' d.wat.ports (Events.port code) {}).ordinary.length) ∧
    (∃ (d : Dev) (code sev : Nat), Events.severity code = some sev ∧ Events.port code < d.wat.ports.length ∧ 3 ≤ sev) ∧
    (∃ code n : Nat, n ≠ Events.port code) :=
  ⟨⟨{}, 0x0301, 0, by decide +kernel⟩,
   ⟨{ wat := { ports := List.replicate 20 { ordinary := List.replicate 8 (mkEvent 0x0301 []) } } }, 0x0301, 0, by decide +kernel⟩,
   ⟨{}, 0x0304, 4, by decide +kernel⟩,
   ⟨0x0301, 19, by decide +kernel⟩⟩

theorem witness_safeEntryEndsTheWork :
    (∃ d : Dev, d.harvesting = false ∧ d.on F.WAT_STAT_SAFE = false) ∧
    (∃ d : Dev, d.harvesting = true ∨ d.on F.WAT_STAT_SAFE = true) :=
  ⟨⟨{}, by decide⟩,
   ⟨({} : Dev).put F.WAT_STAT_SAFE 1, Or.inr (by decide)⟩⟩

theorem witness_extentMapTakesEntries :
    (∃ (d : Dev) (e : Extent), mapOrdered d.drv.map ∧ 0 < e.count) ∧
    (∃ (d : Dev) (e : Extent), mapOrdered d.drv.map ∧ 0 < e.count) ∧
    (∃ d : Dev, mapOrdered d.drv.map) :=
  ⟨⟨{ drv := { map := [⟨0, 8, false, 100, 0⟩, ⟨8, 4, true, 0, 0⟩] } }, ⟨4, 6, false, 200, 0⟩, ⟨by decide, by decide⟩, by decide⟩,
   ⟨{ drv := { map := [⟨0, 8, false, 100, 0⟩, ⟨8, 4, true, 0, 0⟩] } }, ⟨4, 6, false, 200, 0⟩, ⟨by decide, by decide⟩, by decide⟩,
   ⟨{ drv := { map := [⟨0, 8, false, 100, 0⟩, ⟨8, 4, true, 0, 0⟩] } }, by decide, by decide⟩⟩

theorem witness_codewordsSatisfyEveryCheck :
    (∃ (c : CodeRec) (data : List Bool), data.length = infoBits ∧ (∀ j < c.rows, (1028 + j, j, 0) ∈ c.edges) ∧
      (∀ e ∈ c.edges, e.1 ≤ 1028 + e.2.1) ∧ (c.edges.map (fun e => (e.1, e.2.1))).Nodup) :=
  ⟨⟨0, 2, 1030, [(1027, 0, 9), (1028, 0, 0), (1028, 1, 3), (1029, 1, 0)]⟩, List.replicate infoBits true, by simp, by decide, by decide, by decide⟩

theorem witness_clockStartUp :
    (∃ (d : Dev), d.clk.held = false ∧ d.phase = phaseUnarmed ∧ d.on F.CLK_MON_STAT_SLOW_COUNTED = false) ∧
    (∃ (d : Dev), d.clk.held = false ∧ d.mod.porstHigh = true ∧ d.phase = phaseUnarmed ∧ d.on F.CLK_MON_STAT_ROSC_QUAL = true) ∧
    (∃ (d : Dev) (n : Nat), d.clk.held = false ∧ d.on F.CLK_MON_STAT_ROSC_QUAL = true ∧ d.on F.CLK_MON_STAT_SLOW_COUNTED = false) ∧
    (∃ (d : Dev) (n : Nat), d.clk.held = false ∧ d.clk.stopped = false ∧ d.phase = phaseLearning ∧ d.clk.voteDue = false ∧ d.clk.awaitXin = false ∧ 1150 ≤ n ∧ n ≤ 1433 ∧ d.clk.learnN < 64) ∧
    (∃ (d : Dev) (n : Nat), d.clk.held = false ∧ d.clk.stopped = false ∧ d.phase = phaseLearning ∧ d.clk.voteDue = false ∧ d.clk.awaitXin = false ∧ (n < 1150 ∨ 1433 < n)) ∧
    (∃ (d : Dev), d.clk.held = false ∧ d.phase = phaseLearning ∧ d.clk.voteDue = false ∧ 64 ≤ d.clk.learnN) ∧
    (∃ (d : Dev) (xin : Nat) (rosc : Nat), d.clk.held = false ∧ d.phase = phaseLearning ∧ d.clk.voteDue = true ∧ 2286 ≤ xin ∧ xin ≤ 5333 ∧ 1682 ≤ rosc ∧ rosc ≤ 4608 ∧ d.get F.CLK_VOTE_STAT_UNRESOLVED < 3) ∧
    (∃ (d : Dev) (xin : Nat) (rosc : Nat), d.clk.held = false ∧ d.phase = phaseLearning ∧ d.clk.voteDue = true ∧ 2286 ≤ xin ∧ xin ≤ 5333 ∧ (rosc < 1682 ∨ 4608 < rosc)) ∧
    (∃ (d : Dev), d.clk.held = false ∧ d.clk.stopped = false ∧ d.phase = phaseLearning ∧ d.clk.awaitXin = false ∧ d.clk.noted0102 = false) ∧
    (∃ (d : Dev), d.phase = phaseXinLost ∧ 64 ≤ d.clk.goodRun) ∧
    (∃ (d : Dev), d.clk.held = false ∧ d.clk.stopped = false ∧ d.phase = phaseTracking) ∧
    (∃ (d : Dev) (n : Nat), d.phase = phaseRoscLost ∧ d.clk.stopped = false ∧ 2286 ≤ n ∧ n ≤ 5333) :=
  ⟨⟨{}, by decide +kernel⟩,
   ⟨({ mod := { porstHigh := true } } : Dev).put F.CLK_MON_STAT_ROSC_QUAL 1, by decide +kernel⟩,
   ⟨({} : Dev).put F.CLK_MON_STAT_ROSC_QUAL 1, 0, by decide +kernel⟩,
   ⟨({} : Dev).put F.CLK_MON_STAT_PHASE 1, 1150, by decide +kernel⟩,
   ⟨({} : Dev).put F.CLK_MON_STAT_PHASE 1, 1434, by decide +kernel⟩,
   ⟨({ clk := { learnN := 64, learnSum := 81920 } } : Dev).put F.CLK_MON_STAT_PHASE 1, by decide +kernel⟩,
   ⟨({ clk := { voteDue := true } } : Dev).put F.CLK_MON_STAT_PHASE 1, 2286, 4608, by decide +kernel⟩,
   ⟨({ clk := { voteDue := true } } : Dev).put F.CLK_MON_STAT_PHASE 1, 5333, 1681, by decide +kernel⟩,
   ⟨({} : Dev).put F.CLK_MON_STAT_PHASE 1, by decide +kernel⟩,
   ⟨({ clk := { goodRun := 64 } } : Dev).put F.CLK_MON_STAT_PHASE 4, by decide +kernel⟩,
   ⟨({} : Dev).put F.CLK_MON_STAT_PHASE 2, by decide +kernel⟩,
   ⟨({} : Dev).put F.CLK_MON_STAT_PHASE 5, 5333, by decide +kernel⟩⟩

theorem witness_pllLockAndLoss :
    (∃ (d : Dev) (p : Fin 5), d.clk.stopped = false) ∧
    (∃ (d : Dev) (p : Fin 5), d.onI F.CLK_PLL_STAT_LOCKED p.val = false ∧ at' d.clk.pllRun p.val false = false ∧ d.clk.xinFailed = false ∧ d.clk.stopped = false) ∧
    (∃ (d : Dev) (p : Fin 5), d.clk.stopped = false) ∧
    (∃ (d : Dev) (p : Fin 5), d.pllInUse p.val = true ∧ d.clk.stopped = false) ∧
    (∃ (d : Dev) (p : Fin 5), d.pllInUse p.val = false ∧ d.clk.stopped = false) ∧
    (∃ (d : Dev) (p : Fin 5) (n : Nat), at' d.clk.pllRun p.val false = true ∧ gap n (d.get F.CLK_MON_REF_CREF) ≤ d.get F.CLK_MON_REF_CREF * 3 / 100 ∧ at' d.clk.pllGood p.val 0 < 3) ∧
    (∃ (d : Dev) (p : Fin 5) (n : Nat), at' d.clk.pllRun p.val false = true ∧ gap n (d.get F.CLK_MON_REF_CREF) ≤ d.get F.CLK_MON_REF_CREF * 3 / 100 ∧ at' d.clk.pllGood p.val 0 = 3 ∧ d.mod.mode ≠ Mode.boot) ∧
    (∃ (d : Dev) (p : Fin 5), at' d.clk.pllRun p.val false = true ∧ d.getI F.CLK_PLL_STAT_ATTEMPTS p.val < 2) ∧
    (∃ (d : Dev) (p : Fin 5), at' d.clk.pllRun p.val false = true ∧ 2 ≤ d.getI F.CLK_PLL_STAT_ATTEMPTS p.val) :=
  ⟨⟨{}, 0, by decide +kernel⟩,
   ⟨{}, 4, by decide +kernel⟩,
   ⟨{}, 0, by decide +kernel⟩,
   ⟨{ clk := { swTo := [none, some 0] } }, 0, by decide +kernel⟩,
   ⟨{}, 4, by decide +kernel⟩,
   ⟨({ clk := { pllRun := [true] } } : Dev).put F.CLK_MON_REF_CREF 1000, 0, 1030, by decide +kernel⟩,
   ⟨({ clk := { pllRun := [true], pllGood := [3] }, mod := { mode := .serve } } : Dev).put F.CLK_MON_REF_CREF 1000, 0, 970, by decide +kernel⟩,
   ⟨({ clk := { pllRun := [true] } } : Dev).putI F.CLK_PLL_STAT_ATTEMPTS 0 1, 0, by decide +kernel⟩,
   ⟨({ clk := { pllRun := [true] } } : Dev).putI F.CLK_PLL_STAT_ATTEMPTS 0 2, 0, by decide +kernel⟩⟩

theorem witness_islandSwitchAndGate :
    (∃ (d : Dev) (src : Fin 4), d.clk.stopped = false) ∧
    (∃ (d : Dev) (src : Fin 4), d.get F.CLK_ISL_SEL_ISLAND ≤ 0x1C ∧ aonIsland (d.get F.CLK_ISL_SEL_ISLAND) = false ∧ (src.val = 1 ∨ src.val = 2) ∧ d.onI F.CLK_ISL_STAT_GATED (d.get F.CLK_ISL_SEL_ISLAND) = false ∧ d.onI F.CLK_ISL_STAT_GATE_PENDING (d.get F.CLK_ISL_SEL_ISLAND) = false ∧ d.onI F.CLK_ISL_STAT_SWITCHING (d.get F.CLK_ISL_SEL_ISLAND) = false ∧ d.clk.stopped = false) ∧
    (∃ (d : Dev) (src : Fin 4), d.get F.CLK_ISL_SEL_ISLAND ≤ 0x1C ∧ aonIsland (d.get F.CLK_ISL_SEL_ISLAND) = true ∧ d.clk.stopped = false) ∧
    (∃ (d : Dev) (island : Fin 29), d.clk.stopped = false) ∧
    (∃ (d : Dev) (i : Fin 29) (src : Nat), at' d.clk.swTo i.val none = some src ∧ at' d.clk.gateAfter i.val false = false ∧ (({ d with clk := { d.clk with swTo := d.clk.swTo.set i.val none, gateAfter := d.clk.gateAfter.set i.val false } } : Dev).putI F.CLK_ISL_STAT_SRC_NOW i.val src).anyOnRosc = true ∧ d.get F.DDR_STAT_STATE ≠ ddrSelfRefresh ∧ d.clk.stopped = false) ∧
    (∃ (d : Dev), d.clk.stopped = false) ∧
    (∃ (d : Dev), d.get F.CLK_ISL_SEL_ISLAND ≤ 0x1C ∧ aonIsland (d.get F.CLK_ISL_SEL_ISLAND) = false ∧ d.onI F.CLK_ISL_STAT_GATED (d.get F.CLK_ISL_SEL_ISLAND) = false ∧ d.onI F.CLK_ISL_STAT_SWITCHING (d.get F.CLK_ISL_SEL_ISLAND) = false ∧ d.clk.stopped = false) ∧
    (∃ (d : Dev) (island : Fin 29) (part : Fin 4), d.clk.stopped = false) ∧
    (∃ (d : Dev) (i : Fin 29) (part : Fin 4), i.val ≠ 0x06 ∧ i.val ≠ 0x08 ∧ islandDomain i.val ≠ 8 ∧ d.onI F.CLK_ISL_STAT_GATE_PENDING i.val = true ∧ d.clk.stopped = false) ∧
    (∃ (d : Dev) (island : Fin 29) (part : Fin 4) (outstanding : Nat), d.clk.stopped = false) ∧
    (∃ (d : Dev) (i : Fin 29) (part : Fin 4) (n : Nat), i.val ≠ 0x06 ∧ i.val ≠ 0x08 ∧ islandDomain i.val ≠ 8 ∧ at' d.clk.drain (islandDomain i.val) [] = [] ∧ d.onI F.CLK_ISL_STAT_GATE_PENDING i.val = true ∧ d.clk.stopped = false) ∧
    (∃ (d : Dev), d.clk.stopped = false) ∧
    (∃ (d : Dev), d.get F.CLK_ISL_SEL_ISLAND ≤ 0x1C ∧ aonIsland (d.get F.CLK_ISL_SEL_ISLAND) = false ∧ d.powered (islandDomain (d.get F.CLK_ISL_SEL_ISLAND)) = true ∧ d.clk.stopped = false) :=
  ⟨⟨{}, 0, by decide +kernel⟩,
   ⟨({} : Dev).put F.CLK_ISL_SEL_ISLAND 0x12, 2, by decide +kernel⟩,
   ⟨({} : Dev).put F.CLK_ISL_SEL_ISLAND 0x1C, 0, by decide +kernel⟩,
   ⟨{}, 0, by decide +kernel⟩,
   ⟨({ clk := { swTo := [none, some 2] } } : Dev).putI F.CLK_ISL_STAT_SRC_NOW 2 2, 1, 2, by decide +kernel⟩,
   ⟨{}, by decide +kernel⟩,
   ⟨({} : Dev).put F.CLK_ISL_SEL_ISLAND 0x12, by decide +kernel⟩,
   ⟨{}, 0, 0, by decide +kernel⟩,
   ⟨({} : Dev).putI F.CLK_ISL_STAT_GATE_PENDING 1 1, 1, 0, by decide +kernel⟩,
   ⟨{}, 0, 0, 0, by decide +kernel⟩,
   ⟨({} : Dev).putI F.CLK_ISL_STAT_GATE_PENDING 1 1, 1, 0, 7, by decide +kernel⟩,
   ⟨{}, by decide +kernel⟩,
   ⟨({} : Dev).put F.CLK_ISL_SEL_ISLAND 0x12, by decide +kernel⟩⟩

theorem witness_powerDomainDownAndUp :
    (∃ (d : Dev) (dom : Fin 10), d.clk.stopped = false) ∧
    (∃ (d : Dev) (dom : Fin 10), 1 < dom.val ∧ d.powered dom.val = true ∧ d.clk.draining.testBit dom.val = false ∧ d.bit F.CLK_PD_STAT_BUSY dom.val = false ∧ d.clk.stopped = false) ∧
    (∃ (d : Dev) (dom : Fin 10), dom.val ≠ 8 ∧ d.clk.draining.testBit dom.val = true ∧ at' d.clk.drain dom.val [] = [] ∧ at' d.clk.upAfter dom.val false = false) ∧
    (∃ (d : Dev) (dom : Fin 10), d.clk.stopped = false) ∧
    (∃ (d : Dev) (dom : Fin 10), d.clk.draining.testBit dom.val = false ∧ d.powered dom.val = false ∧ d.clk.stopped = false) ∧
    (∃ (d : Dev) (dom : Fin 10), d.powered dom.val = false ∧ d.bit F.CLK_PD_STAT_BUSY dom.val = true) ∧
    (∃ (d : Dev), d.clk.stopped = false) :=
  ⟨⟨{}, 0, by decide +kernel⟩,
   ⟨{}, 9, by decide +kernel⟩,
   ⟨{ clk := { draining := 512 } }, 9, by decide +kernel⟩,
   ⟨{}, 0, by decide +kernel⟩,
   ⟨({} : Dev).setBit F.CLK_PD_STAT_OFF 3 true, 3, by decide +kernel⟩,
   ⟨((({} : Dev).setBit F.CLK_PD_STAT_OFF 9 true).setBit F.CLK_PD_STAT_BUSY 9 true).setBit F.CLK_PD_CTRL_ON 9 true, 9, by decide +kernel⟩,
   ⟨{}, by decide +kernel⟩⟩

theorem witness_resetBallsAndRails :
    (∃ (d : Dev), d.mod.porstHeldOff = false ∧ d.mod.porstHigh = false ∧ d.wch.tripped = 0 ∧ d.wch.preamp = 0 ∧ d.clk.xinFailed = false ∧ d.mod.pwrfailLow = false ∧ d.mod.harvStarted = false ∧ d.mod.lostAtSafe = 0) ∧
    (∃ (d : Dev) (ns : Nat) (taken : Bool), ns < 1000) ∧
    (∃ (d : Dev) (ns : Nat) (taken : Bool), 10000 ≤ ns ∧ d.holdsOff = false ∧ d.on F.PRS_STAT_PRESENT = false ∧ d.on F.TAL_STAT_DEBUG = false) ∧
    (∃ (d : Dev) (ns : Nat) (taken : Bool), 10000 ≤ ns ∧ d.holdsOff = true) ∧
    (∃ (d : Dev), (d.railLow 6).holdsOff = true) ∧
    (∃ (d : Dev), (d.railLow 6).holdsOff = false) ∧
    (∃ (d : Dev) (r : Fin 7), r.val ≠ 0 ∧ r.val ≠ 1 ∧ r.val ≠ 6) ∧
    (∃ (d : Dev) (r : Fin 7), r.val = 1) ∧
    (∃ (d : Dev), d.mod.porstHeldOff = true ∧ d.mod.porstRose = false) ∧
    (∃ (d : Dev), d.mod.porstHeldOff = false) :=
  ⟨⟨{}, by decide +kernel⟩,
   ⟨{}, 999, true, by decide +kernel⟩,
   ⟨{}, 10000, false, by decide +kernel⟩,
   ⟨({} : Dev).put F.MOD_STAT_HARVEST 1, 10000, false, by decide +kernel⟩,
   ⟨({} : Dev).put F.MOD_STAT_HARVEST 1, by decide +kernel⟩,
   ⟨{}, by decide +kernel⟩,
   ⟨{}, 2, by decide +kernel⟩,
   ⟨{}, 1, by decide +kernel⟩,
   ⟨{ mod := { porstHeldOff := true } }, by decide +kernel⟩,
   ⟨{}, by decide +kernel⟩⟩

theorem witness_powerFailAndHarvest :
    (∃ (d : Dev), d.mod.pwrfailLow = false ∧ d.mod.porstHigh = true ∧ ({ d with mod := { d.mod with pwrfailLow := true } } : Dev).harvesting = false) ∧
    (∃ (d : Dev), d.mod.pwrfailLow = true ∧ d.mod.porstHigh = true ∧ d.harvesting = false) ∧
    (∃ (d : Dev), d.mod.pwrfailLow = false) ∧
    (∃ (d : Dev), ({ d with mod := { d.mod with pwrfailLow := false } } : Dev).harvesting = false) ∧
    (∃ (d : Dev), ({ d with mod := { d.mod with pwrfailLow := false } } : Dev).harvesting = true ∧ ({ d with mod := { d.mod with pwrfailLow := false } } : Dev).on F.MOD_HARV_STAT_DONE = false) ∧
    (∃ (d : Dev) (ms : Nat), d.clk.stopped = false) ∧
    (∃ (d : Dev) (ms : Nat), d.holdsOff = true ∧ d.clk.stopped = false) ∧
    (∃ (d : Dev) (ms : Nat), d.holdsOff = false ∧ d.clk.stopped = false) :=
  ⟨⟨{ mod := { porstHigh := true } }, by decide +kernel⟩,
   ⟨{ mod := { porstHigh := true, pwrfailLow := true } }, by decide +kernel⟩,
   ⟨{}, by decide +kernel⟩,
   ⟨{}, by decide +kernel⟩,
   ⟨({} : Dev).put F.MOD_STAT_HARVEST 1, by decide +kernel⟩,
   ⟨{}, 0, by decide +kernel⟩,
   ⟨({} : Dev).put F.MOD_STAT_HARVEST 1, 7, by decide +kernel⟩,
   ⟨{}, 7, by decide +kernel⟩⟩

theorem witness_modeRequestsAndIdleTimers :
    (∃ (d : Dev) (t : Fin 8), d.clk.stopped = false) ∧
    (∃ (d : Dev) (t : Fin 8), d.mod.mode = Mode.serve ∧ d.mod.transit = none ∧ d.harvesting = false ∧ d.streams = [] ∧ t.val = 4 ∧ d.clk.stopped = false) ∧
    (∃ (d : Dev) (t : Fin 8), d.mod.mode = Mode.rest ∧ d.mod.transit = none ∧ d.harvesting = false ∧ t.val = 2 ∧ d.clk.stopped = false) ∧
    (∃ (d : Dev) (t : Fin 8), (t.val < 2 ∨ 4 < t.val) ∧ d.clk.stopped = false) ∧
    (∃ (d : Dev), d.clk.stopped = false) ∧
    (∃ (d : Dev), d.mod.mode = Mode.safe ∧ d.harvesting = false ∧ d.clk.stopped = false) ∧
    (∃ (d : Dev), d.mod.mode = Mode.boot ∧ d.clk.stopped = false) ∧
    (∃ (d : Dev) (v : BitVec 17), d.clk.stopped = false) ∧
    (∃ (d : Dev) (v : BitVec 17), v.toNat ≤ 86400 ∧ d.clk.stopped = false) ∧
    (∃ (d : Dev) (v : BitVec 17), 86400 < v.toNat ∧ d.clk.stopped = false) ∧
    (∃ (d : Dev) (v : BitVec 17), d.clk.stopped = false) ∧
    (∃ (d : Dev) (v : BitVec 17), (v.toNat = 0 ∨ 60 ≤ v.toNat) ∧ v.toNat ≤ 86400 ∧ d.clk.stopped = false) ∧
    (∃ (d : Dev) (v : BitVec 13), d.clk.stopped = false) ∧
    (∃ (d : Dev) (v : BitVec 13), 3600 ≤ v.toNat ∧ v.toNat ≤ d.get F.MIL_LIMITS_FLOOR ∧ d.mod.mode ≠ Mode.ease ∧ d.clk.stopped = false) ∧
    (∃ (d : Dev), d.live 0x02 = true) ∧
    (∃ (d : Dev), d.mod.mode = Mode.serve ∧ d.mod.transit = none ∧ d.harvesting = false ∧ d.streams = [] ∧ d.get F.MOD_EASE_IDLE_SECONDS ≠ 0 ∧ d.get F.MOD_REST_IDLE_SECONDS = 0 ∧ d.get F.MOD_EASE_IDLE_SECONDS ≤ d.get F.MOD_IDLE_NOW_SECONDS ∧ d.live 0x02 = true) ∧
    (∃ (d : Dev), d.live 0x02 = true) ∧
    (∃ (d : Dev), (d.mod.mode = Mode.serve ∨ d.mod.mode = Mode.ease) ∧ d.mod.transit = none ∧ d.harvesting = false ∧ d.streams = [] ∧ d.get F.MOD_REST_IDLE_SECONDS ≠ 0 ∧ d.get F.MOD_REST_IDLE_SECONDS ≤ d.get F.MOD_IDLE_NOW_SECONDS ∧ d.live 0x02 = true) :=
  ⟨⟨{}, 0, by decide +kernel⟩,
   ⟨{ mod := { mode := .serve } }, 4, by decide +kernel⟩,
   ⟨{ mod := { mode := .rest } }, 2, by decide +kernel⟩,
   ⟨{}, 5, by decide +kernel⟩,
   ⟨{}, by decide +kernel⟩,
   ⟨{ mod := { mode := .safe } }, by decide +kernel⟩,
   ⟨{}, by decide +kernel⟩,
   ⟨{}, 0, by decide +kernel⟩,
   ⟨{}, 86400#17, by decide +kernel⟩,
   ⟨{}, 86401#17, by decide +kernel⟩,
   ⟨{}, 0, by decide +kernel⟩,
   ⟨{}, 60#17, by decide +kernel⟩,
   ⟨{}, 0, by decide +kernel⟩,
   ⟨({} : Dev).put F.MIL_LIMITS_FLOOR 3600, 3600#13, by decide +kernel⟩,
   ⟨{}, by decide +kernel⟩,
   ⟨(({ mod := { mode := .serve } } : Dev).put F.MOD_EASE_IDLE_SECONDS 60).put F.MOD_IDLE_NOW_SECONDS 60 |>.put F.MOD_REST_IDLE_SECONDS 0, by decide +kernel⟩,
   ⟨{}, by decide +kernel⟩,
   ⟨(({ mod := { mode := .ease } } : Dev).put F.MOD_REST_IDLE_SECONDS 60).put F.MOD_IDLE_NOW_SECONDS 60, by decide +kernel⟩⟩

theorem witness_millStartsTheSpindle :
    (∃ (d : Dev), d.live 0x03 = true) ∧
    (∃ (d : Dev), d.milState = milListen ∧ d.mil.cross.mean16 d.polePairs = 0 ∧ d.live 0x03 = true) ∧
    (∃ (d : Dev), d.live 0x03 = true) ∧
    (∃ (d : Dev), d.milState = milBrake ∧ d.get F.MIL_SPEED_RPM16 * 200 < d.baseRpm * 16 ∧ d.live 0x03 = true) ∧
    (∃ (d : Dev), d.milState = milBrake ∧ d.baseRpm * 16 ≤ d.get F.MIL_SPEED_RPM16 * 200 ∧ d.live 0x03 = true) ∧
    (∃ (d : Dev), d.live 0x03 = true) ∧
    (∃ (d : Dev), d.milState = milRetry ∧ d.live 0x03 = true) ∧
    (∃ (d : Dev), d.live 0x03 = true) ∧
    (∃ (d : Dev), d.milState = milSense ∧ d.live 0x03 = true) ∧
    (∃ peaks : List Nat, peaks ≠ [] ∧ ∀ x ∈ peaks, ∀ y ∈ peaks, 0 < x ∧ (x - y) * 10 < x) ∧
    (∃ (d : Dev), d.live 0x03 = true) ∧
    (∃ (d : Dev), d.milState = milAlign ∧ d.live 0x03 = true) ∧
    (∃ (d : Dev), d.live 0x03 = true) ∧
    (∃ (d : Dev), d.milState = milOpen ∧ 800 ≤ d.mil.agree ∧ d.live 0x03 = true) ∧
    (∃ (d : Dev), d.milState = milOpen ∧ d.mil.agree < 800 ∧ d.live 0x03 = true) ∧
    (∃ (d : Dev), d.live 0x03 = true) ∧
    (∃ (d : Dev), d.milState = milOpen ∧ d.policy 0x1008 400 * 1000 ≤ d.mil.openMilli ∧ d.get F.MIL_START_ATTEMPTS < 5 ∧ d.live 0x03 = true) ∧
    (∃ (d : Dev), d.live 0x03 = true) ∧
    (∃ (d : Dev), d.milState = milBrake ∧ 5 ≤ d.get F.MIL_START_ATTEMPTS ∧ d.live 0x03 = true) ∧
    (∃ (d : Dev), d.live 0x03 = true) ∧
    (∃ (d : Dev), d.milState = milStopping ∧ d.nearRest = true ∧ d.live 0x03 = true) ∧
    (∃ (d : Dev), d.live 0x03 = true) ∧
    (∃ (d : Dev), 40 ≤ d.mil.vmRun ∧ d.live 0x03 = true) ∧
    (∃ (d : Dev), d.mil.vmRun < 40 ∧ d.live 0x03 = true) ∧
    (∃ (d : Dev), d.live 0x03 = true) ∧
    (∃ (d : Dev), d.milState = milLost ∧ d.get F.MIL_OBS_FAILS < 2 ∧ d.live 0x03 = true) ∧
    (∃ (d : Dev), d.live 0x03 = true) ∧
    (∃ (d : Dev), d.milState = milRun ∧ d.on F.MIL_STAT_LOCK = true ∧ d.live 0x03 = true) :=
  ⟨⟨{}, by decide +kernel⟩,
   ⟨({} : Dev).put F.MIL_STAT_STATE 1, by decide +kernel⟩,
   ⟨{}, by decide +kernel⟩,
   ⟨({} : Dev).put F.MIL_STAT_STATE 2, by decide +kernel⟩,
   ⟨(({} : Dev).put F.MIL_STAT_STATE 2).put F.MIL_SPEED_RPM16 65535, by decide +kernel⟩,
   ⟨{}, by decide +kernel⟩,
   ⟨({} : Dev).put F.MIL_STAT_STATE 8, by decide +kernel⟩,
   ⟨{}, by decide +kernel⟩,
   ⟨({} : Dev).put F.MIL_STAT_STATE 3, by decide +kernel⟩,
   ⟨[100, 95, 100, 97, 99, 91], by decide⟩,
   ⟨{}, by decide +kernel⟩,
   ⟨({} : Dev).put F.MIL_STAT_STATE 4, by decide +kernel⟩,
   ⟨{}, by decide +kernel⟩,
   ⟨({ mil := { agree := 800 } } : Dev).put F.MIL_STAT_STATE 5, by decide +kernel⟩,
   ⟨({ mil := { agree := 799 } } : Dev).put F.MIL_STAT_STATE 5, by decide +kernel⟩,
   ⟨{}, by decide +kernel⟩,
   ⟨(({ mil := { openMilli := 400000 } } : Dev).put F.MIL_STAT_STATE 5).put F.MIL_START_ATTEMPTS 4, by decide +kernel⟩,
   ⟨{}, by decide +kernel⟩,
   ⟨(({} : Dev).put F.MIL_STAT_STATE 2).put F.MIL_START_ATTEMPTS 5, by decide +kernel⟩,
   ⟨{}, by decide +kernel⟩,
   ⟨({} : Dev).put F.MIL_STAT_STATE 9, by decide +kernel⟩,
   ⟨{}, by decide +kernel⟩,
   ⟨{ mil := { vmRun := 40 } }, by decide +kernel⟩,
   ⟨{ mil := { vmRun := 39 } }, by decide +kernel⟩,
   ⟨{}, by decide +kernel⟩,
   ⟨(({} : Dev).put F.MIL_STAT_STATE 7).put F.MIL_OBS_FAILS 1, by decide +kernel⟩,
   ⟨{}, by decide +kernel⟩,
   ⟨(({} : Dev).put F.MIL_STAT_STATE 6).put F.MIL_STAT_LOCK 1, by decide +kernel⟩⟩

theorem witness_pwmPeriodMeasuresAndDrives :
    (∃ (d : Dev) (p : PwmSample), d.live 0x03 = true) ∧
    (∃ d : Dev, d.milState = milCoast) ∧
    (∃ (d : Dev) (t : Nat), d.mil.cut = true ∧ 12500 ≤ t) :=
  ⟨⟨{}, ⟨0, 0, 0, 0, 0, 0, 0, 0⟩, by decide +kernel⟩,
   ⟨({} : Dev).put F.MIL_STAT_STATE 11, by decide +kernel⟩,
   ⟨{ mil := { cut := true } }, 12500, rfl, by decide⟩⟩

theorem witness_millerChangesTheSpeed :
    (∃ (d : Dev), d.live 0x03 = true) ∧
    (∃ (d : Dev), d.mod.mode = Mode.serve ∧ d.miller ≠ 0 ∧ d.live 0x03 = true) ∧
    (∃ (d : Dev), d.live 0x03 = true) ∧
    (∃ (d : Dev), d.miller = 1 ∧ d.anyWriting = false ∧ d.live 0x03 = true) ∧
    (∃ (d : Dev), d.live 0x03 = true) ∧
    (∃ (d : Dev), d.miller = 2 ∧ d.milState = milRun ∧ d.mil.spinning = false ∧ d.mil.setMilli = d.get F.MIL_TARGET_TARGET * 1000 ∧ d.live 0x03 = true) ∧
    (∃ (d : Dev), d.live 0x03 = true) ∧
    (∃ (d : Dev), d.miller = 3 ∧ d.on F.MIL_STAT_INHIBIT = false ∧ d.live 0x03 = true) ∧
    (∃ (d : Dev), d.live 0x03 = true) ∧
    (∃ (d : Dev), d.gasDue = false ∧ d.live 0x03 = true) ∧
    (∃ (d : Dev), d.gasDue = true ∧ d.mil.gasSamples = 0 ∧ d.mod.mode ≠ Mode.serve ∧ d.live 0x03 = true) :=
  ⟨⟨{}, by decide +kernel⟩,
   ⟨({ mod := { mode := .serve } } : Dev).put F.MIL_STAT_MILLER 1, by decide +kernel⟩,
   ⟨{}, by decide +kernel⟩,
   ⟨({} : Dev).put F.MIL_STAT_MILLER 1, by decide +kernel⟩,
   ⟨{}, by decide +kernel⟩,
   ⟨((({ mil := { setMilli := 6000000 } } : Dev).put F.MIL_STAT_MILLER 2).put F.MIL_STAT_STATE 6).put F.MIL_TARGET_TARGET 6000, by decide +kernel⟩,
   ⟨{}, by decide +kernel⟩,
   ⟨({} : Dev).put F.MIL_STAT_MILLER 3, by decide +kernel⟩,
   ⟨{}, by decide +kernel⟩,
   ⟨{}, by decide +kernel⟩,
   ⟨((({ mod := { mode := .ease }, mil := { steadyMs := 1000, gasN := 1 }, pol := [(0x1010, 1)] } : Dev).put F.MIL_STAT_STATE 6).put F.THM_ENC_VALID 1), by decide +kernel⟩⟩

theorem witness_shepherdLoadsAndParks :
    (∃ (d : Dev) (n : Fin 4), d.live 0x04 = true) ∧
    (∃ (d : Dev) (n : Fin 4), d.powered 2 = true ∧ d.actuatorFitted n.val = true ∧ (d.shp n.val).fenced = false ∧ d.on F.WAT_STAT_SAFE = false ∧ d.shpState n.val = shpParked ∧ (d.shp n.val).uc.reloading = false ∧ (d.shp n.val).hwPark = false ∧ d.milState = milRun ∧ d.miller = 0 ∧ (d.shp n.val).tempRead = true ∧ d.live 0x04 = true) ∧
    (∃ (d : Dev) (n : Fin 4), d.live 0x04 = true) ∧
    (∃ (d : Dev) (n : Fin 4), d.shpState n.val = shpLoading ∧ d.live 0x04 = true) ∧
    (∃ d : Dev, d.get F.MIL_SPEED_RPM16 * d.wedges ≠ 0) ∧
    (∃ (d : Dev) (n : Fin 4), d.live 0x04 = true) ∧
    (∃ (d : Dev) (n : Fin 4), d.shpState n.val = shpAcquire ∧ d.getI F.SHP_STAT_ACQ_FAILS n.val < 2 ∧ d.live 0x04 = true) ∧
    (∃ (d : Dev) (n : Fin 4), d.live 0x04 = true) ∧
    (∃ (d : Dev) (n : Fin 4), d.shpState n.val = shpLost ∧ d.getI F.SHP_STAT_ACQ_FAILS n.val < 2 ∧ d.live 0x04 = true) ∧
    (∃ (d : Dev) (n : Fin 4), d.live 0x04 = true) ∧
    (∃ (d : Dev) (n : Fin 4) (e : Dev), e = d.post 0x110A [n.val, d.getI F.SHP_SEEK_DIST_DIST n.val, (d.shp n.val).seekCycles / 800] ∧ (d.shpState n.val = shpSeek ∨ d.shpState n.val = shpSettle) ∧ ((e.shp n.val).seekTries = 0) ∧ d.live 0x04 = true) ∧
    (∃ (d : Dev) (n : Fin 4), d.live 0x04 = true) ∧
    (∃ (d : Dev) (n : Fin 4), d.shpState n.val = shpUnloading ∧ (d.shp n.val).reload = false ∧ d.live 0x04 = true) ∧
    (∃ (d : Dev) (n : Fin 4), d.live 0x04 = true) ∧
    (∃ (d : Dev) (n : Fin 4), d.shpState n.val = shpUnloading ∧ (d.shp n.val).reload = false ∧ (d.shp n.val).hwPark = true ∧ d.live 0x04 = true) ∧
    (∃ (d : Dev) (n : Fin 4), d.live 0x04 = true) ∧
    (∃ (d : Dev) (n : Fin 4), d.shpState n.val = shpUnloading ∧ (d.shp n.val).retractDue.isSome = true ∧ d.live 0x04 = true) ∧
    (∃ (d : Dev) (n : Fin 4), d.powered 2 = true ∧ d.clk.stopped = false) ∧
    (∃ (d : Dev) (n : Fin 4), d.powered 2 = false ∧ d.clk.stopped = false) :=
  ⟨⟨{}, 0, by decide +kernel⟩,
   ⟨({ cfg := { sections := [⟨16, 0, [1]⟩] }, shps := [{ tempRead := true }, {}, {}, {}] } : Dev).put F.MIL_STAT_STATE 6, 0, by decide +kernel⟩,
   ⟨{}, 0, by decide +kernel⟩,
   ⟨(({} : Dev).putI F.SHP_STAT_STATE 1 1), 1, by decide +kernel⟩,
   ⟨(({ cfg := { sections := [⟨16, 0, [1, 0, 100, 1]⟩] } } : Dev).put F.MIL_SPEED_RPM16 57600), by decide +kernel⟩,
   ⟨{}, 0, by decide +kernel⟩,
   ⟨(({} : Dev).putI F.SHP_STAT_STATE 1 2), 1, by decide +kernel⟩,
   ⟨{}, 0, by decide +kernel⟩,
   ⟨(({} : Dev).putI F.SHP_STAT_STATE 1 6).putI F.SHP_STAT_ACQ_FAILS 1 1, 1, by decide +kernel⟩,
   ⟨{}, 0, by decide +kernel⟩,
   ⟨(({} : Dev).putI F.SHP_STAT_STATE 1 5), 1, _, rfl, by decide +kernel⟩,
   ⟨{}, 0, by decide +kernel⟩,
   ⟨(({} : Dev).putI F.SHP_STAT_STATE 1 7), 1, by decide +kernel⟩,
   ⟨{}, 0, by decide +kernel⟩,
   ⟨(({ shps := [{}, { hwPark := true }, {}, {}] } : Dev).putI F.SHP_STAT_STATE 1 7), 1, by decide +kernel⟩,
   ⟨{}, 0, by decide +kernel⟩,
   ⟨(({ shps := [{}, { retractDue := some 0 }, {}, {}] } : Dev).putI F.SHP_STAT_STATE 1 7), 1, by decide +kernel⟩,
   ⟨{}, 3, by decide +kernel⟩,
   ⟨({} : Dev).setBit F.CLK_PD_STAT_OFF 2 true, 3, by decide +kernel⟩⟩

theorem witness_shepherdWedgesAndPreamp :
    (∃ (d : Dev) (n : Fin 4) (w : WedgeSample), d.live 0x04 = true) ∧
    (∃ (d : Dev) (n : Fin 4) (w : WedgeSample) (h : WedgeHead) (e0 : Dev) (e1 : Dev), e0 = ((d.wedgePassed n.val (h.number % 1024) w.interval).samFound n.val w.interval).rvSample n.val w.rot ∧ e1 = e0.wedgeChannel n.val 0 h false ∧ d.shpState n.val = shpFollow ∧ d.powered 2 = true ∧ d.activeCh n.val = [0] ∧ h = wedgeHead (at' w.lanes (d.servoLane n.val 0) []) ∧ h.sam = true ∧ (d.shp n.val).lastWedge = none ∧ d.gatedCh n.val = [] ∧ decide (h.number / 1024 = 1) = decide (h.number % 1024 = 0) ∧ (e1.shpCh n.val 0).idErrRun = 0 ∧ d.live 0x04 = true) ∧
    (∃ (d e : Dev) (n : Fin 4) (k : Fin 2) (w : WedgeHead) (p : Int), d.demodulate n.val k.val w = (p, e) ∧ trackAstray (d.shpCh n.val k.val) (d.signedTrack (grayDecode 24 w.gray * 256)) = false) ∧
    (∃ (a b c e : Nat), a + b ≠ 0 ∧ c + e ≠ 0 ∧ ((a : Int) - b).natAbs * (c + e) ≤ ((c : Int) - e).natAbs * (a + b)) ∧
    (∃ (d : Dev) (n : Fin 4) (rot : BitVec 12), d.live 0x04 = true) ∧
    (∃ (d : Dev) (n : Fin 4) (rot : BitVec 12), d.servoLive n.val = false ∧ d.live 0x04 = true) ∧
    (∃ (d : Dev) (n : Fin 4) (rot : BitVec 12) (l : Nat) (e : Dev), e = ((d.incI F.SHP_FAULTS_MISSED n.val).wedgePassed n.val ((l + 1) % max 1 d.wedges) (d.getI F.SHP_INTERVAL_CYCLES n.val)).rvSample n.val rot ∧ d.servoLive n.val = true ∧ (d.shp n.val).lastWedge = some l ∧ d.live 0x04 = true) ∧
    (∃ (d : Dev) (n : Fin 4), d.live 0x04 = true) ∧
    (∃ (d : Dev) (n : Fin 4), d.actuatorFitted n.val = true ∧ d.powered 2 = true ∧ d.powered (3 + n.val) = true ∧ (d.shp n.val).paNow = none ∧ (d.shp n.val).paWait = [] ∧ d.live 0x04 = true) ∧
    (∃ (d : Dev) (n : Fin 4), d.actuatorFitted n.val = true ∧ d.powered 2 = true ∧ d.powered (3 + n.val) = false ∧ d.live 0x04 = true) ∧
    (∃ (d : Dev) (n : Fin 4), d.actuatorFitted n.val = true ∧ d.powered 2 = true ∧ d.powered (3 + n.val) = true ∧ d.getI F.SHP_TEMP_SRC n.val = 0) ∧
    (∃ (d : Dev) (n : Fin 4) (answer : BitVec 17), d.live 0x04 = true) ∧
    (∃ (d : Dev) (n : Fin 4) (answer : BitVec 17) (a : Nat) (v : Nat), (d.shp n.val).paNow = some (.loopOut a v) ∧ d.live 0x04 = true) ∧
    (∃ (d : Dev) (n : Fin 4) (answer : BitVec 17) (e : Dev), e = d.post 0x110F [n.val, 0x0B, 1] ∧ (d.shp n.val).paNow = some .fltRead ∧ popCount 17 answer.toNat % 2 = 0 ∧ (e.shp n.val).paRetry = false ∧ d.live 0x04 = true) ∧
    (∃ (d : Dev) (n : Fin 4) (v : BitVec 24), d.powered 2 = true ∧ d.clk.stopped = false) ∧
    (∃ (d : Dev) (n : Fin 4) (v : BitVec 24), d.onI F.SHP_PA_RESP_BUSY n.val = false ∧ slice v.toNat 16 7 ≠ 1 ∧ slice v.toNat 16 7 ≠ 2 ∧ d.powered 2 = true ∧ d.clk.stopped = false) ∧
    (∃ (d : Dev) (n : Fin 4) (v : BitVec 24), d.onI F.SHP_PA_RESP_BUSY n.val = true ∧ d.powered 2 = true ∧ d.clk.stopped = false) ∧
    (∃ (d : Dev) (n : Fin 4), d.live 0x04 = true) ∧
    (∃ (d : Dev) (n : Fin 4), d.onI F.SHP_PA_FLT_ACTIVE n.val = false ∧ d.live 0x04 = true) ∧
    (∃ (d : Dev) (n : Fin 4), d.live 0x04 = true) ∧
    (∃ (d : Dev) (n : Fin 4), (d.shp n.val).clearSent = false ∧ d.live 0x04 = true) :=
  ⟨⟨{}, 0, ⟨0, 0, []⟩, by decide +kernel⟩,
   ⟨(({} : Dev).putI F.SHP_STAT_STATE 1 3), 1, ⟨1000, 0, [List.replicate 64 1 ++ [-1, -1, -1, -1, 1, -1, 1, 1, -1, -1, 1, 1, 1, -1, -1, 1] ++ [-1, 1, -1, 1, -1, 1, -1, 1, -1, 1, -1, 1, -1, 1, -1, 1, -1, 1, 1, -1, -1, 1] ++ List.replicate 218 0, [], [], []]⟩, ⟨true, 2, 0, 0, 0, 0, 0, 0⟩, _, _, rfl, rfl, by decide +kernel⟩,
   ⟨{}, _, 0, 0, ⟨true, 0, 0, 1, 1, 0, 1, 0⟩, _, rfl, by decide⟩,
   ⟨1, 1, 3, 1, by decide, by decide, by decide⟩,
   ⟨{}, 0, 0, by decide +kernel⟩,
   ⟨{}, 1, 0, by decide +kernel⟩,
   ⟨(({ shps := [{}, { lastWedge := some 5 }, {}, {}] } : Dev).putI F.SHP_STAT_STATE 1 3), 1, 0, 5, _, rfl, by decide +kernel⟩,
   ⟨{}, 0, by decide +kernel⟩,
   ⟨{ cfg := { sections := [⟨16, 0, [1]⟩] } }, 0, by decide +kernel⟩,
   ⟨({ cfg := { sections := [⟨16, 0, [1]⟩] } } : Dev).setBit F.CLK_PD_STAT_OFF 3 true, 0, by decide +kernel⟩,
   ⟨({ cfg := { sections := [⟨16, 0, [1]⟩] } } : Dev).putI F.SHP_TEMP_SRC 0 0, 0, by decide +kernel⟩,
   ⟨{}, 0, 0, by decide +kernel⟩,
   ⟨{ shps := [{ paNow := some (.loopOut 3 9) }, {}, {}, {}] }, 0, 0, 3, 9, by decide +kernel⟩,
   ⟨{ shps := [{ paNow := some .fltRead }, {}, {}, {}] }, 0, 3, _, rfl, by decide +kernel⟩,
   ⟨{}, 0, 0, by decide +kernel⟩,
   ⟨{}, 0, 0, by decide +kernel⟩,
   ⟨({} : Dev).putI F.SHP_PA_RESP_BUSY 0 1, 0, 0, by decide +kernel⟩,
   ⟨{}, 0, by decide +kernel⟩,
   ⟨{}, 2, by decide +kernel⟩,
   ⟨{}, 0, by decide +kernel⟩,
   ⟨{}, 2, by decide +kernel⟩⟩

theorem witness_microWordsAct :
    (∃ (d : Dev) (n : Fin 4) (f : MicroFetch), d.live 0x04 = true) ∧
    (∃ (d : Dev) (n : Fin 4) (f : MicroFetch) (stored : Nat) (word : Nat) (act : Nat) (w : Nano) (e : Dev), e = ((d.putI F.SHP_UC_PC_NANO n.val (slice word 0 9)).nanoAct n.val w).setUc n.val (fun u => { u with waiting := false, holdRun := 0 }) ∧ d.powered 2 = true ∧ (d.shp n.val).uc.run = true ∧ (d.shp n.val).uc.dueTrap = none ∧ f.remap = false ∧ stored = (d.shp n.val).uc.microStored (d.getI F.SHP_UC_PC_MICRO n.val) ^^^ f.micro.toNat ∧ parityHolds 16 stored = true ∧ word = slice stored 0 16 ∧ slice word 9 3 = 0 ∧ act = (d.shp n.val).uc.nanoStored (slice word 0 9) ^^^ f.nano.toNat ∧ parityHolds 128 act = true ∧ w = Nano.ofWord (slice act 0 128) ∧ w.hold = false ∧ (e.shp n.val).uc.run = true ∧ d.live 0x04 = true) ∧
    (∃ (d : Dev) (n : Fin 4) (f : MicroFetch), d.powered 2 = true ∧ (d.shp n.val).uc.run = true ∧ (d.shp n.val).uc.dueTrap = none ∧ f.remap = true ∧ d.live 0x04 = true) ∧
    (∃ (d : Dev) (n : Fin 4) (f : MicroFetch), d.powered 2 = true ∧ (d.shp n.val).uc.run = true ∧ (d.shp n.val).uc.dueTrap = none ∧ f.remap = false ∧ parityHolds 16 ((d.shp n.val).uc.microStored (d.getI F.SHP_UC_PC_MICRO n.val) ^^^ f.micro.toNat) = false ∧ d.live 0x04 = true) ∧
    (∃ (d : Dev) (n : Fin 4) (f : MicroFetch), d.live 0x04 = true) ∧
    (∃ (d : Dev) (n : Fin 4) (f : MicroFetch) (stored : Nat) (word : Nat) (act : Nat) (w : Nano) (e : Dev), e = ((d.putI F.SHP_UC_PC_NANO n.val (slice word 0 9)).nanoAct n.val w).setUc n.val (fun u => { u with waiting := false, holdRun := 0 }) ∧ d.powered 2 = true ∧ (d.shp n.val).uc.run = true ∧ (d.shp n.val).uc.dueTrap = none ∧ f.remap = false ∧ stored = (d.shp n.val).uc.microStored (d.getI F.SHP_UC_PC_MICRO n.val) ^^^ f.micro.toNat ∧ parityHolds 16 stored = true ∧ word = slice stored 0 16 ∧ slice word 9 3 = 1 ∧ act = (d.shp n.val).uc.nanoStored (slice word 0 9) ^^^ f.nano.toNat ∧ parityHolds 128 act = true ∧ w = Nano.ofWord (slice act 0 128) ∧ w.hold = false ∧ (e.shp n.val).uc.run = true ∧ d.live 0x04 = true) ∧
    (∃ (d : Dev) (n : Fin 4) (f : MicroFetch), d.live 0x04 = true) ∧
    (∃ (d : Dev) (n : Fin 4) (f : MicroFetch) (stored : Nat) (word : Nat) (act : Nat) (w : Nano) (e : Dev), e = ((d.putI F.SHP_UC_PC_NANO n.val (slice word 0 9)).nanoAct n.val w).setUc n.val (fun u => { u with waiting := false, holdRun := 0 }) ∧ d.powered 2 = true ∧ (d.shp n.val).uc.run = true ∧ (d.shp n.val).uc.dueTrap = none ∧ f.remap = false ∧ stored = (d.shp n.val).uc.microStored (d.getI F.SHP_UC_PC_MICRO n.val) ^^^ f.micro.toNat ∧ parityHolds 16 stored = true ∧ word = slice stored 0 16 ∧ slice word 9 3 = 2 ∧ act = (d.shp n.val).uc.nanoStored (slice word 0 9) ^^^ f.nano.toNat ∧ parityHolds 128 act = true ∧ w = Nano.ofWord (slice act 0 128) ∧ w.hold = false ∧ (e.shp n.val).uc.run = true ∧ d.live 0x04 = true) ∧
    (∃ (d : Dev) (n : Fin 4) (f : MicroFetch), d.live 0x04 = true) ∧
    (∃ (d : Dev) (n : Fin 4) (f : MicroFetch) (stored : Nat) (word : Nat) (act : Nat) (w : Nano) (e : Dev), e = ((d.putI F.SHP_UC_PC_NANO n.val (slice word 0 9)).nanoAct n.val w).setUc n.val (fun u => { u with waiting := false, holdRun := 0 }) ∧ d.powered 2 = true ∧ (d.shp n.val).uc.run = true ∧ (d.shp n.val).uc.dueTrap = none ∧ f.remap = false ∧ stored = (d.shp n.val).uc.microStored (d.getI F.SHP_UC_PC_MICRO n.val) ^^^ f.micro.toNat ∧ parityHolds 16 stored = true ∧ word = slice stored 0 16 ∧ slice word 9 3 = 3 ∧ act = (d.shp n.val).uc.nanoStored (slice word 0 9) ^^^ f.nano.toNat ∧ parityHolds 128 act = true ∧ w = Nano.ofWord (slice act 0 128) ∧ w.hold = false ∧ (e.shp n.val).uc.run = true ∧ (e.shp n.val).uc.stack.length < 4 ∧ d.live 0x04 = true) ∧
    (∃ (d : Dev) (n : Fin 4) (f : MicroFetch), d.live 0x04 = true) ∧
    (∃ (d : Dev) (n : Fin 4) (f : MicroFetch) (stored : Nat) (word : Nat) (act : Nat) (w : Nano) (a : Nat) (r : List Nat) (e : Dev), e = ((d.putI F.SHP_UC_PC_NANO n.val (slice word 0 9)).nanoAct n.val w).setUc n.val (fun u => { u with waiting := false, holdRun := 0 }) ∧ d.powered 2 = true ∧ (d.shp n.val).uc.run = true ∧ (d.shp n.val).uc.dueTrap = none ∧ f.remap = false ∧ stored = (d.shp n.val).uc.microStored (d.getI F.SHP_UC_PC_MICRO n.val) ^^^ f.micro.toNat ∧ parityHolds 16 stored = true ∧ word = slice stored 0 16 ∧ slice word 9 3 = 4 ∧ act = (d.shp n.val).uc.nanoStored (slice word 0 9) ^^^ f.nano.toNat ∧ parityHolds 128 act = true ∧ w = Nano.ofWord (slice act 0 128) ∧ w.hold = false ∧ (e.shp n.val).uc.run = true ∧ (e.shp n.val).uc.stack = a :: r ∧ (e.shp n.val).uc.frames = [] ∧ d.live 0x04 = true) ∧
    (∃ (d : Dev) (n : Fin 4) (f : MicroFetch), d.live 0x04 = true) ∧
    (∃ (d : Dev) (n : Fin 4) (f : MicroFetch) (stored : Nat) (word : Nat) (act : Nat) (w : Nano) (t : TrapFrame) (r : List TrapFrame) (e : Dev), e = ((d.putI F.SHP_UC_PC_NANO n.val (slice word 0 9)).nanoAct n.val w).setUc n.val (fun u => { u with waiting := false, holdRun := 0 }) ∧ d.powered 2 = true ∧ (d.shp n.val).uc.run = true ∧ (d.shp n.val).uc.dueTrap = none ∧ f.remap = false ∧ stored = (d.shp n.val).uc.microStored (d.getI F.SHP_UC_PC_MICRO n.val) ^^^ f.micro.toNat ∧ parityHolds 16 stored = true ∧ word = slice stored 0 16 ∧ slice word 9 3 = 6 ∧ act = (d.shp n.val).uc.nanoStored (slice word 0 9) ^^^ f.nano.toNat ∧ parityHolds 128 act = true ∧ w = Nano.ofWord (slice act 0 128) ∧ w.hold = false ∧ (e.shp n.val).uc.run = true ∧ (e.shp n.val).uc.frames = t :: r ∧ (e.shp n.val).uc.stack.length = t.sdepth ∧ d.live 0x04 = true) ∧
    (∃ (d : Dev) (n : Fin 4) (f : MicroFetch), d.live 0x04 = true) ∧
    (∃ (d : Dev) (n : Fin 4) (f : MicroFetch) (stored : Nat) (word : Nat) (act : Nat) (w : Nano) (e : Dev), e = ((d.putI F.SHP_UC_PC_NANO n.val (slice word 0 9)).nanoAct n.val w).setUc n.val (fun u => { u with waiting := false, holdRun := 0 }) ∧ d.powered 2 = true ∧ (d.shp n.val).uc.run = true ∧ (d.shp n.val).uc.dueTrap = none ∧ f.remap = false ∧ stored = (d.shp n.val).uc.microStored (d.getI F.SHP_UC_PC_MICRO n.val) ^^^ f.micro.toNat ∧ parityHolds 16 stored = true ∧ word = slice stored 0 16 ∧ slice word 9 3 = 7 ∧ act = (d.shp n.val).uc.nanoStored (slice word 0 9) ^^^ f.nano.toNat ∧ parityHolds 128 act = true ∧ w = Nano.ofWord (slice act 0 128) ∧ w.hold = false ∧ (e.shp n.val).uc.run = true ∧ d.live 0x04 = true) ∧
    (∃ (d : Dev) (n : Fin 4) (f : MicroFetch), d.live 0x04 = true) ∧
    (∃ (d : Dev) (n : Fin 4) (f : MicroFetch) (stored : Nat) (word : Nat) (act : Nat) (w : Nano) (e : Dev), e = ((d.putI F.SHP_UC_PC_NANO n.val (slice word 0 9)).nanoAct n.val w).setUc n.val (fun u => { u with waiting := false, holdRun := 0 }) ∧ d.powered 2 = true ∧ (d.shp n.val).uc.run = true ∧ (d.shp n.val).uc.dueTrap = none ∧ f.remap = false ∧ stored = (d.shp n.val).uc.microStored (d.getI F.SHP_UC_PC_MICRO n.val) ^^^ f.micro.toNat ∧ parityHolds 16 stored = true ∧ word = slice stored 0 16 ∧ slice word 9 3 = 5 ∧ act = (d.shp n.val).uc.nanoStored (slice word 0 9) ^^^ f.nano.toNat ∧ parityHolds 128 act = true ∧ w = Nano.ofWord (slice act 0 128) ∧ w.hold = false ∧ (e.shp n.val).uc.run = true ∧ (d.putI F.SHP_UC_PC_NANO n.val (slice word 0 9)).microCond n.val w = true ∧ d.live 0x04 = true) ∧
    (∃ (d : Dev) (n : Fin 4) (f : MicroFetch) (stored : Nat) (word : Nat) (act : Nat) (w : Nano) (e : Dev), e = (d.putI F.SHP_UC_PC_NANO n.val (slice word 0 9)).setUc n.val (fun u => { u with waiting := true, holdRun := 0 }) ∧ d.powered 2 = true ∧ (d.shp n.val).uc.run = true ∧ (d.shp n.val).uc.dueTrap = none ∧ f.remap = false ∧ stored = (d.shp n.val).uc.microStored (d.getI F.SHP_UC_PC_MICRO n.val) ^^^ f.micro.toNat ∧ parityHolds 16 stored = true ∧ word = slice stored 0 16 ∧ slice word 9 3 = 5 ∧ act = (d.shp n.val).uc.nanoStored (slice word 0 9) ^^^ f.nano.toNat ∧ parityHolds 128 act = true ∧ w = Nano.ofWord (slice act 0 128) ∧ w.hold = false ∧ (e.shp n.val).uc.run = true ∧ (d.putI F.SHP_UC_PC_NANO n.val (slice word 0 9)).microCond n.val w = false ∧ d.live 0x04 = true) :=
  ⟨⟨{}, 0, ⟨0, 0, false⟩, by decide +kernel⟩,
   ⟨{ shps := [{}, { uc := { run := true, micro := [withParity 16 0], nano := [withParity 128 (0)] } }, {}, {}] }, 1, ⟨0, 0, false⟩, withParity 16 0, slice (withParity 16 0) 0 16, withParity 128 (0), Nano.ofWord (slice (withParity 128 (0)) 0 128), _, rfl, by decide +kernel⟩,
   ⟨{ shps := [{}, { uc := { run := true, micro := [withParity 16 0], nano := [withParity 128 (0)] } }, {}, {}] }, 1, ⟨0, 0, true⟩, by decide +kernel⟩,
   ⟨{ shps := [{}, { uc := { run := true, micro := [withParity 16 0], nano := [withParity 128 (0)] } }, {}, {}] }, 1, ⟨1, 0, false⟩, by decide +kernel⟩,
   ⟨{}, 0, ⟨0, 0, false⟩, by decide +kernel⟩,
   ⟨{ shps := [{}, { uc := { run := true, micro := [withParity 16 512], nano := [withParity 128 (0)] } }, {}, {}] }, 1, ⟨0, 0, false⟩, withParity 16 512, slice (withParity 16 512) 0 16, withParity 128 (0), Nano.ofWord (slice (withParity 128 (0)) 0 128), _, rfl, by decide +kernel⟩,
   ⟨{}, 0, ⟨0, 0, false⟩, by decide +kernel⟩,
   ⟨{ shps := [{}, { uc := { run := true, micro := [withParity 16 1024], nano := [withParity 128 (0)] } }, {}, {}] }, 1, ⟨0, 0, false⟩, withParity 16 1024, slice (withParity 16 1024) 0 16, withParity 128 (0), Nano.ofWord (slice (withParity 128 (0)) 0 128), _, rfl, by decide +kernel⟩,
   ⟨{}, 0, ⟨0, 0, false⟩, by decide +kernel⟩,
   ⟨{ shps := [{}, { uc := { run := true, micro := [withParity 16 1536], nano := [withParity 128 (0)] } }, {}, {}] }, 1, ⟨0, 0, false⟩, withParity 16 1536, slice (withParity 16 1536) 0 16, withParity 128 (0), Nano.ofWord (slice (withParity 128 (0)) 0 128), _, rfl, by decide +kernel⟩,
   ⟨{}, 0, ⟨0, 0, false⟩, by decide +kernel⟩,
   ⟨{ shps := [{}, { uc := { run := true, micro := [withParity 16 2048], nano := [withParity 128 (0)], stack := [7] } }, {}, {}] }, 1, ⟨0, 0, false⟩, withParity 16 2048, slice (withParity 16 2048) 0 16, withParity 128 (0), Nano.ofWord (slice (withParity 128 (0)) 0 128), 7, [], _, rfl, by decide +kernel⟩,
   ⟨{}, 0, ⟨0, 0, false⟩, by decide +kernel⟩,
   ⟨{ shps := [{}, { uc := { run := true, micro := [withParity 16 3072], nano := [withParity 128 (0)], frames := [⟨3, false, true, false, true, 0, 9⟩], sBank := [[], [], []] } }, {}, {}] }, 1, ⟨0, 0, false⟩, withParity 16 3072, slice (withParity 16 3072) 0 16, withParity 128 (0), Nano.ofWord (slice (withParity 128 (0)) 0 128), ⟨3, false, true, false, true, 0, 9⟩, [], _, rfl, by decide +kernel⟩,
   ⟨{}, 0, ⟨0, 0, false⟩, by decide +kernel⟩,
   ⟨{ shps := [{}, { uc := { run := true, micro := [withParity 16 3584], nano := [withParity 128 (0)] } }, {}, {}] }, 1, ⟨0, 0, false⟩, withParity 16 3584, slice (withParity 16 3584) 0 16, withParity 128 (0), Nano.ofWord (slice (withParity 128 (0)) 0 128), _, rfl, by decide +kernel⟩,
   ⟨{}, 0, ⟨0, 0, false⟩, by decide +kernel⟩,
   ⟨{ shps := [{}, { uc := { run := true, micro := [withParity 16 2560], nano := [withParity 128 (0)] } }, {}, {}] }, 1, ⟨0, 0, false⟩, withParity 16 2560, slice (withParity 16 2560) 0 16, withParity 128 0, Nano.ofWord (slice (withParity 128 0) 0 128), _, rfl, by decide +kernel⟩,
   ⟨{ shps := [{}, { uc := { run := true, micro := [withParity 16 2560], nano := [withParity 128 (2 ^ 110)] } }, {}, {}] }, 1, ⟨0, 0, false⟩, withParity 16 2560, slice (withParity 16 2560) 0 16, withParity 128 (2 ^ 110), Nano.ofWord (slice (withParity 128 (2 ^ 110)) 0 128), _, rfl, by decide +kernel⟩⟩

theorem witness_aluOperations :
    (∃ (d : Dev) (n : Fin 4) (f : AluFields), d.live 0x04 = true) ∧
    (∃ (d : Dev) (n : Fin 4) (f : AluFields), d.live 0x04 = true) ∧
    (∃ (d : Dev) (n : Fin 4) (f : AluFields), d.live 0x04 = true) ∧
    (∃ (d : Dev) (n : Fin 4) (f : AluFields), d.live 0x04 = true) ∧
    (∃ (d : Dev) (n : Fin 4) (f : AluFields), d.live 0x04 = true) ∧
    (∃ (d : Dev) (n : Fin 4) (f : AluFields), d.live 0x04 = true) ∧
    (∃ (d : Dev) (n : Fin 4) (f : AluFields), d.live 0x04 = true) ∧
    (∃ (d : Dev) (n : Fin 4) (f : AluFields), d.live 0x04 = true) ∧
    (∃ (d : Dev) (n : Fin 4) (f : AluFields), d.live 0x04 = true) ∧
    (∃ (d : Dev) (n : Fin 4) (f : AluFields), d.live 0x04 = true) ∧
    (∃ (d : Dev) (n : Fin 4) (f : AluFields), d.live 0x04 = true) ∧
    (∃ (d : Dev) (n : Fin 4) (f : AluFields), d.live 0x04 = true) ∧
    (∃ (d : Dev) (n : Fin 4) (f : AluFields), d.live 0x04 = true) ∧
    (∃ (d : Dev) (n : Fin 4) (f : AluFields), d.live 0x04 = true) ∧
    (∃ (d : Dev) (n : Fin 4) (f : AluFields), d.live 0x04 = true) ∧
    (∃ (d : Dev) (n : Fin 4) (f : AluFields), d.live 0x04 = true) :=
  ⟨⟨{}, 0, ⟨0, 0, 0, false, false, false, 0⟩, by decide +kernel⟩,
   ⟨{}, 0, ⟨0, 0, 0, false, false, false, 0⟩, by decide +kernel⟩,
   ⟨{}, 0, ⟨0, 0, 0, false, false, false, 0⟩, by decide +kernel⟩,
   ⟨{}, 0, ⟨0, 0, 0, false, false, false, 0⟩, by decide +kernel⟩,
   ⟨{}, 0, ⟨0, 0, 0, false, false, false, 0⟩, by decide +kernel⟩,
   ⟨{}, 0, ⟨0, 0, 0, false, false, false, 0⟩, by decide +kernel⟩,
   ⟨{}, 0, ⟨0, 0, 0, false, false, false, 0⟩, by decide +kernel⟩,
   ⟨{}, 0, ⟨0, 0, 0, false, false, false, 0⟩, by decide +kernel⟩,
   ⟨{}, 0, ⟨0, 0, 0, false, false, false, 0⟩, by decide +kernel⟩,
   ⟨{}, 0, ⟨0, 0, 0, false, false, false, 0⟩, by decide +kernel⟩,
   ⟨{}, 0, ⟨0, 0, 0, false, false, false, 0⟩, by decide +kernel⟩,
   ⟨{}, 0, ⟨0, 0, 0, false, false, false, 0⟩, by decide +kernel⟩,
   ⟨{}, 0, ⟨0, 0, 0, false, false, false, 0⟩, by decide +kernel⟩,
   ⟨{}, 0, ⟨0, 0, 0, false, false, false, 0⟩, by decide +kernel⟩,
   ⟨{}, 0, ⟨0, 0, 0, false, false, false, 0⟩, by decide +kernel⟩,
   ⟨{}, 0, ⟨0, 0, 0, false, false, false, 0⟩, by decide +kernel⟩⟩

theorem witness_portsAndCounters :
    (∃ (d : Dev) (n : Fin 4) (k : Fin 2) (v : BitVec 32), d.live 0x04 = true) ∧
    (∃ (d : Dev) (n : Fin 4) (v : BitVec 32), d.live 0x04 = true) ∧
    (∃ (d : Dev) (n : Fin 4) (v : BitVec 32), d.live 0x04 = true) ∧
    (∃ (d : Dev) (n : Fin 4) (v : BitVec 32), d.shpState n.val ≠ shpFenced ∧ d.shpState n.val ≠ shpRetracted ∧ d.live 0x04 = true) ∧
    (∃ (d : Dev) (n : Fin 4) (v : BitVec 32), (d.shpState n.val = shpFenced ∨ d.shpState n.val = shpRetracted) ∧ d.live 0x04 = true) ∧
    (∃ (d : Dev) (n : Fin 4) (v : BitVec 32), d.live 0x04 = true) ∧
    (∃ (d : Dev) (n : Fin 4) (v : BitVec 32), d.live 0x04 = true) ∧
    (∃ (d : Dev) (n : Fin 4) (v : BitVec 32), d.live 0x04 = true) ∧
    (∃ (d : Dev) (n : Fin 4) (v : BitVec 32), 0x1101 ≤ v.toNat % 2 ^ 16 ∧ v.toNat % 2 ^ 16 ≤ 0x110F ∧ d.live 0x04 = true) ∧
    (∃ (d : Dev) (n : Fin 4) (v : BitVec 32), d.live 0x04 = true) ∧
    (∃ (d : Dev) (n : Fin 4) (v : BitVec 32), d.live 0x04 = true) ∧
    (∃ (d : Dev) (n : Fin 4) (k : Fin 2) (v : BitVec 32), d.live 0x04 = true) ∧
    (∃ (d : Dev) (n : Fin 4) (k : Fin 2) (v : BitVec 32), d.maGain (d.headNum n.val k.val) ≠ 0 ∧ d.live 0x04 = true) ∧
    (∃ (d : Dev) (n : Fin 4) (k : Fin 4) (imm : BitVec 32), d.live 0x04 = true) ∧
    (∃ (d : Dev) (n : Fin 4), d.live 0x04 = true) ∧
    (∃ (d : Dev) (n : Fin 4), (d.shp n.val).timer ≠ 0 ∧ d.live 0x04 = true) ∧
    (∃ (d : Dev) (n : Fin 4), (d.shp n.val).timer = 0 ∧ d.live 0x04 = true) :=
  ⟨⟨{}, 0, 0, 0, by decide +kernel⟩,
   ⟨{}, 0, 0, by decide +kernel⟩,
   ⟨{}, 0, 0, by decide +kernel⟩,
   ⟨{}, 3, 3#32, by decide +kernel⟩,
   ⟨({} : Dev).putI F.SHP_STAT_STATE 3 9, 3, 3#32, by decide +kernel⟩,
   ⟨{}, 0, 0, by decide +kernel⟩,
   ⟨{}, 0, 0, by decide +kernel⟩,
   ⟨{}, 0, 0, by decide +kernel⟩,
   ⟨{}, 0, 0x110F#32, by decide +kernel⟩,
   ⟨{}, 0, 0, by decide +kernel⟩,
   ⟨{}, 0, 0, by decide +kernel⟩,
   ⟨{}, 0, 0, 0, by decide +kernel⟩,
   ⟨{ cfg := { sections := [⟨0x20, 0, List.replicate 64 1⟩] } }, 0, 0, 5#32, by decide +kernel⟩,
   ⟨{}, 0, 0, 0, by decide +kernel⟩,
   ⟨{}, 0, by decide +kernel⟩,
   ⟨{ shps := [{ timer := 5 }, {}, {}, {}] }, 0, by decide +kernel⟩,
   ⟨{}, 0, by decide +kernel⟩⟩

theorem witness_descriptorsTrapsReloads :
    (∃ (d : Dev) (n : Fin 4) (w : Fin 4), d.live 0x04 = true) ∧
    (∃ (d : Dev) (n : Fin 4), d.live 0x04 = true) ∧
    (∃ (d : Dev) (n : Fin 4), d.offered n.val = none ∧ d.live 0x04 = true) ∧
    (∃ (d : Dev) (n : Fin 4) (p : Piece) (s : Nat) (e1 : Dev) (e2 : Dev) (e : Dev), e1 = d.mapPiece p.id (fun q => { q with stage := .taken }) ∧ e2 = (e1.setTarget n.val (s % 2) (pieceTarget p)).setCh n.val (s % 2) (fun c =>
        { c with moving := true, writes := pieceWrites p, settled := false, settleRun := 0, permit := false }) ∧ e = ((e2.flagI F.SHP_STAT_PAIRED n.val (e1.drv.pieces.any (fun q => q.hold == some (if s % 2 = 0 then s + 1 else s - 1)))).setShp n.val
        (fun x => { x with paired := e1.drv.pieces.any (fun q => q.hold == some (if s % 2 = 0 then s + 1 else s - 1)) })).setBias n.val ∧ d.offered n.val = some p ∧ p.hold = some s ∧ e.headSlot n.val (s % 2) = p.head % 8 ∧ e.headValid n.val (s % 2) = true ∧ e.shpState n.val = shpFollow ∧ d.live 0x04 = true) ∧
    (∃ (d : Dev) (n : Fin 4) (k : Fin 2), d.live 0x04 = true) ∧
    (∃ (d : Dev) (n : Fin 4) (k : Fin 2) (p : Piece), d.heldPiece (2 * n.val + k.val) = some p ∧ p.stage = .taken ∧ p.why.kind ≠ .writePass ∧ d.live 0x04 = true) ∧
    (∃ (d : Dev) (n : Fin 4) (k : Fin 2) (left : BitVec 16), d.live 0x04 = true) ∧
    (∃ (d : Dev) (n : Fin 4) (k : Fin 2) (left : BitVec 16), d.heldPiece (2 * n.val + k.val) = none ∧ d.live 0x04 = true) ∧
    (∃ (d : Dev) (n : Fin 4) (k : Fin 2) (left : BitVec 16) (p : Piece), d.heldPiece (2 * n.val + k.val) = some p ∧ left.toNat = 0 ∧ d.live 0x04 = true) ∧
    (∃ (d : Dev) (n : Fin 4), d.live 0x04 = true) ∧
    (∃ (d : Dev) (n : Fin 4) (k : Nat) (e : Dev), e = d.setUc n.val (fun u => { u with frames := (⟨k, (d.shp n.val).uc.waiting, (d.shp n.val).uc.z, (d.shp n.val).uc.n, (d.shp n.val).uc.v,
        (d.shp n.val).uc.stack.length, d.getI F.SHP_UC_PC_MICRO n.val⟩ : TrapFrame) :: u.frames, latch := withBit u.latch k false, overruns := u.overruns.set k 0, waiting := false }) ∧ d.powered 2 = true ∧ (d.shp n.val).uc.run = true ∧ (d.shp n.val).uc.holdRun = 0 ∧ (d.shp n.val).uc.dueTrap = some k ∧ d.live 0x04 = true) ∧
    (∃ (d : Dev) (n : Fin 4) (o : ReloadOutcome), d.live 0x04 = true) ∧
    (∃ (d : Dev) (n : Fin 4) (o : ReloadOutcome), (d.shp n.val).uc.reloading = true ∧ (d.shp n.val).uc.restarted = false ∧ o = .parity ∧ d.live 0x04 = true) ∧
    (∃ (d : Dev) (n : Fin 4) (o : ReloadOutcome), (d.shp n.val).uc.reloading = true ∧ o = .done ∧ d.copyIntact 0x40 n.val = false ∧ d.live 0x04 = true) :=
  ⟨⟨{}, 0, 0, by decide +kernel⟩,
   ⟨{}, 0, by decide +kernel⟩,
   ⟨{}, 2, by decide +kernel⟩,
   ⟨((({ drv := { pieces := [⟨1, { kind := .read }, 0, 0, 1, 8, 20, [], 0, none, some 2, .offered⟩] } } : Dev).putI F.SHP_STAT_STATE 1 3).putI F.SHP_HEAD_CH0_VALID 1 1), 1, ⟨1, { kind := .read }, 0, 0, 1, 8, 20, [], 0, none, some 2, .offered⟩, 2, _, _, _, rfl, rfl, rfl, by decide +kernel⟩,
   ⟨{}, 0, 0, by decide +kernel⟩,
   ⟨{ drv := { pieces := [⟨1, { kind := .read }, 0, 0, 1, 8, 20, [], 0, none, some 2, .taken⟩] } }, 1, 0, ⟨1, { kind := .read }, 0, 0, 1, 8, 20, [], 0, none, some 2, .taken⟩, by decide +kernel⟩,
   ⟨{}, 0, 0, 0, by decide +kernel⟩,
   ⟨{}, 0, 0, 3#16, by decide +kernel⟩,
   ⟨{ drv := { pieces := [⟨1, { kind := .read }, 0, 0, 1, 8, 20, [], 0, none, some 2, .taken⟩] } }, 1, 0, 0#16, ⟨1, { kind := .read }, 0, 0, 1, 8, 20, [], 0, none, some 2, .taken⟩, by decide +kernel⟩,
   ⟨{}, 0, by decide +kernel⟩,
   ⟨{ shps := [{ uc := { run := true, latch := 8 } }, {}, {}, {}] }, 0, 3, _, rfl, by decide +kernel⟩,
   ⟨{}, 0, .parity, by decide +kernel⟩,
   ⟨{ shps := [{ uc := { reloading := true } }, {}, {}, {}] }, 0, .parity, by decide +kernel⟩,
   ⟨{ shps := [{ uc := { reloading := true } }, {}, {}, {}] }, 0, .done, by decide +kernel⟩⟩

theorem witness_loopsOpenCloseAndTick :
    (∃ (d : Dev) (r : Fin 23) (byCtrl : Bool), d.clk.stopped = false) ∧
    (∃ (d : Dev) (r : Fin 23) (byCtrl : Bool), byCtrl = false ∧ d.loopState r.val = loopOpenSt ∧ d.clk.stopped = false) ∧
    (∃ (d : Dev) (r : Fin 23) (byCtrl : Bool), byCtrl = true ∧ r.val ≤ 6 ∧ d.powered 2 = true ∧ d.clk.stopped = false) ∧
    (∃ (d : Dev) (r : Fin 23) (byCtrl : Bool), byCtrl = true ∧ d.powered 2 = false ∧ d.clk.stopped = false) ∧
    (∃ (d : Dev) (r : Fin 23) (byCtrl : Bool), d.clk.stopped = false) ∧
    (∃ (d : Dev) (r : Fin 23) (byCtrl : Bool), byCtrl = false ∧ d.loopState r.val = loopClosed ∧ d.clk.stopped = false) ∧
    (∃ (d : Dev) (r : Fin 23) (byCtrl : Bool), byCtrl = true ∧ r.val ≤ 6 ∧ d.powered 2 = true ∧ d.clk.stopped = false) ∧
    (∃ (d : Dev) (r : Fin 23) (m : Int) (err : Int) (spareErr : Int), d.live 0x05 = true) ∧
    (∃ (d : Dev) (r : Fin 23) (m : Int) (err : Int) (spareErr : Int), d.powered 2 = true ∧ 3 ≤ r.val ∧ r.val ≤ 6 ∧ d.shpState (r.val - 3) ≠ shpLoading ∧ d.loopState r.val = loopOpenSt ∧ (d.role r.val).closeDue = false ∧ d.patrols r.val = false ∧ d.live 0x05 = true) ∧
    (∃ (d : Dev) (r : Fin 23) (m : Int) (err : Int) (spareErr : Int) (y : Int) (e : Dev) (g : Dev), e = ((d.putI F.LPE_L_STAT_STALE r.val 0).putI F.LPE_L_MEAS_VALUE r.val (ofSigned 32 m)).putI F.LPE_L_OUT_OUT r.val (ofSigned 16 y) ∧ g = e.vcmPeriod r.val ∧ d.powered 2 = true ∧ 3 ≤ r.val ∧ r.val ≤ 6 ∧ d.shpState (r.val - 3) ≠ shpLoading ∧ d.loopState r.val = loopClosed ∧ (d.role r.val).next = some y ∧ d.patrols r.val = false ∧ d.live 0x05 = true) ∧
    (∃ (d : Dev) (r : Fin 23), d.loopState r.val = loopPend) ∧ (∃ (d : Dev) (r : Fin 23), d.loopState r.val = loopClosed) ∧
    (∃ (d : Dev) (r : Fin 23), d.loopState r.val = loopRamping ∧ gap ((toSigned 32 (d.getI F.LPE_L_SETPT_VALUE r.val)).toNat) (d.loopTarget r.val).toNat ≤ (d.loopRate r.val).toNat ∧ 0 ≤ toSigned 32 (d.getI F.LPE_L_SETPT_VALUE r.val) ∧ 0 ≤ d.loopTarget r.val ∧ 0 ≤ d.loopRate r.val) ∧
    (∃ (d : Dev) (r : Fin 23) (m : Int) (err : Int) (spareErr : Int), d.powered 2 = true ∧ 7 ≤ r.val ∧ r.val ≤ 14 ∧ d.loopState r.val = loopClosed ∧ (d.fes (r.val - 7)).clearN = 0 ∧ d.patrols r.val = false ∧ d.live 0x05 = true) ∧
    (∃ (d : Dev) (r : Fin 23) (off : Fin 64) (v : BitVec 32), d.clk.stopped = false) ∧
    (∃ (d : Dev) (r : Fin 23) (off : Fin 64) (v : BitVec 32), d.powered 2 = true ∧ off.val = 0x0C ∧ r.val = 7 ∧ d.loopState r.val = loopOpenSt ∧ d.clk.stopped = false) ∧
    (∃ (d : Dev) (r : Fin 23) (off : Fin 64) (v : BitVec 32), d.powered 2 = true ∧ off.val = 0x0C ∧ r.val = 7 ∧ d.loopState r.val = loopClosed ∧ d.clk.stopped = false) ∧
    (∃ (d : Dev), d.live 0x05 = true) ∧
    (∃ (d : Dev) (k : Nat), d.get F.LPE_STAT_SPARE = 1 ∧ d.lpe.testing = none ∧ 64 ≤ d.lpe.shadowTicks ∧ (List.range 23).find? (fun k => decide (d.get F.LPE_STAT_SPARE_ROLE < k) && !d.bit F.LPE_FENCED_MASK k) = some k ∧ d.live 0x05 = true) ∧
    (∃ (d : Dev), d.get F.LPE_STAT_SPARE = 1 ∧ d.lpe.testing = none ∧ 64 ≤ d.lpe.shadowTicks ∧ d.get F.LPE_STAT_SPARE_ROLE = 22 ∧ d.bit F.LPE_FENCED_MASK 0 = false ∧ d.live 0x05 = true) ∧
    (∃ (d : Dev) (spareOk : Bool) (formerOk : Bool), d.live 0x05 = true) ∧
    (∃ (d : Dev) (spareOk : Bool) (formerOk : Bool) (r : Nat), d.lpe.testing = some r ∧ spareOk = false ∧ d.live 0x05 = true) ∧
    (∃ (d : Dev) (spareOk : Bool) (formerOk : Bool) (r : Nat), d.lpe.testing = some r ∧ spareOk = true ∧ formerOk = true ∧ d.lpe.shadow = none ∧ d.loopState r ≠ loopRamping ∧ d.live 0x05 = true) ∧
    (∃ (d : Dev) (spareOk : Bool) (formerOk : Bool) (r : Nat), d.lpe.testing = some r ∧ spareOk = true ∧ formerOk = false ∧ d.lpe.shadow = none ∧ d.loopState r ≠ loopRamping ∧ d.live 0x05 = true) :=
  ⟨⟨{}, 0, true, by decide +kernel⟩,
   ⟨{}, 22, false, by decide +kernel⟩,
   ⟨{}, 6, true, by decide +kernel⟩,
   ⟨({} : Dev).setBit F.CLK_PD_STAT_OFF 2 true, 7, true, by decide +kernel⟩,
   ⟨{}, 0, true, by decide +kernel⟩,
   ⟨({} : Dev).putI F.LPE_L_STAT_STATE 7 3, 7, false, by decide +kernel⟩,
   ⟨{}, 0, true, by decide +kernel⟩,
   ⟨{}, 0, 0, 0, 0, by decide +kernel⟩,
   ⟨{}, 6, -40, 0, 0, by decide +kernel⟩,
   ⟨({ lpe := { roles := List.replicate 23 { next := some 5 } } } : Dev).putI F.LPE_L_STAT_STATE 3 3, 3, -40, 1, 0, 5, _, _, rfl, rfl, by decide +kernel⟩,
   ⟨({} : Dev).putI F.LPE_L_STAT_STATE 7 1, 7, by decide +kernel⟩, ⟨({} : Dev).putI F.LPE_L_STAT_STATE 7 3, 7, by decide +kernel⟩, ⟨({} : Dev).putI F.LPE_L_STAT_STATE 7 2, 7, by decide +kernel⟩,
   ⟨({} : Dev).putI F.LPE_L_STAT_STATE 7 3, 7, 0, 0, 0, by decide +kernel⟩,
   ⟨{}, 0, 0, 0, by decide +kernel⟩,
   ⟨{}, 7, 0x0C, 0x12345678#32, by decide +kernel⟩,
   ⟨({} : Dev).putI F.LPE_L_STAT_STATE 7 3, 7, 0x0C, 0x12345678#32, by decide +kernel⟩,
   ⟨{}, by decide +kernel⟩,
   ⟨({ lpe := { shadowTicks := 64 } } : Dev).put F.LPE_STAT_SPARE 1, 1, by decide +kernel⟩,
   ⟨(({ lpe := { shadowTicks := 64 } } : Dev).put F.LPE_STAT_SPARE 1).put F.LPE_STAT_SPARE_ROLE 22, by decide +kernel⟩,
   ⟨{}, true, true, by decide +kernel⟩,
   ⟨{ lpe := { testing := some 4 } }, false, true, 4, by decide +kernel⟩,
   ⟨{ lpe := { testing := some 4 } }, true, true, 4, by decide +kernel⟩,
   ⟨{ lpe := { testing := some 4 } }, true, false, 4, by decide +kernel⟩⟩

theorem witness_attemptsStartAndEnd :
    (∃ (d : Dev) (st : Fin 8) (x : AttemptCodes), d.livePort 0x06 (st.val / 2) = true) ∧
    (∃ (d : Dev) (st : Fin 8) (x : AttemptCodes) (p : Piece) (sec : Sec) (d0 : Dev) (d1 : Dev) (d2 : Dev) (d3 : Dev) (e : Dev), d0 = d.mapPiece p.id (fun q => { q with secs := q.secs.drop 1 }) ∧ d1 = d0.setFe st.val (fun f => { f with
        bits := 0, total := 192 + codeBits (d0.zone (d0.zoneOf p.track)).code, dataRead := true, step := if p.rung = 1 then p.step else 0, hold := 0,
        acquiring := false, eraseRun := 0, clampRun := 0 }) ∧ d2 = d1.sectorSeeds st.val p.head p.track ∧ d3 = d2.setFe st.val (fun f => { f with snap := some (d2.adaptive st.val) }) ∧ e = (((d3.setBit F.RCH_STAT_READING st.val true).incI F.RCH_S_SECTORS_COUNT st.val).putI F.RCH_S_STAT_PHASE st.val phTrack).takeSlot st.val ⟨sec, p.head, p.track, p.why, p.rung, p.step⟩ ∧ d.sectorToRead st.val = some (p, sec) ∧ d.mayAttempt st.val = true ∧ x.synthLost = false ∧ d.livePort 0x06 (st.val / 2) = true) ∧
    (∃ (d : Dev) (st : Fin 8) (x : AttemptCodes) (p : Piece) (sec : Sec) (d0 : Dev) (d1 : Dev) (d2 : Dev) (d3 : Dev) (e : Dev), d0 = d.mapPiece p.id (fun q => { q with secs := q.secs.drop 1 }) ∧ d1 = d0.setFe st.val (fun f => { f with
        bits := 0, total := 192 + codeBits (d0.zone (d0.zoneOf p.track)).code, dataRead := true, step := if p.rung = 1 then p.step else 0, hold := 0,
        acquiring := false, eraseRun := 0, clampRun := 0 }) ∧ d2 = d1.sectorSeeds st.val p.head p.track ∧ d3 = d2.setFe st.val (fun f => { f with snap := some (d2.adaptive st.val) }) ∧ e = (((d3.setBit F.RCH_STAT_READING st.val true).incI F.RCH_S_SECTORS_COUNT st.val).putI F.RCH_S_STAT_PHASE st.val phTrack).takeSlot st.val ⟨sec, p.head, p.track, p.why, p.rung, p.step⟩ ∧ d.sectorToRead st.val = some (p, sec) ∧ d.mayAttempt st.val = true ∧ x.synthLost = true ∧ (e.fes st.val).lossRun = 0 ∧ d.livePort 0x06 (st.val / 2) = true) ∧
    (∃ (d : Dev) (st : Fin 8) (x : AttemptCodes), (d.sectorToRead st.val = none ∨ d.mayAttempt st.val = false) ∧ d.livePort 0x06 (st.val / 2) = true) ∧
    (∃ (d : Dev) (st : Fin 8) (parity : Bool), d.livePort 0x06 (st.val / 2) = true) ∧
    (∃ (d : Dev) (st : Fin 8) (parity : Bool), (d.reading st.val = false ∨ (d.fes st.val).bits < (d.fes st.val).total) ∧ d.livePort 0x06 (st.val / 2) = true) ∧
    (∃ (d : Dev) (st : Fin 8) (parity : Bool) (q : Nat) (d1 : Dev) (d2 : Dev), d1 = (d.setBit F.RCH_STAT_READING st.val false).putI F.RCH_S_STAT_PHASE st.val phIdle ∧ d2 = d1.setSlots q ((d1.detSlice q).slots.map (fun (a : Attempt) => if a.stream == st.val && !a.ended then { a with ended := true } else a)) ∧ d.reading st.val = true ∧ (d.fes st.val).total ≤ (d.fes st.val).bits ∧ d1.sliceOf st.val = some q ∧ 10 * (at' (d2.fes st.val).lanes 0 {}).full < 9 * (d2.fes st.val).bits ∧ 10 * (at' (d2.fes st.val).lanes 1 {}).full < 9 * (d2.fes st.val).bits ∧ (at' (d2.fes st.val).lanes 0 {}).same = false ∧ (at' (d2.fes st.val).lanes 1 {}).same = false ∧ parity = false ∧ d.livePort 0x06 (st.val / 2) = true) ∧
    (∃ (d : Dev) (st : Fin 8) (parity : Bool) (q : Nat) (d1 : Dev) (d2 : Dev), d1 = (d.setBit F.RCH_STAT_READING st.val false).putI F.RCH_S_STAT_PHASE st.val phIdle ∧ d2 = d1.setSlots q ((d1.detSlice q).slots.map (fun (a : Attempt) => if a.stream == st.val && !a.ended then { a with ended := true } else a)) ∧ d.reading st.val = true ∧ (d.fes st.val).total ≤ (d.fes st.val).bits ∧ d1.sliceOf st.val = some q ∧ 10 * (at' (d2.fes st.val).lanes 0 {}).full < 9 * (d2.fes st.val).bits ∧ 10 * (at' (d2.fes st.val).lanes 1 {}).full < 9 * (d2.fes st.val).bits ∧ (at' (d2.fes st.val).lanes 0 {}).same = true ∧ d.livePort 0x06 (st.val / 2) = true) ∧
    (∃ (d : Dev) (st : Fin 8) (parity : Bool) (q : Nat) (d1 : Dev) (d2 : Dev), d1 = (d.setBit F.RCH_STAT_READING st.val false).putI F.RCH_S_STAT_PHASE st.val phIdle ∧ d2 = d1.setSlots q ((d1.detSlice q).slots.map (fun (a : Attempt) => if a.stream == st.val && !a.ended then { a with ended := true } else a)) ∧ d.reading st.val = true ∧ (d.fes st.val).total ≤ (d.fes st.val).bits ∧ d1.sliceOf st.val = some q ∧ 9 * (d2.fes st.val).bits ≤ 10 * (at' (d2.fes st.val).lanes 0 {}).full ∧ 10 * (at' (d2.fes st.val).lanes 1 {}).full < 9 * (d2.fes st.val).bits ∧ at' (d2.fes st.val).satRun 0 0 = 2 ∧ d.livePort 0x06 (st.val / 2) = true) ∧
    (∃ (d : Dev) (st : Fin 8) (cause : Fin 8), d.livePort 0x06 (st.val / 2) = true) ∧
    (∃ (d : Dev) (st : Fin 8) (cause : Fin 8), d.reading st.val = false ∧ d.livePort 0x06 (st.val / 2) = true) ∧
    (∃ (d : Dev) (st : Fin 8) (cause : Fin 8) (q : Nat) (a : Attempt) (d1 : Dev) (d2 : Dev) (d3 : Dev), d1 = (((((d.setBit F.RCH_STAT_READING st.val false).putI F.RCH_S_STAT_PHASE st.val phIdle).putI F.RCH_S_STAT_LAST_ABANDON st.val (cause.val + 1)).incI
        F.RCH_S_ABANDON_COUNT st.val).put F.RCH_INT_STAT_ABANDON 1).post 0x2002 [st.val, cause.val + 1, (d.fes st.val).bits] ∧ d2 = (d1.restoreSnap st.val 1).pieceDone st.val ∧ d3 = d2.setSlots q ((d2.detSlice q).slots.filter (fun (x : Attempt) => x.ended || x.stream != st.val)) ∧ d.reading st.val = true ∧ d2.sliceOf st.val = some q ∧ (d2.detSlice q).slots.find? (fun (a : Attempt) => !a.ended && a.stream == st.val) = some a ∧ d.livePort 0x06 (st.val / 2) = true) :=
  ⟨⟨{}, 0, ⟨[], [], false⟩, by decide +kernel⟩,
   ⟨(({ drv := { pieces := [⟨5, { kind := .read }, 0, 0, 1, 8, 20, [⟨77, 1, 0, 3⟩], 0, none, some 2, .ready⟩] } } : Dev).put F.DET_XBAR_SLICE_2 2), 2, ⟨[], [], false⟩, ⟨5, { kind := .read }, 0, 0, 1, 8, 20, [⟨77, 1, 0, 3⟩], 0, none, some 2, .ready⟩, ⟨77, 1, 0, 3⟩, _, _, _, _, _, rfl, rfl, rfl, rfl, rfl, by decide +kernel⟩,
   ⟨(({ drv := { pieces := [⟨5, { kind := .read }, 0, 0, 1, 8, 20, [⟨77, 1, 0, 3⟩], 0, none, some 2, .ready⟩] } } : Dev).put F.DET_XBAR_SLICE_2 2), 2, ⟨[], [], true⟩, ⟨5, { kind := .read }, 0, 0, 1, 8, 20, [⟨77, 1, 0, 3⟩], 0, none, some 2, .ready⟩, ⟨77, 1, 0, 3⟩, _, _, _, _, _, rfl, rfl, rfl, rfl, rfl, by decide +kernel⟩,
   ⟨{}, 2, ⟨[], [], false⟩, by decide +kernel⟩,
   ⟨{}, 0, true, by decide +kernel⟩,
   ⟨{}, 2, true, by decide +kernel⟩,
   ⟨(({ fe := [{}, {}, { bits := 1000, total := 1000, lanes := [{ same := false }, { same := false }] }, {}, {}, {}, {}, {}] } : Dev).setBit F.RCH_STAT_READING 2 true).put F.DET_XBAR_SLICE_2 2, 2, false, 2, _, _, rfl, rfl, by decide +kernel⟩,
   ⟨(({ fe := [{}, {}, { bits := 1000, total := 1000, lanes := [{ same := true }, { same := false }] }, {}, {}, {}, {}, {}] } : Dev).setBit F.RCH_STAT_READING 2 true).put F.DET_XBAR_SLICE_2 2, 2, false, 2, _, _, rfl, rfl, by decide +kernel⟩,
   ⟨(({ fe := [{}, {}, { bits := 1000, total := 1000, lanes := [{ full := 900 }, { same := false }], satRun := [2, 0] }, {}, {}, {}, {}, {}] } : Dev).setBit F.RCH_STAT_READING 2 true).put F.DET_XBAR_SLICE_2 2, 2, false, 2, _, _, rfl, rfl, by decide +kernel⟩,
   ⟨{}, 0, 0, by decide +kernel⟩,
   ⟨{}, 7, 4, by decide +kernel⟩,
   ⟨((({ det := { slices := [{}, {}, { slots := [{ stream := 2, op := ⟨⟨77, 1, 0, 3⟩, 8, 20, { kind := .read }, 0, 0⟩ }] }] } } : Dev).setBit F.RCH_STAT_READING 2 true).put F.DET_XBAR_SLICE_2 2), 2, 2, 2, { stream := 2, op := ⟨⟨77, 1, 0, 3⟩, 8, 20, { kind := .read }, 0, 0⟩ }, _, _, _, rfl, rfl, rfl, by decide +kernel⟩⟩

theorem witness_flagsWindowsAndStreamWrites :
    (∃ (d : Dev) (st : Fin 8) (x : BitCodes), d.livePort 0x06 (st.val / 2) = true) ∧
    (∃ (d : Dev) (st : Fin 8) (x : BitCodes), d.reading st.val = false ∧ d.livePort 0x06 (st.val / 2) = true) ∧
    (∃ (d : Dev) (st : Fin 8) (x : BitCodes), d.livePort 0x06 (st.val / 2) = true) ∧
    (∃ (d : Dev) (st : Fin 8) (x : BitCodes), d.getI F.RCH_S_STAT_PHASE st.val ≠ phTrack ∧ d.livePort 0x06 (st.val / 2) = true) ∧
    (∃ (d : Dev) (st : Fin 8) (x : BitCodes), d.livePort 0x06 (st.val / 2) = true) ∧
    (∃ (d : Dev) (st : Fin 8) (x : BitCodes) (a : Int) (b : Int) (plus : Bool), x = ⟨[a], [b], [plus]⟩ ∧ d.livePort 0x06 (st.val / 2) = true) ∧
    (∃ (d : Dev) (s : Fin 8), d.getI F.RCH_S_STAT_PHASE s.val ≠ phServo) ∧
    (∃ (d e : Dev) (s : Fin 8), e = (d.putI F.RCH_S_STAT_TA_B s.val 0).post 0x2003 [s.val, 1, 9]) ∧
    (∃ (d : Dev) (s : Fin 8) (l : Fin 2), d.onI (flagField true l.val) s.val = false ∧ 16 ≤ (d.fes s.val).seen ∧
      16 * d.taThr s.val < (sumInt ((at' (d.fes s.val).lanes l.val {}).hist.take 16)).natAbs ∧ (at' (d.fes s.val).lanes l.val {}).ta.past = 3 ∧
      l.val < (d.fes s.val).lanes.length ∧ s.val < d.fe.length) ∧
    (∃ (d : Dev) (s : Nat), s < d.fe.length) ∧
    (∃ (d : Dev) (s : Fin 8) (blk : List (Int × Int)) (g : Int), g = (sumInt (blk.map (fun x => x.1 * x.2))).tdiv (2 ^ d.getI F.RCH_S_MU_MU_G s.val : Nat) ∧
      0 ≤ (d.getI F.RCH_S_LANE_AFE_GAIN (2 * s.val) : Int) - g ∧ (d.getI F.RCH_S_LANE_AFE_GAIN (2 * s.val) : Int) - g ≤ 255) ∧
    (∃ (d : Dev) (st : Fin 8), d.livePort 0x06 (st.val / 2) = true) ∧
    (∃ (d : Dev) (st : Fin 8), d.powered (3 + st.val / 2) = true ∧ d.getI F.RCH_S_STAT_PHASE st.val ≠ phServo ∧ d.getI F.RCH_S_STAT_PHASE st.val ≠ phFenced ∧ d.gateOn st.val = false ∧ d.flagged st.val = false ∧ d.livePort 0x06 (st.val / 2) = true) ∧
    (∃ (d : Dev) (st : Fin 8), d.livePort 0x06 (st.val / 2) = true) ∧
    (∃ (d : Dev) (st : Fin 8), d.getI F.RCH_S_STAT_PHASE st.val = phServo ∧ d.reading st.val = true ∧ d.livePort 0x06 (st.val / 2) = true) ∧
    (∃ (d : Dev) (st : Fin 8), d.getI F.RCH_S_STAT_PHASE st.val = phServo ∧ d.reading st.val = false ∧ d.livePort 0x06 (st.val / 2) = true) ∧
    (∃ (d : Dev) (st : Fin 8), d.clk.stopped = false) ∧
    (∃ (d : Dev) (st : Fin 8), d.powered (3 + st.val / 2) = true ∧ d.clk.stopped = false) ∧
    (∃ (d : Dev) (st : Fin 8), d.clk.stopped = false) ∧
    (∃ (d : Dev) (st : Fin 8), d.powered (3 + st.val / 2) = true ∧ d.streamFenced st.val = false ∧ d.clk.stopped = false) ∧
    (∃ (d : Dev) (st : Fin 8), d.powered (3 + st.val / 2) = false ∧ d.clk.stopped = false) ∧
    (∃ (d : Dev) (st : Fin 8) (off : Fin 256) (v : BitVec 32), d.clk.stopped = false) ∧
    (∃ (d : Dev) (st : Fin 8) (off : Fin 256) (v : BitVec 32), st = 3 ∧ off = 0x18 ∧ d.powered 4 = true ∧ d.getI F.RCH_S_STAT_PHASE 3 ≠ phIdle ∧ d.clk.stopped = false) :=
  ⟨⟨{}, 0, ⟨[], [], []⟩, by decide +kernel⟩,
   ⟨{}, 2, ⟨[3], [4], [true]⟩, by decide +kernel⟩,
   ⟨{}, 0, ⟨[], [], []⟩, by decide +kernel⟩,
   ⟨{}, 2, ⟨[3], [4], [true]⟩, by decide +kernel⟩,
   ⟨{}, 0, ⟨[], [], []⟩, by decide +kernel⟩,
   ⟨{}, 2, ⟨[3], [4], [true]⟩, 3, 4, true, by decide +kernel⟩,
   ⟨{}, 0, by decide +kernel⟩,
   ⟨{}, _, 0, rfl⟩,
   ⟨{ fe := [{ seen := 16, lanes := [{ hist := List.replicate 16 63, ta := ⟨3, 0, 0⟩ }] }] }, 0, 0, by decide +kernel⟩,
   ⟨{}, 7, by decide⟩,
   ⟨{}, 0, [(-3, 20)], _, rfl, by decide +kernel⟩,
   ⟨{}, 0, by decide +kernel⟩,
   ⟨{}, 5, by decide +kernel⟩,
   ⟨{}, 0, by decide +kernel⟩,
   ⟨(({} : Dev).setBit F.RCH_STAT_READING 2 true).putI F.RCH_S_STAT_PHASE 2 5, 2, by decide +kernel⟩,
   ⟨({} : Dev).putI F.RCH_S_STAT_PHASE 2 5, 2, by decide +kernel⟩,
   ⟨{}, 0, by decide +kernel⟩,
   ⟨{}, 7, by decide +kernel⟩,
   ⟨{}, 0, by decide +kernel⟩,
   ⟨{}, 7, by decide +kernel⟩,
   ⟨({} : Dev).setBit F.CLK_PD_STAT_OFF 6 true, 7, by decide +kernel⟩,
   ⟨{}, 0, 0, 0, by decide +kernel⟩,
   ⟨({} : Dev).putI F.RCH_S_STAT_PHASE 3 4, 3, 0x18, 5#32, by decide +kernel⟩⟩

theorem witness_slicesFrameDecodeAndTest :
    (∃ (d : Dev) (q : Fin 9), d.live 0x07 = true) ∧
    (∃ (d : Dev) (q : Fin 9), d.sliceState q.val ≠ slFailed ∧ (d.detSlice q.val).slots.find? (fun (a : Attempt) => a.start.isNone) = none ∧ d.live 0x07 = true) ∧
    (∃ (d : Dev) (q : Fin 9) (a : Attempt), (d.detSlice q.val).slots.find? (fun (a : Attempt) => a.start.isNone) = some a ∧ a.words.length < 224 ∧ d.live 0x07 = true) ∧
    (∃ (d : Dev) (q : Fin 9) (a : Attempt) (ys : List Int) (bits : List Bool) (m : Marks) (e1 : Dev) (e : Dev), e1 = (((((d.putI F.DET_Q_FRAME_RESULT q.val 5).putI F.DET_Q_NSCALE_NSCALE q.val (noiseScale (d.target5 a.stream) (intAt ys))).putI F.DET_Q_FRAME_SM1_OFF q.val 0x80).putI
        F.DET_Q_FRAME_SM2_OFF q.val 0x80).putI F.DET_Q_FRAME_SM1_DIST q.val (min 15 m.d1)).putI F.DET_Q_FRAME_SM2_DIST q.val (min 15 m.d2) ∧ e = (e1.incI F.DET_Q_SYNC_WIDE q.val).post 0x2103 [a.stream, a.op.head, a.op.track] ∧ d.powered 7 = true ∧ d.sliceState q.val ≠ slFailed ∧ (d.detSlice q.val).slots.find? (fun (a : Attempt) => a.start.isNone) = some a ∧ a.op.rung ≠ 1 ∧ 224 ≤ a.words.length ∧ ys = (a.words.reverse.take 224).map (fun w => sampleY (storedSample w)) ∧ bits = hardDecisions (branchOuts (d.target5 a.stream)) (List.replicate 16 ⟨0, []⟩) ys ∧ (findMarks bits (d.policy 0x2107 8) (d.policy 0x2106 2)).start = none ∧ findMarks bits (d.policy 0x2108 32) (d.policy 0x2106 2) = m ∧ m.o1 = none ∧ m.o2 = none ∧ d.live 0x07 = true) ∧
    (∃ (d : Dev) (q : Fin 9) (fault : DecodeFault), d.live 0x07 = true) ∧
    (∃ (d : Dev) (q : Fin 9) (fault : DecodeFault) (a : Attempt) (b : Attempt) (l : List Attempt) (p : GlobalPass) (n : Nat) (e : Dev), e = (d.setSlots q.val (b :: l)).decodeShown q.val a.stream a.op (p.ends a.op b.locals) b.globals b.locals (judge a.op (p.ends a.op b.locals) b.globals (d.attemptCap a)) ∧ (d.detSlice q.val).slots = a :: l ∧ d.powered 7 = true ∧ d.sliceState q.val ≠ slFailed ∧ a.ended = true ∧ a.start = some n ∧ p = d.globalIter a.stream a.op (a.words.reverse.map storedSample).toArray a.nscale n a.apriori ∧ b = { a with globals := a.globals + 1, locals := a.locals + p.locals, apriori := p.apriori } ∧ a.op.why.kind ≠ .verifyRead ∧ fault = .none ∧ d.live 0x07 = true) ∧
    (∃ (d : Dev) (q : Fin 9) (fault : DecodeFault) (a : Attempt) (b : Attempt) (l : List Attempt) (p : GlobalPass) (n : Nat) (e : Dev), e = (d.setSlots q.val (b :: l)).decodeShown q.val a.stream a.op (p.ends a.op b.locals) b.globals b.locals (judge a.op (p.ends a.op b.locals) b.globals (d.attemptCap a)) ∧ (d.detSlice q.val).slots = a :: l ∧ d.powered 7 = true ∧ d.sliceState q.val ≠ slFailed ∧ a.ended = true ∧ a.start = some n ∧ p = d.globalIter a.stream a.op (a.words.reverse.map storedSample).toArray a.nscale n a.apriori ∧ b = { a with globals := a.globals + 1, locals := a.locals + p.locals, apriori := p.apriori } ∧ a.op.why.kind ≠ .verifyRead ∧ fault = .parity ∧ d.live 0x07 = true) ∧
    (∃ (d : Dev) (st : Fin 8) (fault : DecodeFault), d.live 0x07 = true) ∧
    (∃ (d : Dev) (st : Fin 8) (fault : DecodeFault) (q : Nat) (a : Attempt) (b : Attempt) (l : List Attempt) (p : GlobalPass) (n : Nat) (e : Dev), e = (d.setSlots q (b :: l)).decodeShown q a.stream a.op (p.ends a.op b.locals) b.globals b.locals (judge a.op (p.ends a.op b.locals) b.globals (d.attemptCap a)) ∧ d.sliceOf st.val = some q ∧ (d.detSlice q).slots = a :: l ∧ d.powered 7 = true ∧ d.sliceState q ≠ slFailed ∧ a.ended = true ∧ a.start = some n ∧ p = d.globalIter a.stream a.op (a.words.reverse.map storedSample).toArray a.nscale n a.apriori ∧ b = { a with globals := a.globals + 1, locals := a.locals + p.locals, apriori := p.apriori } ∧ a.op.why.kind = .verifyRead ∧ fault = .none ∧ d.live 0x07 = true) ∧
    (∃ (d : Dev) (st : Fin 8) (fault : DecodeFault) (q : Nat) (a : Attempt) (l : List Attempt), d.sliceOf st.val = some q ∧ (d.detSlice q).slots = a :: l ∧ a.op.why.kind ≠ .verifyRead ∧ d.live 0x07 = true) ∧
    (∃ (op : ReadOp) (x : DecodePass) (g cap : Nat), judge op x g cap = .released) ∧
    (∃ x : DecodePass, x.satisfied = false) ∧
    (∃ (d e : Dev) (a : Attempt), a.op.why.kind ≠ .verifyRead ∧ e = d.setSlots 2 ((d.detSlice 2).slots.filter (fun y => y != a))) ∧
    (∃ (d : Dev), d.live 0x07 = true) ∧
    (∃ (d : Dev) (j : Job) (q : Nat), d.powered 7 = true ∧ d.det.jobs.find? (fun (j : Job) => j.slice.isNone) = some j ∧ d.offlineSlice = some q ∧ d.live 0x07 = true) ∧
    (∃ (d : Dev) (q : Fin 9) (fault : DecodeFault), d.live 0x07 = true) ∧
    (∃ (d : Dev) (q : Fin 9) (fault : DecodeFault) (j : Job) (r : DecodePass × Nat) (v : Judged) (e : Dev), e = (d.decodeShown q.val j.stream j.op r.1 r.2 r.1.locals v).jobEnds j q.val ∧ d.det.jobs.find? (fun (j : Job) => j.slice == some q.val) = some j ∧ d.powered 7 = true ∧ d.sliceState q.val = slOffline ∧ j.rung2 = false ∧ fault = .none ∧ d.jobDecode j = r ∧ judge j.op r.1 r.2 0 = v ∧ d.live 0x07 = true) ∧
    (∃ (d : Dev) (q : Fin 9) (fault : DecodeFault), d.det.jobs.find? (fun (j : Job) => j.slice == some q.val) = none ∧ d.live 0x07 = true) ∧
    (∃ (d : Dev) (j : Job), j.rung2 = false ∧ d.det.sets = []) ∧
    (∃ (d : Dev) (q : Fin 9), d.live 0x07 = true) ∧
    (∃ (d : Dev) (q : Fin 9), d.powered 7 = true ∧ d.sliceState q.val ≠ slFailed ∧ d.live 0x07 = true) ∧
    (∃ (d : Dev) (q : Fin 9), d.clk.stopped = false) ∧
    (∃ (d : Dev) (q : Fin 9), d.powered 7 = true ∧ d.sliceState q.val ≠ slFailed ∧ d.clk.stopped = false) ∧
    (∃ (d : Dev) (q : Fin 9) (right : Bool), d.live 0x07 = true) ∧
    (∃ (d : Dev) (q : Fin 9) (right : Bool) (e : Dev), e = ((({ d with det := { d.det with slices := d.det.slices.modify q.val (fun (x : Slice) => { x with katDue := false }) } } : Dev).putI F.DET_Q_KAT_AGE q.val 0).showSlice q.val) ∧ d.powered 7 = true ∧ d.sliceState q.val = slKat ∧ d.live 0x07 = true) ∧
    (∃ (d : Dev) (q : Fin 9), d.clk.stopped = false) ∧
    (∃ (d : Dev) (q : Fin 9), d.powered 7 = true ∧ d.clk.stopped = false) ∧
    (∃ (d : Dev) (q : Fin 9), d.powered 7 = false ∧ d.clk.stopped = false) :=
  ⟨⟨{}, 0, by decide +kernel⟩,
   ⟨{}, 8, by decide +kernel⟩,
   ⟨{ det := { slices := [{}, {}, { slots := [{ stream := 2, op := ⟨⟨77, 1, 0, 3⟩, 8, 20, { kind := .read }, 0, 0⟩ }] }, {}, {}, {}, {}, {}, {}], jobs := [] } }, 2, { stream := 2, op := ⟨⟨77, 1, 0, 3⟩, 8, 20, { kind := .read }, 0, 0⟩ }, by decide +kernel⟩,
   ⟨{ det := { slices := [{}, {}, { slots := [{ stream := 2, op := ⟨⟨77, 1, 0, 3⟩, 8, 20, { kind := .read }, 0, 0⟩, words := List.replicate 224 0 }] }, {}, {}, {}, {}, {}, {}], jobs := [] } }, 2, { stream := 2, op := ⟨⟨77, 1, 0, 3⟩, 8, 20, { kind := .read }, 0, 0⟩, words := List.replicate 224 0 }, _, _, _, _, _, rfl, rfl, by decide +kernel, by decide +kernel, rfl, by decide, by decide +kernel, rfl, rfl, by decide +kernel, rfl, by decide +kernel, by decide +kernel, by decide +kernel⟩,
   ⟨{}, 0, .none, by decide +kernel⟩,
   ⟨{ det := { slices := [{}, {}, { slots := [{ stream := 2, op := ⟨⟨77, 1, 0, 3⟩, 8, 20, { kind := .read }, 0, 0⟩, ended := true, start := some 160 }] }, {}, {}, {}, {}, {}, {}], jobs := [] } }, 2, .none, { stream := 2, op := ⟨⟨77, 1, 0, 3⟩, 8, 20, { kind := .read }, 0, 0⟩, ended := true, start := some 160 }, _, [], _, 160, _, rfl, by decide +kernel, by decide +kernel, by decide +kernel, rfl, rfl, rfl, rfl, by decide, rfl, by decide +kernel⟩,
   ⟨{ det := { slices := [{}, {}, { slots := [{ stream := 2, op := ⟨⟨77, 1, 0, 3⟩, 8, 20, { kind := .read }, 0, 0⟩, ended := true, start := some 160 }] }, {}, {}, {}, {}, {}, {}], jobs := [] } }, 2, .parity, { stream := 2, op := ⟨⟨77, 1, 0, 3⟩, 8, 20, { kind := .read }, 0, 0⟩, ended := true, start := some 160 }, _, [], _, 160, _, rfl, by decide +kernel, by decide +kernel, by decide +kernel, rfl, rfl, rfl, rfl, by decide, rfl, by decide +kernel⟩,
   ⟨{}, 0, .none, by decide +kernel⟩,
   ⟨({ det := { slices := [{}, {}, { slots := [{ stream := 2, op := ⟨⟨77, 1, 0, 3⟩, 8, 20, { kind := .verifyRead, verifies := some (2, 5) }, 0, 0⟩, ended := true, start := some 160 }] }, {}, {}, {}, {}, {}, {}], jobs := [] } } : Dev).put F.DET_XBAR_SLICE_2 2, 2, .none, 2, { stream := 2, op := ⟨⟨77, 1, 0, 3⟩, 8, 20, { kind := .verifyRead, verifies := some (2, 5) }, 0, 0⟩, ended := true, start := some 160 }, _, [], _, 160, _, rfl, by decide +kernel, by decide +kernel, by decide +kernel, by decide +kernel, rfl, rfl, rfl, rfl, by decide, rfl, by decide +kernel⟩,
   ⟨({ det := { slices := [{}, {}, { slots := [{ stream := 2, op := ⟨⟨77, 1, 0, 3⟩, 8, 20, { kind := .read }, 0, 0⟩, ended := true, start := some 160 }] }, {}, {}, {}, {}, {}, {}], jobs := [] } } : Dev).put F.DET_XBAR_SLICE_2 2, 2, .none, 2, { stream := 2, op := ⟨⟨77, 1, 0, 3⟩, 8, 20, { kind := .read }, 0, 0⟩, ended := true, start := some 160 }, [], by decide +kernel⟩,
   ⟨⟨⟨77, 0, 0, 3⟩, 8, 20, { kind := .read }, 0, 0⟩, ⟨true, 0, 0, []⟩, 1, 8, by decide +kernel⟩,
   ⟨⟨false, 1, 4, []⟩, rfl⟩,
   ⟨{}, _, { stream := 2, op := ⟨⟨77, 1, 0, 3⟩, 8, 20, { kind := .read }, 0, 0⟩, ended := true, start := some 160 }, by decide, rfl⟩,
   ⟨{}, by decide +kernel⟩,
   ⟨{ det := { slices := [{}, {}, { slots := [{ stream := 2, op := ⟨⟨77, 1, 0, 3⟩, 8, 20, { kind := .read }, 0, 0⟩, ended := true, start := some 160 }] }, {}, {}, {}, {}, {}, {}], jobs := [{ id := 4, stream := 2, op := ⟨⟨77, 1, 0, 3⟩, 8, 20, { kind := .read }, 0, 0⟩, rung2 := false }] } }, { id := 4, stream := 2, op := ⟨⟨77, 1, 0, 3⟩, 8, 20, { kind := .read }, 0, 0⟩, rung2 := false }, 8, by decide +kernel⟩,
   ⟨{}, 0, .none, by decide +kernel⟩,
   ⟨({ det := { slices := [{}, {}, { slots := [{ stream := 2, op := ⟨⟨77, 1, 0, 3⟩, 8, 20, { kind := .read }, 0, 0⟩, ended := true, start := some 160 }] }, {}, {}, {}, {}, {}, {}], jobs := [{ id := 4, stream := 2, op := ⟨⟨77, 1, 0, 3⟩, 8, 20, { kind := .read }, 0, 0⟩, rung2 := false, slice := some 8 }] } } : Dev).putI F.DET_Q_STAT_STATE 8 4, 8, .none, { id := 4, stream := 2, op := ⟨⟨77, 1, 0, 3⟩, 8, 20, { kind := .read }, 0, 0⟩, rung2 := false, slice := some 8 }, (⟨false, 0, 0, []⟩, 0), .failed, _, rfl, by decide +kernel⟩,
   ⟨{}, 3, .none, by decide +kernel⟩,
   ⟨{}, { id := 4, stream := 2, op := ⟨⟨77, 1, 0, 3⟩, 8, 20, { kind := .read }, 0, 0⟩, rung2 := false, slice := some 8 }, rfl, rfl⟩,
   ⟨{}, 0, by decide +kernel⟩,
   ⟨{}, 0, by decide +kernel⟩,
   ⟨{}, 0, by decide +kernel⟩,
   ⟨{}, 0, by decide +kernel⟩,
   ⟨{}, 0, true, by decide +kernel⟩,
   ⟨({} : Dev).putI F.DET_Q_STAT_STATE 3 5, 3, false, _, rfl, by decide +kernel⟩,
   ⟨{}, 0, by decide +kernel⟩,
   ⟨{}, 8, by decide +kernel⟩,
   ⟨({} : Dev).setBit F.CLK_PD_STAT_OFF 7 true, 8, by decide +kernel⟩⟩

theorem witness_channelsWriteSectors :
    (∃ (d : Dev) (st : Fin 8), d.livePort 0x08 (st.val / 2) = true) ∧
    (∃ (d : Dev) (st : Fin 8) (x : WSector) (l : List WSector), d.powered (3 + st.val / 2) = true ∧ (d.wchan st.val).cur = none ∧ (d.wchan st.val).queue = x :: l ∧ d.inhibited = true ∧ d.livePort 0x08 (st.val / 2) = true) ∧
    (∃ (d : Dev) (st : Fin 8) (x : WSector) (l : List WSector), d.powered (3 + st.val / 2) = true ∧ (d.wchan st.val).cur = none ∧ (d.wchan st.val).queue = x :: l ∧ d.inhibited = false ∧ x.loaded = false ∧ d.livePort 0x08 (st.val / 2) = true) ∧
    (∃ (d : Dev) (st : Fin 8) (x : WSector) (l : List WSector), d.powered (3 + st.val / 2) = true ∧ (d.wchan st.val).cur = none ∧ (d.wchan st.val).queue = x :: l ∧ d.inhibited = false ∧ x.loaded = true ∧ d.gateOn st.val = false ∧ (d.shpCh (st.val / 2) (st.val % 2)).permit = false ∧ d.livePort 0x08 (st.val / 2) = true) ∧
    (∃ (d : Dev) (st : Fin 8) (x : WSector) (l : List WSector), d.powered (3 + st.val / 2) = true ∧ (d.wchan st.val).cur = none ∧ (d.wchan st.val).queue = x :: l ∧ d.inhibited = false ∧ x.loaded = true ∧ (d.shpCh (st.val / 2) (st.val % 2)).permit = true ∧ (d.writeOk (st.val / 2) (st.val % 2) = true ∨ d.gateOn st.val = true) ∧ d.livePort 0x08 (st.val / 2) = true) ∧
    (∃ (d : Dev) (st : Fin 8) (flips : List Nat) (mon : List Int), d.livePort 0x08 (st.val / 2) = true) ∧
    (∃ (d : Dev) (st : Fin 8) (flips : List Nat) (mon : List Int) (x : WSector) (e : Dev), e = ((d.setWchan st.val { d.wchan st.val with
        cur := none, monSum := (d.wchan st.val).monSum + mon.foldl (fun (a : Int) v => a + v) 0, monN := (d.wchan st.val).monN + mon.length }).showBuffers st.val).putI
        F.WCH_W_STAT_STATE st.val wIdle ∧ (d.wchan st.val).cur = some x ∧ d.gateOn st.val = true ∧ (d.wchan st.val).queue = [] ∧ (d.wchan st.val).windowed = false ∧ (d.segmentBreaks x).length ≤ (d.wchan st.val).segment ∧ d.sentHolds x flips = false ∧ d.livePort 0x08 (st.val / 2) = true) ∧
    (∃ (d : Dev) (st : Fin 8) (flips : List Nat) (mon : List Int) (x : WSector) (e : Dev), e = ((d.setWchan st.val { d.wchan st.val with
        cur := none, monSum := (d.wchan st.val).monSum + mon.foldl (fun (a : Int) v => a + v) 0, monN := (d.wchan st.val).monN + mon.length }).showBuffers st.val).putI
        F.WCH_W_STAT_STATE st.val wIdle ∧ (d.wchan st.val).cur = some x ∧ d.gateOn st.val = true ∧ (d.wchan st.val).queue = [] ∧ (d.wchan st.val).windowed = false ∧ (d.segmentBreaks x).length ≤ (d.wchan st.val).segment ∧ d.sentHolds x flips = true ∧ d.livePort 0x08 (st.val / 2) = true) ∧
    (∃ (d : Dev) (st : Fin 8) (x : WSector), d.powered (3 + st.val / 2) = true ∧ (d.wchan st.val).cur = some x ∧ (d.wchan st.val).windowed = true ∧ d.gateOn st.val = true ∧ d.livePort 0x08 (st.val / 2) = true) ∧
    (∃ (d : Dev) (st : Fin 8) (flips : List Nat) (mon : List Int), (d.wchan st.val).cur = none ∧ d.livePort 0x08 (st.val / 2) = true) ∧
    (∃ (d : Dev) (u : TileUser) (intact : Bool), d.live 0x09 = true) ∧
    (∃ (d : Dev) (u : TileUser) (intact : Bool) (t : Nat), d.powered 8 = true ∧ u = .porter t ∧ (d.tile t).state ≠ .sealed ∧ d.live 0x09 = true) ∧
    (∃ (d : Dev) (u : TileUser) (intact : Bool) (t : Nat), d.powered 8 = true ∧ u = .parity t ∧ (d.tile t).state = .sealed ∧ intact = false ∧ d.live 0x09 = true) :=
  ⟨⟨{}, 0, by decide +kernel⟩,
   ⟨({ wch := { ch := [{}, {}, { queue := [{ lba := 7, tile := 3, tag := 7, seq := 1, stripe := 2, member := 4, loaded := true }] }, {}, {}, {}, {}, {}] } } : Dev).put F.WCH_INHIBIT_ACTIVE 1, 2, { lba := 7, tile := 3, tag := 7, seq := 1, stripe := 2, member := 4, loaded := true }, [], by decide +kernel⟩,
   ⟨{ wch := { ch := [{}, {}, { queue := [{ lba := 7, tile := 3, tag := 7, seq := 1, stripe := 2, member := 4, loaded := false }] }, {}, {}, {}, {}, {}] } }, 2, { lba := 7, tile := 3, tag := 7, seq := 1, stripe := 2, member := 4, loaded := false }, [], by decide +kernel⟩,
   ⟨{ wch := { ch := [{}, {}, { queue := [{ lba := 7, tile := 3, tag := 7, seq := 1, stripe := 2, member := 4, loaded := true }] }, {}, {}, {}, {}, {}] } }, 2, { lba := 7, tile := 3, tag := 7, seq := 1, stripe := 2, member := 4, loaded := true }, [], by decide +kernel⟩,
   ⟨({ wch := { ch := [{}, {}, { queue := [{ lba := 7, tile := 3, tag := 7, seq := 1, stripe := 2, member := 4, loaded := true }] }, {}, {}, {}, {}, {}] }, shps := [{}, { ch := [{ permit := true }, {}] }, {}, {}] } : Dev).putI F.WCH_W_STAT_STATE 2 wWriting, 2, { lba := 7, tile := 3, tag := 7, seq := 1, stripe := 2, member := 4, loaded := true }, [], by decide +kernel⟩,
   ⟨{}, 0, [], [], by decide +kernel⟩,
   ⟨({ wch := { ch := [{}, {}, { cur := some { lba := 7, tile := 3, tag := 7, seq := 1, stripe := 2, member := 4, loaded := true } }, {}, {}, {}, {}, {}] } } : Dev).putI F.WCH_W_STAT_STATE 2 wWriting, 2, [3], [1, 2], { lba := 7, tile := 3, tag := 7, seq := 1, stripe := 2, member := 4, loaded := true }, _, rfl, by decide +kernel⟩,
   ⟨({ wch := { ch := [{}, {}, { cur := some { lba := 7, tile := 3, tag := 7, seq := 1, stripe := 2, member := 4, loaded := true } }, {}, {}, {}, {}, {}] } } : Dev).putI F.WCH_W_STAT_STATE 2 wWriting, 2, [], [1, 2], { lba := 7, tile := 3, tag := 7, seq := 1, stripe := 2, member := 4, loaded := true }, _, rfl, by decide +kernel⟩,
   ⟨({ wch := { ch := [{}, {}, { windowed := true, cur := some { lba := 7, tile := 3, tag := 7, seq := 1, stripe := 2, member := 4, loaded := true } }, {}, {}, {}, {}, {}] } } : Dev).putI F.WCH_W_STAT_STATE 2 wWriting, 2, { lba := 7, tile := 3, tag := 7, seq := 1, stripe := 2, member := 4, loaded := true }, by decide +kernel⟩,
   ⟨{}, 2, [], [], by decide +kernel⟩,
   ⟨{}, .channel 0, true, by decide +kernel⟩,
   ⟨{}, .porter 5, true, 5, by decide +kernel⟩,
   ⟨{ grn := { tiles := [{ num := 5, state := .sealed, producer := 1, gen := 2 }] } }, .parity 5, false, 5, by decide +kernel⟩⟩

theorem witness_shockSourcesAndInhibit :
    (∃ (d : Dev) (n : Fin 2), d.clk.stopped = false) ∧
    (∃ (d : Dev) (n : Fin 2), d.clk.stopped = false) ∧
    (∃ (d : Dev) (n : Fin 2), withBit d.wch.tripped n.val false = 0 ∧ d.wch.testing = false ∧ d.bit F.WCH_INHIBIT_SOURCES n.val = true ∧ d.clk.stopped = false) ∧
    (∃ (d : Dev) (n : Fin 2), withBit d.wch.tripped n.val false ≠ 0 ∧ d.clk.stopped = false) ∧
    (∃ (d : Dev), d.clk.stopped = false) ∧
    (∃ (d : Dev), d.wch.holding = false ∧ d.clk.stopped = false) ∧
    (∃ (d : Dev) (w : List Nat), d.wch.holding = true ∧ w = (List.range 8).filter (fun s => match d.heldPiece s with | some p => p.why.kind == .writePass | none => false) ∧ d.clk.stopped = false) ∧
    (∃ (d : Dev), d.clk.stopped = false) ∧
    (∃ (d : Dev), d.clk.stopped = false) ∧
    (∃ (d : Dev), d.clk.stopped = false) ∧
    (∃ (d : Dev), d.clk.stopped = false) ∧
    (∃ (d : Dev), d.wch.testing = true ∧ d.clk.stopped = false) ∧
    (∃ (d : Dev), d.wch.testing = false ∧ d.clk.stopped = false) ∧
    (∃ (d : Dev) (v : BitVec 32), d.clk.stopped = false) ∧
    (∃ (d : Dev) (v : BitVec 32), slice v.toNat 8 8 ≠ 0 ∧ slice v.toNat 0 8 ≠ 0 ∧ d.clk.stopped = false) ∧
    (∃ (d : Dev) (v : BitVec 32), slice v.toNat 8 8 = 0 ∧ slice v.toNat 0 8 ≠ 0 ∧ d.clk.stopped = false) :=
  ⟨⟨{}, 0, by decide +kernel⟩,
   ⟨{}, 0, by decide +kernel⟩,
   ⟨({ wch := { tripped := 2 } } : Dev).put F.WCH_INHIBIT_SOURCES 2, 1, by decide +kernel⟩,
   ⟨{ wch := { tripped := 3 } }, 1, by decide +kernel⟩,
   ⟨{}, by decide +kernel⟩,
   ⟨{}, by decide +kernel⟩,
   ⟨{ wch := { holding := true } }, [], by decide +kernel⟩,
   ⟨{}, by decide +kernel⟩,
   ⟨{}, by decide +kernel⟩,
   ⟨{}, by decide +kernel⟩,
   ⟨{}, by decide +kernel⟩,
   ⟨{ wch := { testing := true } }, by decide +kernel⟩,
   ⟨{}, by decide +kernel⟩,
   ⟨{}, 0, by decide +kernel⟩,
   ⟨{}, 0x00640101#32, by decide +kernel⟩,
   ⟨{}, 0x00640001#32, by decide +kernel⟩⟩

theorem witness_granaryServesRequests :
    (∃ (d : Dev) (asks : List DramAsk) (i : Nat) (o : DramRead), d.live 0x0A = true) ∧
    (∃ (d : Dev) (asks : List DramAsk) (i : Nat) (o : DramRead) (r : DramReq) (e : Dev), e = d.setQueue (d.ddr.queue ++ (asks.filter (fun (a : DramAsk) => a.addr < d.capacity && a.addr + a.bytes.length ≤ d.capacity)).map (fun (a : DramAsk) => (⟨a.cls.val, a.write, a.addr, a.bytes⟩ : DramReq))) ∧ d.ddrRunning = true ∧ e.ddr.queue[i]? = some r ∧ e.mayIssue i = true ∧ r.write = true ∧ d.live 0x0A = true) ∧
    (∃ (d : Dev) (asks : List DramAsk) (i : Nat) (o : DramRead) (r : DramReq) (e : Dev), e = d.setQueue (d.ddr.queue ++ (asks.filter (fun (a : DramAsk) => a.addr < d.capacity && a.addr + a.bytes.length ≤ d.capacity)).map (fun (a : DramAsk) => (⟨a.cls.val, a.write, a.addr, a.bytes⟩ : DramReq))) ∧ d.ddrRunning = true ∧ e.ddr.queue[i]? = some r ∧ e.mayIssue i = true ∧ r.write = false ∧ d.live 0x0A = true) ∧
    (∃ (d : Dev) (asks : List DramAsk) (i : Nat) (o : DramRead) (e : Dev), e = d.setQueue (d.ddr.queue ++ (asks.filter (fun (a : DramAsk) => a.addr < d.capacity && a.addr + a.bytes.length ≤ d.capacity)).map (fun (a : DramAsk) => (⟨a.cls.val, a.write, a.addr, a.bytes⟩ : DramReq))) ∧ d.ddrRunning = true ∧ e.mayIssue i = false ∧ d.live 0x0A = true) ∧
    (∃ (d : Dev) (i : Nat), d.live 0x0A = true) ∧
    (∃ (d : Dev) (i : Nat) (r : DramReq) (l : List DramReq), d.ddrRunning = true ∧ i = 0 ∧ d.ddr.queue = r :: l ∧ r.cls ≠ 0 ∧ d.live 0x0A = true) ∧
    (∃ (d : Dev) (i : Nat), d.ddr.queue[i]? = none ∧ d.live 0x0A = true) ∧
    (∃ (d : Dev) (sc : Fin 2) (rank : Fin 3) (bg : Fin 8) (ba : Fin 4), d.live 0x0A = true) ∧
    (∃ (d : Dev) (sc : Fin 2) (rank : Fin 3) (ba : Option (Fin 4)), d.live 0x0A = true) ∧
    (∃ (d : Dev) (sc : Fin 2) (rank : Fin 3) (ba : Option (Fin 4)) (b : Fin 4), ba = some b ∧ d.live 0x0A = true) ∧
    (∃ (d : Dev) (sc : Fin 2) (rank : Fin 3) (ba : Option (Fin 4)), ba = none ∧ d.live 0x0A = true) ∧
    (∃ (d : Dev) (sc : Fin 2) (rank : Fin 3) (ok : Bool), d.live 0x0A = true) ∧
    (∃ (d : Dev) (sc : Fin 2) (rank : Fin 3) (ok : Bool) (e : Dev), e = (d.closeRank sc.val rank.val none).inc F.DDR_RETRAIN_SHORT ∧ d.ddrRunning = true ∧ (d.rankRole sc.val rank.val = roleActive ∨ d.rankRole sc.val rank.val = roleSpare) ∧ d.live 0x0A = true) ∧
    (∃ (d : Dev) (sc : Fin 2) (rank : Fin 3) (ok : Bool) (rate : Fin 3), d.live 0x0A = true) ∧
    (∃ (d : Dev) (sc : Fin 2) (rank : Fin 3) (ok : Bool) (rate : Fin 3) (e : Dev), e = (d.closeRank sc.val rank.val none).inc F.DDR_RETRAIN_LONG ∧ d.ddrRunning = true ∧ (d.rankRole sc.val rank.val = roleActive ∨ d.rankRole sc.val rank.val = roleSpare) ∧ slice (d.get F.DDR_REFRESH_RATE) (6 * sc.val + 2 * rank.val) 2 = rate.val ∧ d.live 0x0A = true) ∧
    (∃ (d : Dev) (sc : Fin 2) (rank : Fin 3) (ok : Bool), (d.rankRole sc.val rank.val = roleAbsent ∨ d.rankRole sc.val rank.val = roleRetired) ∧ d.live 0x0A = true) ∧
    (∃ (d : Dev) (x : Nat) (spare : Bool) (o : DramRead), d.live 0x0A = true) ∧
    (∃ (d : Dev) (x : Nat) (spare : Bool) (o : DramRead), d.ddrRunning = true ∧ x < d.capacity ∧ spare = false ∧ d.live 0x0A = true) ∧
    (∃ (d : Dev) (x : Nat) (spare : Bool) (o : DramRead) (r : Nat) (s : Nat), d.ddrRunning = true ∧ x < d.capacity ∧ spare = true ∧ (List.range 3).find? (fun r => d.rankRole (d.dramPlace x).sc r == roleSpare) = some r ∧ o = .corrected s ∧ d.live 0x0A = true) ∧
    (∃ (d : Dev), d.live 0x0A = true) ∧
    (∃ (d : Dev) (sc : Fin 2) (o : DramRead), d.live 0x0A = true) ∧
    (∃ (d : Dev) (sc : Fin 2) (o : DramRead) (m : Migration) (e : Dev), e = (d.setMigs (d.ddr.migs.map (fun (x : Migration) => if x.sc == sc.val then { m with lines := m.lines + 1 } else x))).showMig { m with lines := m.lines + 1 } ∧ d.migration sc.val = some m ∧ d.ddrRunning = true ∧ o = .good ∧ m.lines + 1 < d.rankLines ∧ d.live 0x0A = true) ∧
    (∃ (d : Dev) (sc : Fin 2) (o : DramRead), d.migration sc.val = none ∧ d.live 0x0A = true) ∧
    (∃ (d : Dev) (high : Bool) (v : BitVec 32), d.powered 8 = true ∧ d.clk.stopped = false) ∧
    (∃ (d : Dev) (high : Bool) (v : BitVec 32), d.powered 8 = false ∧ d.clk.stopped = false) :=
  ⟨⟨{}, [], 0, .good, by decide +kernel⟩,
   ⟨(({} : Dev).put F.DDR_STAT_STATE 2).put F.DDR_CONFIG_CAP_GIB 32, [⟨1, true, 64, [5, 6]⟩], 0, .good, ⟨1, true, 64, [5, 6]⟩, _, rfl, by decide +kernel⟩,
   ⟨(({} : Dev).put F.DDR_STAT_STATE 2).put F.DDR_CONFIG_CAP_GIB 32, [⟨1, false, 64, []⟩], 0, .corrected 9, ⟨1, false, 64, []⟩, _, rfl, by decide +kernel⟩,
   ⟨(({} : Dev).put F.DDR_STAT_STATE 2).put F.DDR_CONFIG_CAP_GIB 32, [⟨1, false, 64, []⟩], 1, .good, _, rfl, by decide +kernel⟩,
   ⟨{}, 0, by decide +kernel⟩,
   ⟨({ ddr := { queue := [⟨3, true, 64, [1]⟩] } } : Dev).put F.DDR_STAT_STATE 2, 0, ⟨3, true, 64, [1]⟩, [], by decide +kernel⟩,
   ⟨{}, 0, by decide +kernel⟩,
   ⟨{}, 0, 0, 0, 0, by decide +kernel⟩,
   ⟨{}, 0, 0, none, by decide +kernel⟩,
   ⟨{}, 1, 2, some 3, 3, by decide +kernel⟩,
   ⟨{}, 1, 2, none, by decide +kernel⟩,
   ⟨{}, 0, 0, true, by decide +kernel⟩,
   ⟨(({} : Dev).setRank 1 2 2 : Dev).put F.DDR_STAT_STATE 2, 1, 2, false, _, rfl, by decide +kernel⟩,
   ⟨{}, 0, 0, true, 0, by decide +kernel⟩,
   ⟨(({} : Dev).setRank 1 2 2 : Dev).put F.DDR_STAT_STATE 2, 1, 2, true, 0, _, rfl, by decide +kernel⟩,
   ⟨({} : Dev).put F.DDR_STAT_STATE 2, 1, 2, false, by decide +kernel⟩,
   ⟨{}, 0, true, .good, by decide +kernel⟩,
   ⟨(({} : Dev).put F.DDR_STAT_STATE 2).put F.DDR_CONFIG_CAP_GIB 32, 4096, false, .good, by decide +kernel⟩,
   ⟨((({} : Dev).setRank 0 2 2 : Dev).put F.DDR_STAT_STATE 2).put F.DDR_CONFIG_CAP_GIB 32, 4096, true, .corrected 7, 2, 7, by decide +kernel⟩,
   ⟨{}, by decide +kernel⟩,
   ⟨{}, 0, .good, by decide +kernel⟩,
   ⟨({ ddr := { migs := [⟨1, 0, 2, 0, 5, 0⟩] } } : Dev).put F.DDR_STAT_STATE 2, 1, .good, ⟨1, 0, 2, 0, 5, 0⟩, _, rfl, by decide +kernel⟩,
   ⟨{}, 1, .good, by decide +kernel⟩,
   ⟨(({} : Dev).put F.DDR_STAT_STATE 2).put F.DDR_CONFIG_CAP_GIB 32, true, 0x12345678#32, by decide +kernel⟩,
   ⟨({} : Dev).setBit F.CLK_PD_STAT_OFF 8 true, true, 0x12345678#32, by decide +kernel⟩⟩

theorem witness_tilesAreProducedAndTested :
    (∃ (d : Dev) (producer : Fin 3) (t : Nat) (off : Nat) (bytes : List Nat), d.live 0x09 = true) ∧
    (∃ (d : Dev) (producer : Fin 3) (t : Nat) (off : Nat) (bytes : List Nat), d.powered 8 = true ∧ off = 0 ∧ ((d.tile t).state = .empty ∨ (d.tile t).state = .sealed) ∧ bytes ≠ [] ∧ bytes.length < 4096 ∧ t < d.poolTiles ∧ d.live 0x09 = true) ∧
    (∃ (d : Dev) (producer : Fin 3) (t : Nat) (off : Nat) (bytes : List Nat) (e : Dev), e = d.granWrite (d.tileBase t + off) bytes ∧ d.powered 8 = true ∧ (d.tile t).state = .opened ∧ (d.tile t).producer = producer.val + 1 ∧ (d.tile t).next = off ∧ off ≠ 0 ∧ bytes ≠ [] ∧ off + bytes.length = 4096 ∧ t < d.poolTiles ∧ d.live 0x09 = true) ∧
    (∃ (d : Dev) (producer : Fin 3) (t : Nat) (off : Nat) (bytes : List Nat), d.powered 8 = true ∧ (d.tile t).state = .opened ∧ (d.tile t).next ≠ off ∧ d.live 0x09 = true) ∧
    (∃ (d : Dev) (producer : Fin 3) (t : Nat) (off : Nat) (bytes : List Nat), d.powered 8 = true ∧ (d.tile t).state = .test ∧ d.live 0x09 = true) ∧
    (∃ (d : Dev) (t : Nat) (pass : Bool), d.live 0x09 = true) ∧
    (∃ (d : Dev) (t : Nat) (pass : Bool), (d.tile t).state = .test ∧ (d.tile t).held = [] ∧ pass = true ∧ d.live 0x09 = true) ∧
    (∃ (d : Dev) (t : Nat) (pass : Bool) (e : Dev), e = (d.setTile { (d.tile t) with state := .retired, held := [], next := 0 }).countTiles ∧ (d.tile t).state = .test ∧ (d.tile t).held = [] ∧ pass = false ∧ d.live 0x09 = true) ∧
    (∃ (d : Dev) (t : Nat) (pass : Bool), (d.tile t).state ≠ .test ∧ d.live 0x09 = true) :=
  ⟨⟨{}, 0, 0, 0, [], by decide +kernel⟩,
   ⟨({} : Dev).put F.GRN_POOL_TILES_TILES 16, 1, 5, 0, [1, 2, 3], by decide +kernel⟩,
   ⟨({ grn := { tiles := [{ num := 5, state := .opened, producer := 2, next := 4095, gen := 3 }] } } : Dev).put F.GRN_POOL_TILES_TILES 16, 1, 5, 4095, [1], _, rfl, by decide +kernel⟩,
   ⟨({ grn := { tiles := [{ num := 5, state := .opened, producer := 2, next := 64, gen := 3 }] } } : Dev).put F.GRN_POOL_TILES_TILES 16, 1, 5, 128, [1], by decide +kernel⟩,
   ⟨{ grn := { tiles := [{ num := 5, state := .test, held := [] }] } }, 1, 5, 0, [1], by decide +kernel⟩,
   ⟨{}, 0, true, by decide +kernel⟩,
   ⟨{ grn := { tiles := [{ num := 5, state := .test, held := [] }] } }, 5, true, by decide +kernel⟩,
   ⟨{ grn := { tiles := [{ num := 5, state := .test, held := [] }] } }, 5, false, _, rfl, by decide +kernel⟩,
   ⟨{}, 5, true, by decide +kernel⟩⟩

theorem witness_cacheServesPorts :
    (∃ (d : Dev) (port : Fin 5) (x : CoreAccess), d.live 0x0B = true) ∧
    (∃ (d : Dev) (port : Fin 5) (x : CoreAccess) (c : CLine) (e : Dev), e = (d.issueVictims x.issued).engineTo x.engine ∧ d.powered 8 = true ∧ d.stalled port.val = false ∧ d.isGranary x.addr = true ∧ d.isGranary (x.addr + x.len - 1) = true ∧ x.op = .load ∧ e.mustWait port.val (⟨x.addr, x.len, x.op, x.data, e.regionPolicy (x.addr - granBase), x.word, x.tag, x.dram⟩ : Access1) = false ∧ e.on F.MCC_CTRL_ENABLE = true ∧ e.cline ((x.addr - granBase) / 64) = some c ∧ e.regionPolicy (x.addr - granBase) ≠ 0 ∧ e.checkLine c ((x.addr - granBase) % 64) x.word x.tag = (e, .there) ∧ c.pre = false ∧ d.live 0x0B = true) ∧
    (∃ (d : Dev) (port : Fin 5) (x : CoreAccess) (t : Nat) (e : Dev), e = (d.issueVictims x.issued).engineTo x.engine ∧ d.powered 8 = true ∧ d.stalled port.val = false ∧ d.isGranary x.addr = true ∧ d.isGranary (x.addr + x.len - 1) = true ∧ port.val < 4 ∧ x.op = .store ∧ e.tileOf (x.addr - granBase) = some t ∧ d.live 0x0B = true) ∧
    (∃ (d : Dev) (port : Fin 5) (x : CoreAccess) (e : Dev), e = (d.issueVictims x.issued).engineTo x.engine ∧ d.powered 8 = true ∧ d.stalled port.val = false ∧ d.isGranary x.addr = true ∧ d.isGranary (x.addr + x.len - 1) = true ∧ x.op = .load ∧ e.on F.MCC_CTRL_ENABLE = true ∧ e.mustWait port.val (⟨x.addr, x.len, x.op, x.data, e.regionPolicy (x.addr - granBase), x.word, x.tag, x.dram⟩ : Access1) = true ∧ d.live 0x0B = true) ∧
    (∃ (d : Dev) (port : Fin 5) (x : CoreAccess) (e : Dev), e = (d.issueVictims x.issued).engineTo x.engine ∧ d.powered 8 = true ∧ d.stalled port.val = false ∧ d.isGranary x.addr = true ∧ d.isGranary (x.addr + x.len - 1) = true ∧ x.op = .load ∧ e.mustWait port.val (⟨x.addr, x.len, x.op, x.data, e.regionPolicy (x.addr - granBase), x.word, x.tag, x.dram⟩ : Access1) = false ∧ e.on F.MCC_CTRL_ENABLE = true ∧ e.cline ((x.addr - granBase) / 64) = none ∧ e.victim ((x.addr - granBase) / 64) = none ∧ e.regionPolicy (x.addr - granBase) ≠ 0 ∧ e.on F.MCC_STAT_DRAINING = false ∧ e.anyWay = true ∧ e.missAt port.val = true ∧ d.live 0x0B = true) ∧
    (∃ (d : Dev) (port : Fin 5) (x : CoreAccess) (e : Dev), e = (d.issueVictims x.issued).engineTo x.engine ∧ d.powered 8 = true ∧ d.stalled port.val = false ∧ d.isGranary x.addr = true ∧ d.isGranary (x.addr + x.len - 1) = true ∧ x.op = .load ∧ e.mustWait port.val (⟨x.addr, x.len, x.op, x.data, e.regionPolicy (x.addr - granBase), x.word, x.tag, x.dram⟩ : Access1) = false ∧ e.on F.MCC_CTRL_ENABLE = true ∧ e.cline ((x.addr - granBase) / 64) = none ∧ e.victim ((x.addr - granBase) / 64) = none ∧ e.regionPolicy (x.addr - granBase) ≠ 0 ∧ e.on F.MCC_STAT_DRAINING = false ∧ e.anyWay = true ∧ e.missAt port.val = false ∧ d.live 0x0B = true) ∧
    (∃ (d : Dev) (port : Option (Fin 5)) (o : DramRead), d.live 0x0B = true) ∧
    (∃ (d : Dev) (port : Option (Fin 5)) (o : DramRead) (p : Fin 5) (m : Miss) (l : Nat) (c : CLine) (e : Dev), port = some p ∧ d.mcc.misses.find? (fun (m : Miss) => m.port == p.val) = some m ∧ l = (m.acc.addr - granBase) / 64 ∧ m.filled = false ∧ d.victim l = none ∧ d.cline l = none ∧ d.dramMeet (64 * l) o 2 = (d, false) ∧ d.on F.MCC_CTRL_ENABLE = true ∧ d.on F.MCC_STAT_DRAINING = false ∧ d.anyWay = true ∧ d.allocLine l false false (d.dramRead (64 * l) 64) = some e ∧ e.cline l = some c ∧ d.live 0x0B = true) ∧
    (∃ (d : Dev) (port : Option (Fin 5)) (o : DramRead) (p : Fin 5), port = some p ∧ d.mcc.misses.find? (fun (m : Miss) => m.port == p.val) = none ∧ d.live 0x0B = true) ∧
    (∃ (d : Dev) (port : Option (Fin 5)) (o : DramRead), port = none ∧ d.mcc.prefetch = none ∧ d.live 0x0B = true) ∧
    (∃ (d : Dev) (x : GranAccess), d.live 0x0B = true) ∧
    (∃ (d : Dev) (x : GranAccess), d.powered 8 = true ∧ x.addr + x.len ≤ d.capacity ∧ x.write = false ∧ d.linesMeet x.addr x.len x.dram x.cls.val = (d, false) ∧ d.live 0x0B = true) ∧
    (∃ (d : Dev) (x : GranAccess), d.powered 8 = true ∧ x.addr + x.bytes.length ≤ d.capacity ∧ x.write = true ∧ d.tileOf x.addr = none ∧ d.inSideTable x.addr = false ∧ d.live 0x0B = true) ∧
    (∃ (d : Dev) (x : GranAccess) (t : Nat), d.powered 8 = true ∧ x.addr + x.bytes.length ≤ d.capacity ∧ x.write = true ∧ d.tileOf x.addr = some t ∧ d.live 0x0B = true) ∧
    (∃ (d : Dev) (line : Nat), d.live 0x0B = true) ∧
    (∃ (d : Dev) (line : Nat) (v : Victim), d.victim line = some v ∧ d.mcc.misses = [] ∧ d.live 0x0B = true) ∧
    (∃ (d : Dev) (line : Nat), d.victim line = none ∧ d.live 0x0B = true) :=
  ⟨⟨{}, 0, ⟨.load, 0, 4, 0, false, .clean, .clean, .good, false, [], 0⟩, by decide +kernel⟩,
   ⟨((({ mcc := { lines := [⟨2, 3, false, false, List.replicate 64 7⟩] } } : Dev).put F.DDR_CONFIG_CAP_GIB 32).put F.MCC_CTRL_ENABLE 1).putI F.MCC_ATTR_POLICY0 0 2, 2, ⟨.load, granBase + 130, 2, 0, false, .clean, .clean, .good, false, [], 0⟩, ⟨2, 3, false, false, List.replicate 64 7⟩, _, rfl, by decide +kernel⟩,
   ⟨(({} : Dev).put F.DDR_CONFIG_CAP_GIB 32).put F.GRN_POOL_TILES_TILES 16, 2, ⟨.store, granBase + 130, 2, 0, false, .clean, .clean, .good, false, [], 0⟩, 0, _, rfl, by decide +kernel⟩,
   ⟨((({ mcc := { misses := [⟨2, ⟨granBase + 130, 4, .load, 0, 2, .clean, .clean, .good⟩, false⟩] } } : Dev).put F.DDR_CONFIG_CAP_GIB 32).put F.MCC_CTRL_ENABLE 1).putI F.MCC_ATTR_POLICY0 0 2, 2, ⟨.load, granBase + 130, 2, 0, false, .clean, .clean, .good, false, [], 0⟩, _, rfl, by decide +kernel⟩,
   ⟨((({ mcc := { misses := [⟨2, ⟨granBase, 4, .load, 0, 2, .clean, .clean, .good⟩, false⟩] } } : Dev).put F.DDR_CONFIG_CAP_GIB 32).put F.MCC_CTRL_ENABLE 1).putI F.MCC_ATTR_POLICY0 0 2, 2, ⟨.load, granBase + 130, 2, 0, false, .clean, .clean, .good, false, [], 0⟩, _, rfl, by decide +kernel⟩,
   ⟨((({} : Dev).put F.DDR_CONFIG_CAP_GIB 32).put F.MCC_CTRL_ENABLE 1).putI F.MCC_ATTR_POLICY0 0 2, 2, ⟨.load, granBase + 130, 2, 0, false, .clean, .clean, .good, false, [], 0⟩, _, rfl, by decide +kernel⟩,
   ⟨{}, none, .good, by decide +kernel⟩,
   ⟨({ mcc := { misses := [⟨2, ⟨granBase, 4, .load, 0, 2, .clean, .clean, .good⟩, false⟩] } } : Dev).put F.MCC_CTRL_ENABLE 1, some 2, .good, 2, ⟨2, ⟨granBase, 4, .load, 0, 2, .clean, .clean, .good⟩, false⟩, 0, ⟨0, 0, false, false, List.replicate 64 0⟩, ((({ mcc := { misses := [⟨2, ⟨granBase, 4, .load, 0, 2, .clean, .clean, .good⟩, false⟩] } } : Dev).put F.MCC_CTRL_ENABLE 1).allocLine 0 false false (List.replicate 64 0)).getD {}, by decide +kernel⟩,
   ⟨{}, some 2, .good, 2, by decide +kernel⟩,
   ⟨{}, none, .good, by decide +kernel⟩,
   ⟨{}, ⟨false, 0, 0, 1, [], .good⟩, by decide +kernel⟩,
   ⟨((({} : Dev).put F.DDR_CONFIG_CAP_GIB 32).put F.MCC_CTRL_ENABLE 1).putI F.MCC_ATTR_POLICY0 0 2, ⟨false, 1, 64, 8, [], .good⟩, by decide +kernel⟩,
   ⟨((({} : Dev).put F.DDR_CONFIG_CAP_GIB 32).put F.MCC_CTRL_ENABLE 1).putI F.MCC_ATTR_POLICY0 0 2, ⟨true, 1, 64, 0, [1, 2], .good⟩, by decide +kernel⟩,
   ⟨(((({} : Dev).put F.GRN_POOL_TILES_TILES 16 : Dev).put F.DDR_CONFIG_CAP_GIB 32).put F.MCC_CTRL_ENABLE 1).putI F.MCC_ATTR_POLICY0 0 2, ⟨true, 1, 64, 0, [1, 2], .good⟩, 0, by decide +kernel⟩,
   ⟨{}, 0, by decide +kernel⟩,
   ⟨{ mcc := { victims := [⟨2, [1], true⟩] } }, 2, ⟨2, [1], true⟩, by decide +kernel⟩,
   ⟨{}, 2, by decide +kernel⟩⟩

theorem witness_cacheLocksRangesAndProtection :
    (∃ (d : Dev) (v : BitVec 32), d.clk.stopped = false) ∧
    (∃ (d : Dev) (v : BitVec 32), d.on F.MCC_STAT_LOCK_BUSY = false ∧ d.on F.MCC_STAT_DRAINING = false ∧ d.on F.MCC_STAT_MAINT = false ∧ v.toNat % 16 < d.get F.MCC_LOCK_WAYS ∧ d.get F.MCC_LOCK_WAYS ≤ 8 ∧ d.clk.stopped = false) ∧
    (∃ (d : Dev) (v : BitVec 32), d.on F.MCC_STAT_LOCK_BUSY = false ∧ d.on F.MCC_STAT_DRAINING = false ∧ d.on F.MCC_STAT_MAINT = false ∧ d.get F.MCC_LOCK_WAYS < v.toNat % 16 ∧ v.toNat % 16 ≤ 8 ∧ d.get F.MCC_FENCE_WAYS = 0 ∧ d.clk.stopped = false) ∧
    (∃ (d : Dev) (v : BitVec 32), (8 < v.toNat % 16 ∨ d.on F.MCC_STAT_MAINT = true) ∧ d.clk.stopped = false) ∧
    (∃ (d : Dev), d.live 0x0B = true) ∧
    (∃ (d : Dev), d.on F.MCC_STAT_LOCK_BUSY = false ∧ d.live 0x0B = true) ∧
    (∃ (d : Dev) (e : Dev) (e2 : Dev), e = d.cleanLines (d.mcc.lines.filter (fun (c : CLine) => d.get F.MCC_LOCK_WAYS ≤ c.way && c.way < d.mcc.lockTo)) true true ∧ e2 = ((e.clearWays (d.get F.MCC_LOCK_WAYS) d.mcc.lockTo).put F.MCC_LOCK_WAYS d.mcc.lockTo).put F.MCC_STAT_LOCK_BUSY 0 ∧ d.on F.MCC_STAT_LOCK_BUSY = true ∧ d.live 0x0B = true) ∧
    (∃ (d : Dev), d.clk.stopped = false) ∧
    (∃ (d : Dev) (e : Dev), e = (d.put F.MCC_MAINT_CTRL_OP 0).put F.MCC_STAT_MAINT 1 ∧ d.on F.MCC_STAT_LOCK_BUSY = false ∧ d.on F.MCC_STAT_DRAINING = false ∧ d.on F.MCC_STAT_MAINT = false ∧ d.get F.MCC_MAINT_LEN_LINES ≠ 0 ∧ d.clk.stopped = false) ∧
    (∃ (d : Dev), d.clk.stopped = false) ∧
    (∃ (d : Dev) (e : Dev), e = (d.put F.MCC_MAINT_CTRL_OP 1).put F.MCC_STAT_MAINT 1 ∧ d.on F.MCC_STAT_LOCK_BUSY = false ∧ d.on F.MCC_STAT_DRAINING = false ∧ d.on F.MCC_STAT_MAINT = false ∧ d.get F.MCC_MAINT_LEN_LINES ≠ 0 ∧ d.clk.stopped = false) ∧
    (∃ (d : Dev), d.clk.stopped = false) ∧
    (∃ (d : Dev) (e : Dev), e = (d.put F.MCC_MAINT_CTRL_OP 2).put F.MCC_STAT_MAINT 1 ∧ d.on F.MCC_STAT_LOCK_BUSY = false ∧ d.on F.MCC_STAT_DRAINING = false ∧ d.on F.MCC_STAT_MAINT = false ∧ d.get F.MCC_MAINT_LEN_LINES ≠ 0 ∧ d.clk.stopped = false) ∧
    (∃ (d : Dev), d.get F.MCC_MAINT_LEN_LINES = 0 ∧ d.clk.stopped = false) ∧
    (∃ (d : Dev), d.live 0x0B = true) ∧
    (∃ (d : Dev), d.mcc.maint = none ∧ d.live 0x0B = true) ∧
    (∃ (d : Dev) (r : Nat × Nat × Nat) (e : Dev), e = d.engineTo 65536 ∧ d.mcc.maint = some r ∧ e.mcc.drainAfter = false ∧ d.live 0x0B = true) ∧
    (∃ (d : Dev) (r : Nat × Nat × Nat) (e : Dev), e = d.engineTo 65536 ∧ d.mcc.maint = some r ∧ e.mcc.drainAfter = true ∧ d.live 0x0B = true) ∧
    (∃ (d : Dev), d.clk.stopped = false) ∧
    (∃ (d : Dev), d.on F.MCC_CTRL_ENABLE = true ∧ d.on F.MCC_STAT_DRAINING = false ∧ d.on F.MCC_STAT_MAINT = false ∧ d.clk.stopped = false) ∧
    (∃ (d : Dev), d.on F.MCC_CTRL_ENABLE = true ∧ d.on F.MCC_STAT_DRAINING = false ∧ d.on F.MCC_STAT_MAINT = true ∧ d.clk.stopped = false) ∧
    (∃ (d : Dev), d.clk.stopped = false) ∧
    (∃ (d : Dev), d.draining = false ∧ d.on F.MCC_CTRL_ENABLE = false ∧ d.clk.stopped = false) ∧
    (∃ (d : Dev), d.draining = true ∧ d.clk.stopped = false) ∧
    (∃ (d : Dev), d.live 0x0B = true) ∧
    (∃ (d : Dev) (e : Dev), e = d.engineTo 65536 ∧ d.on F.MCC_STAT_DRAINING = true ∧ d.live 0x0B = true) ∧
    (∃ (d : Dev), d.on F.MCC_STAT_DRAINING = false ∧ d.live 0x0B = true) ∧
    (∃ (d : Dev) (m : Fin 96) (word : Fin 8192) (o : Ecc), d.live 0x0C = true) ∧
    (∃ (d : Dev) (m : Fin 96) (word : Fin 8192) (o : Ecc), d.wordValid m.val word.val = true ∧ d.wordEcc m.val word.val o = .single ∧ d.live 0x0C = true) ∧
    (∃ (d : Dev) (m : Fin 96) (word : Fin 8192) (o : Ecc), (d.wordValid m.val word.val = false ∨ d.wordEcc m.val word.val o = .clean) ∧ d.live 0x0C = true) ∧
    (∃ (d : Dev) (m : Fin 96) (word : Fin 8192) (o : Ecc) (e : Dev) (e2 : Dev), e = d.sramDouble m.val word.val ∧ e2 = e.setMacro { e.macro m.val with bad := if (e.macro m.val).bad.contains word.val then (e.macro m.val).bad else word.val :: (e.macro m.val).bad } ∧ d.wordValid m.val word.val = true ∧ d.wordEcc m.val word.val o = .double ∧ m.val < 16 ∧ d.live 0x0C = true) ∧
    (∃ (d : Dev), d.live 0x0C = true) ∧
    (∃ (d : Dev) (v : BitVec 32), d.clk.stopped = false) ∧
    (∃ (d : Dev) (v : BitVec 32), slice v.toNat 0 7 ≤ 95 ∧ v.toNat.testBit 31 = true ∧ d.clk.stopped = false) ∧
    (∃ (d : Dev) (v : BitVec 32), 95 < slice v.toNat 0 7 ∧ d.clk.stopped = false) :=
  ⟨⟨{}, 0, by decide +kernel⟩,
   ⟨({} : Dev).put F.MCC_LOCK_WAYS 4, 2#32, by decide +kernel⟩,
   ⟨({} : Dev).put F.MCC_LOCK_WAYS 4, 8#32, by decide +kernel⟩,
   ⟨{}, 9#32, by decide +kernel⟩,
   ⟨{}, by decide +kernel⟩,
   ⟨{}, by decide +kernel⟩,
   ⟨({ mcc := { lockTo := 3 } } : Dev).put F.MCC_STAT_LOCK_BUSY 1, _, _, rfl, rfl, by decide +kernel⟩,
   ⟨{}, by decide +kernel⟩,
   ⟨({} : Dev).put F.MCC_MAINT_LEN_LINES 4, _, rfl, by decide +kernel⟩,
   ⟨{}, by decide +kernel⟩,
   ⟨({} : Dev).put F.MCC_MAINT_LEN_LINES 4, _, rfl, by decide +kernel⟩,
   ⟨{}, by decide +kernel⟩,
   ⟨({} : Dev).put F.MCC_MAINT_LEN_LINES 4, _, rfl, by decide +kernel⟩,
   ⟨{}, by decide +kernel⟩,
   ⟨{}, by decide +kernel⟩,
   ⟨{}, by decide +kernel⟩,
   ⟨{ mcc := { maint := some (0, 8, 4) } }, (0, 8, 4), _, rfl, by decide +kernel⟩,
   ⟨{ mcc := { maint := some (0, 8, 4), drainAfter := true } }, (0, 8, 4), _, rfl, by decide +kernel⟩,
   ⟨{}, by decide +kernel⟩,
   ⟨({} : Dev).put F.MCC_CTRL_ENABLE 1, by decide +kernel⟩,
   ⟨(({} : Dev).put F.MCC_CTRL_ENABLE 1).put F.MCC_STAT_MAINT 1, by decide +kernel⟩,
   ⟨{}, by decide +kernel⟩,
   ⟨{}, by decide +kernel⟩,
   ⟨({} : Dev).put F.MCC_STAT_DRAINING 1, by decide +kernel⟩,
   ⟨{}, by decide +kernel⟩,
   ⟨({ mcc := { lines := [⟨2, 3, true, false, [9]⟩] } } : Dev).put F.MCC_STAT_DRAINING 1, _, rfl, by decide +kernel⟩,
   ⟨{}, by decide +kernel⟩,
   ⟨{}, 0, 0, .clean, by decide +kernel⟩,
   ⟨({ srm := { valid := [8192 * 3 + 5] } } : Dev), 3, 5, .single, by decide +kernel⟩,
   ⟨{}, 3, 5, .double, by decide +kernel⟩,
   ⟨({ srm := { valid := [8192 * 3 + 5] } } : Dev), 3, 5, .double, _, _, rfl, rfl, by decide +kernel⟩,
   ⟨{}, by decide +kernel⟩,
   ⟨{}, 0, by decide +kernel⟩,
   ⟨{}, 0x8000055F#32, by decide +kernel⟩,
   ⟨{}, 0x80000560#32, by decide +kernel⟩⟩

theorem witness_porterInstructionsAct :
    (∃ (d : Dev) (c : Fin 32) (o : DramRead) (word : Ecc), d.live 0x0D = true) ∧
    (∃ (d : Dev) (c : Fin 32) (o : DramRead) (word : Ecc) (e : Dev) (w : List Nat) (m : Move), d.porState c.val = porRun ∧ (d.pch c.val).move = none ∧ (d.pch c.val).wait = none ∧ d.domainUp (addrDomain (d.porPc c.val)) = true ∧ d.porFetch c.val o word = (e, some w) ∧ d.badInstr c.val w = false ∧ pwOp w = 0 ∧ m = e.porMove c.val w ∧ m.srcSpace = 0 ∧ m.dstSpace = 0 ∧ e.inPool m.src m.length = false ∧ e.inPool m.dst m.length = false ∧ (m.dst + m.length ≤ m.src ∨ m.src + m.length ≤ m.dst) ∧ m.down = false ∧ m.staged = false ∧ d.live 0x0D = true) ∧
    (∃ (d : Dev) (c : Fin 32) (o : DramRead) (word : Ecc), d.live 0x0D = true) ∧
    (∃ (d : Dev) (c : Fin 32) (o : DramRead) (word : Ecc) (e : Dev) (w : List Nat), d.porState c.val = porRun ∧ (d.pch c.val).move = none ∧ (d.pch c.val).wait = none ∧ d.domainUp (addrDomain (d.porPc c.val)) = true ∧ d.porFetch c.val o word = (e, some w) ∧ d.badInstr c.val w = false ∧ pwOp w = 1 ∧ (pw w 0).testBit 23 = false ∧ (pw w 0).testBit 22 = false ∧ e.getI F.POR_C_LOOPS_LC0 c.val = 0 ∧ 1 < slice (pw w 1) 0 16 ∧ d.live 0x0D = true) ∧
    (∃ (d : Dev) (c : Fin 32) (o : DramRead) (word : Ecc) (e : Dev) (w : List Nat), d.porState c.val = porRun ∧ (d.pch c.val).move = none ∧ (d.pch c.val).wait = none ∧ d.domainUp (addrDomain (d.porPc c.val)) = true ∧ d.porFetch c.val o word = (e, some w) ∧ d.badInstr c.val w = false ∧ pwOp w = 1 ∧ (pw w 0).testBit 23 = false ∧ e.getI F.POR_C_LOOPS_LC0 c.val = 0 ∧ slice (pw w 1) 0 16 = 1 ∧ d.live 0x0D = true) ∧
    (∃ (d : Dev) (c : Fin 32) (o : DramRead) (word : Ecc), d.live 0x0D = true) ∧
    (∃ (d : Dev) (c : Fin 32) (o : DramRead) (word : Ecc) (e : Dev) (w : List Nat), d.porState c.val = porRun ∧ (d.pch c.val).move = none ∧ (d.pch c.val).wait = none ∧ d.domainUp (addrDomain (d.porPc c.val)) = true ∧ d.porFetch c.val o word = (e, some w) ∧ d.badInstr c.val w = false ∧ pwOp w = 2 ∧ slice (pw w 0) 22 2 = 1 ∧ e.por.ch.length = 32 ∧ e.getI F.POR_EVCNT_COUNT (slice (pw w 0) 10 4) < pw w 1 ∧ d.live 0x0D = true) ∧
    (∃ (d : Dev) (c : Fin 32) (o : DramRead) (word : Ecc), d.live 0x0D = true) ∧
    (∃ (d : Dev) (c : Fin 32) (o : DramRead) (word : Ecc) (e : Dev) (w : List Nat), d.porState c.val = porRun ∧ (d.pch c.val).move = none ∧ (d.pch c.val).wait = none ∧ d.domainUp (addrDomain (d.porPc c.val)) = true ∧ d.porFetch c.val o word = (e, some w) ∧ d.badInstr c.val w = false ∧ pwOp w = 3 ∧ (pw w 0).testBit 19 = true ∧ (pw w 0).testBit 18 = false ∧ (pw w 0).testBit 17 = false ∧ d.live 0x0D = true) ∧
    (∃ (d : Dev) (c : Fin 32) (o : DramRead) (word : Ecc) (e : Dev) (w : List Nat), d.porState c.val = porRun ∧ (d.pch c.val).move = none ∧ (d.pch c.val).wait = none ∧ d.domainUp (addrDomain (d.porPc c.val)) = true ∧ d.porFetch c.val o word = (e, some w) ∧ d.badInstr c.val w = true ∧ d.live 0x0D = true) ∧
    (∃ (d : Dev) (c : Fin 32) (o : DramRead) (word : Ecc) (e : Dev) (w : List Nat), d.porState c.val = porRun ∧ (d.pch c.val).move = none ∧ (d.pch c.val).wait = none ∧ d.domainUp (addrDomain (d.porPc c.val)) = true ∧ d.porFetch c.val o word = (e, some w) ∧ d.badInstr c.val w = false ∧ pwOp w ≠ 0 ∧ d.live 0x0D = true) ∧
    (∃ (d : Dev) (c : Fin 32) (o : DramRead) (word : Ecc), d.porState c.val = porRun ∧ (d.pch c.val).move = none ∧ (d.pch c.val).wait = none ∧ d.domainUp (addrDomain (d.porPc c.val)) = false ∧ d.live 0x0D = true) ∧
    (∃ (d : Dev) (c : Fin 32) (o : DramRead) (word : Ecc), d.porState c.val ≠ porRun ∧ d.live 0x0D = true) :=
  ⟨⟨{}, 0, .good, .clean, by decide +kernel⟩,
   ⟨(((({ mem := [(0x10000005, 1#8), (0x10000009, 4#8), (0x1000000B, 16#8), (0x10000011, 8#8), (0x10000013, 16#8)] } : Dev).putI F.POR_C_PC_LO_PC 3 0x800000).putI F.POR_C_STAT_STATE 3 1).put F.DDR_CONFIG_CAP_GIB 32), 3, .good, .clean, (((({ mem := [(0x10000005, 1#8), (0x10000009, 4#8), (0x1000000B, 16#8), (0x10000011, 8#8), (0x10000013, 16#8)] } : Dev).putI F.POR_C_PC_LO_PC 3 0x800000).putI F.POR_C_STAT_STATE 3 1).put F.DDR_CONFIG_CAP_GIB 32), [0, 256, 268436480, 0, 268437504, 0, 0, 0], ⟨0, 0, 0x10000400, 0x10000800, 0, 256, 0, false, false, false, false⟩, by decide +kernel⟩,
   ⟨{}, 0, .good, .clean, by decide +kernel⟩,
   ⟨(((({ mem := [(0x10000003, 16#8), (0x10000004, 3#8), (0x10000006, 1#8)] } : Dev).putI F.POR_C_PC_LO_PC 3 0x800000).putI F.POR_C_STAT_STATE 3 1).put F.DDR_CONFIG_CAP_GIB 32), 3, .good, .clean, (((({ mem := [(0x10000003, 16#8), (0x10000004, 3#8), (0x10000006, 1#8)] } : Dev).putI F.POR_C_PC_LO_PC 3 0x800000).putI F.POR_C_STAT_STATE 3 1).put F.DDR_CONFIG_CAP_GIB 32), [268435456, 65539, 0, 0, 0, 0, 0, 0], by decide +kernel⟩,
   ⟨(((({ mem := [(0x10000003, 16#8), (0x10000004, 1#8), (0x10000006, 1#8)] } : Dev).putI F.POR_C_PC_LO_PC 3 0x800000).putI F.POR_C_STAT_STATE 3 1).put F.DDR_CONFIG_CAP_GIB 32), 3, .good, .clean, (((({ mem := [(0x10000003, 16#8), (0x10000004, 1#8), (0x10000006, 1#8)] } : Dev).putI F.POR_C_PC_LO_PC 3 0x800000).putI F.POR_C_STAT_STATE 3 1).put F.DDR_CONFIG_CAP_GIB 32), [268435456, 65537, 0, 0, 0, 0, 0, 0], by decide +kernel⟩,
   ⟨{}, 0, .good, .clean, by decide +kernel⟩,
   ⟨(((({ mem := [(0x10000002, 64#8), (0x10000003, 32#8), (0x10000004, 5#8)] } : Dev).putI F.POR_C_PC_LO_PC 3 0x800000).putI F.POR_C_STAT_STATE 3 1).put F.DDR_CONFIG_CAP_GIB 32), 3, .good, .clean, (((({ mem := [(0x10000002, 64#8), (0x10000003, 32#8), (0x10000004, 5#8)] } : Dev).putI F.POR_C_PC_LO_PC 3 0x800000).putI F.POR_C_STAT_STATE 3 1).put F.DDR_CONFIG_CAP_GIB 32), [541065216, 5, 0, 0, 0, 0, 0, 0], by decide +kernel⟩,
   ⟨{}, 0, .good, .clean, by decide +kernel⟩,
   ⟨(((({ mem := [(0x10000002, 24#8), (0x10000003, 48#8)] } : Dev).putI F.POR_C_PC_LO_PC 3 0x800000).putI F.POR_C_STAT_STATE 3 1).put F.DDR_CONFIG_CAP_GIB 32), 3, .good, .clean, (((({ mem := [(0x10000002, 24#8), (0x10000003, 48#8)] } : Dev).putI F.POR_C_PC_LO_PC 3 0x800000).putI F.POR_C_STAT_STATE 3 1).put F.DDR_CONFIG_CAP_GIB 32), [806879232, 0, 0, 0, 0, 0, 0, 0], by decide +kernel⟩,
   ⟨(((({ mem := [(0x10000003, 64#8)] } : Dev).putI F.POR_C_PC_LO_PC 3 0x800000).putI F.POR_C_STAT_STATE 3 1).put F.DDR_CONFIG_CAP_GIB 32), 3, .good, .clean, (((({ mem := [(0x10000003, 64#8)] } : Dev).putI F.POR_C_PC_LO_PC 3 0x800000).putI F.POR_C_STAT_STATE 3 1).put F.DDR_CONFIG_CAP_GIB 32), [0x40000000, 0, 0, 0, 0, 0, 0, 0], by decide +kernel⟩,
   ⟨(((({ mem := [(0x10000002, 24#8), (0x10000003, 48#8)] } : Dev).putI F.POR_C_PC_LO_PC 3 0x800000).putI F.POR_C_STAT_STATE 3 1).put F.DDR_CONFIG_CAP_GIB 32), 3, .good, .clean, (((({ mem := [(0x10000002, 24#8), (0x10000003, 48#8)] } : Dev).putI F.POR_C_PC_LO_PC 3 0x800000).putI F.POR_C_STAT_STATE 3 1).put F.DDR_CONFIG_CAP_GIB 32), [0x30180000, 0, 0, 0, 0, 0, 0, 0], by decide +kernel⟩,
   ⟨(((((({ mem := [] } : Dev).putI F.POR_C_PC_LO_PC 3 0x800000).putI F.POR_C_STAT_STATE 3 1).put F.DDR_CONFIG_CAP_GIB 32).putI F.POR_C_PC_HI_PC 3 1).setBit F.CLK_PD_STAT_OFF 8 true), 3, .good, .clean, by decide +kernel⟩,
   ⟨{}, 3, .good, .clean, by decide +kernel⟩⟩

theorem witness_porterChannelsRunAndEnd :
    (∃ (d : Dev) (c : Fin 32) (byCore : Bool) (v : BitVec 30), d.clk.stopped = false) ∧
    (∃ (d : Dev) (c : Fin 32) (byCore : Bool) (v : BitVec 30) (e : Dev), e = d.ctrlOpts c.val (2 ^ 31 + v.toNat) ∧ d.porRests c.val = true ∧ e.porRests c.val = true ∧ byCore = false ∧ d.clk.stopped = false) ∧
    (∃ (d : Dev) (c : Fin 32) (byCore : Bool) (v : BitVec 30), d.porRests c.val = false ∧ d.clk.stopped = false) ∧
    (∃ (d : Dev) (c : Fin 32) (v : BitVec 30), d.clk.stopped = false) ∧
    (∃ (d : Dev) (c : Fin 32) (v : BitVec 30), d.porRests c.val = false ∧ d.clk.stopped = false) ∧
    (∃ (d : Dev) (c : Fin 32) (v : BitVec 30), d.porRests c.val = true ∧ d.clk.stopped = false) ∧
    (∃ (d : Dev) (c : Fin 32) (x : BurstEnd), d.live 0x0D = true) ∧
    (∃ (d : Dev) (c : Fin 32) (x : BurstEnd) (m : Move) (b : Burst) (e : Dev), e = (d.sramCheck (m.srcAt b.off) b.n x.word).1 ∧ (d.pch c.val).move = some m ∧ b = d.burstOf m (d.remain c.val) ∧ (d.pch c.val).wait = some .data ∧ d.porState c.val = porWait ∧ m.srcSpace = 0 ∧ m.dstSpace = 0 ∧ m.staged = false ∧ m.dstAt b.off < granBase ∧ d.porRead (m.srcAt b.off) b.n m.cls x = (e, false, (d.sramRead (m.srcAt b.off) b.n)) ∧ d.live 0x0D = true) ∧
    (∃ (d : Dev) (c : Fin 32) (x : BurstEnd) (m : Move), (d.pch c.val).move = some m ∧ (d.pch c.val).wait = some .data ∧ d.porState c.val = porWait ∧ m.srcSpace = 1 ∧ x.hostError = true ∧ d.live 0x0D = true) ∧
    (∃ (d : Dev) (c : Fin 32), d.live 0x0D = true) ∧
    (∃ (d : Dev) (c : Fin 32), (d.pch c.val).wait = some .barrier ∧ d.porState c.val ≠ porPaused ∧ d.live 0x0D = true) ∧
    (∃ (d : Dev) (c : Fin 32), (d.pch c.val).wait ≠ some .barrier ∧ d.live 0x0D = true) ∧
    (∃ (d : Dev) (c : Fin 32) (left : Nat), d.live 0x0D = true) ∧
    (∃ (d : Dev) (c : Fin 32) (left : Nat) (n : Nat) (v : Nat) (e : Dev), e = (d.setPch c.val (fun x => { x with held := true })).putI F.POR_EVCNT_COUNT n (d.getI F.POR_EVCNT_COUNT n - v) ∧ d.porState c.val = porWait ∧ (d.pch c.val).wait = some (.counter n v) ∧ v ≤ d.getI F.POR_EVCNT_COUNT n ∧ d.por.ch.length = 32 ∧ d.live 0x0D = true) ∧
    (∃ (d : Dev) (c : Fin 32), d.live 0x0D = true) ∧
    (∃ (d : Dev) (c : Fin 32) (n : Nat) (v : Nat), d.porState c.val = porWait ∧ (d.pch c.val).wait = some (.counter n v) ∧ d.live 0x0D = true) ∧
    (∃ (d : Dev) (c : Fin 32), (d.pch c.val).wait = none ∧ d.live 0x0D = true) ∧
    (∃ (d : Dev) (v : BitVec 32), d.clk.stopped = false) ∧
    (∃ (d : Dev) (v : BitVec 32), v = 5#32 ∧ at' d.por.sw 0 0 < 255 ∧ at' d.por.sw 2 0 < 255 ∧ d.clk.stopped = false) ∧
    (∃ (d : Dev) (v : BitVec 32), v = 0x80000000#32 ∧ at' d.por.sw 31 0 = 255 ∧ d.clk.stopped = false) ∧
    (∃ (d : Dev) (v : BitVec 32), d.clk.stopped = false) ∧
    (∃ (d : Dev) (c : Fin 32) (off : Fin 128) (v : BitVec 32), d.clk.stopped = false) ∧
    (∃ (d : Dev) (c : Fin 32) (off : Fin 128) (v : BitVec 32), off.val = 0x08 ∧ d.porRests c.val = false ∧ d.clk.stopped = false) ∧
    (∃ (d : Dev) (c : Fin 32) (off : Fin 128) (v : BitVec 32), off.val = 0x08 ∧ d.porRests c.val = true ∧ d.clk.stopped = false) ∧
    (∃ (d : Dev) (c : Fin 32), d.live 0x0D = true) ∧
    (∃ (d : Dev) (c : Fin 32) (m : Move), (d.pch c.val).move = some m ∧ m.srcSpace = 1 ∧ (d.pch c.val).wait = some .data ∧ d.hif.noTimeout = false ∧ d.porState c.val ≠ porPaused ∧ d.live 0x0D = true) ∧
    (∃ (d : Dev) (c : Fin 32), (d.pch c.val).move = none ∧ d.live 0x0D = true) :=
  ⟨⟨{}, 0, true, 0, by decide +kernel⟩,
   ⟨{}, 31, false, 0x31#30, _, rfl, by decide +kernel⟩,
   ⟨({} : Dev).putI F.POR_C_STAT_STATE 31 1, 31, false, 0x31#30, by decide +kernel⟩,
   ⟨{}, 0, 0, by decide +kernel⟩,
   ⟨({} : Dev).putI F.POR_C_STAT_STATE 31 1, 31, 5#30, by decide +kernel⟩,
   ⟨{}, 31, 0x32#30, by decide +kernel⟩,
   ⟨{}, 0, ⟨[], .good, .clean, true, false⟩, by decide +kernel⟩,
   ⟨(((({ por := { ch := [{ move := some ⟨0, 0, 0x10000400, 0x10000800, 0, 256, 0, false, false, false, false⟩, wait := some .data }] } } : Dev).putI F.POR_C_STAT_STATE 0 2).putI F.POR_C_REMAIN_REMAIN 0 256)), 0, ⟨[], .good, .clean, true, false⟩, ⟨0, 0, 0x10000400, 0x10000800, 0, 256, 0, false, false, false, false⟩, ⟨0, 256, 0, 0⟩, _, rfl, by decide +kernel⟩,
   ⟨(((({ por := { ch := [{ move := some ⟨1, 0, 0x10000400, 0x10000800, 0, 256, 0, false, false, false, false⟩, wait := some .data }] } } : Dev).putI F.POR_C_STAT_STATE 0 2).putI F.POR_C_REMAIN_REMAIN 0 256)), 0, ⟨[], .good, .clean, true, true⟩, ⟨1, 0, 0x10000400, 0x10000800, 0, 256, 0, false, false, false, false⟩, by decide +kernel⟩,
   ⟨{}, 0, by decide +kernel⟩,
   ⟨({ por := { ch := [{ wait := some .barrier }] } } : Dev).putI F.POR_C_STAT_STATE 0 1, 0, by decide +kernel⟩,
   ⟨{}, 0, by decide +kernel⟩,
   ⟨{}, 0, 0, by decide +kernel⟩,
   ⟨(({ por := { ch := { wait := some (.counter 2 3) } :: List.replicate 31 {} } } : Dev).putI F.POR_EVCNT_COUNT 2 4).putI F.POR_C_STAT_STATE 0 2, 0, 0, 2, 3, _, rfl, by decide +kernel⟩,
   ⟨{}, 0, by decide +kernel⟩,
   ⟨({ por := { ch := [{ wait := some (.counter 2 3) }] } } : Dev).putI F.POR_C_STAT_STATE 0 2, 0, 2, 3, by decide +kernel⟩,
   ⟨{}, 0, by decide +kernel⟩,
   ⟨{}, 0, by decide +kernel⟩,
   ⟨{}, 5#32, by decide +kernel⟩,
   ⟨{ por := { sw := List.replicate 32 255 } }, 0x80000000#32, by decide +kernel⟩,
   ⟨{}, 0, by decide +kernel⟩,
   ⟨{}, 0, 0, 0, by decide +kernel⟩,
   ⟨({} : Dev).putI F.POR_C_STAT_STATE 31 1, 31, 8, 64#32, by decide +kernel⟩,
   ⟨{}, 31, 8, 64#32, by decide +kernel⟩,
   ⟨{}, 0, by decide +kernel⟩,
   ⟨(((({ por := { ch := [{ move := some ⟨1, 0, 0x10000400, 0x10000800, 0, 256, 0, false, false, false, false⟩, wait := some .data }] } } : Dev).putI F.POR_C_STAT_STATE 0 2).putI F.POR_C_REMAIN_REMAIN 0 256)), 0, ⟨1, 0, 0x10000400, 0x10000800, 0, 256, 0, false, false, false, false⟩, by decide +kernel⟩,
   ⟨{}, 0, by decide +kernel⟩⟩

theorem witness_linkStatesErrorsAndResets :
    (∃ (d : Dev), d.live 0x0E = true) ∧
    (∃ (d : Dev), d.get F.HIF_LINK_STATE = 0 ∧ d.live 0x0E = true) ∧
    (∃ (d : Dev), d.get F.HIF_LINK_STATE ≠ 0 ∧ d.live 0x0E = true) ∧
    (∃ (d : Dev) (w : Fin 4) (r : Fin 5) (rev : Bool), d.live 0x0E = true) ∧
    (∃ (d : Dev) (w : Fin 4) (r : Fin 5) (rev : Bool), (d.on F.CLK_MON_STAT_ON_ROSC = true ∨ d.onI F.CLK_PLL_STAT_LOCKED 3 = false) ∧ d.live 0x0E = true) ∧
    (∃ (d : Dev) (w : Fin 4) (r : Fin 5) (rev : Bool) (e : Dev), e = (((((d.put F.HIF_LINK_STATE 3).put F.HIF_LINK_WIDTH (2 ^ w.val)).put F.HIF_LINK_RATE (r.val + 1)).flag F.HIF_LANES_REVERSED rev).put
        F.HIF_INT_STAT_LINK 1).post 0x4001 [2 ^ w.val, r.val + 1, rev.toNat] ∧ d.powered 9 = true ∧ d.on F.CLK_MON_STAT_ON_ROSC = false ∧ d.onI F.CLK_PLL_STAT_LOCKED 3 = true ∧ d.get F.HIF_LANES_FAILED = 0 ∧ d.topRate = 5 ∧ d.get F.HIF_LINK_RATE = 0 ∧ d.live 0x0E = true) ∧
    (∃ (d : Dev) (lane : Fin 8), d.live 0x0E = true) ∧
    (∃ (d : Dev) (lane : Fin 8), d.bit F.HIF_LANES_FAILED lane.val = true ∧ d.live 0x0E = true) ∧
    (∃ (d : Dev) (lane : Fin 8), d.bit F.HIF_LANES_FAILED lane.val = false ∧ d.get F.HIF_LINK_WIDTH = 1 ∧ d.on F.HIF_LANES_REVERSED = false ∧ lane ≠ 0 ∧ d.live 0x0E = true) ∧
    (∃ (d : Dev) (e : LinkErr), d.live 0x0E = true) ∧
    (∃ (d : Dev) (x : LinkErr) (b : Fin 32) (h : Nat), x = .uncorrectable b h ∧ d.live 0x0E = true) ∧
    (∃ (d : Dev) (x : LinkErr) (b : Fin 32), x = .correctable b ∧ (d.inc F.HIF_AER_CE_COUNT).get F.HIF_AER_CE_COUNT % 1024 ≠ 0 ∧ d.live 0x0E = true) ∧
    (∃ (d : Dev) (header : BitVec 32), d.live 0x0E = true) ∧
    (∃ (d : Dev) (header : BitVec 32), d.get F.HIF_LINK_STATE = 3 ∧ d.hif.memOn = true ∧ d.live 0x0E = true) ∧
    (∃ (d : Dev) (header : BitVec 32), (d.get F.HIF_LINK_STATE = 0 ∨ d.hif.memOn = false) ∧ d.live 0x0E = true) ∧
    (∃ (d : Dev) (q : ConfigAsk), d.live 0x0E = true) ∧
    (∃ (d : Dev) (q : ConfigAsk) (m : Bool), d.get F.HIF_LINK_STATE = 3 ∧ q = .linkControl m ∧ d.hif.seenL0 = true ∧ d.live 0x0E = true) ∧
    (∃ (d : Dev) (q : ConfigAsk) (m : Bool), d.get F.HIF_LINK_STATE = 3 ∧ q = .timeout m ∧ d.hif.seenL0 = true ∧ d.live 0x0E = true) ∧
    (∃ (d : Dev) (q : ConfigAsk), d.get F.HIF_LINK_STATE = 3 ∧ d.hif.seenL0 = false ∧ d.live 0x0E = true) ∧
    (∃ (d : Dev) (q : ConfigAsk) (dw : Fin 1024), q = .read dw ∧ dw = 4 ∧ d.get F.HIF_LINK_STATE = 5 ∧ d.hif.seenL0 = true ∧ d.live 0x0E = true) ∧
    (∃ (d : Dev) (q : ConfigAsk) (dw : Fin 1024), d.get F.HIF_LINK_STATE = 3 ∧ q = .read dw ∧ (dw.val = 8 ∨ dw.val = 9 ∨ dw.val = 12) ∧ d.hif.seenL0 = true ∧ d.live 0x0E = true) ∧
    (∃ (d : Dev) (q : ConfigAsk) (dw : Fin 1024) (v : BitVec 32), d.get F.HIF_LINK_STATE = 3 ∧ q = .bar dw v ∧ dw = 6 ∧ d.hif.seenL0 = true ∧ d.live 0x0E = true) ∧
    (∃ (d : Dev) (q : ConfigAsk) (e : Bool) (m : Bool), d.get F.HIF_LINK_STATE = 3 ∧ q = .command e m ∧ d.hif.seenL0 = true ∧ d.live 0x0E = true) ∧
    (∃ (d : Dev), d.live 0x0E = true) ∧
    (∃ (d : Dev), d.hif.l1On = true ∧ d.get F.HIF_LINK_STATE = 3 ∧ d.hostBurst = false ∧ d.cmd.ctxs.any (fun (c : Ctx) => c.state == .committed) = false ∧ d.live 0x0E = true) ∧
    (∃ (d : Dev), d.hif.l1On = false ∧ d.live 0x0E = true) ∧
    (∃ (d : Dev) (kind : Fin 3), d.live 0x0E = true) ∧
    (∃ (d : Dev) (kind : Fin 3) (e1 : Dev) (e2 : Dev) (e3 : Dev), e1 = ({ d with cmd := { d.cmd with ctxs := [], posted := [], series := false } } : Dev).put F.DRV_CONTEXTS_IN_USE 0 ∧ e2 = (e1.put F.DRV_LOCKS_IN_USE 0).each (List.range 16) (fun x r => (x.putI F.HIF_RING_CFG_ENABLE r 0).putI F.HIF_RING_STAT_WAITING r 0) ∧ e3 = { e2 with hif := { e2.hif with
        wins := List.replicate 256 {}, armed := List.replicate 16 false, full := List.replicate 16 false, msix := List.replicate 64 {},
        pend := List.replicate 64 false, memOn := false, bars := [0, 0], msixOn := false, fnMask := false, master := false, l1On := false, noTimeout := false,
        mrrs := 512, mps := 128 } } ∧ d.cmd.ctxs = [] ∧ d.cmd.act = none ∧ d.streams = [] ∧ d.drv.seals = [] ∧ d.drv.wb = [] ∧ d.drv.unprog = [] ∧ d.live 0x0E = true) ∧
    (∃ (d : Dev) (v : Fin 64) (dw : Fin 4) (value : BitVec 32), d.live 0x0E = true) ∧
    (∃ (d : Dev) (v : Fin 64) (dw : Fin 4) (value : BitVec 32), d.get F.HIF_LINK_STATE = 3 ∧ d.hif.memOn = true ∧ dw = 2 ∧ (at' d.hif.pend v.val false) = false ∧ d.live 0x0E = true) :=
  ⟨⟨{}, by decide +kernel⟩,
   ⟨{}, by decide +kernel⟩,
   ⟨({} : Dev).put F.HIF_LINK_STATE 3, by decide +kernel⟩,
   ⟨{}, 0, 0, true, by decide +kernel⟩,
   ⟨{}, 3, 4, false, by decide +kernel⟩,
   ⟨({} : Dev).putI F.CLK_PLL_STAT_LOCKED 3 1, 3, 4, false, _, rfl, by decide +kernel⟩,
   ⟨{}, 0, by decide +kernel⟩,
   ⟨({} : Dev).setBit F.HIF_LANES_FAILED 7 true, 7, by decide +kernel⟩,
   ⟨({} : Dev).put F.HIF_LINK_WIDTH 1, 7, by decide +kernel⟩,
   ⟨{}, .receiver 0, by decide +kernel⟩,
   ⟨{}, .uncorrectable 4 9, 4, 9, by decide +kernel⟩,
   ⟨{}, .correctable 4, 4, by decide +kernel⟩,
   ⟨{}, 0, by decide +kernel⟩,
   ⟨({ hif := { memOn := true } } : Dev).put F.HIF_LINK_STATE 3, 7#32, by decide +kernel⟩,
   ⟨{}, 7#32, by decide +kernel⟩,
   ⟨{}, .read 0, by decide +kernel⟩,
   ⟨({ hif := { seenL0 := true } } : Dev).put F.HIF_LINK_STATE 3, .linkControl true, true, by decide +kernel⟩,
   ⟨({ hif := { seenL0 := true } } : Dev).put F.HIF_LINK_STATE 3, .timeout true, true, by decide +kernel⟩,
   ⟨({} : Dev).put F.HIF_LINK_STATE 3, .read 4, by decide +kernel⟩,
   ⟨({ hif := { seenL0 := true } } : Dev).put F.HIF_LINK_STATE 5, .read 4, 4, by decide +kernel⟩,
   ⟨({ hif := { seenL0 := true } } : Dev).put F.HIF_LINK_STATE 3, .read 12, 12, by decide +kernel⟩,
   ⟨({ hif := { seenL0 := true } } : Dev).put F.HIF_LINK_STATE 3, .bar 6 0xFFFFFFFF#32, 6, 0xFFFFFFFF#32, by decide +kernel⟩,
   ⟨({ hif := { seenL0 := true } } : Dev).put F.HIF_LINK_STATE 3, .command true true, true, true, by decide +kernel⟩,
   ⟨{}, by decide +kernel⟩,
   ⟨({ hif := { l1On := true } } : Dev).put F.HIF_LINK_STATE 3, by decide +kernel⟩,
   ⟨{}, by decide +kernel⟩,
   ⟨{}, 0, by decide +kernel⟩,
   ⟨{ cmd := { posted := [(1, 7)] } }, 2, _, _, _, rfl, rfl, rfl, by decide +kernel⟩,
   ⟨{}, 0, 0, 0, by decide +kernel⟩,
   ⟨({ hif := { memOn := true } } : Dev).put F.HIF_LINK_STATE 3, 63, 2, 5#32, by decide +kernel⟩⟩

theorem witness_windowsRingsAndMirror :
    (∃ (d : Dev) (w : Fin 256) (start : Fin 16) (l : List (BitVec 32 × BitVec 4)), d.live 0x0E = true) ∧
    (∃ (d : Dev) (w : Fin 256) (start : Fin 16) (l : List (BitVec 32 × BitVec 4)) (v : BitVec 32), d.get F.HIF_LINK_STATE = 3 ∧ d.hif.memOn = true ∧ start.val < 12 ∧ l = [(v, 15#4)] ∧ d.winPhase w.val = 0 ∧ d.live 0x0E = true) ∧
    (∃ (d : Dev) (w : Fin 256) (start : Fin 16) (l : List (BitVec 32 × BitVec 4)) (v : BitVec 32), d.get F.HIF_LINK_STATE = 3 ∧ d.hif.memOn = true ∧ start.val < 12 ∧ l = [(v, 15#4)] ∧ d.winPhase w.val ≠ 0 ∧ d.live 0x0E = true) ∧
    (∃ (d : Dev) (w : Fin 256) (v : BitVec 32) (all : Bool), d.live 0x0E = true) ∧
    (∃ (d : Dev) (w : Fin 256) (v : BitVec 32) (all : Bool), d.get F.HIF_LINK_STATE = 3 ∧ d.hif.memOn = true ∧ all = false ∧ d.live 0x0E = true) ∧
    (∃ (d : Dev) (w : Fin 256) (v : BitVec 32) (all : Bool), d.get F.HIF_LINK_STATE = 3 ∧ d.hif.memOn = true ∧ all = true ∧ v.toNat.testBit 31 = true ∧ v.toNat.testBit 30 = false ∧ (d.win w.val).phase ≠ 0 ∧ d.live 0x0E = true) ∧
    (∃ (d : Dev) (w : Fin 256) (v : BitVec 32) (all : Bool) (k : Ctx), d.get F.HIF_LINK_STATE = 3 ∧ d.hif.memOn = true ∧ all = true ∧ v.toNat.testBit 31 = true ∧ v.toNat.testBit 30 = false ∧ (d.win w.val).phase = 0 ∧ k = { num := 0, words := (d.win w.val).words, window := w.val, ring := v.toNat % 16, hold := v.toNat.testBit 29 } ∧ d.goReason k (v.toNat / 16 % 2 ^ 25 != 0) ≠ 0 ∧ d.live 0x0E = true) ∧
    (∃ (d : Dev) (w : Fin 256) (v : BitVec 32) (all : Bool) (k : Ctx), d.get F.HIF_LINK_STATE = 3 ∧ d.hif.memOn = true ∧ all = true ∧ v.toNat.testBit 31 = true ∧ v.toNat.testBit 30 = false ∧ (d.win w.val).phase = 0 ∧ k = { num := 0, words := (d.win w.val).words, window := w.val, ring := v.toNat % 16, hold := v.toNat.testBit 29 } ∧ d.goReason k (v.toNat / 16 % 2 ^ 25 != 0) = 0 ∧ d.live 0x0E = true) ∧
    (∃ (d : Dev) (w : Fin 256), d.live 0x0E = true) ∧
    (∃ (d : Dev) (w : Fin 256), d.get F.HIF_LINK_STATE = 3 ∧ d.hif.memOn = true ∧ (d.win w.val).phase = 2 ∧ d.live 0x0E = true) ∧
    (∃ (d : Dev) (w : Fin 256), d.get F.HIF_LINK_STATE = 3 ∧ d.hif.memOn = true ∧ (d.win w.val).phase ≠ 2 ∧ d.live 0x0E = true) ∧
    (∃ (d : Dev) (bar2 : Bool) (off : BitVec 20) (len : Fin 65), d.live 0x0E = true) ∧
    (∃ (d : Dev) (bar2 : Bool) (off : BitVec 20) (len : Fin 65) (w : Nat), d.get F.HIF_LINK_STATE = 3 ∧ d.hif.memOn = true ∧ (len = 4 ∨ len = 8) ∧ (if bar2 = true then off.toNat else off.toNat % 2 ^ 14) % len.val = 0 ∧ d.earlyWindow bar2 (if bar2 = true then off.toNat else off.toNat % 2 ^ 14) = some w ∧ d.live 0x0E = true) ∧
    (∃ (d : Dev) (bar2 : Bool) (off : BitVec 20) (len : Fin 65), d.get F.HIF_LINK_STATE = 3 ∧ d.hif.memOn = true ∧ len = 4 ∧ (if bar2 = true then off.toNat else off.toNat % 2 ^ 14) % 4 = 0 ∧ d.earlyWindow bar2 (if bar2 = true then off.toNat else off.toNat % 2 ^ 14) = none ∧ d.live 0x0E = true) ∧
    (∃ (d : Dev) (bar2 : Bool) (off : BitVec 20) (len : Fin 65), d.get F.HIF_LINK_STATE = 3 ∧ d.hif.memOn = true ∧ len ≠ 4 ∧ len ≠ 8 ∧ d.live 0x0E = true) ∧
    (∃ (d : Dev) (v : Bool), d.clk.stopped = false) ∧
    (∃ (d : Dev) (v : Bool), d.on F.TWN_CTRL_PAUSE = false ∧ v = true ∧ d.clk.stopped = false) ∧
    (∃ (d : Dev) (v : Bool), d.on F.TWN_CTRL_PAUSE = v ∧ d.clk.stopped = false) ∧
    (∃ (d : Dev) (r : Fin 16) (v : BitVec 32), d.live 0x0E = true) ∧
    (∃ (d : Dev) (r : Fin 16) (v : BitVec 32), d.get F.HIF_LINK_STATE = 3 ∧ d.hif.memOn = true ∧ d.ringSize r.val ≤ v.toNat % 2 ^ 16 ∧ d.live 0x0E = true) ∧
    (∃ (d : Dev) (r : Fin 16) (v : BitVec 32) (e : Dev) (e2 : Dev), e = d.putI F.HIF_RING_HEAD_HEAD r.val 2 ∧ e2 = { e with cmd := { e.cmd with posted := consumeTags r.val 1 d.cmd.posted }, hif := { e.hif with full := e.hif.full.set r.val false } } ∧ d.get F.HIF_LINK_STATE = 3 ∧ d.hif.memOn = true ∧ d.getI F.HIF_RING_CFG_ENABLE r.val = 0 ∧ d.ringSize r.val = 16 ∧ v.toNat = 2 ∧ d.getI F.HIF_RING_HEAD_HEAD r.val = 1 ∧ d.getI F.HIF_RING_TAIL_TAIL r.val = 2 ∧ d.live 0x0E = true) ∧
    (∃ (d : Dev) (r : Fin 16) (v : BitVec 31), d.live 0x0E = true) ∧
    (∃ (d : Dev) (r : Fin 16) (v : BitVec 31) (e : Dev) (e2 : Dev), e = ((d.putI F.HIF_RING_CFG_IEN r.val (v.toNat / 2 ^ 30)).putI F.HIF_RING_CFG_VECTOR r.val (v.toNat / 2 ^ 16)).putI F.HIF_RING_CFG_LOG2 r.val v.toNat ∧ e2 = (((e.putI F.HIF_RING_HEAD_HEAD r.val 0).putI F.HIF_RING_TAIL_TAIL r.val 0).putI F.HIF_RING_TAIL_PHASE r.val 1).putI F.HIF_RING_CFG_ENABLE r.val 1 ∧ d.get F.HIF_LINK_STATE = 3 ∧ d.hif.memOn = true ∧ d.getI F.HIF_RING_CFG_ENABLE r.val = 0 ∧ 4 ≤ v.toNat % 32 ∧ v.toNat % 32 ≤ 16 ∧ d.live 0x0E = true) ∧
    (∃ (d : Dev) (r : Fin 16) (v : BitVec 31), d.get F.HIF_LINK_STATE = 3 ∧ d.hif.memOn = true ∧ d.getI F.HIF_RING_CFG_ENABLE r.val = 1 ∧ d.live 0x0E = true) ∧
    (∃ (d : Dev) (r : Fin 16) (v : BitVec 31), d.live 0x0E = true) ∧
    (∃ (d : Dev) (r : Fin 16) (v : BitVec 31) (e : Dev), e = ((d.putI F.HIF_RING_STAT_CFG_IGN r.val 1).post 0x400C [r.val, 0x1000 + 0x20 * r.val + 8]).putI F.HIF_RING_CFG_ENABLE r.val 0 ∧ d.get F.HIF_LINK_STATE = 3 ∧ d.hif.memOn = true ∧ d.getI F.HIF_RING_CFG_ENABLE r.val = 1 ∧ d.cmd.ctxs = [] ∧ d.cmd.posted = [] ∧ d.live 0x0E = true) ∧
    (∃ (d : Dev) (r : Fin 16) (which : Fin 4) (v : BitVec 64), d.live 0x0E = true) ∧
    (∃ (d : Dev) (r : Fin 16) (which : Fin 4) (v : BitVec 64), d.get F.HIF_LINK_STATE = 3 ∧ d.hif.memOn = true ∧ d.getI F.HIF_RING_CFG_ENABLE r.val = 0 ∧ which = 0 ∧ d.live 0x0E = true) ∧
    (∃ (d : Dev) (r : Fin 16) (which : Fin 4) (v : BitVec 64), d.get F.HIF_LINK_STATE = 3 ∧ d.hif.memOn = true ∧ d.getI F.HIF_RING_CFG_ENABLE r.val = 0 ∧ which = 3 ∧ d.live 0x0E = true) ∧
    (∃ (d : Dev) (r : Fin 16) (which : Fin 4) (v : BitVec 64), d.get F.HIF_LINK_STATE = 3 ∧ d.hif.memOn = true ∧ d.getI F.HIF_RING_CFG_ENABLE r.val = 1 ∧ which = 1 ∧ d.live 0x0E = true) ∧
    (∃ (d : Dev) (n : Nat) (arrived : Bool), d.live 0x0F = true) ∧
    (∃ (d : Dev) (n : Nat) (arrived : Bool) (x : Ctx), arrived = false ∧ d.ctx n = some x ∧ d.entryReady x = true ∧ d.ringFull x.ring = false ∧ d.live 0x0F = true) ∧
    (∃ (d : Dev) (n : Nat) (arrived : Bool), arrived = false ∧ d.ctx n = none ∧ d.live 0x0F = true) ∧
    (∃ (d : Dev) (i : Fin 18), d.live 0x0F = true) :=
  ⟨⟨{}, 0, 0, [], by decide +kernel⟩,
   ⟨({ hif := { memOn := true } } : Dev).put F.HIF_LINK_STATE 3, 255, 11, [(5#32, 15#4)], 5#32, by decide +kernel⟩,
   ⟨({ hif := { memOn := true, wins := List.replicate 256 { phase := 1, lo := 5, hi := 6 } } } : Dev).put F.HIF_LINK_STATE 3, 255, 11, [(5#32, 15#4)], 5#32, by decide +kernel⟩,
   ⟨{}, 0, 0, true, by decide +kernel⟩,
   ⟨({ hif := { memOn := true } } : Dev).put F.HIF_LINK_STATE 3, 3, 0x80000000#32, false, by decide +kernel⟩,
   ⟨({ hif := { memOn := true, wins := List.replicate 256 { phase := 1, lo := 5, hi := 6 } } } : Dev).put F.HIF_LINK_STATE 3, 3, 0x80000000#32, true, by decide +kernel⟩,
   ⟨({ hif := { memOn := true } } : Dev).put F.HIF_LINK_STATE 3, 3, 0x80000000#32, true, { num := 0, words := List.replicate 12 0, window := 3, ring := 0, hold := false }, by decide +kernel⟩,
   ⟨(({ mod := { mode := .serve }, hif := { memOn := true, wins := List.replicate 256 { words := [4, 9, 0, 0, 0, 0, 0, 0, 0, 0, 0, 0] } } } : Dev).putI F.HIF_RING_CFG_ENABLE 5 1 : Dev).put F.HIF_LINK_STATE 3, 3, 0x80000005#32, true, { num := 0, words := [4, 9, 0, 0, 0, 0, 0, 0, 0, 0, 0, 0], window := 3, ring := 5, hold := false }, by decide +kernel⟩,
   ⟨{}, 0, by decide +kernel⟩,
   ⟨({ hif := { memOn := true, wins := List.replicate 256 { phase := 2, lo := 5, hi := 6 } } } : Dev).put F.HIF_LINK_STATE 3, 7, by decide +kernel⟩,
   ⟨({ hif := { memOn := true, wins := List.replicate 256 { phase := 1, lo := 5, hi := 6 } } } : Dev).put F.HIF_LINK_STATE 3, 7, by decide +kernel⟩,
   ⟨{}, true, 0, 0, by decide +kernel⟩,
   ⟨({ hif := { memOn := true, wins := List.replicate 256 { phase := 1, lo := 5, hi := 6 } } } : Dev).put F.HIF_LINK_STATE 3, false, 0x1F8#20, 8, 7, by decide +kernel⟩,
   ⟨({ hif := { memOn := true, wins := List.replicate 256 { phase := 2, lo := 5, hi := 6 } } } : Dev).put F.HIF_LINK_STATE 3, false, 0x1FC#20, 4, by decide +kernel⟩,
   ⟨({ hif := { memOn := true, wins := List.replicate 256 { phase := 2, lo := 5, hi := 6 } } } : Dev).put F.HIF_LINK_STATE 3, true, 0x1FC#20, 2, by decide +kernel⟩,
   ⟨{}, true, by decide +kernel⟩,
   ⟨{}, true, by decide +kernel⟩,
   ⟨{}, false, by decide +kernel⟩,
   ⟨{}, 0, 0, by decide +kernel⟩,
   ⟨((({ hif := { memOn := true }, cmd := { posted := [(3, 7)] } } : Dev).putI F.HIF_RING_CFG_LOG2 3 4).putI F.HIF_RING_TAIL_TAIL 3 2 : Dev).put F.HIF_LINK_STATE 3, 3, 16#32, by decide +kernel⟩,
   ⟨((({ hif := { memOn := true }, cmd := { posted := [(3, 7)] } } : Dev).putI F.HIF_RING_CFG_LOG2 3 4).putI F.HIF_RING_TAIL_TAIL 3 2|>.putI F.HIF_RING_HEAD_HEAD 3 1 : Dev).put F.HIF_LINK_STATE 3, 3, 2#32, _, _, rfl, rfl, by decide +kernel⟩,
   ⟨{}, 0, 0, by decide +kernel⟩,
   ⟨({ hif := { memOn := true } } : Dev).put F.HIF_LINK_STATE 3, 15, 0x40070008#31, _, _, rfl, rfl, by decide +kernel⟩,
   ⟨(({ hif := { memOn := true } } : Dev).putI F.HIF_RING_CFG_ENABLE 15 1 : Dev).put F.HIF_LINK_STATE 3, 15, 8#31, by decide +kernel⟩,
   ⟨{}, 0, 0, by decide +kernel⟩,
   ⟨(({ hif := { memOn := true } } : Dev).putI F.HIF_RING_CFG_ENABLE 15 1 : Dev).put F.HIF_LINK_STATE 3, 15, 8#31, _, rfl, by decide +kernel⟩,
   ⟨{}, 0, 0, 0, by decide +kernel⟩,
   ⟨({ hif := { memOn := true } } : Dev).put F.HIF_LINK_STATE 3, 15, 0, 64#64, by decide +kernel⟩,
   ⟨({ hif := { memOn := true } } : Dev).put F.HIF_LINK_STATE 3, 15, 3, 0x1000000040#64, by decide +kernel⟩,
   ⟨(({ hif := { memOn := true } } : Dev).putI F.HIF_RING_CFG_ENABLE 15 1 : Dev).put F.HIF_LINK_STATE 3, 15, 1, 64#64, by decide +kernel⟩,
   ⟨{}, 0, true, by decide +kernel⟩,
   ⟨((({ cmd := { ctxs := [{ num := 4, words := List.replicate 12 0, window := 3, ring := 5, hold := false, state := .committed }] } } : Dev).put F.HIF_LINK_STATE 3).putI F.HIF_RING_CFG_ENABLE 5 1).putI F.HIF_RING_CFG_LOG2 5 4, 4, false, { num := 4, words := List.replicate 12 0, window := 3, ring := 5, hold := false, state := .committed }, by decide +kernel⟩,
   ⟨{}, 3, false, by decide +kernel⟩,
   ⟨{}, 0, by decide +kernel⟩⟩

theorem witness_commandsMoveData :
    (∃ (d : Dev) (n : Nat) (v : HostView) (bad : List Nat), d.live 0x10 = true) ∧
    (∃ (d : Dev) (n : Nat) (v : HostView) (bad : List Nat) (c : Ctx) (c' : Ctx) (w : ListWalk) (e : Dev), e = d.dispatch n ∧ d.ctx n = some c ∧ c.opcode = opRead ∧ e.ctx n = some c' ∧ w = e.dataList v c' (4096 * c.count) ∧ w.bad = none ∧ v.error = none ∧ d.mayDispatch c = true ∧ d.metaPoisoned c = false ∧ d.live 0x10 = true) ∧
    (∃ (d : Dev) (n : Nat) (v : HostView) (bad : List Nat) (c : Ctx) (c' : Ctx) (w : ListWalk) (k : Nat) (e : Dev), e = d.dispatch n ∧ d.ctx n = some c ∧ c.opcode = opRead ∧ e.ctx n = some c' ∧ w = e.dataList v c' (4096 * c.count) ∧ w.bad = none ∧ v.error = some k ∧ d.mayDispatch c = true ∧ d.metaPoisoned c = false ∧ d.live 0x10 = true) ∧
    (∃ (d : Dev) (n : Nat) (v : HostView) (bad : List Nat) (c : Ctx) (c' : Ctx) (w : ListWalk) (e : Dev), e = d.dispatch n ∧ d.ctx n = some c ∧ c.opcode = opRead ∧ e.ctx n = some c' ∧ w = e.dataList v c' (4096 * c.count) ∧ w.bad = some (0, 4) ∧ d.mayDispatch c = true ∧ d.metaPoisoned c = false ∧ d.live 0x10 = true) ∧
    (∃ (d : Dev) (n : Nat) (bad : List Nat), d.live 0x10 = true) ∧
    (∃ (d : Dev) (n : Nat) (bad : List Nat) (c : Ctx) (e : Dev), e = d.dispatch n ∧ d.ctx n = some c ∧ c.opcode = opVerify ∧ d.mayDispatch c = true ∧ d.metaPoisoned c = false ∧ d.live 0x10 = true) ∧
    (∃ (d : Dev) (n : Nat) (v : HostView), d.live 0x10 = true) ∧
    (∃ (d : Dev) (n : Nat) (v : HostView) (c : Ctx) (c' : Ctx) (w : ListWalk) (e : Dev), e = d.reserveCheck.dispatch n ∧ d.reserveCheck.ctx n = some c ∧ c.opcode = opWrite ∧ d.reserveCheck.writeMay c = true ∧ d.reserveCheck.mayDispatch c = true ∧ d.reserveCheck.metaPoisoned c = false ∧ e.ctx n = some c' ∧ w = e.dataList v c' (4096 * c.count) ∧ w.bad = none ∧ v.error = none ∧ d.live 0x10 = true) ∧
    (∃ (d : Dev) (n : Nat) (v : HostView) (c : Ctx) (c' : Ctx) (w : ListWalk) (k : Nat) (e : Dev), e = d.reserveCheck.dispatch n ∧ d.reserveCheck.ctx n = some c ∧ c.opcode = opWrite ∧ d.reserveCheck.writeMay c = true ∧ d.reserveCheck.mayDispatch c = true ∧ d.reserveCheck.metaPoisoned c = false ∧ e.ctx n = some c' ∧ w = e.dataList v c' (4096 * c.count) ∧ w.bad = none ∧ v.error = some k ∧ d.live 0x10 = true) ∧
    (∃ (d : Dev) (n : Nat), d.live 0x10 = true) ∧
    (∃ (d : Dev) (n : Nat) (c : Ctx) (e : Dev) (l : Dev), e = d.dispatch n ∧ l = e.flushTags (fun _ _ => true) ∧ d.ctx n = some c ∧ c.opcode = opFlush ∧ c.ordered = false ∧ l.notDurable c.waitOrder = 0 ∧ d.mayDispatch c = true ∧ d.metaPoisoned c = false ∧ d.live 0x10 = true) ∧
    (∃ (d : Dev) (n : Nat), d.live 0x10 = true) ∧
    (∃ (d : Dev) (n : Nat) (c : Ctx) (e : Dev), e = d.dispatch n ∧ d.ctx n = some c ∧ c.opcode = opRelease ∧ c.count ≠ 2 ^ 36 ∧ d.mayDispatch c = true ∧ d.metaPoisoned c = false ∧ d.live 0x10 = true) ∧
    (∃ (d : Dev) (n : Nat) (c : Ctx) (e : Dev), e = d.dispatch n ∧ d.ctx n = some c ∧ c.opcode = opRelease ∧ c.count = 2 ^ 36 ∧ d.mayDispatch c = true ∧ d.metaPoisoned c = false ∧ d.live 0x10 = true) :=
  ⟨⟨{}, 0, ⟨[], none⟩, [], by decide +kernel⟩,
   ⟨{ cmd := { ctxs := [⟨1, [1, 7, 0, 0, 1, 0, 4096, 0, 1, 0], 0, 0, false, .queued, false, false, false, 0, 0, 0, none, 0, 0, 0, 0, 0, none, [], false, false⟩] }, mod := { mode := Mode.serve }, drv := { restored := true } }, 1, ⟨[(4096, [0, 0, 2, 0, 0, 0, 0, 0, 0, 16, 0, 0, 0, 0, 0, 0])], none⟩, [], ⟨1, [1, 7, 0, 0, 1, 0, 4096, 0, 1, 0], 0, 0, false, .queued, false, false, false, 0, 0, 0, none, 0, 0, 0, 0, 0, none, [], false, false⟩, ⟨1, [1, 7, 0, 0, 1, 0, 4096, 0, 1, 0], 0, 0, false, .dispatched, false, false, true, 0, 0, 0, none, 0, 0, 0, 0, 0, none, [], false, false⟩, ⟨1, 4096, [(0x20000, 4096)], none⟩, _, rfl, by decide +kernel⟩,
   ⟨{ cmd := { ctxs := [⟨1, [1, 7, 0, 0, 1, 0, 4096, 0, 1, 0], 0, 0, false, .queued, false, false, false, 0, 0, 0, none, 0, 0, 0, 0, 0, none, [], false, false⟩] }, mod := { mode := Mode.serve }, drv := { restored := true } }, 1, ⟨[(4096, [0, 0, 2, 0, 0, 0, 0, 0, 0, 16, 0, 0, 0, 0, 0, 0])], some 5⟩, [], ⟨1, [1, 7, 0, 0, 1, 0, 4096, 0, 1, 0], 0, 0, false, .queued, false, false, false, 0, 0, 0, none, 0, 0, 0, 0, 0, none, [], false, false⟩, ⟨1, [1, 7, 0, 0, 1, 0, 4096, 0, 1, 0], 0, 0, false, .dispatched, false, false, true, 0, 0, 0, none, 0, 0, 0, 0, 0, none, [], false, false⟩, ⟨1, 4096, [(0x20000, 4096)], none⟩, 5, _, rfl, by decide +kernel⟩,
   ⟨{ cmd := { ctxs := [⟨1, [1, 7, 0, 0, 1, 0, 4096, 0, 1, 0], 0, 0, false, .queued, false, false, false, 0, 0, 0, none, 0, 0, 0, 0, 0, none, [], false, false⟩] }, mod := { mode := Mode.serve }, drv := { restored := true } }, 1, ⟨[], none⟩, [], ⟨1, [1, 7, 0, 0, 1, 0, 4096, 0, 1, 0], 0, 0, false, .queued, false, false, false, 0, 0, 0, none, 0, 0, 0, 0, 0, none, [], false, false⟩, ⟨1, [1, 7, 0, 0, 1, 0, 4096, 0, 1, 0], 0, 0, false, .dispatched, false, false, true, 0, 0, 0, none, 0, 0, 0, 0, 0, none, [], false, false⟩, ⟨0, 0, [], some (0, 4)⟩, _, rfl, by decide +kernel⟩,
   ⟨{}, 0, [], by decide +kernel⟩,
   ⟨{ cmd := { ctxs := [⟨1, [6, 7, 3, 0, 2, 0, 0, 0, 0, 0], 0, 0, false, .queued, false, false, false, 0, 0, 0, none, 0, 0, 0, 0, 0, none, [], false, false⟩] }, mod := { mode := Mode.serve }, drv := { restored := true } }, 1, [], ⟨1, [6, 7, 3, 0, 2, 0, 0, 0, 0, 0], 0, 0, false, .queued, false, false, false, 0, 0, 0, none, 0, 0, 0, 0, 0, none, [], false, false⟩, _, rfl, by decide +kernel⟩,
   ⟨{}, 0, ⟨[], none⟩, by decide +kernel⟩,
   ⟨(({ cmd := { ctxs := [⟨1, [2, 7, 5, 0, 1, 0, 4096, 0, 1, 0], 0, 0, false, .queued, false, false, false, 0, 0, 0, none, 0, 0, 0, 0, 0, none, [], false, false⟩] }, mod := { mode := Mode.serve }, drv := { restored := true }, cfg := { sections := [⟨0x10, 0, [1, 1, 8, 1, 1, 0, 0, 0, 32, 28, 15, 0, 0, 32, 0, 0, 0,0,0,0,0,0,0,0,0,0,0,0,0,0,0,0, 0,0,0,0, 255,31,0,0, 0,0,2,0, 0,1, 0,0, 0,0,0,0, 0,0,0,0,0,0,0,0,0,0,0,0]⟩] } } : Dev).put F.GRN_POOL_TILES_TILES 1024), 1, ⟨[(4096, [0, 0, 2, 0, 0, 0, 0, 0, 0, 16, 0, 0, 0, 0, 0, 0])], none⟩, ⟨1, [2, 7, 5, 0, 1, 0, 4096, 0, 1, 0], 0, 0, false, .queued, false, false, false, 0, 0, 0, none, 0, 0, 0, 0, 0, none, [], false, false⟩, ⟨1, [2, 7, 5, 0, 1, 0, 4096, 0, 1, 0], 0, 0, false, .dispatched, false, false, true, 0, 0, 0, none, 0, 0, 0, 0, 0, none, [], false, false⟩, ⟨1, 4096, [(0x20000, 4096)], none⟩, _, rfl, by decide +kernel⟩,
   ⟨(({ cmd := { ctxs := [⟨1, [2, 7, 5, 0, 1, 0, 4096, 0, 1, 0], 0, 0, false, .queued, false, false, false, 0, 0, 0, none, 0, 0, 0, 0, 0, none, [], false, false⟩] }, mod := { mode := Mode.serve }, drv := { restored := true }, cfg := { sections := [⟨0x10, 0, [1, 1, 8, 1, 1, 0, 0, 0, 32, 28, 15, 0, 0, 32, 0, 0, 0,0,0,0,0,0,0,0,0,0,0,0,0,0,0,0, 0,0,0,0, 255,31,0,0, 0,0,2,0, 0,1, 0,0, 0,0,0,0, 0,0,0,0,0,0,0,0,0,0,0,0]⟩] } } : Dev).put F.GRN_POOL_TILES_TILES 1024), 1, ⟨[(4096, [0, 0, 2, 0, 0, 0, 0, 0, 0, 16, 0, 0, 0, 0, 0, 0])], some 9⟩, ⟨1, [2, 7, 5, 0, 1, 0, 4096, 0, 1, 0], 0, 0, false, .queued, false, false, false, 0, 0, 0, none, 0, 0, 0, 0, 0, none, [], false, false⟩, ⟨1, [2, 7, 5, 0, 1, 0, 4096, 0, 1, 0], 0, 0, false, .dispatched, false, false, true, 0, 0, 0, none, 0, 0, 0, 0, 0, none, [], false, false⟩, ⟨1, 4096, [(0x20000, 4096)], none⟩, 9, _, rfl, by decide +kernel⟩,
   ⟨{}, 0, by decide +kernel⟩,
   ⟨{ cmd := { ctxs := [⟨1, [4, 7, 0, 0, 0, 0, 0, 0, 0, 0], 0, 0, false, .queued, false, false, false, 0, 0, 0, none, 0, 0, 0, 0, 0, none, [], false, false⟩] }, mod := { mode := Mode.serve }, drv := { restored := true } }, 1, ⟨1, [4, 7, 0, 0, 0, 0, 0, 0, 0, 0], 0, 0, false, .queued, false, false, false, 0, 0, 0, none, 0, 0, 0, 0, 0, none, [], false, false⟩, _, _, rfl, rfl, by decide +kernel⟩,
   ⟨{}, 0, by decide +kernel⟩,
   ⟨{ cmd := { ctxs := [⟨1, [5, 7, 16, 0, 4, 0, 0, 0, 0, 0], 0, 0, false, .queued, false, false, false, 0, 0, 0, none, 0, 0, 0, 0, 0, none, [], false, false⟩] }, mod := { mode := Mode.serve }, drv := { restored := true } }, 1, ⟨1, [5, 7, 16, 0, 4, 0, 0, 0, 0, 0], 0, 0, false, .queued, false, false, false, 0, 0, 0, none, 0, 0, 0, 0, 0, none, [], false, false⟩, _, rfl, by decide +kernel⟩,
   ⟨{ cmd := { ctxs := [⟨1, [5, 7, 0, 0, 0, 16, 0, 0, 0, 0], 0, 0, false, .queued, false, false, false, 0, 0, 0, none, 0, 0, 0, 0, 0, none, [], false, false⟩] }, mod := { mode := Mode.serve }, drv := { restored := true } }, 1, ⟨1, [5, 7, 0, 0, 0, 16, 0, 0, 0, 0], 0, 0, false, .queued, false, false, false, 0, 0, 0, none, 0, 0, 0, 0, 0, none, [], false, false⟩, _, rfl, by decide +kernel⟩⟩

theorem witness_commandsManage :
    (∃ (d : Dev) (n : Nat), d.clk.stopped = false) ∧
    (∃ (d : Dev) (n : Nat) (c : Ctx) (e : Dev), e = d.dispatch n ∧ d.ctx n = some c ∧ c.opcode = opAbort ∧ d.abortMay c = true ∧ d.mayDispatch c = true ∧ d.metaPoisoned c = false ∧ e.abortTarget c = none ∧ e.cmd.posted.any (fun q => q.2 == c.p0) = false ∧ d.clk.stopped = false) ∧
    (∃ (d : Dev) (n : Nat) (c : Ctx) (e : Dev), e = d.dispatch n ∧ d.ctx n = some c ∧ c.opcode = opAbort ∧ d.abortMay c = true ∧ d.mayDispatch c = true ∧ d.metaPoisoned c = false ∧ e.abortTarget c = none ∧ e.cmd.posted.any (fun q => q.2 == c.p0) = true ∧ d.clk.stopped = false) ∧
    (∃ (d : Dev) (n : Nat) (c : Ctx) (x : Ctx) (e : Dev), e = d.dispatch n ∧ d.ctx n = some c ∧ c.opcode = opAbort ∧ d.abortMay c = true ∧ d.mayDispatch c = true ∧ d.metaPoisoned c = false ∧ e.abortTarget c = some x ∧ [opAbort, opActivate, opResync, opAttest].contains x.opcode = true ∧ d.clk.stopped = false) ∧
    (∃ (d : Dev) (n : Nat) (c : Ctx) (x : Ctx) (e : Dev), e = d.dispatch n ∧ d.ctx n = some c ∧ c.opcode = opAbort ∧ d.abortMay c = true ∧ d.mayDispatch c = true ∧ d.metaPoisoned c = false ∧ e.abortTarget c = some x ∧ [opAbort, opActivate, opResync, opAttest].contains x.opcode = false ∧ x.state = .committed ∧ d.clk.stopped = false) ∧
    (∃ (d : Dev) (n : Nat) (c : Ctx) (x : Ctx) (e : Dev), e = d.dispatch n ∧ d.ctx n = some c ∧ c.opcode = opAbort ∧ d.abortMay c = true ∧ d.mayDispatch c = true ∧ d.metaPoisoned c = false ∧ e.abortTarget c = some x ∧ [opAbort, opActivate, opResync, opAttest].contains x.opcode = false ∧ x.state = .queued ∧ d.clk.stopped = false) ∧
    (∃ (d : Dev) (n : Nat) (c : Ctx) (x : Ctx) (e : Dev), e = d.dispatch n ∧ d.ctx n = some c ∧ c.opcode = opAbort ∧ d.abortMay c = true ∧ d.mayDispatch c = true ∧ d.metaPoisoned c = false ∧ e.abortTarget c = some x ∧ [opAbort, opActivate, opResync, opAttest].contains x.opcode = false ∧ x.state = .dispatched ∧ x.opcode ≠ opFlush ∧ d.clk.stopped = false) ∧
    (∃ (d : Dev) (n : Nat), d.clk.stopped = false) ∧
    (∃ (d : Dev) (n : Nat) (c : Ctx) (e : Dev), e = d.dispatch n ∧ d.ctx n = some c ∧ c.opcode = opStreamOpen ∧ d.mayDispatch c = true ∧ d.metaPoisoned c = false ∧ d.clk.stopped = false) ∧
    (∃ (d : Dev) (n : Nat), d.clk.stopped = false) ∧
    (∃ (d : Dev) (n : Nat) (c : Ctx) (e : Dev), e = d.dispatch n ∧ d.ctx n = some c ∧ c.opcode = opStreamClose ∧ d.mayDispatch c = true ∧ d.metaPoisoned c = false ∧ d.clk.stopped = false) ∧
    (∃ (d : Dev) (n : Nat), d.clk.stopped = false) ∧
    (∃ (d : Dev) (n : Nat) (c : Ctx) (i : Nat) (e : Dev), e = d.dispatch n ∧ d.ctx n = some c ∧ c.opcode = opSealBand ∧ c.p2 = 0 ∧ (List.range 64).find? (fun i => !e.drv.seals.any (fun (b : SealBand) => b.idx == i)) = some i ∧ e.rangeWritten c.lba c.count = false ∧ e.bandsTouched c.lba c.count = [] ∧ d.mayDispatch c = true ∧ d.metaPoisoned c = false ∧ d.clk.stopped = false) ∧
    (∃ (d : Dev) (n : Nat) (c : Ctx) (e : Dev), e = d.dispatch n ∧ d.ctx n = some c ∧ c.opcode = opSealBand ∧ c.p2 = 0 ∧ e.rangeWritten c.lba c.count = true ∧ d.mayDispatch c = true ∧ d.metaPoisoned c = false ∧ d.clk.stopped = false) ∧
    (∃ (d : Dev) (n : Nat), d.clk.stopped = false) ∧
    (∃ (d : Dev) (n : Nat) (c : Ctx) (b : SealBand) (e : Dev), e = d.dispatch n ∧ d.ctx n = some c ∧ c.opcode = opSealBand ∧ c.p2 = 1 ∧ e.drv.seals.find? (fun (b : SealBand) => b.lba == c.lba) = some b ∧ d.mayDispatch c = true ∧ d.metaPoisoned c = false ∧ d.clk.stopped = false) ∧
    (∃ (d : Dev) (n : Nat) (c : Ctx) (e : Dev), e = d.dispatch n ∧ d.ctx n = some c ∧ c.opcode = opSealBand ∧ c.p2 = 1 ∧ e.drv.seals.find? (fun (b : SealBand) => b.lba == c.lba) = none ∧ d.mayDispatch c = true ∧ d.metaPoisoned c = false ∧ d.clk.stopped = false) ∧
    (∃ (d : Dev) (n : Nat) (v : HostView), d.clk.stopped = false) ∧
    (∃ (d : Dev) (n : Nat) (v : HostView) (c : Ctx) (c' : Ctx) (w : ListWalk) (x : Ctx) (e : Dev), e = d.dispatch n ∧ d.ctx n = some c ∧ c.opcode = opIdentify ∧ e.ctx n = some c' ∧ w = e.dataList v c' e.identifyPage.length ∧ w.bad = none ∧ x = { c' with segs := w.segs } ∧ (e.mapCtx n (fun x => { x with segs := w.segs })).ctx n = some x ∧ v.error = none ∧ d.mayDispatch c = true ∧ d.metaPoisoned c = false ∧ d.clk.stopped = false) ∧
    (∃ (d : Dev) (n : Nat) (v : HostView) (lost : List Nat), d.clk.stopped = false) ∧
    (∃ (d : Dev) (n : Nat) (v : HostView) (lost : List Nat) (c : Ctx) (e : Dev), e = d.dispatch n ∧ d.ctx n = some c ∧ c.opcode = opLogRead ∧ c.p0 < 64 ∧ d.mayDispatch c = true ∧ d.metaPoisoned c = false ∧ d.clk.stopped = false) ∧
    (∃ (d : Dev) (n : Nat) (v : HostView) (lost : List Nat) (c : Ctx) (e : Dev) (g : Dev), e = d.dispatch n ∧ g = e.each lost Dev.rowUnreadable ∧ d.ctx n = some c ∧ c.opcode = opLogRead ∧ c.p0 = 64 ∧ d.mayDispatch c = true ∧ d.metaPoisoned c = false ∧ d.clk.stopped = false) ∧
    (∃ (d : Dev) (n : Nat), d.clk.stopped = false) ∧
    (∃ (d : Dev) (n : Nat) (c : Ctx) (e : Dev), e = d.dispatch n ∧ d.ctx n = some c ∧ c.opcode = opFeatureGet ∧ d.mayDispatch c = true ∧ d.metaPoisoned c = false ∧ d.clk.stopped = false) ∧
    (∃ (d : Dev) (n : Nat), d.clk.stopped = false) ∧
    (∃ (d : Dev) (n : Nat) (c : Ctx) (e : Dev), e = d.dispatch n ∧ d.ctx n = some c ∧ c.opcode = opFeatureSet ∧ c.p0 = 1 ∧ e.requestReason c.value = none ∧ d.mayDispatch c = true ∧ d.metaPoisoned c = false ∧ d.clk.stopped = false) ∧
    (∃ (d : Dev) (n : Nat) (c : Ctx) (why : Nat) (e : Dev), e = d.dispatch n ∧ d.ctx n = some c ∧ c.opcode = opFeatureSet ∧ c.p0 = 1 ∧ e.requestReason c.value = some why ∧ d.mayDispatch c = true ∧ d.metaPoisoned c = false ∧ d.clk.stopped = false) ∧
    (∃ (d : Dev) (n : Nat), d.clk.stopped = false) ∧
    (∃ (d : Dev) (n : Nat) (c : Ctx) (e : Dev), e = d.dispatch n ∧ d.ctx n = some c ∧ c.opcode = opFeatureSet ∧ c.p0 = 2 ∧ c.value ≤ 86400 ∧ d.mayDispatch c = true ∧ d.metaPoisoned c = false ∧ d.clk.stopped = false) ∧
    (∃ (d : Dev) (n : Nat) (c : Ctx) (e : Dev), e = d.dispatch n ∧ d.ctx n = some c ∧ c.opcode = opFeatureSet ∧ c.p0 = 2 ∧ 86400 < c.value ∧ d.mayDispatch c = true ∧ d.metaPoisoned c = false ∧ d.clk.stopped = false) ∧
    (∃ (d : Dev) (n : Nat), d.clk.stopped = false) ∧
    (∃ (d : Dev) (n : Nat) (c : Ctx) (e : Dev), e = d.dispatch n ∧ d.ctx n = some c ∧ c.opcode = opFeatureSet ∧ c.p0 = 3 ∧ 60 ≤ c.value ∧ c.value ≤ 86400 ∧ d.mayDispatch c = true ∧ d.metaPoisoned c = false ∧ d.clk.stopped = false) ∧
    (∃ (d : Dev) (n : Nat) (c : Ctx) (e : Dev), e = d.dispatch n ∧ d.ctx n = some c ∧ c.opcode = opFeatureSet ∧ c.p0 = 3 ∧ c.value = 59 ∧ d.mayDispatch c = true ∧ d.metaPoisoned c = false ∧ d.clk.stopped = false) ∧
    (∃ (d : Dev) (n : Nat), d.clk.stopped = false) ∧
    (∃ (d : Dev) (n : Nat) (c : Ctx) (e : Dev), e = d.dispatch n ∧ d.ctx n = some c ∧ c.opcode = opFeatureSet ∧ c.p0 = 4 ∧ 3600 ≤ c.value ∧ c.value ≤ e.get F.MIL_LIMITS_FLOOR ∧ e.mod.mode ≠ Mode.ease ∧ d.mayDispatch c = true ∧ d.metaPoisoned c = false ∧ d.clk.stopped = false) ∧
    (∃ (d : Dev) (n : Nat) (c : Ctx) (e : Dev), e = d.dispatch n ∧ d.ctx n = some c ∧ c.opcode = opFeatureSet ∧ c.p0 = 4 ∧ c.value < 3600 ∧ d.mayDispatch c = true ∧ d.metaPoisoned c = false ∧ d.clk.stopped = false) :=
  ⟨⟨{}, 0, by decide +kernel⟩,
   ⟨{ cmd := { ctxs := [⟨2, [8, 9, 7, 0, 0, 0, 0, 0, 0, 0], 0, 0, false, .queued, false, false, false, 0, 0, 0, none, 0, 0, 0, 0, 0, none, [], false, false⟩] }, mod := { mode := Mode.serve }, drv := { restored := true } }, 2, ⟨2, [8, 9, 7, 0, 0, 0, 0, 0, 0, 0], 0, 0, false, .queued, false, false, false, 0, 0, 0, none, 0, 0, 0, 0, 0, none, [], false, false⟩, _, rfl, by decide +kernel⟩,
   ⟨{ cmd := { ctxs := [⟨2, [8, 9, 7, 0, 0, 0, 0, 0, 0, 0], 0, 0, false, .queued, false, false, false, 0, 0, 0, none, 0, 0, 0, 0, 0, none, [], false, false⟩], posted := [(0, 7)] }, mod := { mode := Mode.serve }, drv := { restored := true } }, 2, ⟨2, [8, 9, 7, 0, 0, 0, 0, 0, 0, 0], 0, 0, false, .queued, false, false, false, 0, 0, 0, none, 0, 0, 0, 0, 0, none, [], false, false⟩, _, rfl, by decide +kernel⟩,
   ⟨{ cmd := { ctxs := [⟨1, [38, 7, 0, 0, 0, 0, 0, 0, 0, 0], 0, 0, false, .queued, false, false, false, 0, 0, 0, none, 0, 0, 0, 0, 0, none, [], false, false⟩, ⟨2, [8, 9, 7, 0, 0, 0, 0, 0, 0, 0], 0, 0, false, .queued, false, false, false, 0, 0, 0, none, 0, 0, 0, 0, 0, none, [], false, false⟩] }, mod := { mode := Mode.serve }, drv := { restored := true } }, 2, ⟨2, [8, 9, 7, 0, 0, 0, 0, 0, 0, 0], 0, 0, false, .queued, false, false, false, 0, 0, 0, none, 0, 0, 0, 0, 0, none, [], false, false⟩, ⟨1, [38, 7, 0, 0, 0, 0, 0, 0, 0, 0], 0, 0, false, .queued, false, false, false, 0, 0, 0, none, 0, 0, 0, 0, 0, none, [], false, false⟩, _, rfl, by decide +kernel⟩,
   ⟨{ cmd := { ctxs := [⟨1, [1, 7, 0, 0, 1, 0, 0, 0, 0, 0], 0, 0, false, .committed, false, false, false, 0, 0, 0, none, 0, 0, 0, 0, 0, none, [], false, false⟩, ⟨2, [8, 9, 7, 0, 0, 0, 0, 0, 0, 0], 0, 0, false, .queued, false, false, false, 0, 0, 0, none, 0, 0, 0, 0, 0, none, [], false, false⟩] }, mod := { mode := Mode.serve }, drv := { restored := true } }, 2, ⟨2, [8, 9, 7, 0, 0, 0, 0, 0, 0, 0], 0, 0, false, .queued, false, false, false, 0, 0, 0, none, 0, 0, 0, 0, 0, none, [], false, false⟩, ⟨1, [1, 7, 0, 0, 1, 0, 0, 0, 0, 0], 0, 0, false, .committed, false, false, false, 0, 0, 0, none, 0, 0, 0, 0, 0, none, [], false, false⟩, _, rfl, by decide +kernel⟩,
   ⟨{ cmd := { ctxs := [⟨1, [1, 7, 0, 0, 1, 0, 0, 0, 0, 0], 0, 0, false, .queued, false, false, false, 0, 0, 0, none, 0, 0, 0, 0, 0, none, [], false, false⟩, ⟨2, [8, 9, 7, 0, 0, 0, 0, 0, 0, 0], 0, 0, false, .queued, false, false, false, 0, 0, 0, none, 0, 0, 0, 0, 0, none, [], false, false⟩] }, mod := { mode := Mode.serve }, drv := { restored := true } }, 2, ⟨2, [8, 9, 7, 0, 0, 0, 0, 0, 0, 0], 0, 0, false, .queued, false, false, false, 0, 0, 0, none, 0, 0, 0, 0, 0, none, [], false, false⟩, ⟨1, [1, 7, 0, 0, 1, 0, 0, 0, 0, 0], 0, 0, false, .queued, false, false, false, 0, 0, 0, none, 0, 0, 0, 0, 0, none, [], false, false⟩, _, rfl, by decide +kernel⟩,
   ⟨{ cmd := { ctxs := [⟨1, [1, 7, 0, 0, 1, 0, 0, 0, 0, 0], 0, 0, false, .dispatched, false, false, false, 0, 0, 0, none, 0, 0, 0, 0, 0, none, [], false, false⟩, ⟨2, [8, 9, 7, 0, 0, 0, 0, 0, 0, 0], 0, 0, false, .queued, false, false, false, 0, 0, 0, none, 0, 0, 0, 0, 0, none, [], false, false⟩] }, mod := { mode := Mode.serve }, drv := { restored := true } }, 2, ⟨2, [8, 9, 7, 0, 0, 0, 0, 0, 0, 0], 0, 0, false, .queued, false, false, false, 0, 0, 0, none, 0, 0, 0, 0, 0, none, [], false, false⟩, ⟨1, [1, 7, 0, 0, 1, 0, 0, 0, 0, 0], 0, 0, false, .dispatched, false, false, false, 0, 0, 0, none, 0, 0, 0, 0, 0, none, [], false, false⟩, _, rfl, by decide +kernel⟩,
   ⟨{}, 0, by decide +kernel⟩,
   ⟨{ cmd := { ctxs := [⟨1, [16, 7, 5, 0, 0, 0, 0, 0, 0, 0], 0, 0, false, .queued, false, false, false, 0, 0, 0, none, 0, 0, 0, 0, 0, none, [], false, false⟩] }, mod := { mode := Mode.serve }, drv := { restored := true } }, 1, ⟨1, [16, 7, 5, 0, 0, 0, 0, 0, 0, 0], 0, 0, false, .queued, false, false, false, 0, 0, 0, none, 0, 0, 0, 0, 0, none, [], false, false⟩, _, rfl, by decide +kernel⟩,
   ⟨{}, 0, by decide +kernel⟩,
   ⟨{ cmd := { ctxs := [⟨1, [17, 7, 5, 0, 0, 0, 0, 0, 0, 0], 0, 0, false, .queued, false, false, false, 0, 0, 0, none, 0, 0, 0, 0, 0, none, [], false, false⟩] }, mod := { mode := Mode.serve }, drv := { restored := true } }, 1, ⟨1, [17, 7, 5, 0, 0, 0, 0, 0, 0, 0], 0, 0, false, .queued, false, false, false, 0, 0, 0, none, 0, 0, 0, 0, 0, none, [], false, false⟩, _, rfl, by decide +kernel⟩,
   ⟨{}, 0, by decide +kernel⟩,
   ⟨{ cmd := { ctxs := [⟨1, [24, 7, 1024, 0, 2048, 0, 0, 0, 0, 0], 0, 0, false, .queued, false, false, false, 0, 0, 0, none, 0, 0, 0, 0, 0, none, [], false, false⟩] }, mod := { mode := Mode.serve }, drv := { restored := true } }, 1, ⟨1, [24, 7, 1024, 0, 2048, 0, 0, 0, 0, 0], 0, 0, false, .queued, false, false, false, 0, 0, 0, none, 0, 0, 0, 0, 0, none, [], false, false⟩, 0, _, rfl, by decide +kernel⟩,
   ⟨{ cmd := { ctxs := [⟨1, [24, 7, 1024, 0, 2048, 0, 0, 0, 0, 0], 0, 0, false, .queued, false, false, false, 0, 0, 0, none, 0, 0, 0, 0, 0, none, [], false, false⟩] }, mod := { mode := Mode.serve }, drv := { restored := true, wb := [⟨1500, 0, 1, 0⟩] } }, 1, ⟨1, [24, 7, 1024, 0, 2048, 0, 0, 0, 0, 0], 0, 0, false, .queued, false, false, false, 0, 0, 0, none, 0, 0, 0, 0, 0, none, [], false, false⟩, _, rfl, by decide +kernel⟩,
   ⟨{}, 0, by decide +kernel⟩,
   ⟨{ cmd := { ctxs := [⟨1, [24, 7, 1024, 0, 0, 0, 0, 0, 0, 1], 0, 0, false, .queued, false, false, false, 0, 0, 0, none, 0, 0, 0, 0, 0, none, [], false, false⟩] }, mod := { mode := Mode.serve }, drv := { restored := true, seals := [⟨3, 1024, 2048, 1024, false, 1024, []⟩] } }, 1, ⟨1, [24, 7, 1024, 0, 0, 0, 0, 0, 0, 1], 0, 0, false, .queued, false, false, false, 0, 0, 0, none, 0, 0, 0, 0, 0, none, [], false, false⟩, ⟨3, 1024, 2048, 1024, false, 1024, []⟩, _, rfl, by decide +kernel⟩,
   ⟨{ cmd := { ctxs := [⟨1, [24, 7, 1024, 0, 0, 0, 0, 0, 0, 1], 0, 0, false, .queued, false, false, false, 0, 0, 0, none, 0, 0, 0, 0, 0, none, [], false, false⟩] }, mod := { mode := Mode.serve }, drv := { restored := true } }, 1, ⟨1, [24, 7, 1024, 0, 0, 0, 0, 0, 0, 1], 0, 0, false, .queued, false, false, false, 0, 0, 0, none, 0, 0, 0, 0, 0, none, [], false, false⟩, _, rfl, by decide +kernel⟩,
   ⟨{}, 0, ⟨[], none⟩, by decide +kernel⟩,
   ⟨{ cmd := { ctxs := [⟨1, [32, 7, 0, 0, 0, 0, 4096, 0, 1, 0], 0, 0, false, .queued, false, false, false, 0, 0, 0, none, 0, 0, 0, 0, 0, none, [], false, false⟩] }, mod := { mode := Mode.serve }, drv := { restored := true } }, 1, ⟨[(4096, [0, 0, 2, 0, 0, 0, 0, 0, 0, 16, 0, 0, 0, 0, 0, 0])], none⟩, ⟨1, [32, 7, 0, 0, 0, 0, 4096, 0, 1, 0], 0, 0, false, .queued, false, false, false, 0, 0, 0, none, 0, 0, 0, 0, 0, none, [], false, false⟩, ⟨1, [32, 7, 0, 0, 0, 0, 4096, 0, 1, 0], 0, 0, false, .dispatched, false, false, false, 0, 0, 0, none, 0, 0, 0, 0, 0, none, [], false, false⟩, ⟨1, 4096, [(0x20000, 4096)], none⟩, ⟨1, [32, 7, 0, 0, 0, 0, 4096, 0, 1, 0], 0, 0, false, .dispatched, false, false, false, 0, 0, 0, none, 0, 0, 0, 0, 0, none, [(0x20000, 4096)], false, false⟩, _, rfl, by decide +kernel⟩,
   ⟨{}, 0, ⟨[], none⟩, [], by decide +kernel⟩,
   ⟨{ cmd := { ctxs := [⟨1, [33, 7, 2, 0, 0, 0, 4096, 0, 1, 0], 0, 0, false, .queued, false, false, false, 0, 0, 0, none, 0, 0, 0, 0, 0, none, [], false, false⟩] }, mod := { mode := Mode.serve }, drv := { restored := true } }, 1, ⟨[(4096, [0, 0, 2, 0, 0, 0, 0, 0, 0, 16, 0, 0, 0, 0, 0, 0])], none⟩, [3], ⟨1, [33, 7, 2, 0, 0, 0, 4096, 0, 1, 0], 0, 0, false, .queued, false, false, false, 0, 0, 0, none, 0, 0, 0, 0, 0, none, [], false, false⟩, _, rfl, by decide +kernel⟩,
   ⟨{ cmd := { ctxs := [⟨1, [33, 7, 64, 0, 0, 0, 4096, 0, 1, 0], 0, 0, false, .queued, false, false, false, 0, 0, 0, none, 0, 0, 0, 0, 0, none, [], false, false⟩] }, mod := { mode := Mode.serve }, drv := { restored := true } }, 1, ⟨[(4096, [0, 0, 2, 0, 0, 0, 0, 0, 0, 16, 0, 0, 0, 0, 0, 0])], none⟩, [3], ⟨1, [33, 7, 64, 0, 0, 0, 4096, 0, 1, 0], 0, 0, false, .queued, false, false, false, 0, 0, 0, none, 0, 0, 0, 0, 0, none, [], false, false⟩, _, _, rfl, rfl, by decide +kernel⟩,
   ⟨{}, 0, by decide +kernel⟩,
   ⟨{ cmd := { ctxs := [⟨1, [34, 7, 2, 0, 0, 0, 0, 0, 0, 0], 0, 0, false, .queued, false, false, false, 0, 0, 0, none, 0, 0, 0, 0, 0, none, [], false, false⟩] }, mod := { mode := Mode.serve }, drv := { restored := true } }, 1, ⟨1, [34, 7, 2, 0, 0, 0, 0, 0, 0, 0], 0, 0, false, .queued, false, false, false, 0, 0, 0, none, 0, 0, 0, 0, 0, none, [], false, false⟩, _, rfl, by decide +kernel⟩,
   ⟨{}, 0, by decide +kernel⟩,
   ⟨{ cmd := { ctxs := [⟨1, [35, 7, 1, 0, 3, 0, 0, 0, 0, 0], 0, 0, false, .queued, false, false, false, 0, 0, 0, none, 0, 0, 0, 0, 0, none, [], false, false⟩] }, mod := { mode := Mode.serve }, drv := { restored := true } }, 1, ⟨1, [35, 7, 1, 0, 3, 0, 0, 0, 0, 0], 0, 0, false, .queued, false, false, false, 0, 0, 0, none, 0, 0, 0, 0, 0, none, [], false, false⟩, _, rfl, by decide +kernel⟩,
   ⟨{ cmd := { ctxs := [⟨1, [35, 7, 1, 0, 2, 0, 0, 0, 0, 0], 0, 0, false, .queued, false, false, false, 0, 0, 0, none, 0, 0, 0, 0, 0, none, [], false, false⟩] }, mod := { mode := Mode.serve }, drv := { restored := true } }, 1, ⟨1, [35, 7, 1, 0, 2, 0, 0, 0, 0, 0], 0, 0, false, .queued, false, false, false, 0, 0, 0, none, 0, 0, 0, 0, 0, none, [], false, false⟩, 3, _, rfl, by decide +kernel⟩,
   ⟨{}, 0, by decide +kernel⟩,
   ⟨{ cmd := { ctxs := [⟨1, [35, 7, 2, 0, 86400, 0, 0, 0, 0, 0], 0, 0, false, .queued, false, false, false, 0, 0, 0, none, 0, 0, 0, 0, 0, none, [], false, false⟩] }, mod := { mode := Mode.serve }, drv := { restored := true } }, 1, ⟨1, [35, 7, 2, 0, 86400, 0, 0, 0, 0, 0], 0, 0, false, .queued, false, false, false, 0, 0, 0, none, 0, 0, 0, 0, 0, none, [], false, false⟩, _, rfl, by decide +kernel⟩,
   ⟨{ cmd := { ctxs := [⟨1, [35, 7, 2, 0, 86401, 0, 0, 0, 0, 0], 0, 0, false, .queued, false, false, false, 0, 0, 0, none, 0, 0, 0, 0, 0, none, [], false, false⟩] }, mod := { mode := Mode.serve }, drv := { restored := true } }, 1, ⟨1, [35, 7, 2, 0, 86401, 0, 0, 0, 0, 0], 0, 0, false, .queued, false, false, false, 0, 0, 0, none, 0, 0, 0, 0, 0, none, [], false, false⟩, _, rfl, by decide +kernel⟩,
   ⟨{}, 0, by decide +kernel⟩,
   ⟨{ cmd := { ctxs := [⟨1, [35, 7, 3, 0, 60, 0, 0, 0, 0, 0], 0, 0, false, .queued, false, false, false, 0, 0, 0, none, 0, 0, 0, 0, 0, none, [], false, false⟩] }, mod := { mode := Mode.serve }, drv := { restored := true } }, 1, ⟨1, [35, 7, 3, 0, 60, 0, 0, 0, 0, 0], 0, 0, false, .queued, false, false, false, 0, 0, 0, none, 0, 0, 0, 0, 0, none, [], false, false⟩, _, rfl, by decide +kernel⟩,
   ⟨{ cmd := { ctxs := [⟨1, [35, 7, 3, 0, 59, 0, 0, 0, 0, 0], 0, 0, false, .queued, false, false, false, 0, 0, 0, none, 0, 0, 0, 0, 0, none, [], false, false⟩] }, mod := { mode := Mode.serve }, drv := { restored := true } }, 1, ⟨1, [35, 7, 3, 0, 59, 0, 0, 0, 0, 0], 0, 0, false, .queued, false, false, false, 0, 0, 0, none, 0, 0, 0, 0, 0, none, [], false, false⟩, _, rfl, by decide +kernel⟩,
   ⟨{}, 0, by decide +kernel⟩,
   ⟨(({ cmd := { ctxs := [⟨1, [35, 7, 4, 0, 3600, 0, 0, 0, 0, 0], 0, 0, false, .queued, false, false, false, 0, 0, 0, none, 0, 0, 0, 0, 0, none, [], false, false⟩] }, mod := { mode := Mode.serve }, drv := { restored := true } } : Dev).put F.MIL_LIMITS_FLOOR 3600), 1, ⟨1, [35, 7, 4, 0, 3600, 0, 0, 0, 0, 0], 0, 0, false, .queued, false, false, false, 0, 0, 0, none, 0, 0, 0, 0, 0, none, [], false, false⟩, _, rfl, by decide +kernel⟩,
   ⟨{ cmd := { ctxs := [⟨1, [35, 7, 4, 0, 3599, 0, 0, 0, 0, 0], 0, 0, false, .queued, false, false, false, 0, 0, 0, none, 0, 0, 0, 0, 0, none, [], false, false⟩] }, mod := { mode := Mode.serve }, drv := { restored := true } }, 1, ⟨1, [35, 7, 4, 0, 3599, 0, 0, 0, 0, 0], 0, 0, false, .queued, false, false, false, 0, 0, 0, none, 0, 0, 0, 0, 0, none, [], false, false⟩, _, rfl, by decide +kernel⟩⟩

theorem witness_protectedFeaturesAskTheTally :
    (∃ (d : Dev) (n : Nat), d.clk.stopped = false) ∧
    (∃ (d : Dev) (n : Nat) (c : Ctx) (e : Dev), e = d.dispatch n ∧ d.ctx n = some c ∧ c.opcode = opFeatureSet ∧ c.p0 = 0x80 ∧ d.tal.req.isNone = true ∧ e.get F.TAL_KEY_EPOCH_EPOCH ≠ 65535 ∧ c.value = e.get F.TAL_KEY_EPOCH_EPOCH + 1 ∧ d.mayDispatch c = true ∧ d.metaPoisoned c = false ∧ d.clk.stopped = false) ∧
    (∃ (d : Dev) (n : Nat) (c : Ctx) (e : Dev), e = d.dispatch n ∧ d.ctx n = some c ∧ c.opcode = opFeatureSet ∧ c.p0 = 0x80 ∧ d.tal.req.isNone = true ∧ e.get F.TAL_KEY_EPOCH_EPOCH = 65535 ∧ d.mayDispatch c = true ∧ d.metaPoisoned c = false ∧ d.clk.stopped = false) ∧
    (∃ (d : Dev) (n : Nat) (c : Ctx) (e : Dev), e = d.dispatch n ∧ d.ctx n = some c ∧ c.opcode = opFeatureSet ∧ c.p0 = 0x80 ∧ d.tal.req.isNone = true ∧ e.get F.TAL_KEY_EPOCH_EPOCH ≠ 65535 ∧ c.value ≠ e.get F.TAL_KEY_EPOCH_EPOCH + 1 ∧ d.mayDispatch c = true ∧ d.metaPoisoned c = false ∧ d.clk.stopped = false) ∧
    (∃ (d : Dev) (n : Nat), d.clk.stopped = false) ∧
    (∃ (d : Dev) (n : Nat) (c : Ctx) (e : Dev) (x : Dev), e = d.dispatch n ∧ x = e.talAsk kindDebug ([]) (some n) ∧ d.ctx n = some c ∧ c.opcode = opFeatureSet ∧ c.p0 = 0x81 ∧ d.tal.req.isNone = true ∧ c.value = 1 ∧ x.tal.req.isSome = true ∧ d.mayDispatch c = true ∧ d.metaPoisoned c = false ∧ d.clk.stopped = false) ∧
    (∃ (d : Dev) (n : Nat) (c : Ctx) (e : Dev) (x : Dev), e = d.dispatch n ∧ x = e.talAsk kindDebug ([]) (some n) ∧ d.ctx n = some c ∧ c.opcode = opFeatureSet ∧ c.p0 = 0x81 ∧ d.tal.req.isNone = true ∧ c.value = 1 ∧ x.tal.req.isSome = false ∧ d.mayDispatch c = true ∧ d.metaPoisoned c = false ∧ d.clk.stopped = false) ∧
    (∃ (d : Dev) (n : Nat) (c : Ctx) (e : Dev), e = d.dispatch n ∧ d.ctx n = some c ∧ c.opcode = opFeatureSet ∧ c.p0 = 0x81 ∧ c.value = 0 ∧ d.mayDispatch c = true ∧ d.metaPoisoned c = false ∧ d.clk.stopped = false) ∧
    (∃ (d : Dev) (n : Nat) (c : Ctx) (e : Dev), e = d.dispatch n ∧ d.ctx n = some c ∧ c.opcode = opFeatureSet ∧ c.p0 = 0x81 ∧ d.tal.req.isNone = true ∧ 1 < c.value ∧ d.mayDispatch c = true ∧ d.metaPoisoned c = false ∧ d.clk.stopped = false) ∧
    (∃ (d : Dev) (n : Nat), d.clk.stopped = false) ∧
    (∃ (d : Dev) (n : Nat) (c : Ctx) (e : Dev) (x : Dev), e = d.dispatch n ∧ x = e.talAsk kindFloor (leBytes 4 (e.get F.TAL_SVN_FLOOR_FLOOR) ++ leBytes 4 c.value) (some n) ∧ d.ctx n = some c ∧ c.opcode = opFeatureSet ∧ c.p0 = 0x82 ∧ d.tal.req.isNone = true ∧ e.get F.TAL_SVN_FLOOR_FLOOR < c.value ∧ c.value ≤ e.cfg.svn ∧ x.tal.req.isSome = true ∧ d.mayDispatch c = true ∧ d.metaPoisoned c = false ∧ d.clk.stopped = false) ∧
    (∃ (d : Dev) (n : Nat) (c : Ctx) (e : Dev), e = d.dispatch n ∧ d.ctx n = some c ∧ c.opcode = opFeatureSet ∧ c.p0 = 0x82 ∧ d.tal.req.isNone = true ∧ c.value ≤ e.get F.TAL_SVN_FLOOR_FLOOR ∧ d.mayDispatch c = true ∧ d.metaPoisoned c = false ∧ d.clk.stopped = false) ∧
    (∃ (d : Dev) (n : Nat) (c : Ctx) (e : Dev), e = d.dispatch n ∧ d.ctx n = some c ∧ c.opcode = opFeatureSet ∧ c.p0 = 0x82 ∧ d.tal.req.isNone = true ∧ e.get F.TAL_SVN_FLOOR_FLOOR < c.value ∧ e.cfg.svn < c.value ∧ d.mayDispatch c = true ∧ d.metaPoisoned c = false ∧ d.clk.stopped = false) ∧
    (∃ (d : Dev) (n : Nat), d.clk.stopped = false) ∧
    (∃ (d : Dev) (n : Nat) (c : Ctx) (b : SealBand) (e : Dev) (x : Dev), e = d.dispatch n ∧ x = e.talAsk kindUnseal (leBytes 8 b.idx ++ leBytes 8 b.lba ++ leBytes 8 b.count) (some n) ∧ d.ctx n = some c ∧ c.opcode = opFeatureSet ∧ c.p0 = 0x83 ∧ d.tal.req.isNone = true ∧ e.drv.seals.find? (fun (b : SealBand) => b.idx == c.value && b.closed) = some b ∧ x.tal.req.isSome = true ∧ d.mayDispatch c = true ∧ d.metaPoisoned c = false ∧ d.clk.stopped = false) ∧
    (∃ (d : Dev) (n : Nat) (c : Ctx) (e : Dev), e = d.dispatch n ∧ d.ctx n = some c ∧ c.opcode = opFeatureSet ∧ c.p0 = 0x83 ∧ d.tal.req.isNone = true ∧ e.drv.seals.find? (fun (b : SealBand) => b.idx == c.value && b.closed) = none ∧ d.mayDispatch c = true ∧ d.metaPoisoned c = false ∧ d.clk.stopped = false) :=
  ⟨⟨{}, 0, by decide +kernel⟩,
   ⟨{ cmd := { ctxs := [⟨1, [35, 7, 128, 0, 1, 0, 0, 0, 0, 0], 0, 0, false, .queued, false, false, false, 0, 0, 0, none, 0, 0, 0, 0, 0, none, [], false, false⟩] }, mod := { mode := Mode.serve }, drv := { restored := true } }, 1, ⟨1, [35, 7, 128, 0, 1, 0, 0, 0, 0, 0], 0, 0, false, .queued, false, false, false, 0, 0, 0, none, 0, 0, 0, 0, 0, none, [], false, false⟩, _, rfl, by decide +kernel⟩,
   ⟨({ cmd := { ctxs := [⟨1, [35, 7, 128, 0, 1, 0, 0, 0, 0, 0], 0, 0, false, .queued, false, false, false, 0, 0, 0, none, 0, 0, 0, 0, 0, none, [], false, false⟩] }, mod := { mode := Mode.serve }, drv := { restored := true } } : Dev).put F.TAL_KEY_EPOCH_EPOCH 65535, 1, ⟨1, [35, 7, 128, 0, 1, 0, 0, 0, 0, 0], 0, 0, false, .queued, false, false, false, 0, 0, 0, none, 0, 0, 0, 0, 0, none, [], false, false⟩, _, rfl, by decide +kernel⟩,
   ⟨{ cmd := { ctxs := [⟨1, [35, 7, 128, 0, 2, 0, 0, 0, 0, 0], 0, 0, false, .queued, false, false, false, 0, 0, 0, none, 0, 0, 0, 0, 0, none, [], false, false⟩] }, mod := { mode := Mode.serve }, drv := { restored := true } }, 1, ⟨1, [35, 7, 128, 0, 2, 0, 0, 0, 0, 0], 0, 0, false, .queued, false, false, false, 0, 0, 0, none, 0, 0, 0, 0, 0, none, [], false, false⟩, _, rfl, by decide +kernel⟩,
   ⟨{}, 0, by decide +kernel⟩,
   ⟨({ cmd := { ctxs := [⟨1, [35, 7, 129, 0, 1, 0, 0, 0, 0, 0], 0, 0, false, .queued, false, false, false, 0, 0, 0, none, 0, 0, 0, 0, 0, none, [], false, false⟩] }, mod := { mode := Mode.serve }, drv := { restored := true } } : Dev).put F.PRS_STAT_PRESENT 1, 1, ⟨1, [35, 7, 129, 0, 1, 0, 0, 0, 0, 0], 0, 0, false, .queued, false, false, false, 0, 0, 0, none, 0, 0, 0, 0, 0, none, [], false, false⟩, _, _, rfl, rfl, by decide +kernel⟩,
   ⟨{ cmd := { ctxs := [⟨1, [35, 7, 129, 0, 1, 0, 0, 0, 0, 0], 0, 0, false, .queued, false, false, false, 0, 0, 0, none, 0, 0, 0, 0, 0, none, [], false, false⟩] }, mod := { mode := Mode.serve }, drv := { restored := true } }, 1, ⟨1, [35, 7, 129, 0, 1, 0, 0, 0, 0, 0], 0, 0, false, .queued, false, false, false, 0, 0, 0, none, 0, 0, 0, 0, 0, none, [], false, false⟩, _, _, rfl, rfl, by decide +kernel⟩,
   ⟨{ cmd := { ctxs := [⟨1, [35, 7, 129, 0, 0, 0, 0, 0, 0, 0], 0, 0, false, .queued, false, false, false, 0, 0, 0, none, 0, 0, 0, 0, 0, none, [], false, false⟩] }, mod := { mode := Mode.serve }, drv := { restored := true } }, 1, ⟨1, [35, 7, 129, 0, 0, 0, 0, 0, 0, 0], 0, 0, false, .queued, false, false, false, 0, 0, 0, none, 0, 0, 0, 0, 0, none, [], false, false⟩, _, rfl, by decide +kernel⟩,
   ⟨{ cmd := { ctxs := [⟨1, [35, 7, 129, 0, 2, 0, 0, 0, 0, 0], 0, 0, false, .queued, false, false, false, 0, 0, 0, none, 0, 0, 0, 0, 0, none, [], false, false⟩] }, mod := { mode := Mode.serve }, drv := { restored := true } }, 1, ⟨1, [35, 7, 129, 0, 2, 0, 0, 0, 0, 0], 0, 0, false, .queued, false, false, false, 0, 0, 0, none, 0, 0, 0, 0, 0, none, [], false, false⟩, _, rfl, by decide +kernel⟩,
   ⟨{}, 0, by decide +kernel⟩,
   ⟨({ cmd := { ctxs := [⟨1, [35, 7, 130, 0, 3, 0, 0, 0, 0, 0], 0, 0, false, .queued, false, false, false, 0, 0, 0, none, 0, 0, 0, 0, 0, none, [], false, false⟩] }, mod := { mode := Mode.serve }, drv := { restored := true }, cfg := { svn := 3 } } : Dev).put F.PRS_STAT_PRESENT 1, 1, ⟨1, [35, 7, 130, 0, 3, 0, 0, 0, 0, 0], 0, 0, false, .queued, false, false, false, 0, 0, 0, none, 0, 0, 0, 0, 0, none, [], false, false⟩, _, _, rfl, rfl, by decide +kernel⟩,
   ⟨{ cmd := { ctxs := [⟨1, [35, 7, 130, 0, 0, 0, 0, 0, 0, 0], 0, 0, false, .queued, false, false, false, 0, 0, 0, none, 0, 0, 0, 0, 0, none, [], false, false⟩] }, mod := { mode := Mode.serve }, drv := { restored := true } }, 1, ⟨1, [35, 7, 130, 0, 0, 0, 0, 0, 0, 0], 0, 0, false, .queued, false, false, false, 0, 0, 0, none, 0, 0, 0, 0, 0, none, [], false, false⟩, _, rfl, by decide +kernel⟩,
   ⟨{ cmd := { ctxs := [⟨1, [35, 7, 130, 0, 1, 0, 0, 0, 0, 0], 0, 0, false, .queued, false, false, false, 0, 0, 0, none, 0, 0, 0, 0, 0, none, [], false, false⟩] }, mod := { mode := Mode.serve }, drv := { restored := true } }, 1, ⟨1, [35, 7, 130, 0, 1, 0, 0, 0, 0, 0], 0, 0, false, .queued, false, false, false, 0, 0, 0, none, 0, 0, 0, 0, 0, none, [], false, false⟩, _, rfl, by decide +kernel⟩,
   ⟨{}, 0, by decide +kernel⟩,
   ⟨({ cmd := { ctxs := [⟨1, [35, 7, 131, 0, 3, 0, 0, 0, 0, 0], 0, 0, false, .queued, false, false, false, 0, 0, 0, none, 0, 0, 0, 0, 0, none, [], false, false⟩] }, mod := { mode := Mode.serve }, drv := { restored := true, seals := [⟨3, 1024, 2048, 1024, true, 1024, []⟩] } } : Dev).put F.PRS_STAT_PRESENT 1, 1, ⟨1, [35, 7, 131, 0, 3, 0, 0, 0, 0, 0], 0, 0, false, .queued, false, false, false, 0, 0, 0, none, 0, 0, 0, 0, 0, none, [], false, false⟩, ⟨3, 1024, 2048, 1024, true, 1024, []⟩, _, _, rfl, rfl, by decide +kernel⟩,
   ⟨{ cmd := { ctxs := [⟨1, [35, 7, 131, 0, 3, 0, 0, 0, 0, 0], 0, 0, false, .queued, false, false, false, 0, 0, 0, none, 0, 0, 0, 0, 0, none, [], false, false⟩] }, mod := { mode := Mode.serve }, drv := { restored := true, seals := [⟨3, 1024, 2048, 1024, false, 1024, []⟩] } }, 1, ⟨1, [35, 7, 131, 0, 3, 0, 0, 0, 0, 0], 0, 0, false, .queued, false, false, false, 0, 0, 0, none, 0, 0, 0, 0, 0, none, [], false, false⟩, _, rfl, by decide +kernel⟩⟩

theorem witness_firmwareResyncAttestAndVendor :
    (∃ (d : Dev) (n : Nat) (v : HostView), d.clk.stopped = false) ∧
    (∃ (d : Dev) (n : Nat) (v : HostView) (c : Ctx) (e : Dev), e = d.dispatch n ∧ d.ctx n = some c ∧ c.opcode = opDownload ∧ e.cfg.sel = none ∧ d.mayDispatch c = true ∧ d.metaPoisoned c = false ∧ d.clk.stopped = false) ∧
    (∃ (d : Dev) (n : Nat) (v : HostView) (c : Ctx) (sel : Selector) (e : Dev), e = d.dispatch n ∧ d.ctx n = some c ∧ c.opcode = opDownload ∧ e.cfg.sel = some sel ∧ sel.slotSize < c.p0 + c.p1 ∧ d.mayDispatch c = true ∧ d.metaPoisoned c = false ∧ d.clk.stopped = false) ∧
    (∃ (d : Dev) (n : Nat) (v : HostView) (c : Ctx) (c' : Ctx) (w : ListWalk) (sel : Selector) (e : Dev), e = d.dispatch n ∧ d.ctx n = some c ∧ c.opcode = opDownload ∧ e.ctx n = some c' ∧ w = e.dataList v c' c.p1 ∧ w.bad = none ∧ e.cfg.sel = some sel ∧ c.p0 + c.p1 ≤ sel.slotSize ∧ v.error = none ∧ d.mayDispatch c = true ∧ d.metaPoisoned c = false ∧ d.clk.stopped = false) ∧
    (∃ (d : Dev) (n : Nat) (v : HostView) (c : Ctx) (c' : Ctx) (w : ListWalk) (sel : Selector) (k : Nat) (e : Dev), e = d.dispatch n ∧ d.ctx n = some c ∧ c.opcode = opDownload ∧ e.ctx n = some c' ∧ w = e.dataList v c' c.p1 ∧ w.bad = none ∧ e.cfg.sel = some sel ∧ c.p0 + c.p1 ≤ sel.slotSize ∧ v.error = some k ∧ d.mayDispatch c = true ∧ d.metaPoisoned c = false ∧ d.clk.stopped = false) ∧
    (∃ (d : Dev) (n : Nat), d.clk.stopped = false) ∧
    (∃ (d : Dev) (n : Nat) (c : Ctx) (e : Dev), e = d.dispatch n ∧ d.ctx n = some c ∧ c.opcode = opActivate ∧ e.mod.recovery = false ∧ e.mod.mode ≠ Mode.safe ∧ d.mayDispatch c = true ∧ d.metaPoisoned c = false ∧ d.clk.stopped = false) ∧
    (∃ (d : Dev) (n : Nat) (c : Ctx) (e : Dev), e = d.dispatch n ∧ d.ctx n = some c ∧ c.opcode = opActivate ∧ e.mod.mode = Mode.safe ∧ e.mod.recovery = false ∧ d.mayDispatch c = true ∧ d.metaPoisoned c = false ∧ d.clk.stopped = false) ∧
    (∃ (d : Dev), d.clk.stopped = false) ∧
    (∃ (d : Dev) (a : Activation), d.cmd.act = some a ∧ a.step = 2 ∧ d.cmd.ctxs.filter (fun (x : Ctx) => x.state == CtxState.queued) = [] ∧ d.clk.stopped = false) ∧
    (∃ (d : Dev) (a : Activation) (x : Ctx), d.cmd.act = some a ∧ a.step = 2 ∧ d.cmd.ctxs.filter (fun (x : Ctx) => x.state == CtxState.queued) = [x] ∧ d.clk.stopped = false) ∧
    (∃ (d : Dev), d.cmd.act = none ∧ d.clk.stopped = false) ∧
    (∃ (d : Dev) (n : Nat) (v : HostView), d.clk.stopped = false) ∧
    (∃ (d : Dev) (n : Nat) (v : HostView) (c : Ctx) (e : Dev), e = d.dispatch n ∧ d.ctx n = some c ∧ c.opcode = opResync ∧ c.p2 = 0 ∧ d.mayDispatch c = true ∧ d.metaPoisoned c = false ∧ d.clk.stopped = false) ∧
    (∃ (d : Dev) (n : Nat) (v : HostView) (c : Ctx) (e : Dev), e = d.dispatch n ∧ d.ctx n = some c ∧ c.opcode = opResync ∧ c.p2 = 1 ∧ d.mayDispatch c = true ∧ d.metaPoisoned c = false ∧ d.clk.stopped = false) ∧
    (∃ (d : Dev) (n : Nat) (v : HostView), d.clk.stopped = false) ∧
    (∃ (d : Dev) (n : Nat) (v : HostView) (c : Ctx) (c' : Ctx) (w : ListWalk) (e : Dev), e = d.dispatch n ∧ d.ctx n = some c ∧ c.opcode = opAttest ∧ e.ctx n = some c' ∧ w = e.dataList v c' 512 ∧ w.bad = none ∧ c.p0 = 0 ∧ d.tal.req.isNone = true ∧ v.error = none ∧ d.mayDispatch c = true ∧ d.metaPoisoned c = false ∧ d.clk.stopped = false) ∧
    (∃ (d : Dev) (n : Nat) (v : HostView), d.clk.stopped = false) ∧
    (∃ (d : Dev) (n : Nat) (v : HostView) (c : Ctx) (e : Dev), e = d.dispatch n ∧ d.ctx n = some c ∧ c.opcode = opAttest ∧ c.p0 ≠ 0 ∧ e.tal.entries.reverse.find? (fun (x : List Nat) => entryWhole x && entryKind x == kindBoot && entryBoots x + 1 == c.p0) = none ∧ d.mayDispatch c = true ∧ d.metaPoisoned c = false ∧ d.clk.stopped = false) ∧
    (∃ (d : Dev) (n : Nat) (v : HostView) (c : Ctx) (x : List Nat) (e : Dev), e = d.dispatch n ∧ d.ctx n = some c ∧ c.opcode = opAttest ∧ c.p0 ≠ 0 ∧ e.tal.entries.reverse.find? (fun (x : List Nat) => entryWhole x && entryKind x == kindBoot && entryBoots x + 1 == c.p0) = some x ∧ d.mayDispatch c = true ∧ d.metaPoisoned c = false ∧ d.clk.stopped = false) ∧
    (∃ (d : Dev) (n : Nat) (v : HostView) (a : PolicyAnswer), d.clk.stopped = false) ∧
    (∃ (d : Dev) (n : Nat) (v : HostView) (a : PolicyAnswer) (c : Ctx) (e : Dev), e = d.dispatch n ∧ d.ctx n = some c ∧ 0xC0 ≤ c.opcode ∧ policyStatus a.status.toNat = true ∧ d.mayDispatch c = true ∧ d.metaPoisoned c = false ∧ a.bytes = [] ∧ d.clk.stopped = false) ∧
    (∃ (d : Dev) (n : Nat) (v : HostView) (a : PolicyAnswer) (c : Ctx), d.ctx n = some c ∧ policyStatus a.status.toNat = false ∧ d.clk.stopped = false) :=
  ⟨⟨{}, 0, ⟨[], none⟩, by decide +kernel⟩,
   ⟨{ cmd := { ctxs := [⟨1, [36, 7, 0, 0, 8, 0, 4096, 0, 1, 1], 0, 0, false, .queued, false, false, false, 0, 0, 0, none, 0, 0, 0, 0, 0, none, [], false, false⟩] }, mod := { mode := Mode.serve }, drv := { restored := true } }, 1, ⟨[], none⟩, ⟨1, [36, 7, 0, 0, 8, 0, 4096, 0, 1, 1], 0, 0, false, .queued, false, false, false, 0, 0, 0, none, 0, 0, 0, 0, 0, none, [], false, false⟩, _, rfl, by decide +kernel⟩,
   ⟨{ cmd := { ctxs := [⟨1, [36, 7, 4096, 0, 8, 0, 4096, 0, 1, 0], 0, 0, false, .queued, false, false, false, 0, 0, 0, none, 0, 0, 0, 0, 0, none, [], false, false⟩] }, mod := { mode := Mode.serve }, drv := { restored := true }, cfg := { sel := some ⟨0, 1, 0, 0x100000, 0x200000, 4096, 0x300000, 0, 0x400000, 0⟩ } }, 1, ⟨[], none⟩, ⟨1, [36, 7, 4096, 0, 8, 0, 4096, 0, 1, 0], 0, 0, false, .queued, false, false, false, 0, 0, 0, none, 0, 0, 0, 0, 0, none, [], false, false⟩, ⟨0, 1, 0, 0x100000, 0x200000, 4096, 0x300000, 0, 0x400000, 0⟩, _, rfl, by decide +kernel⟩,
   ⟨{ cmd := { ctxs := [⟨1, [36, 7, 0, 0, 8, 0, 4096, 0, 1, 1], 0, 0, false, .queued, false, false, false, 0, 0, 0, none, 0, 0, 0, 0, 0, none, [], false, false⟩] }, mod := { mode := Mode.serve }, drv := { restored := true }, cfg := { sel := some ⟨0, 1, 0, 0x100000, 0x200000, 4096, 0x300000, 0, 0x400000, 0⟩ } }, 1, ⟨[(4096, [0, 0, 2, 0, 0, 0, 0, 0, 8, 0, 0, 0, 0, 0, 0, 0])], none⟩, ⟨1, [36, 7, 0, 0, 8, 0, 4096, 0, 1, 1], 0, 0, false, .queued, false, false, false, 0, 0, 0, none, 0, 0, 0, 0, 0, none, [], false, false⟩, ⟨1, [36, 7, 0, 0, 8, 0, 4096, 0, 1, 1], 0, 0, false, .dispatched, false, false, false, 0, 0, 0, none, 0, 0, 0, 0, 0, none, [], false, false⟩, ⟨1, 8, [(0x20000, 8)], none⟩, ⟨0, 1, 0, 0x100000, 0x200000, 4096, 0x300000, 0, 0x400000, 0⟩, _, rfl, by decide +kernel⟩,
   ⟨{ cmd := { ctxs := [⟨1, [36, 7, 0, 0, 8, 0, 4096, 0, 1, 1], 0, 0, false, .queued, false, false, false, 0, 0, 0, none, 0, 0, 0, 0, 0, none, [], false, false⟩] }, mod := { mode := Mode.serve }, drv := { restored := true }, cfg := { sel := some ⟨0, 1, 0, 0x100000, 0x200000, 4096, 0x300000, 0, 0x400000, 0⟩ } }, 1, ⟨[(4096, [0, 0, 2, 0, 0, 0, 0, 0, 8, 0, 0, 0, 0, 0, 0, 0])], some 4⟩, ⟨1, [36, 7, 0, 0, 8, 0, 4096, 0, 1, 1], 0, 0, false, .queued, false, false, false, 0, 0, 0, none, 0, 0, 0, 0, 0, none, [], false, false⟩, ⟨1, [36, 7, 0, 0, 8, 0, 4096, 0, 1, 1], 0, 0, false, .dispatched, false, false, false, 0, 0, 0, none, 0, 0, 0, 0, 0, none, [], false, false⟩, ⟨1, 8, [(0x20000, 8)], none⟩, ⟨0, 1, 0, 0x100000, 0x200000, 4096, 0x300000, 0, 0x400000, 0⟩, 4, _, rfl, by decide +kernel⟩,
   ⟨{}, 0, by decide +kernel⟩,
   ⟨{ cmd := { ctxs := [⟨1, [37, 7, 0, 0, 0, 0, 0, 0, 0, 0], 0, 0, false, .queued, false, false, false, 0, 0, 0, none, 0, 0, 0, 0, 0, none, [], false, false⟩] }, mod := { mode := Mode.serve }, drv := { restored := true } }, 1, ⟨1, [37, 7, 0, 0, 0, 0, 0, 0, 0, 0], 0, 0, false, .queued, false, false, false, 0, 0, 0, none, 0, 0, 0, 0, 0, none, [], false, false⟩, _, rfl, by decide +kernel⟩,
   ⟨{ cmd := { ctxs := [⟨1, [37, 7, 0, 0, 0, 0, 0, 0, 0, 0], 0, 0, false, .queued, false, false, false, 0, 0, 0, none, 0, 0, 0, 0, 0, none, [], false, false⟩] }, mod := { mode := Mode.safe }, drv := { restored := true } }, 1, ⟨1, [37, 7, 0, 0, 0, 0, 0, 0, 0, 0], 0, 0, false, .queued, false, false, false, 0, 0, 0, none, 0, 0, 0, 0, 0, none, [], false, false⟩, _, rfl, by decide +kernel⟩,
   ⟨{}, by decide +kernel⟩,
   ⟨{ cmd := { ctxs := [], act := some ⟨1, 2, 0, false⟩ }, mod := { mode := Mode.serve }, drv := { restored := true } }, ⟨1, 2, 0, false⟩, by decide +kernel⟩,
   ⟨{ cmd := { ctxs := [⟨1, [32, 7, 0, 0, 0, 0, 4096, 0, 1, 0], 0, 0, false, .queued, false, false, false, 0, 0, 0, none, 0, 0, 0, 0, 0, none, [], false, false⟩], act := some ⟨2, 2, 0, false⟩ }, mod := { mode := Mode.serve }, drv := { restored := true } }, ⟨2, 2, 0, false⟩, ⟨1, [32, 7, 0, 0, 0, 0, 4096, 0, 1, 0], 0, 0, false, .queued, false, false, false, 0, 0, 0, none, 0, 0, 0, 0, 0, none, [], false, false⟩, by decide +kernel⟩,
   ⟨{}, by decide +kernel⟩,
   ⟨{}, 0, ⟨[], none⟩, by decide +kernel⟩,
   ⟨{ cmd := { ctxs := [⟨1, [38, 7, 0, 0, 0, 0, 0, 0, 0, 0], 0, 0, false, .queued, false, false, false, 0, 0, 0, none, 0, 0, 0, 0, 0, none, [], false, false⟩] }, mod := { mode := Mode.serve }, drv := { restored := true } }, 1, ⟨[], none⟩, ⟨1, [38, 7, 0, 0, 0, 0, 0, 0, 0, 0], 0, 0, false, .queued, false, false, false, 0, 0, 0, none, 0, 0, 0, 0, 0, none, [], false, false⟩, _, rfl, by decide +kernel⟩,
   ⟨{ cmd := { ctxs := [⟨1, [38, 7, 0, 0, 0, 0, 4096, 0, 1, 1], 0, 0, false, .queued, false, false, false, 0, 0, 0, none, 0, 0, 0, 0, 0, none, [], false, false⟩] }, mod := { mode := Mode.serve }, drv := { restored := true } }, 1, ⟨[(4096, [0, 0, 2, 0, 0, 0, 0, 0, 0, 16, 0, 0, 0, 0, 0, 0])], none⟩, ⟨1, [38, 7, 0, 0, 0, 0, 4096, 0, 1, 1], 0, 0, false, .queued, false, false, false, 0, 0, 0, none, 0, 0, 0, 0, 0, none, [], false, false⟩, _, rfl, by decide +kernel⟩,
   ⟨{}, 0, ⟨[], none⟩, by decide +kernel⟩,
   ⟨{ cmd := { ctxs := [⟨1, [39, 7, 0, 0, 36864, 0, 4096, 0, 1, 0], 0, 0, false, .queued, false, false, false, 0, 0, 0, none, 0, 0, 0, 0, 0, none, [], false, false⟩] }, mod := { mode := Mode.serve }, drv := { restored := true } }, 1, ⟨[(4096, [0, 0, 2, 0, 0, 0, 0, 0, 0, 2, 0, 0, 0, 0, 0, 0])], none⟩, ⟨1, [39, 7, 0, 0, 36864, 0, 4096, 0, 1, 0], 0, 0, false, .queued, false, false, false, 0, 0, 0, none, 0, 0, 0, 0, 0, none, [], false, false⟩, ⟨1, [39, 7, 0, 0, 36864, 0, 4096, 0, 1, 0], 0, 0, false, .dispatched, false, false, false, 0, 0, 0, none, 0, 0, 0, 0, 0, none, [], false, false⟩, ⟨1, 512, [(0x20000, 512)], none⟩, _, rfl, by decide +kernel⟩,
   ⟨{}, 0, ⟨[], none⟩, by decide +kernel⟩,
   ⟨{ cmd := { ctxs := [⟨1, [39, 7, 3, 0, 0, 0, 4096, 0, 1, 0], 0, 0, false, .queued, false, false, false, 0, 0, 0, none, 0, 0, 0, 0, 0, none, [], false, false⟩] }, mod := { mode := Mode.serve }, drv := { restored := true } }, 1, ⟨[], none⟩, ⟨1, [39, 7, 3, 0, 0, 0, 4096, 0, 1, 0], 0, 0, false, .queued, false, false, false, 0, 0, 0, none, 0, 0, 0, 0, 0, none, [], false, false⟩, _, rfl, by decide +kernel⟩,
   ⟨{ cmd := { ctxs := [⟨1, [39, 7, 3, 0, 0, 0, 4096, 0, 1, 0], 0, 0, false, .queued, false, false, false, 0, 0, 0, none, 0, 0, 0, 0, 0, none, [], false, false⟩] }, mod := { mode := Mode.serve }, drv := { restored := true }, tal := { entries := [([0x47, 0x56, 0x54, 0x4C, 1, 1, 0, 0, 0, 0, 0, 0, 2, 0, 0, 0] ++ List.replicate 496 0)] } }, 1, ⟨[(4096, [0, 0, 2, 0, 0, 0, 0, 0, 0, 2, 0, 0, 0, 0, 0, 0])], none⟩, ⟨1, [39, 7, 3, 0, 0, 0, 4096, 0, 1, 0], 0, 0, false, .queued, false, false, false, 0, 0, 0, none, 0, 0, 0, 0, 0, none, [], false, false⟩, ([0x47, 0x56, 0x54, 0x4C, 1, 1, 0, 0, 0, 0, 0, 0, 2, 0, 0, 0] ++ List.replicate 496 0), _, rfl, by decide +kernel⟩,
   ⟨{}, 0, ⟨[], none⟩, ⟨0, 0, 0, []⟩, by decide +kernel⟩,
   ⟨{ cmd := { ctxs := [⟨1, [192, 7, 0, 0, 0, 0, 0, 0, 0, 0], 0, 0, false, .queued, false, false, false, 0, 0, 0, none, 0, 0, 0, 0, 0, none, [], false, false⟩] }, mod := { mode := Mode.serve }, drv := { restored := true } }, 1, ⟨[], none⟩, ⟨0x8000, 1, 2, []⟩, ⟨1, [192, 7, 0, 0, 0, 0, 0, 0, 0, 0], 0, 0, false, .queued, false, false, false, 0, 0, 0, none, 0, 0, 0, 0, 0, none, [], false, false⟩, _, rfl, by decide +kernel⟩,
   ⟨{ cmd := { ctxs := [⟨1, [192, 7, 0, 0, 0, 0, 0, 0, 0, 0], 0, 0, false, .queued, false, false, false, 0, 0, 0, none, 0, 0, 0, 0, 0, none, [], false, false⟩] }, mod := { mode := Mode.serve }, drv := { restored := true } }, 1, ⟨[], none⟩, ⟨0x13, 1, 2, []⟩, ⟨1, [192, 7, 0, 0, 0, 0, 0, 0, 0, 0], 0, 0, false, .queued, false, false, false, 0, 0, 0, none, 0, 0, 0, 0, 0, none, [], false, false⟩, by decide +kernel⟩⟩

/-- A sector at rung 3 with its one peer read into tile 2, whose zero bytes match its CRC. -/
def rebuildJob : Recovery := ⟨⟨⟨0, 7, 5, 1⟩, 0, 0, ⟨.read, none, none, none⟩, 3, 0⟩, 0, 0, 1, [2], 0, false, false⟩
def rebuildTile : Dev := { det := { recov := [rebuildJob] }, grn := { tiles := [{ num := 2, state := .sealed }] } }

theorem rebuildTile_good : rebuildTile.tileUse 2 2 true = (rebuildTile, .good) := by
  have b : rebuildTile.tileBase 2 = 8192 := by decide +kernel
  have g : rebuildTile.granRead 8192 4096 = List.replicate 4096 0 := by
    have z : ∀ x, rebuildTile.granByte x = 0 := fun x => by rfl
    simp [Dev.granRead, z, List.map_const']
  have t : rebuildTile.tile 2 = { num := 2, state := .sealed } := by rfl
  have p : rebuildTile.granPoisoned 8192 4096 = false := by decide +kernel
  unfold Dev.tileUse
  rw [t, b, g, p, crc64_zeros]
  rfl

theorem witness_droverDecidesJournalsAndRestores :
    (∃ (d : Dev) (st : Fin 8) (bad : List Nat), d.live 0x10 = true) ∧
    (∃ (d : Dev) (st : Fin 8) (bad : List Nat), d.mayDecide st.val = true ∧ d.live 0x10 = true) ∧
    (∃ (d : Dev) (st : Fin 8) (bad : List Nat), d.mayDecide st.val = false ∧ d.live 0x10 = true) ∧
    (∃ (d : Dev), d.live 0x10 = true) ∧
    (∃ (d : Dev) (b : List JBlock) (e : Dev), e = { d with drv := { d.drv with tail := [], tailMs := 0, unprog := [], jseq := (d.drv.jseq - d.drv.tail.length) + 127 * b.length, jrn := { d.drv.jrn with blocks := d.drv.jrn.blocks ++ b, erased := false } } } ∧ d.harvesting = false ∧ d.drv.restored = true ∧ d.drv.tail.isEmpty = false ∧ b = journalBlocks (d.drv.jseq - d.drv.tail.length) d.drv.tail.length d.drv.tail ∧ 4096 * (d.drv.jrn.blocks.length + b.length) + d.tailMax ≤ d.logSize ∧ d.live 0x10 = true) ∧
    (∃ (d : Dev) (b : List JBlock), d.harvesting = false ∧ d.drv.restored = true ∧ d.logSize < 4096 * (d.drv.jrn.blocks.length + b.length) + d.tailMax ∧ b = journalBlocks (d.drv.jseq - d.drv.tail.length) d.drv.tail.length d.drv.tail ∧ d.live 0x10 = true) ∧
    (∃ (d : Dev), (d.drv.restored = false ∨ d.harvesting = true) ∧ d.live 0x10 = true) ∧
    (∃ (d : Dev), d.harvesting = false ∧ d.drv.restored = true ∧ d.drv.tail = [] ∧ d.live 0x10 = true) ∧
    (∃ (d : Dev), d.live 0x10 = true) ∧
    (∃ (d : Dev), 2 * 4096 * d.drv.jrn.blocks.length < d.logSize ∧ d.live 0x10 = true) ∧
    (∃ (d : Dev) (k : Nat) (n : Nat) (a : Nat) (m : Nat) (p : Dev) (q : Dev) (r : Dev), p = d.tailToLog d.tailMax ∧ q = { p with drv := { p.drv with jrn := { p.drv.jrn with areas := p.drv.jrn.areas.set (1 - a) (some p.ckpt), supers := p.drv.jrn.supers.set (1 - k) (some (n + 1, 1 - a, p.drv.jseq)), blocks := p.drv.jrn.blocks.filter (fun (b : JBlock) => p.drv.jseq < b.first + b.recs.length) } } } ∧ r = (q.tailToLog q.tailMax).appendRec recCheckpoint (leBytes 4 (1 - a) ++ leBytes 8 p.drv.jseq) ∧ d.harvesting = false ∧ d.drv.restored = true ∧ d.logSize ≤ 2 * 4096 * d.drv.jrn.blocks.length ∧ p.drv.jrn.super = some (k, n, a, m) ∧ d.live 0x10 = true) ∧
    (∃ (d : Dev) (bad : Fin 4) (stop : Option Nat) (ms : Nat), d.live 0x10 = true) ∧
    (∃ (d : Dev) (bad : Fin 4) (stop : Option Nat) (ms : Nat), d.drv.restored = false ∧ d.harvesting = false ∧ d.mod.mode ≠ Mode.safe ∧ d.mod.recovery = false ∧ d.get F.CFG_STAT_PHASE = 5 ∧ d.drv.jrn.supers = [none, none] ∧ d.drv.jrn.erased = true ∧ d.live 0x10 = true) ∧
    (∃ (d : Dev) (bad : Fin 4) (stop : Option Nat) (ms : Nat), d.drv.restored = false ∧ d.harvesting = false ∧ d.mod.mode ≠ Mode.safe ∧ d.mod.recovery = false ∧ d.get F.CFG_STAT_PHASE = 5 ∧ bad = 3 ∧ d.drv.jrn.erased = false ∧ d.live 0x10 = true) ∧
    (∃ (d : Dev) (bad : Fin 4) (stop : Option Nat) (ms : Nat), d.drv.restored = true ∧ d.live 0x10 = true) ∧
    (∃ (d : Dev) (stripe : Nat) (member : Nat) (bad : List Nat), d.live 0x10 = true) ∧
    (∃ (d : Dev) (stripe : Nat) (member : Nat) (bad : List Nat) (r : Recovery), d.det.recov.find? (fun (r : Recovery) => r.op.rung == 3 && recovAt stripe member r) = some r ∧ r.got.length < r.peers ∧ d.live 0x10 = true) ∧
    (∃ (d : Dev) (stripe : Nat) (member : Nat) (bad : List Nat) (r : Recovery), d.det.recov.find? (fun (r : Recovery) => r.op.rung == 3 && recovAt stripe member r) = some r ∧ r.got.any d.tileMigrates = true ∧ d.live 0x10 = true) ∧
    (∃ (d : Dev) (stripe : Nat) (member : Nat) (bad : List Nat), d.det.recov = [] ∧ d.live 0x10 = true) ∧
    (∃ (d : Dev) (stripe : Nat) (member : Nat) (bad : List Nat) (r : Recovery) (e : Dev), e = (d.each r.got Dev.freeTile).dropRecov stripe member ∧ d.det.recov.find? (fun (r : Recovery) => r.op.rung == 3 && recovAt stripe member r) = some r ∧ r.peers ≤ r.got.length ∧ r.got.any d.tileMigrates = false ∧ (∀ t ∈ r.got, d.tileUse t 2 (!bad.contains t) = (d, .good)) ∧ d.live 0x10 = true) ∧
    (∃ (d : Dev), d.live 0x10 = true) ∧
    (∃ (d : Dev) (x : SurfaceRebuild), d.drv.surf = some x ∧ d.bandCount ≤ x.band ∧ d.rebuildBusy = false ∧ d.live 0x10 = true) ∧
    (∃ (d : Dev) (x : SurfaceRebuild), d.drv.surf = some x ∧ d.rebuildBusy = true ∧ d.freeBands = 0 ∧ d.openBand = none ∧ d.live 0x10 = true) ∧
    (∃ (d : Dev), d.drv.surf = none ∧ d.live 0x10 = true) :=
  ⟨⟨{}, 0, [], by decide +kernel⟩,
   ⟨(({ mod := { mode := Mode.serve }, cfg := { sections := [⟨0x10, 0, [2, 1, 8, 1, 1, 1, 0, 0, 32, 28, 15, 0, 0, 32, 0, 0, 0,0,0,0,0,0,0,0,0,0,0,0,0,0,0,0, 0,0,0,0, 255,31,0,0, 0,0,2,0, 0,1, 0,0, 0,0,0,0, 0,0,0,0,0,0,0,0,0,0,0,0]⟩] } } : Dev).putI F.SHP_STAT_STATE 1 shpFollow), 2, [], by decide +kernel⟩,
   ⟨{}, 2, [], by decide +kernel⟩,
   ⟨{}, by decide +kernel⟩,
   ⟨{ drv := { restored := true, jseq := 1, tail := [⟨1, [5]⟩] } }, [⟨0, ⟨1, [5]⟩ :: List.replicate 126 ⟨0, []⟩⟩], _, rfl, by decide +kernel⟩,
   ⟨{ pol := [(0x4206, 2)], drv := { restored := true, jseq := 1, tail := [⟨1, [5]⟩] } }, [⟨0, ⟨1, [5]⟩ :: List.replicate 126 ⟨0, []⟩⟩], by decide +kernel⟩,
   ⟨{}, by decide +kernel⟩,
   ⟨{ drv := { restored := true } }, by decide +kernel⟩,
   ⟨{}, by decide +kernel⟩,
   ⟨{ drv := { restored := true } }, by decide +kernel⟩,
   ⟨{ pol := [(0x4206, 8)], drv := { restored := true, jseq := 127, jrn := { blocks := [⟨0, List.replicate 127 ⟨0, []⟩⟩], supers := [some (4, 1, 0), none], areas := [none, some ⟨0, [], [], []⟩], erased := false } } }, 0, 4, 1, 0, _, _, _, rfl, rfl, rfl, by decide +kernel⟩,
   ⟨{}, 0, none, 0, by decide +kernel⟩,
   ⟨({} : Dev).put F.CFG_STAT_PHASE 5, 0, none, 3, by decide +kernel⟩,
   ⟨({ drv := { jrn := { erased := false } } } : Dev).put F.CFG_STAT_PHASE 5, 3, none, 3, by decide +kernel⟩,
   ⟨{ drv := { restored := true } }, 3, none, 3, by decide +kernel⟩,
   ⟨{}, 0, 0, [], by decide +kernel⟩,
   ⟨{ det := { recov := [⟨⟨⟨0, 7, 5, 1⟩, 0, 0, ⟨.read, none, none, none⟩, 3, 0⟩, 0, 0, 15, [2], 0, false, false⟩] } }, 5, 1, [], ⟨⟨⟨0, 7, 5, 1⟩, 0, 0, ⟨.read, none, none, none⟩, 3, 0⟩, 0, 0, 15, [2], 0, false, false⟩, by decide +kernel⟩,
   ⟨{ det := { recov := [⟨⟨⟨0, 7, 5, 1⟩, 0, 0, ⟨.read, none, none, none⟩, 3, 0⟩, 0, 0, 1, [2], 0, false, false⟩] }, ddr := { migs := [{ sc := 0, src := 0, dst := 2, cause := 0 }] } }, 5, 1, [], ⟨⟨⟨0, 7, 5, 1⟩, 0, 0, ⟨.read, none, none, none⟩, 3, 0⟩, 0, 0, 1, [2], 0, false, false⟩, by decide +kernel⟩,
   ⟨{}, 5, 1, [], by decide +kernel⟩,
   ⟨rebuildTile, 5, 1, [], rebuildJob, _, rfl, by decide +kernel, by decide, by decide +kernel, by intro t h; (cases h with | head => exact rebuildTile_good | tail _ h => cases h), by decide +kernel⟩,
   ⟨{}, by decide +kernel⟩,
   ⟨{ drv := { surf := some ⟨3, 0, 9, 2⟩ } }, ⟨3, 0, 9, 2⟩, by decide +kernel⟩,
   ⟨{ drv := { surf := some ⟨3, 0, 9, 2⟩, moved := [(1, 2)] } }, ⟨3, 0, 9, 2⟩, by decide +kernel⟩,
   ⟨{}, by decide +kernel⟩⟩

theorem witness_configurationLoadsAndSelfTest :
    (∃ (d : Dev) (fl : Flash), d.live 0x01 = true) ∧
    (∃ (d : Dev) (fl : Flash), d.loadable = false ∧ d.live 0x01 = true) ∧
    (∃ (d : Dev) (fl : Flash), d.loadable = true ∧ d.cfg.flashReady = false ∧ d.live 0x01 = true) ∧
    (∃ (d : Dev) (fl : Flash), d.loadable = true ∧ d.cfg.flashReady = true ∧ fl.answers = false ∧ d.live 0x01 = true) ∧
    (∃ (d : Dev) (fl : Flash), d.live 0x01 = true) ∧
    (∃ (d : Dev) (fl : Flash), (d.loadable = false ∨ d.cfg.flashReset = false ∨ d.cfg.flashReady = true) ∧ d.live 0x01 = true) ∧
    (∃ (d : Dev) (fl : Flash), d.loadable = true ∧ d.cfg.flashReset = true ∧ d.cfg.flashReady = false ∧ d.live 0x01 = true) ∧
    (∃ (d : Dev) (fl : Flash) (e0 : Dev) (e1 : Dev) (e : Dev) (g : Dev), e0 = { d with cfg := { d.cfg with flashReady := true } } ∧ e1 = (e0.put F.CFG_FLASH_DENSITY (fl.density % 32)).flag F.CFG_FLASH_PROFILE_OK true ∧ e = ({ e1 with cfg := { e1.cfg with slow := false } } : Dev).put F.CFG_STAT_PHASE 1 ∧ g = ((((e.flag F.CFG_SEL_COPY0_VALID false).flag F.CFG_SEL_COPY1_VALID false).post 0x0206 [0]).post 0x0206 [1]) ∧ d.loadable = true ∧ d.cfg.flashReset = true ∧ d.cfg.flashReady = false ∧ fl.answers = true ∧ fl.profile = true ∧ fl.runs = [] ∧ fl.faults = [] ∧ d.cfg.flash = [] ∧ d.live 0x01 = true) ∧
    (∃ (d : Dev) (l : List TestFail), d.live 0x01 = true) ∧
    (∃ (d : Dev) (l : List TestFail) (e : Dev) (g : Dev), e = d.put F.MOD_SELFTEST_DONE 0x7F ∧ g = { e with mod := { e.mod with selfTested := true } } ∧ d.mod.mode = Mode.boot ∧ d.get F.CFG_STAT_PHASE = 5 ∧ d.mod.selfTested = false ∧ d.harvesting = false ∧ l = [] ∧ d.wat.safeDue = none ∧ d.live 0x01 = true) ∧
    (∃ (d : Dev) (l : List TestFail) (x : TestFail) (e : Dev) (g : Dev), e = d.put F.MOD_SELFTEST_DONE 0x7F ∧ g = e.testJudged x ∧ d.mod.mode = Mode.boot ∧ d.get F.CFG_STAT_PHASE = 5 ∧ d.mod.selfTested = false ∧ d.harvesting = false ∧ l = [x] ∧ (e.testJudged x).wat.safeDue.isSome = true ∧ d.live 0x01 = true) ∧
    (∃ (d : Dev) (l : List TestFail), (d.mod.mode ≠ Mode.boot ∨ d.mod.selfTested = true) ∧ d.live 0x01 = true) :=
  ⟨⟨{}, ⟨true, true, 26, [], [], [], ⟨3, 0, 0, false⟩, 12⟩, by decide +kernel⟩,
   ⟨{}, ⟨true, true, 26, [], [], [], ⟨3, 0, 0, false⟩, 12⟩, by decide +kernel⟩,
   ⟨(List.range 6).foldl (fun (d : Dev) k => d.putI F.CLK_PLL_STAT_LOCKED k 1) { clk := { released := true }, mod := { porstHigh := true } }, ⟨true, true, 26, [], [], [], ⟨3, 0, 0, false⟩, 12⟩, by decide +kernel⟩,
   ⟨({ clk := { released := true }, mod := { porstHigh := true }, cfg := { flashReset := true, flashReady := true } } : Dev).put F.MOD_STAT_WARM 1, ⟨false, true, 26, [], [], [], ⟨3, 0, 0, false⟩, 12⟩, by decide +kernel⟩,
   ⟨{}, ⟨true, true, 26, [], [], [], ⟨3, 0, 0, false⟩, 12⟩, by decide +kernel⟩,
   ⟨{}, ⟨true, true, 26, [], [], [], ⟨3, 0, 0, false⟩, 12⟩, by decide +kernel⟩,
   ⟨(List.range 6).foldl (fun (d : Dev) k => d.putI F.CLK_PLL_STAT_LOCKED k 1) { clk := { released := true }, mod := { porstHigh := true }, cfg := { flashReset := true } }, ⟨true, true, 26, [], [], [], ⟨3, 0, 0, false⟩, 12⟩, by decide +kernel⟩,
   ⟨(List.range 6).foldl (fun (d : Dev) k => d.putI F.CLK_PLL_STAT_LOCKED k 1) { clk := { released := true }, mod := { porstHigh := true }, cfg := { flashReset := true } }, ⟨true, true, 26, [], [], [], ⟨3, 0, 0, false⟩, 12⟩, _, _, _, _, rfl, rfl, rfl, rfl, by decide +kernel⟩,
   ⟨{}, [], by decide +kernel⟩,
   ⟨({} : Dev).put F.CFG_STAT_PHASE 5, [], _, _, rfl, rfl, by decide +kernel⟩,
   ⟨({} : Dev).put F.CFG_STAT_PHASE 5, [⟨6, 0, [], false⟩], ⟨6, 0, [], false⟩, _, _, rfl, rfl, by decide +kernel⟩,
   ⟨{ mod := { mode := Mode.serve } }, [], by decide +kernel⟩⟩

theorem witness_tallyRecordsAndRequests :
    (∃ (d : Dev) (how : AppendEnd), d.live 0x11 = true) ∧
    (∃ (d : Dev) (how : AppendEnd), d.bootRecordDue = true ∧ d.harvesting = false ∧ d.tal.pending = [] ∧ how = .failed ∧ d.live 0x11 = true) ∧
    (∃ (d : Dev) (how : AppendEnd) (r : Dev), r = (d.talAppend kindBoot (d.digestRegs F.TAL_ROOT_BYTES) .good).1 ∧ d.bootRecordDue = true ∧ d.harvesting = false ∧ d.tal.pending = [] ∧ how = .good ∧ d.live 0x11 = true) ∧
    (∃ (d : Dev) (how : AppendEnd), d.bootRecordDue = true ∧ d.harvesting = false ∧ d.tal.pending = [] ∧ d.talLast.isSome = true ∧ how = .disagreed ∧ d.live 0x11 = true) ∧
    (∃ (d : Dev) (how : AppendEnd), d.bootRecordDue = false ∧ d.live 0x11 = true) ∧
    (∃ (d : Dev), d.clk.stopped = false) ∧
    (∃ (d : Dev) (p : Dev), p = d.put F.TAL_APPEND_KIND 4 ∧ d.tal.req = none ∧ d.on F.PRS_STAT_PRESENT = true ∧ d.on F.PRS_STAT_TAMPER = false ∧ d.clk.stopped = false) ∧
    (∃ (d : Dev), d.tal.req = none ∧ (d.on F.PRS_STAT_PRESENT = false ∨ d.on F.PRS_STAT_TAMPER = true) ∧ d.clk.stopped = false) ∧
    (∃ (d : Dev), d.clk.stopped = false) ∧
    (∃ (d : Dev) (p : Dev), p = d.put F.TAL_APPEND_KIND 5 ∧ d.tal.req = none ∧ d.on F.PRS_STAT_PRESENT = true ∧ d.on F.PRS_STAT_TAMPER = false ∧ d.clk.stopped = false) ∧
    (∃ (d : Dev), d.tal.req = none ∧ (d.on F.PRS_STAT_PRESENT = false ∨ d.on F.PRS_STAT_TAMPER = true) ∧ d.clk.stopped = false) ∧
    (∃ (d : Dev), d.clk.stopped = false) ∧
    (∃ (d : Dev) (p : Dev), p = d.put F.TAL_APPEND_KIND 6 ∧ d.tal.req = none ∧ d.on F.PRS_STAT_PRESENT = true ∧ d.on F.PRS_STAT_TAMPER = false ∧ d.clk.stopped = false) ∧
    (∃ (d : Dev), d.tal.req = none ∧ (d.on F.PRS_STAT_PRESENT = false ∨ d.on F.PRS_STAT_TAMPER = true) ∧ d.clk.stopped = false) ∧
    (∃ (d : Dev), d.clk.stopped = false) ∧
    (∃ (d : Dev) (p : Dev), p = d.put F.TAL_APPEND_KIND 7 ∧ d.tal.req = none ∧ d.on F.PRS_STAT_PRESENT = true ∧ d.on F.PRS_STAT_TAMPER = false ∧ d.clk.stopped = false) ∧
    (∃ (d : Dev), d.tal.req = none ∧ (d.on F.PRS_STAT_PRESENT = false ∨ d.on F.PRS_STAT_TAMPER = true) ∧ d.clk.stopped = false) ∧
    (∃ (d : Dev), d.clk.stopped = false) ∧
    (∃ (d : Dev) (p : Dev), p = d.put F.TAL_APPEND_KIND 16 ∧ d.tal.req = none ∧ d.clk.stopped = false) ∧
    (∃ (d : Dev), d.tal.req.isSome = true ∧ d.clk.stopped = false) ∧
    (∃ (d : Dev) (how : AppendEnd) (bad : List (BitVec 32)), d.live 0x11 = true) ∧
    (∃ (d : Dev) (how : AppendEnd) (bad : List (BitVec 32)), bad = [] ∧ d.tal.req = none ∧ d.live 0x11 = true) ∧
    (∃ (d : Dev) (how : AppendEnd) (bad : List (BitVec 32)) (p : List Nat) (x : Dev), x = ({ d with tal := { d.tal with req := none } } : Dev).put F.TAL_STAT_BUSY 0 ∧ bad = [] ∧ d.tal.req = some ⟨kindFloor, p, none⟩ ∧ d.on F.PRS_STAT_TAMPER = false ∧ how = .failed ∧ d.live 0x11 = true) ∧
    (∃ (d : Dev) (how : AppendEnd) (bad : List (BitVec 32)) (p : List Nat) (x : Dev) (y : Dev), x = ({ d with tal := { d.tal with req := none } } : Dev).put F.TAL_STAT_BUSY 0 ∧ y = (x.talAppend kindDebug p .good).1 ∧ bad = [] ∧ d.tal.req = some ⟨kindDebug, p, none⟩ ∧ d.on F.PRS_STAT_TAMPER = false ∧ how = .good ∧ d.live 0x11 = true) ∧
    (∃ (d : Dev), d.live 0x11 = true) ∧
    (∃ (d : Dev), d.cfg.sel = none ∧ d.live 0x11 = true) ∧
    (∃ (d : Dev) (i : Nat), d.cfg.sel.isSome = true ∧ d.tal.lacking = [i] ∧ d.harvesting = false ∧ d.mod.mode = Mode.boot ∧ d.live 0x11 = true) ∧
    (∃ (d : Dev) (i : Nat) (l : List Nat), d.cfg.sel.isSome = true ∧ d.tal.lacking = i :: l ∧ d.harvesting = false ∧ d.mod.mode ≠ Mode.boot ∧ d.live 0x11 = true) :=
  ⟨⟨{}, .good, by decide +kernel⟩,
   ⟨{ mod := { selfTested := true, porstHigh := true } }, .failed, by decide +kernel⟩,
   ⟨{ mod := { selfTested := true, porstHigh := true } }, .good, _, rfl, by decide +kernel⟩,
   ⟨({ mod := { selfTested := true, porstHigh := true }, tal := { entries := [[0x47, 0x56, 0x54, 0x4C]] } } : Dev).put F.TAL_INDEX_VALUE 1, .disagreed, by decide +kernel⟩,
   ⟨{}, .good, by decide +kernel⟩,
   ⟨{}, by decide +kernel⟩,
   ⟨({} : Dev).put F.PRS_STAT_PRESENT 1, _, rfl, by decide +kernel⟩,
   ⟨{}, by decide +kernel⟩,
   ⟨{}, by decide +kernel⟩,
   ⟨({} : Dev).put F.PRS_STAT_PRESENT 1, _, rfl, by decide +kernel⟩,
   ⟨{}, by decide +kernel⟩,
   ⟨{}, by decide +kernel⟩,
   ⟨({} : Dev).put F.PRS_STAT_PRESENT 1, _, rfl, by decide +kernel⟩,
   ⟨{}, by decide +kernel⟩,
   ⟨{}, by decide +kernel⟩,
   ⟨({} : Dev).put F.PRS_STAT_PRESENT 1, _, rfl, by decide +kernel⟩,
   ⟨{}, by decide +kernel⟩,
   ⟨{}, by decide +kernel⟩,
   ⟨{}, _, rfl, by decide +kernel⟩,
   ⟨{ tal := { req := some ⟨4, [], none⟩ } }, by decide +kernel⟩,
   ⟨{}, .good, [], by decide +kernel⟩,
   ⟨{}, .good, [], by decide +kernel⟩,
   ⟨{ tal := { req := some ⟨5, [], none⟩ } }, .failed, [], [], _, rfl, by decide +kernel⟩,
   ⟨{ tal := { req := some ⟨6, [], none⟩ } }, .good, [], [], _, _, rfl, rfl, by decide +kernel⟩,
   ⟨{}, by decide +kernel⟩,
   ⟨{}, by decide +kernel⟩,
   ⟨{ cfg := { sel := some ⟨0, 1, 0, 0x100000, 0x200000, 4096, 0x300000, 0, 0x400000, 0⟩ }, tal := { lacking := [2] } }, 2, by decide +kernel⟩,
   ⟨{ cfg := { sel := some ⟨0, 1, 0, 0x100000, 0x200000, 4096, 0x300000, 0, 0x400000, 512⟩ }, tal := { lacking := [2, 3] }, mod := { mode := Mode.serve } }, 2, [3], by decide +kernel⟩⟩

theorem witness_sealEngineComputesAndChecksItself :
    (∃ (d : Dev) (agree : Bool) (stored : List (BitVec 8)), d.live 0x12 = true) ∧
    (∃ (d : Dev) (agree : Bool) (stored : List (BitVec 8)) (x : Comp), d.sea.cur = some x ∧ agree = true ∧ x.cls = 2 ∧ d.live 0x12 = true) ∧
    (∃ (d : Dev) (agree : Bool) (stored : List (BitVec 8)) (x : Comp), d.sea.cur = some x ∧ agree = true ∧ x.cls = 1 ∧ d.live 0x12 = true) ∧
    (∃ (d : Dev) (agree : Bool) (stored : List (BitVec 8)) (x : Comp) (e : Dev), e = (d.inc F.SEA_DISAGREE_COUNT).put F.SEA_INT_STAT_DISAGREE 1 ∧ d.sea.cur = some x ∧ agree = false ∧ x.cls ≠ 3 ∧ x.redo = false ∧ d.live 0x12 = true) ∧
    (∃ (d : Dev) (agree : Bool) (stored : List (BitVec 8)) (x : Comp) (e : Dev), e = (d.inc F.SEA_DISAGREE_COUNT).put F.SEA_INT_STAT_DISAGREE 1 ∧ d.sea.cur = some x ∧ agree = false ∧ x.cls ≠ 3 ∧ x.redo = true ∧ d.live 0x12 = true) ∧
    (∃ (d : Dev) (agree : Bool) (stored : List (BitVec 8)) (x : Comp), d.sea.cur = some x ∧ x.cls = 3 ∧ d.sea.finished = false ∧ d.live 0x12 = true) ∧
    (∃ (d : Dev) (agree : Bool) (stored : List (BitVec 8)), d.sea.cur = none ∧ d.live 0x12 = true) ∧
    (∃ (d : Dev) (v : BitVec 31), d.clk.stopped = false) ∧
    (∃ (d : Dev) (v : BitVec 31) (e : Dev), e = d.jobFields (2 ^ 31 + v.toNat) ∧ v.toNat < 2 ^ 29 ∧ d.on F.SEA_STAT_JOB = false ∧ e.on F.SEA_STAT_JOB = false ∧ d.clk.stopped = false) ∧
    (∃ (d : Dev) (v : BitVec 31) (e : Dev), e = d.jobFields (2 ^ 31 + v.toNat) ∧ v.toNat < 2 ^ 29 ∧ d.on F.SEA_STAT_JOB = true ∧ e.on F.SEA_STAT_JOB = true ∧ d.clk.stopped = false) ∧
    (∃ (d : Dev) (v : BitVec 64), d.clk.stopped = false) ∧
    (∃ (d : Dev) (v : BitVec 64), d.on F.SEA_STAT_JOB = true ∧ d.sea.finished = false ∧ d.clk.stopped = false) ∧
    (∃ (d : Dev) (v : BitVec 64), (d.on F.SEA_STAT_JOB = false ∨ d.sea.finished = true) ∧ d.clk.stopped = false) ∧
    (∃ (d : Dev) (v : BitVec 30), d.clk.stopped = false) ∧
    (∃ (d : Dev) (v : BitVec 30) (e : Dev), e = d.jobFields (2 ^ 30 + v.toNat) ∧ v.toNat < 2 ^ 29 ∧ e.on F.SEA_STAT_JOB = true ∧ e.sea.finished = false ∧ d.clk.stopped = false) ∧
    (∃ (d : Dev) (v : BitVec 30) (e : Dev), e = d.jobFields (2 ^ 30 + v.toNat) ∧ v.toNat < 2 ^ 29 ∧ e.on F.SEA_STAT_JOB = false ∧ d.clk.stopped = false) :=
  ⟨⟨{}, true, [], by decide +kernel⟩,
   ⟨{ sea := { cur := some ⟨2, 1, 7, [1, 2], none, false, false⟩ } }, true, [], ⟨2, 1, 7, [1, 2], none, false, false⟩, by decide +kernel⟩,
   ⟨{ sea := { cur := some ⟨1, 1, 7, [1, 2], none, false, false⟩ } }, true, [], ⟨1, 1, 7, [1, 2], none, false, false⟩, by decide +kernel⟩,
   ⟨{ sea := { cur := some ⟨2, 1, 7, [1, 2], none, false, false⟩ } }, false, [], ⟨2, 1, 7, [1, 2], none, false, false⟩, _, rfl, by decide +kernel⟩,
   ⟨{ sea := { cur := some ⟨2, 1, 7, [1, 2], none, false, true⟩ } }, false, [], ⟨2, 1, 7, [1, 2], none, false, true⟩, _, rfl, by decide +kernel⟩,
   ⟨{ sea := { cur := some ⟨3, 1, 7, [1, 2], none, false, false⟩ } }, true, [], ⟨3, 1, 7, [1, 2], none, false, false⟩, by decide +kernel⟩,
   ⟨{}, true, [], by decide +kernel⟩,
   ⟨{}, 0, by decide +kernel⟩,
   ⟨{}, 0x00080F80#31, _, rfl, by decide +kernel⟩,
   ⟨({} : Dev).put F.SEA_STAT_JOB 1, 0x00080F80#31, _, rfl, by decide +kernel⟩,
   ⟨{}, 0, by decide +kernel⟩,
   ⟨({} : Dev).put F.SEA_STAT_JOB 1, 0x1122334455667788#64, by decide +kernel⟩,
   ⟨{}, 1#64, by decide +kernel⟩,
   ⟨{}, 0, by decide +kernel⟩,
   ⟨({} : Dev).put F.SEA_STAT_JOB 1, 0x00080F80#30, _, rfl, by decide +kernel⟩,
   ⟨{}, 0x00080F80#30, _, rfl, by decide +kernel⟩⟩

theorem witness_presenceLoopAndJtag :
    (∃ (d : Dev) (low : Bool), d.mod.porstHigh = false) ∧
    (∃ (d : Dev) (low : Bool) (m : Dev) (n : Dev), m = d.msTick ∧ n = (m.put F.PRS_STAT_JUMPER 1).put F.PRS_HOLD_MS 2000 ∧ d.mod.porstHigh = true ∧ low = true ∧ m.get F.PRS_HOLD_MS = 1999 ∧ m.on F.PRS_STAT_PRESENT = false ∧ m.on F.PRS_STAT_REARM_WAIT = false) ∧
    (∃ (d : Dev) (low : Bool) (m : Dev) (n : Dev), m = d.msTick ∧ n = (m.put F.PRS_STAT_JUMPER 0).put F.PRS_HOLD_MS 0 ∧ d.mod.porstHigh = true ∧ low = false ∧ m.on F.PRS_STAT_PRESENT = false ∧ m.on F.PRS_STAT_REARM_WAIT = false) ∧
    (∃ (d : Dev) (e : Dev), e = ((d.put F.PRS_STAT_PRESENT 0).put F.PRS_STAT_REMAIN_S 0).put F.PRS_STAT_REARM_WAIT 1 ∧ d.on F.PRS_STAT_PRESENT = true) ∧
    (∃ (d : Dev), d.on F.PRS_STAT_PRESENT = false) ∧
    (∃ (d : Dev), d.clk.stopped = false) ∧
    (∃ (d : Dev) (e : Dev), e = ((d.put F.PRS_STAT_PRESENT 0).put F.PRS_STAT_REMAIN_S 0).put F.PRS_STAT_REARM_WAIT 1 ∧ d.on F.PRS_STAT_PRESENT = true ∧ d.clk.stopped = false) ∧
    (∃ (d : Dev) (b : Bool) (e : Dev), e = { d with pins := { d.pins with sealA := d.prs.lfsr % 2 == 1 }, prs := { d.prs with lfsr := lfsrNext d.prs.lfsr, differ := 4, same := 0 } } ∧ d.mod.porstHigh = true ∧ d.on F.PRS_STAT_LOOP_FITTED = true ∧ b ≠ (d.prs.lfsr % 2 == 1) ∧ d.prs.differ = 3) ∧
    (∃ (d : Dev) (b : Bool), d.mod.porstHigh = true ∧ d.on F.PRS_STAT_LOOP_FITTED = false) ∧
    (∃ (d : Dev) (how : AppendEnd), d.live 0x11 = true) ∧
    (∃ (d : Dev) (how : AppendEnd), d.tal.pending = [] ∧ d.live 0x11 = true) ∧
    (∃ (d : Dev) (how : AppendEnd) (x : Nat) (l : List (Bool × Nat)) (r : Dev), r = (d.talAppend kindOpened (leBytes 8 x) .good).1 ∧ d.tal.pending = (true, x) :: l ∧ d.powered 1 = true ∧ d.harvesting = false ∧ how = .good ∧ d.live 0x11 = true) ∧
    (∃ (d : Dev) (how : AppendEnd) (x : Nat) (l : List (Bool × Nat)), d.tal.pending = (false, x) :: l ∧ d.powered 1 = true ∧ d.harvesting = false ∧ how = .failed ∧ d.live 0x11 = true) ∧
    (∃ (d : Dev) (p : Nat), d.on F.TAL_STAT_DEBUG = false) ∧
    (∃ (d : Dev) (p : Nat), d.on F.TAL_STAT_DEBUG = true) ∧
    (∃ (d : Dev) (p : Nat), d.on F.TAL_STAT_DEBUG = true ∧ d.mod.mode = Mode.safe) ∧
    (∃ (d : Dev) (p : Nat), d.on F.TAL_STAT_DEBUG = false) ∧
    (∃ (d : Dev), d.on F.TAL_STAT_DEBUG = true) ∧
    (∃ (d : Dev) (g : BitVec 512) (e : Dev), e = d.putDigest F.TAL_ROOT_BYTES (leBytes 64 g.toNat) ∧ d.on F.TAL_STAT_ROOT_LOCK = false ∧ d.on F.PRS_STAT_PRESENT = true) ∧
    (∃ (d : Dev) (g : BitVec 512), d.on F.TAL_STAT_ROOT_LOCK = true) :=
  ⟨⟨{ mod := { porstHigh := false } }, true, by decide +kernel⟩,
   ⟨({ mod := { porstHigh := true } } : Dev).put F.PRS_HOLD_MS 1999, true, _, _, rfl, rfl, by decide +kernel⟩,
   ⟨({ mod := { porstHigh := true } } : Dev).put F.PRS_HOLD_MS 1999, false, _, _, rfl, rfl, by decide +kernel⟩,
   ⟨({} : Dev).put F.PRS_STAT_PRESENT 1, _, rfl, by decide +kernel⟩,
   ⟨{}, by decide +kernel⟩,
   ⟨{}, by decide +kernel⟩,
   ⟨({} : Dev).put F.PRS_STAT_PRESENT 1, _, rfl, by decide +kernel⟩,
   ⟨({ mod := { porstHigh := true }, prs := { differ := 3 } } : Dev).put F.PRS_STAT_LOOP_FITTED 1, false, _, rfl, by decide +kernel⟩,
   ⟨{ mod := { porstHigh := true } }, true, by decide +kernel⟩,
   ⟨{}, .good, by decide +kernel⟩,
   ⟨{}, .good, by decide +kernel⟩,
   ⟨{ tal := { pending := [(true, 9)] } }, .good, 9, [], _, rfl, by decide +kernel⟩,
   ⟨{ tal := { pending := [(false, 9)] } }, .failed, 9, [], by decide +kernel⟩,
   ⟨{}, 5, by decide +kernel⟩,
   ⟨({} : Dev).put F.TAL_STAT_DEBUG 1, 5, by decide +kernel⟩,
   ⟨({ mod := { mode := Mode.safe } } : Dev).put F.TAL_STAT_DEBUG 1, 5, by decide +kernel⟩,
   ⟨{}, 5, by decide +kernel⟩,
   ⟨({} : Dev).put F.TAL_STAT_DEBUG 1, by decide +kernel⟩,
   ⟨({} : Dev).put F.PRS_STAT_PRESENT 1, 0xABCD#512, _, rfl, by decide +kernel⟩,
   ⟨({} : Dev).put F.TAL_STAT_ROOT_LOCK 1, 0xABCD#512, by decide +kernel⟩⟩

theorem witness_watchTakesEventsAndWrites :
    (∃ (d : Dev) (code : BitVec 16) (p0 : BitVec 32) (p1 : BitVec 32) (p2 : BitVec 32) (p3 : BitVec 32), [0x0103, 0x0104, 0x0105, 0x0106, 0x6003].contains code.toNat = false ∧ (d.clk.stopped = false ∨ aonReporter code.toNat = true)) ∧
    (∃ (d : Dev) (code : BitVec 16) (p0 : BitVec 32) (p1 : BitVec 32) (p2 : BitVec 32) (p3 : BitVec 32), d.clk.stopped = true ∧ aonReporter code.toNat = false) ∧
    (∃ (d : Dev) (n : Fin 20) (e : Event), d.wat.ports = (List.replicate 20 ({} : Port)).set n.val { ordinary := [e] } ∧ Events.severity e.code = some 0 ∧ d.dbk.staged.length < 32) ∧
    (∃ (d : Dev) (n : Fin 20) (k : Nat), d.wat.ports = (List.replicate 20 ({} : Port)).set n.val { dropped := k + 1 }) ∧
    (∃ (d : Dev), d.clk.stopped = false) ∧
    (∃ (d : Dev), d.on F.WAT_STAT_REG_FAULT = false ∧ d.clk.stopped = false) ∧
    (∃ (d : Dev), d.on F.WAT_STAT_REG_FAULT = true ∧ d.clk.stopped = false) ∧
    (∃ (d : Dev) (n : Fin 4), d.clk.stopped = false) ∧
    (∃ (d : Dev) (n : Fin 4), d.on F.WAT_STAT_REG_FAULT = false ∧ d.bit F.WAT_CORES_FENCED n.val = false ∧ d.get F.CFG_STAT_PHASE = 5 ∧ d.clk.stopped = false) ∧
    (∃ (d : Dev) (level : Bool), d.clk.stopped = false) ∧
    (∃ (d : Dev) (b : Bool), d.on F.WAT_STAT_REG_FAULT = false ∧ d.clk.stopped = false) ∧
    (∃ (d : Dev) (off : BitVec 32) (byte : BitVec 32), ((d.put F.WAT_STAT_REG_FAULT 1).stageDirect 0x6003 [off.toNat, byte.toNat]).harvesting = false ∧ ((d.put F.WAT_STAT_REG_FAULT 1).stageDirect 0x6003 [off.toNat, byte.toNat]).on F.WAT_STAT_SAFE = false ∧ ((d.put F.WAT_STAT_REG_FAULT 1).stageDirect 0x6003 [off.toNat, byte.toNat]).wat.safeDue = none) ∧
    (∃ (d : Dev) (n : Fin 4), at' d.wat.armed n.val false = true ∧ d.bit F.WAT_CORES_FENCED n.val = false) ∧
    (∃ (d : Dev) (n : Fin 4), at' d.wat.armed n.val false = false) :=
  ⟨⟨{}, 0x7006#16, 0#32, 0#32, 0#32, 0#32, by decide +kernel⟩,
   ⟨{ clk := { stopped := true } }, 0x7006#16, 0#32, 0#32, 0#32, 0#32, by decide +kernel⟩,
   ⟨({ wat := { ports := (List.replicate 20 ({} : Port)).set 19 { ordinary := [⟨0x0101, 0, 0, 0, 0⟩] } } } : Dev), 19, ⟨0x0101, 0, 0, 0, 0⟩, by decide +kernel⟩,
   ⟨{ wat := { ports := (List.replicate 20 ({} : Port)).set 0 { dropped := 7 } } }, 0, 6, by decide +kernel⟩,
   ⟨{}, by decide +kernel⟩,
   ⟨{}, by decide +kernel⟩,
   ⟨({} : Dev).put F.WAT_STAT_REG_FAULT 1, by decide +kernel⟩,
   ⟨{}, 0, by decide +kernel⟩,
   ⟨({} : Dev).put F.CFG_STAT_PHASE 5, 3, by decide +kernel⟩,
   ⟨{}, true, by decide +kernel⟩,
   ⟨{}, false, by decide +kernel⟩,
   ⟨{}, 4, 0, by decide +kernel⟩,
   ⟨{ wat := { armed := [false, false, false, true] } }, 3, by decide +kernel⟩,
   ⟨{}, 0, by decide +kernel⟩⟩

theorem witness_dayBookFreezesAndCursor :
    (∃ (d : Dev), d.clk.stopped = false) ∧
    (∃ (d : Dev), d.on F.DBK_STAT_FROZEN = false ∧ d.clk.stopped = false) ∧
    (∃ (d : Dev), d.clk.stopped = false) ∧
    (∃ (d : Dev), d.on F.DBK_STAT_FROZEN = true ∧ d.dbk.staged = [] ∧ d.clk.stopped = false) ∧
    (∃ (d : Dev), d.on F.DBK_STAT_FROZEN = true ∧ d.dbk.staged = []) ∧
    (∃ (d : Dev) (ok : Bool), (d.on F.DBK_STAT_FROZEN = true ∨ d.dbk.staged = [])) ∧
    (∃ (d : Dev) (ok : Bool) (x : Rec) (l : List Rec) (n : Nat) (q : Nat) (y : Rec), d.on F.DBK_STAT_FROZEN = false ∧ d.dbk.staged = x :: l ∧ d.get F.DBK_BUDGET_TOKENS ≠ 0 ∧ d.newestRow = some (n, q, y) ∧ y.event = x.event) ∧
    (∃ (d : Dev) (ok : Bool) (n : Nat) (q : Nat) (y : Rec), d.on F.DBK_STAT_FROZEN = false ∧ d.newestRow = some (n, q, y) ∧ 2 ≤ y.sev ∧ d.dbk.gathered = 0) ∧
    (∃ (d : Dev), d.dbk.emptied = false) ∧
    (∃ (d : Dev) (v : BitVec 48), d.clk.stopped = false) ∧
    (∃ (d : Dev), d.clk.stopped = false) ∧
    (∃ (d : Dev) (readable : Bool), d.on F.DBK_STAT_WIN_BUSY = true ∧ readable = true) ∧
    (∃ (d : Dev) (readable : Bool) (n : Nat), d.on F.DBK_STAT_WIN_BUSY = true ∧ readable = false ∧ d.windowRow = some n) ∧
    (∃ (d : Dev), d.mod.porstHigh = true) :=
  ⟨⟨{}, by decide +kernel⟩,
   ⟨{}, by decide +kernel⟩,
   ⟨{}, by decide +kernel⟩,
   ⟨({} : Dev).put F.DBK_STAT_FROZEN 1, by decide +kernel⟩,
   ⟨({} : Dev).put F.DBK_STAT_FROZEN 1, by decide +kernel⟩,
   ⟨{}, true, by decide +kernel⟩,
   ⟨({ dbk := { staged := [⟨⟨0x0101, 0, 0, 0, 0⟩, 0, 0, 0, 0⟩], rows := [⟨0, 1, false, 0, some (1, ⟨⟨0x0101, 0, 0, 0, 0⟩, 0, 0, 0, 0⟩)⟩] } } : Dev).put F.DBK_BUDGET_TOKENS 1, true, ⟨⟨0x0101, 0, 0, 0, 0⟩, 0, 0, 0, 0⟩, [], 0, 1, ⟨⟨0x0101, 0, 0, 0, 0⟩, 0, 0, 0, 0⟩, by decide +kernel⟩,
   ⟨{ dbk := { rows := [⟨0, 1, false, 0, some (1, ⟨⟨0x0102, 0, 0, 0, 0⟩, 3, 0, 0, 0⟩)⟩] } }, true, 0, 1, ⟨⟨0x0102, 0, 0, 0, 0⟩, 3, 0, 0, 0⟩, by decide +kernel⟩,
   ⟨{}, by decide +kernel⟩,
   ⟨{}, 0, by decide +kernel⟩,
   ⟨{}, by decide +kernel⟩,
   ⟨({} : Dev).put F.DBK_STAT_WIN_BUSY 1, true, by decide +kernel⟩,
   ⟨({ dbk := { rows := [⟨0, 1, false, 0, some (1, ⟨⟨0x0102, 0, 0, 0, 0⟩, 3, 0, 0, 0⟩)⟩] } } : Dev).put F.DBK_STAT_WIN_BUSY 1, false, 0, by decide +kernel⟩,
   ⟨{ mod := { porstHigh := true } }, by decide +kernel⟩⟩

theorem witness_ballsUartGpio :
    (∃ (d : Dev) (b : BitVec 8), d.clk.stopped = false) ∧
    (∃ (d : Dev) (b : BitVec 8), d.pins.tx.length < 64 ∧ d.clk.stopped = false) ∧
    (∃ (d : Dev) (b : BitVec 8), 64 ≤ d.pins.tx.length ∧ d.clk.stopped = false) ∧
    (∃ (d : Dev), d.live 0x17 = true) ∧
    (∃ (d : Dev) (b : Nat) (c : Nat) (l : List Nat), d.pins.tx = b :: c :: l ∧ d.on F.PIO_UART_CFG_EN = true ∧ d.live 0x17 = true) ∧
    (∃ (d : Dev) (b : Nat), d.pins.tx = [b] ∧ d.on F.PIO_UART_CFG_EN = true ∧ d.live 0x17 = true) ∧
    (∃ (d : Dev) (b : BitVec 8) (stop : Bool), d.live 0x17 = true) ∧
    (∃ (d : Dev) (b : BitVec 8) (stop : Bool), d.on F.PIO_UART_CFG_EN = true ∧ stop = true ∧ d.pins.rx = [] ∧ d.live 0x17 = true) ∧
    (∃ (d : Dev) (b : BitVec 8) (stop : Bool), d.on F.PIO_UART_CFG_EN = true ∧ stop = false ∧ d.live 0x17 = true) ∧
    (∃ (d : Dev), d.clk.stopped = false) ∧
    (∃ (d : Dev), d.pins.rx = [] ∧ d.clk.stopped = false) ∧
    (∃ (d : Dev) (b : Nat) (c : Nat) (l : List Nat), d.pins.rx = b :: c :: l ∧ d.clk.stopped = false) ∧
    (∃ (d : Dev) (v : BitVec 32), d.clk.stopped = false) ∧
    (∃ (d : Dev) (v : BitVec 32), 8 ≤ slice v.toNat 4 16 ∧ d.clk.stopped = false) ∧
    (∃ (d : Dev) (v : BitVec 32), slice v.toNat 4 16 < 8 ∧ d.clk.stopped = false) ∧
    (∃ (d : Dev) (v : BitVec 32), d.clk.stopped = false) ∧
    (∃ (d : Dev) (v : BitVec 32), (∀ i < 8, slice v.toNat (4 * i) 4 ≤ 5) ∧ d.clk.stopped = false) ∧
    (∃ (d : Dev) (v : BitVec 32) (i : Fin 8), 5 < slice v.toNat (4 * i.val) 4 ∧ d.clk.stopped = false) ∧
    (∃ (d : Dev) (v : BitVec 32), d.clk.stopped = false) ∧
    (∃ (d : Dev) (v : BitVec 32), slice v.toNat 8 8 &&& slice v.toNat 0 8 = 0 ∧ d.clk.stopped = false) ∧
    (∃ (d : Dev) (v : BitVec 32), slice v.toNat 8 8 &&& slice v.toNat 0 8 ≠ 0 ∧ d.clk.stopped = false) ∧
    (∃ (d : Dev) (n k : Nat), n < 4 ∧ d.powered (3 + n) = false ∧ d.pins.rails.testBit 6 = false) ∧
    (∃ (d : Dev), d.powered 2 = false ∧ d.pins.rails.testBit 6 = false) ∧
    (∃ (d : Dev) (s : Signal), s.row.1.drives = true ∧ d.pins.rails.testBit s.row.2.1.place = true) :=
  ⟨⟨{}, 0, by decide +kernel⟩,
   ⟨{ pins := { tx := List.replicate 63 0 } }, 0x41#8, by decide +kernel⟩,
   ⟨{ pins := { tx := List.replicate 64 0 } }, 0x41#8, by decide +kernel⟩,
   ⟨{}, by decide +kernel⟩,
   ⟨({ pins := { tx := [1, 2] } } : Dev).put F.PIO_UART_CFG_EN 1, 1, 2, [], by decide +kernel⟩,
   ⟨({ pins := { tx := [1] } } : Dev).put F.PIO_UART_CFG_EN 1, 1, by decide +kernel⟩,
   ⟨{}, 0, true, by decide +kernel⟩,
   ⟨({} : Dev).put F.PIO_UART_CFG_EN 1, 0x41#8, true, by decide +kernel⟩,
   ⟨({} : Dev).put F.PIO_UART_CFG_EN 1, 0x41#8, false, by decide +kernel⟩,
   ⟨{}, by decide +kernel⟩,
   ⟨{}, by decide +kernel⟩,
   ⟨{ pins := { rx := [1, 2] } }, 1, 2, [], by decide +kernel⟩,
   ⟨{}, 0, by decide +kernel⟩,
   ⟨{}, 0x80000080#32, by decide +kernel⟩,
   ⟨{}, 0x8000007F#32, by decide +kernel⟩,
   ⟨{}, 0, by decide +kernel⟩,
   ⟨{}, 0x55555555#32, by decide +kernel⟩,
   ⟨{}, 0x60000000#32, 7, by decide +kernel⟩,
   ⟨{}, 0, by decide +kernel⟩,
   ⟨{}, 0xF00F#32, by decide +kernel⟩,
   ⟨{}, 0x8080#32, by decide +kernel⟩,
   ⟨({} : Dev).put F.CLK_PD_STAT_OFF 0x3FE, 0, 0, by decide +kernel⟩,
   ⟨({} : Dev).put F.CLK_PD_STAT_OFF 0x3FE, by decide +kernel⟩,
   ⟨{ pins := { rails := 64 } }, .sealA, by decide +kernel⟩⟩

theorem witness_thermalSamplesMoveTheStep :
    (∃ (d : Dev) (l : List Int), d.live 0x16 = true) ∧
    (∃ (d : Dev) (l : List Int) (x : Nat × Int), d.mod.porstHigh = true ∧ d.thm.stale = false ∧ ({ (d.each (List.range 14) (fun e i => e.putI F.THM_SENSOR_TEMP i (tempBits (at' l i 0)))) with thm := { d.thm with stale := false } } : Dev).report l = some x ∧ 7 ≤ popCount 14 (({ (d.each (List.range 14) (fun e i => e.putI F.THM_SENSOR_TEMP i (tempBits (at' l i 0)))) with thm := { d.thm with stale := false } } : Dev).get F.THM_VALID_VALID) ∧ d.live 0x16 = true) ∧
    (∃ (d : Dev) (l : List Int), d.mod.porstHigh = false ∧ d.live 0x16 = true) ∧
    (∃ (d : Dev) (code : Fin 4096), d.live 0x16 = true) ∧
    (∃ (d : Dev) (code : Fin 4096) (t : Int), d.mod.porstHigh = true ∧ d.enclosureTemp code.val = some t ∧ (16 * d.policy 0x700A 60 : Nat) ≤ t ∧ d.live 0x16 = true) ∧
    (∃ (d : Dev), d.clk.stopped = false) :=
  ⟨⟨{}, [], by decide +kernel⟩,
   ⟨({ mod := { porstHigh := true } } : Dev).put F.THM_VALID_VALID 0x3FFF, List.replicate 14 400, (0, 400), by decide +kernel⟩,
   ⟨{}, [], by decide +kernel⟩,
   ⟨{}, 0, by decide +kernel⟩,
   ⟨{ mod := { porstHigh := true }, pol := [(0x700A, 57)] }, 1000, 919, by decide +kernel⟩,
   ⟨{}, by decide +kernel⟩⟩

theorem witness_coresAndRegistersByAddress :
    (∃ (d : Dev) (byHost : Bool) (addr : BitVec 40) (wide : Bool) (v : BitVec 64), d.clk.stopped = false) ∧
    (∃ (d : Dev) (a : BitVec 40) (v : BitVec 64), regFind a.toNat = none ∧ d.clk.stopped = false) ∧
    (∃ (d : Dev) (a : BitVec 40) (v : BitVec 64) (row : RegRow) (i : Nat), regFind a.toNat = some (row, i) ∧ d.powered (rowDomain row i) = false ∧ d.clk.stopped = false) ∧
    (∃ (d : Dev) (a : BitVec 40) (v : BitVec 64) (row : RegRow) (i : Nat), pairLow a.toNat = true ∧ regFind a.toNat = some (row, i) ∧ d.powered (rowDomain row i) = false ∧ d.clk.stopped = false) ∧
    (∃ (d : Dev) (a : BitVec 40) (v : BitVec 64), pairLow a.toNat = false ∧ d.clk.stopped = false) ∧
    (∃ (d : Dev) (a : BitVec 40) (v : BitVec 64), a = 0x20120018#40 ∧ d.powered 6 = true ∧ d.clk.stopped = false) ∧
    (∃ (d : Dev) (a : BitVec 40) (v : BitVec 64) (row : RegRow) (i : Nat), regFind a.toNat = some (row, i) ∧ d.powered (rowDomain row i) = true ∧ (a.toNat - 0x20000000) / 0x10000 ∈ [1, 3, 9, 16, 22] ∧ d.clk.stopped = false) ∧
    (∃ (d : Dev) (a : BitVec 40) (v : BitVec 64), a = 0x2002000C#40 ∧ d.powered (islandDomain 2) = true ∧ d.clk.stopped = false) ∧
    (∃ (d : Dev) (a : BitVec 40) (wide : Bool) (v : BitVec 64), (a.toNat < 0x200E1000 ∨ 0x200E2000 ≤ a.toNat) ∧ d.clk.stopped = false) ∧
    (∃ (d : Dev) (core : Fin 4) (x : CoreAccess), d.clk.stopped = false) ∧
    (∃ (d : Dev) (core : Fin 4) (x : CoreAccess), d.bit F.WAT_CORES_FENCED core.val = true ∧ d.clk.stopped = false) ∧
    (∃ (d : Dev) (core : Fin 4) (x : CoreAccess), d.bit F.WAT_CORES_FENCED core.val = false ∧ d.stalled core.val = false ∧ accessLenOk x = true ∧ x.l1Parity = false ∧ x.op ∉ [MemOp.fence, .csrRead, .csrWrite, .csrSet, .csrClear, .mret, .ecall, .ebreak, .insn, .fetch] ∧ accessAligned x = false ∧ d.clk.stopped = false) ∧
    (∃ (d : Dev) (core : Fin 4) (x : CoreAccess), d.bit F.WAT_CORES_FENCED core.val = false ∧ d.stalled core.val = false ∧ accessLenOk x = true ∧ x.l1Parity = false ∧ x.op ∉ [MemOp.fence, .csrRead, .csrWrite, .csrSet, .csrClear, .mret, .ecall, .ebreak, .insn, .fetch] ∧ accessAligned x = true ∧ (d.core core.val).allows x.op x.addr x.len = false ∧ d.clk.stopped = false) ∧
    (∃ (d : Dev) (core : Fin 4) (x : CoreAccess), d.bit F.WAT_CORES_FENCED core.val = false ∧ d.stalled core.val = false ∧ x.op = .fetch ∧ (x.len = 2 ∨ x.len = 4) ∧ x.l1Parity = false ∧ x.addr % 2 = 0 ∧ d.clk.stopped = false) ∧
    (∃ (d : Dev) (core : Fin 4) (x : CoreAccess), d.bit F.WAT_CORES_FENCED core.val = false ∧ d.stalled core.val = false ∧ accessLenOk x = true ∧ x.l1Parity = false ∧ x.op ∉ [MemOp.fence, .csrRead, .csrWrite, .csrSet, .csrClear, .mret, .ecall, .ebreak, .insn, .fetch] ∧ accessAligned x = true ∧ (d.core core.val).allows x.op x.addr x.len = true ∧ d.isSram x.addr = false ∧ 0x20180000 ≤ x.addr ∧ x.addr + x.len ≤ granBase ∧ d.clk.stopped = false) ∧
    (∃ (d : Dev) (core : Fin 4) (x : CoreAccess), d.bit F.WAT_CORES_FENCED core.val = false ∧ d.stalled core.val = false ∧ accessLenOk x = true ∧ x.l1Parity = false ∧ x.op ∉ [MemOp.fence, .csrRead, .csrWrite, .csrSet, .csrClear, .mret, .ecall, .ebreak, .insn, .fetch] ∧ accessAligned x = true ∧ (d.core core.val).allows x.op x.addr x.len = true ∧ 0x20000000 ≤ x.addr ∧ x.addr + x.len ≤ 0x20180000 ∧ d.isSram x.addr = false ∧ x.op = .load ∧ x.len = 4 ∧ d.clk.stopped = false) ∧
    (∃ (d : Dev) (core : Fin 4) (x : CoreAccess), d.bit F.WAT_CORES_FENCED core.val = false ∧ d.stalled core.val = false ∧ accessLenOk x = true ∧ x.l1Parity = false ∧ x.op ∉ [MemOp.fence, .csrRead, .csrWrite, .csrSet, .csrClear, .mret, .ecall, .ebreak, .insn, .fetch] ∧ accessAligned x = true ∧ (d.core core.val).allows x.op x.addr x.len = true ∧ 0x20000000 ≤ x.addr ∧ x.addr + x.len ≤ 0x20180000 ∧ d.isSram x.addr = false ∧ x.op = .store ∧ x.len = 4 ∧ d.clk.stopped = false) ∧
    (∃ (d : Dev) (core : Fin 4) (x : CoreAccess), d.bit F.WAT_CORES_FENCED core.val = false ∧ d.stalled core.val = false ∧ accessLenOk x = true ∧ x.l1Parity = false ∧ x.op ∉ [MemOp.fence, .csrRead, .csrWrite, .csrSet, .csrClear, .mret, .ecall, .ebreak, .insn, .fetch] ∧ accessAligned x = true ∧ (d.core core.val).allows x.op x.addr x.len = true ∧ 0x20000000 ≤ x.addr ∧ x.addr + x.len ≤ 0x20180000 ∧ d.isSram x.addr = false ∧ x.op = .store ∧ x.len = 8 ∧ pairLow x.addr = true ∧ d.clk.stopped = false) ∧
    (∃ (d : Dev) (core : Fin 4) (x : CoreAccess), d.bit F.WAT_CORES_FENCED core.val = false ∧ d.stalled core.val = false ∧ accessLenOk x = true ∧ x.l1Parity = false ∧ x.op ∉ [MemOp.fence, .csrRead, .csrWrite, .csrSet, .csrClear, .mret, .ecall, .ebreak, .insn, .fetch] ∧ accessAligned x = true ∧ (d.core core.val).allows x.op x.addr x.len = true ∧ 0x20000000 ≤ x.addr ∧ x.addr + x.len ≤ 0x20180000 ∧ d.isSram x.addr = false ∧ opAtomic x.op = true ∧ d.clk.stopped = false) ∧
    (∃ (d : Dev) (core : Fin 4) (x : CoreAccess), d.bit F.WAT_CORES_FENCED core.val = false ∧ d.stalled core.val = false ∧ accessLenOk x = true ∧ x.l1Parity = false ∧ x.op ∉ [MemOp.fence, .csrRead, .csrWrite, .csrSet, .csrClear, .mret, .ecall, .ebreak, .insn, .fetch] ∧ accessAligned x = true ∧ (d.core core.val).allows x.op x.addr x.len = true ∧ 0x20000000 ≤ x.addr ∧ x.addr + x.len ≤ 0x20180000 ∧ d.isSram x.addr = false ∧ (x.op = .load ∨ x.op = .store) ∧ (x.len = 1 ∨ x.len = 2 ∨ (x.len = 8 ∧ pairLow x.addr = false)) ∧ d.clk.stopped = false) ∧
    (∃ (d : Dev) (core : Fin 4) (x : CoreAccess), d.bit F.WAT_CORES_FENCED core.val = false ∧ d.stalled core.val = false ∧ accessLenOk x = true ∧ x.l1Parity = false ∧ x.op ∉ [MemOp.fence, .csrRead, .csrWrite, .csrSet, .csrClear, .mret, .ecall, .ebreak, .insn, .fetch] ∧ accessAligned x = true ∧ (d.core core.val).allows x.op x.addr x.len = true ∧ x.addr + x.len ≤ 0x40000 ∧ x.op = .load ∧ d.clk.stopped = false) ∧
    (∃ (d : Dev) (core : Fin 4) (x : CoreAccess), d.bit F.WAT_CORES_FENCED core.val = false ∧ d.stalled core.val = false ∧ accessLenOk x = true ∧ x.l1Parity = false ∧ x.op ∉ [MemOp.fence, .csrRead, .csrWrite, .csrSet, .csrClear, .mret, .ecall, .ebreak, .insn, .fetch] ∧ accessAligned x = true ∧ (d.core core.val).allows x.op x.addr x.len = true ∧ x.addr + x.len ≤ 0x40000 ∧ x.op = .store ∧ d.clk.stopped = false) ∧
    (∃ (d : Dev) (core : Fin 4) (x : CoreAccess), d.bit F.WAT_CORES_FENCED core.val = false ∧ d.stalled core.val = false ∧ accessLenOk x = true ∧ x.l1Parity = false ∧ x.op ∉ [MemOp.fence, .csrRead, .csrWrite, .csrSet, .csrClear, .mret, .ecall, .ebreak, .insn, .fetch] ∧ accessAligned x = true ∧ (d.core core.val).allows x.op x.addr x.len = true ∧ 0x10000000 ≤ x.addr ∧ x.addr + x.len ≤ 0x10100000 ∧ x.op = .load ∧ d.sramCheck x.addr x.len x.word = (d, false) ∧ d.clk.stopped = false) ∧
    (∃ (d : Dev) (core : Fin 4) (x : CoreAccess), d.bit F.WAT_CORES_FENCED core.val = false ∧ d.stalled core.val = false ∧ accessLenOk x = true ∧ x.l1Parity = false ∧ x.op ∉ [MemOp.fence, .csrRead, .csrWrite, .csrSet, .csrClear, .mret, .ecall, .ebreak, .insn, .fetch] ∧ accessAligned x = true ∧ (d.core core.val).allows x.op x.addr x.len = true ∧ 0x10000000 ≤ x.addr ∧ x.addr + x.len ≤ 0x10100000 ∧ x.op = .store ∧ d.clk.stopped = false) ∧
    (∃ (d : Dev) (core : Fin 4) (x : CoreAccess), d.bit F.WAT_CORES_FENCED core.val = false ∧ d.stalled core.val = false ∧ x.op = .csrRead ∧ x.addr = 0xF14 ∧ (d.core core.val).user = false ∧ d.clk.stopped = false) ∧
    (∃ (d : Dev) (core : Fin 4) (x : CoreAccess), d.bit F.WAT_CORES_FENCED core.val = false ∧ d.stalled core.val = false ∧ x.op ∈ [MemOp.csrRead, .csrWrite, .csrSet, .csrClear] ∧ (d.core core.val).user = true ∧ x.addr ∈ [0x300, 0x304, 0x305, 0x340, 0x341, 0x342, 0x343, 0x3A0, 0x3A2, 0xF14] ∧ d.clk.stopped = false) ∧
    (∃ (d : Dev) (core : Fin 4) (x : CoreAccess), d.bit F.WAT_CORES_FENCED core.val = false ∧ d.stalled core.val = false ∧ x.op = .csrWrite ∧ x.addr = 0x340 ∧ (d.core core.val).user = false ∧ d.clk.stopped = false) ∧
    (∃ (d : Dev) (core : Fin 4) (x : CoreAccess), d.bit F.WAT_CORES_FENCED core.val = false ∧ d.stalled core.val = false ∧ x.op = .mret ∧ (d.core core.val).user = false ∧ d.clk.stopped = false) ∧
    (∃ (d : Dev) (core : Fin 4) (x : CoreAccess), d.bit F.WAT_CORES_FENCED core.val = false ∧ d.stalled core.val = false ∧ x.op = .mret ∧ (d.core core.val).user = true ∧ d.clk.stopped = false) ∧
    (∃ (d : Dev) (core : Fin 4) (x : CoreAccess), d.bit F.WAT_CORES_FENCED core.val = false ∧ d.stalled core.val = false ∧ x.op = .ecall ∧ (d.core core.val).user = true ∧ d.clk.stopped = false) ∧
    (∃ (d : Dev) (core : Fin 4) (x : CoreAccess), d.bit F.WAT_CORES_FENCED core.val = false ∧ d.stalled core.val = false ∧ x.op = .ecall ∧ (d.core core.val).user = false ∧ d.clk.stopped = false) ∧
    (∃ (d : Dev) (core : Fin 4) (x : CoreAccess), d.bit F.WAT_CORES_FENCED core.val = false ∧ d.stalled core.val = false ∧ x.op = .ebreak ∧ d.clk.stopped = false) ∧
    (∃ (d : Dev) (core : Fin 4) (x : CoreAccess), d.bit F.WAT_CORES_FENCED core.val = false ∧ d.stalled core.val = false ∧ x.op = .fence ∧ d.missAt core.val = false ∧ d.clk.stopped = false) ∧
    (∃ (d : Dev) (core : Fin 4) (x : CoreAccess) (op : RvOp) (w : Bool) (rd : Nat) (rs1 : Nat) (rs2 : Nat), d.bit F.WAT_CORES_FENCED core.val = false ∧ d.stalled core.val = false ∧ x.op = .insn ∧ ((d.core core.val).interruptible && d.interrupts) = false ∧ decodeInsn x.data = some (.alu op w rd rs1 rs2) ∧ d.clk.stopped = false) ∧
    (∃ (d : Dev) (core : Fin 4) (x : CoreAccess) (op : RvOp) (w : Bool) (rd : Nat) (rs1 : Nat) (imm : Nat), d.bit F.WAT_CORES_FENCED core.val = false ∧ d.stalled core.val = false ∧ x.op = .insn ∧ ((d.core core.val).interruptible && d.interrupts) = false ∧ decodeInsn x.data = some (.aluImm op w rd rs1 imm) ∧ d.clk.stopped = false) ∧
    (∃ (d : Dev) (core : Fin 4) (x : CoreAccess) (rd : Nat) (rs1 : Nat) (off : Nat), d.bit F.WAT_CORES_FENCED core.val = false ∧ d.stalled core.val = false ∧ x.op = .insn ∧ ((d.core core.val).interruptible && d.interrupts) = false ∧ decodeInsn x.data = some (.jalr rd rs1 off) ∧ d.clk.stopped = false) ∧
    (∃ (d : Dev) (core : Fin 4) (x : CoreAccess) (k : Cond) (rs1 : Nat) (rs2 : Nat) (off : Nat), d.bit F.WAT_CORES_FENCED core.val = false ∧ d.stalled core.val = false ∧ x.op = .insn ∧ ((d.core core.val).interruptible && d.interrupts) = false ∧ decodeInsn x.data = some (.branch k rs1 rs2 off) ∧ d.clk.stopped = false) ∧
    (∃ (d : Dev) (core : Fin 4) (x : CoreAccess) (len : Nat) (signed : Bool) (rd : Nat) (rs1 : Nat) (off : Nat), d.bit F.WAT_CORES_FENCED core.val = false ∧ d.stalled core.val = false ∧ x.op = .insn ∧ ((d.core core.val).interruptible && d.interrupts) = false ∧ decodeInsn x.data = some (.load len signed rd rs1 off) ∧ d.clk.stopped = false) ∧
    (∃ (d : Dev) (core : Fin 4) (x : CoreAccess), d.bit F.WAT_CORES_FENCED core.val = false ∧ d.stalled core.val = false ∧ x.op = .insn ∧ ((d.core core.val).interruptible && d.interrupts) = false ∧ decodeInsn x.data = none ∧ d.clk.stopped = false) ∧
    (∃ (d : Dev) (core : Fin 4) (x : CoreAccess), d.bit F.WAT_CORES_FENCED core.val = false ∧ d.stalled core.val = false ∧ x.op = .insn ∧ (d.core core.val).interruptible = true ∧ d.interrupts = true ∧ d.clk.stopped = false) ∧
    (∃ (c : Core) (w : Waits), c.waits = some w) ∧
    (∃ (d : Dev) (n : Nat), n < 4 ∧ n < d.bus.cores.length) ∧
    (∃ c : Core, ∀ i < 16, c.pmpCovers i 0 = false ∧ c.pmpCovers i 3 = false) ∧
    (∃ (c : Core) (i addr len : Nat), i < 16 ∧ c.pmpCovers i addr = true ∧ c.pmpCovers i (addr + len - 1) = true ∧
      ∀ j < i, c.pmpCovers j addr = false ∧ c.pmpCovers j (addr + len - 1) = false) :=
  ⟨⟨{}, true, 0, true, 0, by decide +kernel⟩,
   ⟨{}, 0x20030FF0#40, 7#64, by decide +kernel⟩,
   ⟨({} : Dev).put F.CLK_PD_STAT_OFF 0x3FE, 0x20010084#40, 7#64, ⟨0x20010084, 1, 0, 1, 0, [⟨F.CFG_INT_EN_ADMIT_REFUSED, 3, .rw⟩, ⟨F.CFG_INT_EN_HOLD, 2, .rw⟩, ⟨F.CFG_INT_EN_FALLBACK, 1, .rw⟩, ⟨F.CFG_INT_EN_DONE, 0, .rw⟩]⟩, 0, by decide +kernel⟩,
   ⟨({} : Dev).put F.CLK_PD_STAT_OFF 0x3FE, 0x20120018#40, 7#64, ⟨0x20120018, 1, 0, 1, 0, [⟨⟨830, 32, 0⟩, 0, .wo⟩]⟩, 0, by decide +kernel⟩,
   ⟨{}, 0x20010084#40, 7#64, by decide +kernel⟩,
   ⟨{}, 0x20120018#40, 7#64, by decide +kernel⟩,
   ⟨{}, 0x20010084#40, 0xB#64, ⟨0x20010084, 1, 0, 1, 0, [⟨F.CFG_INT_EN_ADMIT_REFUSED, 3, .rw⟩, ⟨F.CFG_INT_EN_HOLD, 2, .rw⟩, ⟨F.CFG_INT_EN_FALLBACK, 1, .rw⟩, ⟨F.CFG_INT_EN_DONE, 0, .rw⟩]⟩, 0, by decide +kernel⟩,
   ⟨{ mod := { mode := Mode.serve } }, 0x2002000C#40, 4#64, by decide +kernel⟩,
   ⟨{}, 0x20010084#40, false, 7#64, by decide +kernel⟩,
   ⟨{}, 0, ⟨.load, 0, 4, 0, false, .clean, .clean, .good, false, [], 0⟩, by decide +kernel⟩,
   ⟨({} : Dev).put F.WAT_CORES_FENCED 4, 2, ⟨.load, 0x10000000, 4, 0, false, .clean, .clean, .good, true, [], 0⟩, by decide +kernel⟩,
   ⟨{}, 2, ⟨.load, 0x10000002, 4, 0, false, .clean, .clean, .good, true, [], 0⟩, by decide +kernel⟩,
   ⟨{ bus := { cores := [{}, {}, { user := true, mtvec := 0x400, pc := 0x90 }, {}] } }, 2, ⟨.store, 0x10000000, 4, 0, false, .clean, .clean, .good, true, [], 0⟩, by decide +kernel⟩,
   ⟨{}, 1, ⟨.fetch, 0x102, 4, 0, false, .clean, .clean, .good, true, [], 0⟩, by decide +kernel⟩,
   ⟨{}, 1, ⟨.load, 0x20180000, 4, 0, false, .clean, .clean, .good, true, [], 0⟩, by decide +kernel⟩,
   ⟨{}, 1, ⟨.load, 0x20010000, 4, 0, false, .clean, .clean, .good, true, [], 0⟩, by decide +kernel⟩,
   ⟨{}, 1, ⟨.store, 0x20010084, 4, 5, false, .clean, .clean, .good, true, [], 0⟩, by decide +kernel⟩,
   ⟨{}, 1, ⟨.store, 0x200A0010, 8, 5, false, .clean, .clean, .good, true, [], 0⟩, by decide +kernel⟩,
   ⟨{}, 1, ⟨.amoAdd, 0x20010084, 4, 5, false, .clean, .clean, .good, true, [], 0⟩, by decide +kernel⟩,
   ⟨{}, 1, ⟨.load, 0x20010084, 2, 0, false, .clean, .clean, .good, true, [], 0⟩, by decide +kernel⟩,
   ⟨{}, 1, ⟨.load, 0x3FFFC, 4, 0, false, .clean, .clean, .good, true, [], 0⟩, by decide +kernel⟩,
   ⟨{}, 1, ⟨.store, 0x3FFFC, 4, 0, false, .clean, .clean, .good, true, [], 0⟩, by decide +kernel⟩,
   ⟨{ mem := [(0x10000001, 3#8)] }, 1, ⟨.load, 0x10000000, 4, 0, false, .clean, .clean, .good, true, [], 0⟩, by decide +kernel⟩,
   ⟨{}, 1, ⟨.store, 0x10000000, 4, 19088743, false, .clean, .clean, .good, true, [], 0⟩, by decide +kernel⟩,
   ⟨{}, 3, ⟨.csrRead, 0xF14, 4, 0, false, .clean, .clean, .good, true, [], 0⟩, by decide +kernel⟩,
   ⟨{ bus := { cores := [{}, {}, { user := true, mtvec := 0x400, pc := 0x90 }, {}] } }, 2, ⟨.csrSet, 0x300, 4, 8, false, .clean, .clean, .good, true, [], 0⟩, by decide +kernel⟩,
   ⟨{}, 3, ⟨.csrWrite, 0x340, 4, 77, false, .clean, .clean, .good, true, [], 0⟩, by decide +kernel⟩,
   ⟨{}, 3, ⟨.mret, 0, 4, 0, false, .clean, .clean, .good, true, [], 0⟩, by decide +kernel⟩,
   ⟨{ bus := { cores := [{}, {}, { user := true, mtvec := 0x400, pc := 0x90 }, {}] } }, 2, ⟨.mret, 0, 4, 0, false, .clean, .clean, .good, true, [], 0⟩, by decide +kernel⟩,
   ⟨{ bus := { cores := [{}, {}, { user := true, mtvec := 0x400, pc := 0x90 }, {}] } }, 2, ⟨.ecall, 0, 4, 0, false, .clean, .clean, .good, true, [], 0⟩, by decide +kernel⟩,
   ⟨{}, 2, ⟨.ecall, 0, 4, 0, false, .clean, .clean, .good, true, [], 0⟩, by decide +kernel⟩,
   ⟨{ bus := { cores := [{}, {}, { user := true, mtvec := 0x400, pc := 0x90 }, {}] } }, 2, ⟨.ebreak, 0, 4, 0, false, .clean, .clean, .good, true, [], 0⟩, by decide +kernel⟩,
   ⟨{}, 2, ⟨.fence, 0, 4, 0, false, .clean, .clean, .good, true, [], 0⟩, by decide +kernel⟩,
   ⟨{}, 2, ⟨.insn, 0, 4, 2130227, false, .clean, .clean, .good, true, [], 0⟩, .add, false, 2, 1, 2, by decide +kernel⟩,
   ⟨{}, 2, ⟨.insn, 0, 4, 17669, false, .clean, .clean, .good, true, [], 0⟩, .add, false, 10, 0, 1, by decide +kernel⟩,
   ⟨{}, 2, ⟨.insn, 0, 4, 32898, false, .clean, .clean, .good, true, [], 0⟩, 0, 1, 0, by decide +kernel⟩,
   ⟨{}, 2, ⟨.insn, 0, 4, 4261415139, false, .clean, .clean, .good, true, [], 0⟩, .eq, 0, 0, 2 ^ 64 - 16, by decide +kernel⟩,
   ⟨{ bus := { cores := [{}, {}, { x := 0 :: 0x10000000 :: List.replicate 30 0 }, {}] }, mem := [(0x10000001, 3#8)] }, 2, ⟨.insn, 0, 4, 4236035, false, .clean, .clean, .good, true, [], 0⟩, 4, true, 6, 1, 4, by decide +kernel⟩,
   ⟨{}, 2, ⟨.insn, 0, 4, 0, false, .clean, .clean, .good, true, [], 0⟩, by decide +kernel⟩,
   ⟨((({} : Dev).setCore 2 (fun c => { c with mie := true, mieReg := 2048 })).put F.CLK_INT_STAT_XIN_LOST 1).put F.CLK_INT_EN_XIN_LOST 1, 2, ⟨.insn, 0, 4, 0, false, .clean, .clean, .good, true, [], 0⟩, by decide +kernel⟩,
   ⟨{ waits := some ⟨1, 4, true, 4⟩ }, ⟨1, 4, true, 4⟩, rfl⟩,
   ⟨{}, 2, by decide, by decide⟩,
   ⟨{}, by decide⟩,
   ⟨{ pmpCfg := 0x19 :: List.replicate 15 0, pmpAddr := 0x1FF :: List.replicate 15 0 }, 0, 8, 4, by decide, by decide, by decide, by decide⟩⟩
end

section
/-! SUPPORT. Registers by their access codes and addresses, and the bytes of on-die SRAM (spec/00, spec/01): the rules that a write, a read
and a search obey, and from them the statements of the spec's scope. -/

namespace Sys2Proof.Machine

/-! ### A field's access code (00 R7) -/

theorem testBit_slice (v lo w k : Nat) (h : k < w) : (slice v lo w).testBit k = v.testBit (lo + k) := by
  simp [slice, h, Nat.testBit_mod_two_pow, Nat.testBit_div_two_pow, Nat.add_comm]

/-- Taking away the bits of `x` that stand in `v` clears just those. -/
theorem testBit_sub_and (v x k : Nat) : (v - (v &&& x)).testBit k = (v.testBit k && !x.testBit k) := by
  have hle : v &&& x ≤ v := Nat.and_le_left
  have hlow : (v &&& x) % 2 = 1 ↔ v % 2 = 1 ∧ x % 2 = 1 := Nat.and_mod_two_eq_one
  induction k generalizing v x with
  | zero =>
    simp only [Nat.testBit_zero, ← decide_not, ← Bool.decide_and, decide_eq_decide]
    omega
  | succ k ih =>
    have hhalf : (v - (v &&& x)) / 2 = v / 2 - (v / 2 &&& x / 2) := by rw [← Nat.and_div_two]; omega
    simp only [Nat.testBit_succ, hhalf]
    exact ih (v / 2) (x / 2) Nat.and_le_left Nat.and_mod_two_eq_one

/-- A field written reads bit by bit as what was written. -/
theorem Dev.testBit_getI_putI (d : Dev) (f : Field) (i v k : Nat) (h : k < f.width) :
    ((d.putI f i v).getI f i).testBit k = v.testBit k := by
  simp [h]

theorem Dev.testBit_getI_writeField (d : Dev) (p : Place) (i v k : Nat) (ok : Bool) (h : k < p.field.width) :
    ((d.writeField p i v ok).getI p.field i).testBit k =
      match p.access with
      | .ro => (d.getI p.field i).testBit k
      | .wo => (d.getI p.field i).testBit k
      | .rw => v.testBit (p.lo + k)
      | .w1s => (d.getI p.field i).testBit k || v.testBit (p.lo + k)
      | .w1c => (d.getI p.field i).testBit k && !v.testBit (p.lo + k)
      | .rwo => if ok then v.testBit (p.lo + k) else (d.getI p.field i).testBit k := by
  unfold Dev.writeField
  cases p.access with
  | ro => rfl
  | wo => rfl
  | rw => simp only [d.testBit_getI_putI _ _ _ _ h, testBit_slice _ _ _ _ h]
  | w1s => simp only [d.testBit_getI_putI _ _ _ _ h, Nat.testBit_or, testBit_slice _ _ _ _ h]
  | w1c => simp only [d.testBit_getI_putI _ _ _ _ h, testBit_sub_and, testBit_slice _ _ _ _ h]
  | rwo =>
    cases ok with
    | true => simp only [if_true, d.testBit_getI_putI _ _ _ _ h, testBit_slice _ _ _ _ h]
    | false => rfl

/-- A field's write changes no other field, nor the same field of a repeated register's other places. -/
theorem Dev.getI_writeField_other (d : Dev) (p : Place) (i v : Nat) (ok : Bool) (f : Field) (j : Nat) (h : f.key ≠ p.field.key ∨ j ≠ i) :
    (d.writeField p i v ok).getI f j = d.getI f j := by
  have hput (x : Nat) : (d.putI p.field i x).getI f j = d.getI f j := d.getI_putI_other x (h.imp Ne.symm Ne.symm)
  unfold Dev.writeField
  cases p.access with
  | ro => rfl
  | wo => rfl
  | rw => exact hput _
  | w1s => exact hput _
  | w1c => exact hput _
  | rwo =>
    cases ok with
    | true => exact hput _
    | false => rfl

theorem Dev.readRow_writeOnly (d : Dev) (row : RegRow) (i : Nat) (h : ∀ p ∈ row.places, p.access = .wo) : d.readRow row i = 0 := by
  rw [Dev.readRow, List.foldl_ext _ (fun v _ => v) 0 fun v p hp => if_pos (h p hp)]
  simp

/-- Settles O8: each access code by the bits of the value its branch of `Dev.writeField` puts. -/
theorem accessCodesMeanWhatTheySay : Obligations.AccessCodesMeanWhatTheySay :=
  ⟨fun d p i v k ok h => d.testBit_getI_writeField p i v k ok h, Dev.getI_writeField_other, Dev.readRow_writeOnly⟩

/-! ### A register by its address (00 R5, R10; 02 R81) -/

/-- What is found in a row lies at the address searched. -/
theorem rowInst_eq_some {row : RegRow} {a i : Nat} (h : rowInst row a = some i) :
    i < row.n1 * row.n2 ∧ row.addr + i / row.n2 * row.stride1 + i % row.n2 * row.stride2 = a := by
  unfold rowInst at h
  split at h
  · cases h
  · exact ⟨List.mem_range.mp (List.mem_of_find?_eq_some h), by simpa using List.find?_some h⟩

/-- A search for an address at which no row has a register finds nothing. -/
theorem rowSearch_eq_none {l : List RegRow} {a : Nat}
    (h : ∀ row ∈ l, ∀ i < row.n1 * row.n2, row.addr + i / row.n2 * row.stride1 + i % row.n2 * row.stride2 ≠ a) : rowSearch l a = none := by
  induction l with
  | nil => rfl
  | cons row l ih =>
    have hrow : rowInst row a = none := by
      by_contra hne
      obtain ⟨i, hi⟩ := Option.ne_none_iff_exists'.mp hne
      exact h row (by simp) i (rowInst_eq_some hi).1 (rowInst_eq_some hi).2
    simpa [rowSearch, hrow] using ih fun r hr => h r (by simp [hr])

/-- The registers of TWN lie below its window page (15 R594). -/
theorem twn_below_windows : ∀ row ∈ Layout.twn, ∀ i < row.n1 * row.n2,
    row.addr + i / row.n2 * row.stride1 + i % row.n2 * row.stride2 < 0x200F4000 := by
  decide

theorem regFind_windowPage {a : Nat} (hl : 0x200F4000 ≤ a) (hu : a < 0x200F8000) : regFind a = none := by
  have hb : (a - 0x20000000) / 0x10000 = 15 := by omega
  rw [regFind, if_neg (by omega), hb]
  exact rowSearch_eq_none fun row hr i hi he => by have := twn_below_windows row hr i hi; omega

theorem Dev.storeReg_none (d : Dev) {a : Nat} (v : Nat) (byHost : Bool) (ha : regFind a = none) : d.storeReg a v byHost = d := by
  simp [Dev.storeReg, ha]

theorem Dev.storeReg_off (d : Dev) {a : Nat} {row : RegRow} {i : Nat} (v : Nat) (byHost : Bool) (ha : regFind a = some (row, i))
    (hp : d.powered (rowDomain row i) = false) : d.storeReg a v byHost = d.inc F.CLK_PD_DROPWR_COUNT := by
  simp [Dev.storeReg, ha, Dev.inPower, hp, Dev.droppedWrite]

theorem Dev.readReg_windowPage (d : Dev) {a : Nat} (hl : 0x200F4000 ≤ a) (hu : a < 0x200F8000) :
    d.readReg a = (if d.powered (islandDomain 0x0F) then d.winRead ((a - 0x200F4000) / 64) (a % 64) else 0, d) := by
  simp [Dev.readReg, hl, hu]

theorem outside_windowPage {a : Nat} (h : a < 0x200F4000 ∨ 0x200F8000 ≤ a) :
    (decide (0x200F4000 ≤ a) && decide (a < 0x200F8000)) = false := by
  rw [Bool.and_eq_false_iff, decide_eq_false_iff_not, decide_eq_false_iff_not, not_le, not_lt]
  exact h

theorem Dev.readReg_none (d : Dev) {a : Nat} (hw : a < 0x200F4000 ∨ 0x200F8000 ≤ a) (ha : regFind a = none) : d.readReg a = (0, d) := by
  simp only [Dev.readReg, outside_windowPage hw, ha]
  rfl

theorem Dev.readReg_off (d : Dev) {a : Nat} {row : RegRow} {i : Nat} (hw : a < 0x200F4000 ∨ 0x200F8000 ≤ a) (ha : regFind a = some (row, i))
    (hp : d.powered (rowDomain row i) = false) : d.readReg a = (0, d) := by
  simp only [Dev.readReg, outside_windowPage hw, ha, hp]
  rfl

/-- The layout table keeps to words of 32 bits, and the places of a register stand from the highest down without sharing a bit (00 R5). -/
theorem layout_rows_fit : ∀ b < 24, ∀ row ∈ Layout.block b, row.addr % 4 = 0 ∧ row.stride1 % 4 = 0 ∧ row.stride2 % 4 = 0 ∧
    (∀ p ∈ row.places, p.lo + p.field.width ≤ 32) ∧ row.places.Pairwise (fun p q => q.lo + q.field.width ≤ p.lo) := by
  decide +kernel

/-- Each Shepherd register stands once per actuator, 0x4000 apart (01 R18). -/
theorem shp_rows_repeat : ∀ row ∈ Layout.shp, 0x20040000 ≤ row.addr ∧ row.addr < 0x20044000 ∧ row.n1 = 4 ∧ row.stride1 = 0x4000 := by
  decide +kernel

/-- Settles O9: the layout's table is checked row by row; a read and a store follow the search's result and the domain's power. -/
theorem registersLieAtTheirPlaces : Obligations.RegistersLieAtTheirPlaces := by
  refine ⟨layout_rows_fit, shp_rows_repeat, ?_, ?_, ?_⟩
  · exact fun d a v h _ _ ha hw => ⟨d.readReg_none hw ha, d.storeReg_none v h ha⟩
  · exact fun d a v h row i ha hw hp => ⟨d.readReg_off hw ha hp, d.storeReg_off v h ha hp⟩
  · exact fun d a v h hl hu =>
      ⟨d.storeReg_none v h (regFind_windowPage hl hu), fun hp => by simp [d.readReg_windowPage hl hu, hp]⟩

/-! ### Reads leave the device as it was (00 R11; 15 R594, R603) -/

/-- PIO_GPIO_IN takes one free value. -/
theorem Dev.gpioIn_snd (d : Dev) : d.gpioIn.2 = { d with freeCount := d.freeCount + 1 } := rfl

theorem Dev.readReg_snd (d : Dev) (a : Nat) : ∃ k : Nat, (d.readReg a).2 = { d with freeCount := k } := by
  unfold Dev.readReg
  split
  · exact ⟨d.freeCount, rfl⟩
  · split
    · exact ⟨d.freeCount, rfl⟩
    · split_ifs
      · exact ⟨d.freeCount, rfl⟩
      · exact ⟨_, d.gpioIn_snd⟩
      · exact ⟨d.freeCount, rfl⟩
      · exact ⟨d.freeCount, rfl⟩

/-- A host's read that takes no BUSY window's result only answers. -/
theorem Dev.barsRead_answers (d : Dev) (bar2 : Bool) (off len : Nat) (h : d.earlyWindow bar2 off = none) :
    ∃ v : Nat, d.barsRead bar2 off len = d.answer v .none := by
  unfold Dev.barsRead
  split
  · exact ⟨_, rfl⟩
  · rw [h]
    exact ⟨_, rfl⟩

/-- A host's read of a BUSY window's result is counted at the window and in common, and answers zero. -/
theorem Dev.barsRead_early (d : Dev) {off len w : Nat} {bar2 : Bool} (hlen : len = 4 ∨ len = 8) (hal : off % len = 0)
    (h : d.earlyWindow bar2 off = some w) : d.barsRead bar2 off len =
      ((d.setWin w (fun y => { y with early := min 255 (y.early + 1) })).inc F.TWN_EARLY_COUNT).answer 0 .none := by
  have hwidth : (decide (len = 4) || decide (len = 8)) = true := by simpa using hlen
  simp only [Dev.barsRead, hwidth, hal, h]
  rfl

theorem Dev.win_setWin (d : Dev) {w : Nat} (f : Window → Window) (h : w < d.hif.wins.length) : (d.setWin w f).win w = f (d.win w) := by
  simp [Dev.win, Dev.setWin, at', h]

/-- Settles O11: `readReg` branch by branch, and `barsRead` by whether it takes a BUSY window's result. -/
theorem registerReadsChangeNothing : Obligations.RegisterReadsChangeNothing := by
  refine ⟨Dev.readReg_snd, ?_, ?_⟩
  · intro d bar2 off len h
    obtain ⟨v, hv⟩ := d.barsRead_answers bar2 off len h
    rw [hv]
    rfl
  · intro d off len hlen hal hoff hbusy hw
    have hearly : d.earlyWindow false off = some (off / 64) := by simp [Dev.earlyWindow, hoff, hbusy]
    rw [d.barsRead_early hlen hal hearly]
    refine ⟨?_, rfl, rfl⟩
    exact congrArg Window.early (d.win_setWin (fun y => { y with early := min 255 (y.early + 1) }) hw)

/-! ### On-die SRAM (00 R4; 01 R38, R40; 13 R541) -/

theorem memAt_putAll_id_other (l : List Host.Cell) (a x : Nat) (b : List Nat) (h : x < a ∨ a + b.length ≤ x) :
    memAt (memPutAll l id a b) x = memAt l x :=
  memAt_putAll_other id x b l a fun i h1 h2 he => by simp only [id] at he; omega

/-- Bytes written at rising addresses read as written. -/
theorem map_memAt_putAll (b : List Nat) : ∀ (l : List Host.Cell) (a : Nat), (∀ x ∈ b, x < 256) →
    (List.range b.length).map (fun i => memAt (memPutAll l id a b) (a + i)) = b := by
  induction b with
  | nil => exact fun _ _ _ => rfl
  | cons v b ih =>
    intro l a h
    have hfirst : memAt (memPutAll l id a (v :: b)) a = v := by
      rw [memPutAll, memAt_putAll_id_other _ _ _ _ (.inl (Nat.lt_succ_self a)), id, memAt_put_self,
        Nat.mod_eq_of_lt (h v (by simp))]
    have hrest := ih (memPut l (id a) v) (a + 1) fun x hx => h x (by simp [hx])
    rw [List.length_cons, List.range_succ_eq_map, List.map_cons, List.map_map, Nat.add_zero, hfirst]
    refine congrArg (v :: ·) (Eq.trans (List.map_congr_left fun i _ => ?_) hrest)
    simp [memPutAll, Nat.add_comm, Nat.add_left_comm]

/-- A word written with its read-back good leaves the bytes of memory alone: no remap can follow. -/
theorem Dev.wordWritten_mem (d : Dev) (m word : Nat) : (d.wordWritten m word true).mem = d.mem := by
  unfold Dev.wordWritten
  simp only [Bool.not_true, Bool.and_false, Bool.false_eq_true, if_false]
  split_ifs <;> simp [Dev.setMacro]

theorem Dev.wordsWritten_mem (d : Dev) (words : List (Nat × Nat)) :
    (d.each words fun d w => d.wordWritten w.1 w.2 true).mem = d.mem := by
  rw [Dev.each_keeps (·.mem)]
  exact fun d w => d.wordWritten_mem w.1 w.2

@[simp] theorem Dev.dropResv_mem (d : Dev) (a n : Nat) : (d.dropResv a n).mem = d.mem := rfl

theorem Dev.sramWrite_mem (d : Dev) (a : Nat) (b : List Nat) : (d.sramWrite a b true).mem = memPutAll d.mem id a b := by
  simp only [Dev.sramWrite, Dev.dropResv_mem, Dev.wordsWritten_mem]

/-- With no flip armed, a word written with its read-back good changes its marks only. -/
theorem Dev.wordWritten_unarmed (d : Dev) (m word : Nat) (h : d.on F.SRM_FLIP_CTRL_ARMED = false) :
    ∃ x : Srm, d.wordWritten m word true = { d with srm := x } := by
  unfold Dev.wordWritten
  extract_lets e wasBad marked srm valid back
  obtain ⟨x, hx⟩ : ∃ x : Srm, back = { d with srm := x } := by
    simp only [back, valid, Bool.not_true, Bool.and_false, Bool.false_eq_true, if_false]
    split <;> exact ⟨_, rfl⟩
  have hon : back.on F.SRM_FLIP_CTRL_ARMED = false := by rw [hx]; exact h
  rw [hon, Bool.false_and, if_neg Bool.false_ne_true]
  exact ⟨x, hx⟩

theorem Dev.wordsWritten_unarmed (words : List (Nat × Nat)) : ∀ d : Dev, d.on F.SRM_FLIP_CTRL_ARMED = false →
    ∃ x : Srm, (d.each words fun d w => d.wordWritten w.1 w.2 true) = { d with srm := x } := by
  induction words with
  | nil => exact fun d _ => ⟨d.srm, rfl⟩
  | cons w words ih =>
    intro d h
    obtain ⟨x, hx⟩ := d.wordWritten_unarmed w.1 w.2 h
    simpa only [Dev.each, List.foldl_cons, hx] using ih { d with srm := x } h

/-- With no flip armed, a write changes memory, the words' marks and the reservations only. -/
theorem Dev.sramWrite_unarmed (d : Dev) (a : Nat) (b : List Nat) (h : d.on F.SRM_FLIP_CTRL_ARMED = false) :
    { d.sramWrite a b true with mem := d.mem, srm := d.srm, bus := d.bus } = d := by
  simp only [Dev.sramWrite]
  generalize (if b.isEmpty then [] else _) = words
  obtain ⟨x, hx⟩ := Dev.wordsWritten_unarmed words { d with mem := memPutAll d.mem id a b } h
  rw [hx]
  rfl

/-- Settles O12: a write's bytes are those of `memPutAll`, and its words' marks are all that it changes beside the reservations. -/
theorem sramHoldsWhatIsWritten : Obligations.SramHoldsWhatIsWritten := by
  refine ⟨?_, ?_, ?_, ?_⟩
  · intro d a bytes h
    rw [Dev.sramRead, d.sramWrite_mem]
    exact map_memAt_putAll bytes d.mem a h
  · intro d a x bytes h
    rw [d.sramWrite_mem]
    exact memAt_putAll_id_other d.mem a x bytes h
  · intro d a bytes h
    rw [d.sramWrite_mem]
    exact Memory.wf_putAll id bytes d.mem a h
  · exact Dev.sramWrite_unarmed

/-! ### Reset (00 R5) -/

/-- With no cell listed, every field holds its reset value. -/
theorem reset_getI (f : Field) (i : Nat) : State.reset.toDev.getI f i = resetValue f i := rfl

/-- Settles O3: nothing is listed at reset, and the four registers are read by address. -/
theorem resetIsTheStateAfterPowerOn : Obligations.ResetIsTheStateAfterPowerOn :=
  ⟨⟨rfl, rfl, rfl, rfl⟩, reset_getI, by decide +kernel⟩

/-! ### A wide write of SEA_DATA (01 R17; 02 R51, R81; 18 R751) -/

/-- What a command leaves is determined: two effects settle alike. -/
theorem Effect.settle_eq {c : Instr} {d e e' : Dev} (h : Effect c d e) (h' : Effect c d e') : e.settle = e'.settle := by
  have := (effect_exec h []).symm.trans (effect_exec h' [])
  simpa using this

theorem exec_registerWrite (byHost : Bool) (addr : BitVec 40) (wide : Bool) (v : BitVec 64) (s : State) :
    exec (.registerWrite byHost addr wide v) s = s.runCore (fun d => d.registerWriteAct byHost addr wide v) := rfl

theorem Dev.storePair_off (d : Dev) {a : Nat} {row : RegRow} {i : Nat} (v : Nat) (byHost : Bool) (ha : regFind a = some (row, i))
    (hp : d.powered (rowDomain row i) = false) : d.storePair a v byHost = d.inc F.CLK_PD_DROPWR_COUNT := by
  simp [Dev.storePair, ha, Dev.inPower, hp, Dev.droppedWrite]

/-- SEA_DATA lies in the CORE domain, number 1. -/
theorem regFind_seaData : ∃ row i, regFind 0x20120018 = some (row, i) ∧ rowDomain row i = 1 :=
  ⟨_, _, rfl, rfl⟩

/-- A 64-bit write of SEA_DATA while CORE is off is dropped and counted, whatever the other domains. -/
theorem effect_wideSeaData_coreOff {d : Dev} (v : BitVec 64) (hp : d.powered 1 = false) (hs : d.clk.stopped = false) :
    Effect (.registerWrite false 0x20120018#40 true v) d (d.inc F.CLK_PD_DROPWR_COUNT) := by
  obtain ⟨row, i, hfind, hdom⟩ := regFind_seaData
  have hpair : d.registerWriteAct false 0x20120018#40 true v = d.storePair 0x20120018 v.toNat false := rfl
  exact effect_core hs (exec_registerWrite false _ true v) (hpair.trans (d.storePair_off v.toNat false hfind (by rw [hdom]; exact hp)))

/-- A device with CORE off and every other domain on. -/
def coreOff : Dev := ({} : Dev).put F.CLK_PD_STAT_OFF 2

/-- Refutes O60: its sixth clause has a 64-bit write of SEA_DATA act whenever domain 6 (CHP3) is on, but SEA lies in domain 1 (CORE; 02 R51):
on `coreOff` the write is dropped and counted, where the clause has no write counted. -/
theorem not_coresAndRegistersByAddress : ¬ Obligations.CoresAndRegistersByAddress := by
  rintro ⟨-, -, -, -, -, hsea, -⟩
  have hclause : Effect (.registerWrite false 0x20120018#40 true 7#64) coreOff (coreOff.seaData 7) :=
    hsea coreOff _ 7#64 rfl (by decide +kernel) rfl
  have hmodel := effect_wideSeaData_coreOff (d := coreOff) 7#64 (by decide +kernel) rfl
  have hcount := congrArg (·.get F.CLK_PD_DROPWR_COUNT) (hmodel.settle_eq hclause)
  have hne : (coreOff.inc F.CLK_PD_DROPWR_COUNT).settle.get F.CLK_PD_DROPWR_COUNT ≠ (coreOff.seaData 7).settle.get F.CLK_PD_DROPWR_COUNT := by
    decide +kernel
  exact hne hcount

end Sys2Proof.Machine
end

section
/-! SUPPORT. Where a command acts (02 R51, R72, R78, R82, R882; log entry 160): the kinds of logic that perform commands, which of them
performs each command, and that logic which does not run does nothing. -/

namespace Sys2Proof.Machine

/-- The logic that performs a command, and what it does there: the AON blocks, the balls and the JTAG port; logic outside AON that no one
island holds, a core's register write in a domain among it; an island; a port part of RCH or WCH. -/
inductive PerformedBy (c : Instr) : Prop
  | aon (f : Dev → Dev) (runs : ∀ d, Command.runsOn c d = true) (acts : ∀ s, exec c s = s.run f)
  | core (f : Dev → Dev) (runs : ∀ d, Command.runsOn c d = !d.clk.stopped) (acts : ∀ s, exec c s = s.runCore f)
  | write (dom : Nat) (f : Dev → Dev) (runs : ∀ d, Command.runsOn c d = !d.clk.stopped) (acts : ∀ s, exec c s = s.runWrite dom f)
  | island (isl : Nat) (f : Dev → Dev) (runs : ∀ d, Command.runsOn c d = d.live isl) (acts : ∀ s, exec c s = s.runIsland isl f)
  | port (isl n : Nat) (f : Dev → Dev) (runs : ∀ d, Command.runsOn c d = d.livePort isl n) (acts : ∀ s, exec c s = s.runPort isl n f)

/-- Every command is performed by the logic that `Command.runsOn` asks about. -/
theorem performedBy (c : Instr) : PerformedBy c := by
  cases c with
  | porstNRelease | porstNAssert | aonPowerOn | vddioLoss | pwrfailFall | harvestCommit | pwrfailRise | harvestHoldoffEnd | roscQualified
  | slowRingCounted | slowRingTimeout | monitorWindow | learningEnd | clockVote | xinEdgeTimeout | xinRequalified | roscAmplitudeLost
  | coarseXinCheck | pllLockWindow | pllLockTimeout | powerDownDone | powerUpDone | presSample | presenceExpire | sealLoopSample
  | jtagBypass | jtagIdcode | jtagSamplePreload | jtagExtest | jtagDbg | jtagOtpprog | jtagTapReset | eventReport | faultnPulseEnd
  | watchTake | discardReport | coreWatchdogExpire | watchRegFault | daybookCommit | repeatCommit | tokenRefill | freezeExpire
  | dbkWindowRefilled | opsecTick | opsecCommit | railFall =>
    exact .aon _ (fun _ => rfl) (by intro s; unfold exec; rfl)
  | harvestTailWritten | pllEnableWrite | pllDisableWrite | islandSourceSwitch | islandSwitchDone | islandGateRequest | islandUngate
  | islandDrained | gateTimeout | powerDownRequest | powerUpRequest | dropwrClear | registerWrite | reeveAccess | modReqWrite | modReboot
  | modEaseIdleWrite | modRestIdleWrite | modEaseRpmWrite | loopCloseRequest | loopOpenRequest | lpeCoefWrite | rchReseedWrite
  | rchFenceWrite | rchRwoWrite | detFenceWrite | detKatWrite | shockTrip | shockRelease | shkHoldExpire | wchForceWrite | wchReleaseWrite
  | wchShkTestWrite | shkTestEnd | wchShkWrite | mccLockWrite | maintClean | maintInvalidate | maintCleanInvalidate | cacheDisable
  | cacheEnable | flipArm | porterGo | porterAbort | porSwreqWrite | porOwnerWrite | porterRwoWrite | twnPauseWrite | abort | streamOpen
  | streamClose | sealBandCreate | sealBandClose | identify | logRead | featureGet | featurePowerMode | featureEaseIdle | featureRestIdle
  | featureEaseRpm | featureKeyRotate | featureDebugUnlock | featureSvnFloor | featureUnsealBand | fwDownload | fwActivate
  | activationTimeout | resync | attestFresh | attestBootRecord | driveMakerCommand | talAppendKeyRotate | talAppendSvnFloor
  | talAppendDebugUnlock | talAppendUnsealBand | talAppendAttestation | seaJobGo | seaDataWrite | seaJobFinish | prsRevokeWrite
  | watKickWrite | watForceSafe | watFaultnWrite | dbkFreezeWrite | dbkThawWrite | dbkCursorWrite | dbkNextWrite | stepStale | uartTxWrite
  | uartPopWrite | pioUartCfgWrite | pioGpioFnWrite | pioGpioPullWrite =>
    exact .core _ (fun _ => rfl) (by intro s; unfold exec; rfl)
  | sectorAttemptStart | adaptBlock | taFlagChange | defectFlagChange | sectorAttemptEnd | sectorAttemptAbandon | servoWindowOpen
  | servoWindowClose | segmentStart | writeSectorEnd =>
    exact .port _ _ _ (fun _ => rfl) (by intro s; unfold exec; rfl)
  | shpFenceWrite | paCmdGo | ddrMapWrite => exact .write _ _ (fun _ => rfl) (by intro s; unfold exec; rfl)
  | _ => exact .island _ _ (fun _ => rfl) (by intro s; unfold exec; rfl)

/-- Settles O7, by the kind of logic that performs the command. -/
theorem stoppedIslandsDoNothing : Obligations.StoppedIslandsDoNothing := by
  intro c d hidle
  cases performedBy c with
  | aon f runs acts => exact absurd hidle (by simp [runs])
  | core f runs acts => exact effect_idleCore (by simpa [runs] using hidle) acts
  | write dom f runs acts => exact effect_idleWrite (by simpa [runs] using hidle) acts
  | island isl f runs acts => exact effect_idle ((runs d).symm.trans hidle) acts
  | port isl n f runs acts => exact effect_idlePort ((runs d).symm.trans hidle) acts

end Sys2Proof.Machine
end

section
/-! SUPPORT. Clocks, islands and power domains (spec/02): which branch of each clock operation is taken, and from them the statements on
the start-up, the PLLs, the islands and the power domains. -/

namespace Sys2Proof.Machine

/-! ### The effect of each command of the clocks

Its operation on the device; a register write, and the end of a switch or of a gate request, act while the islands outside AON are not
stopped (02 R82). -/

/-- What a command leaves may be written in any equal form. -/
theorem Effect.of_eq {c : Instr} {d e e' : Dev} (h : Effect c d e) (he : e = e') : Effect c d e' := he ▸ h

theorem effect_roscQualified (d : Dev) : Effect .roscQualified d d.roscQualified := fun _ => rfl
theorem effect_slowRingCounted (d : Dev) : Effect .slowRingCounted d d.slowRingCounted := fun _ => rfl
theorem effect_slowRingTimeout (d : Dev) (n : Nat) : Effect (.slowRingTimeout n) d (d.slowRingTimeout n) := fun _ => rfl
theorem effect_monitorWindow (d : Dev) (n : Nat) : Effect (.monitorWindow n) d (d.monitorWindow n) := fun _ => rfl
theorem effect_learningEnd (d : Dev) : Effect .learningEnd d d.learningEnd := fun _ => rfl
theorem effect_clockVote (d : Dev) (xin rosc : Nat) : Effect (.clockVote xin rosc) d (d.clockVote xin rosc) := fun _ => rfl
theorem effect_xinEdgeTimeout (d : Dev) : Effect .xinEdgeTimeout d d.xinEdgeTimeout := fun _ => rfl
theorem effect_xinRequalified (d : Dev) : Effect .xinRequalified d d.xinRequalified := fun _ => rfl
theorem effect_roscAmplitudeLost (d : Dev) : Effect .roscAmplitudeLost d d.roscAmplitudeLost := fun _ => rfl
theorem effect_coarseXinCheck (d : Dev) (n : Nat) : Effect (.coarseXinCheck n) d (d.coarseXinCheck n) := fun _ => rfl
theorem effect_pllLockWindow (d : Dev) (p : Fin 5) (n : Nat) : Effect (.pllLockWindow p n) d (d.pllLockWindow p.val n) := fun _ => rfl
theorem effect_pllLockTimeout (d : Dev) (p : Fin 5) : Effect (.pllLockTimeout p) d (d.pllLockTimeout p.val) := fun _ => rfl
theorem effect_powerDownDone (d : Dev) (dom : Fin 10) : Effect (.powerDownDone dom) d (d.powerDownDone dom.val) := fun _ => rfl
theorem effect_powerUpDone (d : Dev) (dom : Fin 10) : Effect (.powerUpDone dom) d (d.powerUpDone dom.val) := fun _ => rfl

theorem effect_pllEnableWrite {d : Dev} (p : Fin 5) (hstop : d.clk.stopped = false) : Effect (.pllEnableWrite p) d (d.pllEnable p.val) :=
  effect_core (f := fun d => d.pllEnable p.val) hstop (fun _ => rfl) rfl

theorem effect_pllDisableWrite {d : Dev} (p : Fin 5) (hstop : d.clk.stopped = false) : Effect (.pllDisableWrite p) d (d.pllDisable p.val) :=
  effect_core (f := fun d => d.pllDisable p.val) hstop (fun _ => rfl) rfl

theorem effect_islandSourceSwitch {d : Dev} (src : Fin 4) (hstop : d.clk.stopped = false) :
    Effect (.islandSourceSwitch src) d (d.islandSwitch src.val) :=
  effect_core (f := fun d => d.islandSwitch src.val) hstop (fun _ => rfl) rfl

theorem effect_islandSwitchDone {d : Dev} (i : Fin 29) (hstop : d.clk.stopped = false) :
    Effect (.islandSwitchDone i) d (d.islandSwitched i.val) :=
  effect_core (f := fun d => d.islandSwitched i.val) hstop (fun _ => rfl) rfl

theorem effect_islandGateRequest {d : Dev} (hstop : d.clk.stopped = false) : Effect .islandGateRequest d d.islandGate :=
  effect_core (f := Dev.islandGate) hstop (fun _ => rfl) rfl

theorem effect_islandDrained {d : Dev} (i : Fin 29) (part : Fin 4) (hstop : d.clk.stopped = false) :
    Effect (.islandDrained i part) d (d.islandDrained i.val part.val) :=
  effect_core (f := fun d => d.islandDrained i.val part.val) hstop (fun _ => rfl) rfl

theorem effect_gateTimeout {d : Dev} (i : Fin 29) (part : Fin 4) (n : Nat) (hstop : d.clk.stopped = false) :
    Effect (.gateTimeout i part n) d (d.gateTimeout i.val part.val n) :=
  effect_core (f := fun d => d.gateTimeout i.val part.val n) hstop (fun _ => rfl) rfl

theorem effect_islandUngate {d : Dev} (hstop : d.clk.stopped = false) : Effect .islandUngate d d.islandUngate :=
  effect_core (f := Dev.islandUngate) hstop (fun _ => rfl) rfl

theorem effect_powerDownRequest {d : Dev} (dom : Fin 10) (hstop : d.clk.stopped = false) :
    Effect (.powerDownRequest dom) d (d.powerDownRequest dom.val) :=
  effect_core (f := fun d => d.powerDownRequest dom.val) hstop (fun _ => rfl) rfl

theorem effect_powerUpRequest {d : Dev} (dom : Fin 10) (hstop : d.clk.stopped = false) :
    Effect (.powerUpRequest dom) d (d.powerUpRequest dom.val) :=
  effect_core (f := fun d => d.powerUpRequest dom.val) hstop (fun _ => rfl) rfl

theorem effect_dropwrClear {d : Dev} (hstop : d.clk.stopped = false) : Effect .dropwrClear d (d.put F.CLK_PD_DROPWR_COUNT 0) :=
  effect_core (f := fun d => d.put F.CLK_PD_DROPWR_COUNT 0) hstop (fun _ => rfl) rfl

/-! ### What a register write leaves as it was -/

theorem Dev.onI_putI_ne (d : Dev) {f g : Field} (i v j : Nat) (h : f.key ≠ g.key) : (d.putI f i v).onI g j = d.onI g j := by
  simp [Dev.onI, d.putI_ne j v h]

theorem Dev.on_put_ne (d : Dev) {f g : Field} (v : Nat) (h : f.key ≠ g.key) : (d.put f v).on g = d.on g := d.onI_putI_ne 0 v 0 h

theorem Dev.phase_put_ne (d : Dev) {f : Field} (v : Nat) (h : f.key ≠ F.CLK_MON_STAT_PHASE.key) : (d.put f v).phase = d.phase :=
  d.get_put_other v h

theorem Dev.powered_putI_ne (d : Dev) {f : Field} (i v dom : Nat) (h : f.key ≠ F.CLK_PD_STAT_OFF.key) :
    (d.putI f i v).powered dom = d.powered dom := by
  simp [Dev.powered, Dev.bit, Dev.get, d.putI_ne 0 v h]

theorem Dev.anyOnRosc_putI_ne (d : Dev) {f : Field} (i v : Nat) (h : f.key ≠ F.CLK_ISL_STAT_SRC_NOW.key) :
    (d.putI f i v).anyOnRosc = d.anyOnRosc := by
  simp [Dev.anyOnRosc, fun j => d.putI_ne (i := i) j v h]

/-! ### Start-up: the two witnesses and the learning phase (02 R52 to R55) -/

/-- One witness alone does not arm the monitor. -/
theorem Dev.armMonitor_uncounted {d : Dev} (hslow : d.on F.CLK_MON_STAT_SLOW_COUNTED = false) : d.armMonitor = d :=
  if_neg (by simp [hslow])

theorem Dev.armMonitor_arms {d : Dev} (hrosc : d.on F.CLK_MON_STAT_ROSC_QUAL = true) (hslow : d.on F.CLK_MON_STAT_SLOW_COUNTED = true)
    (hphase : d.phase = phaseUnarmed) :
    d.armMonitor = { d.put F.CLK_MON_STAT_PHASE phaseLearning with clk := { d.clk with learnN := 0, learnSum := 0 } } :=
  if_pos (by simp [hrosc, hslow, hphase])

theorem Dev.roscQualified_first {d : Dev} (hheld : d.clk.held = false) (hphase : d.phase = phaseUnarmed)
    (hslow : d.on F.CLK_MON_STAT_SLOW_COUNTED = false) : d.roscQualified = d.put F.CLK_MON_STAT_ROSC_QUAL 1 :=
  calc d.roscQualified
    _ = (d.put F.CLK_MON_STAT_ROSC_QUAL 1).armMonitor := (if_neg (by simp [hheld])).trans (if_pos (by simp [hphase]))
    _ = d.put F.CLK_MON_STAT_ROSC_QUAL 1 := Dev.armMonitor_uncounted ((d.on_put_ne 1 (by decide)).trans hslow)

theorem Dev.slowRingCounted_second {d : Dev} (hheld : d.clk.held = false) (hporst : d.mod.porstHigh = true) (hphase : d.phase = phaseUnarmed)
    (hrosc : d.on F.CLK_MON_STAT_ROSC_QUAL = true) :
    d.slowRingCounted = { (d.put F.CLK_MON_STAT_SLOW_COUNTED 1).put F.CLK_MON_STAT_PHASE phaseLearning with
      clk := { d.clk with learnN := 0, learnSum := 0 } } := by
  have hslow : (d.put F.CLK_MON_STAT_SLOW_COUNTED 1).on F.CLK_MON_STAT_SLOW_COUNTED = true := by simp [Dev.on, Dev.onI, Dev.put]; decide
  calc d.slowRingCounted
    _ = (d.put F.CLK_MON_STAT_SLOW_COUNTED 1).armMonitor := if_neg (by simp [hheld, hporst])
    _ = _ := Dev.armMonitor_arms ((d.on_put_ne 1 (by decide)).trans hrosc) hslow ((d.phase_put_ne 1 (by decide)).trans hphase)

theorem Dev.slowRingTimeout_holds {d : Dev} (n : Nat) (hheld : d.clk.held = false) (hrosc : d.on F.CLK_MON_STAT_ROSC_QUAL = true)
    (hslow : d.on F.CLK_MON_STAT_SLOW_COUNTED = false) : d.slowRingTimeout n = d.holdReset 0x0106 [n] :=
  if_neg (by simp [hheld, hrosc, hslow])

theorem Dev.monitorWindow_learning {d : Dev} (n : Nat) (hheld : d.clk.held = false) (hstop : d.clk.stopped = false)
    (hphase : d.phase = phaseLearning) (hvote : d.clk.voteDue = false) :
    d.monitorWindow n = (d.put F.CLK_MON_LAST_COUNT n).learnWindow n := by
  simp [Dev.monitorWindow, hheld, hstop, hphase, hvote]

theorem Dev.learnWindow_inBand {d : Dev} {n : Nat} (hwait : d.clk.awaitXin = false) (hband : inStartBand n = true)
    (hlearn : d.clk.learnN < 64) :
    d.learnWindow n = { (d.put F.CLK_MON_STAT_XIN_OK 1).put F.CLK_MON_STAT_DISAGREE 0 with
      clk := { d.clk with learnN := d.clk.learnN + 1, learnSum := d.clk.learnSum + n } } := by
  simp [Dev.learnWindow, Dev.flag, Dev.flagI, Dev.put, hwait, hband, hlearn]

theorem Dev.learnWindow_outOfBand {d : Dev} {n : Nat} (hwait : d.clk.awaitXin = false) (hband : inStartBand n = false) :
    d.learnWindow n = { (d.put F.CLK_MON_STAT_XIN_OK 0).put F.CLK_MON_STAT_DISAGREE 1 with clk := { d.clk with voteDue := true } } := by
  simp [Dev.learnWindow, Dev.flag, Dev.flagI, Dev.put, hwait, hband]

/-! ### The start-up vote and the loss of a clock (02 R59 to R61, R69, R82) -/

theorem voteXinOk_of_band {xin : Nat} (hlow : 2286 ≤ xin) (hhigh : xin ≤ 5333) : voteXinOk xin = true := by simp [voteXinOk, hlow, hhigh]

theorem Dev.clockVote_roscOut {d : Dev} {xin rosc : Nat} (hheld : d.clk.held = false) (hphase : d.phase = phaseLearning)
    (hvote : d.clk.voteDue = true) (hxin : voteXinOk xin = true) (hrosc : voteRoscOk rosc = false) :
    d.clockVote xin rosc = (((d.put F.CLK_VOTE_STAT_XIN_CNT xin).put F.CLK_VOTE_STAT_ROSC_CNT rosc).put F.CLK_VOTE_STAT_OUTCOME 2).holdReset
      0x0103 [xin, rosc] := by
  simp [Dev.clockVote, hheld, hphase, hvote, hxin, hrosc]

/-- Both counts in band: below the fourth such vote, the monitor learns again. -/
theorem Dev.clockVote_unresolved {d : Dev} {xin rosc : Nat} (hheld : d.clk.held = false) (hphase : d.phase = phaseLearning)
    (hvote : d.clk.voteDue = true) (hxin : voteXinOk xin = true) (hrosc : voteRoscOk rosc = true)
    (hcount : d.get F.CLK_VOTE_STAT_UNRESOLVED < 3) :
    d.clockVote xin rosc = { (((d.put F.CLK_VOTE_STAT_XIN_CNT xin).put F.CLK_VOTE_STAT_ROSC_CNT rosc).put F.CLK_VOTE_STAT_OUTCOME 4).put
      F.CLK_VOTE_STAT_UNRESOLVED (d.get F.CLK_VOTE_STAT_UNRESOLVED + 1) with
        clk := { d.clk with voteDue := false, learnN := 0, learnSum := 0 } } := by
  have hkept : ((d.put F.CLK_VOTE_STAT_XIN_CNT xin).put F.CLK_VOTE_STAT_ROSC_CNT rosc).get F.CLK_VOTE_STAT_UNRESOLVED =
      d.get F.CLK_VOTE_STAT_UNRESOLVED := by
    rw [Dev.get_put_other _ _ (by decide), Dev.get_put_other _ _ (by decide)]
  have hbelow : ¬ 3 ≤ d.get F.CLK_VOTE_STAT_UNRESOLVED := by omega
  simp [Dev.clockVote, hheld, hphase, hvote, hxin, hrosc, hkept, hbelow]

theorem Dev.xinOutAtStart_first {d : Dev} (xin rosc : Nat) (hnoted : d.clk.noted0102 = false) :
    d.xinOutAtStart xin rosc = ({ d with
      clk := { d.clk with voteDue := false, awaitXin := true, learnN := 0, learnSum := 0, noted0102 := true } } : Dev).post 0x0102 [xin, rosc] :=
  if_neg (by simp [hnoted])

theorem Dev.xinEdgeTimeout_learning {d : Dev} (hheld : d.clk.held = false) (hstop : d.clk.stopped = false) (hphase : d.phase = phaseLearning)
    (hwait : d.clk.awaitXin = false) : d.xinEdgeTimeout = d.xinOutUncounted := by
  simp [Dev.xinEdgeTimeout, hheld, hstop, hphase, hwait]

theorem Dev.roscAmplitudeLost_tracking {d : Dev} (hheld : d.clk.held = false) (hstop : d.clk.stopped = false)
    (hphase : d.phase = phaseTracking) :
    d.roscAmplitudeLost = (((d.put F.CLK_MON_STAT_ROSC_QUAL 0).put F.CLK_MON_STAT_PHASE phaseRoscLost).put F.CLK_INT_STAT_ROSC_LOST 1).post
      0x0109 [d.get F.CLK_MON_LAST_COUNT] := by
  have htrack : (d.put F.CLK_MON_STAT_ROSC_QUAL 0).phase = phaseTracking := (d.phase_put_ne 0 (by decide)).trans hphase
  have hcount : (d.put F.CLK_MON_STAT_ROSC_QUAL 0).get F.CLK_MON_LAST_COUNT = d.get F.CLK_MON_LAST_COUNT := d.get_put_other 0 (by decide)
  simp [Dev.roscAmplitudeLost, hheld, hstop, htrack, hcount]

theorem Dev.coarseXinCheck_good {d : Dev} {n : Nat} (hphase : d.phase = phaseRoscLost) (hstop : d.clk.stopped = false)
    (hxin : voteXinOk n = true) : d.coarseXinCheck n = d.put F.CLK_MON_STAT_XIN_OK 1 :=
  (if_neg (by simp [hphase, hstop])).trans (if_pos hxin)

/-- Settles O17: each clause is a branch of the command's operation. -/
theorem clockStartUp : Obligations.ClockStartUp := by
  refine ⟨effect_roscQualified, ?roscQualified, effect_slowRingCounted, ?slowRingCounted, effect_slowRingTimeout, ?slowRingTimeout,
    effect_monitorWindow, ?windowGood, ?windowBad, effect_learningEnd, ?learningEnd, effect_clockVote, ?voteUnresolved, ?voteRoscOut,
    effect_xinEdgeTimeout, ?xinEdge, effect_xinRequalified, ?requalified, effect_roscAmplitudeLost, ?amplitudeLost,
    effect_coarseXinCheck, ?coarse⟩
  case roscQualified =>
    intro d hheld hphase hslow
    exact (effect_roscQualified d).of_eq (Dev.roscQualified_first hheld hphase hslow)
  case slowRingCounted =>
    intro d hheld hporst hphase hrosc
    exact (effect_slowRingCounted d).of_eq (Dev.slowRingCounted_second hheld hporst hphase hrosc)
  case slowRingTimeout =>
    intro d n hheld hrosc hslow
    exact (effect_slowRingTimeout d n).of_eq (Dev.slowRingTimeout_holds n hheld hrosc hslow)
  case windowGood =>
    intro d n hheld hstop hphase hvote hwait hlow hhigh hlearn
    have hband : inStartBand n = true := by simp [inStartBand, hlow, hhigh]
    exact (effect_monitorWindow d n).of_eq
      ((Dev.monitorWindow_learning n hheld hstop hphase hvote).trans (Dev.learnWindow_inBand hwait hband hlearn))
  case windowBad =>
    intro d n hheld hstop hphase hvote hwait hout
    have hband : inStartBand n = false := by simp [inStartBand]; omega
    exact (effect_monitorWindow d n).of_eq
      ((Dev.monitorWindow_learning n hheld hstop hphase hvote).trans (Dev.learnWindow_outOfBand hwait hband))
  case learningEnd =>
    intro d hheld hphase hvote hlearn
    exact (effect_learningEnd d).of_eq (if_neg (by simp [hheld, hphase, hvote, hlearn]))
  case voteUnresolved =>
    intro d xin rosc hheld hphase hvote hxl hxh hrl hrh hcount
    have hrosc : voteRoscOk rosc = true := by simp [voteRoscOk, hrl, hrh]
    exact (effect_clockVote d xin rosc).of_eq (Dev.clockVote_unresolved hheld hphase hvote (voteXinOk_of_band hxl hxh) hrosc hcount)
  case voteRoscOut =>
    intro d xin rosc hheld hphase hvote hxl hxh hout
    have hrosc : voteRoscOk rosc = false := by simp [voteRoscOk]; omega
    exact (effect_clockVote d xin rosc).of_eq (Dev.clockVote_roscOut hheld hphase hvote (voteXinOk_of_band hxl hxh) hrosc)
  case xinEdge =>
    intro d hheld hstop hphase hwait hnoted
    exact (effect_xinEdgeTimeout d).of_eq
      ((Dev.xinEdgeTimeout_learning hheld hstop hphase hwait).trans (Dev.xinOutAtStart_first _ _ hnoted))
  case requalified =>
    intro d hphase hgood
    exact (effect_xinRequalified d).of_eq (if_neg (by simp [hphase, hgood]))
  case amplitudeLost =>
    intro d hheld hstop hphase
    exact (effect_roscAmplitudeLost d).of_eq (Dev.roscAmplitudeLost_tracking hheld hstop hphase)
  case coarse =>
    intro d n hphase hstop hlow hhigh
    exact (effect_coarseXinCheck d n).of_eq (Dev.coarseXinCheck_good hphase hstop (voteXinOk_of_band hlow hhigh))

/-! ### PLLs (02 R62, R63, R82) -/

theorem Dev.pllEnable_starts {d : Dev} {p : Nat} (hlocked : d.onI F.CLK_PLL_STAT_LOCKED p = false) (hrun : at' d.clk.pllRun p false = false)
    (hxin : d.clk.xinFailed = false) :
    d.pllEnable p = (((d.putI F.CLK_PLL_CTRL_EN p 1).putI F.CLK_PLL_STAT_ATTEMPTS p 0).putI F.CLK_PLL_STAT_FAILED p 0).startLock p :=
  (if_neg (by simp [hlocked, hrun])).trans (if_neg (by simp [hxin]))

/-- Only in a cold BOOT does a PLL that locks take islands from XIN. -/
theorem Dev.bringUpIslands_started {d : Dev} (p : Nat) (hmode : d.mod.mode ≠ .boot) : d.bringUpIslands p = d :=
  if_neg (by simp [hmode])

theorem Dev.pllLockWindow_counts {d : Dev} {p n : Nat} (hrun : at' d.clk.pllRun p false = true)
    (hnear : nearCref (d.get F.CLK_MON_REF_CREF) n = true) (hgood : at' d.clk.pllGood p 0 < 3) :
    d.pllLockWindow p n = { d with clk := { d.clk with pllGood := d.clk.pllGood.set p (at' d.clk.pllGood p 0 + 1) } } :=
  (if_neg (by simp [hrun])).trans ((if_pos hnear).trans (if_pos (by omega)))

theorem Dev.pllLockWindow_locks {d : Dev} {p n : Nat} (hrun : at' d.clk.pllRun p false = true)
    (hnear : nearCref (d.get F.CLK_MON_REF_CREF) n = true) (hgood : at' d.clk.pllGood p 0 = 3) :
    d.pllLockWindow p n = (({ d with clk := { d.clk with pllRun := d.clk.pllRun.set p false, pllGood := d.clk.pllGood.set p 0 } } : Dev).putI
      F.CLK_PLL_STAT_LOCKED p 1).bringUpIslands p :=
  (if_neg (by simp [hrun])).trans ((if_pos hnear).trans (if_neg (by omega)))

/-- Settles O18: each clause is a branch of the command's operation. -/
theorem pllLockAndLoss : Obligations.PllLockAndLoss := by
  refine ⟨fun _ => effect_pllEnableWrite, ?enable, fun _ => effect_pllDisableWrite, ?disableRefused, ?disable, effect_pllLockWindow,
    ?windowCounts, ?windowLocks, effect_pllLockTimeout, ?timeoutAgain, ?timeoutLast⟩
  case enable =>
    intro d p hlocked hrun hxin hstop
    exact (effect_pllEnableWrite p hstop).of_eq (Dev.pllEnable_starts hlocked hrun hxin)
  case disableRefused =>
    intro d p huse hstop
    exact (effect_pllDisableWrite p hstop).of_eq (if_pos huse)
  case disable =>
    intro d p huse hstop
    exact (effect_pllDisableWrite p hstop).of_eq (if_neg (by simp [huse]))
  case windowCounts =>
    intro d p n hrun hnear hgood
    exact (effect_pllLockWindow d p n).of_eq (Dev.pllLockWindow_counts hrun (decide_eq_true hnear) hgood)
  case windowLocks =>
    intro d p n hrun hnear hgood hmode
    exact (effect_pllLockWindow d p n).of_eq
      ((Dev.pllLockWindow_locks hrun (decide_eq_true hnear) hgood).trans (Dev.bringUpIslands_started _ hmode))
  case timeoutAgain =>
    intro d p hrun hattempts
    exact (effect_pllLockTimeout d p).of_eq ((if_neg (by simp [hrun])).trans (if_pos (by omega)))
  case timeoutLast =>
    intro d p hrun hattempts
    exact (effect_pllLockTimeout d p).of_eq ((if_neg (by simp [hrun])).trans (if_neg (by omega)))

/-! ### Islands (02 R64, R70, R72, R73, R75) -/

/-- A source other than PLL needs no locked PLL. -/
theorem Dev.islandSwitch_takes {d : Dev} {i src : Nat} (hsel : d.get F.CLK_ISL_SEL_ISLAND = i) (hi : i ≤ 0x1C) (haon : aonIsland i = false)
    (hsrc : src = 1 ∨ src = 2) (hgated : d.onI F.CLK_ISL_STAT_GATED i = false) (hgating : d.onI F.CLK_ISL_STAT_GATE_PENDING i = false)
    (hswitching : d.onI F.CLK_ISL_STAT_SWITCHING i = false) :
    d.islandSwitch src = (d.putI F.CLK_ISL_CTRL_SRC i src).startSwitch i src := by
  have hin : ¬ 0x1C < i := by omega
  rcases hsrc with rfl | rfl <;> simp [Dev.islandSwitch, hsel, hin, haon, hgated, hgating, hswitching]

/-- CLK_ISL_CTRL of an AON island takes no source (R75). -/
theorem Dev.islandSwitch_aon {d : Dev} (src : Nat) {i : Nat} (hsel : d.get F.CLK_ISL_SEL_ISLAND = i) (hi : i ≤ 0x1C)
    (haon : aonIsland i = true) : d.islandSwitch src = d.islandIgnore i := by
  have hin : ¬ 0x1C < i := by omega
  simp [Dev.islandSwitch, hsel, hin, haon]

/-- Without self-refresh there is none to leave. -/
theorem Dev.selfRefreshExit_running {d : Dev} (h : d.get F.DDR_STAT_STATE ≠ ddrSelfRefresh) : d.selfRefreshExit = d :=
  if_neg (by simp [h])

/-- Island `i` has taken its first edge of source `src`: neither a switch nor a gate request kept for its end is left (R70). -/
def Dev.onSource (d : Dev) (i src : Nat) : Dev :=
  ({ d with clk := { d.clk with swTo := d.clk.swTo.set i none, gateAfter := d.clk.gateAfter.set i false } } : Dev).putI
    F.CLK_ISL_STAT_SRC_NOW i src

/-- The same with the end of the switch shown in CLK_ISL_STAT and CLK_INT_STAT. -/
def Dev.switchShown (d : Dev) (i src : Nat) : Dev := ((d.onSource i src).putI F.CLK_ISL_STAT_SWITCHING i 0).put F.CLK_INT_STAT_SWITCH_DONE 1

theorem Dev.switchShown_ddr (d : Dev) (i src : Nat) : (d.switchShown i src).get F.DDR_STAT_STATE = d.get F.DDR_STAT_STATE :=
  calc (d.switchShown i src).get F.DDR_STAT_STATE
    _ = ((d.onSource i src).putI F.CLK_ISL_STAT_SWITCHING i 0).get F.DDR_STAT_STATE := Dev.get_put_other _ 1 (by decide)
    _ = (d.onSource i src).get F.DDR_STAT_STATE := Dev.putI_ne _ 0 0 (by decide)
    _ = d.get F.DDR_STAT_STATE := Dev.putI_ne _ 0 src (by decide)

theorem Dev.switchShown_anyOnRosc (d : Dev) (i src : Nat) : (d.switchShown i src).anyOnRosc = (d.onSource i src).anyOnRosc :=
  (Dev.anyOnRosc_putI_ne _ 0 1 (by decide)).trans (Dev.anyOnRosc_putI_ne _ i 0 (by decide))

/-- While an island still runs on ROSC and the DRAM is not in self-refresh, the end of a switch does no more. -/
theorem Dev.islandSwitched_shown {d : Dev} {i src : Nat} (hsw : at' d.clk.swTo i none = some src)
    (hgate : at' d.clk.gateAfter i false = false) (hrosc : (d.onSource i src).anyOnRosc = true)
    (hddr : d.get F.DDR_STAT_STATE ≠ ddrSelfRefresh) :
    d.islandSwitched i = d.switchShown i src :=
  calc d.islandSwitched i
    _ = if (d.switchShown i src).selfRefreshExit.anyOnRosc then (d.switchShown i src).selfRefreshExit
        else (d.switchShown i src).selfRefreshExit.put F.CLK_MON_STAT_ON_ROSC 0 := by
      simp only [Dev.islandSwitched, hsw, hgate]; rfl
    _ = d.switchShown i src := by
      rw [Dev.selfRefreshExit_running (by rw [d.switchShown_ddr]; exact hddr), if_pos (by rw [d.switchShown_anyOnRosc]; exact hrosc)]

theorem Dev.islandGate_pends {d : Dev} {i : Nat} (hsel : d.get F.CLK_ISL_SEL_ISLAND = i) (hi : i ≤ 0x1C) (haon : aonIsland i = false)
    (hgated : d.onI F.CLK_ISL_STAT_GATED i = false) (hswitching : d.onI F.CLK_ISL_STAT_SWITCHING i = false) :
    d.islandGate = (d.putI F.CLK_ISL_CTRL_GATE i 1).putI F.CLK_ISL_STAT_GATE_PENDING i 1 := by
  have hin : ¬ 0x1C < i := by omega
  have hgated' : (d.putI F.CLK_ISL_CTRL_GATE i 1).onI F.CLK_ISL_STAT_GATED i = false := (d.onI_putI_ne i 1 i (by decide)).trans hgated
  have hswitching' : (d.putI F.CLK_ISL_CTRL_GATE i 1).onI F.CLK_ISL_STAT_SWITCHING i = false :=
    (d.onI_putI_ne i 1 i (by decide)).trans hswitching
  simp [Dev.islandGate, hsel, hin, haon, hgated', hswitching']

/-- Outside DDR, an island whose gate request is pending is gated once drained, and its domain waits for it no longer. -/
theorem Dev.islandDrained_gates {d : Dev} {i : Nat} (part : Nat) (hrch : i ≠ 0x06) (hwch : i ≠ 0x08) (hdom : islandDomain i ≠ 8)
    (hpend : d.onI F.CLK_ISL_STAT_GATE_PENDING i = true) :
    d.islandDrained i part = (
      let l := (at' d.clk.drain (islandDomain i) []).filter (fun x => x != i)
      (({ d with clk := { d.clk with drain := d.clk.drain.set (islandDomain i) l } } : Dev).putI F.CLK_ISL_STAT_GATED i 1).putI
        F.CLK_ISL_STAT_GATE_PENDING i 0) :=
  (if_neg (by simp [hrch, hwch])).trans ((if_neg (by simp [hdom])).trans (if_pos (by simp [hpend])))

/-- A gate request alone, with no power-down of its domain, is taken back (R73). -/
theorem Dev.gateTimeout_takenBack {d : Dev} {i : Nat} (part n : Nat) (hrch : i ≠ 0x06) (hwch : i ≠ 0x08) (hdom : islandDomain i ≠ 8)
    (hdrain : at' d.clk.drain (islandDomain i) [] = []) (hpend : d.onI F.CLK_ISL_STAT_GATE_PENDING i = true) :
    d.gateTimeout i part n = ((((d.putI F.CLK_ISL_CTRL_GATE i 0).ungate i).putI F.CLK_ISL_STAT_GATE_TIMEOUT i 1).put
      F.CLK_INT_STAT_GATE_TIMEOUT 1).post 0x010C [i, n] := by
  simp [Dev.gateTimeout, hrch, hwch, hdom, hdrain, hpend]

theorem Dev.islandUngate_restarts {d : Dev} {i : Nat} (hsel : d.get F.CLK_ISL_SEL_ISLAND = i) (hi : i ≤ 0x1C) (haon : aonIsland i = false)
    (hpower : d.powered (islandDomain i) = true) : d.islandUngate = (d.putI F.CLK_ISL_CTRL_GATE i 0).ungate i := by
  have hin : ¬ 0x1C < i := by omega
  have hpower' : (d.putI F.CLK_ISL_CTRL_GATE i 0).powered (islandDomain i) = true := (d.powered_putI_ne i 0 _ (by decide)).trans hpower
  simp [Dev.islandUngate, hsel, hin, haon, hpower']

/-- Settles O19: each clause is a branch of the command's operation on the selected island. -/
theorem islandSwitchAndGate : Obligations.IslandSwitchAndGate := by
  refine ⟨fun _ => effect_islandSourceSwitch, ?switch, ?switchAon, fun _ => effect_islandSwitchDone, ?switchDone,
    fun _ => effect_islandGateRequest, ?gate, fun _ => effect_islandDrained, ?drained, fun _ => effect_gateTimeout, ?timeout,
    fun _ => effect_islandUngate, ?ungate⟩
  case switch =>
    intro d src hi haon hsrc hgated hgating hswitching hstop
    exact (effect_islandSourceSwitch src hstop).of_eq (Dev.islandSwitch_takes rfl hi haon hsrc hgated hgating hswitching)
  case switchAon =>
    intro d src hi haon hstop
    exact (effect_islandSourceSwitch src hstop).of_eq (Dev.islandSwitch_aon src.val rfl hi haon)
  case switchDone =>
    intro d i src hsw hgate hrosc hddr hstop
    exact (effect_islandSwitchDone i hstop).of_eq (Dev.islandSwitched_shown hsw hgate hrosc hddr)
  case gate =>
    intro d hi haon hgated hswitching hstop
    exact (effect_islandGateRequest hstop).of_eq (Dev.islandGate_pends rfl hi haon hgated hswitching)
  case drained =>
    intro d i part hrch hwch hdom hpend hstop
    exact (effect_islandDrained i part hstop).of_eq (Dev.islandDrained_gates part.val hrch hwch hdom hpend)
  case timeout =>
    intro d i part n hrch hwch hdom hdrain hpend hstop
    exact (effect_gateTimeout i part n hstop).of_eq (Dev.gateTimeout_takenBack part.val n hrch hwch hdom hdrain hpend)
  case ungate =>
    intro d hi haon hpower hstop
    exact (effect_islandUngate hstop).of_eq (Dev.islandUngate_restarts rfl hi haon hpower)

/-! ### Power domains (02 R77, R78, R80) -/

theorem Dev.powerDownRequest_starts {d : Dev} {dom : Nat} (hdom : 1 < dom) (hpower : d.powered dom = true)
    (hdraining : d.clk.draining.testBit dom = false) (hbusy : d.bit F.CLK_PD_STAT_BUSY dom = false) :
    d.powerDownRequest dom = d.startPowerDown dom :=
  (if_neg (by omega)).trans ((if_neg (by simp [hpower])).trans ((if_neg (by simp [hdraining])).trans (if_neg (by simp [hbusy]))))

/-- With its islands drained and no power-up waiting, a domain other than DDR goes off. -/
theorem Dev.powerDownDone_off {d : Dev} {dom : Nat} (hdom : dom ≠ 8) (hdraining : d.clk.draining.testBit dom = true)
    (hdrain : at' d.clk.drain dom [] = []) (hup : at' d.clk.upAfter dom false = false) :
    d.powerDownDone dom = (((({ d with
      clk := { d.clk with draining := withBit d.clk.draining dom false, upAfter := d.clk.upAfter.set dom false } } : Dev).setBit
        F.CLK_PD_STAT_OFF dom true).setBit F.CLK_PD_STAT_BUSY dom false).domainOff dom).post 0x010D [dom] := by
  simp [Dev.powerDownDone, hdom, hdraining, hdrain, hup]

theorem Dev.powerUpRequest_starts {d : Dev} {dom : Nat} (hdraining : d.clk.draining.testBit dom = false) (hoff : d.powered dom = false) :
    d.powerUpRequest dom = (d.setBit F.CLK_PD_CTRL_ON dom true).startPowerUp dom := by
  have hoff' : (d.setBit F.CLK_PD_CTRL_ON dom true).powered dom = false := (d.powered_putI_ne 0 _ dom (by decide)).trans hoff
  exact (if_neg (by simp [Dev.setBit, hdraining])).trans (if_neg (by simp [hoff']))

/-- Settles O20: each clause is a branch of the command's operation. -/
theorem powerDomainDownAndUp : Obligations.PowerDomainDownAndUp := by
  refine ⟨fun _ => effect_powerDownRequest, ?downRequest, effect_powerDownDone, ?downDone, fun _ => effect_powerUpRequest, ?upRequest,
    effect_powerUpDone, ?upDone, fun _ => effect_dropwrClear⟩
  case downRequest =>
    intro d dom hdom hpower hdraining hbusy hstop
    exact (effect_powerDownRequest dom hstop).of_eq (Dev.powerDownRequest_starts hdom hpower hdraining hbusy)
  case downDone =>
    intro d dom hdom hdraining hdrain hup
    exact (effect_powerDownDone d dom).of_eq (Dev.powerDownDone_off hdom hdraining hdrain hup)
  case upRequest =>
    intro d dom hdraining hoff hstop
    exact (effect_powerUpRequest dom hstop).of_eq (Dev.powerUpRequest_starts hdraining hoff)
  case upDone =>
    intro d dom hoff hbusy
    exact (effect_powerUpDone d dom).of_eq (if_neg (by simp [hoff, hbusy]))

end Sys2Proof.Machine
end

section
/-! SUPPORT. The configuration load and the self-test (spec/03 R89, R93, R102, R112, R114, R129, R134; spec/04 R139): which branch of each
command's operation is taken, and from them the statement on the load's start, its recovery hold and the end of BOOT. -/

namespace Sys2Proof.Machine

/-! ### The effect of each command of the load, performed by island 0x01 (02 R72) -/

theorem effect_configLoad {d : Dev} (fl : Flash) (hlive : d.live 0x01 = true) : Effect (.configLoad fl) d (d.configLoadAct fl) :=
  effect_island (f := fun d => d.configLoadAct fl) hlive (fun _ => rfl) rfl

theorem effect_flashReady {d : Dev} (fl : Flash) (hlive : d.live 0x01 = true) : Effect (.flashReady fl) d (d.flashReadyAct fl) :=
  effect_island (f := fun d => d.flashReadyAct fl) hlive (fun _ => rfl) rfl

theorem effect_selfTest {d : Dev} (l : List TestFail) (hlive : d.live 0x01 = true) : Effect (.selfTest l) d (d.selfTestAct l) :=
  effect_island (f := fun d => d.selfTestAct l) hlive (fun _ => rfl) rfl

/-! ### Where a load begins (R89, R102, R129) -/

theorem Dev.configLoadAct_unloadable {d : Dev} (fl : Flash) (hload : d.loadable = false) : d.configLoadAct fl = d :=
  if_pos (by simp [hload])

/-- Before the flash has answered ready its reset is started. -/
theorem Dev.configLoadAct_resets {d : Dev} (fl : Flash) (hload : d.loadable = true) (hready : d.cfg.flashReady = false) :
    d.configLoadAct fl = { d with cfg := { d.cfg with flashReset := true } } :=
  (if_neg (by simp [hload])).trans (if_neg (by simp [hready]))

theorem Dev.configLoadAct_loads {d : Dev} (fl : Flash) (hload : d.loadable = true) (hready : d.cfg.flashReady = true) :
    d.configLoadAct fl = d.loadConfig fl :=
  (if_neg (by simp [hload])).trans (if_pos hready)

theorem Dev.flashReadyAct_idle {d : Dev} (fl : Flash) (hidle : d.loadable = false ∨ d.cfg.flashReset = false ∨ d.cfg.flashReady = true) :
    d.flashReadyAct fl = d :=
  if_neg (by rcases hidle with h | h | h <;> simp [h])

theorem Dev.flashReadyAct_loads {d : Dev} (fl : Flash) (hload : d.loadable = true) (hreset : d.cfg.flashReset = true)
    (hready : d.cfg.flashReady = false) :
    d.flashReadyAct fl = ({ d with cfg := { d.cfg with flashReady := true } } : Dev).loadConfig fl :=
  if_pos (by simp [hload, hreset, hready])

/-! ### Recovery hold (R93, R112, R114) -/

/-- A flash that does not answer has no density and no usable profile. -/
theorem Dev.loadConfig_unanswered (d : Dev) {fl : Flash} (hanswers : fl.answers = false) :
    d.loadConfig fl = ((d.put F.CFG_FLASH_DENSITY 0).flag F.CFG_FLASH_PROFILE_OK false).recoveryHold fl 0x020C [0, 0] := by
  simp [Dev.loadConfig, hanswers]

/-- The load with a usable flash, about to select a slot (step 1 of R102). -/
def Dev.selecting (d : Dev) (fl : Flash) : Dev :=
  let e := (d.put F.CFG_FLASH_DENSITY (fl.density % 32)).flag F.CFG_FLASH_PROFILE_OK true
  ({ e with cfg := { e.cfg with slow := false } } : Dev).put F.CFG_STAT_PHASE loadSelect

/-- Both selectors are noted as not valid, and none is chosen (R93). -/
def Dev.selectorsInvalid (d : Dev) : Dev :=
  let g := (((d.flag F.CFG_SEL_COPY0_VALID false).flag F.CFG_SEL_COPY1_VALID false).post 0x0206 [0]).post 0x0206 [1]
  { g with cfg := { g.cfg with sel := none } }

/-- Two selectors read at the first try, neither passing the checks of R91 to R93: the load ends in recovery hold. -/
theorem Dev.loadConfig_noSelector (d : Dev) {fl : Flash} (hanswers : fl.answers = true) (hprofile : fl.profile = true)
    (hfaults : fl.faults = [])
    (hbad : ∀ k < 2, selectorOk (readRuns (d.flashRuns fl.runs) (4096 * k) 48) (2 ^ (fl.density % 32)) = false) :
    d.loadConfig fl = (d.selecting fl).selectorsInvalid.recoveryHold fl 0x0205 [0, 0] := by
  have hsel : ∀ k < 2, selectorOk (readRuns ((d.selecting fl).flashRuns fl.runs) (4096 * k) 48) (2 ^ (fl.density % 32)) = false := hbad
  have hsel0 := hsel 0 (by decide)
  have hsel1 := hsel 1 (by decide)
  simp only [Dev.selecting] at hsel0 hsel1 ⊢
  simp only [Dev.loadConfig, hanswers, hprofile, hfaults, hsel0, hsel1, Dev.each, List.foldl_cons, List.foldl_nil, List.find?_nil,
    Option.isSome_none, Option.any_none, Bool.and_true, Bool.false_and, Bool.not_true, Bool.not_false, Bool.false_eq_true, if_true, if_false,
    Dev.selectorsInvalid]

/-- Flash that no run covers reads erased. -/
theorem readRuns_nil (off n : Nat) : readRuns [] off n = List.replicate n 255 := by
  by_cases hn : n = 0 <;> simp [readRuns, runsRead, hn]

/-- Bytes without the magic of R91 are no selector. -/
theorem selectorOk_of_magic_ne {b : List Nat} (size : Nat) (h : leAt b 0 4 ≠ 0x4C535647) : selectorOk b size = false := by
  simp [selectorOk, h]

theorem Dev.loadConfig_erased {d : Dev} {fl : Flash} (hanswers : fl.answers = true) (hprofile : fl.profile = true) (hruns : fl.runs = [])
    (hfaults : fl.faults = []) (hflash : d.cfg.flash = []) :
    d.loadConfig fl = (d.selecting fl).selectorsInvalid.recoveryHold fl 0x0205 [0, 0] := by
  have hempty : d.flashRuns fl.runs = [] := by simp [Dev.flashRuns, hflash, hruns]
  refine d.loadConfig_noSelector hanswers hprofile hfaults fun k _ => ?_
  rw [hempty, readRuns_nil]
  exact selectorOk_of_magic_ne _ (by decide)

/-! ### The self-test (04 R139) and the exit from BOOT (R134) -/

theorem Dev.selfTestAct_idle {d : Dev} (l : List TestFail) (hidle : d.mod.mode ≠ .boot ∨ d.mod.selfTested = true) : d.selfTestAct l = d :=
  if_pos (by rcases hidle with h | h <;> simp [h])

/-- Every test is done, the failures are judged in order, and the tests are not run again. -/
def Dev.testsJudged (d : Dev) (l : List TestFail) : Dev :=
  let e := (d.put F.MOD_SELFTEST_DONE 0x7F).each l Dev.testJudged
  { e with mod := { e.mod with selfTested := true } }

theorem Dev.selfTestAct_acts {d : Dev} (l : List TestFail) (hmode : d.mod.mode = .boot) (hphase : d.get F.CFG_STAT_PHASE = loadDone)
    (htested : d.mod.selfTested = false) (hharvest : d.harvesting = false) :
    d.selfTestAct l = if (d.testsJudged l).wat.safeDue.isSome then d.testsJudged l else (d.testsJudged l).bootExit :=
  if_neg (by simp [hmode, hphase, htested, hharvest])

/-- Settles O52: each clause is a branch of the command's operation. -/
theorem configurationLoadsAndSelfTest : Obligations.ConfigurationLoadsAndSelfTest := by
  refine ⟨fun _ => effect_configLoad, ?unloadable, ?resets, ?unanswered, fun _ => effect_flashReady, ?readyIdle, ?readyLoads, ?erased,
    fun _ => effect_selfTest, ?passed, ?safe, ?testIdle⟩
  case unloadable =>
    intro d fl hload hlive
    exact (effect_configLoad fl hlive).of_eq (Dev.configLoadAct_unloadable fl hload)
  case resets =>
    intro d fl hload hready hlive
    exact (effect_configLoad fl hlive).of_eq (Dev.configLoadAct_resets fl hload hready)
  case unanswered =>
    intro d fl hload hready hanswers hlive
    exact (effect_configLoad fl hlive).of_eq ((Dev.configLoadAct_loads fl hload hready).trans (d.loadConfig_unanswered hanswers))
  case readyIdle =>
    intro d fl hidle hlive
    exact (effect_flashReady fl hlive).of_eq (Dev.flashReadyAct_idle fl hidle)
  case readyLoads =>
    intro d fl hload hreset hready hlive
    exact (effect_flashReady fl hlive).of_eq (Dev.flashReadyAct_loads fl hload hreset hready)
  case erased =>
    rintro d fl _ _ _ _ rfl rfl rfl rfl hload hreset hready hanswers hprofile hruns hfaults hflash hlive
    exact (effect_flashReady fl hlive).of_eq
      ((Dev.flashReadyAct_loads fl hload hreset hready).trans (Dev.loadConfig_erased hanswers hprofile hruns hfaults hflash))
  case passed =>
    rintro d _ _ _ rfl rfl hmode hphase htested hharvest rfl hsafe hlive
    have hnone : ¬(d.testsJudged []).wat.safeDue.isSome = true := by simp [Dev.testsJudged, Dev.each, hsafe]
    exact (effect_selfTest [] hlive).of_eq ((Dev.selfTestAct_acts [] hmode hphase htested hharvest).trans (if_neg hnone))
  case safe =>
    rintro d _ x _ _ rfl rfl hmode hphase htested hharvest rfl hsafe hlive
    exact (effect_selfTest [x] hlive).of_eq ((Dev.selfTestAct_acts [x] hmode hphase htested hharvest).trans (if_pos hsafe))
  case testIdle =>
    intro d l hidle hlive
    exact (effect_selfTest l hlive).of_eq (Dev.selfTestAct_idle l hidle)

end Sys2Proof.Machine
end

section
/-! SUPPORT. What settles after every command (log entry 13): a register field as the list of cells gives it, the status fields that are
written last, and a device with nothing under way. -/

namespace Sys2Proof.Machine

/-! ### A field's cell (00 R5) -/

/-- What a list of cells gives for a field at an index. -/
def cellsGet (l : List RegCell) (f : Field) (i : Nat) : Nat := (cellsFind l f.key i).getD (resetValue f i)

theorem Dev.getI_eq_cellsGet (d : Dev) (f : Field) (i : Nat) : d.getI f i = cellsGet d.regs f i := rfl

theorem Dev.get_eq_cellsGet (d : Dev) (f : Field) : d.get f = cellsGet d.regs f 0 := rfl

theorem Dev.on_eq_cellsGet (d : Dev) (f : Field) : d.on f = (cellsGet d.regs f 0 != 0) := rfl

theorem Dev.on_of_get_eq_one {d : Dev} {f : Field} (h : d.get f = 1) : d.on f = true := by
  have hon : d.on f = (d.get f != 0) := rfl
  rw [hon, h]
  rfl

theorem cellsGet_putI_self (d : Dev) (f : Field) (i v : Nat) : cellsGet (d.putI f i v).regs f i = v % 2 ^ f.width := d.getI_putI_self f i v

theorem cellsGet_putI_ne (d : Dev) {f g : Field} (i j v : Nat) (h : f.key ≠ g.key) :
    cellsGet (d.putI f i v).regs g j = cellsGet d.regs g j := d.putI_ne j v h

theorem cellsGet_post (d : Dev) {f : Field} (code : Nat) (ps : List Nat) (i : Nat) (h0 : F.WAT_DROP_COUNT.key ≠ f.key)
    (h1 : F.WAT_INT_STAT_DROP.key ≠ f.key) (h2 : F.WAT_STAT_PULSE.key ≠ f.key) :
    cellsGet (d.post code ps).regs f i = cellsGet d.regs f i := d.post_getI code ps i h0 h1 h2

/-! ### What settling leaves (log entry 13) -/

/-- However a command's effect settles, the status fields are written last. -/
theorem Dev.settle_eq_showStatus (d : Dev) : ∃ e : Dev, d.settle = e.showStatus := by
  unfold Dev.settle
  split
  · exact ⟨_, rfl⟩
  · split
    · exact ⟨_, rfl⟩
    · exact ⟨_, rfl⟩

/-- What `Dev.showStatus` writes outside a Harvest: each status field from what stands in `d`. -/
def Dev.statusShown (d : Dev) : Dev :=
  let r := (((d.put F.MOD_STAT_MODE d.mod.mode.code).flag F.MOD_STAT_TRANSIT d.mod.transit.isSome).put F.DET_CAP_GLOBAL_CAP d.globalCap).put
    F.DET_CAP_STEP d.appliedStep
  let r := ((r.put F.WAT_STAT_PENDING (min 255 d.eventsHeld)).flag F.WAT_STAT_FAULTN_LOW d.faultnLow).put F.DRV_STAT_SPEED_HOLD
    (d.get F.MIL_STAT_WRITE_HOLD)
  { r with wat := { d.wat with safeDue := none }, hif := { d.hif with ltrUs := if d.mod.mode = Mode.rest then 3000 else 100 } }

/-- The two fields of MOD_HARV_STAT that follow the actuators in a Harvest (04 R148). -/
def Dev.harvestShown (d : Dev) : Dev :=
  (d.put F.MOD_HARV_STAT_PARKED (d.actuatorMask (fun st => st == shpParked || st == shpFenced))).flag F.MOD_HARV_STAT_RETRACT_USED
    d.pins.retractLow

theorem Dev.showStatus_eq (d : Dev) : d.showStatus = if d.harvesting then d.statusShown.harvestShown else d.statusShown := by
  have hharvest : d.statusShown.harvesting = d.harvesting := by
    simp +decide [Dev.statusShown, Dev.harvesting, Dev.flag, Dev.flagI, Dev.put, Dev.on_eq_cellsGet, cellsGet_putI_ne]
  have hshow : d.showStatus = if d.statusShown.harvesting then d.statusShown.harvestShown else d.statusShown := by
    simp +decide [Dev.showStatus, Dev.statusShown, Dev.flag, Dev.flagI, Dev.put, Dev.get_eq_cellsGet, Dev.on_eq_cellsGet, cellsGet_putI_ne,
      Dev.globalCap, Dev.policy, Dev.appliedStep, Dev.eventsHeld, Dev.faultnLow, Dev.harvestShown]
    rfl
  rw [hshow, hharvest]

/-- The status fields as they are written, within their widths. -/
theorem Dev.get_statusShown (d : Dev) :
    d.statusShown.get F.MOD_STAT_MODE = d.mod.mode.code % 2 ^ 3 ∧
    d.statusShown.get F.MOD_STAT_TRANSIT = (if d.mod.transit.isSome then 1 else 0) % 2 ^ 1 ∧
    d.statusShown.get F.DET_CAP_GLOBAL_CAP = d.globalCap % 2 ^ F.DET_CAP_GLOBAL_CAP.width ∧
    d.statusShown.get F.DET_CAP_STEP = d.appliedStep % 2 ^ F.DET_CAP_STEP.width ∧
    d.statusShown.get F.WAT_STAT_PENDING = min 255 d.eventsHeld % 2 ^ 8 ∧
    d.statusShown.get F.WAT_STAT_FAULTN_LOW = (if d.faultnLow then 1 else 0) % 2 ^ 1 ∧
    d.statusShown.get F.DRV_STAT_SPEED_HOLD = d.get F.MIL_STAT_WRITE_HOLD % 2 ^ F.DRV_STAT_SPEED_HOLD.width := by
  simp +decide [Dev.statusShown, Dev.flag, Dev.flagI, Dev.put, Dev.get_eq_cellsGet, cellsGet_putI_self, cellsGet_putI_ne]
  exact ⟨rfl, rfl, rfl, rfl⟩

/-- No other field changes. -/
theorem Dev.getI_statusShown (d : Dev) {f : Field} (i : Nat) (hf : ∀ g ∈ statusFields, g.key ≠ f.key) :
    d.statusShown.getI f i = d.getI f i := by
  simp only [statusFields, List.forall_mem_cons] at hf
  obtain ⟨hmode, htransit, hcap, hstep, hpending, hlow, hhold, -⟩ := hf
  simp [Dev.statusShown, Dev.flag, Dev.flagI, Dev.put, Dev.getI_eq_cellsGet, cellsGet_putI_ne, hmode, htransit, hcap, hstep,
    hpending, hlow, hhold]

/-- The fields that the status fields are taken from. -/
def statusSources : List Field :=
  [F.THM_STAT_STEP, F.WAT_STAT_PULSE, F.WAT_STAT_REG_FAULT, F.WAT_FAULTN_LEVEL, F.MIL_STAT_WRITE_HOLD]

theorem Dev.appliedStep_congr {d e : Dev} (hthm : e.thm = d.thm) (hsrc : ∀ f ∈ statusSources, e.get f = d.get f) :
    e.appliedStep = d.appliedStep := by
  unfold Dev.appliedStep
  rw [hthm, hsrc F.THM_STAT_STEP (by decide)]

theorem Dev.globalCap_congr {d e : Dev} (hpol : e.pol = d.pol) (hthm : e.thm = d.thm) (hsrc : ∀ f ∈ statusSources, e.get f = d.get f) :
    e.globalCap = d.globalCap := by
  unfold Dev.globalCap Dev.policy
  rw [Dev.appliedStep_congr hthm hsrc, hpol]

theorem Dev.faultnLow_congr {d e : Dev} (hclk : e.clk = d.clk) (hdriven : e.wat.driven = d.wat.driven)
    (hsrc : ∀ f ∈ statusSources, e.get f = d.get f) : e.faultnLow = d.faultnLow := by
  have hon : ∀ f ∈ statusSources, e.on f = d.on f := fun f hf => congrArg (· != 0) (hsrc f hf)
  unfold Dev.faultnLow
  rw [hon F.WAT_STAT_PULSE (by decide), hon F.WAT_STAT_REG_FAULT (by decide), hon F.WAT_FAULTN_LEVEL (by decide), hclk, hdriven]

theorem Dev.statusShown_statusTrue (d : Dev) : StatusTrue d.statusShown := by
  have hsrc : ∀ f ∈ statusSources, d.statusShown.get f = d.get f :=
    fun f hf => d.getI_statusShown 0 (by revert f; decide)
  obtain ⟨hmode, htransit, hcap, hstep, hpending, hlow, hhold⟩ := d.get_statusShown
  exact {
    decided := rfl
    mode := by
      rw [hmode, Nat.mod_eq_of_lt (by cases d.mod.mode <;> decide)]
      rfl
    transit := by
      rw [htransit, Nat.mod_eq_of_lt (by split <;> decide)]
      rfl
    cap := by rw [hcap, Dev.globalCap_congr (d := d) (e := d.statusShown) rfl rfl hsrc]
    step := by rw [hstep, Dev.appliedStep_congr (d := d) (e := d.statusShown) rfl hsrc]
    pending := by
      rw [hpending, Nat.mod_eq_of_lt (by omega)]
      rfl
    faultn := by rw [hlow, Nat.mod_eq_of_lt (by split <;> decide), Dev.faultnLow_congr (d := d) (e := d.statusShown) rfl rfl hsrc]
    ltr := rfl
    hold := by rw [hhold, hsrc F.MIL_STAT_WRITE_HOLD (by decide)] }

/-- The two fields written in a Harvest are none that the status is shown in or taken from. -/
theorem StatusTrue.harvestShown {d : Dev} (h : StatusTrue d) : StatusTrue d.harvestShown := by
  have hget : ∀ f ∈ statusFields ++ statusSources, d.harvestShown.get f = d.get f := by
    intro f hf
    have hparked : F.MOD_HARV_STAT_PARKED.key ≠ f.key := by revert f; decide
    have hretract : F.MOD_HARV_STAT_RETRACT_USED.key ≠ f.key := by revert f; decide
    exact (cellsGet_putI_ne _ _ _ _ hretract).trans (cellsGet_putI_ne _ _ _ _ hparked)
  have hsrc : ∀ f ∈ statusSources, d.harvestShown.get f = d.get f := fun f hf => hget f (List.mem_append_right _ hf)
  exact {
    decided := h.decided
    mode := (hget _ (by decide)).trans h.mode
    transit := (hget _ (by decide)).trans h.transit
    cap := by rw [hget _ (by decide), Dev.globalCap_congr (d := d) (e := d.harvestShown) rfl rfl hsrc, h.cap]
    step := by rw [hget _ (by decide), Dev.appliedStep_congr (d := d) (e := d.harvestShown) rfl hsrc, h.step]
    pending := (hget _ (by decide)).trans h.pending
    faultn := by rw [hget _ (by decide), Dev.faultnLow_congr (d := d) (e := d.harvestShown) rfl rfl hsrc, h.faultn]
    ltr := h.ltr
    hold := by rw [hget _ (by decide), hget _ (by decide), h.hold] }

theorem Dev.showStatus_statusTrue (d : Dev) : StatusTrue d.showStatus := by
  rw [d.showStatus_eq]
  split
  · exact d.statusShown_statusTrue.harvestShown
  · exact d.statusShown_statusTrue

/-- Every command acts by one operation on the device, which then settles. -/
theorem exec_eq_run (c : Instr) : ∃ f : Dev → Dev, ∀ s : State, exec c s = s.run f := by
  cases performedBy c with
  | aon f _ acts => exact ⟨f, acts⟩
  | core f _ acts => exact ⟨_, acts⟩
  | write dom f _ acts => exact ⟨fun d => if d.clk.stopped then d else d.inPower dom f, acts⟩
  | island isl f _ acts => exact ⟨_, acts⟩
  | port isl n f _ acts => exact ⟨_, acts⟩

/-- Settles O2: every command acts by one operation on the device, which is what it settles from. -/
theorem everyCommandCompletes : Obligations.EveryCommandCompletes := by
  intro c d
  obtain ⟨f, hf⟩ := exec_eq_run c
  exact ⟨f d, effect_intro hf rfl⟩

/-- Settles O4: each field is read at reset. -/
theorem statusHoldsAtReset : Obligations.StatusHoldsAtReset where
  decided := rfl
  mode := by decide +kernel
  transit := by decide +kernel
  cap := by decide +kernel
  step := by decide +kernel
  pending := by decide +kernel
  faultn := by decide +kernel
  ltr := by decide +kernel
  hold := by decide +kernel

/-- Settles O5 (the choices of log entries 13, 17 and 58): a command's step ends in `Dev.showStatus`, whatever the state before it; a step
with no command changes nothing. -/
theorem statusHoldsAfterEveryStep : Obligations.StatusHoldsAfterEveryStep := by
  rintro ⟨d, q⟩ t htrue hstep
  cases q with
  | nil =>
    obtain rfl : (⟨d, []⟩ : State) = t := by simpa [step] using hstep
    exact htrue
  | cons c q =>
    obtain ⟨e, he⟩ := everyCommandCompletes c d
    obtain rfl : (⟨e.settle, q⟩ : State) = t := by simpa [step, he q] using hstep
    obtain ⟨e', hshow⟩ := e.settle_eq_showStatus
    rw [hshow]
    exact e'.showStatus_statusTrue

/-! ### A device with nothing under way -/

theorem Quiet.nameWaiting {d : Dev} (h : Quiet d) : d.nameWaiting = d := if_pos (by simp [h.named])

theorem Quiet.flushProgress {d : Dev} (h : Quiet d) : d.flushProgress = d := by
  have hnone : d.cmd.ctxs.filter (fun (c : Ctx) => c.state == .dispatched && (c.opcode == opFlush || d.fuaWrite c)) = [] := by
    simp only [List.filter_eq_nil_iff, Bool.and_eq_true, Bool.or_eq_true, beq_iff_eq]
    rintro c hc ⟨hstate, hkind⟩
    obtain ⟨hflush, hfua⟩ := h.flushed c hc hstate
    simp [hflush, hfua] at hkind
  simp [Dev.flushProgress, hnone, Dev.each]

theorem Quiet.rerouteLost {d : Dev} (h : Quiet d) : d.rerouteLost = d := by
  simp [Dev.rerouteLost, h.pieces, h.passes, h.band]

theorem Quiet.wakeCheck {d : Dev} (h : Quiet d) : d.wakeCheck = d := by
  unfold Dev.wakeCheck
  rw [h.transit, h.pieces]
  cases hmode : d.mod.mode with
  | ease => simp [h.run hmode]
  | rest => simp
  | _ => rfl

theorem Quiet.transitProgress {d : Dev} (h : Quiet d) : d.transitProgress = d := by
  simp [Dev.transitProgress, h.transit]

theorem Quiet.activationProgress {d : Dev} (h : Quiet d) : d.activationProgress = d := by
  simp [Dev.activationProgress, h.activation]

theorem Quiet.takeSafe {d : Dev} (h : Quiet d) : d.takeSafe = d := by
  simp [Dev.takeSafe, h.decision]

theorem Quiet.advance {d : Dev} (h : Quiet d) : d.advance = d := by
  unfold Dev.advance
  dsimp only
  rw [h.nameWaiting, h.flushProgress, h.rerouteLost, h.wakeCheck, h.transitProgress, h.activationProgress]
  split
  case h_1 hmode => exact absurd hmode h.spin
  case h_2 hmode => simp [Dev.safeProgress, h.parked hmode]
  case h_3 => rfl

theorem Quiet.settle {d : Dev} (h : Quiet d) : d.settle = d.showStatus := by
  simp [Dev.settle, h.clocks, h.harvest, h.takeSafe, h.advance]

theorem Quiet.showStatus {d : Dev} (h : Quiet d) : d.showStatus = d.statusShown := by
  rw [d.showStatus_eq, h.harvest]
  rfl

/-- Settles O6 (log entry 13): nothing under way goes further, so that the status fields are all that is written. -/
theorem quietDeviceSettles : Obligations.QuietDeviceSettles := by
  intro d h
  have hwritten : d.settle = d.statusShown := h.settle.trans h.showStatus
  have hwat : ({ d.wat with safeDue := none } : Wat) = d.wat := by rw [← h.decision]
  refine ⟨h.settle, ?_, ?_, ?_⟩
  · rw [hwritten]
    show ({ d with wat := { d.wat with safeDue := none } } : Dev) = d
    rw [hwat]
  · rw [hwritten]; rfl
  · intro f i hf
    rw [hwritten]
    exact d.getI_statusShown i hf

end Sys2Proof.Machine
end

section
/-! SUPPORT. What an event does to its port (spec/19 R772, R773, R784), by its severity and the room there. -/

namespace Sys2Proof.Machine

/-! ### Events and the Watch's ports -/

theorem at'_set_self {α : Type} {l : List α} {n : Nat} (x y : α) (h : n < l.length) : at' (l.set n x) n y = x := by
  simp [at', h]

theorem at'_set_ne {α : Type} (l : List α) {n m : Nat} (x y : α) (h : m ≠ n) : at' (l.set n x) m y = at' l m y := by
  simp [at', List.getElem?_set_ne h.symm]

/-- An event of severity 0 to 2 whose port has room is appended there (19 R772). -/
theorem Dev.post_held {d : Dev} {code sev : Nat} (ps : List Nat) (hsev : Events.severity code = some sev) (hlow : sev < 3) {p : Port}
    (hp : at' d.wat.ports (Events.port code) {} = p) (hroom : p.ordinary.length < 8) :
    d.post code ps =
      { d with wat := { d.wat with
          ports := d.wat.ports.set (Events.port code) { p with ordinary := p.ordinary ++ [mkEvent code ps] } } } := by
  subst hp
  simp [Dev.post, hsev, hlow, hroom]

/-- One whose port is full is discarded and counted (19 R772). -/
theorem Dev.post_dropped {d : Dev} {code sev : Nat} (ps : List Nat) (hsev : Events.severity code = some sev) (hlow : sev < 3) {p : Port}
    (hp : at' d.wat.ports (Events.port code) {} = p) (hfull : 8 ≤ p.ordinary.length) :
    d.post code ps =
      (({ d with wat := { d.wat with ports := d.wat.ports.set (Events.port code) { p with dropped := p.dropped + 1 } } } : Dev).inc
        F.WAT_DROP_COUNT).flag F.WAT_INT_STAT_DROP true := by
  subst hp
  simp [Dev.post, hsev, hlow, Nat.not_lt.mpr hfull]

/-- One of severity 3 or 4 is appended to its port's faults with its reaction, and FAULT_N pulses (19 R773, R784). -/
theorem Dev.post_fault {d : Dev} {code sev : Nat} (ps : List Nat) (hsev : Events.severity code = some sev) (hhigh : 3 ≤ sev) {p : Port}
    (hp : at' d.wat.ports (Events.port code) {} = p) :
    ∃ due, d.post code ps =
      ({ d with wat := { d.wat with
          ports := d.wat.ports.set (Events.port code) { p with faults := p.faults ++ [⟨mkEvent code ps, d.reaction code sev⟩] }
          driven := true, safeDue := due } } : Dev).flag F.WAT_STAT_PULSE true := by
  subst hp
  simp only [Dev.post, hsev, Nat.not_lt.mpr hhigh, if_false]
  exact ⟨_, rfl⟩

theorem Dev.on_flag_true {d : Dev} {f : Field} (hwidth : f.width ≠ 0) : (d.flag f true).on f = true :=
  Dev.on_of_get_eq_one ((d.get_put_self f 1).trans (Nat.mod_eq_of_lt (Nat.one_lt_two_pow hwidth)))

/-- Settles O13 (log entry 103): an event changes its own port alone, as its severity and the room there say. -/
theorem eventsReachTheirPorts : Obligations.EventsReachTheirPorts := by
  refine ⟨?held, ?dropped, ?fault, ?others, ?rest⟩
  case held =>
    intro d code sev ps hsev hport hlow hroom
    rw [Dev.post_held ps hsev hlow rfl hroom]
    exact at'_set_self _ _ hport
  case dropped =>
    intro d code sev ps hsev hport hlow hfull
    rw [Dev.post_dropped ps hsev hlow rfl hfull]
    exact ⟨at'_set_self _ _ hport, Dev.get_put_other _ 1 (f := F.WAT_INT_STAT_DROP) (g := F.WAT_DROP_COUNT) (by decide)⟩
  case fault =>
    intro d code sev ps hsev hport hhigh
    obtain ⟨due, hpost⟩ := Dev.post_fault (d := d) ps hsev hhigh rfl
    rw [hpost]
    exact ⟨at'_set_self _ _ hport, Dev.on_flag_true (by decide)⟩
  case others =>
    intro d code n ps hne
    unfold Dev.post
    split
    · rfl
    · dsimp only
      split
      · split
        · exact at'_set_ne _ _ _ hne
        · exact at'_set_ne _ _ _ hne
      · exact at'_set_ne _ _ _ hne
  case rest =>
    intro d code ps
    unfold Dev.post
    split
    · rfl
    · dsimp only
      split
      · split <;> rfl
      · rfl

end Sys2Proof.Machine
end

section
/-! SUPPORT. PORST_N, the rails, the Harvest and the mode requests (spec/04; spec/21 R851, R865, R875): which branch of each operation is
taken, and from them the statements on the resets, the supply and the modes. -/

namespace Sys2Proof.Machine

/-! ### The effect of each command of the balls and rails -/

theorem effect_porstNRelease (d : Dev) : Effect .porstNRelease d d.porstNReleaseAct := fun _ => rfl
theorem effect_porstNAssert (d : Dev) (ns : Nat) (taken : Bool) : Effect (.porstNAssert ns taken) d (d.porstNAssertAct ns taken) := fun _ => rfl
theorem effect_aonPowerOn (d : Dev) : Effect .aonPowerOn d d.aonPowerOnAct := fun _ => rfl
theorem effect_vddioLoss (d : Dev) : Effect .vddioLoss d d.vddioLost := fun _ => rfl
theorem effect_railFall (d : Dev) (r : Fin 7) : Effect (.railFall r) d (d.railFallAct r) := fun _ => rfl
theorem effect_harvestHoldoffEnd (d : Dev) : Effect .harvestHoldoffEnd d d.harvestHoldoffEndAct := fun _ => rfl
theorem effect_pwrfailFall (d : Dev) : Effect .pwrfailFall d d.pwrfailFallAct := fun _ => rfl
theorem effect_harvestCommit (d : Dev) : Effect .harvestCommit d d.harvestCommitAct := fun _ => rfl
theorem effect_pwrfailRise (d : Dev) : Effect .pwrfailRise d d.pwrfailRiseAct := fun _ => rfl

theorem effect_harvestTailWritten {d : Dev} (ms : Nat) (hstop : d.clk.stopped = false) :
    Effect (.harvestTailWritten ms) d (if d.holdsOff then d.harvestDone ms else d) :=
  effect_core (f := fun d => if d.holdsOff then d.harvestDone ms else d) hstop (fun _ => rfl) rfl

/-! ### PORST_N and the rails (R129, R151; 21 R851, R865, R875) -/

theorem Dev.killStanding_free {d : Dev} (htripped : d.wch.tripped = 0) (hpreamp : d.wch.preamp = 0) (hxin : d.clk.xinFailed = false)
    (hsupply : d.mod.pwrfailLow = false) : d.killStanding = d := by
  simp [Dev.killStanding, htripped, hpreamp, hxin, hsupply, Dev.each]

theorem Dev.judgeHarvest_unstarted {d : Dev} (hstarted : d.mod.harvStarted = false) : d.judgeHarvest = d := by
  have hmod : ({ d.mod with harvStarted := false } : Mod) = d.mod := by rw [← hstarted]
  simp [Dev.judgeHarvest, hstarted, hmod]

/-- A BOOT with nothing standing and no Harvest started finds nothing to assert or judge. -/
theorem Dev.bootJudged_nothing {d : Dev} (htripped : d.wch.tripped = 0) (hpreamp : d.wch.preamp = 0) (hxin : d.clk.xinFailed = false)
    (hsupply : d.mod.pwrfailLow = false) (hstarted : d.mod.harvStarted = false) : d.killStanding.judgeHarvest = d := by
  rw [Dev.killStanding_free htripped hpreamp hxin hsupply, Dev.judgeHarvest_unstarted hstarted]

theorem Dev.porstNReleaseAct_coldBoot {d : Dev} (hheld : d.mod.porstHeldOff = false) (hlow : d.mod.porstHigh = false)
    (htripped : d.wch.tripped = 0) (hpreamp : d.wch.preamp = 0) (hxin : d.clk.xinFailed = false) (hsupply : d.mod.pwrfailLow = false)
    (hstarted : d.mod.harvStarted = false) (hlost : d.mod.lostAtSafe = 0) :
    d.porstNReleaseAct =
      { d.put F.MOD_LOST_SECTORS 0 with mod := { d.mod with porstHigh := true, bootMs := 0 }, pins := { d.pins with rails := 0 } } := by
  have hreleased : d.porstNReleaseAct = d.porstReleased := by simp [Dev.porstNReleaseAct, hheld, hlow]
  have hboot := Dev.bootJudged_nothing
    (d := { d with mod := { d.mod with porstHigh := true, bootMs := 0 }, pins := { d.pins with rails := 0 } })
    htripped hpreamp hxin hsupply hstarted
  have hmod : ({ d.mod with porstHigh := true, bootMs := 0, lostAtSafe := 0 } : Mod) = { d.mod with porstHigh := true, bootMs := 0 } := by
    rw [← hlost]
  rw [hreleased]
  unfold Dev.porstReleased
  dsimp only
  rw [hboot, hlost, Dev.countDiscarded, if_pos rfl, ← hmod]
  rfl

/-- A low of PORST_N that the part takes is honoured, or held off by a Harvest (R151; 21 R865). -/
theorem Dev.porstNAssertAct_taken {d : Dev} {ns : Nat} (taken : Bool) (hlong : 10000 ≤ ns) : d.porstNAssertAct ns taken = d.porstAsserted :=
  if_neg (by simp; omega)

theorem Dev.porstAsserted_taken {d : Dev} (hfree : d.holdsOff = false) : d.porstAsserted = d.porstTaken := if_neg (by simp [hfree])

theorem Dev.porstAsserted_heldOff {d : Dev} (hholds : d.holdsOff = true) :
    d.porstAsserted = { d with mod := { d.mod with porstHeldOff := true, porstRose := false } } := if_pos hholds

theorem Dev.porstTaken_plain {d : Dev} (hpresent : d.on F.PRS_STAT_PRESENT = false) (hdebug : d.on F.TAL_STAT_DEBUG = false) :
    d.porstTaken = d.coldReset := by
  simp [Dev.porstTaken, hpresent, hdebug]

/-- Settles O21: each clause is a branch of the command's operation. -/
theorem resetBallsAndRails : Obligations.ResetBallsAndRails := by
  refine ⟨effect_porstNRelease, ?coldBoot, effect_porstNAssert, ?filtered, ?coldReset, ?heldOff, effect_aonPowerOn, effect_vddioLoss,
    ?vddioHeldOff, ?vddioTaken, effect_railFall, ?railMarked, ?aonRail, effect_harvestHoldoffEnd, ?honoured, ?notHeld⟩
  case coldBoot =>
    intro d hheld hlow htripped hpreamp hxin hsupply hstarted hlost
    exact (effect_porstNRelease d).of_eq (Dev.porstNReleaseAct_coldBoot hheld hlow htripped hpreamp hxin hsupply hstarted hlost)
  case filtered =>
    intro d ns taken hshort
    exact (effect_porstNAssert d ns taken).of_eq (if_pos (by simp [hshort]))
  case coldReset =>
    intro d ns taken hlong hfree hpresent hdebug
    exact (effect_porstNAssert d ns taken).of_eq
      ((Dev.porstNAssertAct_taken taken hlong).trans ((Dev.porstAsserted_taken hfree).trans (Dev.porstTaken_plain hpresent hdebug)))
  case heldOff =>
    intro d ns taken hlong hholds
    exact (effect_porstNAssert d ns taken).of_eq ((Dev.porstNAssertAct_taken taken hlong).trans (Dev.porstAsserted_heldOff hholds))
  case vddioHeldOff =>
    intro d hholds
    exact (effect_vddioLoss d).of_eq (Dev.porstAsserted_heldOff hholds)
  case vddioTaken =>
    intro d hfree
    exact (effect_vddioLoss d).of_eq (Dev.porstAsserted_taken hfree)
  case railMarked =>
    intro d r hcore haon hio
    exact (effect_railFall d r).of_eq (by simp only [Dev.railFallAct, hcore, haon, hio, if_false]; rfl)
  case aonRail =>
    intro d r haon
    exact (effect_railFall d r).of_eq (by simp [Dev.railFallAct, haon])
  case honoured =>
    intro d hheld hrose
    exact (effect_harvestHoldoffEnd d).of_eq (by simp [Dev.harvestHoldoffEndAct, hheld, hrose])
  case notHeld =>
    intro d hheld
    exact (effect_harvestHoldoffEnd d).of_eq (if_pos (by simp [hheld]))

/-! ### The supply that fails and the Harvest (R148, R149, R151) -/

theorem Dev.pwrfailFallAct_kills {d : Dev} (hsupply : d.mod.pwrfailLow = false) (hporst : d.mod.porstHigh = true)
    (hharvest : ({ d with mod := { d.mod with pwrfailLow := true } } : Dev).harvesting = false) :
    d.pwrfailFallAct = ({ d with mod := { d.mod with pwrfailLow := true } } : Dev).killAssert killSupply := by
  have hkills : (d.mod.porstHigh && !({ d with mod := { d.mod with pwrfailLow := true } } : Dev).harvesting) = true := by
    rw [hporst, hharvest]; rfl
  exact (if_neg (by simp [hsupply])).trans (if_pos hkills)

theorem Dev.harvestCommitAct_commits {d : Dev} (hsupply : d.mod.pwrfailLow = true) (hporst : d.mod.porstHigh = true)
    (hharvest : d.harvesting = false) : d.harvestCommitAct = d.harvestCommit := if_pos (by simp [hsupply, hporst, hharvest])

theorem Dev.harvestCommitAct_back {d : Dev} (hsupply : d.mod.pwrfailLow = false) : d.harvestCommitAct = d := if_neg (by simp [hsupply])

theorem Dev.pwrfailRiseAct_releases {d : Dev} (hharvest : ({ d with mod := { d.mod with pwrfailLow := false } } : Dev).harvesting = false) :
    d.pwrfailRiseAct = ({ d with mod := { d.mod with pwrfailLow := false } } : Dev).killRelease killSupply := if_pos (by simp [hharvest])

theorem Dev.pwrfailRiseAct_kept {d : Dev} (hharvest : ({ d with mod := { d.mod with pwrfailLow := false } } : Dev).harvesting = true)
    (hdone : ({ d with mod := { d.mod with pwrfailLow := false } } : Dev).on F.MOD_HARV_STAT_DONE = false) :
    d.pwrfailRiseAct = { d with mod := { d.mod with pwrfailLow := false, restartAfterHarvest := true } } := by
  simp [Dev.pwrfailRiseAct, hharvest, hdone]

/-- Settles O22: each clause is a branch of the command's operation. -/
theorem powerFailAndHarvest : Obligations.PowerFailAndHarvest := by
  refine ⟨effect_pwrfailFall, ?kills, effect_harvestCommit, ?commits, ?back, effect_pwrfailRise, ?releases, ?kept,
    fun _ => effect_harvestTailWritten, ?tail, ?noHarvest⟩
  case kills =>
    intro d hsupply hporst hharvest
    exact (effect_pwrfailFall d).of_eq (Dev.pwrfailFallAct_kills hsupply hporst hharvest)
  case commits =>
    intro d hsupply hporst hharvest
    exact (effect_harvestCommit d).of_eq (Dev.harvestCommitAct_commits hsupply hporst hharvest)
  case back =>
    intro d hsupply
    exact (effect_harvestCommit d).of_eq (Dev.harvestCommitAct_back hsupply)
  case releases =>
    intro d hharvest
    exact (effect_pwrfailRise d).of_eq (Dev.pwrfailRiseAct_releases hharvest)
  case kept =>
    intro d hharvest hdone
    exact (effect_pwrfailRise d).of_eq (Dev.pwrfailRiseAct_kept hharvest hdone)
  case tail =>
    intro d ms hholds hstop
    exact (effect_harvestTailWritten ms hstop).of_eq (if_pos hholds)
  case noHarvest =>
    intro d ms hholds hstop
    exact (effect_harvestTailWritten ms hstop).of_eq (if_neg (by simp [hholds]))

/-! ### Mode requests and idle timers (R131 to R136, R143, R152) -/

theorem effect_modReqWrite {d : Dev} (t : Fin 8) (hstop : d.clk.stopped = false) : Effect (.modReqWrite t) d (d.modRequest t.val) :=
  effect_core (f := fun d => d.modRequest t.val) hstop (fun _ => rfl) rfl

theorem effect_modReboot {d : Dev} (hstop : d.clk.stopped = false) : Effect .modReboot d d.reboot :=
  effect_core (f := Dev.reboot) hstop (fun _ => rfl) rfl

theorem effect_modEaseIdleWrite {d : Dev} (v : BitVec 17) (hstop : d.clk.stopped = false) :
    Effect (.modEaseIdleWrite v) d (d.idleWrite 2 v.toNat) :=
  effect_core (f := fun d => d.idleWrite 2 v.toNat) hstop (fun _ => rfl) rfl

theorem effect_modRestIdleWrite {d : Dev} (v : BitVec 17) (hstop : d.clk.stopped = false) :
    Effect (.modRestIdleWrite v) d (d.idleWrite 3 v.toNat) :=
  effect_core (f := fun d => d.idleWrite 3 v.toNat) hstop (fun _ => rfl) rfl

theorem effect_modEaseRpmWrite {d : Dev} (v : BitVec 13) (hstop : d.clk.stopped = false) :
    Effect (.modEaseRpmWrite v) d (d.idleWrite 4 v.toNat) :=
  effect_core (f := fun d => d.idleWrite 4 v.toNat) hstop (fun _ => rfl) rfl

theorem effect_easeIdleExpire {d : Dev} (hlive : d.live 0x02 = true) : Effect .easeIdleExpire d d.easeIdleExpireAct :=
  effect_island (f := Dev.easeIdleExpireAct) hlive (fun _ => rfl) rfl

theorem effect_restIdleExpire {d : Dev} (hlive : d.live 0x02 = true) : Effect .restIdleExpire d d.restIdleExpireAct :=
  effect_island (f := Dev.restIdleExpireAct) hlive (fun _ => rfl) rfl

/-- REST is asked for from SERVE with no stream open. -/
theorem Dev.modRequest_rest {d : Dev} (hmode : d.mod.mode = .serve) (htransit : d.mod.transit = none) (hharvest : d.harvesting = false)
    (hstreams : d.streams = []) : d.modRequest 4 = d.restBegin 0 := by
  have htaken : d.requestReason 4 = none := by simp [Dev.requestReason, hmode, htransit, hharvest, hstreams, Mode.code]
  simp [Dev.modRequest, htaken]

/-- SERVE is asked for from REST. -/
theorem Dev.modRequest_wake {d : Dev} (hmode : d.mod.mode = .rest) (htransit : d.mod.transit = none) (hharvest : d.harvesting = false) :
    d.modRequest 2 = d.goSpin 0 := by
  have htaken : d.requestReason 2 = none := by simp [Dev.requestReason, hmode, htransit, hharvest, Mode.code]
  simp [Dev.modRequest, htaken, hmode]

theorem Dev.modRequest_outside {d : Dev} {t : Nat} (ht : t < 2 ∨ 4 < t) : d.modRequest t = d.refuseRequest t 2 := by
  have hreason : d.requestReason t = some 2 := if_pos (by simpa using ht)
  simp [Dev.modRequest, hreason]

theorem Dev.reboot_safe {d : Dev} (hmode : d.mod.mode = .safe) (hharvest : d.harvesting = false) : d.reboot = d.warmBoot 1 :=
  if_pos (by simp [Dev.rebootOk, hmode, hharvest])

theorem Dev.reboot_boot {d : Dev} (hmode : d.mod.mode = .boot) : d.reboot = d.refuseRequest 0 4 :=
  if_neg (by simp [Dev.rebootOk, hmode])

/-- A value in its key's range is taken; a speed in EASE also moves the Miller (R152; 05 R193). -/
theorem Dev.idleWrite_taken {d : Dev} {f v : Nat} (hok : d.idleOk f v = true) (hstill : f ≠ 4 ∨ d.mod.mode ≠ .ease) :
    d.idleWrite f v = d.put (idleField f) v := by
  have hwhen : (f == 4 && d.mod.mode == Mode.ease) = false := by simpa [or_iff_not_imp_left] using hstill
  simp [Dev.idleWrite, hok, Dev.when, hwhen]

theorem Dev.idleWrite_refused {d : Dev} {f v : Nat} (hout : d.idleOk f v = false) :
    d.idleWrite f v = (d.put F.MOD_STAT_REQ_REFUSED 1).put F.MOD_INT_STAT_REQ_REFUSED 1 := if_pos (by simp [hout])

theorem Dev.idleFree_iff {d : Dev} : d.idleFree = true ↔ d.mod.transit = none ∧ d.streams = [] ∧ d.harvesting = false := by
  simp [Dev.idleFree, and_assoc]

/-- Settles O23: each clause is a branch of the command's operation. -/
theorem modeRequestsAndIdleTimers : Obligations.ModeRequestsAndIdleTimers := by
  refine ⟨fun _ => effect_modReqWrite, ?rest, ?wake, ?outside, fun _ => effect_modReboot, ?rebootSafe, ?rebootBoot,
    fun _ => effect_modEaseIdleWrite, ?easeIdle, ?easeIdleOut, fun _ => effect_modRestIdleWrite, ?restIdle,
    fun _ => effect_modEaseRpmWrite, ?easeRpm, fun _ => effect_easeIdleExpire, ?toEase, fun _ => effect_restIdleExpire, ?toRest⟩
  case rest =>
    intro d t hmode htransit hharvest hstreams ht hstop
    exact (effect_modReqWrite t hstop).of_eq (by rw [ht]; exact Dev.modRequest_rest hmode htransit hharvest hstreams)
  case wake =>
    intro d t hmode htransit hharvest ht hstop
    exact (effect_modReqWrite t hstop).of_eq (by rw [ht]; exact Dev.modRequest_wake hmode htransit hharvest)
  case outside =>
    intro d t ht hstop
    exact (effect_modReqWrite t hstop).of_eq (Dev.modRequest_outside ht)
  case rebootSafe =>
    intro d hmode hharvest hstop
    exact (effect_modReboot hstop).of_eq (Dev.reboot_safe hmode hharvest)
  case rebootBoot =>
    intro d hmode hstop
    exact (effect_modReboot hstop).of_eq (by rw [Dev.reboot_boot hmode, Dev.refuseRequest, hmode]; rfl)
  case easeIdle =>
    intro d v hv hstop
    exact (effect_modEaseIdleWrite v hstop).of_eq (Dev.idleWrite_taken (by simp [Dev.idleOk, hv]) (.inl (by decide)))
  case easeIdleOut =>
    intro d v hv hstop
    exact (effect_modEaseIdleWrite v hstop).of_eq (Dev.idleWrite_refused (by simp [Dev.idleOk, hv]))
  case restIdle =>
    intro d v hlow hhigh hstop
    exact (effect_modRestIdleWrite v hstop).of_eq
      (Dev.idleWrite_taken (by simpa [Dev.idleOk, hhigh] using hlow) (.inl (by decide)))
  case easeRpm =>
    intro d v hlow hhigh hmode hstop
    exact (effect_modEaseRpmWrite v hstop).of_eq (Dev.idleWrite_taken (by simp [Dev.idleOk, hlow, hhigh]) (.inr hmode))
  case toEase =>
    intro d hmode htransit hharvest hstreams hon hrest hpast hlive
    have hfree : d.idleFree = true := Dev.idleFree_iff.mpr ⟨htransit, hstreams, hharvest⟩
    exact (effect_easeIdleExpire hlive).of_eq (if_pos (by simp [hmode, hfree, hon, hrest, hpast]))
  case toRest =>
    intro d hmode htransit hharvest hstreams hon hpast hlive
    have hfree : d.idleFree = true := Dev.idleFree_iff.mpr ⟨htransit, hstreams, hharvest⟩
    exact (effect_restIdleExpire hlive).of_eq (if_pos (by rcases hmode with hmode | hmode <;> simp [hmode, hfree, hon, hpast]))

end Sys2Proof.Machine
end

section
/-! SUPPORT. What the work of the medium, the Drover and the commands leaves of the modes (spec/04): each operation that the SAFE entry
calls, or that one of those calls, keeps the modes' part of the state and WAT_STAT.SAFE. One lemma for each, in the order of the model, by
the lemmas of the operations that it calls. -/

namespace Sys2Proof.Machine

/-- Device `e` is in the mode of device `d`, with all that the modes hold, and shows WAT_STAT.SAFE as `d` does. -/
@[simp] abbrev Dev.SameMode (e d : Dev) : Prop := e.mod = d.mod ∧ cellsGet e.regs F.WAT_STAT_SAFE 0 = cellsGet d.regs F.WAT_STAT_SAFE 0

@[simp] theorem Dev.each_sameMode {α : Type} (f : Dev → α → Dev) (d : Dev) (l : List α) (h : ∀ d a, (f d a).SameMode d) :
    (d.each l f).SameMode d :=
  ⟨Dev.each_keeps (·.mod) f (fun d a => (h d a).1) d l,
   Dev.each_keeps (fun d => cellsGet d.regs F.WAT_STAT_SAFE 0) f (fun d a => (h d a).2) d l⟩

@[simp] theorem Dev.ite_parts (c : Prop) [Decidable c] (a b : Dev) :
    (if c then a else b).mod = (if c then a.mod else b.mod) ∧
    cellsGet (if c then a else b).regs F.WAT_STAT_SAFE 0 = if c then cellsGet a.regs F.WAT_STAT_SAFE 0 else cellsGet b.regs F.WAT_STAT_SAFE 0 :=
  ⟨apply_ite Dev.mod c a b, apply_ite (fun d => cellsGet d.regs F.WAT_STAT_SAFE 0) c a b⟩

theorem Dev.SameMode.trans {a b c : Dev} (h : a.SameMode b) (g : b.SameMode c) : a.SameMode c := ⟨h.1.trans g.1, h.2.trans g.2⟩

@[simp] theorem Dev.putI_sameMode (d : Dev) (f : Field) (i v : Nat) (h : f.key ≠ F.WAT_STAT_SAFE.key) : (d.putI f i v).SameMode d :=
  ⟨rfl, cellsGet_putI_ne d i 0 v h⟩

@[simp] theorem Dev.put_sameMode (d : Dev) (f : Field) (v : Nat) (h : f.key ≠ F.WAT_STAT_SAFE.key) :
    (d.put f v).SameMode d := d.putI_sameMode f _ _ h

@[simp] theorem Dev.flagI_sameMode (d : Dev) (f : Field) (i : Nat) (b : Bool) (h : f.key ≠ F.WAT_STAT_SAFE.key) :
    (d.flagI f i b).SameMode d := d.putI_sameMode f _ _ h

@[simp] theorem Dev.flag_sameMode (d : Dev) (f : Field) (b : Bool) (h : f.key ≠ F.WAT_STAT_SAFE.key) :
    (d.flag f b).SameMode d := d.putI_sameMode f _ _ h

@[simp] theorem Dev.add_sameMode (d : Dev) (f : Field) (k : Nat) (h : f.key ≠ F.WAT_STAT_SAFE.key) :
    (d.add f k).SameMode d := d.putI_sameMode f _ _ h

@[simp] theorem Dev.inc_sameMode (d : Dev) (f : Field) (h : f.key ≠ F.WAT_STAT_SAFE.key) : (d.inc f).SameMode d := d.putI_sameMode f _ _ h

@[simp] theorem Dev.incI_sameMode (d : Dev) (f : Field) (i : Nat) (h : f.key ≠ F.WAT_STAT_SAFE.key) :
    (d.incI f i).SameMode d := d.putI_sameMode f _ _ h

@[simp] theorem Dev.setBit_sameMode (d : Dev) (f : Field) (n : Nat) (b : Bool) (h : f.key ≠ F.WAT_STAT_SAFE.key) :
    (d.setBit f n b).SameMode d := d.putI_sameMode f _ _ h

@[simp] theorem Dev.post_sameMode (d : Dev) (code : Nat) (ps : List Nat) : (d.post code ps).SameMode d :=
  ⟨d.post_mod code ps, cellsGet_post d code ps 0 (by decide) (by decide) (by decide)⟩

@[simp] theorem Dev.notice_sameMode (d : Dev) (n : Nat) : (d.notice n).SameMode d := by
  refine ⟨d.notice_mod n, ?_⟩
  unfold Dev.notice
  dsimp only
  split
  · rfl
  · split <;> simp +decide [Dev.setBit, Dev.put, cellsGet_putI_ne]

/-! ### Commands' ends and streams -/

@[simp] theorem Dev.setPause_sameMode (d : Dev) (b : Bool) : (d.setPause b).SameMode d := by
  simp +decide [Dev.setPause]

@[simp] theorem Dev.mapCtx_sameMode (d : Dev) (n : Nat) (f : Ctx → Ctx) : (d.mapCtx n f).SameMode d := by
  simp +decide [Dev.mapCtx]

@[simp] theorem Dev.countLocks_sameMode (d : Dev) : d.countLocks.SameMode d := by
  simp +decide [Dev.countLocks]

@[simp] theorem Dev.lateMark_sameMode (d : Dev) (c : Ctx) (hi : Nat) : (d.lateMark c hi).2.SameMode d := by
  unfold Dev.lateMark
  dsimp only
  repeat' split
  all_goals simp +decide

@[simp] theorem Dev.dataError_sameMode (d : Dev) (status detail hi tag : Nat) : (d.dataError status detail hi tag).SameMode d := by
  simp +decide [Dev.dataError]

@[simp] theorem Dev.showLimits_sameMode (d : Dev) : d.showLimits.SameMode d := by
  simp +decide [Dev.showLimits]

@[simp] theorem Dev.riskCheck_sameMode (d : Dev) : d.riskCheck.SameMode d := by
  simp +decide [Dev.riskCheck]

@[simp] theorem Dev.streamClosed_sameMode (d : Dev) (id : Nat) : (d.streamClosed id).SameMode d := by
  unfold Dev.streamClosed
  repeat' split
  all_goals simp +decide

@[simp] theorem Dev.commitOne_sameMode (d : Dev) (n status detail hi : Nat) : (d.commitOne n status detail hi).SameMode d := by
  unfold Dev.commitOne
  dsimp only
  repeat' split
  all_goals simp +decide

@[simp] theorem Dev.closeProgress_sameMode (d : Dev) : d.closeProgress.SameMode d := by
  simp +decide [Dev.closeProgress]

@[simp] theorem Dev.commit_sameMode (d : Dev) (n status detail hi : Nat) : (d.commit n status detail hi).SameMode d := by
  simp +decide [Dev.commit]

theorem segWrite_sameMode (l : List (Nat × Nat)) : ∀ (d : Dev) (off : Nat) (bytes : List Nat), (segWrite d l off bytes).SameMode d := by
  induction l with
  | nil => exact fun _ _ _ => ⟨rfl, rfl⟩
  | cons x r ih =>
    intro d off bytes
    unfold segWrite
    split
    · exact ⟨rfl, rfl⟩
    · split
      · exact ih d _ bytes
      · exact ih (d.hostWrite _ _) 0 _

@[simp] theorem Dev.segsToHost_sameMode (d : Dev) (c : Ctx) (off : Nat) (bytes : List Nat) : (d.segsToHost c off bytes).SameMode d :=
  segWrite_sameMode c.segs d off bytes

/-! ### The Drover: bands, journal, map, pieces and runs -/

@[simp] theorem Dev.showBands_sameMode (d : Dev) : d.showBands.SameMode d := by
  unfold Dev.showBands
  dsimp only
  repeat' split
  all_goals simp +decide

@[simp] theorem Dev.setBand_sameMode (d : Dev) (e : Band) : (d.setBand e).SameMode d := by
  simp +decide [Dev.setBand]

@[simp] theorem Dev.showJseq_sameMode (d : Dev) : d.showJseq.SameMode d := by
  simp +decide [Dev.showJseq]

@[simp] theorem Dev.appendRec_sameMode (d : Dev) (kind : Nat) (payload : List Nat) : (d.appendRec kind payload).SameMode d := by
  simp +decide [Dev.appendRec]

@[simp] theorem Dev.tailToLog_sameMode (d : Dev) (keep : Nat) : (d.tailToLog keep).SameMode d := by
  simp +decide [Dev.tailToLog]

@[simp] theorem Dev.checkpoint_sameMode (d : Dev) : d.checkpoint.SameMode d := by
  unfold Dev.checkpoint
  dsimp only
  repeat' split
  all_goals simp +decide

@[simp] theorem Dev.journal_sameMode (d : Dev) (kind : Nat) (payload : List Nat) : (d.journal kind payload).SameMode d := by
  simp +decide [Dev.journal]

@[simp] theorem Dev.journalBand_sameMode (d : Dev) (n : Nat) : (d.journalBand n).SameMode d := by
  simp +decide [Dev.journalBand]

@[simp] theorem Dev.showMap_sameMode (d : Dev) : d.showMap.SameMode d := by
  simp +decide [Dev.showMap]

@[simp] theorem Dev.freeCleaned_sameMode (d : Dev) : d.freeCleaned.SameMode d := by
  simp +decide [Dev.freeCleaned]

@[simp] theorem liveFall_sameMode (fuel : Nat) : ∀ (d : Dev) (x n : Nat), (liveFall fuel d x n).SameMode d := by
  induction fuel with
  | zero => exact fun _ _ _ => ⟨rfl, rfl⟩
  | succ fuel ih =>
    intro d x n
    unfold liveFall
    split
    · exact ⟨rfl, rfl⟩
    · split
      · exact ⟨rfl, rfl⟩
      · exact (ih _ _ _).trans (d.setBand_sameMode _)

@[simp] theorem Dev.mapCut_sameMode (d : Dev) (lba count : Nat) : (d.mapCut lba count).SameMode d := by
  simp +decide [Dev.mapCut]

@[simp] theorem Dev.mapSet_sameMode (d : Dev) (e : Extent) : (d.mapSet e).SameMode d := by
  unfold Dev.mapSet
  dsimp only
  repeat' split
  all_goals simp +decide

@[simp] theorem Dev.freeTile_sameMode (d : Dev) (t : Nat) : (d.freeTile t).SameMode d := ⟨rfl, rfl⟩

@[simp] theorem Dev.showAct_sameMode (d : Dev) (n : Nat) : (d.showAct n).SameMode d := by
  simp +decide [Dev.showAct]

@[simp] theorem Dev.mapPiece_sameMode (d : Dev) (id : Nat) (f : Piece → Piece) : (d.mapPiece id f).SameMode d := by
  simp +decide [Dev.mapPiece]

@[simp] theorem Dev.dropPiece_sameMode (d : Dev) (id : Nat) : (d.dropPiece id).SameMode d := by
  simp +decide [Dev.dropPiece]

@[simp] theorem Dev.filePiece_sameMode (d : Dev) (p : Piece) : (d.filePiece p).SameMode d := by
  simp +decide [Dev.filePiece]

@[simp] theorem Dev.fileReads_sameMode (d : Dev) (why : Purpose) (rung step : Nat) (deadline : Option Nat) (l : List (Spot × Sec)) :
    (d.fileReads why rung step deadline l).SameMode d := by
  refine Dev.each_sameMode _ d (runsOf l) fun d g => ?_
  split
  · exact ⟨rfl, rfl⟩
  · exact d.filePiece_sameMode _

@[simp] theorem Dev.flushProgress_sameMode (d : Dev) : d.flushProgress.SameMode d := by
  simp +decide [Dev.flushProgress]

@[simp] theorem Dev.nameStripe_sameMode (d : Dev) (s : Stripe) : (d.nameStripe s).SameMode d := by
  unfold Dev.nameStripe
  dsimp only
  refine (Dev.freeCleaned_sameMode _).trans ((Dev.journalBand_sameMode _ _).trans ?_)
  refine Dev.each_sameMode _ d _ fun d i => ?_
  split
  · exact ⟨rfl, rfl⟩
  · simp +decide

@[simp] theorem Dev.tryName_sameMode (d : Dev) (s : Stripe) : (d.tryName s).SameMode d := by
  simp +decide [Dev.tryName]

@[simp] theorem Dev.requeue_sameMode (d : Dev) (m : Member) : (d.requeue m).SameMode d := by
  unfold Dev.requeue
  repeat' split
  all_goals simp +decide

@[simp] theorem Dev.waitingLost_sameMode (d : Dev) (lba tile : Nat) : (d.waitingLost lba tile).SameMode d := by
  simp +decide [Dev.waitingLost]

@[simp] theorem Dev.badMember_sameMode (d : Dev) (m : Member) : (d.badMember m).SameMode d := by
  unfold Dev.badMember
  dsimp only
  repeat' split
  all_goals simp +decide

@[simp] theorem Dev.abandonStripe_sameMode (d : Dev) (s : Stripe) (i code : Nat) : (d.abandonStripe s i code).SameMode d := by
  unfold Dev.abandonStripe
  dsimp only
  refine (Dev.flushProgress_sameMode _).trans ((Dev.post_sameMode _ _ _).trans ((Dev.each_sameMode _ _ _ fun d j => ?_).trans ⟨rfl, rfl⟩))
  split
  · exact ⟨rfl, rfl⟩
  · simp +decide

@[simp] theorem Dev.memberReport_sameMode (d : Dev) (stripe member code : Nat) : (d.memberReport stripe member code).SameMode d := by
  unfold Dev.memberReport
  dsimp only
  repeat' split
  all_goals simp +decide

/-! ### Recovery and rebuilds -/

@[simp] theorem Dev.showRecov_sameMode (d : Dev) : d.showRecov.SameMode d := by
  simp +decide [Dev.showRecov]

@[simp] theorem Dev.setRecov_sameMode (d : Dev) (l : List Recovery) : (d.setRecov l).SameMode d := by
  simp +decide [Dev.setRecov]

@[simp] theorem Dev.dropRecov_sameMode (d : Dev) (stripe member : Nat) : (d.dropRecov stripe member).SameMode d := by
  simp +decide [Dev.dropRecov]

theorem freshBytes_sameMode (l : List Nat) : ∀ x : Dev × List Nat,
    (l.foldl (fun (x : Dev × List Nat) _ => let v := x.1.fresh; (v.2, v.1 % 256 :: x.2)) x).1.SameMode x.1 := by
  induction l with
  | nil => exact fun _ => ⟨rfl, rfl⟩
  | cons a l ih => exact fun x => (ih _).trans ⟨rfl, rfl⟩

@[simp] theorem Dev.readUndefined_sameMode (d : Dev) (c : Ctx) (lba : Nat) : (d.readUndefined c lba).SameMode d := by
  unfold Dev.readUndefined
  split
  · exact (Dev.segsToHost_sameMode _ c _ _).trans (freshBytes_sameMode _ (d, []))
  · exact ⟨rfl, rfl⟩

@[simp] theorem Dev.sectorEnds_sameMode (d : Dev) (n lba rung : Nat) (err : Option Nat) : (d.sectorEnds n lba rung err).SameMode d := by
  unfold Dev.sectorEnds
  dsimp only
  repeat' split
  all_goals simp +decide

@[simp] theorem Dev.rebuildFails_sameMode (d : Dev) (r : Recovery) (lost : Nat) : (d.rebuildFails r lost).SameMode d := by
  unfold Dev.rebuildFails
  dsimp only
  repeat' split
  all_goals simp +decide

@[simp] theorem Dev.startRebuild_sameMode (d : Dev) (op : ReadOp) (stream attempts : Nat) (sealCheck fenced : Bool) :
    (d.startRebuild op stream attempts sealCheck fenced).SameMode d := by
  simp +decide [Dev.startRebuild]

@[simp] theorem Dev.peerFails_sameMode (d : Dev) (stripe member : Nat) (peer : Sec) : (d.peerFails stripe member peer).SameMode d := by
  simp +decide [Dev.peerFails]

/-! ### Attempts, sample sets, jobs and rungs -/

@[simp] theorem Dev.setFe_sameMode (d : Dev) (s : Nat) (f : Fe → Fe) : (d.setFe s f).SameMode d := ⟨rfl, rfl⟩

@[simp] theorem Dev.putAdaptive_sameMode (d : Dev) (s : Nat) (a : Adaptive) : (d.putAdaptive s a).SameMode d := by
  simp +decide [Dev.putAdaptive]

@[simp] theorem Dev.restoreSnap_sameMode (d : Dev) (s cause : Nat) : (d.restoreSnap s cause).SameMode d := by
  unfold Dev.restoreSnap
  repeat' split
  all_goals simp +decide

@[simp] theorem Dev.setSets_sameMode (d : Dev) (l : List SampleSet) : (d.setSets l).SameMode d := by
  simp +decide [Dev.setSets]

@[simp] theorem Dev.freeSets_sameMode (d : Dev) (op : ReadOp) : (d.freeSets op).SameMode d := by
  simp +decide [Dev.freeSets]

@[simp] theorem Dev.keepSet_sameMode (d : Dev) (a : Attempt) : (d.keepSet a).SameMode d := by
  unfold Dev.keepSet
  dsimp only
  repeat' split
  all_goals simp +decide

@[simp] theorem Dev.setJobs_sameMode (d : Dev) (l : List Job) : (d.setJobs l).SameMode d := by
  simp +decide [Dev.setJobs]

@[simp] theorem Dev.addJob_sameMode (d : Dev) (stream : Nat) (op : ReadOp) (rung2 : Bool) : (d.addJob stream op rung2).SameMode d := by
  simp +decide [Dev.addJob]

@[simp] theorem Dev.fileOp_sameMode (d : Dev) (op : ReadOp) : (d.fileOp op).SameMode d := by
  simp +decide [Dev.fileOp]

@[simp] theorem Dev.enterRung1_sameMode (d : Dev) (r : Recovery) : (d.enterRung1 r).SameMode d := by
  simp +decide [Dev.enterRung1]

@[simp] theorem Dev.admitWaiting_sameMode (d : Dev) : d.admitWaiting.SameMode d := by
  unfold Dev.admitWaiting
  repeat' split
  all_goals simp +decide

@[simp] theorem Dev.handOff_sameMode (d : Dev) (r : Recovery) : (d.handOff r).SameMode d := by
  unfold Dev.handOff
  dsimp only
  repeat' split
  all_goals simp +decide

@[simp] theorem Dev.enterRung2_sameMode (d : Dev) (r : Recovery) : (d.enterRung2 r).SameMode d := by
  simp +decide [Dev.enterRung2]

@[simp] theorem Dev.verifyFails_sameMode (d : Dev) (stripe member globals : Nat) : (d.verifyFails stripe member globals).SameMode d := by
  refine Dev.each_sameMode _ d _ fun d s => Dev.each_sameMode _ d _ fun d x => ?_
  simp +decide

@[simp] theorem Dev.readFailed_sameMode (d : Dev) (stream : Nat) (op : ReadOp) (globals : Nat) : (d.readFailed stream op globals).SameMode d := by
  unfold Dev.readFailed
  dsimp only
  repeat' split
  all_goals simp +decide

@[simp] theorem Dev.showSlice_sameMode (d : Dev) (q : Nat) : (d.showSlice q).SameMode d := by
  unfold Dev.showSlice
  dsimp only
  repeat' split
  all_goals simp +decide

@[simp] theorem Dev.setSlots_sameMode (d : Dev) (q : Nat) (l : List Attempt) : (d.setSlots q l).SameMode d := by
  simp +decide [Dev.setSlots]

@[simp] theorem Dev.pieceDone_sameMode (d : Dev) (s : Nat) : (d.pieceDone s).SameMode d := by
  unfold Dev.pieceDone
  repeat' split
  all_goals simp +decide

@[simp] theorem Dev.abandonAttempt_sameMode (d : Dev) (s cause : Nat) : (d.abandonAttempt s cause).SameMode d := by
  unfold Dev.abandonAttempt
  dsimp only
  repeat' split
  all_goals simp +decide

/-! ### Channels and the kill net -/

@[simp] theorem Dev.setWchan_sameMode (d : Dev) (s : Nat) (c : WChan) : (d.setWchan s c).SameMode d := ⟨rfl, rfl⟩

@[simp] theorem Dev.sectorReport_sameMode (d : Dev) (s : Nat) (x : WSector) (code : Nat) : (d.sectorReport s x code).SameMode d := by
  simp +decide [Dev.sectorReport]

@[simp] theorem Dev.showBuffers_sameMode (d : Dev) (s : Nat) : (d.showBuffers s).SameMode d := by
  simp +decide [Dev.showBuffers]

@[simp] theorem Dev.tear_sameMode (d : Dev) (s : Nat) (x : WSector) (cause : Nat) : (d.tear s x cause).SameMode d := by
  simp +decide [Dev.tear]

@[simp] theorem Dev.notStarted_sameMode (d : Dev) (s : Nat) : (d.notStarted s).SameMode d := by
  simp +decide [Dev.notStarted]

@[simp] theorem Dev.cutGate_sameMode (d : Dev) (s : Nat) : (d.cutGate s).SameMode d := by
  unfold Dev.cutGate
  dsimp only
  repeat' split
  all_goals simp +decide

@[simp] theorem Dev.setShp_sameMode (d : Dev) (n : Nat) (f : Shp → Shp) : (d.setShp n f).SameMode d := ⟨rfl, rfl⟩

@[simp] theorem Dev.setUc_sameMode (d : Dev) (n : Nat) (f : Uc → Uc) : (d.setUc n f).SameMode d := by
  simp +decide [Dev.setUc]

@[simp] theorem Dev.setCh_sameMode (d : Dev) (n k : Nat) (f : ShpChan → ShpChan) : (d.setCh n k f).SameMode d := by
  simp +decide [Dev.setCh]

@[simp] theorem Dev.latchTrap_sameMode (d : Dev) (n c : Nat) : (d.latchTrap n c).SameMode d := by
  simp +decide [Dev.latchTrap]

@[simp] theorem Dev.inhibitCheck_sameMode (d : Dev) : d.inhibitCheck.SameMode d := by
  simp +decide [Dev.inhibitCheck]

@[simp] theorem Dev.killAssert_sameMode (d : Dev) (n : Nat) : (d.killAssert n).SameMode d := by
  simp +decide [Dev.killAssert]

@[simp] theorem Dev.killRelease_sameMode (d : Dev) (n : Nat) : (d.killRelease n).SameMode d := by
  simp +decide [Dev.killRelease]

/-! ### Unloading -/

@[simp] theorem Dev.dropCauses_sameMode (d : Dev) (n : Nat) (p : ShpCause → Bool) : (d.dropCauses n p).SameMode d := by
  simp +decide [Dev.dropCauses]

@[simp] theorem Dev.awaitDrop_sameMode (d : Dev) (s : Nat) : (d.awaitDrop s).SameMode d := by
  simp +decide [Dev.awaitDrop]

@[simp] theorem Dev.pieceReturn_sameMode (d : Dev) (s : Nat) : (d.pieceReturn s).SameMode d := by
  unfold Dev.pieceReturn
  repeat' split
  all_goals simp +decide

@[simp] theorem Dev.channelsStop_sameMode (d : Dev) (n : Nat) : (d.channelsStop n).SameMode d := by
  simp +decide [Dev.channelsStop]

@[simp] theorem Dev.offTrack_sameMode (d : Dev) (n : Nat) : (d.offTrack n).SameMode d := by
  simp +decide [Dev.offTrack]

@[simp] theorem Dev.enterUnloading_sameMode (d : Dev) (n cause : Nat) : (d.enterUnloading n cause).SameMode d := by
  simp +decide [Dev.enterUnloading]

@[simp] theorem Dev.unload_sameMode (d : Dev) (n cause : Nat) : (d.unload n cause).SameMode d := by
  simp +decide [Dev.unload]

@[simp] theorem Dev.retractDue_sameMode (d : Dev) (kind : Nat) : (d.retractDue kind).SameMode d := by
  simp +decide [Dev.retractDue]

end Sys2Proof.Machine
end

section
/-! SUPPORT. The SAFE entry (spec/04 R141, R142; log entry 97) in stages: the decision taken back, the write gates cut, the mode entered,
the work dropped, the commands ended. -/

namespace Sys2Proof.Machine

/-! ### What a commit leaves of the Drover's tables -/

/-- The pieces, the passes and the surface rebuild of device `e` are those of device `d`. -/
@[simp] abbrev Dev.SameWork (e d : Dev) : Prop := e.drv.pieces = d.drv.pieces ∧ e.drv.passes = d.drv.passes ∧ e.drv.surf = d.drv.surf

theorem Dev.SameWork.trans {a b c : Dev} (h : a.SameWork b) (g : b.SameWork c) : a.SameWork c :=
  ⟨h.1.trans g.1, h.2.1.trans g.2.1, h.2.2.trans g.2.2⟩

theorem Dev.each_sameWork {α : Type} (f : Dev → α → Dev) (d : Dev) (l : List α) (h : ∀ d a, (f d a).SameWork d) : (d.each l f).SameWork d :=
  ⟨Dev.each_keeps (·.drv.pieces) f (fun d a => (h d a).1) d l, Dev.each_keeps (·.drv.passes) f (fun d a => (h d a).2.1) d l,
   Dev.each_keeps (·.drv.surf) f (fun d a => (h d a).2.2) d l⟩

theorem Dev.sameWork_of_drv {d e : Dev} (h : e.drv = d.drv) : e.SameWork d := by simp [h]

theorem Dev.lateMark_drv (d : Dev) (c : Ctx) (hi : Nat) : (d.lateMark c hi).2.drv = d.drv := by
  unfold Dev.lateMark
  dsimp only
  repeat' split
  all_goals simp

theorem Dev.riskCheck_drv (d : Dev) : d.riskCheck.drv = d.drv := by
  unfold Dev.riskCheck
  dsimp only
  split
  · rfl
  · refine (Dev.each_keeps (·.drv) _ (fun d i => ?_) _ _).trans rfl
    repeat' split
    all_goals simp

theorem Dev.streamClosed_drv (d : Dev) (id : Nat) : (d.streamClosed id).drv = d.drv := by
  unfold Dev.streamClosed
  split
  · rfl
  · rw [Dev.riskCheck_drv, Dev.post_drv]

theorem Dev.dataError_sameWork (d : Dev) (status detail hi tag : Nat) : (d.dataError status detail hi tag).SameWork d := by
  unfold Dev.dataError
  dsimp only
  repeat' split
  all_goals simp

theorem Dev.commitOne_sameWork (d : Dev) (n status detail hi : Nat) : (d.commitOne n status detail hi).SameWork d := by
  unfold Dev.commitOne
  split
  · exact ⟨rfl, rfl, rfl⟩
  next c _ =>
    have hlate := Dev.sameWork_of_drv (d.lateMark_drv c hi)
    have hdata := (Dev.dataError_sameWork (d.lateMark c hi).2 status detail (hi % 2 ^ 15) c.tag).trans hlate
    split
    · exact ⟨rfl, rfl, rfl⟩
    · dsimp only
      split <;> split
      · exact hdata
      · exact hlate
      · exact hdata
      · exact hlate

theorem Dev.closeProgress_sameWork (d : Dev) : d.closeProgress.SameWork d := by
  refine Dev.each_sameWork _ d _ fun d c => ?_
  dsimp only
  split
  · exact ⟨rfl, rfl, rfl⟩
  · exact (Dev.sameWork_of_drv (Dev.streamClosed_drv _ _)).trans (d.commitOne_sameWork _ _ _ _)

theorem Dev.commit_sameWork (d : Dev) (n status detail hi : Nat) : (d.commit n status detail hi).SameWork d :=
  (Dev.closeProgress_sameWork _).trans (d.commitOne_sameWork n status detail hi)

theorem Dev.setPause_drv (d : Dev) (b : Bool) : (d.setPause b).drv = d.drv := by
  unfold Dev.setPause
  split
  · rfl
  · simp

/-! ### The stages of the SAFE entry (04 R141) -/

/-- The decision is taken back: none is due. -/
def Dev.decisionTaken (d : Dev) : Dev := { d with wat := { d.wat with safeDue := none } }

/-- WAT_STAT.SAFE is set and the write gates are cut. -/
def Dev.safeCut (d : Dev) : Dev := (d.put F.WAT_STAT_SAFE 1).killAssert killSafe

/-- SAFE is entered: what was not on the medium is counted, no change of mode goes on. -/
def Dev.safeEntered (d : Dev) (code : Nat) (old : Mode) : Dev :=
  let d := { d with mod := { d.mod with transit := none, lostAtSafe := d.unwritten, parkDone := false, recovery := false } }
  (((d.put F.MOD_INT_STAT_SAFE 1).post 0x0305 [code, old.code]).setMode .safe code).notice 1

/-- The reads are dropped, the heads unload, and the Drover's pieces, passes and surface rebuild are dropped. -/
def Dev.safeDropped (d : Dev) : Dev :=
  let d := (List.range 9).foldl (fun d q => d.setSlots q []) d
  let d := ((d.setJobs []).setSets []).setRecov []
  let d := { d with det := { d.det with waiting := [] } }
  let d := (d.retractDue 0).unloadAll 1
  { d with drv := { d.drv with pieces := [], passes := [], surf := none } }

/-- What SAFE shows and ends: the actuators' status, the commands it does not spare, an activation before its fifth step. -/
def Dev.safeEnded (d : Dev) : Dev :=
  let d := d.each (List.range 4) Dev.showAct
  let early := d.cmd.act.any (fun (a : Activation) => a.step < 5)
  let d := d.each (d.cmd.ctxs.filter (fun (c : Ctx) => c.active && !d.safeSpares c)) (fun d (c : Ctx) => d.commit c.num stAbortedSafe 0 0)
  if early then { d with cmd := { d.cmd with act := none } }.setPause false else d

theorem Dev.safeEntry_eq (d : Dev) (code : Nat) :
    d.safeEntry code = if d.harvesting || d.on F.WAT_STAT_SAFE then d.decisionTaken
      else (d.decisionTaken.safeCut.safeEntered code d.mod.mode).safeDropped.safeEnded := by
  show _ = if d.decisionTaken.harvesting || d.decisionTaken.on F.WAT_STAT_SAFE then _ else _
  unfold Dev.safeEntry Dev.safeEnded Dev.safeDropped Dev.safeEntered Dev.safeCut Dev.decisionTaken
  with_reducible rfl

theorem Dev.safeCut_on (d : Dev) : cellsGet d.safeCut.regs F.WAT_STAT_SAFE 0 = 1 :=
  ((d.put F.WAT_STAT_SAFE 1).killAssert_sameMode killSafe).2.trans (d.get_put_self F.WAT_STAT_SAFE 1)

theorem Dev.setMode_mod (d : Dev) (m : Mode) (cause : Nat) : (d.setMode m cause).mod = { d.mod with mode := m } := by
  simp [Dev.setMode]

theorem Dev.safeEntered_mod (d : Dev) (code : Nat) (old : Mode) : (d.safeEntered code old).mod =
    { d.mod with mode := .safe, transit := none, lostAtSafe := d.unwritten, parkDone := false, recovery := false } := by
  simp [Dev.safeEntered, Dev.setMode_mod]

theorem Dev.safeEntered_safe (d : Dev) (code : Nat) (old : Mode) :
    cellsGet (d.safeEntered code old).regs F.WAT_STAT_SAFE 0 = cellsGet d.regs F.WAT_STAT_SAFE 0 := by
  simp +decide [Dev.safeEntered, Dev.setMode]

@[simp] theorem Dev.unloadAll_sameMode (d : Dev) (cause : Nat) : (d.unloadAll cause).SameMode d :=
  Dev.each_sameMode _ d _ fun d n => d.unload_sameMode n cause

theorem Dev.safeDropped_sameMode (d : Dev) : d.safeDropped.SameMode d := by
  have hslots : ((List.range 9).foldl (fun d q => d.setSlots q []) d).SameMode d :=
    Dev.each_sameMode _ d _ fun d q => d.setSlots_sameMode q []
  refine Dev.SameMode.trans ?_ hslots
  simp +decide [Dev.safeDropped]

theorem Dev.safeEnded_sameMode (d : Dev) : d.safeEnded.SameMode d := by
  simp +decide [Dev.safeEnded]

theorem Dev.safeEnded_sameWork (d : Dev) : d.safeEnded.SameWork d := by
  have hshow : (d.each (List.range 4) Dev.showAct).SameWork d := Dev.each_sameWork _ d _ fun _ _ => ⟨rfl, rfl, rfl⟩
  have hcommits (l : List Ctx) :
      ((d.each (List.range 4) Dev.showAct).each l fun d (c : Ctx) => d.commit c.num stAbortedSafe 0 0).SameWork d :=
    (Dev.each_sameWork _ _ l fun d c => d.commit_sameWork c.num stAbortedSafe 0 0).trans hshow
  unfold Dev.safeEnded
  dsimp only
  split
  · exact (Dev.sameWork_of_drv (Dev.setPause_drv _ _)).trans (hcommits _)
  · exact hcommits _

/-- Settles O14 (log entry 97): what follows the entry leaves the mode and WAT_STAT.SAFE alone, and what follows the drop the Drover's empty tables. -/
theorem safeEntryEndsTheWork : Obligations.SafeEntryEndsTheWork := by
  refine ⟨?acts, ?idle⟩
  case acts =>
    intro d code hharvest hsafe
    let e := d.decisionTaken.safeCut.safeEntered code d.mod.mode
    have hacts : d.safeEntry code = e.safeDropped.safeEnded := by
      rw [d.safeEntry_eq, hharvest, hsafe]
      exact if_neg (by decide)
    have hmode : e.safeDropped.safeEnded.SameMode e := (Dev.safeEnded_sameMode _).trans (Dev.safeDropped_sameMode _)
    have hmod := hmode.1.trans (d.decisionTaken.safeCut.safeEntered_mod code d.mod.mode)
    have hon : (e.safeDropped.safeEnded).get F.WAT_STAT_SAFE = 1 :=
      hmode.2.trans ((Dev.safeEntered_safe _ code d.mod.mode).trans d.decisionTaken.safeCut_on)
    obtain ⟨hpieces, hpasses, hsurf⟩ := e.safeDropped.safeEnded_sameWork
    rw [hacts]
    refine ⟨congrArg Mod.mode hmod, congrArg Mod.transit hmod, congrArg Mod.lostAtSafe hmod, hpieces, hpasses, hsurf, Dev.on_of_get_eq_one hon⟩
  case idle =>
    intro d code h
    rw [d.safeEntry_eq, if_pos (Bool.or_eq_true_iff.mpr h)]
    rfl

end Sys2Proof.Machine
end

section
/-! SUPPORT. The Mill (spec/05): the motor's gates over a PWM period (R155 to R157, R159, R172), which branch of each operation of a start, a
stop and a re-acquisition is taken (R169 to R185, R204), and from them the statements on the PWM period and on the start of the spindle. -/

namespace Sys2Proof.Machine

/-! ### The effect of each command of the Mill, performed by island 0x03 (02 R72) -/

/-- A command of island 0x03 whose meaning runs `f` there has the effect that `f` gives. -/
theorem effect_mill (c : Instr) {f : Dev → Dev} {d : Dev} (hlive : d.live 0x03 = true)
    (h : ∀ s : State, exec c s = s.runIsland 0x03 f := by intro s; unfold exec; rfl) : Effect c d (f d) := effect_island hlive h rfl

theorem effect_pwmPeriod {d : Dev} (p : PwmSample) (hlive : d.live 0x03 = true) : Effect (.pwmPeriod p) d (d.pwmPeriod p) :=
  (effect_mill (.pwmPeriod p) hlive :)

theorem effect_listenEnd {d : Dev} (hlive : d.live 0x03 = true) : Effect .listenEnd d d.listenEnd :=
  (effect_mill .listenEnd hlive :)

theorem effect_brakeDone {d : Dev} (hlive : d.live 0x03 = true) :
    Effect .brakeDone d (if d.milState == milBrake && d.nearRest then d.startSense else d) :=
  (effect_mill .brakeDone hlive :)

theorem effect_retryBrakeEnd {d : Dev} (hlive : d.live 0x03 = true) :
    Effect .retryBrakeEnd d (if d.milState == milRetry then d.startSense else d) :=
  (effect_mill .retryBrakeEnd hlive :)

theorem effect_senseDone {d : Dev} (hlive : d.live 0x03 = true) : Effect .senseDone d d.senseDoneAct :=
  (effect_mill .senseDone hlive :)

theorem effect_alignDone {d : Dev} (hlive : d.live 0x03 = true) :
    Effect .alignDone d (if d.milState == milAlign then d.setMil milOpen else d) :=
  (effect_mill .alignDone hlive :)

theorem effect_handoverMet {d : Dev} (hlive : d.live 0x03 = true) :
    Effect .handoverMet d (if d.milState == milOpen && 800 ≤ d.mil.agree then d.startedRun else d) :=
  (effect_mill .handoverMet hlive :)

theorem effect_handoverTimeout {d : Dev} (hlive : d.live 0x03 = true) :
    Effect .handoverTimeout d
      (if d.milState == milOpen && d.policy 0x1008 400 * 1000 ≤ d.mil.openMilli then d.attemptFailed 1 else d) :=
  (effect_mill .handoverTimeout hlive :)

theorem effect_brakeTimeout {d : Dev} (hlive : d.live 0x03 = true) :
    Effect .brakeTimeout d (if d.milState == milBrake then d.attemptFailed 3 else d) :=
  (effect_mill .brakeTimeout hlive :)

theorem effect_spindleAtRest {d : Dev} (hlive : d.live 0x03 = true) : Effect .spindleAtRest d d.spindleAtRestAct :=
  (effect_mill .spindleAtRest hlive :)

theorem effect_motorSupplyFault {d : Dev} (hlive : d.live 0x03 = true) :
    Effect .motorSupplyFault d
      (if 40 ≤ d.mil.vmRun then (d.setMil milCoast).post 0x1013 [d.get F.MIL_VM_VM, d.mil.vmAtRun] else d) :=
  (effect_mill .motorSupplyFault hlive :)

theorem effect_reacquireTimeout {d : Dev} (hlive : d.live 0x03 = true) :
    Effect .reacquireTimeout d (if d.milState == milLost then d.reacquireFailed 0 else d) :=
  (effect_mill .reacquireTimeout hlive :)

theorem effect_obsFailsClear {d : Dev} (hlive : d.live 0x03 = true) :
    Effect .obsFailsClear d (if d.milState == milRun && d.on F.MIL_STAT_LOCK then d.put F.MIL_OBS_FAILS 0 else d) :=
  (effect_mill .obsFailsClear hlive :)

/-! ### The motor's gates (R155 to R157, R159; 21 R862) -/

/-- Each side of a phase turns on no earlier than the other has turned off. -/
theorem phaseGates_apart (high dead t : Nat) : (phaseGates high dead t).1 = false ∨ (phaseGates high dead t).2 = false := by
  unfold phaseGates
  split
  · exact .inl rfl
  · simp only [Bool.or_eq_false_iff, Bool.and_eq_false_iff, decide_eq_false_iff_not]
    omega

/-- The high and the low side of one phase under a drive. -/
def Drive.phase (dr : Drive) (duty : List Nat) (dead t p : Nat) : Bool × Bool :=
  match dr with
  | .off => (false, false)
  | .brake => (false, true)
  | .vector k => ((vectorHigh k).contains p, !(vectorHigh k).contains p)
  | .duty => phaseGates (at' duty p 0) dead t

theorem Drive.phase_apart (dr : Drive) (duty : List Nat) (dead t p : Nat) :
    (dr.phase duty dead t p).1 = false ∨ (dr.phase duty dead t p).2 = false := by
  cases dr with
  | off | brake => exact .inl rfl
  | vector k => exact (Bool.eq_false_or_eq_true ((vectorHigh k).contains p)).symm.imp_right fun h => by simp only [Drive.phase, h, Bool.not_true]
  | duty => exact phaseGates_apart _ dead t

/-- The six gates are the two sides of each phase in turn. -/
theorem gatesOf_eq (dr : Drive) (duty : List Nat) (dead t : Nat) :
    gatesOf dr duty dead t =
      [(dr.phase duty dead t 0).1, (dr.phase duty dead t 0).2, (dr.phase duty dead t 1).1, (dr.phase duty dead t 1).2,
       (dr.phase duty dead t 2).1, (dr.phase duty dead t 2).2] := by
  cases dr <;> rfl

/-- The gates are all inactive or follow the drive in force. -/
theorem Dev.gateOutputs_cases (d : Dev) (t : Nat) :
    d.gateOutputs t = List.replicate 6 false ∨ d.gateOutputs t = gatesOf d.drive d.mil.duty (d.policy 0x1012 200) t :=
  (em (d.mil.cut && pwmNs / 2 ≤ t)).imp (fun h => if_pos h) (fun h => if_neg h)

/-- A period cut for overcurrent drives nothing in its second half (R159). -/
theorem Dev.gateOutputs_cut {d : Dev} {t : Nat} (hcut : d.mil.cut = true) (hlate : 12500 ≤ t) : d.gateOutputs t = List.replicate 6 false :=
  if_pos (Bool.and_eq_true_iff.mpr ⟨hcut, decide_eq_true hlate⟩)

theorem Dev.gateOutputs_off {d : Dev} (t : Nat) (hdrive : d.drive = .off) : d.gateOutputs t = List.replicate 6 false :=
  (d.gateOutputs_cases t).elim id fun h => by rw [h, hdrive]; rfl

/-- Without the Mill's supply or its clock no gate is driven (R157). -/
theorem Dev.drive_unsupplied {d : Dev} (h : d.powered 2 = false ∨ d.clk.stopped = true) : d.drive = .off :=
  if_pos (by simpa using h)

theorem Dev.drive_idle {d : Dev} (h : d.milState = milStopped ∨ d.milState = milListen ∨ d.milState = milLost ∨ d.milState = milCoast) :
    d.drive = .off := by
  have hdriving : d.milDriving = false := by
    unfold Dev.milDriving
    rcases h with h | h | h | h <;> rw [h] <;> rfl
  have hbraking : [milBrake, milRetry, milStopping].contains d.milState = false := by
    rcases h with h | h | h | h <;> rw [h] <;> rfl
  have hpulse : d.sensePulse = none := by
    unfold Dev.sensePulse
    rcases h with h | h | h | h <;> rw [h] <;> rfl
  unfold Dev.drive
  simp only [hdriving, hbraking, hpulse]
  exact ite_self _

/-- Settles O25 (log entry 131): the two sides of a phase by the drive in force, the idle states by the drive that they name. -/
theorem pwmPeriodMeasuresAndDrives : Obligations.PwmPeriodMeasuresAndDrives := by
  refine ⟨fun _ p => effect_pwmPeriod p, ?apart, ?idle, ?cut⟩
  case apart =>
    intro d t
    rcases d.gateOutputs_cases t with h | h
    · simp [h]
    · rw [h, gatesOf_eq]
      have hphase := d.drive.phase_apart d.mil.duty (d.policy 0x1012 200) t
      exact ⟨by simpa using hphase 0, by simpa using hphase 1, by simpa using hphase 2⟩
  case idle =>
    intro d t h x hx
    have hdrive : d.drive = .off := by
      rcases h with h | h | h
      · exact Dev.drive_unsupplied (.inl h)
      · exact Dev.drive_unsupplied (.inr h)
      · exact Dev.drive_idle h
    exact List.eq_of_mem_replicate (d.gateOutputs_off t hdrive ▸ hx)
  case cut =>
    intro d t hcut hlate x hx
    exact List.eq_of_mem_replicate (Dev.gateOutputs_cut hcut hlate ▸ hx)

/-! ### SENSE's angle (R172, R173) -/

/-- Folding a choice between two values gives the first value or one of the list. -/
theorem foldl_choice {f : Nat → Nat → Nat} (hf : ∀ a b, f a b = a ∨ f a b = b) (l : List Nat) (a : Nat) : l.foldl f a = a ∨ l.foldl f a ∈ l :=
  List.foldlRecOn l f (motive := fun x => x = a ∨ x ∈ l) (.inl rfl) fun x hx y hy =>
    (hf x y).elim (fun h => by rwa [h]) (fun h => .inr (by rwa [h]))

/-- Peaks that all lie within 10 % of one another give the U-phase vector (R173): the largest and the least are two of them. -/
theorem senseAngle_flat {peaks : List Nat} (hflat : ∀ x ∈ peaks, ∀ y ∈ peaks, 0 < x ∧ (x - y) * 10 < x) : senseAngle peaks = 0 := by
  refine if_pos (Bool.or_eq_true_iff.mpr ?_)
  rcases foldl_choice max_choice peaks 0 with hzero | hmem
  · exact .inr (decide_eq_true hzero)
  · refine .inl (decide_eq_true ?_)
    rcases foldl_choice min_choice peaks (peaks.foldl max 0) with hlow | hlow
    · rw [hlow, Nat.sub_self]
      exact (hflat _ hmem _ hmem).1
    · exact (hflat _ hmem _ hlow).2

/-! ### The branches of a start, a stop and a re-acquisition (R169 to R185, R204) -/

/-- Too few crossings to give a speed: the rotor is taken to be at rest, and SENSE follows. -/
theorem Dev.listenEnd_still {d : Dev} (hstate : d.milState = milListen) (hspeed : d.mil.cross.mean16 d.polePairs = 0) :
    d.listenEnd = (((((d.flag F.MIL_STAT_DIR d.mil.cross.reversed).put F.MIL_SPEED_RPM16 0).put F.MIL_SPEED_SRC 0).put F.MIL_START_KIND 0).post
      0x1001 [0, 0, if d.mil.cross.reversed then 1 else 0]).startSense := by
  simp [Dev.listenEnd, hstate, hspeed]

theorem Dev.senseDoneAct_sensed {d : Dev} (hstate : d.milState = milSense) :
    d.senseDoneAct = ({ d with mil := { d.mil with
      openTh := senseAngle d.mil.peaks, openMilli := 0, agree := 0, idRef := (d.iMax : Int) / 2, iqRef := 0 } } : Dev).setMil milAlign :=
  if_pos (beq_of_eq hstate)

/-- A start attempt before the sixth is retried (R174). -/
theorem Dev.attemptFailed_retries {d : Dev} (reason : Nat) (hcount : d.get F.MIL_START_ATTEMPTS < 5) :
    d.attemptFailed reason =
      (let e := ((d.put F.MIL_START_ATTEMPTS (d.get F.MIL_START_ATTEMPTS + 1)).put F.MIL_START_REASON reason).put F.MIL_INT_STAT_START_FAIL 1
      (({ e with mil := { e.mil with ocWindow := 0 } } : Dev).setMil milRetry).post 0x1002 [d.get F.MIL_START_ATTEMPTS + 1, reason]) :=
  if_pos (Nat.succ_lt_succ hcount)

/-- The sixth gives up and coasts (R175). -/
theorem Dev.attemptFailed_coasts {d : Dev} (reason : Nat) (hcount : 5 ≤ d.get F.MIL_START_ATTEMPTS) :
    d.attemptFailed reason =
      (let e := ((d.put F.MIL_START_ATTEMPTS (d.get F.MIL_START_ATTEMPTS + 1)).put F.MIL_START_REASON reason).put F.MIL_INT_STAT_START_FAIL 1
      (({ e with mil := { e.mil with ocWindow := 0 } } : Dev).setMil milCoast).post 0x1003 [reason]) :=
  if_neg (by omega)

theorem Dev.spindleAtRestAct_stops {d : Dev} (hstate : d.milState = milStopping) (hrest : d.nearRest = true) :
    d.spindleAtRestAct = (let e := (d.setMil milStopped).put F.MIL_SPEED_RPM16 0
      e.post 0x1012 [e.mil.stopCause]) :=
  if_pos (by simp [hstate, hrest])

/-- A re-acquisition without lock, the first or second, retracts the heads for a reload and listens again (R182, R183). -/
theorem Dev.reacquireFailed_listens {d : Dev} (hcount : d.get F.MIL_OBS_FAILS < 2) :
    d.reacquireFailed 0 =
      (let e := ((d.put F.MIL_OBS_FAILS (d.get F.MIL_OBS_FAILS + 1)).retractDue 2).unloadAll 5
      let e := ({ e.post 0x1007 [d.get F.MIL_OBS_FAILS + 1, 0] with mil := { e.mil with reload := true } } : Dev).setMil milListen
      { e with mil := { e.mil with startMs := 0 } }) := by
  have hmin : min 3 (d.get F.MIL_OBS_FAILS + 1) = d.get F.MIL_OBS_FAILS + 1 := by omega
  have hreload : decide (d.get F.MIL_OBS_FAILS + 1 < 3) = true := decide_eq_true (by omega)
  unfold Dev.reacquireFailed Dev.retractAll
  dsimp only
  rw [hmin, hreload, if_neg (by omega), if_neg (by decide)]

/-- Settles O24 (log entries 19, 131, 132 and 133): each clause is a branch of the command's operation, or of SENSE's angle. -/
theorem millStartsTheSpindle : Obligations.MillStartsTheSpindle := by
  refine ⟨fun _ => effect_listenEnd, ?still, fun _ => effect_brakeDone, ?braked, ?braking, fun _ => effect_retryBrakeEnd, ?retried,
    fun _ => effect_senseDone, ?sensed, fun _ _ => senseAngle_flat, by decide, fun _ => effect_alignDone, ?aligned,
    fun _ => effect_handoverMet, ?met, ?unmet, fun _ => effect_handoverTimeout, ?handoverLate, fun _ => effect_brakeTimeout, ?brakeLate,
    fun _ => effect_spindleAtRest, ?stopped, fun _ => effect_motorSupplyFault, ?outOfRange, ?inRange, fun _ => effect_reacquireTimeout,
    ?listensAgain, fun _ => effect_obsFailsClear, ?cleared⟩
  case still =>
    intro d hstate hspeed hlive
    exact (effect_listenEnd hlive).of_eq (Dev.listenEnd_still hstate hspeed)
  case braked =>
    intro d hstate hslow hlive
    exact (effect_brakeDone hlive).of_eq (if_pos (by simp [hstate, Dev.nearRest, hslow]))
  case braking =>
    intro d hstate hfast hlive
    exact (effect_brakeDone hlive).of_eq (if_neg (by simp [Dev.nearRest, hfast]))
  case retried =>
    intro d hstate hlive
    exact (effect_retryBrakeEnd hlive).of_eq (if_pos (beq_of_eq hstate))
  case sensed =>
    intro d hstate hlive
    exact (effect_senseDone hlive).of_eq (Dev.senseDoneAct_sensed hstate)
  case aligned =>
    intro d hstate hlive
    exact (effect_alignDone hlive).of_eq (if_pos (beq_of_eq hstate))
  case met =>
    intro d hstate hagree hlive
    exact (effect_handoverMet hlive).of_eq (if_pos (by simp [hstate, hagree]))
  case unmet =>
    intro d _ hagree hlive
    exact (effect_handoverMet hlive).of_eq (if_neg (by simp [hagree]))
  case handoverLate =>
    intro d hstate hspeed hcount hlive
    exact (effect_handoverTimeout hlive).of_eq ((if_pos (by simp [hstate, hspeed])).trans (Dev.attemptFailed_retries 1 hcount))
  case brakeLate =>
    intro d hstate hcount hlive
    exact (effect_brakeTimeout hlive).of_eq ((if_pos (beq_of_eq hstate)).trans (Dev.attemptFailed_coasts 3 hcount))
  case stopped =>
    intro d hstate hrest hlive
    exact (effect_spindleAtRest hlive).of_eq (Dev.spindleAtRestAct_stops hstate hrest)
  case outOfRange =>
    intro d hrun hlive
    exact (effect_motorSupplyFault hlive).of_eq (if_pos hrun)
  case inRange =>
    intro d hrun hlive
    exact (effect_motorSupplyFault hlive).of_eq (if_neg (Nat.not_le.mpr hrun))
  case listensAgain =>
    intro d hstate hcount hlive
    exact (effect_reacquireTimeout hlive).of_eq ((if_pos (beq_of_eq hstate)).trans (Dev.reacquireFailed_listens hcount))
  case cleared =>
    intro d hstate hlock hlive
    exact (effect_obsFailsClear hlive).of_eq (if_pos (by simp [hstate, hlock]))

end Sys2Proof.Machine
end

section
/-! SUPPORT. The Miller (spec/05 R189 to R203): which branch of each operation of the demand estimate, of a ramp and of the gas gauge is taken,
and from them the statement on the changes of speed. -/

namespace Sys2Proof.Machine

/-! ### The effect of each command of the Miller, performed by island 0x03 (02 R72) -/

theorem effect_millerSecond {d : Dev} (hlive : d.live 0x03 = true) : Effect .millerSecond d d.millerSecond :=
  (effect_mill .millerSecond hlive :)

theorem effect_rampStart {d : Dev} (hlive : d.live 0x03 = true) : Effect .rampStart d d.rampStart := (effect_mill .rampStart hlive :)

theorem effect_rampTargetReached {d : Dev} (hlive : d.live 0x03 = true) : Effect .rampTargetReached d d.rampReached :=
  (effect_mill .rampTargetReached hlive :)

theorem effect_rampSettled {d : Dev} (hlive : d.live 0x03 = true) : Effect .rampSettled d d.rampSettled :=
  (effect_mill .rampSettled hlive :)

theorem effect_gasSample {d : Dev} (hlive : d.live 0x03 = true) : Effect .gasSample d d.gasSample := (effect_mill .gasSample hlive :)

/-! ### The demand (R189 to R191) -/

theorem Dev.miller_put_ne (d : Dev) {f : Field} (v : Nat) (h : f.key ≠ F.MIL_STAT_MILLER.key) : (d.put f v).miller = d.miller :=
  d.get_put_other v h

/-- The demand estimate an eighth of the way to the mean of the second's busy fractions. -/
def Dev.demandMoved (d : Dev) : Nat :=
  let live := (List.range 4).filter (fun n => d.actuatorFitted n && !d.actuatorFenced n)
  let sum := live.foldl (fun a n => a + at' d.mil.busyMs n 0) 0
  let mean := sum * 65536 / (max 1 live.length * max 1 d.mil.secMs)
  if d.mil.demand ≤ mean then d.mil.demand + (mean - d.mil.demand) / 8 else d.mil.demand - (d.mil.demand - mean) / 8

/-- The device with that estimate in force, the next second begun, and the estimate shown. -/
def Dev.demandShown (d : Dev) : Dev :=
  ({ d with mil := { d.mil with demand := d.demandMoved, secMs := 0, busyMs := [0, 0, 0, 0] } } : Dev).put F.MIL_DEMAND_E (d.demandMoved / 64)

theorem Dev.demandShown_computeNeed (d : Dev) :
    d.demandShown.computeNeed = d.demandShown.put F.MIL_DEMAND_NEED (min 8191 (neededRpm (d.get F.MIL_TARGET_TARGET) d.demandMoved)) := by
  have htarget : d.demandShown.get F.MIL_TARGET_TARGET = d.get F.MIL_TARGET_TARGET := Dev.get_put_other _ _ (by decide)
  rw [Dev.computeNeed, htarget]
  rfl

/-- The device at the end of the second, before a new target is chosen. -/
def Dev.secondShown (d : Dev) : Dev := d.demandShown.computeNeed.subI F.MIL_RAMP_HOLD_LEFT 0 1

theorem Dev.secondShown_miller (d : Dev) : d.secondShown.miller = d.miller :=
  calc d.secondShown.miller
    _ = d.demandShown.computeNeed.miller := Dev.miller_put_ne _ _ (by decide)
    _ = d.demandShown.miller := Dev.miller_put_ne _ _ (by decide)
    _ = d.miller := Dev.miller_put_ne _ _ (by decide)

/-- Outside STEADY no new target is chosen. -/
theorem Dev.millerSecond_ramping {d : Dev} (hmode : d.mod.mode = .serve) (hmiller : d.miller ≠ 0) : d.millerSecond = d.secondShown :=
  let e := d.secondShown
  calc d.millerSecond
    _ = if e.miller = 0 && e.milState == milRun && e.get F.MIL_RAMP_HOLD_LEFT = 0 && !e.fuaStreamOpen
          && 300 ≤ gap e.candidate (e.get F.MIL_TARGET_TARGET) then e.newTarget e.candidate 0
        else e := if_neg (by simp [hmode])
    _ = e := if_neg (by simp [e, d.secondShown_miller, hmiller])

/-! ### A ramp (R194, R195) -/

theorem Dev.rampStart_starts {d : Dev} (hmiller : d.miller = 1) (hwriting : d.anyWriting = false) :
    d.rampStart =
      (let e := ((d.put F.MIL_STAT_MILLER 2).put F.MIL_INT_STAT_RAMP 1).inc F.MIL_RAMP_COUNT
      let e : Dev := { e with mil := { e.mil with
        rampMs := 0, fromPending := true, atAccel := d.mod.mode == Mode.spin, setMilli := e.get F.MIL_TARGET_SETPOINT * 1000 } }
      e.post 0x100A [e.get F.MIL_TARGET_SETPOINT, e.get F.MIL_TARGET_TARGET, e.mil.rampCause]) :=
  if_neg (by simp [hmiller, hwriting])

/-- After the first target of SPIN, the target reached only enters SETTLE. -/
theorem Dev.rampReached_settles {d : Dev} (hmiller : d.miller = 2) (hstate : d.milState = milRun) (hspin : d.mil.spinning = false)
    (hreached : d.mil.setMilli = d.get F.MIL_TARGET_TARGET * 1000) : d.rampReached = d.put F.MIL_STAT_MILLER 3 :=
  (if_neg (by simp [hmiller, hstate, hreached])).trans (if_neg (by simp [hspin]))

/-- The device in STEADY, its write hold released and RAMP_HOLD begun. -/
def Dev.steadyEntered (d : Dev) : Dev :=
  { (((d.put F.MIL_STAT_MILLER 0).put F.MIL_STAT_WRITE_HOLD 0).put F.MIL_RAMP_HOLD_LEFT (d.policy 0x100C 30)).put F.MIL_INT_STAT_SETTLED 1 with
    mil := { d.mil with steadyMs := 0, fromPending := false, atAccel := false, retracted := false } }

theorem Dev.steadyEntered_get (d : Dev) {f : Field} (hmiller : F.MIL_STAT_MILLER.key ≠ f.key) (hhold : F.MIL_STAT_WRITE_HOLD.key ≠ f.key)
    (hleft : F.MIL_RAMP_HOLD_LEFT.key ≠ f.key) (hsettled : F.MIL_INT_STAT_SETTLED.key ≠ f.key) : d.steadyEntered.get f = d.get f :=
  calc d.steadyEntered.get f
    _ = ((((d.put F.MIL_STAT_MILLER 0).put F.MIL_STAT_WRITE_HOLD 0).put F.MIL_RAMP_HOLD_LEFT (d.policy 0x100C 30)).put
          F.MIL_INT_STAT_SETTLED 1).get f := rfl
    _ = d.get f := by
      rw [Dev.get_put_other _ _ hsettled, Dev.get_put_other _ _ hleft, Dev.get_put_other _ _ hhold, Dev.get_put_other _ _ hmiller]

/-- With the Mill's inhibit not held there is nothing to release. -/
theorem Dev.rampSettled_free {d : Dev} (hmiller : d.miller = 3) (hinhibit : d.on F.MIL_STAT_INHIBIT = false) :
    d.rampSettled =
      (let e := (d.steadyEntered.post 0x100B [d.get F.MIL_TARGET_TARGET, d.mil.rampMs]).reloadHeads
      ({ e with thm := { e.thm with forced := false } } : Dev).riskCheck) := by
  have hfree : d.steadyEntered.on F.MIL_STAT_INHIBIT = false := by
    have hget := d.steadyEntered_get (f := F.MIL_STAT_INHIBIT) (by decide) (by decide) (by decide) (by decide)
    exact (congrArg (· != 0) hget).trans hinhibit
  have htarget : d.steadyEntered.get F.MIL_TARGET_TARGET = d.get F.MIL_TARGET_TARGET :=
    d.steadyEntered_get (by decide) (by decide) (by decide) (by decide)
  have hsteady : d.rampSettled =
      (let e := if d.steadyEntered.on F.MIL_STAT_INHIBIT then (d.steadyEntered.put F.MIL_STAT_INHIBIT 0).killRelease 7 else d.steadyEntered
      let e := (e.post 0x100B [e.get F.MIL_TARGET_TARGET, d.mil.rampMs]).reloadHeads
      ({ e with thm := { e.thm with forced := false } } : Dev).riskCheck) := by
    unfold Dev.rampSettled Dev.steadyEntered
    rw [if_neg (show ¬(d.miller != 3) = true by simp [hmiller])]
    rfl
  rw [hsteady, hfree, ← htarget]
  rfl

/-! ### The gas gauge (R198 to R200) -/

theorem Dev.gasSample_lacking {d : Dev} (hdue : d.gasDue = false) : d.gasSample = d.gasSecond := if_pos (by simp [hdue])

/-- The first sample of a boot is reported as it is; outside SERVE it takes no baseline. -/
theorem Dev.gasSample_first {d : Dev} (hdue : d.gasDue = true) (hfirst : d.mil.gasSamples = 0) (hmode : d.mod.mode ≠ .serve) :
    d.gasSample =
      (let t := gasTorque (d.policy 0x1002 0) (d.mil.gasIq / d.mil.gasN)
      let rs := gasDensity t (d.policy 0x100E 0) (toSigned 32 (d.policy 0x100F 0)) (d.policy 0x1010 0) d.rpm (toSigned 16 (d.get F.THM_ENC_TEMP))
      let e : Dev := { d with mil := { d.mil with gasSamples := 1, gasFine := rs * 65536 } }
      ((e.put F.MIL_GAS_DENSITY (min 65535 rs.toNat)).put F.MIL_TORQUE_DRAG (min 65535 t.toNat)).judgeGas.gasSecond) := by
  have hserve : (d.mod.mode == .serve) = false := beq_false_of_ne hmode
  simp [Dev.gasSample, hdue, hfirst, hserve]

/-- Settles O26 (log entries 134 and 135): each clause is a branch of the command's operation. -/
theorem millerChangesTheSpeed : Obligations.MillerChangesTheSpeed := by
  refine ⟨fun _ => effect_millerSecond, ?second, fun _ => effect_rampStart, ?starts, fun _ => effect_rampTargetReached, ?reached,
    fun _ => effect_rampSettled, ?settled, fun _ => effect_gasSample, ?lacking, ?first⟩
  case second =>
    intro d hmode hmiller hlive
    refine (effect_millerSecond hlive).of_eq ((Dev.millerSecond_ramping hmode hmiller).trans ?_)
    rw [Dev.secondShown, d.demandShown_computeNeed]
    rfl
  case starts =>
    intro d hmiller hwriting hlive
    exact (effect_rampStart hlive).of_eq (Dev.rampStart_starts hmiller hwriting)
  case reached =>
    intro d hmiller hstate hspin hreached hlive
    exact (effect_rampTargetReached hlive).of_eq (Dev.rampReached_settles hmiller hstate hspin hreached)
  case settled =>
    intro d hmiller hinhibit hlive
    exact (effect_rampSettled hlive).of_eq (Dev.rampSettled_free hmiller hinhibit)
  case lacking =>
    intro d hdue hlive
    exact (effect_gasSample hlive).of_eq (Dev.gasSample_lacking hdue)
  case first =>
    intro d hdue hfirst hmode hlive
    exact (effect_gasSample hlive).of_eq (Dev.gasSample_first hdue hfirst hmode)

end Sys2Proof.Machine
end

section
/-! SUPPORT. The Shepherds' loads, parks and retries (spec/06 R221, R225, R238, R240, R253): which branch of each operation is taken, and from
them the statement on loading and parking. -/

namespace Sys2Proof.Machine

/-! ### The effect of each command of a Shepherd, performed by island 0x04 (02 R72) -/

/-- A command of island 0x04 whose meaning runs `f` there has the effect that `f` gives. -/
theorem effect_shepherd (c : Instr) {f : Dev → Dev} {d : Dev} (hlive : d.live 0x04 = true)
    (h : ∀ s : State, exec c s = s.runIsland 0x04 f := by intro s; unfold exec; rfl) : Effect c d (f d) := effect_island hlive h rfl

theorem effect_loadRequest {d : Dev} (n : Fin 4) (hlive : d.live 0x04 = true) : Effect (.loadRequest n) d (d.loadRequest n.val) :=
  (effect_shepherd (.loadRequest n) hlive :)

theorem effect_headsOffRamp {d : Dev} (n : Fin 4) (hlive : d.live 0x04 = true) : Effect (.headsOffRamp n) d (d.headsOffRamp n.val) :=
  (effect_shepherd (.headsOffRamp n) hlive :)

theorem effect_acquireTimeout {d : Dev} (n : Fin 4) (hlive : d.live 0x04 = true) : Effect (.acquireTimeout n) d (d.acquireTimeout n.val) :=
  (effect_shepherd (.acquireTimeout n) hlive :)

theorem effect_lostTimeout {d : Dev} (n : Fin 4) (hlive : d.live 0x04 = true) : Effect (.lostTimeout n) d (d.lostTimeout n.val) :=
  (effect_shepherd (.lostTimeout n) hlive :)

theorem effect_seekTimeout {d : Dev} (n : Fin 4) (hlive : d.live 0x04 = true) : Effect (.seekTimeout n) d (d.seekTimeout n.val) :=
  (effect_shepherd (.seekTimeout n) hlive :)

theorem effect_headOnRamp {d : Dev} (n : Fin 4) (hlive : d.live 0x04 = true) : Effect (.headOnRamp n) d (d.headOnRamp n.val) :=
  (effect_shepherd (.headOnRamp n) hlive :)

theorem effect_hardwareParkDone {d : Dev} (n : Fin 4) (hlive : d.live 0x04 = true) :
    Effect (.hardwareParkDone n) d (d.hardwareParkDone n.val) :=
  (effect_shepherd (.hardwareParkDone n) hlive :)

theorem effect_retractTimeout {d : Dev} (n : Fin 4) (hlive : d.live 0x04 = true) : Effect (.retractTimeout n) d (d.retractTimeout n.val) :=
  (effect_shepherd (.retractTimeout n) hlive :)

theorem effect_shpFenceWrite {d : Dev} (n : Fin 4) (hpower : d.powered 2 = true) (hstop : d.clk.stopped = false) :
    Effect (.shpFenceWrite n) d (d.fenceActuator n.val) :=
  effect_write (f := fun d => d.fenceActuator n.val) hpower hstop (fun _ => rfl) rfl

theorem effect_shpFenceWrite_dropped {d : Dev} (n : Fin 4) (hpower : d.powered 2 = false) (hstop : d.clk.stopped = false) :
    Effect (.shpFenceWrite n) d (d.inc F.CLK_PD_DROPWR_COUNT) :=
  effect_dropped (f := fun d => d.fenceActuator n.val) hpower hstop (fun _ => rfl) rfl

/-! ### Loading (R221, R238) -/

/-- Nothing refuses or holds back a load of actuator `n` (R221, R238, R253). -/
structure Dev.ReadyToLoad (d : Dev) (n : Nat) : Prop where
  powered : d.powered 2 = true
  fitted : d.actuatorFitted n = true
  unfenced : (d.shp n).fenced = false
  notSafe : d.on F.WAT_STAT_SAFE = false
  parked : d.shpState n = shpParked
  notReloading : (d.shp n).uc.reloading = false
  noHardwarePark : (d.shp n).hwPark = false
  run : d.milState = milRun
  steady : d.miller = 0
  tempRead : (d.shp n).tempRead = true

/-- Each refusal and each wait of a load request is passed by. -/
theorem Dev.ReadyToLoad.loadRequest {d : Dev} {n : Nat} (h : d.ReadyToLoad n) :
    d.loadRequest n =
      (d.setShp n (fun s => { s with
        loadWait := false, reload := false, acqMs := 0, lastWedge := none, samRun := 0, validRun := 0, loadVel := 0,
        retractDue := none })).putI F.SHP_STAT_STATE n shpLoading := by
  unfold Dev.loadRequest
  rw [if_neg (by simp [h.powered, h.fitted, h.unfenced, h.notSafe]), if_neg (by rw [h.parked]; decide),
    if_neg (by simp [h.parked, h.notReloading, h.noHardwarePark, h.run]), if_neg (by simp [h.steady, h.tempRead])]

/-! ### The timeouts (R221, R225) -/

/-- An acquisition failure before the third unloads for another load. -/
theorem Dev.acquisitionFailed_reloads {d : Dev} {n : Nat} (hcount : d.getI F.SHP_STAT_ACQ_FAILS n < 2) :
    d.acquisitionFailed n =
      (((d.putI F.SHP_STAT_ACQ_FAILS n (d.getI F.SHP_STAT_ACQ_FAILS n + 1)).enterUnloading n 3).post 0x1102
        [n, d.getI F.SHP_STAT_ACQ_FAILS n + 1]).setShp n (fun s => { s with reload := true }) := by
  have hmin : min 3 (d.getI F.SHP_STAT_ACQ_FAILS n + 1) = d.getI F.SHP_STAT_ACQ_FAILS n + 1 := by omega
  unfold Dev.acquisitionFailed
  dsimp only
  rw [hmin, if_pos hcount]

/-- The first timeout of a seek starts it again. -/
theorem Dev.seekTimeout_again {d e : Dev} {n : Nat}
    (he : e = d.post 0x110A [n, d.getI F.SHP_SEEK_DIST_DIST n, (d.shp n).seekCycles / 800])
    (hstate : d.shpState n = shpSeek ∨ d.shpState n = shpSettle) (hfirst : (e.shp n).seekTries = 0) :
    d.seekTimeout n =
      ((e.putI F.SHP_STAT_STATE n shpSeek).setShp n (fun s => { s with seekTries := 1, seekCycles := 0 })).each [0, 1]
        (fun x k => x.setCh n k (fun c => { c with settleRun := 0 })) := by
  subst he
  have hseeking : ¬(d.shpState n != shpSeek && d.shpState n != shpSettle) = true := by
    rcases hstate with h | h <;> rw [h] <;> decide
  exact (if_neg hseeking).trans (if_pos hfirst)

/-! ### Parking (R221, R240) -/

/-- The heads of actuator `n` are on the ramp: PARKED, or FENCED where it is fenced, with event 0x110D. -/
def Dev.headsParked (d : Dev) (n : Nat) : Dev :=
  ((((d.putI F.SHP_STAT_STATE n (if (d.shp n).fenced then shpFenced else shpParked)).putI F.SHP_INT_STAT_PARKED n 1).setShp n
    (fun s => { s with hwPark := false, parkOut := false, iRef := 0, retractDue := none, fenceDue := false })).post 0x110D
    [n, (d.shp n).parkMs, (d.shp n).parkCause]).offTrack n

theorem Dev.parkedNow_stays {d : Dev} {n : Nat} (hreload : (d.shp n).reload = false) : d.parkedNow n = d.headsParked n :=
  if_neg (by simp [hreload])

theorem Dev.headOnRamp_parks {d : Dev} {n : Nat} (hstate : d.shpState n = shpUnloading) (hreload : (d.shp n).reload = false) :
    d.headOnRamp n = d.headsParked n :=
  (if_pos hstate).trans (Dev.parkedNow_stays hreload)

theorem Dev.hardwareParkDone_parks {d : Dev} {n : Nat} (hstate : d.shpState n = shpUnloading) (hreload : (d.shp n).reload = false)
    (hpark : (d.shp n).hwPark = true) : d.hardwareParkDone n = d.headsParked n :=
  ((if_neg (by simp [hpark])).trans (if_pos hstate)).trans (Dev.parkedNow_stays hreload)

/-- A park not complete in time is taken over by the retract. -/
theorem Dev.retractTimeout_retracts {d : Dev} {n : Nat} (hstate : d.shpState n = shpUnloading)
    (hdue : (d.shp n).retractDue.isSome = true) :
    d.retractTimeout n =
      (let e := (d.putI F.SHP_STAT_STATE n shpRetracted).setShp n (fun s => { s with retracted := true, hwPark := false, retractDue := none })
      (e.assertRetractN.post 0x110E [n, (e.shp n).retractState]).offTrack n) := by
  have hrunning : (d.shp n).retractDue.isNone = false := by simpa using hdue
  exact if_neg (by simp [hstate, hrunning])

/-- Settles O27 (log entries 35 and 138): each clause is a branch of the command's operation. -/
theorem shepherdLoadsAndParks : Obligations.ShepherdLoadsAndParks := by
  refine ⟨fun _ n => effect_loadRequest n, ?loads, fun _ n => effect_headsOffRamp n, ?acquires, fun _ hturns => if_neg hturns,
    fun _ n => effect_acquireTimeout n, ?unacquired, fun _ n => effect_lostTimeout n, ?stillLost, fun _ n => effect_seekTimeout n, ?seeksAgain,
    fun _ n => effect_headOnRamp n, ?parks, fun _ n => effect_hardwareParkDone n, ?parksByHardware, fun _ n => effect_retractTimeout n,
    ?retracts, fun _ n => effect_shpFenceWrite n, fun _ n => effect_shpFenceWrite_dropped n⟩
  case loads =>
    intro d n hpower hfitted hfence hsafe hstate hreloading hpark hrun hsteady htemp hlive
    have hready : d.ReadyToLoad n.val := ⟨hpower, hfitted, hfence, hsafe, hstate, hreloading, hpark, hrun, hsteady, htemp⟩
    exact (effect_loadRequest n hlive).of_eq hready.loadRequest
  case acquires =>
    intro d n hstate hlive
    exact (effect_headsOffRamp n hlive).of_eq (if_neg (by simp [hstate]))
  case unacquired =>
    intro d n hstate hcount hlive
    exact (effect_acquireTimeout n hlive).of_eq ((if_pos hstate).trans (Dev.acquisitionFailed_reloads hcount))
  case stillLost =>
    intro d n hstate hcount hlive
    exact (effect_lostTimeout n hlive).of_eq ((if_pos hstate).trans (Dev.acquisitionFailed_reloads hcount))
  case seeksAgain =>
    intro d n e he hstate hfirst hlive
    exact (effect_seekTimeout n hlive).of_eq (Dev.seekTimeout_again he hstate hfirst)
  case parks =>
    intro d n hstate hreload hlive
    exact (effect_headOnRamp n hlive).of_eq (Dev.headOnRamp_parks hstate hreload)
  case parksByHardware =>
    intro d n hstate hreload hpark hlive
    exact (effect_hardwareParkDone n hlive).of_eq (Dev.hardwareParkDone_parks hstate hreload hpark)
  case retracts =>
    intro d n hstate hdue hlive
    exact (effect_retractTimeout n hlive).of_eq (Dev.retractTimeout_retracts hstate hdue)

end Sys2Proof.Machine
end

section
/-! SUPPORT. The wedges (spec/06 R213 to R221) and the preamp serial port (R229 to R231, R244 to R253) of a Shepherd: what a position and its
error read after a wedge, the bits of a frame, which branch of each operation is taken, and from them the statement on both. -/

namespace Sys2Proof.Machine

/-! ### The effect of each command -/

theorem effect_wedge {d : Dev} (n : Fin 4) (w : WedgeSample) (hlive : d.live 0x04 = true) : Effect (.wedge n w) d (d.wedge n.val w) :=
  (effect_shepherd (.wedge n w) hlive :)

theorem effect_missedWedge {d : Dev} (n : Fin 4) (rot : BitVec 12) (hlive : d.live 0x04 = true) :
    Effect (.missedWedge n rot) d (d.missedWedge n.val rot) :=
  (effect_shepherd (.missedWedge n rot) hlive :)

theorem effect_preampTempRead {d : Dev} (n : Fin 4) (hlive : d.live 0x04 = true) : Effect (.preampTempRead n) d (d.tempDue n.val) :=
  (effect_shepherd (.preampTempRead n) hlive :)

theorem effect_preampFrameDone {d : Dev} (n : Fin 4) (answer : BitVec 17) (hlive : d.live 0x04 = true) :
    Effect (.preampFrameDone n answer) d (d.frameDone n.val answer) :=
  (effect_shepherd (.preampFrameDone n answer) hlive :)

theorem effect_paCmdGo {d : Dev} (n : Fin 4) (v : BitVec 24) (hpower : d.powered 2 = true) (hstop : d.clk.stopped = false) :
    Effect (.paCmdGo n v) d (d.paGo n.val v.toNat) :=
  effect_write (f := fun d => d.paGo n.val v.toNat) hpower hstop (fun _ => rfl) rfl

theorem effect_preampFault {d : Dev} (n : Fin 4) (hlive : d.live 0x04 = true) : Effect (.preampFault n) d (d.preampFault n.val) :=
  (effect_shepherd (.preampFault n) hlive :)

theorem effect_preampFaultClear {d : Dev} (n : Fin 4) (hlive : d.live 0x04 = true) :
    Effect (.preampFaultClear n) d (d.preampFaultClear n.val) :=
  (effect_shepherd (.preampFaultClear n) hlive :)

/-! ### Two's complement within its width (00 R5) -/

theorem ofSigned_lt (w : Nat) (z : Int) : ofSigned w z < 2 ^ w := by
  have hpos : (0 : Int) < (2 ^ w : Nat) := by exact_mod_cast Nat.two_pow_pos w
  exact (Int.toNat_lt (Int.emod_nonneg z hpos.ne')).mpr (Int.emod_lt_of_pos z hpos)

theorem toSigned_ofSigned {w : Nat} {z : Int} (hw : w ≠ 0) (hlow : -(2 ^ (w - 1) : Nat) ≤ z) (hhigh : z < (2 ^ (w - 1) : Nat)) :
    toSigned w (ofSigned w z) = z := by
  obtain ⟨m, rfl⟩ := Nat.exists_eq_succ_of_ne_zero hw
  have hdouble : 2 ^ (m + 1) = 2 * 2 ^ m := Nat.pow_succ'
  have hmod : ofSigned (m + 1) z % 2 ^ (m + 1) = ofSigned (m + 1) z := Nat.mod_eq_of_lt (ofSigned_lt _ _)
  unfold toSigned
  rw [hmod]
  unfold ofSigned
  simp only [Nat.succ_eq_add_one, Nat.add_sub_cancel] at hlow hhigh ⊢
  rw [hdouble]
  generalize 2 ^ m = p at hlow hhigh ⊢
  rcases lt_or_ge z 0 with hneg | hnonneg
  · have hwrap : z % (2 * p : Nat) = z + (2 * p : Nat) := by
      rw [← Int.add_emod_right, Int.emod_eq_of_lt (by omega) (by omega)]
    rw [hwrap, if_neg (by omega)]
    omega
  · rw [Int.emod_eq_of_lt hnonneg (by omega), if_pos (by omega)]
    omega

theorem clampSigned_range {w : Nat} (z : Int) : -(2 ^ (w - 1) : Nat) ≤ clampSigned w z ∧ clampSigned w z < (2 ^ (w - 1) : Nat) := by
  have hpos : 0 < 2 ^ (w - 1) := Nat.two_pow_pos _
  unfold clampSigned clampInt
  generalize 2 ^ (w - 1) = p at hpos ⊢
  split_ifs <;> omega

/-! ### A position and its error (R214 to R216) -/

theorem Dev.posn_setPosn (d : Dev) (n k : Nat) (p : Int) : (d.setPosn n k p).posn n k = ofSigned 32 p := by
  have hlt : ofSigned 32 p < 2 ^ 32 := ofSigned_lt 32 p
  have htrack : (d.setPosn n k p).getI F.SHP_POS_TRACK (2 * n + k) = ofSigned 32 p / 256 % 2 ^ 24 :=
    (Dev.putI_ne _ _ _ (by decide)).trans (Dev.getI_putI_self _ _ _ _)
  have hfrac : (d.setPosn n k p).getI F.SHP_POS_FRAC (2 * n + k) = ofSigned 32 p % 256 % 2 ^ 8 := Dev.getI_putI_self _ _ _ _
  unfold Dev.posn
  rw [htrack, hfrac]
  omega

theorem Dev.posn_setPes (d : Dev) (n k : Nat) (v : Int) : (d.setPes n k v).posn n k = d.posn n k := by
  unfold Dev.setPes Dev.posn
  split <;> rw [Dev.putI_ne _ _ _ (by decide), Dev.putI_ne _ _ _ (by decide)]

theorem Dev.pes_setPes (d : Dev) (n k : Nat) {v : Int} (hlow : -(2 ^ 15 : Nat) ≤ v) (hhigh : v < (2 ^ 15 : Nat)) :
    (d.setPes n k v).pes n k = v := by
  have hmod : ofSigned 16 v % 2 ^ 16 = ofSigned 16 v := Nat.mod_eq_of_lt (ofSigned_lt 16 v)
  have hback : toSigned 16 (ofSigned 16 v) = v := toSigned_ofSigned (by decide) hlow hhigh
  unfold Dev.setPes Dev.pes
  split <;> rw [Dev.getI_putI_self] <;> exact (congrArg _ hmod).trans hback

/-- The device once a wedge's RRO field is checked: event 0x1104 where its parity fails. -/
def Dev.rroChecked (d : Dev) (n k : Nat) (w : WedgeHead) : Dev :=
  if (rroCorrection w.rro).2 then d else d.post 0x1104 [n, d.headNum n k, d.getI F.SHP_WEDGE_WEDGE n]

theorem Dev.fresh_getI (d : Dev) (f : Field) (i : Nat) : d.fresh.2.getI f i = d.getI f i := rfl

/-- Demodulating takes no more than a free value beside that check. -/
theorem Dev.demodulate_snd (d : Dev) (n k : Nat) (w : WedgeHead) :
    (d.demodulate n k w).2 = d.rroChecked n k w ∨ (d.demodulate n k w).2 = (d.rroChecked n k w).fresh.2 := by
  unfold Dev.demodulate
  dsimp only
  split
  · exact .inl rfl
  · exact .inr rfl

theorem Dev.rroChecked_getI (d : Dev) (n k : Nat) (w : WedgeHead) {f : Field} (i : Nat) (h0 : F.WAT_DROP_COUNT.key ≠ f.key)
    (h1 : F.WAT_INT_STAT_DROP.key ≠ f.key) (h2 : F.WAT_STAT_PULSE.key ≠ f.key) : (d.rroChecked n k w).getI f i = d.getI f i := by
  unfold Dev.rroChecked
  split
  · rfl
  · exact d.post_getI _ _ i h0 h1 h2

/-- Demodulating leaves the registers that no event counts. -/
theorem Dev.demodulate_getI (d : Dev) (n k : Nat) (w : WedgeHead) {f : Field} (i : Nat) (h0 : F.WAT_DROP_COUNT.key ≠ f.key)
    (h1 : F.WAT_INT_STAT_DROP.key ≠ f.key) (h2 : F.WAT_STAT_PULSE.key ≠ f.key) : (d.demodulate n k w).2.getI f i = d.getI f i := by
  have hchecked := d.rroChecked_getI n k w i h0 h1 h2
  rcases d.demodulate_snd n k w with h | h
  · rw [h, hchecked]
  · rw [h, Dev.fresh_getI, hchecked]

theorem Dev.demodulate_cfg (d : Dev) (n k : Nat) (w : WedgeHead) : (d.demodulate n k w).2.cfg = d.cfg := by
  have hchecked : (d.rroChecked n k w).cfg = d.cfg := by
    unfold Dev.rroChecked
    split
    · rfl
    · exact d.post_cfg _ _
  rcases d.demodulate_snd n k w with h | h
  · rw [h, hchecked]
  · rw [h, Dev.fresh_cfg, hchecked]

theorem Dev.targetAt_demodulate (d : Dev) (n k : Nat) (w : WedgeHead) : (d.demodulate n k w).2.targetAt n k = d.targetAt n k := by
  have htracks : (d.demodulate n k w).2.tracks = d.tracks :=
    congrArg (fun c : Cfg => leAt (sectionBytes c.sections 0x10 0) 12 4) (d.demodulate_cfg n k w)
  unfold Dev.targetAt Dev.signedTrack Dev.target
  rw [htracks, d.demodulate_getI n k w _ (by decide) (by decide) (by decide),
    d.demodulate_getI n k w _ (by decide) (by decide) (by decide)]

/-- A valid wedge leaves the position decoded and the error of its target. -/
theorem Dev.wedgeChannel_valid {d : Dev} {n k : Nat} {w : WedgeHead}
    (hnear : trackAstray (d.shpCh n k) (d.signedTrack (grayDecode 24 w.gray * 256)) = false) :
    (d.wedgeChannel n k w false).posn n k = ofSigned 32 (d.demodulate n k w).1 ∧
    (d.wedgeChannel n k w false).pes n k = clampSigned 16 (d.targetAt n k - (d.demodulate n k w).1) := by
  let p := (d.demodulate n k w).1
  let e := (d.demodulate n k w).2
  let g := (e.setPosn n k p).setPes n k (pesOf (e.targetAt n k) p)
  have hregs : (d.wedgeChannel n k w false).regs = g.regs := by
    unfold Dev.wedgeChannel
    rw [if_neg (by simp [hnear])]
    rfl
  have hposn : (d.wedgeChannel n k w false).posn n k = g.posn n k := by
    unfold Dev.posn Dev.getI
    rw [hregs]
  have hpes : (d.wedgeChannel n k w false).pes n k = g.pes n k := by
    unfold Dev.pes Dev.getI
    rw [hregs]
  have htarget : pesOf (e.targetAt n k) p = clampSigned 16 (d.targetAt n k - p) := by
    rw [d.targetAt_demodulate n k w]
    rfl
  constructor
  · rw [hposn, Dev.posn_setPes, Dev.posn_setPosn]
  · obtain ⟨hlow, hhigh⟩ := clampSigned_range (w := 16) (e.targetAt n k - p)
    exact hpes.trans ((Dev.pes_setPes _ n k hlow hhigh).trans htarget)

/-- The fraction of the A and B bursts, where their difference is the smaller (R214). -/
theorem burstFraction_first {kn kq a b c e : Nat} (hab : a + b ≠ 0) (hce : c + e ≠ 0)
    (hle : ((a : Int) - b).natAbs * (c + e) ≤ ((c : Int) - e).natAbs * (a + b)) :
    burstFraction kn kq a b c e = some (roundAway ((kn : Int) * ((a : Int) - b)) (a + b : Nat)) :=
  (if_neg (not_or.mpr ⟨hab, hce⟩)).trans (if_pos hle)

/-! ### A wedge found or missed (R213, R220) -/

theorem Dev.servoLive_follow {d : Dev} {n : Nat} (hpower : d.powered 2 = true) (hstate : d.shpState n = shpFollow) :
    d.servoLive n = true := by
  simp [Dev.servoLive, hpower, hstate, shpAcquire, shpFollow, shpUnloading]

/-- The first wedge of a single active head whose SAM is there. -/
theorem Dev.wedge_oneHead {d : Dev} {n : Nat} {w : WedgeSample} {h : WedgeHead} {e : Dev}
    (he : e = (((d.wedgePassed n (h.number % 1024) w.interval).samFound n w.interval).rvSample n w.rot).wedgeChannel n 0 h false)
    (hservo : d.servoLive n = true) (hactive : d.activeCh n = [0]) (hhead : h = wedgeHead (at' w.lanes (d.servoLane n 0) []))
    (hsam : h.sam = true) (hlast : (d.shp n).lastWedge = none) (hindex : decide (h.number / 1024 = 1) = decide (h.number % 1024 = 0))
    (hid : (e.shpCh n 0).idErrRun = 0) : d.wedge n w = e.wedgeJudged n (d.gatedCh n) (some true) := by
  have hsound : ((h.number / 1024 == 1) != (h.number % 1024 == 0)) = false := by
    simpa [Bool.bne_eq_xor] using hindex
  subst he
  simp [Dev.wedge, Dev.each, hactive, ← hhead, hlast, hsam, hservo, hsound, hid]

theorem Dev.missedWedge_idle {d : Dev} {n : Nat} (rot : BitVec 12) (hservo : d.servoLive n = false) : d.missedWedge n rot = d :=
  if_pos (by simp [hservo])

/-- A missed wedge is numbered on from the last. -/
theorem Dev.missedWedge_predicts {d e : Dev} {n l : Nat} {rot : BitVec 12}
    (he : e = ((d.incI F.SHP_FAULTS_MISSED n).wedgePassed n ((l + 1) % max 1 d.wedges) (d.getI F.SHP_INTERVAL_CYCLES n)).rvSample n rot)
    (hservo : d.servoLive n = true) (hlast : (d.shp n).lastWedge = some l) :
    d.missedWedge n rot = (e.each (e.activeCh n) (fun x k => x.wedgeMissed n k)).wedgeJudged n (d.gatedCh n) none := by
  unfold Dev.missedWedge
  rw [if_neg (by simp [hservo]), hlast, he]

/-! ### The temperature (R229 to R231) -/

theorem Dev.tempDue_asks {d : Dev} {n : Nat} (hfitted : d.actuatorFitted n = true) (hpower : d.powered 2 = true)
    (hport : d.powered (3 + n) = true) (hnow : (d.shp n).paNow = none) (hwait : (d.shp n).paWait = []) :
    d.tempDue n = d.paQueue n .tempRead := by
  have hask : d.tempAsk n = d.paQueue n .tempRead := if_neg (by simp [hnow, hwait])
  exact (if_neg (by simp [hfitted, hpower])).trans ((if_pos hport).trans hask)

/-- With the port's domain off the read fails at once. -/
theorem Dev.tempDue_fails {d : Dev} {n : Nat} (hfitted : d.actuatorFitted n = true) (hpower : d.powered 2 = true)
    (hport : d.powered (3 + n) = false) : d.tempDue n = d.preampTemp n none :=
  (if_neg (by simp [hfitted, hpower])).trans (if_neg (by simp [hport]))

/-- A reading in range is taken, its source the preamp as before. -/
theorem Dev.preampTemp_sound {d : Dev} {n : Nat} {t : Int} (hfitted : d.actuatorFitted n = true) (hpower : d.powered 2 = true)
    (hport : d.powered (3 + n) = true) (hsource : d.getI F.SHP_TEMP_SRC n = 0) (hlow : -640 ≤ t) (hhigh : t ≤ 2400) :
    d.preampTemp n (some t) =
      (((d.putI F.SHP_TEMP_SRC n 0).putI F.SHP_TEMP_VALID n 1).putI F.SHP_TEMP_TEMP n (ofSigned 16 t)).publishReach n (some t) := by
  have hchoice : d.chooseTheta n (some t) = (0, some t) := if_pos (by simp [hport, hlow, hhigh])
  unfold Dev.preampTemp
  rw [if_neg (by simp [hfitted, hpower]), hchoice, hsource]
  rfl

/-! ### A frame's bits (R244, R245) -/

theorem bitsMsb_length (w v : Nat) : (bitsMsb w v).length = w := by simp [bitsMsb]

theorem oddParity_odd (l : List Bool) : ((l ++ [oddParity l]).filter id).length % 2 = 1 := by
  rcases Nat.mod_two_eq_zero_or_one (l.filter id).length with h | h
  · simp [oddParity, List.filter_append, h]
    omega
  · simp [oddParity, List.filter_append, h]

theorem Frame.sent_write {f : Frame} (h : f.reads = false) : f.sent.length = 25 := by
  simp [Frame.sent, h, bitsMsb_length]

theorem Frame.sent_read {f : Frame} (h : f.reads = true) : f.sent.length = 9 := by
  simp [Frame.sent, h, bitsMsb_length]

theorem Frame.sent_odd (f : Frame) : (f.sent.filter id).length % 2 = 1 := oddParity_odd _

theorem Frame.sent_first (f : Frame) : f.sent.headD false = f.reads := by
  unfold Frame.sent
  dsimp only
  split <;> rfl

/-! ### A frame completed (R245 to R248) -/

/-- A Loop Engine's output is only sent. -/
theorem Dev.frameDone_loopOut {d : Dev} {n a v : Nat} (answer : BitVec 17) (hnow : (d.shp n).paNow = some (.loopOut a v)) :
    d.frameDone n answer = (d.setShp n (fun s => { s with paNow := none, paRetry := false, paLast := a })).paStart n := by
  unfold Dev.frameDone
  rw [hnow]
  rfl

/-- An answer whose parity fails is recorded and read once more. -/
theorem Dev.frameDone_repeats {d e : Dev} {n : Nat} {answer : BitVec 17} (he : e = d.post 0x110F [n, 0x0B, 1])
    (hnow : (d.shp n).paNow = some .fltRead) (hparity : popCount 17 answer.toNat % 2 = 0) (hfirst : (e.shp n).paRetry = false) :
    d.frameDone n answer = e.setShp n (fun s => { s with paRetry := true }) := by
  have hbad : answerData answer = none := if_neg (by omega)
  subst he
  unfold Dev.frameDone
  simp [hnow, Frame.reads, Frame.addr, hbad, hfirst]

/-! ### The command frame (R252, R253) -/

theorem Dev.paGo_busy {d : Dev} {n : Nat} (v : Nat) (hbusy : d.onI F.SHP_PA_RESP_BUSY n = true) : d.paGo n v = d := if_pos hbusy

/-- A frame that selects no head is taken. -/
theorem Dev.paGo_queues {d : Dev} {n v : Nat} (hfree : d.onI F.SHP_PA_RESP_BUSY n = false) (hhead0 : slice v 16 7 ≠ 1)
    (hhead1 : slice v 16 7 ≠ 2) :
    d.paGo n v =
      (let e := ((d.putI F.SHP_PA_CMD_RW n (slice v 23 1)).putI F.SHP_PA_CMD_ADDR n (slice v 16 7)).putI F.SHP_PA_CMD_DATA n (slice v 0 16)
      ((((e.putI F.SHP_PA_RESP_PERR n 0).putI F.SHP_PA_RESP_REFUSED n 0).putI F.SHP_PA_RESP_DONE n 0).putI F.SHP_PA_RESP_BUSY n 1).paQueue n
        (.command (v.testBit 23) (slice v 16 7) (slice v 0 16))) :=
  (if_neg (by simp [hfree])).trans (if_neg (by simp [hhead0, hhead1]))

/-! ### PAn_FLT_N (R250) -/

theorem Dev.preampFault_falls {d : Dev} {n : Nat} (hhigh : d.onI F.SHP_PA_FLT_ACTIVE n = false) :
    d.preampFault n =
      (let e := (d.putI F.SHP_PA_FLT_ACTIVE n 1).putI F.SHP_INT_STAT_PA_FAULT n 1
      let e : Dev := { e with wch := { e.wch with preamp := withBit e.wch.preamp n true } }
      ((e.setShp n (fun s => { s with clearSent := false })).killAssert killPreamp).paQueue n .fltRead) :=
  if_neg (by simp [hhigh])

/-- The source stays asserted until the clearing write is sent. -/
theorem Dev.preampFaultClear_unsent {d : Dev} {n : Nat} (hsent : (d.shp n).clearSent = false) :
    d.preampFaultClear n = d.putI F.SHP_PA_FLT_ACTIVE n 0 := by
  have hkept : ((d.putI F.SHP_PA_FLT_ACTIVE n 0).shp n).clearSent = false := hsent
  exact if_pos (by simp [hkept])

/-- Settles O28 (log entries 19, 21, 22, 34, 136, 137, 139 and 140): each clause is a branch of the command's operation, what a valid wedge
leaves in the registers, or the form of a frame. -/
theorem shepherdWedgesAndPreamp : Obligations.ShepherdWedgesAndPreamp := by
  refine ⟨fun _ n w => effect_wedge n w, ?oneHead, ?valid, fun _ _ _ _ _ _ => burstFraction_first, fun _ n rot => effect_missedWedge n rot,
    ?outside, ?missed, fun _ n => effect_preampTempRead n, ?asks, ?fails, ?sound, fun _ n answer => effect_preampFrameDone n answer, ?output,
    ?repeats, fun f => ⟨Frame.sent_write, Frame.sent_read, f.sent_odd, f.sent_first⟩, fun _ n v => effect_paCmdGo n v, ?taken, ?busy,
    fun _ n => effect_preampFault n, ?falls, fun _ n => effect_preampFaultClear n, ?unsent⟩
  case oneHead =>
    intro d n w h e0 e1 he0 he1 hstate hpower hactive hhead hsam hlast hgated hindex hid hlive
    have hservo := Dev.servoLive_follow hpower hstate
    rw [he0] at he1
    exact (effect_wedge n w hlive).of_eq (hgated ▸ Dev.wedge_oneHead he1 hservo hactive hhead hsam hlast hindex hid)
  case valid =>
    intro d e n k w p hdemodulate hnear
    have hp : (d.demodulate n.val k.val w).1 = p := congrArg Prod.fst hdemodulate
    exact hp ▸ Dev.wedgeChannel_valid hnear
  case outside =>
    intro d n rot hservo hlive
    exact (effect_missedWedge n rot hlive).of_eq (Dev.missedWedge_idle rot hservo)
  case missed =>
    intro d n rot l e he hservo hlast hlive
    exact (effect_missedWedge n rot hlive).of_eq (Dev.missedWedge_predicts he hservo hlast)
  case asks =>
    intro d n hfitted hpower hport hnow hwait hlive
    exact (effect_preampTempRead n hlive).of_eq (Dev.tempDue_asks hfitted hpower hport hnow hwait)
  case fails =>
    intro d n hfitted hpower hport hlive
    exact (effect_preampTempRead n hlive).of_eq (Dev.tempDue_fails hfitted hpower hport)
  case sound =>
    intro d n hfitted hpower hport hsource
    exact Dev.preampTemp_sound hfitted hpower hport hsource (by decide) (by decide)
  case output =>
    intro d n answer a v hnow hlive
    exact (effect_preampFrameDone n answer hlive).of_eq (Dev.frameDone_loopOut answer hnow)
  case repeats =>
    intro d n answer e he hnow hparity hfirst hlive
    exact (effect_preampFrameDone n answer hlive).of_eq (Dev.frameDone_repeats he hnow hparity hfirst)
  case taken =>
    intro d n v hfree hhead0 hhead1 hpower hstop
    exact (effect_paCmdGo n v hpower hstop).of_eq (Dev.paGo_queues hfree hhead0 hhead1)
  case busy =>
    intro d n v hbusy hpower hstop
    exact (effect_paCmdGo n v hpower hstop).of_eq (Dev.paGo_busy v.toNat hbusy)
  case falls =>
    intro d n hhigh hlive
    exact (effect_preampFault n hlive).of_eq (Dev.preampFault_falls hhigh)
  case unsent =>
    intro d n hsent hlive
    exact (effect_preampFaultClear n hlive).of_eq (Dev.preampFaultClear_unsent hsent)

end Sys2Proof.Machine
end

section
/-! SUPPORT. The ports that the microcode writes (spec/07 R266, R270 to R274): the effect of each command, and from them the statement on
ports and counters. -/

namespace Sys2Proof.Machine

/-! ### The effect of each write of a port -/

/-- A write of a target port sets its channel's target (R270). -/
theorem effect_portTgtWrite {d : Dev} (n : Fin 4) (k : Fin 2) (v : BitVec 32) (hlive : d.live 0x04 = true) :
    Effect (.portTgtWrite n k v) d (d.setTarget n.val k.val v.toNat) := by
  refine (effect_shepherd (.portTgtWrite n k v) hlive : Effect _ d (d.portWrite n.val (0x04 + k.val) v.toNat)).of_eq ?_
  match k with
  | 0 | 1 => rfl

/-- A write of a microactuator port goes to its channel (R271). -/
theorem effect_portMaWrite {d : Dev} (n : Fin 4) (k : Fin 2) (v : BitVec 32) (hlive : d.live 0x04 = true) :
    Effect (.portMaWrite n k v) d (d.portWrite n.val (0x10 + k.val) v.toNat) :=
  (effect_shepherd (.portMaWrite n k v) hlive :)

theorem Dev.portWrite_ma (d : Dev) (n : Nat) (k : Fin 2) (v : Nat) : d.portWrite n (0x10 + k.val) v = d.maWrite n k.val (toSigned 32 v) :=
  match k with
  | 0 | 1 => rfl

theorem effect_portVcmIrefWrite {d : Dev} (n : Fin 4) (v : BitVec 32) (hlive : d.live 0x04 = true) :
    Effect (.portVcmIrefWrite n v) d (d.setShp n.val (fun s => { s with iRef := toSigned 32 v.toNat })) :=
  (effect_shepherd (.portVcmIrefWrite n v) hlive :)

theorem effect_portStateWrite {d : Dev} (n : Fin 4) (v : BitVec 32) (hlive : d.live 0x04 = true) :
    Effect (.portStateWrite n v) d (d.stateWrite n.val v.toNat) :=
  (effect_shepherd (.portStateWrite n v) hlive :)

theorem effect_portHeadselWrite {d : Dev} (n : Fin 4) (v : BitVec 32) (hlive : d.live 0x04 = true) :
    Effect (.portHeadselWrite n v) d (d.headselWrite n.val v.toNat) :=
  (effect_shepherd (.portHeadselWrite n v) hlive :)

theorem effect_portWgenWrite {d : Dev} (n : Fin 4) (v : BitVec 32) (hlive : d.live 0x04 = true) :
    Effect (.portWgenWrite n v) d (d.wgenWrite n.val v.toNat) :=
  (effect_shepherd (.portWgenWrite n v) hlive :)

theorem effect_portEventWrite {d : Dev} (n : Fin 4) (v : BitVec 32) (hlive : d.live 0x04 = true) :
    Effect (.portEventWrite n v) d (d.eventWrite n.val v.toNat) :=
  (effect_shepherd (.portEventWrite n v) hlive :)

theorem effect_portTableAddrWrite {d : Dev} (n : Fin 4) (v : BitVec 32) (hlive : d.live 0x04 = true) :
    Effect (.portTableAddrWrite n v) d (d.setShp n.val (fun s => { s with tableAddr := v.toNat })) :=
  (effect_shepherd (.portTableAddrWrite n v) hlive :)

theorem effect_portTimerWrite {d : Dev} (n : Fin 4) (v : BitVec 32) (hlive : d.live 0x04 = true) :
    Effect (.portTimerWrite n v) d (d.setShp n.val (fun s => { s with timer := v.toNat % 2 ^ 16 })) :=
  (effect_shepherd (.portTimerWrite n v) hlive :)

theorem effect_counterLoad {d : Dev} (n k : Fin 4) (imm : BitVec 32) (hlive : d.live 0x04 = true) :
    Effect (.counterLoad n k imm) d (d.setUc n.val (fun u => u.setCtr k.val imm.toNat)) :=
  (effect_shepherd (.counterLoad n k imm) hlive :)

theorem effect_ucTimerExpire {d : Dev} (n : Fin 4) (hlive : d.live 0x04 = true) :
    Effect (.ucTimerExpire n) d
      (if (d.shp n.val).timer = 0 then d else (d.setShp n.val (fun x => { x with timer := 0 })).latchTrap n.val 9) :=
  (effect_shepherd (.ucTimerExpire n) hlive :)

/-! ### The branches of a write (R270, R271, R273) -/

theorem Dev.stateWrite_taken {d : Dev} {n : Nat} (v : Nat) (hfence : d.shpState n ≠ shpFenced) (hretract : d.shpState n ≠ shpRetracted) :
    d.stateWrite n v = d.putI F.SHP_STAT_STATE n (v % 16) :=
  if_neg (by simp [hfence, hretract])

/-- FENCED and RETRACTED stay. -/
theorem Dev.stateWrite_kept {d : Dev} {n : Nat} (v : Nat) (hstate : d.shpState n = shpFenced ∨ d.shpState n = shpRetracted) :
    d.stateWrite n v = d :=
  if_pos (by simpa using hstate)

theorem Dev.eventWrite_posts {d : Dev} {n v : Nat} (hlow : 0x1101 ≤ v % 2 ^ 16) (hhigh : v % 2 ^ 16 ≤ 0x110F) :
    d.eventWrite n v =
      d.post (v % 2 ^ 16) [(d.shp n).uc.reg 24, (d.shp n).uc.reg 25, (d.shp n).uc.reg 26, (d.shp n).uc.reg 27] :=
  if_pos ⟨hlow, hhigh⟩

/-- A head with a gain is moved within its reach. -/
theorem Dev.maWrite_clamps {d : Dev} {n k : Nat} (code : Int) (hgain : d.maGain (d.headNum n k) ≠ 0) :
    d.maWrite n k code =
      (let g := d.maGain (d.headNum n k)
      let lim : Int := d.reach256 n k * 8191 / (g : Int)
      let x := clampInt (-lim) lim code
      d.setCh n k (fun c => { c with maPrev := c.maOut, maOut := x, y := x * (g : Int) / 8191 })) := by
  unfold Dev.maWrite
  dsimp only
  rw [if_neg hgain]

/-- Settles O31 (log entries 19 and 38): each clause is a port's operation or a branch of it. -/
theorem portsAndCounters : Obligations.PortsAndCounters := by
  refine ⟨fun _ n k v => effect_portTgtWrite n k v, fun _ n v => effect_portVcmIrefWrite n v, fun _ n v => effect_portStateWrite n v, ?taken,
    ?kept, fun _ n v => effect_portHeadselWrite n v, fun _ n v => effect_portWgenWrite n v, fun _ n v => effect_portEventWrite n v, ?posted,
    fun _ n v => effect_portTableAddrWrite n v, fun _ n v => effect_portTimerWrite n v, fun _ n k v => effect_portMaWrite n k v, ?clamped,
    fun _ n k imm => effect_counterLoad n k imm, fun _ n => effect_ucTimerExpire n, ?expired, ?idle⟩
  case taken =>
    intro d n v hfence hretract hlive
    exact (effect_portStateWrite n v hlive).of_eq (Dev.stateWrite_taken v.toNat hfence hretract)
  case kept =>
    intro d n v hstate hlive
    exact (effect_portStateWrite n v hlive).of_eq (Dev.stateWrite_kept v.toNat hstate)
  case posted =>
    intro d n v hlow hhigh hlive
    exact (effect_portEventWrite n v hlive).of_eq (Dev.eventWrite_posts hlow hhigh)
  case clamped =>
    intro d n k v hgain hlive
    exact (effect_portMaWrite n k v hlive).of_eq ((d.portWrite_ma n.val k v.toNat).trans (Dev.maWrite_clamps _ hgain))
  case expired =>
    intro d n htimer hlive
    exact (effect_ucTimerExpire n hlive).of_eq (if_neg htimer)
  case idle =>
    intro d n htimer hlive
    exact (effect_ucTimerExpire n hlive).of_eq (if_pos htimer)

end Sys2Proof.Machine
end

section
/-! SUPPORT. The microcode's ALU (spec/07 R266 to R268): an operation's exact result decides the flags and DST, and from it the statement on
the ALU's operations. -/

namespace Sys2Proof.Machine

/-- A microcode machine put back as it is changes nothing. -/
theorem Dev.setUc_unchanged (d : Dev) (n : Nat) : d.setUc n (fun u => u) = d := by
  have hset : d.shps.set n (d.shp n) = d.shps := by
    by_cases hn : n < d.shps.length
    · rw [Dev.shp, at', List.getD_eq_getElem _ _ hn, List.set_getElem_self]
    · exact List.set_eq_of_length_le (Nat.le_of_not_lt hn)
  exact congrArg (fun l => { d with shps := l }) hset

/-- Every operation but NOP leaves what its exact result says (R268). -/
theorem Uc.alu_eq_aluDone (u : Uc) {op : Nat} (f : AluFields) (hop : op ≠ 0) :
    u.alu op f.srcA.val f.srcB.val f.dst.val f.we f.bImm f.sat f.imm =
      u.aluDone (aluExact op (u.opA f.srcA.val) (u.opB f.srcB.val f.bImm f.imm) (toSigned 32 (u.reg f.dst.val)) f.imm) f :=
  if_neg hop

/-- NOP leaves the flags as they were, too (R268). -/
theorem Dev.aluRun_nop (d : Dev) (n : Nat) (f : AluFields) : d.aluRun n 0 f = d := d.setUc_unchanged n

theorem Dev.aluRun_eq_aluDone (d : Dev) (n : Nat) {op : Nat} (f : AluFields) (hop : op ≠ 0) :
    d.aluRun n op f = d.setUc n (fun u => u.aluDone
      (aluExact op (u.opA f.srcA.val) (u.opB f.srcB.val f.bImm f.imm) (toSigned 32 (u.reg f.dst.val)) f.imm) f) :=
  congrArg (d.setUc n) (funext fun u => u.alu_eq_aluDone f hop)

theorem effect_aluNop {d : Dev} (n : Fin 4) (f : AluFields) (hlive : d.live 0x04 = true) : Effect (.aluNop n f) d d :=
  (effect_shepherd (.aluNop n f) hlive : Effect _ d (d.aluRun n.val 0 f)).of_eq (d.aluRun_nop n.val f)

/-- A command whose meaning is operation `op` of the ALU leaves what that operation's exact result says. -/
theorem effect_alu (c : Instr) (op : Nat) {n : Fin 4} {f : AluFields} {d : Dev} (hlive : d.live 0x04 = true)
    (h : ∀ s : State, exec c s = s.runIsland 0x04 (fun d => d.aluRun n.val op f) := by intro s; unfold exec; rfl) (hop : op ≠ 0 := by decide) :
    Effect c d (d.setUc n.val (fun u => u.aluDone
      (aluExact op (u.opA f.srcA.val) (u.opB f.srcB.val f.bImm f.imm) (toSigned 32 (u.reg f.dst.val)) f.imm) f)) :=
  (effect_shepherd c hlive h).of_eq (d.aluRun_eq_aluDone n.val f hop)

/-- Settles O30 (log entries 19 and 22): NOP changes nothing, and the exact result of each other operation is its row of `aluExact`. -/
theorem aluOperations : Obligations.AluOperations :=
  ⟨fun _ n f => effect_aluNop n f,
    fun _ n f hlive => effect_alu (.aluAdd n f) 1 hlive,
    fun _ n f hlive => effect_alu (.aluSub n f) 2 hlive,
    fun _ n f hlive => effect_alu (.aluAnd n f) 3 hlive,
    fun _ n f hlive => effect_alu (.aluOr n f) 4 hlive,
    fun _ n f hlive => effect_alu (.aluXor n f) 5 hlive,
    fun _ n f hlive => effect_alu (.aluShl n f) 6 hlive,
    fun _ n f hlive => effect_alu (.aluSar n f) 7 hlive,
    fun _ n f hlive => effect_alu (.aluMul n f) 8 hlive,
    fun _ n f hlive => effect_alu (.aluMac n f) 9 hlive,
    fun _ n f hlive => effect_alu (.aluMin n f) 10 hlive,
    fun _ n f hlive => effect_alu (.aluMax n f) 11 hlive,
    fun _ n f hlive => effect_alu (.aluClamp n f) 12 hlive,
    fun _ n f hlive => effect_alu (.aluAbs n f) 13 hlive,
    fun _ n f hlive => effect_alu (.aluPass n f) 14 hlive,
    fun _ n f hlive => effect_alu (.aluLdi n f) 15 hlive⟩

end Sys2Proof.Machine
end

section
/-! SUPPORT. A Shepherd's micro-words (spec/07 R258, R261 to R265, R279, R281, R286): what a word's SEQ does next, which checks come before
the word runs, and from them the statement on the micro-words. -/

namespace Sys2Proof.Machine

/-! ### The effect of each command -/

theorem effect_microNext {d : Dev} (n : Fin 4) (f : MicroFetch) (hlive : d.live 0x04 = true) :
    Effect (.microNext n f) d (d.microStep n.val 0 f) :=
  (effect_shepherd (.microNext n f) hlive :)

theorem effect_microBranch {d : Dev} (n : Fin 4) (f : MicroFetch) (hlive : d.live 0x04 = true) :
    Effect (.microBranch n f) d (d.microStep n.val 1 f) :=
  (effect_shepherd (.microBranch n f) hlive :)

theorem effect_microLoop {d : Dev} (n : Fin 4) (f : MicroFetch) (hlive : d.live 0x04 = true) :
    Effect (.microLoop n f) d (d.microStep n.val 2 f) :=
  (effect_shepherd (.microLoop n f) hlive :)

theorem effect_microCall {d : Dev} (n : Fin 4) (f : MicroFetch) (hlive : d.live 0x04 = true) :
    Effect (.microCall n f) d (d.microStep n.val 3 f) :=
  (effect_shepherd (.microCall n f) hlive :)

theorem effect_microReturn {d : Dev} (n : Fin 4) (f : MicroFetch) (hlive : d.live 0x04 = true) :
    Effect (.microReturn n f) d (d.microStep n.val 4 f) :=
  (effect_shepherd (.microReturn n f) hlive :)

theorem effect_microWait {d : Dev} (n : Fin 4) (f : MicroFetch) (hlive : d.live 0x04 = true) :
    Effect (.microWait n f) d (d.microStep n.val 5 f) :=
  (effect_shepherd (.microWait n f) hlive :)

theorem effect_microTret {d : Dev} (n : Fin 4) (f : MicroFetch) (hlive : d.live 0x04 = true) :
    Effect (.microTret n f) d (d.microStep n.val 6 f) :=
  (effect_shepherd (.microTret n f) hlive :)

theorem effect_microFault {d : Dev} (n : Fin 4) (f : MicroFetch) (hlive : d.live 0x04 = true) :
    Effect (.microFault n f) d (d.microStep n.val 7 f) :=
  (effect_shepherd (.microFault n f) hlive :)

/-! ### What a word's SEQ does next (R261, R265, R279) -/

section
variable {d : Dev} {n pc : Nat} {w : Nano} {cond : Bool}

theorem Dev.microSequence_next : d.microSequence n 0 pc w cond = d.setPc n ((pc + 1) % 4096) := rfl

theorem Dev.microSequence_branch : d.microSequence n 1 pc w cond = d.setPc n (if cond then w.target else (pc + 1) % 4096) := rfl

/-- LOOP leaves for the next address where its counter has come down to zero. -/
theorem Dev.microSequence_loop :
    d.microSequence n 2 pc w cond =
      (d.setUc n (fun u => u.setCtr w.ctr (((d.shp n).uc.ctr w.ctr + 65535) % 65536))).setPc n
        (if ((d.shp n).uc.ctr w.ctr + 65535) % 65536 = 0 then (pc + 1) % 4096 else w.target) := by
  have hflip (c x y : Nat) : (if c != 0 then x else y) = if c = 0 then y else x := by by_cases hc : c = 0 <;> simp [hc]
  exact congrArg (Dev.setPc _ n) (hflip _ _ _)

theorem Dev.microSequence_call (hroom : (d.shp n).uc.stack.length < 4) :
    d.microSequence n 3 pc w cond = (d.setUc n (fun u => { u with stack := ((pc + 1) % 4096) :: u.stack })).setPc n w.target :=
  if_neg (Nat.not_le.mpr hroom)

/-- Outside a trap RETURN may pop every address. -/
theorem Dev.microSequence_return {a : Nat} {r : List Nat} (hstack : (d.shp n).uc.stack = a :: r) (hframes : (d.shp n).uc.frames = []) :
    d.microSequence n 4 pc w cond = (d.setUc n (fun u => { u with stack := r })).setPc n a := by
  simp [Dev.microSequence, hstack, hframes]

theorem Dev.microSequence_wait : d.microSequence n 5 pc w cond = d.setPc n (if cond then (pc + 1) % 4096 else pc) := rfl

/-- A frame closes where the return stack stands as it was on entry. -/
theorem Dev.microSequence_tret {t : TrapFrame} {r : List TrapFrame} (hframes : (d.shp n).uc.frames = t :: r)
    (hstack : (d.shp n).uc.stack.length = t.sdepth) :
    d.microSequence n 6 pc w cond =
      ((d.setUc n (fun u => { u with frames := r, z := t.z, n := t.n, v := t.v })).putI F.SHP_UC_STAT_TRAP_DEPTH n r.length).setPc n t.resume := by
  simp [Dev.microSequence, hstack, hframes]

theorem Dev.microSequence_fault : d.microSequence n 7 pc w cond = d.microFault n 0 := rfl

end

/-! ### The checks before a word runs (R258, R280, R286) -/

section
variable {d : Dev} {n seq : Nat} {f : MicroFetch}

theorem Dev.microStep_remapCheck (hpower : d.powered 2 = true) (hrun : (d.shp n).uc.run = true) (htrap : (d.shp n).uc.dueTrap = none)
    (hremap : f.remap = true) : d.microStep n seq f = d.machineCheck n 2 (d.getI F.SHP_UC_PC_MICRO n) := by
  simp [Dev.microStep, hpower, hrun, htrap, hremap]

theorem Dev.microStep_microCheck (hpower : d.powered 2 = true) (hrun : (d.shp n).uc.run = true) (htrap : (d.shp n).uc.dueTrap = none)
    (hremap : f.remap = false)
    (hparity : parityHolds 16 ((d.shp n).uc.microStored (d.getI F.SHP_UC_PC_MICRO n) ^^^ f.micro.toNat) = false) :
    d.microStep n seq f = d.machineCheck n 0 (d.getI F.SHP_UC_PC_MICRO n) := by
  simp [Dev.microStep, hpower, hrun, htrap, hremap, hparity]

end

/-! ### A word that runs (R261 to R263) -/

/-- The running machine `n`, with no trap due, reads at its present address a micro-word `word` whose SEQ is `seq`, and its nanoword `w`
without HOLD: both as stored (`stored`, `act`), the flips of `f` included, with good parity (R258). -/
structure Dev.MicroRead (d : Dev) (n : Nat) (f : MicroFetch) (seq stored word act : Nat) (w : Nano) : Prop where
  power : d.powered 2 = true
  run : (d.shp n).uc.run = true
  noTrap : (d.shp n).uc.dueTrap = none
  remap : f.remap = false
  stored_eq : stored = (d.shp n).uc.microStored (d.getI F.SHP_UC_PC_MICRO n) ^^^ f.micro.toNat
  microParity : parityHolds 16 stored = true
  word_eq : word = slice stored 0 16
  seq_eq : slice word 9 3 = seq
  act_eq : act = (d.shp n).uc.nanoStored (slice word 0 9) ^^^ f.nano.toNat
  nanoParity : parityHolds 128 act = true
  nano_eq : w = Nano.ofWord (slice act 0 128)
  noHold : w.hold = false

section
variable {d e : Dev} {n seq stored word act : Nat} {f : MicroFetch} {w : Nano}

/-- What follows from the read follows from its conditions, one after another. -/
theorem Dev.MicroRead.elim {p : Prop} (h : d.MicroRead n f seq stored word act w → p) (power : d.powered 2 = true)
    (run : (d.shp n).uc.run = true) (noTrap : (d.shp n).uc.dueTrap = none) (remap : f.remap = false)
    (stored_eq : stored = (d.shp n).uc.microStored (d.getI F.SHP_UC_PC_MICRO n) ^^^ f.micro.toNat) (microParity : parityHolds 16 stored = true)
    (word_eq : word = slice stored 0 16) (seq_eq : slice word 9 3 = seq)
    (act_eq : act = (d.shp n).uc.nanoStored (slice word 0 9) ^^^ f.nano.toNat) (nanoParity : parityHolds 128 act = true)
    (nano_eq : w = Nano.ofWord (slice act 0 128)) (noHold : w.hold = false) : p :=
  h ⟨power, run, noTrap, remap, stored_eq, microParity, word_eq, seq_eq, act_eq, nanoParity, nano_eq, noHold⟩

/-- Past every check the nanoword acts, unless the word waits, and the word's SEQ follows where the machine still runs. -/
theorem Dev.MicroRead.microStep_eq (h : d.MicroRead n f seq stored word act w) :
    d.microStep n seq f =
      (let d0 := d.putI F.SHP_UC_PC_NANO n (slice word 0 9)
      let wait := seq = 5 && !d0.microCond n w
      let e := (if wait then d0 else d0.nanoAct n w).setUc n (fun u => { u with waiting := wait, holdRun := 0 })
      if (e.shp n).uc.run then e.microSequence n seq (d.getI F.SHP_UC_PC_MICRO n) w (d0.microCond n w) else e) := by
  obtain ⟨hpower, hrun, htrap, hremap, hstored, hmicro, hword, hseq, hact, hnano, hw, hhold⟩ := h
  unfold Dev.microStep
  simp only [← hstored, ← hword, ← hact, ← hw]
  simp [hpower, hrun, htrap, hremap, hmicro, hseq, hnano, hhold]

/-- A word that does not wait: its nanoword acts, then its SEQ. -/
theorem Dev.MicroRead.microStep_acts (h : d.MicroRead n f seq stored word act w)
    (he : e = ((d.putI F.SHP_UC_PC_NANO n (slice word 0 9)).nanoAct n w).setUc n (fun u => { u with waiting := false, holdRun := 0 }))
    (hgo : (e.shp n).uc.run = true) (hwait : seq = 5 → (d.putI F.SHP_UC_PC_NANO n (slice word 0 9)).microCond n w = true) :
    d.microStep n seq f = e.microSequence n seq (d.getI F.SHP_UC_PC_MICRO n) w
      ((d.putI F.SHP_UC_PC_NANO n (slice word 0 9)).microCond n w) := by
  have hgoes : (decide (seq = 5) && !(d.putI F.SHP_UC_PC_NANO n (slice word 0 9)).microCond n w) = false := by simpa using hwait
  rw [h.microStep_eq]
  simp only [hgoes, Bool.false_eq_true, if_false, ← he, hgo, if_true]

/-- A WAIT whose condition is false: the nanoword does not act. -/
theorem Dev.MicroRead.microStep_waits (h : d.MicroRead n f 5 stored word act w)
    (he : e = (d.putI F.SHP_UC_PC_NANO n (slice word 0 9)).setUc n (fun u => { u with waiting := true, holdRun := 0 }))
    (hgo : (e.shp n).uc.run = true) (hwait : (d.putI F.SHP_UC_PC_NANO n (slice word 0 9)).microCond n w = false) :
    d.microStep n 5 f = e.setPc n (d.getI F.SHP_UC_PC_MICRO n) := by
  rw [h.microStep_eq]
  simp only [hwait, decide_true, Bool.not_false, Bool.and_self, if_true, ← he, hgo]
  rfl

end

/-- Settles O29 (log entry 36): each clause is a check before the word runs, or what its SEQ does once its nanoword has acted. -/
theorem microWordsAct : Obligations.MicroWordsAct := by
  refine ⟨fun _ n f => effect_microNext n f, ?next, ?remapCheck, ?microCheck, fun _ n f => effect_microBranch n f, ?branch,
    fun _ n f => effect_microLoop n f, ?loop, fun _ n f => effect_microCall n f, ?call, fun _ n f => effect_microReturn n f, ?pops,
    fun _ n f => effect_microTret n f, ?tret, fun _ n f => effect_microFault n f, ?fault, fun _ n f => effect_microWait n f, ?wait, ?waits⟩
  case next =>
    refine fun d n f _ _ _ w e he => Dev.MicroRead.elim fun hread hgo hlive => ?_
    exact (effect_microNext n f hlive).of_eq ((hread.microStep_acts he hgo nofun).trans Dev.microSequence_next)
  case remapCheck =>
    intro d n f hpower hrun htrap hremap hlive
    exact (effect_microNext n f hlive).of_eq (Dev.microStep_remapCheck hpower hrun htrap hremap)
  case microCheck =>
    intro d n f hpower hrun htrap hremap hparity hlive
    exact (effect_microNext n f hlive).of_eq (Dev.microStep_microCheck hpower hrun htrap hremap hparity)
  case branch =>
    refine fun d n f _ _ _ w e he => Dev.MicroRead.elim fun hread hgo hlive => ?_
    exact (effect_microBranch n f hlive).of_eq ((hread.microStep_acts he hgo nofun).trans Dev.microSequence_branch)
  case loop =>
    refine fun d n f _ _ _ w e he => Dev.MicroRead.elim fun hread hgo hlive => ?_
    exact (effect_microLoop n f hlive).of_eq ((hread.microStep_acts he hgo nofun).trans Dev.microSequence_loop)
  case call =>
    refine fun d n f _ _ _ w e he => Dev.MicroRead.elim fun hread hgo hroom hlive => ?_
    exact (effect_microCall n f hlive).of_eq ((hread.microStep_acts he hgo nofun).trans (Dev.microSequence_call hroom))
  case pops =>
    refine fun d n f _ _ _ w _ _ e he => Dev.MicroRead.elim fun hread hgo hstack hframes hlive => ?_
    exact (effect_microReturn n f hlive).of_eq
      ((hread.microStep_acts he hgo nofun).trans (Dev.microSequence_return hstack hframes))
  case tret =>
    refine fun d n f _ _ _ w _ _ e he => Dev.MicroRead.elim fun hread hgo hframes hstack hlive => ?_
    exact (effect_microTret n f hlive).of_eq ((hread.microStep_acts he hgo nofun).trans (Dev.microSequence_tret hframes hstack))
  case fault =>
    refine fun d n f _ _ _ w e he => Dev.MicroRead.elim fun hread hgo hlive => ?_
    exact (effect_microFault n f hlive).of_eq ((hread.microStep_acts he hgo nofun).trans Dev.microSequence_fault)
  case wait =>
    refine fun d n f _ _ _ w e he => Dev.MicroRead.elim fun hread hgo hcond hlive => ?_
    have hnext := (hread.microStep_acts he hgo fun _ => hcond).trans Dev.microSequence_wait
    exact (effect_microWait n f hlive).of_eq (hnext.trans (congrArg (Dev.setPc e n.val) (if_pos hcond)))
  case waits =>
    refine fun d n f _ _ _ w e he => Dev.MicroRead.elim fun hread hgo hcond hlive => ?_
    exact (effect_microWait n f hlive).of_eq (hread.microStep_waits he hgo hcond)

end Sys2Proof.Machine
end

section
/-! SUPPORT. The descriptors that a Shepherd's microcode takes and returns (spec/17 R690), its micro-traps (07 R275 to R278) and its store
reloads (R287, R291, R293): which branch of each operation is taken, and from them the statement on all three. -/

namespace Sys2Proof.Machine

/-! ### The effect of each command -/

/-- SELECT's two bits name a word. -/
theorem effect_drvRetSelect {d : Dev} (n w : Fin 4) (hlive : d.live 0x04 = true) :
    Effect (.drvRetSelect n w) d (d.setShp n.val (fun s => { s with drvSelect := w.val })) := by
  refine (effect_shepherd (.drvRetSelect n w) hlive : Effect _ d (d.drvSelect n.val w.val)).of_eq ?_
  unfold Dev.drvSelect
  rw [Nat.mod_eq_of_lt w.isLt]

theorem effect_drvRetTaken {d : Dev} (n : Fin 4) (hlive : d.live 0x04 = true) : Effect (.drvRetTaken n) d (d.drvTaken n.val) :=
  (effect_shepherd (.drvRetTaken n) hlive :)

theorem effect_drvRetReady {d : Dev} (n : Fin 4) (k : Fin 2) (hlive : d.live 0x04 = true) :
    Effect (.drvRetReady n k) d (d.drvReady n.val k.val) :=
  (effect_shepherd (.drvRetReady n k) hlive :)

theorem effect_drvRetReturn {d : Dev} (n : Fin 4) (k : Fin 2) (left : BitVec 16) (hlive : d.live 0x04 = true) :
    Effect (.drvRetReturn n k left) d (d.drvReturn n.val k.val left.toNat) :=
  (effect_shepherd (.drvRetReturn n k left) hlive :)

theorem effect_trapTake {d : Dev} (n : Fin 4) (hlive : d.live 0x04 = true) : Effect (.trapTake n) d (d.takeTrap n.val) :=
  (effect_shepherd (.trapTake n) hlive :)

theorem effect_storeReloadDone {d : Dev} (n : Fin 4) (o : ReloadOutcome) (hlive : d.live 0x04 = true) :
    Effect (.storeReloadDone n o) d (d.reloadDone n.val o) :=
  (effect_shepherd (.storeReloadDone n o) hlive :)

/-! ### Descriptors (17 R690; 06 R221, R232) -/

theorem Dev.drvTaken_none {d : Dev} {n : Nat} (hnone : d.offered n = none) : d.drvTaken n = d := by
  unfold Dev.drvTaken
  rw [hnone]

/-- In FOLLOW, with the piece's head selected, TAKEN starts a seek. -/
theorem Dev.drvTaken_seeks {d e1 e2 e : Dev} {n s : Nat} {p : Piece} (he1 : e1 = d.mapPiece p.id (fun q => { q with stage := .taken }))
    (he2 : e2 = (e1.setTarget n (s % 2) (pieceTarget p)).setCh n (s % 2) (fun c =>
      { c with moving := true, writes := pieceWrites p, settled := false, settleRun := 0, permit := false }))
    (he : e = ((e2.flagI F.SHP_STAT_PAIRED n (e1.drv.pieces.any (fun q => q.hold == some (if s % 2 = 0 then s + 1 else s - 1)))).setShp n
      (fun x => { x with paired := e1.drv.pieces.any (fun q => q.hold == some (if s % 2 = 0 then s + 1 else s - 1)) })).setBias n)
    (hoffer : d.offered n = some p) (hhold : p.hold = some s) (hhead : e.headSlot n (s % 2) = p.head % 8)
    (hvalid : e.headValid n (s % 2) = true) (hstate : e.shpState n = shpFollow) :
    d.drvTaken n = e.startSeek n ((p.track : Int) - e1.posAt n (s % 2) / 256).natAbs := by
  unfold Dev.drvTaken
  simp only [hoffer, hhold, Option.getD_some, ← he1, ← he2, ← he]
  have hselected : (e.headSlot n (s % 2) == p.head % 8 && e.headValid n (s % 2)) = true := by simp [hhead, hvalid]
  have hfollow : (e.shpState n = shpFollow || e.shpState n = shpSettle) = true := by simp [hstate]
  rw [if_pos hselected, if_pos hfollow]

/-- A taken piece that does not write only changes its stage. -/
theorem Dev.drvReady_readies {d : Dev} {n k : Nat} {p : Piece} (hheld : d.heldPiece (2 * n + k) = some p) (hstage : p.stage = .taken)
    (hkind : p.why.kind ≠ .writePass) : d.drvReady n k = d.mapPiece p.id (fun q => { q with stage := .ready }) := by
  simp [Dev.drvReady, Dev.pieceReady, hheld, hstage, hkind]

theorem Dev.drvReturn_none {d : Dev} {n k : Nat} (left : Nat) (hnone : d.heldPiece (2 * n + k) = none) : d.drvReturn n k left = d := by
  unfold Dev.drvReturn
  dsimp only
  rw [hnone]

/-- With no sector left the piece is dropped. -/
theorem Dev.drvReturn_drops {d : Dev} {n k : Nat} {p : Piece} (hheld : d.heldPiece (2 * n + k) = some p) :
    d.drvReturn n k 0 =
      (let e := d.mapPiece p.id (fun q => { q with secs := [] })
      let e := (e.setCh n k (fun c => { c with moving := false, settled := false })).pieceReturn (2 * n + k)
      ((e.putI F.SHP_STAT_PAIRED n 0).setShp n (fun x => { x with paired := false })).dropPiece p.id) := by
  have hrest : p.secs.drop (p.secs.length - 0) = [] := List.drop_length
  unfold Dev.drvReturn
  simp only [hheld, hrest]
  rfl

/-! ### A micro-trap is taken (07 R275, R276, R278) -/

theorem Dev.takeTrap_opensFrame {d e : Dev} {n k : Nat}
    (he : e = d.setUc n (fun u => { u with
      frames := (⟨k, (d.shp n).uc.waiting, (d.shp n).uc.z, (d.shp n).uc.n, (d.shp n).uc.v, (d.shp n).uc.stack.length,
        d.getI F.SHP_UC_PC_MICRO n⟩ : TrapFrame) :: u.frames,
      latch := withBit u.latch k false, overruns := u.overruns.set k 0, waiting := false }))
    (hpower : d.powered 2 = true) (hrun : (d.shp n).uc.run = true) (hhold : (d.shp n).uc.holdRun = 0)
    (hdue : (d.shp n).uc.dueTrap = some k) :
    d.takeTrap n = (e.putI F.SHP_UC_STAT_TRAP_DEPTH n (e.shp n).uc.frames.length).setPc n k := by
  subst he
  simp [Dev.takeTrap, hpower, hrun, hhold, hdue]

/-! ### A store reload ends (07 R287, R291, R293) -/

theorem Dev.reloadDone_restarts {d : Dev} {n : Nat} (hreload : (d.shp n).uc.reloading = true) (hfirst : (d.shp n).uc.restarted = false) :
    d.reloadDone n .parity = d.setUc n (fun u => { u with restarted := true }) := by
  simp [Dev.reloadDone, hreload, hfirst]

/-- A copy whose digest is wrong fences the actuator. -/
theorem Dev.reloadDone_fences {d : Dev} {n : Nat} (hreload : (d.shp n).uc.reloading = true) (hdigest : d.copyIntact 0x40 n = false) :
    d.reloadDone n .done = ((d.setUc n (fun u => { u with reloading := false })).fenceActuator n).post 0x1205 [n] := by
  simp [Dev.reloadDone, hreload, hdigest]

/-- Settles O32 (log entries 19 and 36): each clause is a branch of the command's operation. -/
theorem descriptorsTrapsReloads : Obligations.DescriptorsTrapsReloads := by
  refine ⟨fun _ n w => effect_drvRetSelect n w, fun _ n => effect_drvRetTaken n, ?noOffer, ?seeks, fun _ n k => effect_drvRetReady n k, ?readies,
    fun _ n k left => effect_drvRetReturn n k left, ?noPiece, ?drops, fun _ n => effect_trapTake n, ?opensFrame,
    fun _ n o => effect_storeReloadDone n o, ?restarts, ?fences⟩
  case noOffer =>
    intro d n hnone hlive
    exact (effect_drvRetTaken n hlive).of_eq (Dev.drvTaken_none hnone)
  case seeks =>
    intro d n p s e1 e2 e he1 he2 he hoffer hhold hhead hvalid hstate hlive
    exact (effect_drvRetTaken n hlive).of_eq (Dev.drvTaken_seeks he1 he2 he hoffer hhold hhead hvalid hstate)
  case readies =>
    intro d n k p hheld hstage hkind hlive
    exact (effect_drvRetReady n k hlive).of_eq (Dev.drvReady_readies hheld hstage hkind)
  case noPiece =>
    intro d n k left hnone hlive
    exact (effect_drvRetReturn n k left hlive).of_eq (Dev.drvReturn_none _ hnone)
  case drops =>
    intro d n k left p hheld hleft hlive
    exact (effect_drvRetReturn n k left hlive).of_eq (hleft ▸ Dev.drvReturn_drops hheld)
  case opensFrame =>
    intro d n k e he hpower hrun hhold hdue hlive
    exact (effect_trapTake n hlive).of_eq (Dev.takeTrap_opensFrame he hpower hrun hhold hdue)
  case restarts =>
    intro d n o hreload hfirst ho hlive
    exact (effect_storeReloadDone n o hlive).of_eq (ho ▸ Dev.reloadDone_restarts hreload hfirst)
  case fences =>
    intro d n o hreload ho hdigest hlive
    exact (effect_storeReloadDone n o hlive).of_eq (ho ▸ Dev.reloadDone_fences hreload hdigest)

end Sys2Proof.Machine
end

section
/-! SUPPORT. A write to a Loop Engine role's KP (spec/08 R304, R314) as the model performs it, field by field in the order of its register's
row, and the device on which the order matters: it refutes the statement on the Loop Engines. -/

namespace Sys2Proof.Machine

theorem effect_lpeCoefWrite {d : Dev} (r : Fin 23) (off : Fin 64) (v : BitVec 32) (hstop : d.clk.stopped = false) :
    Effect (.lpeCoefWrite r off v) d (d.coefWrite r.val off.val v.toNat) :=
  effect_core (f := fun d => d.coefWrite r.val off.val v.toNat) hstop (fun _ => rfl) rfl

/-- KP of role 7 holds two fields that are written in OPEN or FENCED only: the exponent, then the mantissa. -/
theorem regFind_kpOfRole7 : ∃ row, regFind (0x20050100 + 0x40 * 7 + 0x0C / 4 * 4) = some (row, 7) ∧
    row.places = [⟨F.LPE_L_KP_EXP, 18, .rwo⟩, ⟨F.LPE_L_KP_MANT, 0, .rwo⟩] :=
  ⟨_, rfl, rfl⟩

/-- In OPEN, KP takes its exponent and after it its mantissa. -/
theorem Dev.coefWrite_kpOfRole7 {d : Dev} (v : Nat) (hpower : d.powered 2 = true) (hopen : d.loopState 7 = loopOpenSt) :
    d.coefWrite 7 0x0C v = (d.putI F.LPE_L_KP_EXP 7 (slice v 18 6)).putI F.LPE_L_KP_MANT 7 (slice v 0 18) := by
  obtain ⟨row, hfind, hplaces⟩ := regFind_kpOfRole7
  unfold Dev.coefWrite
  rw [if_neg (by decide), hfind]
  simp [Dev.inPower, hpower, hopen, Dev.writeRow, hplaces, Dev.each, Dev.writeField, F.LPE_L_KP_EXP, F.LPE_L_KP_MANT]

/-- A device whose cells do not rise: KP's mantissa of role 7 stands before LPE_STAT.PATROLS, whose key is the lower. -/
def kpBeforePatrols : Dev := { regs := [⟨F.LPE_L_KP_MANT.key, 7, 1⟩, ⟨F.LPE_STAT_PATROLS.key, 0, 1⟩] }

/-- Refutes O33: its clause on a write to KP in OPEN puts the mantissa before the exponent, the model the exponent before the mantissa. A zero
mantissa takes its cell away, and an exponent goes before the first cell above it, so that the order matters where the cells do not rise: on
`kpBeforePatrols` the exponent's cell comes before that of PATROLS in the model, and after it in the clause. -/
theorem not_loopsOpenCloseAndTick : ¬ Obligations.LoopsOpenCloseAndTick := by
  rintro ⟨-, -, -, -, -, -, -, -, -, -, -, -, -, hkp, -⟩
  have hpower : kpBeforePatrols.powered 2 = true := by decide
  have hopen : kpBeforePatrols.loopState 7 = loopOpenSt := by decide
  have hclause : Effect (.lpeCoefWrite 7 0x0C 0x40000#32) kpBeforePatrols
      ((kpBeforePatrols.putI F.LPE_L_KP_MANT 7 0).putI F.LPE_L_KP_EXP 7 1) :=
    hkp kpBeforePatrols 7 0x0C 0x40000#32 hpower rfl rfl hopen rfl
  have hmodel : Effect (.lpeCoefWrite 7 0x0C 0x40000#32) kpBeforePatrols
      ((kpBeforePatrols.putI F.LPE_L_KP_EXP 7 1).putI F.LPE_L_KP_MANT 7 0) :=
    (effect_lpeCoefWrite 7 0x0C 0x40000#32 rfl).of_eq (Dev.coefWrite_kpOfRole7 0x40000 hpower hopen)
  have hcells := congrArg Dev.regs (hmodel.settle_eq hclause)
  have hne : ((kpBeforePatrols.putI F.LPE_L_KP_EXP 7 1).putI F.LPE_L_KP_MANT 7 0).settle.regs ≠
      ((kpBeforePatrols.putI F.LPE_L_KP_MANT 7 0).putI F.LPE_L_KP_EXP 7 1).settle.regs := by
    decide +kernel
  exact hne hcells

end Sys2Proof.Machine
end

section
/-! SUPPORT. A stream unit's sector attempts (spec/09 R341, R348, R354 to R356, R364, R365, R367): their start, their end and their abandoning,
and from them the statement on all three. -/

namespace Sys2Proof.Machine

/-! ### The effect of each command, performed by the stream's port part of RCH (02 R882) -/

/-- A command of the port part that holds stream `st` has the effect that its meaning gives. -/
theorem effect_stream (c : Instr) {f : Dev → Dev} {d : Dev} {st : Fin 8} (hlive : d.livePort 0x06 (st.val / 2) = true)
    (h : ∀ s : State, exec c s = s.runPort 0x06 (st.val / 2) f := by intro s; unfold exec; rfl) : Effect c d (f d) := effect_port hlive h rfl

theorem effect_sectorAttemptStart {d : Dev} (st : Fin 8) (x : AttemptCodes) (hlive : d.livePort 0x06 (st.val / 2) = true) :
    Effect (.sectorAttemptStart st x) d (d.attemptStart st.val x) :=
  (effect_stream (.sectorAttemptStart st x) hlive :)

theorem effect_sectorAttemptEnd {d : Dev} (st : Fin 8) (parity : Bool) (hlive : d.livePort 0x06 (st.val / 2) = true) :
    Effect (.sectorAttemptEnd st parity) d (d.attemptEnd st.val parity) :=
  (effect_stream (.sectorAttemptEnd st parity) hlive :)

theorem effect_sectorAttemptAbandon {d : Dev} (st cause : Fin 8) (hlive : d.livePort 0x06 (st.val / 2) = true) :
    Effect (.sectorAttemptAbandon st cause) d (d.abandonAttempt st.val (cause.val + 1)) :=
  (effect_stream (.sectorAttemptAbandon st cause) hlive :)

/-! ### An attempt starts (R341, R348, R354 to R356) -/

/-- Stream `s` has begun to read `sec` of piece `p`: the sector is off the piece, what was due is restored and seeded, the adaptive values are
kept, and the attempt has its slot. -/
def Dev.attemptBegun (d : Dev) (s : Nat) (p : Piece) (sec : Sec) : Dev :=
  let d := d.mapPiece p.id (fun q => { q with secs := q.secs.drop 1 })
  let d := d.setFe s (fun f => { f with
    bits := 0, total := 192 + codeBits (d.zone (d.zoneOf p.track)).code, dataRead := true, step := if p.rung = 1 then p.step else 0, hold := 0,
    acquiring := false, eraseRun := 0, clampRun := 0 })
  let d := d.sectorSeeds s p.head p.track
  let d := d.setFe s (fun f => { f with snap := some (d.adaptive s) })
  (((d.setBit F.RCH_STAT_READING s true).incI F.RCH_S_SECTORS_COUNT s).putI F.RCH_S_STAT_PHASE s phTrack).takeSlot s
    ⟨sec, p.head, p.track, p.why, p.rung, p.step⟩

/-- The synthesiser has lost lock at the start (R367): the second loss in a row fences the stream. -/
def Dev.synthLoss (d : Dev) (s : Nat) : Dev :=
  let n := (d.fes s).lossRun + 1
  let e := ((d.setFe s (fun f => { f with lossRun := n })).post 0x2009 [s, d.getI F.RCH_S_SYNTH_RATIO s]).abandonAttempt s 8
  if 2 ≤ n then e.frontFault s 0 0 else e

section
variable {d : Dev} {s : Nat} {x : AttemptCodes} {p : Piece} {sec : Sec}

theorem Dev.attemptStart_of_mayAttempt (hsector : d.sectorToRead s = some (p, sec)) (hmay : d.mayAttempt s = true) :
    d.attemptStart s x =
      if x.synthLost then (d.attemptBegun s p sec).synthLoss s
      else ((d.attemptBegun s p sec).setFe s (fun f => { f with lossRun := 0 })).acquire s x := by
  unfold Dev.attemptStart
  rw [hsector]
  exact if_neg (by simp [hmay])

theorem Dev.attemptStart_idle (h : d.sectorToRead s = none ∨ d.mayAttempt s = false) : d.attemptStart s x = d := by
  unfold Dev.attemptStart
  rcases h with hnone | hmay
  · rw [hnone]
  · split
    · rfl
    · exact if_pos (by simp [hmay])

theorem Dev.synthLoss_first (hrun : (d.fes s).lossRun = 0) :
    d.synthLoss s =
      ((d.setFe s (fun f => { f with lossRun := 1 })).post 0x2009 [s, d.getI F.RCH_S_SYNTH_RATIO s]).abandonAttempt s 8 := by
  unfold Dev.synthLoss
  rw [hrun]
  exact if_neg (by decide)

end

/-! ### An attempt ends (R341, R367) -/

/-- Attempts in a row in which lane `l` was saturated, the one at its end included (R367). -/
def Fe.satCount (f : Fe) (l : Nat) : Nat := if 9 * f.bits ≤ 10 * (at' f.lanes l {}).full then at' f.satRun l 0 + 1 else 0

theorem Fe.satCount_unsaturated {f : Fe} {l : Nat} (h : 10 * (at' f.lanes l {}).full < 9 * f.bits) : f.satCount l = 0 :=
  if_neg (Nat.not_le.mpr h)

theorem Fe.satCount_saturated {f : Fe} {l : Nat} (h : 9 * f.bits ≤ 10 * (at' f.lanes l {}).full) : f.satCount l = at' f.satRun l 0 + 1 :=
  if_pos h

/-- Stream `s` is free again, and its attempt in the slots of slice `q` is complete. -/
def Dev.attemptClosed (d : Dev) (s q : Nat) : Dev :=
  let d := (d.setBit F.RCH_STAT_READING s false).putI F.RCH_S_STAT_PHASE s phIdle
  d.setSlots q ((d.detSlice q).slots.map (fun (a : Attempt) => if a.stream == s && !a.ended then { a with ended := true } else a))

section
variable {d : Dev} {s q : Nat} {parity : Bool}

theorem Dev.attemptEnd_idle (h : d.reading s = false ∨ (d.fes s).bits < (d.fes s).total) : d.attemptEnd s parity = d :=
  if_pos (by simpa using h)

/-- The first fault found at the end, in the order of R367, fences the stream. -/
theorem Dev.attemptEnd_closes (hreading : d.reading s = true) (hdone : (d.fes s).total ≤ (d.fes s).bits)
    (hslice : ((d.setBit F.RCH_STAT_READING s false).putI F.RCH_S_STAT_PHASE s phIdle).sliceOf s = some q) :
    d.attemptEnd s parity =
      (let f := (d.attemptClosed s q).fes s
      let e := ((d.attemptClosed s q).setFe s (fun g => { g with satRun := [f.satCount 0, f.satCount 1] })).pieceDone s
      if 3 ≤ f.satCount 0 then e.frontFault s 1 0
      else if 3 ≤ f.satCount 1 then e.frontFault s 1 1
      else if (at' f.lanes 0 {}).same then e.frontFault s 2 0
      else if (at' f.lanes 1 {}).same then e.frontFault s 2 1
      else if parity then e.frontFault s 3 0
      else e) := by
  unfold Dev.attemptEnd
  rw [if_neg (by simp [hreading, hdone])]
  simp only [hslice]
  rfl

end

/-! ### An attempt is abandoned (R364, R365) -/

theorem Dev.abandonAttempt_idle {d : Dev} {s : Nat} (cause : Nat) (hreading : d.reading s = false) : d.abandonAttempt s cause = d :=
  if_pos (by simp [hreading])

/-- An attempt with a slot is read again at its rung for a crossbar move, and has else failed at its rung. -/
theorem Dev.abandonAttempt_slot {d d1 d2 d3 : Dev} {s cause q : Nat} {a : Attempt}
    (h1 : d1 = (((((d.setBit F.RCH_STAT_READING s false).putI F.RCH_S_STAT_PHASE s phIdle).putI F.RCH_S_STAT_LAST_ABANDON s cause).incI
      F.RCH_S_ABANDON_COUNT s).put F.RCH_INT_STAT_ABANDON 1).post 0x2002 [s, cause, (d.fes s).bits])
    (h2 : d2 = (d1.restoreSnap s 1).pieceDone s)
    (h3 : d3 = d2.setSlots q ((d2.detSlice q).slots.filter (fun (x : Attempt) => x.ended || x.stream != s)))
    (hreading : d.reading s = true) (hslice : d2.sliceOf s = some q)
    (hslot : (d2.detSlice q).slots.find? (fun (a : Attempt) => !a.ended && a.stream == s) = some a) :
    d.abandonAttempt s cause =
      if cause = 5 then d3.fileOp a.op
      else if a.op.why.kind = .verifyRead then d3.readFailed s a.op a.globals
      else (d3.keepSet a).readFailed s a.op a.globals := by
  unfold Dev.abandonAttempt
  rw [if_neg (by simp [hreading])]
  simp only [← h1, ← h2, hslice, hslot, ← h3]

/-- Settles O34 (log entries 19, 81, 82 and 145): each clause is a branch of the command's operation. -/
theorem attemptsStartAndEnd : Obligations.AttemptsStartAndEnd := by
  refine ⟨fun _ st x => effect_sectorAttemptStart st x, ?acquires, ?loses, ?noStart, fun _ st parity => effect_sectorAttemptEnd st parity,
    ?noEnd, ?ends, ?stuck, ?saturated, fun _ st cause => effect_sectorAttemptAbandon st cause, ?noAbandon, ?abandons⟩
  case acquires =>
    rintro d st x p sec _ _ _ _ _ rfl rfl rfl rfl rfl hsector hmay hlock hlive
    exact (effect_sectorAttemptStart st x hlive).of_eq ((Dev.attemptStart_of_mayAttempt hsector hmay).trans (if_neg (by simp [hlock])))
  case loses =>
    rintro d st x p sec _ _ _ _ _ rfl rfl rfl rfl rfl hsector hmay hlost hrun hlive
    have hloss := (Dev.attemptStart_of_mayAttempt hsector hmay).trans (if_pos hlost)
    exact (effect_sectorAttemptStart st x hlive).of_eq (hloss.trans (Dev.synthLoss_first hrun))
  case noStart =>
    intro d st x hidle hlive
    exact (effect_sectorAttemptStart st x hlive).of_eq (Dev.attemptStart_idle hidle)
  case noEnd =>
    intro d st parity hidle hlive
    exact (effect_sectorAttemptEnd st parity hlive).of_eq (Dev.attemptEnd_idle hidle)
  case ends =>
    rintro d st parity q _ _ rfl rfl hreading hdone hslice hlow0 hlow1 hmoves0 hmoves1 hparity hlive
    have hsat0 : ((d.attemptClosed st.val q).fes st.val).satCount 0 = 0 := Fe.satCount_unsaturated hlow0
    have hsat1 : ((d.attemptClosed st.val q).fes st.val).satCount 1 = 0 := Fe.satCount_unsaturated hlow1
    refine (effect_sectorAttemptEnd st parity hlive).of_eq ((Dev.attemptEnd_closes hreading hdone hslice).trans ?_)
    simp only [hsat0, hsat1]
    exact (if_neg (Bool.eq_false_iff.mp hmoves0)).trans
      ((if_neg (Bool.eq_false_iff.mp hmoves1)).trans (if_neg (Bool.eq_false_iff.mp hparity)))
  case stuck =>
    rintro d st parity q _ _ rfl rfl hreading hdone hslice hlow0 hlow1 hstuck hlive
    have hsat0 : ((d.attemptClosed st.val q).fes st.val).satCount 0 = 0 := Fe.satCount_unsaturated hlow0
    have hsat1 : ((d.attemptClosed st.val q).fes st.val).satCount 1 = 0 := Fe.satCount_unsaturated hlow1
    refine (effect_sectorAttemptEnd st parity hlive).of_eq ((Dev.attemptEnd_closes hreading hdone hslice).trans ?_)
    simp only [hsat0, hsat1]
    exact if_pos hstuck
  case saturated =>
    rintro d st parity q _ _ rfl rfl hreading hdone hslice hhigh0 hlow1 hrun hlive
    have hsat0 : ((d.attemptClosed st.val q).fes st.val).satCount 0 = 3 :=
      (Fe.satCount_saturated hhigh0).trans (congrArg (· + 1) hrun)
    have hsat1 : ((d.attemptClosed st.val q).fes st.val).satCount 1 = 0 := Fe.satCount_unsaturated hlow1
    refine (effect_sectorAttemptEnd st parity hlive).of_eq ((Dev.attemptEnd_closes hreading hdone hslice).trans ?_)
    simp only [hsat0, hsat1]
    rfl
  case noAbandon =>
    intro d st cause hreading hlive
    exact (effect_sectorAttemptAbandon st cause hlive).of_eq (Dev.abandonAttempt_idle _ hreading)
  case abandons =>
    intro d st cause q a d1 d2 d3 h1 h2 h3 hreading hslice hslot hlive
    have hmove : cause.val + 1 = 5 ↔ cause.val = 4 := Nat.succ_inj
    refine (effect_sectorAttemptAbandon st cause hlive).of_eq ((Dev.abandonAttempt_slot h1 h2 h3 hreading hslice hslot).trans ?_)
    simp only [hmove]

end Sys2Proof.Machine
end

section
/-! SUPPORT. A stream unit's bits (spec/09 R342, R344 to R347, R351), its servo windows (R335, R336) and the writes of its registers (R354, R367,
R369): what each operation does to the flags, the loops and the gain, and from it the statement on all of them. -/

namespace Sys2Proof.Machine

/-! ### The effect of each command: by the stream's port part, or a register write (02 R81, R82) -/

theorem effect_taFlagChange {d : Dev} (st : Fin 8) (x : BitCodes) (hlive : d.livePort 0x06 (st.val / 2) = true) :
    Effect (.taFlagChange st x) d (d.dataBits st.val x) :=
  (effect_stream (.taFlagChange st x) hlive :)

theorem effect_defectFlagChange {d : Dev} (st : Fin 8) (x : BitCodes) (hlive : d.livePort 0x06 (st.val / 2) = true) :
    Effect (.defectFlagChange st x) d (d.dataBits st.val x) :=
  (effect_stream (.defectFlagChange st x) hlive :)

theorem effect_adaptBlock {d : Dev} (st : Fin 8) (x : BitCodes) (hlive : d.livePort 0x06 (st.val / 2) = true) :
    Effect (.adaptBlock st x) d (d.dataBits st.val x) :=
  (effect_stream (.adaptBlock st x) hlive :)

theorem effect_servoWindowOpen {d : Dev} (st : Fin 8) (hlive : d.livePort 0x06 (st.val / 2) = true) :
    Effect (.servoWindowOpen st) d (d.servoOpen st.val) :=
  (effect_stream (.servoWindowOpen st) hlive :)

theorem effect_servoWindowClose {d : Dev} (st : Fin 8) (hlive : d.livePort 0x06 (st.val / 2) = true) :
    Effect (.servoWindowClose st) d (d.servoClose st.val) :=
  (effect_stream (.servoWindowClose st) hlive :)

theorem effect_rchReseedWrite {d : Dev} (st : Fin 8) (hstop : d.clk.stopped = false) : Effect (.rchReseedWrite st) d (d.rchReseed st.val) :=
  effect_core (f := fun d => d.rchReseed st.val) hstop (fun _ => rfl) rfl

theorem effect_rchFenceWrite {d : Dev} (st : Fin 8) (hstop : d.clk.stopped = false) : Effect (.rchFenceWrite st) d (d.rchFence st.val) :=
  effect_core (f := fun d => d.rchFence st.val) hstop (fun _ => rfl) rfl

theorem effect_rchRwoWrite {d : Dev} (st : Fin 8) (off : Fin 256) (v : BitVec 32) (hstop : d.clk.stopped = false) :
    Effect (.rchRwoWrite st off v) d (d.rchWrite st.val off.val v.toNat) :=
  effect_core (f := fun d => d.rchWrite st.val off.val v.toNat) hstop (fun _ => rfl) rfl

/-! ### A stream that takes no bits (R341) -/

theorem Dev.dataBit_idle {d : Dev} {s : Nat} (a b : Int) (plus : Bool) (h : d.reading s = false ∨ d.getI F.RCH_S_STAT_PHASE s ≠ phTrack) :
    d.dataBit s a b plus = d :=
  if_pos (by rcases h with h | h <;> simp [h])

theorem Dev.dataBits_idle {d : Dev} {s : Nat} (x : BitCodes) (h : d.reading s = false ∨ d.getI F.RCH_S_STAT_PHASE s ≠ phTrack) :
    d.dataBits s x = d := by
  have hbit (c : (Int × Int) × Bool) : d.dataBit s c.1.1 c.1.2 c.2 = d := Dev.dataBit_idle _ _ _ h
  exact List.foldl_fixed' (f := fun (d : Dev) (c : (Int × Int) × Bool) => d.dataBit s c.1.1 c.1.2 c.2) hbit _

/-! ### Flags (R344 to R346) -/

theorem taFlag_width (l : Nat) : (flagField true l).width = 1 := by
  simp only [flagField, if_true]
  split <;> rfl

/-- A field with none of the keys of a thermal-asperity flag is another field. -/
theorem ne_taFlag_key {f : Field} (l : Nat) (hA : f.key ≠ F.RCH_S_STAT_TA_A.key) (hB : f.key ≠ F.RCH_S_STAT_TA_B.key) :
    f.key ≠ (flagField true l).key := by
  simp only [flagField, if_true]
  split <;> assumption

theorem defectFlag_ne_taFlag (l k : Nat) : (flagField false l).key ≠ (flagField true k).key := by
  simp only [flagField, Bool.false_eq_true, if_false]
  split <;> exact ne_taFlag_key k (by decide) (by decide)

/-- With no flag standing each of the four reads 0. -/
theorem Dev.flagField_of_unflagged {d : Dev} {s : Nat} (h : d.flagged s = false) (ta : Bool) (l : Nat) : d.onI (flagField ta l) s = false := by
  simp only [Dev.flagged, Bool.or_eq_false_iff] at h
  obtain ⟨⟨⟨htaA, htaB⟩, hdefA⟩, hdefB⟩ := h
  unfold flagField
  split <;> split <;> assumption

theorem Dev.flagSet_taOn (d : Dev) (s l : Nat) : (d.flagSet s l true).onI (flagField true l) s = true := by
  have hcount : F.RCH_S_FLAGGED_TA.key ≠ (flagField true l).key := ne_taFlag_key l (by decide) (by decide)
  have hint : F.RCH_INT_STAT_TA.key ≠ (flagField true l).key := ne_taFlag_key l (by decide) (by decide)
  calc (d.flagSet s l true).onI (flagField true l) s
    _ = (((d.putI (flagField true l) s 1).incI F.RCH_S_FLAGGED_TA s).put F.RCH_INT_STAT_TA 1).onI (flagField true l) s := rfl
    _ = (d.putI (flagField true l) s 1).onI (flagField true l) s :=
      (Dev.onI_putI_ne _ _ _ _ hint).trans (Dev.onI_putI_ne _ _ _ _ hcount)
    _ = true := by simp [Dev.onI, taFlag_width]

/-- A defect flag that sets leaves the thermal-asperity flags. -/
theorem Dev.flagSet_defect_onI (d : Dev) (s l k : Nat) : (d.flagSet s l false).onI (flagField true k) s = d.onI (flagField true k) s :=
  calc (d.flagSet s l false).onI (flagField true k) s
    _ = (((d.putI (flagField false l) s 1).incI F.RCH_S_FLAGGED_DEFECT s).put F.RCH_INT_STAT_DEFECT 1).onI (flagField true k) s := rfl
    _ = ((d.putI (flagField false l) s 1).incI F.RCH_S_FLAGGED_DEFECT s).onI (flagField true k) s :=
      Dev.onI_putI_ne _ _ _ _ (ne_taFlag_key k (by decide) (by decide))
    _ = (d.putI (flagField false l) s 1).onI (flagField true k) s :=
      Dev.onI_putI_ne _ _ _ _ (ne_taFlag_key k (by decide) (by decide))
    _ = d.onI (flagField true k) s := Dev.onI_putI_ne _ _ _ _ (defectFlag_ne_taFlag l k)

/-- So does one that clears. -/
theorem Dev.flagClear_defect_onI (d : Dev) (s l bits k : Nat) :
    (d.flagClear s l false bits).onI (flagField true k) s = d.onI (flagField true k) s := by
  have hcleared : ((d.putI (flagField false l) s 0).post 0x2004 [s, l, bits]).onI (flagField true k) s = d.onI (flagField true k) s := by
    have hpost := (d.putI (flagField false l) s 0).post_getI (f := flagField true k) 0x2004 [s, l, bits] s
      (ne_taFlag_key k (by decide) (by decide)) (ne_taFlag_key k (by decide) (by decide)) (ne_taFlag_key k (by decide) (by decide))
    exact (congrArg (· != 0) hpost).trans (Dev.onI_putI_ne _ _ _ _ (defectFlag_ne_taFlag l k))
  unfold Dev.flagClear
  simp only [Bool.false_eq_true, if_false]
  split <;> exact hcleared

/-- A lane's flag of one kind after its detector `r` has taken a bit: it clears after 32 bits within the threshold, it sets after `need` past. -/
def Dev.turnFlag (d : Dev) (s l : Nat) (ta : Bool) (r : FlagRun) (need : Nat) : Dev :=
  if d.onI (flagField ta l) s then (if 32 ≤ r.within then d.flagClear s l ta r.bits else d)
  else if need ≤ r.past then d.flagSet s l ta else d

theorem Dev.turnFlag_sets {d : Dev} {s l need : Nat} {ta : Bool} {r : FlagRun} (hoff : d.onI (flagField ta l) s = false) (hpast : need ≤ r.past) :
    d.turnFlag s l ta r need = d.flagSet s l ta :=
  (if_neg (by simp [hoff])).trans (if_pos hpast)

theorem Dev.turnFlag_defect_onI (d : Dev) (s l k : Nat) (r : FlagRun) (need : Nat) :
    (d.turnFlag s l false r need).onI (flagField true k) s = d.onI (flagField true k) s := by
  unfold Dev.turnFlag
  split <;> split
  · exact d.flagClear_defect_onI s l r.bits k
  · rfl
  · exact d.flagSet_defect_onI s l k
  · rfl

/-- The thermal-asperity detector takes the mean of 16 codes against its thresholds; its flag turns before the defect flag. -/
theorem Dev.laneFlags_eq_turnFlag (d : Dev) (s l : Nat) : ∃ (g : Lane → Lane) (df : FlagRun) (within on : Bool),
    d.laneFlags s l = ((d.setLane s l g).turnFlag s l true
      ((at' (d.fes s).lanes l {}).ta.step
        (decide (16 ≤ (d.fes s).seen) && decide (16 * d.taThr s < (sumInt ((at' (d.fes s).lanes l {}).hist.take 16)).natAbs)) within on) 4).turnFlag
      s l false df 1 :=
  ⟨_, _, _, _, rfl⟩

/-- The fourth bit in a row past the threshold sets the flag (R344). -/
theorem Dev.laneFlags_taOn {d : Dev} {s l : Nat} (hoff : d.onI (flagField true l) s = false) (hseen : 16 ≤ (d.fes s).seen)
    (hpast : 16 * d.taThr s < (sumInt ((at' (d.fes s).lanes l {}).hist.take 16)).natAbs) (hrun : (at' (d.fes s).lanes l {}).ta.past = 3) :
    (d.laneFlags s l).onI (flagField true l) s = true := by
  obtain ⟨g, df, within, on, hturn⟩ := d.laneFlags_eq_turnFlag s l
  have hfour : 4 ≤ ((at' (d.fes s).lanes l {}).ta.step
      (decide (16 ≤ (d.fes s).seen) && decide (16 * d.taThr s < (sumInt ((at' (d.fes s).lanes l {}).hist.take 16)).natAbs)) within on).past := by
    simp [FlagRun.step, hseen, hpast, hrun]
  rw [hturn, Dev.turnFlag_defect_onI, Dev.turnFlag_sets (d := d.setLane s l g) hoff hfour, Dev.flagSet_taOn]

/-! ### The loops (R342, R346, R351) -/

theorem Dev.fes_setFe {d : Dev} {s : Nat} (f : Fe → Fe) (h : s < d.fe.length) : (d.setFe s f).fes s = f (d.fes s) := at'_set_self _ _ h

/-- While the loops stand, F is kept and φ advances by F. -/
theorem Dev.timingBit_frozen {d : Dev} {s : Nat} (acq : Bool) (y dd : Int) (h : s < d.fe.length) :
    ((d.timingBit s acq true y dd).fes s).f = (d.fes s).f ∧
      ((d.timingBit s acq true y dd).fes s).phi = ((d.fes s).phi + (d.fes s).f).tmod (2 ^ 24) := by
  unfold Dev.timingBit
  simp only [if_true]
  rw [Dev.fes_setFe _ (by simpa using h)]
  exact ⟨rfl, rfl⟩

theorem Dev.rangeReseed_gain (d : Dev) (s loop lane i : Nat) :
    (d.rangeReseed s loop lane).getI F.RCH_S_LANE_AFE_GAIN i = d.getI F.RCH_S_LANE_AFE_GAIN i :=
  (Dev.post_getI _ _ _ _ (by decide) (by decide) (by decide)).trans (Dev.getI_put_ne _ _ _ (by decide))

/-- Lane A's gain after the gain loop's step, whichever lane's range the step leaves. -/
theorem Dev.gainStep_gainA (d : Dev) (s : Nat) (dg : Int) :
    (d.gainStep s dg).getI F.RCH_S_LANE_AFE_GAIN (2 * s) =
      (clampInt 0 255 ((d.getI F.RCH_S_LANE_AFE_GAIN (2 * s) : Int) - dg)).toNat % 2 ^ 8 := by
  have hput (v w : Nat) : ((d.putI F.RCH_S_LANE_AFE_GAIN (2 * s) v).putI F.RCH_S_LANE_AFE_GAIN (2 * s + 1) w).getI F.RCH_S_LANE_AFE_GAIN (2 * s) =
      v % 2 ^ 8 :=
    (Dev.getI_putI_other _ _ (.inr (by omega))).trans (Dev.getI_putI_self _ _ _ _)
  unfold Dev.gainStep
  dsimp only
  split
  · exact (Dev.rangeReseed_gain _ _ _ _ _).trans (hput _ _)
  · split
    · exact (Dev.rangeReseed_gain _ _ _ _ _).trans (hput _ _)
    · exact hput _ _

theorem clampInt_of_mem {lo hi z : Int} (hlo : lo ≤ z) (hhi : z ≤ hi) : clampInt lo hi z = z :=
  (if_neg (by omega)).trans (if_neg (by omega))

/-- A block moves the gain by its sum divided by 2^MU (R342). -/
theorem Dev.gainBlock_gainA {d : Dev} {s : Nat} {blk : List (Int × Int)} {g : Int}
    (hg : g = (sumInt (blk.map (fun x => x.1 * x.2))).tdiv (2 ^ d.getI F.RCH_S_MU_MU_G s : Nat))
    (hlo : 0 ≤ (d.getI F.RCH_S_LANE_AFE_GAIN (2 * s) : Int) - g) (hhi : (d.getI F.RCH_S_LANE_AFE_GAIN (2 * s) : Int) - g ≤ 255) :
    ((d.gainBlock s blk 0).getI F.RCH_S_LANE_AFE_GAIN (2 * s) : Int) = d.getI F.RCH_S_LANE_AFE_GAIN (2 * s) - g := by
  have hstep : d.gainBlock s blk 0 = d.gainStep s g := congrArg (d.gainStep s) ((if_pos (Nat.zero_le _)).trans hg.symm)
  rw [hstep, Dev.gainStep_gainA, clampInt_of_mem hlo hhi]
  omega

/-! ### Servo windows (R335, R336) -/

/-- With no flag standing none has to clear. -/
theorem Dev.servoOpen_shows {d : Dev} {s : Nat} (hpower : d.powered (3 + s / 2) = true) (hservo : d.getI F.RCH_S_STAT_PHASE s ≠ phServo)
    (hfenced : d.getI F.RCH_S_STAT_PHASE s ≠ phFenced) (hgate : d.gateOn s = false) (hflags : d.flagged s = false) :
    d.servoOpen s =
      (((d.each [0, 1] (fun x l => x.setLane s l (fun y => { y with ta := {}, df := {} }))).setFe s (fun f =>
        { f with prior := d.getI F.RCH_S_STAT_PHASE s, hold := 0, eraseRun := 0, seen := 0 })).putI F.RCH_S_STAT_PHASE s phServo).putI
        F.RCH_S_STAT_FROZEN s 0 := by
  have hnone (ta : Bool) (l : Nat) := Dev.flagField_of_unflagged hflags ta l
  unfold Dev.servoOpen
  rw [if_neg (by simp [hpower, hservo, hfenced])]
  simp [hgate, Dev.each, hnone]

theorem Dev.servoClose_shown {d : Dev} {s : Nat} (hservo : d.getI F.RCH_S_STAT_PHASE s = phServo) :
    d.servoClose s = d.putI F.RCH_S_STAT_PHASE s (if d.reading s then (d.fes s).prior else phIdle) :=
  if_pos hservo

/-! ### Register writes (R354, R367, R369) -/

theorem Dev.inDomain_on {d : Dev} {s : Nat} (f : Dev → Dev) (hpower : d.powered (3 + s / 2) = true) : d.inDomain s f = f d := if_pos hpower

theorem Dev.inDomain_off {d : Dev} {s : Nat} (f : Dev → Dev) (hpower : d.powered (3 + s / 2) = false) :
    d.inDomain s f = d.inc F.CLK_PD_DROPWR_COUNT :=
  if_neg (by simp [hpower])

theorem Dev.rchFence_fences {d : Dev} {s : Nat} (hpower : d.powered (3 + s / 2) = true) (hfenced : d.streamFenced s = false) :
    d.rchFence s = ((d.putI F.RCH_S_CTRL_FENCE s 1).post 0x2008 [s, 4, 0]).fenceStream s := by
  have hkept : (d.putI F.RCH_S_CTRL_FENCE s 1).streamFenced s = d.streamFenced s :=
    congrArg (fun v : Nat => v.testBit s) (d.putI_ne 0 1 (by decide))
  exact (Dev.inDomain_on _ hpower).trans (if_neg (by simp [hkept, hfenced]))

/-- A register of RWO fields alone takes nothing while they may not be written. -/
theorem Dev.writeRow_locked (d : Dev) {row : RegRow} (i v : Nat) (hrwo : ∀ p ∈ row.places, p.access = .rwo) : d.writeRow row i v false = d := by
  unfold Dev.writeRow Dev.each
  generalize row.places = places at hrwo ⊢
  induction places with
  | nil => rfl
  | cons p l ih =>
    obtain ⟨hp, hl⟩ := List.forall_mem_cons.mp hrwo
    have hfield : d.writeField p i v false = d := by simp [Dev.writeField, hp]
    rw [List.foldl_cons, hfield]
    exact ih hl

/-- Outside IDLE a write to such a register is only reported (event 0x200A). -/
theorem Dev.rchWrite_ignored {d : Dev} {s off i : Nat} {row : RegRow} (v : Nat)
    (hrow : regFind (0x20060100 + 0x100 * s + off / 4 * 4) = some (row, i)) (hplaces : row.places ≠ []) (hrwo : ∀ p ∈ row.places, p.access = .rwo) (hpower : d.powered (3 + s / 2) = true)
    (hphase : d.getI F.RCH_S_STAT_PHASE s ≠ phIdle) :
    d.rchWrite s off v = ((d.putI F.RCH_S_STAT_WR_IGN s 1).put F.RCH_INT_STAT_WR_IGN 1).post 0x200A [s, off / 4 * 4] := by
  obtain ⟨p, hp⟩ := List.exists_mem_of_ne_nil _ hplaces
  have hany : row.places.any (fun p => p.access == .rwo) = true := List.any_eq_true.mpr ⟨p, hp, by simp [hrwo p hp]⟩
  unfold Dev.rchWrite
  rw [hrow]
  refine (Dev.inDomain_on _ hpower).trans ?_
  simp [hphase, hany, d.writeRow_locked i v hrwo]

/-- TLOOP of stream 3 holds RWO fields alone. -/
theorem regFind_tloopOfStream3 : ∃ row, regFind (0x20060100 + 0x100 * 3 + 0x18 / 4 * 4) = some (row, 3) ∧
    row.places = [⟨F.RCH_S_TLOOP_LOCK_THR, 16, .rwo⟩, ⟨F.RCH_S_TLOOP_KI_TRK, 12, .rwo⟩, ⟨F.RCH_S_TLOOP_KP_TRK, 8, .rwo⟩,
      ⟨F.RCH_S_TLOOP_KI_ACQ, 4, .rwo⟩, ⟨F.RCH_S_TLOOP_KP_ACQ, 0, .rwo⟩] :=
  ⟨_, rfl, rfl⟩

/-- Settles O35 (log entries 19, 33, 82 and 145): each clause on a command is a branch of its operation, the others say what a bit's parts do. -/
theorem flagsWindowsAndStreamWrites : Obligations.FlagsWindowsAndStreamWrites := by
  refine ⟨fun _ st x => effect_taFlagChange st x, ?noTaBits, fun _ st x => effect_defectFlagChange st x, ?noDefectBits,
    fun _ st x => effect_adaptBlock st x, ?oneBit, fun _ _ _ => ⟨rfl, rfl⟩, ?flagClears, fun _ _ _ hoff hseen hpast hrun _ _ =>
    Dev.laneFlags_taOn hoff hseen hpast hrun, fun _ _ acq y dd h => Dev.timingBit_frozen acq y dd h, fun _ _ _ _ => Dev.gainBlock_gainA,
    fun _ st => effect_servoWindowOpen st, ?opens, fun _ st => effect_servoWindowClose st, ?closesReading, ?closesIdle,
    fun _ st => effect_rchReseedWrite st, ?reseeds, fun _ st => effect_rchFenceWrite st, ?fences, ?fenceDropped,
    fun _ st off v => effect_rchRwoWrite st off v, ?ignored⟩
  case noTaBits =>
    intro d st x hreading hlive
    exact (effect_taFlagChange st x hlive).of_eq (Dev.dataBits_idle x (.inl hreading))
  case noDefectBits =>
    intro d st x hphase hlive
    exact (effect_defectFlagChange st x hlive).of_eq (Dev.dataBits_idle x (.inr hphase))
  case oneBit =>
    rintro d st _ a b plus rfl hlive
    exact (effect_adaptBlock st ⟨[a], [b], [plus]⟩ hlive :)
  case flagClears =>
    rintro d _ s bits rfl
    rfl
  case opens =>
    intro d st hpower hservo hfenced hgate hflags hlive
    exact (effect_servoWindowOpen st hlive).of_eq (Dev.servoOpen_shows hpower hservo hfenced hgate hflags)
  case closesReading =>
    intro d st hservo hreading hlive
    exact (effect_servoWindowClose st hlive).of_eq ((Dev.servoClose_shown hservo).trans (by rw [if_pos hreading]))
  case closesIdle =>
    intro d st hservo hreading hlive
    exact (effect_servoWindowClose st hlive).of_eq ((Dev.servoClose_shown hservo).trans (by simp [hreading]))
  case reseeds =>
    intro d st hpower hstop
    exact (effect_rchReseedWrite st hstop).of_eq (Dev.inDomain_on _ hpower)
  case fences =>
    intro d st hpower hfenced hstop
    exact (effect_rchFenceWrite st hstop).of_eq (Dev.rchFence_fences hpower hfenced)
  case fenceDropped =>
    intro d st hpower hstop
    exact (effect_rchFenceWrite st hstop).of_eq (Dev.inDomain_off _ hpower)
  case ignored =>
    rintro d _ _ v rfl rfl hpower hphase hstop
    obtain ⟨row, hrow, hplaces⟩ := regFind_tloopOfStream3
    refine (effect_rchRwoWrite 3 0x18 v hstop).of_eq (Dev.rchWrite_ignored v.toNat hrow ?_ ?_ hpower hphase)
    · simp [hplaces]
    · simp [hplaces]

end Sys2Proof.Machine
end

section
/-! SUPPORT. The codeword that the write path forms (spec/10 R382 to R385; 11 R423): it grows row by row, each row's parity bits stand on its
diagonal and settle that row's checks, and later rows leave them alone; from it the statement on every check. -/

namespace Sys2Proof.Machine

/-! ### Parities -/

@[simp] theorem parityAt_append_singleton (w : Array Bool) (l : List Nat) (i : Nat) :
    parityAt w (l ++ [i]) = (parityAt w l != w.getD i false) := by
  simp [parityAt]

/-- A parity does not depend on the order of its places. -/
theorem parityAt_perm (w : Array Bool) {l m : List Nat} (h : l.Perm m) : parityAt w l = parityAt w m :=
  h.foldl_eq' (fun x _ y _ z => Bool.xor_right_comm z (w.getD x false) (w.getD y false)) false

/-- A word that goes on from another has its bits. -/
theorem getD_of_prefix {u w : Array Bool} (h : u.toList <+: w.toList) {i : Nat} (hi : i < u.size) : w.getD i false = u.getD i false := by
  have hbit : w[i]? = u[i]? := by
    rw [← Array.getElem?_toList, ← Array.getElem?_toList, List.prefix_iff_getElem?.mp h i hi, List.getElem?_eq_getElem]
  simp [Array.getD_eq_getD_getElem?, hbit]

/-- It has the parities at places of the other. -/
theorem parityAt_of_prefix {u w : Array Bool} (h : u.toList <+: w.toList) {places : List Nat} (hplaces : ∀ i ∈ places, i < u.size) :
    parityAt w places = parityAt u places :=
  List.foldl_ext _ _ false fun p i hi => by rw [getD_of_prefix h (hplaces i hi)]

/-! ### A base row: its diagonal and the rest (R385) -/

/-- The entries of base row `j` off its parity column. -/
def CodeRec.offDiagonal (c : CodeRec) (j : Nat) : List (Nat × Nat) := (c.row j).filter (fun e => e.1 != 1028 + j)

section
variable {c : CodeRec} {j : Nat}

theorem CodeRec.mem_row {e : Nat × Nat} : e ∈ c.row j ↔ (e.1, j, e.2) ∈ c.edges := by
  simp [CodeRec.row, Prod.ext_iff]

/-- A record that repeats no place has no column twice in a row. -/
theorem CodeRec.row_columns_nodup (hplaces : (c.edges.map (fun e => (e.1, e.2.1))).Nodup) : ((c.row j).map Prod.fst).Nodup := by
  have hrow : ((c.edges.filter (fun e => e.2.1 == j)).map (fun e => (e.1, e.2.1))).Nodup := hplaces.sublist (List.filter_sublist.map _)
  have hpairs : (c.edges.filter (fun e => e.2.1 == j)).map (fun e => (e.1, e.2.1)) = ((c.row j).map Prod.fst).map (fun k => (k, j)) := by
    simp only [CodeRec.row, List.map_map]
    exact List.map_congr_left fun e he => by simpa using (List.mem_filter.mp he).2
  rw [hpairs] at hrow
  exact hrow.of_map _

/-- The entry on the diagonal is the row's one entry in its parity column. -/
theorem CodeRec.row_perm (hdiag : (1028 + j, j, 0) ∈ c.edges) (hplaces : (c.edges.map (fun e => (e.1, e.2.1))).Nodup) :
    (c.row j).Perm (c.offDiagonal j ++ [(1028 + j, 0)]) := by
  have hcols : ((c.row j).map Prod.fst).Nodup := CodeRec.row_columns_nodup hplaces
  have hmem : (1028 + j, 0) ∈ c.row j := CodeRec.mem_row.mpr hdiag
  have hrest : (c.row j).erase (1028 + j, 0) = c.offDiagonal j := by
    rw [(hcols.of_map _).erase_eq_filter]
    refine List.filter_congr fun e he => ?_
    have hcol : e = (1028 + j, 0) ↔ e.1 = 1028 + j := ⟨fun h => by rw [h], List.inj_on_of_nodup_map hcols he hmem⟩
    simp only [bne, beq_eq_decide, hcol]
  exact (List.perm_cons_erase hmem).trans (by rw [hrest]; exact (List.perm_append_singleton _ _).symm)

/-- A check is its places off the diagonal and its own parity bit. -/
theorem CodeRec.parityAt_row (hdiag : (1028 + j, j, 0) ∈ c.edges) (hplaces : (c.edges.map (fun e => (e.1, e.2.1))).Nodup) (w : Array Bool)
    {t : Nat} (ht : t < 32) :
    parityAt w (checkBits (c.row j) t) = (parityAt w (checkBits (c.offDiagonal j) t) != w.getD (32 * (1028 + j) + t) false) := by
  have hperm : (checkBits (c.row j) t).Perm (checkBits (c.offDiagonal j) t ++ [32 * (1028 + j) + t]) := by
    simpa [checkBits, Nat.mod_eq_of_lt ht] using (CodeRec.row_perm hdiag hplaces).map (fun e => 32 * e.1 + (t + e.2) % 32)
  rw [parityAt_perm w hperm, parityAt_append_singleton]

/-- With no entry below a parity column's diagonal, the other places of row `j` lie before the row's own parity bits. -/
theorem CodeRec.offDiagonal_places_lt (hbelow : ∀ e ∈ c.edges, e.1 ≤ 1028 + e.2.1) (t : Nat) :
    ∀ i ∈ checkBits (c.offDiagonal j) t, i < 32 * (1028 + j) := by
  intro i hi
  obtain ⟨e, he, rfl⟩ := List.mem_map.mp hi
  obtain ⟨hrow, hoff⟩ := List.mem_filter.mp he
  have hle : e.1 ≤ 1028 + j := hbelow _ (CodeRec.mem_row.mp hrow)
  have hne : e.1 ≠ 1028 + j := by simpa using hoff
  omega

end

/-! ### The codeword row by row (R385; 11 R423) -/

/-- The parity bits of base row `j`, from the bits before them. -/
def CodeRec.rowParity (c : CodeRec) (w : Array Bool) (j : Nat) : List Bool := (List.range 32).map (fun t => parityAt w (checkBits (c.offDiagonal j) t))

/-- The codeword after its first `n` base rows. -/
def CodeRec.encodeRows (c : CodeRec) (data : List Bool) (n : Nat) : Array Bool :=
  (List.range n).foldl (fun w j => w ++ (c.rowParity w j).toArray) data.toArray

theorem CodeRec.encode_eq (c : CodeRec) (data : List Bool) : c.encode data = c.encodeRows data c.rows := rfl

section
variable (c : CodeRec) {data : List Bool}

@[simp] theorem CodeRec.encodeRows_zero : c.encodeRows data 0 = data.toArray := rfl

theorem CodeRec.encodeRows_succ (n : Nat) :
    c.encodeRows data (n + 1) = c.encodeRows data n ++ (c.rowParity (c.encodeRows data n) n).toArray := by
  simp [CodeRec.encodeRows, List.range_succ]

theorem CodeRec.encodeRows_size (hdata : data.length = infoBits) (n : Nat) : (c.encodeRows data n).size = 32 * (1028 + n) := by
  induction n with
  | zero => simpa [infoBits] using hdata
  | succ n ih =>
    rw [CodeRec.encodeRows_succ, Array.size_append, ih, List.size_toArray, CodeRec.rowParity, List.length_map, List.length_range]
    omega

/-- Later rows leave the bits there are. -/
theorem CodeRec.encodeRows_prefix {m n : Nat} (h : m ≤ n) : (c.encodeRows data m).toList <+: (c.encodeRows data n).toList := by
  induction n, h using Nat.le_induction with
  | base => exact List.prefix_refl _
  | succ n _ ih =>
    rw [CodeRec.encodeRows_succ, Array.toList_append]
    exact ih.trans (List.prefix_append _ _)

variable {c}

/-- Once row `j` is done, its parity bit `t` is the parity of the rest of its check. -/
theorem CodeRec.encodeRows_parityBit (hdata : data.length = infoBits) (j : Nat) {t : Nat} (ht : t < 32) :
    (c.encodeRows data (j + 1)).getD (32 * (1028 + j) + t) false = parityAt (c.encodeRows data j) (checkBits (c.offDiagonal j) t) := by
  have hsize : (c.encodeRows data j).size = 32 * (1028 + j) := CodeRec.encodeRows_size c hdata j
  rw [CodeRec.encodeRows_succ, Array.getD_eq_getD_getElem?, Array.getElem?_append_right (by omega), hsize]
  simp [CodeRec.rowParity, ht]

/-- The checks of row `j` hold from then on. -/
theorem CodeRec.encodeRows_check {j n t : Nat} (hdata : data.length = infoBits) (hdiag : (1028 + j, j, 0) ∈ c.edges)
    (hbelow : ∀ e ∈ c.edges, e.1 ≤ 1028 + e.2.1) (hplaces : (c.edges.map (fun e => (e.1, e.2.1))).Nodup) (hj : j < n) (ht : t < 32) :
    parityAt (c.encodeRows data n) (checkBits (c.row j) t) = false := by
  have hrest : parityAt (c.encodeRows data n) (checkBits (c.offDiagonal j) t) =
      parityAt (c.encodeRows data j) (checkBits (c.offDiagonal j) t) :=
    parityAt_of_prefix (c.encodeRows_prefix (by omega))
      (by rw [CodeRec.encodeRows_size c hdata]; exact CodeRec.offDiagonal_places_lt hbelow t)
  have hbit : (c.encodeRows data n).getD (32 * (1028 + j) + t) false = parityAt (c.encodeRows data j) (checkBits (c.offDiagonal j) t) :=
    (getD_of_prefix (c.encodeRows_prefix hj) (by rw [CodeRec.encodeRows_size c hdata]; omega)).trans
      (CodeRec.encodeRows_parityBit hdata j ht)
  rw [CodeRec.parityAt_row hdiag hplaces _ ht, hrest, hbit, bne_self_eq_false]

end

/-! ### The checks left (R384) -/

theorem rowUnsat_eq_zero {w : Array Bool} {row : List (Nat × Nat)} (h : ∀ t < 32, parityAt w (checkBits row t) = false) : rowUnsat w row = 0 := by
  simpa [rowUnsat] using h

theorem CodeRec.unsat_eq_zero {c : CodeRec} {w : Array Bool} (h : ∀ j < c.rows, ∀ t < 32, parityAt w (checkBits (c.row j) t) = false) :
    c.unsat w = 0 := by
  refine List.sum_eq_zero fun x hx => ?_
  simp only [CodeRec.baseRows, List.map_map, List.mem_map, List.mem_range, Function.comp_apply] at hx
  obtain ⟨j, hj, rfl⟩ := hx
  exact rowUnsat_eq_zero (h j hj)

/-- Settles O16 (log entries 143 and 144), by the rows of the code: each row's parity bits settle its checks, and later rows leave them. -/
theorem codewordsSatisfyEveryCheck : Obligations.CodewordsSatisfyEveryCheck := by
  intro c data hdata hdiag hbelow hplaces
  rw [CodeRec.encode_eq]
  refine ⟨CodeRec.encodeRows_size c hdata c.rows, ?_, ?_⟩
  · have hprefix : data <+: (c.encodeRows data c.rows).toList := c.encodeRows_prefix (Nat.zero_le _)
    rw [← hdata]
    exact (List.prefix_iff_eq_take.mp hprefix).symm
  · exact CodeRec.unsat_eq_zero fun j hj t ht => CodeRec.encodeRows_check hdata (hdiag j hj) hbelow hplaces hj ht

end Sys2Proof.Machine
end

section
/-! SUPPORT. The detector's slices (spec/10 R386 to R396, R400, R403, R411, R412; 11 R443): framing, the end of an attempt's global iteration, its
judging, off-line jobs, the known-answer test and FENCE; from them the statement on all of them. -/

namespace Sys2Proof.Machine

/-! ### The effect of each command: by the slices' island, or a register write (02 R72, R81) -/

/-- A command of the slices' island has the effect that its meaning gives. -/
theorem effect_slices (c : Instr) {f : Dev → Dev} {d : Dev} (hlive : d.live 0x07 = true)
    (h : ∀ s : State, exec c s = s.runIsland 0x07 f := by intro s; unfold exec; rfl) : Effect c d (f d) := effect_island hlive h rfl

theorem effect_syncFraming {d : Dev} (q : Fin 9) (hlive : d.live 0x07 = true) : Effect (.syncFraming q) d (d.frame q.val) :=
  (effect_slices (.syncFraming q) hlive :)

theorem effect_globalIterationEnd {d : Dev} (q : Fin 9) (fault : DecodeFault) (hlive : d.live 0x07 = true) :
    Effect (.globalIterationEnd q fault) d (d.passEnd q.val false fault) :=
  (effect_slices (.globalIterationEnd q fault) hlive :)

/-- VERIFY_READ ends the pass of a verify read on the slice that holds the stream (11 R443). -/
def Dev.verifyEnd (d : Dev) (st : Nat) (fault : DecodeFault) : Dev :=
  match d.sliceOf st with
  | some q => d.passEnd q true fault
  | none => d

theorem Dev.verifyEnd_on {d : Dev} {st q : Nat} (fault : DecodeFault) (hslice : d.sliceOf st = some q) :
    d.verifyEnd st fault = d.passEnd q true fault := by
  simp [Dev.verifyEnd, hslice]

theorem effect_verifyRead {d : Dev} (st : Fin 8) (fault : DecodeFault) (hlive : d.live 0x07 = true) :
    Effect (.verifyRead st fault) d (d.verifyEnd st.val fault) :=
  (effect_slices (f := fun d => d.verifyEnd st.val fault) (.verifyRead st fault) hlive :)

theorem effect_offlineDecodeStart {d : Dev} (hlive : d.live 0x07 = true) : Effect .offlineDecodeStart d d.offlineStart :=
  effect_slices .offlineDecodeStart hlive

theorem effect_offlineDecodeEnd {d : Dev} (q : Fin 9) (fault : DecodeFault) (hlive : d.live 0x07 = true) :
    Effect (.offlineDecodeEnd q fault) d (d.offlineEnd q.val fault) :=
  (effect_slices (.offlineDecodeEnd q fault) hlive :)

theorem effect_katDue {d : Dev} (q : Fin 9) (hlive : d.live 0x07 = true) : Effect (.katDue q) d (d.katDue q.val) :=
  (effect_slices (.katDue q) hlive :)

theorem effect_katDone {d : Dev} (q : Fin 9) (right : Bool) (hlive : d.live 0x07 = true) :
    Effect (.katDone q right) d (d.katDone q.val right) :=
  (effect_slices (.katDone q right) hlive :)

theorem effect_detKatWrite {d : Dev} (q : Fin 9) (hstop : d.clk.stopped = false) : Effect (.detKatWrite q) d (d.detKat q.val) :=
  effect_core (f := fun d => d.detKat q.val) hstop (fun _ => rfl) rfl

theorem effect_detFenceWrite {d : Dev} (q : Fin 9) (hstop : d.clk.stopped = false) : Effect (.detFenceWrite q) d (d.detFence q.val) :=
  effect_core (f := fun d => d.detFence q.val) hstop (fun _ => rfl) rfl

/-! ### Framing (R386, R387) -/

/-- The Y of the words that the framing of an attempt reads. -/
def Attempt.frameYs (a : Attempt) : List Int := (a.words.reverse.take framingWords).map (fun w => sampleY (storedSample w))

/-- The hard decisions of an attempt's framing (R386). -/
def Dev.frameBits (d : Dev) (a : Attempt) : List Bool :=
  hardDecisions (branchOuts (d.target5 a.stream)) (List.replicate 16 ⟨0, []⟩) a.frameYs

theorem Attempt.frameYs_fold (a : Attempt) :
    (a.words.reverse.take framingWords).map (fun w => sampleY (storedSample w)) = a.frameYs := rfl

theorem Dev.frameBits_fold (d : Dev) (a : Attempt) :
    hardDecisions (branchOuts (d.target5 a.stream)) (List.replicate 16 ⟨0, []⟩) a.frameYs = d.frameBits a := rfl

/-- The registers and the event of a framing whose wide search `m` found no mark. -/
def Dev.unframedShown (d : Dev) (q : Nat) (a : Attempt) (m : Marks) : Dev :=
  let d := (d.putI F.DET_Q_FRAME_RESULT q 5).putI F.DET_Q_NSCALE_NSCALE q (noiseScale (d.target5 a.stream) (intAt a.frameYs))
  let d := (d.putI F.DET_Q_FRAME_SM1_OFF q 0x80).putI F.DET_Q_FRAME_SM2_OFF q 0x80
  let d := (d.putI F.DET_Q_FRAME_SM1_DIST q (min 15 m.d1)).putI F.DET_Q_FRAME_SM2_DIST q (min 15 m.d2)
  (d.incI F.DET_Q_SYNC_WIDE q).post 0x2103 [a.stream, a.op.head, a.op.track]

section
variable {d : Dev} {q : Nat} {a : Attempt}

theorem Dev.frame_noAttempt (hnone : (d.detSlice q).slots.find? (fun (a : Attempt) => a.start.isNone) = none) : d.frame q = d := by
  simp [Dev.frame, hnone]

theorem Dev.frame_early (hfind : (d.detSlice q).slots.find? (fun (a : Attempt) => a.start.isNone) = some a)
    (hwords : a.words.length < 224) : d.frame q = d := by
  simp [Dev.frame, hfind, framingWords, hwords]

theorem Marks.start_of_none {m : Marks} (h1 : m.o1 = none) (h2 : m.o2 = none) : m.start = none := by
  simp [Marks.start, h1, h2]

/-- Marks found in neither window: codeword start 160, result 5 and event 0x2103 (R387). -/
theorem Dev.frame_noMarks {m : Marks} (hpower : d.powered 7 = true) (hstate : d.sliceState q ≠ slFailed)
    (hfind : (d.detSlice q).slots.find? (fun (a : Attempt) => a.start.isNone) = some a) (hrung : a.op.rung ≠ 1)
    (hwords : framingWords ≤ a.words.length) (hnear : (findMarks (d.frameBits a) (d.policy 0x2107 8) (d.policy 0x2106 2)).start = none)
    (hwide : findMarks (d.frameBits a) (d.policy 0x2108 32) (d.policy 0x2106 2) = m) (h1 : m.o1 = none) (h2 : m.o2 = none) :
    d.frame q = (d.unframedShown q a m).setSlots q ((d.detSlice q).slots.map (fun (y : Attempt) =>
      if y == a then { y with start := some 160, nscale := noiseScale (d.target5 a.stream) (intAt a.frameYs) } else y)) := by
  have hstart : m.start = none := Marks.start_of_none h1 h2
  unfold Dev.frame Dev.unframedShown
  rw [if_neg (by simp [hpower, hstate])]
  simp only [hfind, Attempt.frameYs_fold, Dev.frameBits_fold]
  simp [Nat.not_lt.mpr hwords, hrung, hnear, hwide, hstart, h1, h2, offCode]

end

/-! ### The end of a global iteration (R393 to R396; 11 R443) -/

/-- An attempt after one more global iteration. -/
def Attempt.iterated (a : Attempt) (p : GlobalPass) : Attempt :=
  { a with globals := a.globals + 1, locals := a.locals + p.locals, apriori := p.apriori }

def Attempt.decoded (a : Attempt) (p : GlobalPass) : DecodePass := p.ends a.op (a.iterated p).locals

def Dev.passJudged (d : Dev) (a : Attempt) (p : GlobalPass) : Judged :=
  judge a.op (a.decoded p) (a.iterated p).globals (d.attemptCap a)

/-- The slots and registers of slice `q` after global iteration `p` of the attempt `a` in front of `l`. -/
def Dev.passShown (d : Dev) (q : Nat) (a : Attempt) (l : List Attempt) (p : GlobalPass) : Dev :=
  (d.setSlots q (a.iterated p :: l)).decodeShown q a.stream a.op (a.decoded p) (a.iterated p).globals (a.iterated p).locals (d.passJudged a p)

/-- What follows a global iteration that is shown: a slice fault, or the attempt goes on or has come out as `j`. -/
def Dev.passCloses (d : Dev) (q : Nat) (a : Attempt) (x : DecodePass) (j : Judged) : DecodeFault → Dev
  | .parity => d.sliceFault q 0
  | .overrun => d.sliceFault q 1
  | .none => if j = .goesOn then d else d.attemptJudged q a x j

section
variable {d : Dev} {q n : Nat} {verify : Bool} {fault : DecodeFault} {a : Attempt} {l : List Attempt} {p : GlobalPass}

theorem Dev.passEnd_shown (hslots : (d.detSlice q).slots = a :: l) (hpower : d.powered 7 = true) (hstate : d.sliceState q ≠ slFailed)
    (hended : a.ended = true) (hstart : a.start = some n)
    (hp : p = d.globalIter a.stream a.op (a.words.reverse.map storedSample).toArray a.nscale n a.apriori)
    (hkind : (a.op.why.kind == .verifyRead) = verify) :
    d.passEnd q verify fault = (d.passShown q a l p).passCloses q (a.iterated p) (a.decoded p) (d.passJudged a p) fault := by
  unfold Dev.passEnd
  simp only [hslots]
  rw [if_neg (by simp [hpower, hstate, hended, hkind])]
  simp only [Dev.passShown, Dev.passJudged, Attempt.decoded, Attempt.iterated, hstart, ← hp]
  rfl

/-- A pass of the other kind of read is none that the command ends. -/
theorem Dev.passEnd_otherKind (hslots : (d.detSlice q).slots = a :: l) (hkind : (a.op.why.kind == .verifyRead) ≠ verify) :
    d.passEnd q verify fault = d := by
  unfold Dev.passEnd
  simp only [hslots]
  exact if_pos (by simp [hkind])

end

/-! ### The judging of a decode (R394, R395) -/

section
variable {op : ReadOp} {x : DecodePass} {g cap : Nat}

theorem judge_unsatisfied (h : x.satisfied = false) : judge op x g cap = if g < cap then .goesOn else .failed := by
  simp [judge, h]

theorem judge_released (h : judge op x g cap = .released) :
    x.satisfied = true ∧ crc64 (x.bytes.take 4096) / 2 ^ 32 = crcfOf x.bytes ∧ (op.sec.lba = anyTag ∨ tagOf x.bytes = op.sec.lba) := by
  have hsat : x.satisfied = true := by
    by_contra hunsat
    rw [judge_unsatisfied (Bool.eq_false_iff.mpr hunsat)] at h
    split at h <;> contradiction
  unfold judge at h
  rw [if_neg (by simp [hsat])] at h
  split_ifs at h with hcrc htag
  exact ⟨hsat, by simpa using hcrc, by simpa [or_iff_not_imp_left] using htag⟩

theorem Dev.attemptJudged_released {d : Dev} {q : Nat} {a : Attempt} (hkind : a.op.why.kind ≠ .verifyRead) :
    d.attemptJudged q a x .released =
      ((d.setSlots q ((d.detSlice q).slots.filter (fun y => y != a))).rungRelease a.stream a.op 0 0 (x.bytes.take 4096)).released a.op
        (x.bytes.take 4096) :=
  (if_neg hkind).trans (if_pos rfl)

end

/-! ### Off-line jobs (R400, R403) -/

section
variable {d : Dev} {q : Nat} {fault : DecodeFault} {j : Job}

theorem Dev.offlineStart_takes (hpower : d.powered 7 = true) (hjob : d.det.jobs.find? (fun (j : Job) => j.slice.isNone) = some j)
    (hslice : d.offlineSlice = some q) :
    d.offlineStart = (d.setJobs (d.det.jobs.map (fun (y : Job) => if y.id == j.id then { y with slice := some q } else y))).showSlice q := by
  simp [Dev.offlineStart, hpower, hjob, hslice]

theorem Dev.offlineEnd_noJob (hnone : d.det.jobs.find? (fun (j : Job) => j.slice == some q) = none) : d.offlineEnd q fault = d := by
  simp [Dev.offlineEnd, hnone]

/-- A deferred decode ends: its sector is released, or climbs the rungs. -/
theorem Dev.offlineEnd_deferred {e : Dev} {r : DecodePass × Nat} {v : Judged}
    (he : e = (d.decodeShown q j.stream j.op r.1 r.2 r.1.locals v).jobEnds j q)
    (hjob : d.det.jobs.find? (fun (j : Job) => j.slice == some q) = some j) (hpower : d.powered 7 = true) (hstate : d.sliceState q = slOffline)
    (hrung : j.rung2 = false) (hdecode : d.jobDecode j = r) (hjudge : judge j.op r.1 r.2 0 = v) :
    d.offlineEnd q .none = if v = .released then (e.rungRelease j.stream j.op 0 0 (r.1.bytes.take 4096)).released j.op (r.1.bytes.take 4096)
      else (e.firstFailure j.stream j.op).readFailed j.stream j.op r.2 := by
  subst he hjudge hdecode
  unfold Dev.offlineEnd
  simp only [hjob]
  rw [if_neg (by simp [hpower, hstate])]
  exact if_pos (by simp [hrung])

/-- A deferred decode whose set was not kept decodes nothing (R402). -/
theorem Dev.jobDecode_noSets (hrung : j.rung2 = false) (hsets : d.det.sets = []) : d.jobDecode j = (⟨false, 0, 0, []⟩, 0) := by
  simp [Dev.jobDecode, Dev.jobSet, hrung, hsets]

end

/-! ### The known-answer test and FENCE (R411, R412) -/

section
variable {d : Dev} {q : Nat}

theorem Dev.katDue_shown (hpower : d.powered 7 = true) (hstate : d.sliceState q ≠ slFailed) :
    d.katDue q =
      ({ d with det := { d.det with slices := d.det.slices.modify q (fun (x : Slice) => { x with katDue := true }) } } : Dev).showSlice q :=
  if_neg (by simp [hpower, hstate])

theorem Dev.katDone_shown {right : Bool} {e : Dev}
    (he : e = ((({ d with det := { d.det with slices := d.det.slices.modify q (fun (x : Slice) => { x with katDue := false }) } } : Dev).putI
      F.DET_Q_KAT_AGE q 0).showSlice q))
    (hpower : d.powered 7 = true) (hstate : d.sliceState q = slKat) :
    d.katDone q right = if right then e.incI F.DET_Q_KAT_PASSES q else e.sliceFault q 2 := by
  subst he
  exact if_neg (by simp [hpower, hstate])

theorem Dev.inPower_on (f : Dev → Dev) {dom : Nat} (hpower : d.powered dom = true) : d.inPower dom f = f d := if_pos hpower

theorem Dev.inPower_off (f : Dev → Dev) {dom : Nat} (hpower : d.powered dom = false) : d.inPower dom f = d.inc F.CLK_PD_DROPWR_COUNT :=
  if_neg (by simp [hpower])

end

/-- Settles O36 (log entries 19, 81, 142, 144 and 146): each clause on a command is a branch of its operation, the others say how a decode is
judged. -/
theorem slicesFrameDecodeAndTest : Obligations.SlicesFrameDecodeAndTest := by
  refine ⟨fun _ q => effect_syncFraming q, ?noAttempt, ?early, ?noMarks, fun _ q fault => effect_globalIterationEnd q fault, ?passes, ?parity,
    fun _ st fault => effect_verifyRead st fault, ?verifies, ?noVerify, fun _ _ _ _ => judge_released, fun _ _ _ _ => judge_unsatisfied,
    ?releases, fun _ => effect_offlineDecodeStart, ?starts, fun _ q fault => effect_offlineDecodeEnd q fault, ?jobEnds, ?noJob,
    fun _ _ => Dev.jobDecode_noSets, fun _ q => effect_katDue q, ?due, fun _ q => effect_detKatWrite q, ?katWrite,
    fun _ q right => effect_katDone q right, ?katEnds, fun _ q => effect_detFenceWrite q, ?fences, ?fenceDropped⟩
  case noAttempt =>
    intro d q _ hnone hlive
    exact (effect_syncFraming q hlive).of_eq (Dev.frame_noAttempt hnone)
  case early =>
    intro d q a hfind hwords hlive
    exact (effect_syncFraming q hlive).of_eq (Dev.frame_early hfind hwords)
  case noMarks =>
    rintro d q a _ _ m _ _ rfl rfl hpower hstate hfind hrung hwords rfl rfl hnear hwide h1 h2 hlive
    exact (effect_syncFraming q hlive).of_eq (Dev.frame_noMarks hpower hstate hfind hrung hwords hnear hwide h1 h2)
  case passes =>
    rintro d q _ a _ l p n _ rfl hslots hpower hstate hended hstart hp rfl hkind rfl hlive
    exact (effect_globalIterationEnd q .none hlive).of_eq (Dev.passEnd_shown hslots hpower hstate hended hstart hp (by simp [hkind]))
  case parity =>
    rintro d q _ a _ l p n _ rfl hslots hpower hstate hended hstart hp rfl hkind rfl hlive
    exact (effect_globalIterationEnd q .parity hlive).of_eq (Dev.passEnd_shown hslots hpower hstate hended hstart hp (by simp [hkind]))
  case verifies =>
    rintro d st _ q a _ l p n _ rfl hslice hslots hpower hstate hended hstart hp rfl hkind rfl hlive
    exact (effect_verifyRead st .none hlive).of_eq ((Dev.verifyEnd_on .none hslice).trans
      (Dev.passEnd_shown hslots hpower hstate hended hstart hp (by simp [hkind])))
  case noVerify =>
    intro d st fault q a l hslice hslots hkind hlive
    exact (effect_verifyRead st fault hlive).of_eq ((Dev.verifyEnd_on fault hslice).trans (Dev.passEnd_otherKind hslots (by simp [hkind])))
  case releases =>
    rintro d _ q a x hkind rfl
    exact Dev.attemptJudged_released hkind
  case starts =>
    intro d j q hpower hjob hslice hlive
    exact (effect_offlineDecodeStart hlive).of_eq (Dev.offlineStart_takes hpower hjob hslice)
  case jobEnds =>
    rintro d q _ j r v e he hjob hpower hstate hrung rfl hdecode hjudge hlive
    exact (effect_offlineDecodeEnd q .none hlive).of_eq (Dev.offlineEnd_deferred he hjob hpower hstate hrung hdecode hjudge)
  case noJob =>
    intro d q fault hnone hlive
    exact (effect_offlineDecodeEnd q fault hlive).of_eq (Dev.offlineEnd_noJob hnone)
  case due =>
    intro d q hpower hstate hlive
    exact (effect_katDue q hlive).of_eq (Dev.katDue_shown hpower hstate)
  case katWrite =>
    intro d q hpower hstate hstop
    exact (effect_detKatWrite q hstop).of_eq ((Dev.inPower_on _ hpower).trans (Dev.katDue_shown hpower hstate))
  case katEnds =>
    intro d q right e he hpower hstate hlive
    exact (effect_katDone q right hlive).of_eq (Dev.katDone_shown he hpower hstate)
  case fences =>
    intro d q hpower hstop
    exact (effect_detFenceWrite q hstop).of_eq (Dev.inPower_on _ hpower)
  case fenceDropped =>
    intro d q hpower hstop
    exact (effect_detFenceWrite q hstop).of_eq (Dev.inPower_off _ hpower)

end Sys2Proof.Machine
end

section
/-! SUPPORT. The write channels and the inhibit (spec/11 R421 to R446; spec/12 R495, R496): the segments and sectors of a channel, the checked use of
a tile, the shock comparators, FORCE and the test; from them the statements on all of them. -/

namespace Sys2Proof.Machine

/-! ### The effect of each command: by the port's part of the write path, the tiles' island, or CORE (02 R72) -/

theorem effect_segmentStart {d : Dev} (st : Fin 8) (hlive : d.livePort 0x08 (st.val / 2) = true) :
    Effect (.segmentStart st) d (d.segmentStart st.val) :=
  effect_port (f := fun d => d.segmentStart st.val) hlive (fun _ => rfl) rfl

theorem effect_writeSectorEnd {d : Dev} (st : Fin 8) (flips : List Nat) (mon : List Int) (hlive : d.livePort 0x08 (st.val / 2) = true) :
    Effect (.writeSectorEnd st flips mon) d (d.sectorEnd st.val flips mon) :=
  effect_port (f := fun d => d.sectorEnd st.val flips mon) hlive (fun _ => rfl) rfl

theorem effect_tileUse {d : Dev} (u : TileUser) (intact : Bool) (hlive : d.live 0x09 = true) :
    Effect (.tileUse u intact) d (d.tileUseAct u intact) :=
  effect_island (f := fun d => d.tileUseAct u intact) hlive (fun _ => rfl) rfl

theorem effect_shockTrip {d : Dev} (n : Fin 2) (hstop : d.clk.stopped = false) : Effect (.shockTrip n) d (d.shockTrip n.val) :=
  effect_core (f := fun d => d.shockTrip n.val) hstop (fun _ => rfl) rfl

theorem effect_shockRelease {d : Dev} (n : Fin 2) (hstop : d.clk.stopped = false) : Effect (.shockRelease n) d (d.shockRelease n.val) :=
  effect_core (f := fun d => d.shockRelease n.val) hstop (fun _ => rfl) rfl

theorem effect_shkHoldExpire {d : Dev} (hstop : d.clk.stopped = false) : Effect .shkHoldExpire d d.holdExpire :=
  effect_core hstop (fun _ => rfl) rfl

theorem effect_wchForceWrite {d : Dev} (hstop : d.clk.stopped = false) : Effect .wchForceWrite d d.forceInhibit :=
  effect_core hstop (fun _ => rfl) rfl

theorem effect_wchReleaseWrite {d : Dev} (hstop : d.clk.stopped = false) : Effect .wchReleaseWrite d d.releaseInhibit :=
  effect_core hstop (fun _ => rfl) rfl

theorem effect_wchShkTestWrite {d : Dev} (hstop : d.clk.stopped = false) : Effect .wchShkTestWrite d d.shkTest :=
  effect_core hstop (fun _ => rfl) rfl

theorem effect_shkTestEnd {d : Dev} (hstop : d.clk.stopped = false) : Effect .shkTestEnd d d.shkTestEnd :=
  effect_core hstop (fun _ => rfl) rfl

theorem effect_wchShkWrite {d : Dev} (v : BitVec 32) (hstop : d.clk.stopped = false) : Effect (.wchShkWrite v) d (d.shkWrite v.toNat) :=
  effect_core (f := fun d => d.shkWrite v.toNat) hstop (fun _ => rfl) rfl

/-! ### A segment begins (R422, R425, R427, R437) -/

section
variable {d : Dev} {s : Nat} {x : WSector} {l : List WSector}

/-- With nothing being written, the segment is the first of the sector in front: the tests of the inhibit, the data and the permission in their
order. -/
theorem Dev.segmentStart_next (hpower : d.powered (3 + s / 2) = true) (hcur : (d.wchan s).cur = none) (hqueue : (d.wchan s).queue = x :: l) :
    d.segmentStart s =
      if d.inhibited then d.skipSector s x 2
      else if !x.loaded then (d.skipSector s x 3).post 0x2207 [s, x.lba % 2 ^ 32]
      else if !(d.gateOn s || ((d.shpCh (s / 2) (s % 2)).permit && d.writeOk (s / 2) (s % 2))) then d.skipSector s x 2
      else (d.setWchan s { d.wchan s with queue := l, cur := some x, segment := 0, windowed := false }).putI F.WCH_W_STAT_STATE s wWriting := by
  refine (if_neg (by simp [hpower])).trans ((if_neg (by simp [hcur])).trans ?_)
  rw [hqueue]

/-- After a servo window the sector in progress goes on into its next segment. -/
theorem Dev.segmentStart_goesOn (hpower : d.powered (3 + s / 2) = true) (hcur : (d.wchan s).cur = some x) (hwindow : (d.wchan s).windowed = true)
    (hgate : d.gateOn s = true) :
    d.segmentStart s = d.setWchan s { d.wchan s with segment := (d.wchan s).segment + 1, windowed := false } :=
  (if_neg (by simp [hpower])).trans ((if_pos (by simp [hcur])).trans (if_pos (by simp [hwindow, hgate])))

end

/-! ### A sector ends (R424, R439 to R443) -/

section
variable {d e : Dev} {s : Nat} {flips : List Nat} {mon : List Int} {x : WSector}

theorem Dev.sectorEnd_idle (hcur : (d.wchan s).cur = none) : d.sectorEnd s flips mon = d := by
  delta Dev.sectorEnd
  simp only [hcur]

/-- The last segment ends with nothing queued: the channel is left IDLE as `e`, and the sector fails its checks, waits for its verify read or is
WRITTEN. -/
theorem Dev.sectorEnd_last
    (he : e = ((d.setWchan s { d.wchan s with
      cur := none, monSum := (d.wchan s).monSum + mon.foldl (fun (a : Int) v => a + v) 0, monN := (d.wchan s).monN + mon.length }).showBuffers s).putI
      F.WCH_W_STAT_STATE s wIdle)
    (hcur : (d.wchan s).cur = some x) (hgate : d.gateOn s = true) (hqueue : (d.wchan s).queue = []) (hwindow : (d.wchan s).windowed = false)
    (hlast : (d.segmentBreaks x).length ≤ (d.wchan s).segment) :
    d.sectorEnd s flips mon =
      (if !d.sentHolds x flips then e.encodeFails s x else if e.verifyApplies x then e.fileVerify s x else e.sectorReport s x 0).passDone s := by
  subst he
  delta Dev.sectorEnd
  simp only [hcur]
  refine (if_neg (by simp [hgate, hwindow, hlast])).trans ?_
  rw [hqueue]
  rfl

end

/-! ### The checked use of a tile (12 R495, R496) -/

section
variable {d : Dev} {t consumer : Nat} {intact : Bool}

/-- A tile that is not SEALED is refused. -/
theorem Dev.tileUse_notSealed (hstate : (d.tile t).state ≠ .sealed) :
    d.tileUse t consumer intact =
      (((d.inc F.GRN_REFUSED_USES).put F.GRN_INT_STAT_REFUSED 1).post 0x3013 [t, consumer, (d.tile t).state.code], .notSealed) :=
  if_pos (by simp [hstate])

/-- A sealed tile whose bytes differ from those the devices were given goes to TEST. -/
theorem Dev.tileUse_mismatch (hstate : (d.tile t).state = .sealed) :
    d.tileUse t consumer false =
      (((((((d.setTile { d.tile t with state := .test, next := 0 }).countTiles.inc F.GRN_MISMATCH_COUNT).put F.GRN_INT_STAT_MISMATCH 1).put
        F.GRN_LAST_CONSUMER consumer).put F.GRN_LAST_PRODUCER (d.tile t).producer).put F.GRN_LAST_TILE t).post 0x3010
        [t, consumer, (d.tile t).producer, (d.tile t).gen], .mismatch) :=
  (if_neg (by simp [hstate])).trans (if_neg (by simp))

theorem Dev.tileUseAct_on (u : TileUser) (hpower : d.powered 8 = true) :
    d.tileUseAct u intact = match u with
      | .channel st => d.loadSector st.val intact
      | .porter t => (d.tileUse t 1 intact).1
      | .parity t => (d.tileUse t 2 intact).1 :=
  if_neg (by simp [hpower])

end

/-- Settles O37 (log entries 19, 83, 143 and 147): each clause is a branch of the command's operation. -/
theorem channelsWriteSectors : Obligations.ChannelsWriteSectors := by
  refine ⟨fun _ st => effect_segmentStart st, ?inhibited, ?late, ?noPermit, ?opens, fun _ st flips mon => effect_writeSectorEnd st flips mon,
    ?torn, ?written, ?goesOn, ?idle, fun _ u intact => effect_tileUse u intact, ?refused, ?mismatch⟩
  case inhibited =>
    intro d st x l hpower hcur hqueue hinhibit hlive
    exact (effect_segmentStart st hlive).of_eq ((Dev.segmentStart_next hpower hcur hqueue).trans (if_pos hinhibit))
  case late =>
    intro d st x l hpower hcur hqueue hinhibit hload hlive
    refine (effect_segmentStart st hlive).of_eq ((Dev.segmentStart_next hpower hcur hqueue).trans ?_)
    simp [hinhibit, hload]
  case noPermit =>
    intro d st x l hpower hcur hqueue hinhibit hload hgate hpermit hlive
    refine (effect_segmentStart st hlive).of_eq ((Dev.segmentStart_next hpower hcur hqueue).trans ?_)
    simp [hinhibit, hload, hgate, hpermit]
  case opens =>
    intro d st x l hpower hcur hqueue hinhibit hload hpermit hmay hlive
    refine (effect_segmentStart st hlive).of_eq ((Dev.segmentStart_next hpower hcur hqueue).trans ?_)
    have hopen : (d.gateOn st.val || ((d.shpCh (st.val / 2) (st.val % 2)).permit && d.writeOk (st.val / 2) (st.val % 2))) = true := by
      simpa [hpermit, or_comm] using hmay
    rw [if_neg (by simp [hinhibit]), if_neg (by simp [hload]), if_neg (by simp [hopen])]
  case torn =>
    intro d st flips mon x e he hcur hgate hqueue hwindow hlast hchecks hlive
    refine (effect_writeSectorEnd st flips mon hlive).of_eq ((Dev.sectorEnd_last he hcur hgate hqueue hwindow hlast).trans ?_)
    rw [if_pos (by simp [hchecks])]
  case written =>
    intro d st flips mon x e he hcur hgate hqueue hwindow hlast hchecks hlive
    refine (effect_writeSectorEnd st flips mon hlive).of_eq ((Dev.sectorEnd_last he hcur hgate hqueue hwindow hlast).trans ?_)
    rw [if_neg (by simp [hchecks])]
  case goesOn =>
    intro d st x hpower hcur hwindow hgate hlive
    exact (effect_segmentStart st hlive).of_eq (Dev.segmentStart_goesOn hpower hcur hwindow hgate)
  case idle =>
    intro d st flips mon hcur hlive
    exact (effect_writeSectorEnd st flips mon hlive).of_eq (Dev.sectorEnd_idle hcur)
  case refused =>
    rintro d _ intact t hpower rfl hstate hlive
    exact (effect_tileUse (.porter t) intact hlive).of_eq
      ((Dev.tileUseAct_on (.porter t) hpower).trans (congrArg Prod.fst (Dev.tileUse_notSealed hstate)))
  case mismatch =>
    rintro d _ _ t hpower rfl hstate rfl hlive
    exact (effect_tileUse (.parity t) false hlive).of_eq
      ((Dev.tileUseAct_on (.parity t) hpower).trans (congrArg Prod.fst (Dev.tileUse_mismatch hstate)))

/-! ### The shock comparators, the hold and the test (R435, R436, R438) -/

section
variable {d : Dev} {n : Nat}

/-- SHK_HOLD starts with a shock source in force, no comparator tripped and no test. -/
theorem Dev.startHold_starts (hn : n < 2) (htrip : d.wch.tripped = 0) (htest : d.wch.testing = false)
    (hsource : d.bit F.WCH_INHIBIT_SOURCES n = true) : d.startHold = { d with wch := { d.wch with holding := true } } := by
  have hshock : (d.bit F.WCH_INHIBIT_SOURCES 0 || d.bit F.WCH_INHIBIT_SOURCES 1) = true := by
    obtain rfl | rfl : n = 0 ∨ n = 1 := by omega
    · simp [hsource]
    · simp [hsource]
  exact (if_neg (by simp [htrip, htest])).trans (if_pos (by simp [hshock]))

theorem Dev.startHold_tripped (htrip : d.wch.tripped ≠ 0) : d.startHold = d := if_pos (by simp [htrip])

theorem Dev.shockRelease_starts (hn : n < 2) (htrip : withBit d.wch.tripped n false = 0) (htest : d.wch.testing = false)
    (hsource : d.bit F.WCH_INHIBIT_SOURCES n = true) : d.shockRelease n = { d with wch := { d.wch with tripped := 0, holding := true } } :=
  htrip ▸ Dev.startHold_starts (d := { d with wch := { d.wch with tripped := withBit d.wch.tripped n false } }) hn htrip htest hsource

theorem Dev.shockRelease_tripped (htrip : withBit d.wch.tripped n false ≠ 0) :
    d.shockRelease n = { d with wch := { d.wch with tripped := withBit d.wch.tripped n false } } :=
  Dev.startHold_tripped htrip

theorem Dev.holdExpire_idle (hhold : d.wch.holding = false) : d.holdExpire = d := if_pos (by simp [hhold])

theorem Dev.shkTestEnd_ends (htest : d.wch.testing = true) :
    d.shkTestEnd = (({ d with wch := { d.wch with testing := false } } : Dev).post 0x2208 [d.wch.tripped]).startHold :=
  if_neg (by simp [htest])

theorem Dev.shkTestEnd_idle (htest : d.wch.testing = false) : d.shkTestEnd = d := if_pos (by simp [htest])

end

/-! ### WCH_SHK (R446) -/

section
variable {d : Dev} {v : Nat}

theorem Dev.shkWrite_bothThresholds (hrot : slice v 8 8 ≠ 0) (hlin : slice v 0 8 ≠ 0) :
    d.shkWrite v = ((d.put F.WCH_SHK_HOLD (slice v 16 16)).put F.WCH_SHK_ROT_THR (slice v 8 8)).put F.WCH_SHK_LIN_THR (slice v 0 8) :=
  (if_neg hlin).trans (congrArg (Dev.put · _ _) (if_neg hrot))

/-- A zero threshold is ignored. -/
theorem Dev.shkWrite_zeroRot (hrot : slice v 8 8 = 0) (hlin : slice v 0 8 ≠ 0) :
    d.shkWrite v = (d.put F.WCH_SHK_HOLD (slice v 16 16)).put F.WCH_SHK_LIN_THR (slice v 0 8) :=
  (if_neg hlin).trans (congrArg (Dev.put · _ _) (if_pos hrot))

end

/-- Settles O38 (log entries 19 and 33): each clause is a branch of the command's operation. -/
theorem shockSourcesAndInhibit : Obligations.ShockSourcesAndInhibit := by
  refine ⟨fun _ n => effect_shockTrip n, fun _ n => effect_shockRelease n, ?starts, ?tripped, fun _ => effect_shkHoldExpire, ?noHold, ?holdEnds,
    fun _ => effect_wchForceWrite, fun _ => effect_wchReleaseWrite, fun _ => effect_wchShkTestWrite, fun _ => effect_shkTestEnd, ?testEnds,
    ?noTest, fun _ v => effect_wchShkWrite v, ?bothThresholds, ?zeroRot⟩
  case starts =>
    intro d n htrip htest hsource hstop
    exact (effect_shockRelease n hstop).of_eq (Dev.shockRelease_starts n.isLt htrip htest hsource)
  case tripped =>
    intro d n htrip hstop
    exact (effect_shockRelease n hstop).of_eq (Dev.shockRelease_tripped htrip)
  case noHold =>
    intro d hhold hstop
    exact (effect_shkHoldExpire hstop).of_eq (Dev.holdExpire_idle hhold)
  case holdEnds =>
    rintro d _ hhold rfl hstop
    exact (effect_shkHoldExpire hstop).of_eq (if_neg (by simp [hhold]))
  case testEnds =>
    intro d htest hstop
    exact (effect_shkTestEnd hstop).of_eq (Dev.shkTestEnd_ends htest)
  case noTest =>
    intro d htest hstop
    exact (effect_shkTestEnd hstop).of_eq (Dev.shkTestEnd_idle htest)
  case bothThresholds =>
    intro d v hrot hlin hstop
    exact (effect_wchShkWrite v hstop).of_eq (Dev.shkWrite_bothThresholds hrot hlin)
  case zeroRot =>
    intro d v hrot hlin hstop
    exact (effect_wchShkWrite v hstop).of_eq (Dev.shkWrite_zeroRot hrot hlin)

end Sys2Proof.Machine
end

section
/-! SUPPORT. The step (spec/95), the windows while PAUSE is 1 (15 R605) and the extent map (17 R704, R705, R710): what an LBA's data index is after a
cut, an insertion and the joining of neighbours, and that the entries stay in order and apart. -/

namespace Sys2Proof.Machine

/-- Settles O1: a step by the queue's two forms. -/
theorem stepTakesTheFrontCommand : Obligations.StepTakesTheFrontCommand := ⟨fun _ _ _ => rfl, fun _ => rfl⟩

/-! ### Windows while PAUSE is 1 -/

theorem Dev.winPhase_free {d : Dev} {w : Nat} (hfree : (d.win w).phase = 0) : d.winPhase w = if d.on F.TWN_CTRL_PAUSE then 3 else 0 := by
  simp [Dev.winPhase, hfree]

theorem Dev.winPhase_held {d : Dev} {w : Nat} (hheld : (d.win w).phase ≠ 0) : d.winPhase w = (d.win w).phase := by
  simp [Dev.winPhase, hheld]

/-- A message to the host, and so the asynchronous notice, changes no window. -/
theorem Dev.sendMessage_wins (d : Dev) (v : Nat) : (d.sendMessage v).hif.wins = d.hif.wins := by
  simp only [Dev.sendMessage]
  split_ifs <;> rfl

theorem Dev.notice_wins (d : Dev) (n : Nat) : (d.notice n).hif.wins = d.hif.wins := by
  simp only [Dev.notice]
  split_ifs
  · rfl
  · exact Dev.sendMessage_wins _ _
  · rfl

theorem Dev.setPause_wins (d : Dev) (b : Bool) : (d.setPause b).hif.wins = d.hif.wins := by
  unfold Dev.setPause
  split
  · rfl
  · rw [Dev.notice_wins, Dev.post_hif, Dev.flag_hif]

theorem Dev.win_congr {d e : Dev} (h : e.hif.wins = d.hif.wins) (w : Nat) : e.win w = d.win w := by
  simp only [Dev.win, h]

/-- After a window is left DONE with its REASON, a refusal only counts and posts. -/
theorem Dev.refuseGo_wins (d : Dev) (c : Ctx) (why : Nat) : (d.refuseGo c why).hif.wins =
    (d.setWin c.window (fun w => { w with answer := 2, reason := why, phase := 2, lo := 0, hi := 0 })).hif.wins := by
  unfold Dev.refuseGo
  extract_lets e e1 e2 n
  have h1 : e1.hif = e.hif := by
    simp only [e1]
    split
    · exact Dev.post_hif _ _ _
    · rfl
  have h2 : e2.hif = e.hif := by
    simp only [e2]
    split
    · exact (Dev.post_hif _ _ _).trans h1
    · exact h1
  split
  · exact congrArg Hif.wins h2
  · exact congrArg Hif.wins ((Dev.post_hif _ _ _).trans h2)

/-- Settles O10. -/
theorem windowsWhilePaused : Obligations.WindowsWhilePaused := by
  refine ⟨fun _ _ => Dev.winPhase_free, fun _ _ => Dev.winPhase_held, fun d b => Dev.win_congr (d.setPause_wins b), ?refused, ?acknowledged⟩
  case refused =>
    intro d c hwindow
    rw [Dev.win_congr (d.refuseGo_wins c whyPaused), Dev.win_setWin _ _ hwindow]
  case acknowledged =>
    intro d w hw hdone hpause
    have hack : d.ackWindow w = d.setWin w (fun x => { x with phase := 0, answer := 0, reason := 0, early := 0, lo := 0, hi := 0 }) :=
      if_neg (by simp [hdone])
    have hphase : ((d.ackWindow w).win w).phase = 0 := by rw [hack, Dev.win_setWin _ _ hw]
    rw [Dev.winPhase_free hphase, hack]
    exact if_pos hpause

/-! ### What leaves the map alone: bands and the journal -/

theorem Dev.showBands_map (d : Dev) : d.showBands.drv.map = d.drv.map := by
  simp only [Dev.showBands]
  split <;> rfl

theorem Dev.setBand_map (d : Dev) (b : Band) : (d.setBand b).drv.map = d.drv.map := Dev.showBands_map _

theorem Dev.tailToLog_map (d : Dev) (keep : Nat) : (d.tailToLog keep).drv.map = d.drv.map := by
  simp only [Dev.tailToLog]
  split <;> rfl

theorem Dev.appendRec_map (d : Dev) (kind : Nat) (payload : List Nat) : (d.appendRec kind payload).drv.map = d.drv.map := rfl

theorem Dev.checkpoint_map (d : Dev) : d.checkpoint.drv.map = d.drv.map := by
  simp only [Dev.checkpoint, Dev.appendRec_map, Dev.tailToLog_map]

theorem Dev.journal_map (d : Dev) (kind : Nat) (payload : List Nat) : (d.journal kind payload).drv.map = d.drv.map := by
  simp only [Dev.journal, Dev.appendRec_map]
  split_ifs <;> simp only [Dev.tailToLog_map, Dev.checkpoint_map]

theorem Dev.journalBand_map (d : Dev) (n : Nat) : (d.journalBand n).drv.map = d.drv.map := d.journal_map _ _

theorem Dev.freeCleaned_map (d : Dev) : d.freeCleaned.drv.map = d.drv.map :=
  Dev.each_keeps (·.drv.map) _ (fun e _ => (Dev.journalBand_map _ _).trans (e.setBand_map _)) d _

theorem liveFall_map (fuel : Nat) : ∀ (d : Dev) (x n : Nat), (liveFall fuel d x n).drv.map = d.drv.map := by
  induction fuel with
  | zero => exact fun _ _ _ => rfl
  | succ fuel ih =>
    intro d x n
    unfold liveFall
    split
    · rfl
    · split
      · rfl
      · exact (ih _ _ _).trans (d.setBand_map _)

/-- A range that leaves the map leaves of each entry what lies outside it. -/
theorem Dev.mapCut_map (d : Dev) (lba count : Nat) :
    (d.mapCut lba count).drv.map = d.drv.map.flatMap (fun (e : Extent) => e.outside lba count) := by
  simp only [Dev.mapCut]
  rw [Dev.freeCleaned_map]
  exact congrArg (List.flatMap _) (Dev.each_keeps (·.drv.map) _ (fun _ _ => liveFall_map _ _ _ _) d _)

theorem Dev.mapClear_map (d : Dev) (lba count : Nat) :
    (d.mapClear lba count).drv.map = d.drv.map.flatMap (fun (e : Extent) => e.outside lba count) :=
  (Dev.journal_map _ _ _).trans (d.mapCut_map lba count)

/-- An entry set is placed in what the cut left, and joined with its neighbours. -/
theorem Dev.mapSet_map (d : Dev) (e : Extent) :
    (d.mapSet e).drv.map = mergeExtents (mapInsert (d.drv.map.flatMap (fun (x : Extent) => x.outside e.lba e.count)) e) := by
  rw [← d.mapCut_map e.lba e.count]
  simp only [Dev.mapSet, Dev.journal_map]
  split_ifs
  · rfl
  · split
    · exact Dev.setBand_map _ _
    · rfl

/-! ### The data index that a list of entries gives -/

/-- The entry holds the LBA. -/
abbrev Extent.Holds (e : Extent) (x : Nat) : Prop := e.lba ≤ x ∧ x < e.lba + e.count

/-- The data index of an LBA that the entry holds: none where it is LOST. -/
def Extent.index (e : Extent) (x : Nat) : Option Nat := if e.lost then none else some (e.dstart + (x - e.lba))

/-- The data index of an LBA in a list of entries: that of the first entry that holds it. -/
def mapIndex : List Extent → Nat → Option Nat
  | [], _ => none
  | e :: l, x => if e.Holds x then e.index x else mapIndex l x

theorem Dev.dataIndex_eq_mapIndex (d : Dev) (x : Nat) : d.dataIndex x = mapIndex d.drv.map x := by
  unfold Dev.dataIndex Dev.mapFind
  induction d.drv.map with
  | nil => rfl
  | cons e l ih =>
    by_cases h : e.Holds x
    · simp [mapIndex, Extent.index, h.1, h.2]
    · rw [List.find?_cons_of_neg (by simpa [Extent.Holds] using h), ih, mapIndex, if_neg h]

theorem mapIndex_cons_of_holds {e : Extent} {l : List Extent} {x : Nat} (h : e.Holds x) : mapIndex (e :: l) x = e.index x := if_pos h

theorem mapIndex_cons_of_not_holds {e : Extent} {l : List Extent} {x : Nat} (h : ¬ e.Holds x) : mapIndex (e :: l) x = mapIndex l x := if_neg h

/-- Entries that do not hold an LBA do not decide its index. -/
theorem mapIndex_append_of_not_holds {k l : List Extent} {x : Nat} (h : ∀ e ∈ k, ¬ e.Holds x) : mapIndex (k ++ l) x = mapIndex l x := by
  induction k with
  | nil => rfl
  | cons e k ih =>
    rw [List.cons_append, mapIndex_cons_of_not_holds (h e (by simp)), ih fun f hf => h f (by simp [hf])]

theorem mapIndex_append_congr (k : List Extent) {l m : List Extent} {x : Nat} (h : mapIndex l x = mapIndex m x) :
    mapIndex (k ++ l) x = mapIndex (k ++ m) x := by
  induction k with
  | nil => exact h
  | cons e k ih => simp only [List.cons_append, mapIndex, ih]

/-- An entry's parts outside a range hold what it holds there, with the same index, and nothing else. -/
theorem mapIndex_outside_append (e : Extent) (lba count x : Nat) (l : List Extent) :
    mapIndex (e.outside lba count ++ l) x = if e.Holds x ∧ ¬ (lba ≤ x ∧ x < lba + count) then e.index x else mapIndex l x := by
  simp only [Extent.outside, Extent.Holds]
  split_ifs
  all_goals grind [mapIndex, Extent.index]

theorem mapIndex_flatMap_outside (lba count x : Nat) (l : List Extent) :
    mapIndex (l.flatMap (fun (e : Extent) => e.outside lba count)) x = if lba ≤ x ∧ x < lba + count then none else mapIndex l x := by
  induction l with
  | nil => simp [mapIndex]
  | cons e l ih =>
    rw [List.flatMap_cons, mapIndex_outside_append, ih]
    by_cases hin : lba ≤ x ∧ x < lba + count
    · simp [hin]
    · by_cases h : e.Holds x
      · simp [hin, h, mapIndex_cons_of_holds h]
      · simp [hin, h, mapIndex_cons_of_not_holds h]

/-- Joining neighbours leaves every LBA's index as it was. -/
theorem mapIndex_mergeExtents (x : Nat) (l : List Extent) : mapIndex (mergeExtents l) x = mapIndex l x := by
  induction l with
  | nil => rfl
  | cons e l ih =>
    have hcons : mapIndex (e :: l) x = mapIndex (e :: mergeExtents l) x := by simp only [mapIndex, ih]
    rw [hcons, mergeExtents]
    split
    next h => rw [h]
    next f r h =>
      rw [h]
      split
      next hjoin =>
        obtain ⟨hlost, hend, hdata, -⟩ := hjoin
        simp only [mapIndex, Extent.index]
        grind
      next => rfl

/-! ### Order: entries rise without overlapping and none is empty -/

/-- What is left of an entry lies within it and outside the range, and is not empty. -/
theorem Extent.mem_outside {e f : Extent} {lba count : Nat} (he : 0 < e.count) (hf : f ∈ e.outside lba count) :
    e.lba ≤ f.lba ∧ f.lba + f.count ≤ e.lba + e.count ∧ 0 < f.count ∧ (f.lba + f.count ≤ lba ∨ lba + count ≤ f.lba) := by
  unfold Extent.outside at hf
  grind

theorem Extent.outside_rises (e : Extent) (lba count : Nat) :
    (e.outside lba count).Pairwise (fun a b => a.lba + a.count ≤ b.lba) := by
  simp only [Extent.outside]
  split_ifs
  all_goals simp
  omega

theorem mapOrdered.flatMap_outside {l : List Extent} (h : mapOrdered l) (lba count : Nat) :
    mapOrdered (l.flatMap (fun (e : Extent) => e.outside lba count)) := by
  obtain ⟨hrise, hpos⟩ := h
  constructor
  · rw [List.pairwise_flatMap]
    refine ⟨fun e _ => e.outside_rises lba count, hrise.imp_of_mem ?_⟩
    intro a b ha hb hab f hf g hg
    obtain ⟨-, hfend, -, -⟩ := Extent.mem_outside (hpos a ha) hf
    obtain ⟨hgstart, -, -, -⟩ := Extent.mem_outside (hpos b hb) hg
    omega
  · intro f hf
    obtain ⟨e, he, hfe⟩ := List.mem_flatMap.1 hf
    obtain ⟨-, -, hcount, -⟩ := Extent.mem_outside (hpos e he) hfe
    exact hcount

/-- Joining makes no new start. -/
theorem exists_start_of_mem_mergeExtents {l : List Extent} : ∀ f ∈ mergeExtents l, ∃ e ∈ l, e.lba = f.lba := by
  induction l with
  | nil => simp [mergeExtents]
  | cons e l ih =>
    intro f hf
    rw [mergeExtents] at hf
    split at hf <;> grind

theorem mapOrdered.mergeExtents {l : List Extent} (h : mapOrdered l) : mapOrdered (mergeExtents l) := by
  induction l with
  | nil => exact h
  | cons e l ih =>
    obtain ⟨hrise, hpos⟩ := h
    obtain ⟨hfirst, hrest⟩ := List.pairwise_cons.1 hrise
    obtain ⟨mrise, mpos⟩ := ih ⟨hrest, fun f hf => hpos f (by simp [hf])⟩
    have hstart : ∀ f ∈ Machine.mergeExtents l, e.lba + e.count ≤ f.lba := fun f hf => by
      obtain ⟨y, hy, hyf⟩ := exists_start_of_mem_mergeExtents f hf
      have := hfirst y hy
      omega
    have hecount := hpos e (by simp)
    rw [Machine.mergeExtents]
    split
    next h => simp [mapOrdered, hecount]
    next f r h =>
      rw [h] at mrise mpos hstart
      obtain ⟨hf, hr⟩ := List.pairwise_cons.1 mrise
      split
      next hjoin =>
        obtain ⟨-, hend, -, -⟩ := hjoin
        refine ⟨List.pairwise_cons.2 ⟨fun y hy => ?_, hr⟩, fun y hy => ?_⟩
        · have := hf y hy
          simp only
          omega
        · rcases List.mem_cons.1 hy with rfl | hy
          · simp only
            omega
          · exact mpos y (by simp [hy])
      next => exact ⟨List.pairwise_cons.2 ⟨hstart, mrise⟩, fun y hy => (List.mem_cons.1 hy).elim (fun h => h ▸ hecount) (mpos y)⟩

/-- A list in order is its entries that start below a bound, then the others. -/
theorem mapOrdered.split_at {l : List Extent} (h : mapOrdered l) (n : Nat) :
    l.filter (fun x => x.lba < n) ++ l.filter (fun x => !(x.lba < n)) = l := by
  obtain ⟨hrise, hpos⟩ := h
  induction l with
  | nil => rfl
  | cons e l ih =>
    obtain ⟨hfirst, hrest⟩ := List.pairwise_cons.1 hrise
    by_cases he : e.lba < n
    · simp only [List.filter_cons, he, decide_true, Bool.not_true, if_true, if_false, Bool.false_eq_true, List.cons_append]
      rw [ih hrest fun f hf => hpos f (by simp [hf])]
    · have hnone : (e :: l).filter (fun x => x.lba < n) = [] := List.filter_eq_nil_iff.2 fun f hf => by
        rcases List.mem_cons.1 hf with rfl | hf
        · simpa using he
        · have := hfirst f hf
          simp only [decide_eq_true_eq]
          omega
      have hall : (e :: l).filter (fun x => !(decide (x.lba < n))) = e :: l := List.filter_eq_self.2 fun f hf => by
        have := List.filter_eq_nil_iff.1 hnone f hf
        simpa using this
      rw [hnone, hall, List.nil_append]

/-- `e` overlaps no entry of the list. -/
def Extent.Apart (e : Extent) (l : List Extent) : Prop := ∀ f ∈ l, f.lba + f.count ≤ e.lba ∨ e.lba + e.count ≤ f.lba

theorem Extent.apart_outside {l : List Extent} (h : mapOrdered l) (e : Extent) :
    e.Apart (l.flatMap (fun (x : Extent) => x.outside e.lba e.count)) := by
  intro f hf
  obtain ⟨x, hx, hfx⟩ := List.mem_flatMap.1 hf
  exact (Extent.mem_outside (h.2 x hx) hfx).2.2.2

theorem mapOrdered.mapInsert {l : List Extent} {e : Extent} (h : mapOrdered l) (hapart : e.Apart l) (he : 0 < e.count) :
    mapOrdered (mapInsert l e) := by
  obtain ⟨hrise, hpos⟩ := h
  constructor
  · rw [Machine.mapInsert, List.append_assoc, List.singleton_append]
    refine List.pairwise_append.2 ⟨hrise.filter _, List.pairwise_cons.2 ⟨fun b hb => ?_, hrise.filter _⟩, fun a ha b hb => ?_⟩
    · obtain ⟨hmem, hge⟩ := List.mem_filter.1 hb
      have hside := hapart b hmem
      have hcount := hpos b hmem
      simp only [Bool.not_eq_true', decide_eq_false_iff_not] at hge
      omega
    · obtain ⟨hmem, hlt⟩ := List.mem_filter.1 ha
      have hside := hapart a hmem
      simp only [decide_eq_true_eq] at hlt
      have hend : a.lba + a.count ≤ e.lba := by omega
      rcases List.mem_cons.1 hb with rfl | hb
      · exact hend
      · obtain ⟨-, hge⟩ := List.mem_filter.1 hb
        simp only [Bool.not_eq_true', decide_eq_false_iff_not] at hge
        omega
  · intro f hf
    simp only [Machine.mapInsert, List.mem_append, List.mem_singleton, List.mem_filter] at hf
    obtain (⟨hf, -⟩ | rfl) | ⟨hf, -⟩ := hf
    · exact hpos f hf
    · exact he
    · exact hpos f hf

/-- An entry placed where no other holds its LBAs gives them their index, and leaves the other LBAs theirs. -/
theorem mapIndex_mapInsert {l : List Extent} {e : Extent} (h : mapOrdered l) (hapart : e.Apart l) (x : Nat) :
    mapIndex (mapInsert l e) x = if e.lba ≤ x ∧ x < e.lba + e.count then e.index x else mapIndex l x := by
  rw [mapInsert, List.append_assoc, List.singleton_append]
  by_cases hx : e.Holds x
  · have hnone : ∀ f ∈ l.filter (fun y => y.lba < e.lba), ¬ f.Holds x := fun f hf hfx => by
      obtain ⟨hmem, -⟩ := List.mem_filter.1 hf
      have hside := hapart f hmem
      unfold Extent.Holds at hx hfx
      omega
    rw [mapIndex_append_of_not_holds hnone, mapIndex_cons_of_holds hx]
    exact (if_pos hx).symm
  · rw [mapIndex_append_congr _ (mapIndex_cons_of_not_holds hx), h.split_at]
    exact (if_neg hx).symm

/-- Settles O15: the cut leaves what lies outside the range, the new entry is placed in the gap, and joining neighbours changes no index. -/
theorem extentMapTakesEntries : Obligations.ExtentMapTakesEntries := by
  refine ⟨?sets, ?setOrdered, ?clears⟩
  case sets =>
    intro d e lba h _
    simp only [Dev.dataIndex_eq_mapIndex, Dev.mapSet_map, mapIndex_mergeExtents,
      mapIndex_mapInsert (h.flatMap_outside e.lba e.count) (Extent.apart_outside h e), mapIndex_flatMap_outside]
    split
    · rfl
    · rfl
  case setOrdered =>
    intro d e h he
    rw [Dev.mapSet_map]
    exact ((h.flatMap_outside e.lba e.count).mapInsert (Extent.apart_outside h e) he).mergeExtents
  case clears =>
    intro d lba count x h
    simp only [Dev.dataIndex_eq_mapIndex, Dev.mapClear_map, mapIndex_flatMap_outside]
    exact ⟨trivial, h.flatMap_outside lba count⟩

end Sys2Proof.Machine
end

section
/-! SUPPORT. The Granary (spec/12 R461 to R496): requests and their order, pauses, patrol, migration, the regions' orders and the pool's tiles; from them
the statements on all of them. -/

namespace Sys2Proof.Machine

/-! ### The effect of each command: by the DDR block's island, the tiles' island, or the MEM domain's registers (02 R72, R81) -/

theorem effect_dramRequest {d : Dev} (asks : List DramAsk) (i : Nat) (o : DramRead) (hlive : d.live 0x0A = true) :
    Effect (.dramRequest asks i o) d (d.dramRequest asks i o) :=
  effect_island (f := fun d => d.dramRequest asks i o) hlive (fun _ => rfl) rfl

theorem effect_agePromotion {d : Dev} (i : Nat) (hlive : d.live 0x0A = true) :
    Effect (.agePromotion i) d (if d.ddrRunning then d.promote i else d) :=
  effect_island (f := fun d => if d.ddrRunning then d.promote i else d) hlive (fun _ => rfl) rfl

theorem effect_rowIdlePrecharge {d : Dev} (sc : Fin 2) (rank : Fin 3) (bg : Fin 8) (ba : Fin 4) (hlive : d.live 0x0A = true) :
    Effect (.rowIdlePrecharge sc rank bg ba) d (d.closeRows (fun n => n == bankNum sc.val rank.val bg.val ba.val)) :=
  effect_island (f := fun d => d.closeRows (fun n => n == bankNum sc.val rank.val bg.val ba.val)) hlive (fun _ => rfl) rfl

theorem effect_dramRefresh {d : Dev} (sc : Fin 2) (rank : Fin 3) (ba : Option (Fin 4)) (hlive : d.live 0x0A = true) :
    Effect (.dramRefresh sc rank ba) d (d.closeRank sc.val rank.val (ba.map (fun b => b.val))) :=
  effect_island (f := fun d => d.closeRank sc.val rank.val (ba.map (fun b => b.val))) hlive (fun _ => rfl) rfl

theorem effect_shortPause {d : Dev} (sc : Fin 2) (rank : Fin 3) (ok : Bool) (hlive : d.live 0x0A = true) :
    Effect (.shortPause sc rank ok) d (d.pause sc.val rank.val ok false) :=
  effect_island (f := fun d => d.pause sc.val rank.val ok false) hlive (fun _ => rfl) rfl

theorem effect_longPause {d : Dev} (sc : Fin 2) (rank : Fin 3) (ok : Bool) (rate : Fin 3) (hlive : d.live 0x0A = true) :
    Effect (.longPause sc rank ok rate) d (d.longPauseAct sc rank ok rate) :=
  effect_island (f := fun d => d.longPauseAct sc rank ok rate) hlive (fun _ => rfl) rfl

theorem effect_dramPatrolRead {d : Dev} (x : Nat) (spare : Bool) (o : DramRead) (hlive : d.live 0x0A = true) :
    Effect (.dramPatrolRead x spare o) d (d.dramPatrol x spare o) :=
  effect_island (f := fun d => d.dramPatrol x spare o) hlive (fun _ => rfl) rfl

theorem effect_ceHourEnd {d : Dev} (hlive : d.live 0x0A = true) :
    Effect .ceHourEnd d (d.each [0, 1] (fun d sc => d.each [0, 1, 2] (fun d r => d.put (ceField sc r) 0))) :=
  effect_island (f := fun d => d.each [0, 1] (fun d sc => d.each [0, 1, 2] (fun d r => d.put (ceField sc r) 0))) hlive (fun _ => rfl) rfl

theorem effect_migrationLineCopy {d : Dev} (sc : Fin 2) (o : DramRead) (hlive : d.live 0x0A = true) :
    Effect (.migrationLineCopy sc o) d (d.copyLine sc.val o) :=
  effect_island (f := fun d => d.copyLine sc.val o) hlive (fun _ => rfl) rfl

theorem effect_ddrMapWrite {d : Dev} (high : Bool) (v : BitVec 32) (hpower : d.powered 8 = true) (hstop : d.clk.stopped = false) :
    Effect (.ddrMapWrite high v) d (d.mapWrite high v.toNat) :=
  effect_write (f := fun d => d.mapWrite high v.toNat) hpower hstop (fun _ => rfl) rfl

theorem effect_tileProduceWrite {d : Dev} (producer : Fin 3) (t off : Nat) (bytes : List Nat) (hlive : d.live 0x09 = true) :
    Effect (.tileProduceWrite producer t off bytes) d (d.produce (producer.val + 1) t off bytes) :=
  effect_island (f := fun d => d.produce (producer.val + 1) t off bytes) hlive (fun _ => rfl) rfl

theorem effect_tileTestDone {d : Dev} (t : Nat) (pass : Bool) (hlive : d.live 0x09 = true) :
    Effect (.tileTestDone t pass) d (d.tileTestDone t pass) :=
  effect_island (f := fun d => d.tileTestDone t pass) hlive (fun _ => rfl) rfl

/-! ### Requests (R471 to R474) -/

section
variable {d e : Dev} {asks : List DramAsk} {i : Nat} {o : DramRead} {r : DramReq} {l : List DramReq}

/-- The device with the requests inside the capacity queued. -/
def Dev.accepted (d : Dev) (asks : List DramAsk) : Dev :=
  d.setQueue (d.ddr.queue ++ (asks.filter (fun (a : DramAsk) => a.addr < d.capacity && a.addr + a.bytes.length ≤ d.capacity)).map
    (fun (a : DramAsk) => (⟨a.cls.val, a.write, a.addr, a.bytes⟩ : DramReq)))

theorem Dev.dramRequest_accepts (hrun : d.ddrRunning = true) : d.dramRequest asks i o = (d.accepted asks).issueReq i o :=
  if_neg (by simp [hrun])

/-- A request that may be issued leaves the queue and touches its bank; then it writes, or reads what the devices answer. -/
theorem Dev.issueReq_issues (hreq : e.ddr.queue[i]? = some r) (hmay : e.mayIssue i = true) :
    e.issueReq i o =
      if r.write then ((e.setQueue (e.ddr.queue.eraseIdx i)).touchBank (e.dramPlace r.addr)).dramWrite r.addr r.bytes
      else (((e.setQueue (e.ddr.queue.eraseIdx i)).touchBank (e.dramPlace r.addr)).dramMeet r.addr o r.cls).1 := by
  simp [Dev.issueReq, hreq, hmay]

theorem Dev.issueReq_waits (hmay : e.mayIssue i = false) : e.issueReq i o = e := by
  unfold Dev.issueReq
  split
  · rfl
  · simp [hmay]

/-- The first of the queue is held by none, so that its promotion moves no other. -/
theorem Dev.promote_first (hqueue : d.ddr.queue = r :: l) (hcls : r.cls ≠ 0) :
    d.promote 0 = (d.setQueue ({ r with cls := r.cls - 1 } :: l)).inc F.DDR_PROMOTED_COUNT := by
  simp [Dev.promote, hqueue, hcls, Dev.each]

theorem Dev.promote_none (hnone : d.ddr.queue[i]? = none) : d.promote i = d := by
  simp [Dev.promote, hnone]

end

/-! ### Pauses (R461 to R464) -/

section
variable {d : Dev} {sc rank : Nat} {ok long : Bool}

/-- A pause of a fitted rank closes its rows and is counted; a failed one is a rank fault of cause 1. -/
theorem Dev.pause_fitted (hrun : d.ddrRunning = true) (hrole : d.rankRole sc rank = roleActive ∨ d.rankRole sc rank = roleSpare) :
    d.pause sc rank ok long =
      if ok then (d.closeRank sc rank none).inc (if long then F.DDR_RETRAIN_LONG else F.DDR_RETRAIN_SHORT)
      else ((d.closeRank sc rank none).inc (if long then F.DDR_RETRAIN_LONG else F.DDR_RETRAIN_SHORT)).rankFault sc rank 1 := by
  refine if_neg ?_
  obtain hrole | hrole := hrole
  · simp [hrun, hrole]
  · simp [hrun, hrole]

theorem Dev.pause_unfitted (hrole : d.rankRole sc rank = roleAbsent ∨ d.rankRole sc rank = roleRetired) : d.pause sc rank ok long = d := by
  refine if_pos ?_
  obtain hrole | hrole := hrole
  · simp [hrole, roleAbsent, roleActive, roleSpare]
  · simp [hrole, roleRetired, roleActive, roleSpare]

/-- A long pause that reads the multiplier in force changes no multiplier. -/
theorem Dev.refreshRate_same {rate : Nat} (hrate : slice (d.get F.DDR_REFRESH_RATE) (6 * sc + 2 * rank) 2 = rate) :
    d.refreshRate sc rank rate = d :=
  if_pos hrate

theorem Dev.longPauseAct_fitted {sc : Fin 2} {rank : Fin 3} (rate : Fin 3) (hrun : d.ddrRunning = true)
    (hrole : d.rankRole sc.val rank.val = roleActive ∨ d.rankRole sc.val rank.val = roleSpare) :
    d.longPauseAct sc rank ok rate = (d.refreshRate sc.val rank.val rate.val).pause sc.val rank.val ok true := by
  refine if_neg ?_
  obtain hrole | hrole := hrole
  · simp [hrun, hrole]
  · simp [hrun, hrole]

end

/-! ### Patrol and migration (R481, R484 to R487) -/

section
variable {d : Dev} {x sc : Nat} {o : DramRead}

theorem Dev.dramPatrol_line (hrun : d.ddrRunning = true) (hx : x < d.capacity) : d.dramPatrol x false o = (d.dramMeet x o 3).1 :=
  (if_neg (by simp [hrun, hx])).trans (if_pos rfl)

theorem Dev.dramPatrol_spareCorrected {r s : Nat} (hrun : d.ddrRunning = true) (hx : x < d.capacity)
    (hspare : (List.range 3).find? (fun r => d.rankRole (d.dramPlace x).sc r == roleSpare) = some r) :
    d.dramPatrol x true (.corrected s) = d.correctedRead (d.dramPlace x).sc r s (granBase + x / 64 * 64) := by
  refine (if_neg (by simp [hrun, hx])).trans ((if_neg (by simp)).trans ?_)
  simp only [hspare]

theorem Dev.copyLine_none (hmig : d.migration sc = none) : d.copyLine sc o = d := by
  simp [Dev.copyLine, hmig]

/-- What the registers show of a migration leaves the ranks' size. -/
theorem Dev.rankLines_showMig (l : List Migration) (m : Migration) : ((d.setMigs l).showMig m).rankLines = d.rankLines := by
  have hdensity : ((d.setMigs l).showMig m).on F.DDR_CONFIG_DENSITY = d.on F.DDR_CONFIG_DENSITY := by
    simp +decide only [Dev.showMig, Dev.setMigs, Dev.on, Dev.flag, Dev.flagI, Dev.put, Dev.onI_putI_ne]
    rfl
  simp only [Dev.rankLines, Dev.baBits, hdensity]

/-- A good line that is not the last only advances the migration. -/
theorem Dev.copyLine_good {m : Migration} (hmig : d.migration sc = some m) (hrun : d.ddrRunning = true) (hmore : m.lines + 1 < d.rankLines) :
    d.copyLine sc .good = (d.setMigs (d.ddr.migs.map (fun (x : Migration) => if x.sc == sc then { m with lines := m.lines + 1 } else x))).showMig
      { m with lines := m.lines + 1 } := by
  simp only [Dev.copyLine, hmig]
  exact (if_neg (by simp [hrun])).trans (if_pos (by rw [Dev.rankLines_showMig]; exact hmore))

/-- The regions' orders within the capacity are written, region 0 apart. -/
theorem Dev.mapWrite_on {high : Bool} {v : Nat} (hpower : d.powered 8 = true) :
    d.mapWrite high v = d.each ((List.range 16).filter (fun i => (if high then 16 else 0) + i != 0 &&
      ((if high then 16 else 0) + i) * 2 ^ 30 < d.capacity)) (fun x i => x.put (orderField ((if high then 16 else 0) + i)) (slice v (2 * i) 2)) :=
  if_neg (by simp [hpower])

end

/-- Settles O39 (log entries 19, 84, 117 and 148): each clause is a branch of the command's operation. -/
theorem granaryServesRequests : Obligations.GranaryServesRequests := by
  refine ⟨fun _ asks i o => effect_dramRequest asks i o, ?write, ?read, ?waits, fun _ i => effect_agePromotion i, ?promotes, ?notQueued,
    fun _ sc rank bg ba => effect_rowIdlePrecharge sc rank bg ba, fun _ sc rank ba => effect_dramRefresh sc rank ba, ?bankRefresh, ?rankRefresh,
    fun _ sc rank ok => effect_shortPause sc rank ok, ?short, fun _ sc rank ok rate => effect_longPause sc rank ok rate, ?long, ?unfitted,
    fun _ x spare o => effect_dramPatrolRead x spare o, ?line, ?spare, fun _ => effect_ceHourEnd,
    fun _ sc o => effect_migrationLineCopy sc o, ?advances, ?noMigration, ?orders, ?dropped⟩
  case write =>
    rintro d asks i o r _ rfl hrun hreq hmay hwrite hlive
    exact (effect_dramRequest asks i o hlive).of_eq
      ((Dev.dramRequest_accepts hrun).trans ((Dev.issueReq_issues hreq hmay).trans (if_pos hwrite)))
  case read =>
    rintro d asks i o r _ rfl hrun hreq hmay hread hlive
    exact (effect_dramRequest asks i o hlive).of_eq
      ((Dev.dramRequest_accepts hrun).trans ((Dev.issueReq_issues hreq hmay).trans (if_neg (by simp [hread]))))
  case waits =>
    rintro d asks i o _ rfl hrun hmay hlive
    exact (effect_dramRequest asks i o hlive).of_eq ((Dev.dramRequest_accepts hrun).trans (Dev.issueReq_waits hmay))
  case promotes =>
    rintro d _ r l hrun rfl hqueue hcls hlive
    exact (effect_agePromotion 0 hlive).of_eq ((if_pos hrun).trans (Dev.promote_first hqueue hcls))
  case notQueued =>
    intro d i hnone hlive
    refine (effect_agePromotion i hlive).of_eq ?_
    rw [Dev.promote_none hnone, ite_self]
  case bankRefresh =>
    rintro d sc rank _ b rfl hlive
    exact effect_dramRefresh sc rank (some b) hlive
  case rankRefresh =>
    rintro d sc rank _ rfl hlive
    exact (effect_dramRefresh sc rank none hlive).of_eq (by simp [Dev.closeRank])
  case short =>
    rintro d sc rank ok _ rfl hrun hrole hlive
    exact (effect_shortPause sc rank ok hlive).of_eq (Dev.pause_fitted hrun hrole)
  case long =>
    rintro d sc rank ok rate _ rfl hrun hrole hrate hlive
    refine (effect_longPause sc rank ok rate hlive).of_eq ((Dev.longPauseAct_fitted rate hrun hrole).trans ?_)
    rw [Dev.refreshRate_same hrate]
    exact Dev.pause_fitted hrun hrole
  case unfitted =>
    intro d sc rank ok hrole hlive
    exact (effect_shortPause sc rank ok hlive).of_eq (Dev.pause_unfitted hrole)
  case line =>
    rintro d x _ o hrun hx rfl hlive
    exact (effect_dramPatrolRead x false o hlive).of_eq (Dev.dramPatrol_line hrun hx)
  case spare =>
    rintro d x _ _ r s hrun hx rfl hspare rfl hlive
    exact (effect_dramPatrolRead x true (.corrected s) hlive).of_eq (Dev.dramPatrol_spareCorrected hrun hx hspare)
  case advances =>
    rintro d sc _ m _ rfl hmig hrun rfl hmore hlive
    exact (effect_migrationLineCopy sc .good hlive).of_eq (Dev.copyLine_good hmig hrun hmore)
  case noMigration =>
    intro d sc o hmig hlive
    exact (effect_migrationLineCopy sc o hlive).of_eq (Dev.copyLine_none hmig)
  case orders =>
    intro d high v hpower hstop
    exact (effect_ddrMapWrite high v hpower hstop).of_eq (Dev.mapWrite_on hpower)
  case dropped =>
    intro d high v hpower hstop
    exact effect_dropped (f := fun d => d.mapWrite high v.toNat) hpower hstop (fun _ => rfl) rfl

/-! ### Tiles (R492 to R496) -/

section
variable {d e : Dev} {producer t off : Nat} {bytes : List Nat}

theorem Dev.produce_on (hpower : d.powered 8 = true) : d.produce producer t off bytes = (d.tileWrite producer t off bytes).1 :=
  if_neg (by simp [hpower])

/-- A write at offset 0 that does not fill the tile opens it for its producer, with the next generation. -/
theorem Dev.tileWrite_opens (hstate : (d.tile t).state = .empty ∨ (d.tile t).state = .sealed) (hbytes : bytes ≠ [])
    (hlen : bytes.length < 4096) (ht : t < d.poolTiles) :
    d.tileWrite producer t 0 bytes = ((d.granWrite (d.tileBase t) bytes).setTile
      { d.tile t with state := .opened, producer := producer, gen := ((d.tile t).gen + 1) % 2 ^ 32, next := bytes.length }, true) := by
  have hshort : ¬ 4096 < bytes.length := by omega
  have hpart : bytes.length ≠ 4096 := by omega
  obtain hstate | hstate := hstate
  · simp [Dev.tileWrite, hstate, hbytes, hshort, hpart, ht]
  · simp [Dev.tileWrite, hstate, hbytes, hshort, hpart, ht]

/-- The producer's write that reaches the tile's end seals it with the CRC-64 of its bytes. -/
theorem Dev.tileWrite_seals (he : e = d.granWrite (d.tileBase t + off) bytes) (hstate : (d.tile t).state = .opened)
    (hproducer : (d.tile t).producer = producer) (hnext : (d.tile t).next = off) (hoff : off ≠ 0) (hbytes : bytes ≠ [])
    (hend : off + bytes.length = 4096) (ht : t < d.poolTiles) :
    d.tileWrite producer t off bytes =
      (e.setTile { d.tile t with state := .sealed, next := 0, crc := crc64 (e.granRead (e.tileBase t) 4096) }, true) := by
  subst he
  simp [Dev.tileWrite, hstate, hproducer, hnext, hoff, hbytes, hend, ht]

/-- A write at another offset than the one reached is refused as out of sequence. -/
theorem Dev.tileWrite_outOfSequence (hstate : (d.tile t).state = .opened) (hnext : (d.tile t).next ≠ off) :
    d.tileWrite producer t off bytes = (d.writeRefused t 2, false) := by
  simp [Dev.tileWrite, hstate, hnext]

theorem Dev.tileWrite_waits (hstate : (d.tile t).state = .test) :
    d.tileWrite producer t off bytes = (d.setTile { d.tile t with held := (d.tile t).held ++ [(producer, off, bytes)] }, true) :=
  if_pos hstate

theorem Dev.tileTestDone_other {pass : Bool} (hstate : (d.tile t).state ≠ .test) : d.tileTestDone t pass = d := if_pos (by simp [hstate])

theorem Dev.tileTestDone_passes (hstate : (d.tile t).state = .test) (hheld : (d.tile t).held = []) :
    d.tileTestDone t true = ((d.setTile { d.tile t with state := .empty, held := [], next := 0 }).countTiles).post 0x3011 [t] := by
  simp [Dev.tileTestDone, hstate, hheld, Dev.each]

theorem Dev.tileTestDone_fails (he : e = (d.setTile { d.tile t with state := .retired, held := [], next := 0 }).countTiles)
    (hstate : (d.tile t).state = .test) (hheld : (d.tile t).held = []) :
    d.tileTestDone t false = (e.put F.GRN_INT_STAT_RETIRED 1).post 0x3012 [t, e.get F.GRN_BAD_RETIRED] := by
  subst he
  simp [Dev.tileTestDone, hstate, hheld, Dev.each]

end

/-- Settles O40 (log entries 19 and 87): each clause is a branch of the tile's write or of its test's end. -/
theorem tilesAreProducedAndTested : Obligations.TilesAreProducedAndTested := by
  refine ⟨fun _ producer t off bytes => effect_tileProduceWrite producer t off bytes, ?opens, ?seals, ?refused, ?waits,
    fun _ t pass => effect_tileTestDone t pass, ?passes, ?fails, ?noTest⟩
  case opens =>
    rintro d producer t _ bytes hpower rfl hstate hbytes hlen ht hlive
    exact (effect_tileProduceWrite producer t 0 bytes hlive).of_eq
      ((Dev.produce_on hpower).trans (congrArg Prod.fst (Dev.tileWrite_opens hstate hbytes hlen ht)))
  case seals =>
    intro d producer t off bytes e he hpower hstate hproducer hnext hoff hbytes hend ht hlive
    exact (effect_tileProduceWrite producer t off bytes hlive).of_eq
      ((Dev.produce_on hpower).trans (congrArg Prod.fst (Dev.tileWrite_seals he hstate hproducer hnext hoff hbytes hend ht)))
  case refused =>
    intro d producer t off bytes hpower hstate hnext hlive
    exact (effect_tileProduceWrite producer t off bytes hlive).of_eq
      ((Dev.produce_on hpower).trans (congrArg Prod.fst (Dev.tileWrite_outOfSequence hstate hnext)))
  case waits =>
    intro d producer t off bytes hpower hstate hlive
    exact (effect_tileProduceWrite producer t off bytes hlive).of_eq
      ((Dev.produce_on hpower).trans (congrArg Prod.fst (Dev.tileWrite_waits hstate)))
  case passes =>
    rintro d t _ hstate hheld rfl hlive
    exact (effect_tileTestDone t true hlive).of_eq (Dev.tileTestDone_passes hstate hheld)
  case fails =>
    rintro d t _ e he hstate hheld rfl hlive
    exact (effect_tileTestDone t false hlive).of_eq (Dev.tileTestDone_fails he hstate hheld)
  case noTest =>
    intro d t pass hstate hlive
    exact (effect_tileTestDone t pass hlive).of_eq (Dev.tileTestDone_other hstate)

end Sys2Proof.Machine
end

section
/-! SUPPORT. The metadata cache and the SRAM macros (spec/13): accesses of the ports and of other agents, fills and write-backs, locked ways, range
operations, the drain, the patrol and the flip mask; from them the statements on all of them. -/

namespace Sys2Proof.Machine

/-! ### The effect of each command: by the cache's island, the SRAM's, or CORE (02 R72) -/

theorem effect_cacheRequest {d : Dev} (port : Fin 5) (x : CoreAccess) (hlive : d.live 0x0B = true) : Effect (.cacheRequest port x) d
    (if d.powered 8 && !d.stalled port.val && d.isGranary x.addr && d.isGranary (x.addr + x.len - 1) then d.granAccess port.val x else d) :=
  effect_island (f := fun d => if d.powered 8 && !d.stalled port.val && d.isGranary x.addr && d.isGranary (x.addr + x.len - 1)
    then d.granAccess port.val x else d) hlive (fun _ => rfl) rfl

theorem effect_cacheFillDone {d : Dev} (port : Option (Fin 5)) (o : DramRead) (hlive : d.live 0x0B = true) :
    Effect (.cacheFillDone port o) d (match port with | some p => d.fillDone p.val o | none => d.prefetchDone o) :=
  effect_island (f := fun d => match port with | some p => d.fillDone p.val o | none => d.prefetchDone o) hlive (fun _ => rfl) rfl

theorem effect_noncachingAccess {d : Dev} (x : GranAccess) (hlive : d.live 0x0B = true) : Effect (.noncachingAccess x) d (d.nonCaching x) :=
  effect_island (f := fun d => d.nonCaching x) hlive (fun _ => rfl) rfl

theorem effect_victimWritebackDone {d : Dev} (line : Nat) (hlive : d.live 0x0B = true) :
    Effect (.victimWritebackDone line) d (d.victimDone line) :=
  effect_island (f := fun d => d.victimDone line) hlive (fun _ => rfl) rfl

theorem effect_mccLockWrite {d : Dev} (v : BitVec 32) (hstop : d.clk.stopped = false) : Effect (.mccLockWrite v) d (d.lockWrite v.toNat) :=
  effect_core (f := fun d => d.lockWrite v.toNat) hstop (fun _ => rfl) rfl

theorem effect_lockChangeDone {d : Dev} (hlive : d.live 0x0B = true) : Effect .lockChangeDone d d.lockDone :=
  effect_island hlive (fun _ => rfl) rfl

theorem effect_maintClean {d : Dev} (hstop : d.clk.stopped = false) : Effect .maintClean d (d.maintGo 0) :=
  effect_core (f := fun d => d.maintGo 0) hstop (fun _ => rfl) rfl

theorem effect_maintInvalidate {d : Dev} (hstop : d.clk.stopped = false) : Effect .maintInvalidate d (d.maintGo 1) :=
  effect_core (f := fun d => d.maintGo 1) hstop (fun _ => rfl) rfl

theorem effect_maintCleanInvalidate {d : Dev} (hstop : d.clk.stopped = false) : Effect .maintCleanInvalidate d (d.maintGo 2) :=
  effect_core (f := fun d => d.maintGo 2) hstop (fun _ => rfl) rfl

theorem effect_maintDone {d : Dev} (hlive : d.live 0x0B = true) : Effect .maintDone d d.maintDone :=
  effect_island hlive (fun _ => rfl) rfl

theorem effect_cacheDisable {d : Dev} (hstop : d.clk.stopped = false) : Effect .cacheDisable d d.cacheDrain :=
  effect_core hstop (fun _ => rfl) rfl

theorem effect_cacheEnable {d : Dev} (hstop : d.clk.stopped = false) : Effect .cacheEnable d d.cacheEnable :=
  effect_core hstop (fun _ => rfl) rfl

theorem effect_drainDone {d : Dev} (hlive : d.live 0x0B = true) : Effect .drainDone d d.drainDone :=
  effect_island hlive (fun _ => rfl) rfl

theorem effect_sramPatrol {d : Dev} (m : Fin 96) (word : Fin 8192) (o : Ecc) (hlive : d.live 0x0C = true) :
    Effect (.sramPatrol m word o) d (d.sramPatrol m.val word.val o) :=
  effect_island (f := fun d => d.sramPatrol m.val word.val o) hlive (fun _ => rfl) rfl

theorem effect_bucketLeak {d : Dev} (hlive : d.live 0x0C = true) : Effect .bucketLeak d d.bucketLeak :=
  effect_island hlive (fun _ => rfl) rfl

theorem effect_flipArm {d : Dev} (v : BitVec 32) (hstop : d.clk.stopped = false) : Effect (.flipArm v) d (d.flipArm v.toNat) :=
  effect_core (f := fun d => d.flipArm v.toNat) hstop (fun _ => rfl) rfl

/-! ### A load and a store of a port (R505 to R510) -/

/-- A port's access as the cache keeps it. -/
def Dev.portAccess (d : Dev) (x : CoreAccess) : Access1 :=
  ⟨x.addr, x.len, x.op, x.data, d.regionPolicy (x.addr - granBase), x.word, x.tag, x.dram⟩

section
variable {d e : Dev} {port : Nat} {x : CoreAccess} {a : Access1} {c : CLine}

/-- A load either waits behind an earlier access or is served. -/
theorem Dev.granAccess_load (he : e = (d.issueVictims x.issued).engineTo x.engine) (hload : x.op = .load) :
    d.granAccess port x = if e.mustWait port (e.portAccess x) then e.portWait port (e.portAccess x) else e.cacheServe port (e.portAccess x) := by
  subst he
  have hread : opReads x.op = true := by rw [hload]; rfl
  simp only [Dev.granAccess, hread, Bool.not_true, Bool.false_and, Bool.false_eq_true, if_false]
  rfl

/-- A store into a pool tile is refused (12 R493). -/
theorem Dev.granAccess_storeRefused {t : Nat} (he : e = (d.issueVictims x.issued).engineTo x.engine) (hcore : port < 4) (hstore : x.op = .store)
    (htile : e.tileOf (x.addr - granBase) = some t) : d.granAccess port x = (e.writeRefused t 0).busFault port .storeAccess x.addr := by
  subst he
  have hwrites : opReads x.op = false := by rw [hstore]; rfl
  simp [Dev.granAccess, hwrites, htile, hcore]

/-- A load answers the old bytes and stores none. -/
theorem Dev.operate_load {old : List Nat} (hload : a.op = .load) : d.operate port a old = (d.reply port (leValue old), none) := by
  simp [Dev.operate, hload, memResult]

/-- A load of a line whose words are clean is a hit: it answers the line's bytes and marks the way used. -/
theorem Dev.cacheServe_loadHit (hload : a.op = .load) (hon : d.on F.MCC_CTRL_ENABLE = true) (hpol : a.pol ≠ 0)
    (hline : d.cline ((a.addr - granBase) / 64) = some c) (hcheck : d.checkLine c ((a.addr - granBase) % 64) a.word a.tag = (d, .there))
    (hpre : c.pre = false) : d.cacheServe port a =
      (((d.inc F.MCC_HIT_COUNT).touchWay (c.line % 4096) c.way).reply port (leValue ((c.data.drop ((a.addr - granBase) % 64)).take a.len))).putLine
        c := by
  have hclean : ({ c with pre := false } : CLine) = c := by rw [← hpre]
  simp [Dev.cacheServe, hload, hon, hpol, hline, hcheck, hpre, Dev.lineHit, Dev.operate_load hload, hclean]

/-- A load of a line neither cached nor in the victim buffer is a miss of its port. -/
theorem Dev.cacheServe_loadMiss (hload : a.op = .load) (hon : d.on F.MCC_CTRL_ENABLE = true) (hpol : a.pol ≠ 0)
    (hline : d.cline ((a.addr - granBase) / 64) = none) (hvictim : d.victim ((a.addr - granBase) / 64) = none)
    (hdrain : d.on F.MCC_STAT_DRAINING = false) (hway : d.anyWay = true) : d.cacheServe port a = d.startMiss port a := by
  simp [Dev.cacheServe, hload, hon, hpol, hline, hvictim, Dev.lineMiss, hdrain, hway, opStores]

theorem Dev.startMiss_first (hload : a.op = .load) (hmiss : d.missAt port = false) : d.startMiss port a =
    (({ d with mcc := { d.mcc with misses := d.mcc.misses ++ [⟨port, a, false⟩] } } : Dev).inc F.MCC_MISS_COUNT).prefetchNext
      (a.addr - granBase) := by
  simp [Dev.startMiss, hmiss, hload, opReads]

theorem Dev.startMiss_behind (hmiss : d.missAt port = true) : d.startMiss port a = d.portWait port a := if_pos hmiss

end

/-! ### Fills, other agents' accesses and write-backs (R504, R506, R526, R527) -/

section
variable {d e : Dev} {port l : Nat} {o : DramRead} {m : Miss} {c : CLine}

theorem Dev.fillDone_none (hnone : d.mcc.misses.find? (fun (m : Miss) => m.port == port) = none) : d.fillDone port o = d := by
  simp only [Dev.fillDone, hnone]

/-- A fill whose data are good goes on to the miss's access. -/
theorem Dev.fillDone_good (hmiss : d.mcc.misses.find? (fun (m : Miss) => m.port == port) = some m) (hl : l = (m.acc.addr - granBase) / 64)
    (hfilled : m.filled = false) (hvictim : d.victim l = none) (hline : d.cline l = none) (hmeet : d.dramMeet (64 * l) o 2 = (d, false)) :
    d.fillDone port o = d.missFilled m := by
  subst hl
  simp [Dev.fillDone, hmiss, hfilled, hvictim, hline, hmeet]

/-- The filled line is allocated, serves its access, and the port goes on. -/
theorem Dev.missFilled_allocates (hl : l = (m.acc.addr - granBase) / 64) (hline : d.cline l = none) (hon : d.on F.MCC_CTRL_ENABLE = true)
    (hdrain : d.on F.MCC_STAT_DRAINING = false) (hway : d.anyWay = true) (halloc : d.allocLine l false false (d.dramRead (64 * l) 64) = some e)
    (hplaced : e.cline l = some c) :
    d.missFilled m = ((e.missEnds m).lineHit m.port m.acc c (m.acc.pol == 1)).portGoesOn m.port := by
  subst hl
  simp [Dev.missFilled, hon, hdrain, hway, hline, halloc, hplaced]

theorem Dev.prefetchDone_none (hnone : d.mcc.prefetch = none) : d.prefetchDone o = d := by
  simp only [Dev.prefetchDone, hnone]

theorem Dev.victimDone_none (hnone : d.victim l = none) : d.victimDone l = d := by
  simp only [Dev.victimDone, hnone]

theorem Dev.victimDone_frees {v : Victim} (hvictim : d.victim l = some v) (hmisses : d.mcc.misses = []) :
    d.victimDone l = (d.writeBack l v.data).dropVictim l := by
  have hnone : ((d.writeBack l v.data).dropVictim l).mcc.misses.find? (fun (m : Miss) => m.filled) = none := by
    rw [show ((d.writeBack l v.data).dropVictim l).mcc.misses = d.mcc.misses from rfl, hmisses]
    rfl
  simp only [Dev.victimDone, hvictim, hnone]

end

section
variable {d : Dev} {x : GranAccess}

theorem Dev.nonCaching_reads (hpower : d.powered 8 = true) (hin : x.addr + x.len ≤ d.capacity) (hread : x.write = false)
    (hmeet : d.linesMeet x.addr x.len x.dram x.cls.val = (d, false)) : d.nonCaching x = d.answer (leValue (d.granRead x.addr x.len)) .none := by
  simp [Dev.nonCaching, hpower, hin, hread, hmeet]

/-- A write inside the capacity: into the pool or the side table refused, else stored. -/
theorem Dev.nonCaching_writes (hpower : d.powered 8 = true) (hin : x.addr + x.bytes.length ≤ d.capacity) (hwrite : x.write = true) :
    d.nonCaching x = match d.tileOf x.addr with
      | some t => d.writeRefused t 2
      | none => if d.inSideTable x.addr then d.writeRefused ((x.addr - d.get F.GRN_SIDE_BASE_TILES * 4096) / 16) 2 else d.granWrite x.addr x.bytes :=
  (if_neg (by simp [hpower, hin, hwrite])).trans (if_neg (by simp [hwrite]))

end

/-- Settles O41 (log entries 19, 85, 86, 87, 150, 151 and 152): each clause is a branch of the cache's service of its access. -/
theorem cacheServesPorts : Obligations.CacheServesPorts := by
  have granted : ∀ (d : Dev) (port : Fin 5) (x : CoreAccess) (e : Dev), d.powered 8 = true → d.stalled port.val = false →
      d.isGranary x.addr = true → d.isGranary (x.addr + x.len - 1) = true → d.live 0x0B = true → d.granAccess port.val x = e →
      Effect (.cacheRequest port x) d e := fun d port x e hpower hstall hfirst hlast hlive he =>
    (effect_cacheRequest port x hlive).of_eq ((if_pos (by simp [hpower, hstall, hfirst, hlast])).trans he)
  refine ⟨fun _ port x => effect_cacheRequest port x, ?hit, ?storeRefused, ?waits, ?behind, ?misses,
    fun _ port o => effect_cacheFillDone port o, ?fills, ?noMiss, ?noPrefetch, fun _ x => effect_noncachingAccess x, ?agentReads, ?agentWrites,
    ?agentRefused, fun _ line => effect_victimWritebackDone line, ?victimDone, ?noVictim⟩
  case hit =>
    intro d port x c e he hpower hstall hfirst hlast hload hfree hon hline hpol hcheck hpre hlive
    refine granted d port x _ hpower hstall hfirst hlast hlive ((Dev.granAccess_load he hload).trans ((if_neg ?_).trans ?_))
    · exact Bool.not_eq_true _ ▸ hfree
    · exact Dev.cacheServe_loadHit (a := e.portAccess x) hload hon hpol hline hcheck hpre
  case storeRefused =>
    intro d port x t e he hpower hstall hfirst hlast hcore hstore htile hlive
    exact granted d port x _ hpower hstall hfirst hlast hlive (Dev.granAccess_storeRefused he hcore hstore htile)
  case waits =>
    intro d port x e he hpower hstall hfirst hlast hload _ hwait hlive
    exact granted d port x _ hpower hstall hfirst hlast hlive ((Dev.granAccess_load he hload).trans (if_pos hwait))
  case behind =>
    intro d port x e he hpower hstall hfirst hlast hload hfree hon hline hvictim hpol hdrain hway hmiss hlive
    refine granted d port x _ hpower hstall hfirst hlast hlive ((Dev.granAccess_load he hload).trans ((if_neg ?_).trans ?_))
    · exact Bool.not_eq_true _ ▸ hfree
    · exact (Dev.cacheServe_loadMiss (a := e.portAccess x) hload hon hpol hline hvictim hdrain hway).trans (Dev.startMiss_behind hmiss)
  case misses =>
    intro d port x e he hpower hstall hfirst hlast hload hfree hon hline hvictim hpol hdrain hway hmiss hlive
    refine granted d port x _ hpower hstall hfirst hlast hlive ((Dev.granAccess_load he hload).trans ((if_neg ?_).trans ?_))
    · exact Bool.not_eq_true _ ▸ hfree
    · exact (Dev.cacheServe_loadMiss (a := e.portAccess x) hload hon hpol hline hvictim hdrain hway).trans (Dev.startMiss_first hload hmiss)
  case fills =>
    rintro d _ o p m l c e rfl hmiss hl hfilled hvictim hline hmeet hon hdrain hway halloc hplaced hlive
    exact (effect_cacheFillDone (some p) o hlive).of_eq ((Dev.fillDone_good hmiss hl hfilled hvictim hline hmeet).trans
      (Dev.missFilled_allocates hl hline hon hdrain hway halloc hplaced))
  case noMiss =>
    rintro d _ o p rfl hnone hlive
    exact (effect_cacheFillDone (some p) o hlive).of_eq (Dev.fillDone_none hnone)
  case noPrefetch =>
    rintro d _ o rfl hnone hlive
    exact (effect_cacheFillDone none o hlive).of_eq (Dev.prefetchDone_none hnone)
  case agentReads =>
    intro d x hpower hin hread hmeet hlive
    exact (effect_noncachingAccess x hlive).of_eq (Dev.nonCaching_reads hpower hin hread hmeet)
  case agentWrites =>
    intro d x hpower hin hwrite htile hside hlive
    exact (effect_noncachingAccess x hlive).of_eq ((Dev.nonCaching_writes hpower hin hwrite).trans (by simp [htile, hside]))
  case agentRefused =>
    intro d x t hpower hin hwrite htile hlive
    exact (effect_noncachingAccess x hlive).of_eq ((Dev.nonCaching_writes hpower hin hwrite).trans (by simp [htile]))
  case victimDone =>
    intro d line v hvictim hmisses hlive
    exact (effect_victimWritebackDone line hlive).of_eq (Dev.victimDone_frees hvictim hmisses)
  case noVictim =>
    intro d line hnone hlive
    exact (effect_victimWritebackDone line hlive).of_eq (Dev.victimDone_none hnone)

/-! ### Locked ways, range operations and ENABLE (R513 to R524) -/

section
variable {d e : Dev} {v op : Nat}

/-- No lock change, drain or range operation is in progress. -/
structure Dev.CacheIdle (d : Dev) : Prop where
  lock : d.on F.MCC_STAT_LOCK_BUSY = false
  drain : d.on F.MCC_STAT_DRAINING = false
  maint : d.on F.MCC_STAT_MAINT = false

theorem Dev.lockWrite_smaller (hidle : d.CacheIdle) (hless : v % 16 < d.get F.MCC_LOCK_WAYS) (hmax : d.get F.MCC_LOCK_WAYS ≤ 8) :
    d.lockWrite v = (((d.clearWays (v % 16) (d.get F.MCC_LOCK_WAYS)).put F.MCC_LOCK_WAYS (v % 16)).put F.MCC_INT_STAT_LOCK_DONE 1).post 0x3103
      [d.get F.MCC_LOCK_WAYS, v % 16] := by
  have hways : ¬ 8 < v % 16 := by omega
  have hgrow : ¬ d.get F.MCC_LOCK_WAYS < v % 16 := by omega
  exact (if_neg (by simp only [hidle.lock, hidle.drain, hidle.maint, hways, hgrow, decide_false, Bool.and_false, Bool.or_false, Bool.false_eq_true,
    not_false_eq_true])).trans ((if_neg (by omega)).trans (if_pos hless))

theorem Dev.lockWrite_larger (hidle : d.CacheIdle) (hmore : d.get F.MCC_LOCK_WAYS < v % 16) (hmax : v % 16 ≤ 8)
    (hfence : d.get F.MCC_FENCE_WAYS = 0) :
    d.lockWrite v = (({ d with mcc := { d.mcc with lockTo := v % 16 } } : Dev).put F.MCC_STAT_LOCK_BUSY 1).showMcc := by
  have hways : ¬ 8 < v % 16 := by omega
  have hfenced : (List.range (v % 16)).any (fun w => d.bit F.MCC_FENCE_WAYS w) = false := by
    simp only [Dev.bit, hfence, Nat.zero_testBit, List.any_eq_false, Bool.false_eq_true, not_false_eq_true, implies_true]
  exact (if_neg (by simp only [hidle.lock, hidle.drain, hidle.maint, hways, hfenced, decide_false, Bool.false_and, Bool.or_false,
    Bool.false_eq_true, not_false_eq_true])).trans ((if_neg (by omega)).trans (if_neg (by omega)))

theorem Dev.lockWrite_ignored (hbad : 8 < v % 16 ∨ d.on F.MCC_STAT_MAINT = true) : d.lockWrite v = d.mccIgnored 0xC := by
  refine if_pos ?_
  obtain hbad | hbad := hbad
  · simp [hbad]
  · simp [hbad]

theorem Dev.lockDone_idle (hlock : d.on F.MCC_STAT_LOCK_BUSY = false) : d.lockDone = d := if_pos (by simp [hlock])

theorem Dev.lockDone_ends (hlock : d.on F.MCC_STAT_LOCK_BUSY = true) {e2 : Dev}
    (he : e = d.cleanLines (d.mcc.lines.filter (fun (c : CLine) => d.get F.MCC_LOCK_WAYS ≤ c.way && c.way < d.mcc.lockTo)) true true)
    (he2 : e2 = ((e.clearWays (d.get F.MCC_LOCK_WAYS) d.mcc.lockTo).put F.MCC_LOCK_WAYS d.mcc.lockTo).put F.MCC_STAT_LOCK_BUSY 0) :
    d.lockDone = ((({ e2 with mcc := { e2.mcc with lockTo := 0 } } : Dev).showMcc).put F.MCC_INT_STAT_LOCK_DONE 1).post 0x3103
      [d.get F.MCC_LOCK_WAYS, d.mcc.lockTo] := by
  subst he he2
  exact if_neg (by simp [hlock])

theorem Dev.maintGo_starts (hidle : d.CacheIdle) (he : e = (d.put F.MCC_MAINT_CTRL_OP op).put F.MCC_STAT_MAINT 1)
    (hlines : d.get F.MCC_MAINT_LEN_LINES ≠ 0) :
    d.maintGo op = ({ e with mcc := { e.mcc with
      maint := some (op, (d.get F.MCC_MAINT_ADDR_LO_ADDR * 64 + d.get F.MCC_MAINT_ADDR_HI_ADDR * 2 ^ 32) / 64, d.get F.MCC_MAINT_LEN_LINES),
      pos := 0 } } : Dev).showMcc := by
  subst he
  exact if_neg (by simp [hidle.lock, hidle.drain, hidle.maint, hlines])

theorem Dev.maintGo_ignored (hlines : d.get F.MCC_MAINT_LEN_LINES = 0) : d.maintGo op = d.mccIgnored 0x3C := if_pos (by simp [hlines])

theorem Dev.maintDone_none (hnone : d.mcc.maint = none) : d.maintDone = d := by
  simp only [Dev.maintDone, hnone]

/-- A range operation ends; a drain that waited for it starts. -/
theorem Dev.maintDone_ends {r : Nat × Nat × Nat} (he : e = d.engineTo 65536) (hmaint : d.mcc.maint = some r) :
    d.maintDone =
      if e.mcc.drainAfter then
        ((((({ e with mcc := { e.mcc with maint := none } } : Dev).put F.MCC_STAT_MAINT 0).showMcc).put F.MCC_INT_STAT_OP_DONE 1).cacheDrain)
      else (((({ e with mcc := { e.mcc with maint := none } } : Dev).put F.MCC_STAT_MAINT 0).showMcc).put F.MCC_INT_STAT_OP_DONE 1) := by
  subst he
  simp only [Dev.maintDone, hmaint]
  rfl

theorem Dev.cacheDrain_starts (hon : d.on F.MCC_CTRL_ENABLE = true) (hdrain : d.on F.MCC_STAT_DRAINING = false)
    (hmaint : d.on F.MCC_STAT_MAINT = false) :
    d.cacheDrain = (({ d with mcc := { d.mcc with drainAfter := false, pos := 0, written := 0 } } : Dev).put F.MCC_STAT_DRAINING 1).showMcc :=
  (if_neg (by simp [hon, hdrain])).trans (if_neg (by simp [hmaint]))

theorem Dev.cacheDrain_waits (hon : d.on F.MCC_CTRL_ENABLE = true) (hdrain : d.on F.MCC_STAT_DRAINING = false)
    (hmaint : d.on F.MCC_STAT_MAINT = true) : d.cacheDrain = { d with mcc := { d.mcc with drainAfter := true } } :=
  (if_neg (by simp [hon, hdrain])).trans (if_pos hmaint)

theorem Dev.cacheEnable_enables (hdrain : d.draining = false) (hoff : d.on F.MCC_CTRL_ENABLE = false) :
    d.cacheEnable = (d.put F.MCC_CTRL_ENABLE 1).post 0x3101 [d.get F.MCC_LOCK_WAYS, d.get F.MCC_FENCE_WAYS] :=
  (if_neg (by simp [hdrain])).trans (if_neg (by simp [hoff]))

theorem Dev.drainDone_idle (hdrain : d.on F.MCC_STAT_DRAINING = false) : d.drainDone = d := if_pos (by simp [hdrain])

theorem Dev.drainDone_ends (he : e = d.engineTo 65536) (hdrain : d.on F.MCC_STAT_DRAINING = true) :
    d.drainDone = ((((e.put F.MCC_CTRL_ENABLE 0).put F.MCC_STAT_DRAINING 0).showMcc).put F.MCC_INT_STAT_OP_DONE 1).post 0x3102 [e.mcc.written] := by
  subst he
  exact if_neg (by simp [hdrain])

end

/-! ### The patrol and the flip mask (R531, R533, R540) -/

section
variable {d e e2 : Dev} {m word v : Nat} {o : Ecc}

theorem Dev.sramPatrol_clean (hclean : d.wordValid m word = false ∨ d.wordEcc m word o = .clean) : d.sramPatrol m word o = d := by
  unfold Dev.sramPatrol
  obtain hclean | hclean := hclean
  · simp [hclean]
  · simp [hclean]

/-- The patrol of a word with its valid bit set. -/
theorem Dev.sramPatrol_single (hm : m < 96) (hw : word < 8192) (hvalid : d.wordValid m word = true) (hecc : d.wordEcc m word o = .single) :
    d.sramPatrol m word o = d.sramCorrected m word := by
  simp [Dev.sramPatrol, hm, hw, hvalid, hecc]

theorem Dev.flipArm_arms (hmacro : slice v 0 7 ≤ 95) (harm : v.testBit 31 = true) :
    d.flipArm v = ((d.put F.SRM_FLIP_CTRL_CHECK_MASK (slice v 8 8)).put F.SRM_FLIP_CTRL_MACRO (slice v 0 7)).put F.SRM_FLIP_CTRL_ARMED 1 :=
  (if_neg (by omega)).trans (if_pos harm)

end

/-- Settles O42 (log entries 19, 85, 86, 150 and 151): each clause is a branch of the command's operation. -/
theorem cacheLocksRangesAndProtection : Obligations.CacheLocksRangesAndProtection := by
  refine ⟨fun _ v => effect_mccLockWrite v, ?smaller, ?larger, ?ignored, fun _ => effect_lockChangeDone, ?noLock, ?lockEnds,
    fun _ => effect_maintClean, ?clean, fun _ => effect_maintInvalidate, ?invalidate, fun _ => effect_maintCleanInvalidate, ?cleanInvalidate,
    ?noLines, fun _ => effect_maintDone, ?noMaint, ?maintEnds, ?maintDrains, fun _ => effect_cacheDisable, ?drains, ?drainWaits,
    fun _ => effect_cacheEnable, ?enables, ?enableIgnored, fun _ => effect_drainDone, ?drainEnds, ?noDrain,
    fun _ m word o => effect_sramPatrol m word o, ?single, ?good, ?double, fun _ => effect_bucketLeak, fun _ v => effect_flipArm v, ?arms, ?noMacro⟩
  case smaller =>
    intro d v hlock hdrain hmaint hless hmax hstop
    exact (effect_mccLockWrite v hstop).of_eq (Dev.lockWrite_smaller ⟨hlock, hdrain, hmaint⟩ hless hmax)
  case larger =>
    intro d v hlock hdrain hmaint hmore hmax hfence hstop
    exact (effect_mccLockWrite v hstop).of_eq (Dev.lockWrite_larger ⟨hlock, hdrain, hmaint⟩ hmore hmax hfence)
  case ignored =>
    intro d v hbad hstop
    exact (effect_mccLockWrite v hstop).of_eq (Dev.lockWrite_ignored hbad)
  case noLock =>
    intro d hlock hlive
    exact (effect_lockChangeDone hlive).of_eq (Dev.lockDone_idle hlock)
  case lockEnds =>
    intro d e e2 he he2 hlock hlive
    exact (effect_lockChangeDone hlive).of_eq (Dev.lockDone_ends hlock he he2)
  case clean =>
    intro d e he hlock hdrain hmaint hlines hstop
    exact (effect_maintClean hstop).of_eq (Dev.maintGo_starts ⟨hlock, hdrain, hmaint⟩ he hlines)
  case invalidate =>
    intro d e he hlock hdrain hmaint hlines hstop
    exact (effect_maintInvalidate hstop).of_eq (Dev.maintGo_starts ⟨hlock, hdrain, hmaint⟩ he hlines)
  case cleanInvalidate =>
    intro d e he hlock hdrain hmaint hlines hstop
    exact (effect_maintCleanInvalidate hstop).of_eq (Dev.maintGo_starts ⟨hlock, hdrain, hmaint⟩ he hlines)
  case noLines =>
    intro d hlines hstop
    exact (effect_maintClean hstop).of_eq (Dev.maintGo_ignored hlines)
  case noMaint =>
    intro d hnone hlive
    exact (effect_maintDone hlive).of_eq (Dev.maintDone_none hnone)
  case maintEnds =>
    intro d r e he hmaint hafter hlive
    exact (effect_maintDone hlive).of_eq ((Dev.maintDone_ends he hmaint).trans (if_neg (by simp [hafter])))
  case maintDrains =>
    intro d r e he hmaint hafter hlive
    exact (effect_maintDone hlive).of_eq ((Dev.maintDone_ends he hmaint).trans (if_pos hafter))
  case drains =>
    intro d hon hdrain hmaint hstop
    exact (effect_cacheDisable hstop).of_eq (Dev.cacheDrain_starts hon hdrain hmaint)
  case drainWaits =>
    intro d hon hdrain hmaint hstop
    exact (effect_cacheDisable hstop).of_eq (Dev.cacheDrain_waits hon hdrain hmaint)
  case enables =>
    intro d hdrain hoff hstop
    exact (effect_cacheEnable hstop).of_eq (Dev.cacheEnable_enables hdrain hoff)
  case enableIgnored =>
    intro d hdrain hstop
    exact (effect_cacheEnable hstop).of_eq (if_pos hdrain)
  case drainEnds =>
    intro d e he hdrain hlive
    exact (effect_drainDone hlive).of_eq (Dev.drainDone_ends he hdrain)
  case noDrain =>
    intro d hdrain hlive
    exact (effect_drainDone hlive).of_eq (Dev.drainDone_idle hdrain)
  case single =>
    intro d m word o hvalid hecc hlive
    exact (effect_sramPatrol m word o hlive).of_eq (Dev.sramPatrol_single m.isLt word.isLt hvalid hecc)
  case good =>
    intro d m word o hclean hlive
    exact (effect_sramPatrol m word o hlive).of_eq (Dev.sramPatrol_clean hclean)
  case double =>
    rintro d m word o _ _ rfl rfl hvalid hecc hm hlive
    have hm96 : m.val < 96 := m.isLt
    refine (effect_sramPatrol m word o hlive).of_eq ?_
    simp [Dev.sramPatrol, hm96, word.isLt, hvalid, hecc, Dev.plainMacro, hm]
  case arms =>
    intro d v hmacro harm hstop
    exact (effect_flipArm v hstop).of_eq (Dev.flipArm_arms hmacro harm)
  case noMacro =>
    intro d v hmacro hstop
    exact (effect_flipArm v hstop).of_eq (if_pos hmacro)

end Sys2Proof.Machine
end

section
/-! SUPPORT. The Porter (spec/14): the fetch and the four instructions, bursts, waits, the watchdog, GO and ABORT, and the channels' registers; from them
the statements on all of them. -/

namespace Sys2Proof.Machine

/-! ### The effect of each command: by the Porter's island, or CORE (02 R72) -/

section
variable {d : Dev} (c : Fin 32)

theorem effect_porterMove (o : DramRead) (word : Ecc) (hlive : d.live 0x0D = true) :
    Effect (.porterMove c o word) d (d.porStep c.val 0 o word (fun d w => d.moveStart c.val w)) :=
  effect_island (f := fun d => d.porStep c.val 0 o word (fun d w => d.moveStart c.val w)) hlive (fun _ => rfl) rfl

theorem effect_porterLoop (o : DramRead) (word : Ecc) (hlive : d.live 0x0D = true) :
    Effect (.porterLoop c o word) d (d.porStep c.val 1 o word (fun d w => d.loopAct c.val w)) :=
  effect_island (f := fun d => d.porStep c.val 1 o word (fun d w => d.loopAct c.val w)) hlive (fun _ => rfl) rfl

theorem effect_porterWait (o : DramRead) (word : Ecc) (hlive : d.live 0x0D = true) :
    Effect (.porterWait c o word) d (d.porStep c.val 2 o word (fun d w => d.waitAct c.val w)) :=
  effect_island (f := fun d => d.porStep c.val 2 o word (fun d w => d.waitAct c.val w)) hlive (fun _ => rfl) rfl

theorem effect_porterSignal (o : DramRead) (word : Ecc) (hlive : d.live 0x0D = true) :
    Effect (.porterSignal c o word) d (d.porStep c.val 3 o word (fun d w => d.signalAct c.val w)) :=
  effect_island (f := fun d => d.porStep c.val 3 o word (fun d w => d.signalAct c.val w)) hlive (fun _ => rfl) rfl

theorem effect_porterGo (byCore : Bool) (v : BitVec 30) (hstop : d.clk.stopped = false) :
    Effect (.porterGo c byCore v) d (d.ctrlWrite c.val (2 ^ 31 + v.toNat) byCore) :=
  effect_core (f := fun d => d.ctrlWrite c.val (2 ^ 31 + v.toNat) byCore) hstop (fun _ => rfl) rfl

theorem effect_porterAbort (v : BitVec 30) (hstop : d.clk.stopped = false) :
    Effect (.porterAbort c v) d (d.ctrlWrite c.val (2 ^ 30 + v.toNat) true) :=
  effect_core (f := fun d => d.ctrlWrite c.val (2 ^ 30 + v.toNat) true) hstop (fun _ => rfl) rfl

theorem effect_porterBurstDone (x : BurstEnd) (hlive : d.live 0x0D = true) : Effect (.porterBurstDone c x) d (d.burstDone c.val x) :=
  effect_island (f := fun d => d.burstDone c.val x) hlive (fun _ => rfl) rfl

theorem effect_porterBarrierMet (hlive : d.live 0x0D = true) : Effect (.porterBarrierMet c) d (d.porterBarrierMetAct c) :=
  effect_island (f := fun d => d.porterBarrierMetAct c) hlive (fun _ => rfl) rfl

theorem effect_porterWaitSatisfied (left : Nat) (hlive : d.live 0x0D = true) :
    Effect (.porterWaitSatisfied c left) d (d.waitSatisfied c.val left) :=
  effect_island (f := fun d => d.waitSatisfied c.val left) hlive (fun _ => rfl) rfl

theorem effect_porterWatchdog (hlive : d.live 0x0D = true) : Effect (.porterWatchdog c) d (d.porWatchdog c.val) :=
  effect_island (f := fun d => d.porWatchdog c.val) hlive (fun _ => rfl) rfl

theorem effect_porSwreqWrite {d : Dev} (v : BitVec 32) (hstop : d.clk.stopped = false) : Effect (.porSwreqWrite v) d (d.swreqWrite v.toNat) :=
  effect_core (f := fun d => d.swreqWrite v.toNat) hstop (fun _ => rfl) rfl

theorem effect_porOwnerWrite {d : Dev} (v : BitVec 32) (hstop : d.clk.stopped = false) : Effect (.porOwnerWrite v) d (d.ownerWrite v.toNat) :=
  effect_core (f := fun d => d.ownerWrite v.toNat) hstop (fun _ => rfl) rfl

theorem effect_porterRwoWrite (off : Fin 128) (v : BitVec 32) (hstop : d.clk.stopped = false) :
    Effect (.porterRwoWrite c off v) d (d.chanWrite c.val off.val v.toNat) :=
  effect_core (f := fun d => d.chanWrite c.val off.val v.toNat) hstop (fun _ => rfl) rfl

theorem effect_completionTimeout (hlive : d.live 0x0D = true) : Effect (.completionTimeout c) d (d.hostTimeout c.val) :=
  effect_island (f := fun d => d.hostTimeout c.val) hlive (fun _ => rfl) rfl

end

/-! ### A channel's fields -/

theorem Dev.porPc_putI_ne (d : Dev) {f : Field} (i v c : Nat) (hhi : f.key ≠ F.POR_C_PC_HI_PC.key) (hlo : f.key ≠ F.POR_C_PC_LO_PC.key) :
    (d.putI f i v).porPc c = d.porPc c := by
  simp only [Dev.porPc, Dev.putI_ne _ _ _ hhi, Dev.putI_ne _ _ _ hlo]

theorem Dev.pch_setPch {d : Dev} {c : Nat} (f : PChan → PChan) (hc : c < d.por.ch.length) : (d.setPch c f).pch c = f (d.pch c) :=
  at'_set_self _ _ hc

/-! ### The fetch (R547, R562, R578) -/

/-- A channel in RUN, with no instruction in progress and its program's domain up, fetches eight words. -/
structure Dev.Fetches (d : Dev) (c : Nat) (o : DramRead) (word : Ecc) (e : Dev) (w : List Nat) : Prop where
  run : d.porState c = porRun
  move : (d.pch c).move = none
  wait : (d.pch c).wait = none
  up : d.domainUp (addrDomain (d.porPc c)) = true
  words : d.porFetch c o word = (e, some w)

section
variable {d e : Dev} {c op : Nat} {o : DramRead} {word : Ecc} {w : List Nat} {act : Dev → List Nat → Dev}

/-- The words fetched end the channel where they are bad, act where they are of the row's kind, and else change nothing. -/
theorem Dev.Fetches.porStep (h : d.Fetches c o word e w) : d.porStep c op o word act =
    if d.badInstr c w then e.porError c 5 (d.porPc c) else if pwOp w != op then d else act e w := by
  simp [Dev.porStep, h.run, h.move, h.wait, h.up, h.words]

theorem Dev.Fetches.porStep_acts (h : d.Fetches c o word e w) (hgood : d.badInstr c w = false) (hop : pwOp w = op) :
    d.porStep c op o word act = act e w := by
  rw [h.porStep, if_neg (by simp [hgood]), if_neg (by simp [hop])]

theorem Dev.porStep_notRun (hrun : d.porState c ≠ porRun) : d.porStep c op o word act = d := if_pos (by simp [hrun])

theorem Dev.porStep_domainOff (hrun : d.porState c = porRun) (hmove : (d.pch c).move = none) (hwait : (d.pch c).wait = none)
    (hup : d.domainUp (addrDomain (d.porPc c)) = false) : d.porStep c op o word act = d.porPause c (addrDomain (d.porPc c)) :=
  (if_neg (by simp [hrun, hmove, hwait])).trans (if_pos (by simp [hup]))

end

/-! ### The four instructions (R552 to R561) -/

section
variable {d : Dev} {c : Nat} {w : List Nat}

/-- A MOVE outside the tile pool without overlap sets REMAIN to its length and issues its first burst. -/
theorem Dev.moveStart_plain {m : Move} (hm : m = d.porMove c w) (hsrc : d.inPool m.src m.length = false) (hdst : d.inPool m.dst m.length = false)
    (hapart : m.dst + m.length ≤ m.src ∨ m.src + m.length ≤ m.dst) :
    d.moveStart c w = ((d.putI F.POR_C_REMAIN_REMAIN c m.length).setPch c
      (fun x => { x with move := some m, claimed := false, last := pwEnd w, stage := [] })).issueBurst c := by
  have hover : (decide (m.src < m.dst + m.length) && decide (m.dst < m.src + m.length)) = false := by
    rw [Bool.and_eq_false_iff, decide_eq_false_iff_not, decide_eq_false_iff_not]
    omega
  have hself : ({ m with down := false, staged := false } : Move) = m := by
    rw [hm]
    rfl
  subst hm
  simp only [Dev.moveStart, hsrc, hdst, Bool.and_assoc, hover, Bool.and_false, Bool.false_and, Bool.or_false, Bool.false_eq_true, if_false, hself]

/-- A LOOP on counter 0 at zero takes COUNT; with more than one pass it takes one off and goes back. -/
theorem Dev.loopAct_back (hcounter : (pw w 0).testBit 23 = false) (hstep : (pw w 0).testBit 22 = false) (hzero : d.getI F.POR_C_LOOPS_LC0 c = 0)
    (hcount : 1 < slice (pw w 1) 0 16) :
    d.loopAct c w = (d.putI F.POR_C_LOOPS_LC0 c (slice (pw w 1) 0 16 - 1)).instrEnds c
      (ofSigned 40 ((d.porPc c : Int) - 32 * (slice (pw w 1) 16 16 : Nat))) false (pwEnd w) := by
  have hmore : slice (pw w 1) 0 16 - 1 ≠ 0 := by omega
  simp +decide [Dev.loopAct, hcounter, hstep, hzero, hmore, Dev.porPc_putI_ne]

/-- At zero the program goes on. -/
theorem Dev.loopAct_on (hcounter : (pw w 0).testBit 23 = false) (hzero : d.getI F.POR_C_LOOPS_LC0 c = 0) (hcount : slice (pw w 1) 0 16 = 1) :
    d.loopAct c w = (d.putI F.POR_C_LOOPS_LC0 c 0).instrEnds c (d.porPc c + 32) false (pwEnd w) := by
  simp +decide [Dev.loopAct, hcounter, hzero, hcount, Dev.porPc_putI_ne]

/-- What waits on a counter goes on once the counter has reached the value. -/
theorem Dev.tryWait_counter {n v : Nat} (hwait : (d.pch c).wait = some (.counter n v)) :
    d.tryWait c = if d.getI F.POR_EVCNT_COUNT n < v then none
      else some ((d.putI F.POR_EVCNT_COUNT n (d.getI F.POR_EVCNT_COUNT n - v)).waitMet c) := by
  simp only [Dev.tryWait, hwait]

/-- A WAIT on a counter below its value shows WAIT. -/
theorem Dev.waitAct_counterLow (hkind : slice (pw w 0) 22 2 = 1) (hc : c < d.por.ch.length)
    (hlow : d.getI F.POR_EVCNT_COUNT (slice (pw w 0) 10 4) < pw w 1) :
    d.waitAct c w = (d.setPch c (fun x => { x with
      wait := some (.counter (slice (pw w 0) 10 4) (pw w 1)), last := pwEnd w, held := false })).setPor c porWait := by
  have hnone : (d.setPch c (fun x => { x with
      wait := some (.counter (slice (pw w 0) 10 4) (pw w 1)), last := pwEnd w, held := false })).tryWait c = none := by
    rw [Dev.tryWait_counter (by rw [Dev.pch_setPch _ hc])]
    exact if_pos hlow
  simp [Dev.waitAct, hkind, hnone]

/-- A SIGNAL without interrupt or notice counts its event and goes on. -/
theorem Dev.signalAct_counts (hcount : (pw w 0).testBit 19 = true) (hint : (pw w 0).testBit 18 = false) (hnotify : (pw w 0).testBit 17 = false) :
    d.signalAct c w = (d.incI F.POR_EVCNT_COUNT (slice (pw w 0) 20 4)).instrEnds c (d.porPc c + 32) false (pwEnd w) := by
  simp +decide [Dev.signalAct, hcount, hint, hnotify, Dev.incI, Dev.addI, Dev.porPc_putI_ne]

end

/-- Settles O43 (log entries 19, 24, 27 and 98): the fetch decides between the row's act, the end with a status, and no change. -/
theorem porterInstructionsAct : Obligations.PorterInstructionsAct := by
  refine ⟨fun _ c o word => effect_porterMove c o word, ?move, fun _ c o word => effect_porterLoop c o word, ?loopBack, ?loopOn,
    fun _ c o word => effect_porterWait c o word, ?waits, fun _ c o word => effect_porterSignal c o word, ?signal, ?bad, ?otherKind, ?off, ?notRun⟩
  case move =>
    intro d c o word e w m hrun hmove hwait hup hfetch hgood hop hm _ _ hsrc hdst hapart _ _ hlive
    have h : d.Fetches c o word e w := ⟨hrun, hmove, hwait, hup, hfetch⟩
    exact (effect_porterMove c o word hlive).of_eq ((h.porStep_acts hgood hop).trans (Dev.moveStart_plain hm hsrc hdst hapart))
  case loopBack =>
    intro d c o word e w hrun hmove hwait hup hfetch hgood hop hcounter hstep hzero hcount hlive
    have h : d.Fetches c o word e w := ⟨hrun, hmove, hwait, hup, hfetch⟩
    exact (effect_porterLoop c o word hlive).of_eq ((h.porStep_acts hgood hop).trans (Dev.loopAct_back hcounter hstep hzero hcount))
  case loopOn =>
    intro d c o word e w hrun hmove hwait hup hfetch hgood hop hcounter hzero hcount hlive
    have h : d.Fetches c o word e w := ⟨hrun, hmove, hwait, hup, hfetch⟩
    exact (effect_porterLoop c o word hlive).of_eq ((h.porStep_acts hgood hop).trans (Dev.loopAct_on hcounter hzero hcount))
  case waits =>
    intro d c o word e w hrun hmove hwait hup hfetch hgood hop hkind hch hlow hlive
    have h : d.Fetches c o word e w := ⟨hrun, hmove, hwait, hup, hfetch⟩
    exact (effect_porterWait c o word hlive).of_eq ((h.porStep_acts hgood hop).trans (Dev.waitAct_counterLow hkind (hch.symm ▸ c.isLt) hlow))
  case signal =>
    intro d c o word e w hrun hmove hwait hup hfetch hgood hop hcount hint hnotify hlive
    have h : d.Fetches c o word e w := ⟨hrun, hmove, hwait, hup, hfetch⟩
    exact (effect_porterSignal c o word hlive).of_eq ((h.porStep_acts hgood hop).trans (Dev.signalAct_counts hcount hint hnotify))
  case bad =>
    intro d c o word e w hrun hmove hwait hup hfetch hbad hlive
    have h : d.Fetches c o word e w := ⟨hrun, hmove, hwait, hup, hfetch⟩
    exact (effect_porterSignal c o word hlive).of_eq (h.porStep.trans (if_pos hbad))
  case otherKind =>
    intro d c o word e w hrun hmove hwait hup hfetch hgood hop hlive
    have h : d.Fetches c o word e w := ⟨hrun, hmove, hwait, hup, hfetch⟩
    exact (effect_porterMove c o word hlive).of_eq (h.porStep.trans ((if_neg (by simp [hgood])).trans (if_pos (by simp [hop]))))
  case off =>
    intro d c o word hrun hmove hwait hup hlive
    exact (effect_porterMove c o word hlive).of_eq (Dev.porStep_domainOff hrun hmove hwait hup)
  case notRun =>
    intro d c o word hrun hlive
    exact (effect_porterWait c o word hlive).of_eq (Dev.porStep_notRun hrun)

/-! ### CTRL: GO, ABORT and the options (R551, R576, R580, R582) -/

/-- Bit 31 of CTRL is GO and bit 30 ABORT; the 30 bits below carry the options. -/
theorem ctrl_go_testBit (v : BitVec 30) : (2 ^ 31 + v.toNat).testBit 31 = true ∧ (2 ^ 31 + v.toNat).testBit 30 = false := by
  have hv : v.toNat < 2 ^ 30 := v.isLt
  constructor
  · rw [Nat.testBit_two_pow_add_eq, Nat.testBit_lt_two_pow (by omega)]
    rfl
  · rw [Nat.testBit_two_pow_add_gt (by omega), Nat.testBit_lt_two_pow hv]

theorem ctrl_abort_testBit (v : BitVec 30) : (2 ^ 30 + v.toNat).testBit 31 = false ∧ (2 ^ 30 + v.toNat).testBit 30 = true := by
  have hv : v.toNat < 2 ^ 30 := v.isLt
  constructor
  · exact Nat.testBit_lt_two_pow (by omega)
  · rw [Nat.testBit_two_pow_add_eq, Nat.testBit_lt_two_pow hv]
    rfl

/-- A bit above a slice is not part of it. -/
theorem slice_two_pow_add {n lo w : Nat} (v : Nat) (h : lo + w ≤ n) : slice (2 ^ n + v) lo w = slice v lo w := by
  have hpow : 2 ^ n = 2 ^ lo * (2 ^ w * 2 ^ (n - lo - w)) := by
    rw [← pow_add, ← pow_add]
    congr 1
    omega
  rw [slice, slice, hpow, Nat.mul_add_div (by positivity), Nat.mul_add_mod]

section
variable {d e : Dev} {c v : Nat} {byCore : Bool}

/-- A write of CTRL that is ignored leaves the channel's state. -/
theorem Dev.porRests_rwoIgnored (off : Nat) : (d.rwoIgnored c off).porRests c = d.porRests c := by
  have hstate : (d.rwoIgnored c off).porState c = d.porState c := by
    unfold Dev.porState Dev.rwoIgnored Dev.porIgnored
    rw [Dev.post_getI _ _ _ _ (by decide) (by decide) (by decide), Dev.getI_put_ne _ _ _ (by decide), Dev.putI_ne _ _ _ (by decide)]
  simp only [Dev.porRests, hstate]

/-- GO on a channel at rest whose writer may start it. -/
theorem Dev.porGo_starts (hrests : d.porRests c = true) :
    d.porGo c false = (((((d.setPor c porRun).putI F.POR_C_STAT_OVERLAP_SEEN c 0).putI F.POR_C_MOVED_MOVED c 0).putI F.POR_C_LOOPS_LC0 c 0).putI
      F.POR_C_LOOPS_LC1 c 0).setPch c (fun x => { x with move := none, wait := none, claimed := false, held := false, paused := none, last := false }) :=
  if_neg (by simp [hrests])

theorem Dev.porGo_ignored (hrests : d.porRests c = false) : d.porGo c byCore = d.porIgnored c := if_pos (by simp [hrests])

theorem Dev.ctrlWrite_rests (hrests : d.porRests c = true) :
    d.ctrlWrite c v byCore = if v.testBit 31 then (d.ctrlOpts c v).porGo c byCore else d.ctrlOpts c v := by
  simp [Dev.ctrlWrite, hrests]

/-- On a channel that runs the options are ignored; ABORT acts, and GO is ignored. -/
theorem Dev.ctrlWrite_runs (hrests : d.porRests c = false) :
    d.ctrlWrite c v byCore =
      let e := if v.testBit 31 then (d.rwoIgnored c 0).porIgnored c else d.rwoIgnored c 0
      if v.testBit 30 then e.porAbort c else e := by
  have hgo : (d.rwoIgnored c 0).porGo c byCore = (d.rwoIgnored c 0).porIgnored c :=
    Dev.porGo_ignored ((Dev.porRests_rwoIgnored 0).trans hrests)
  simp [Dev.ctrlWrite, hrests, hgo]

theorem Dev.porAbort_ends (hrests : d.porRests c = false) : d.porAbort c = d.porEnd c 1 := if_neg (by simp [hrests])

end

/-! ### Bursts, waits and the watchdog (R556, R559, R566, R571 to R575) -/

section
variable {d e : Dev} {c : Nat} {x : BurstEnd} {m : Move} {b : Burst}

/-- A burst into memory below the Granary is written as it comes. -/
theorem Dev.porWrite_bus {l : List Nat} (hdst : m.dstSpace = 0) (hlow : m.dstAt b.off < granBase) :
    d.porWrite m b l = (d.busWrite (m.dstAt b.off) l, false) := by
  have hbelow : ¬ granBase ≤ m.dstAt b.off := by omega
  simp [Dev.porWrite, hdst, hbelow]

/-- A burst of a plain internal MOVE reads its bytes and stores them. -/
theorem Dev.burstDone_internal {l : List Nat} (hmove : (d.pch c).move = some m) (hb : b = d.burstOf m (d.remain c))
    (hwait : (d.pch c).wait = some .data) (hstate : d.porState c = porWait) (hsrc : m.srcSpace = 0) (hdst : m.dstSpace = 0)
    (hstaged : m.staged = false) (hlow : m.dstAt b.off < granBase) (hread : d.porRead (m.srcAt b.off) b.n m.cls x = (e, false, l)) :
    d.burstDone c x = (e.busWrite (m.dstAt b.off) l).burstEnds c m b.n := by
  subst hb
  have hbelow : ¬ granBase ≤ m.dstAt (d.burstOf m (d.remain c)).off := by omega
  simp [Dev.burstDone, hmove, hwait, hstate, hsrc, hdst, hstaged, hread, Dev.dstBusy, hbelow, Dev.porWrite_bus hdst hlow, porWait, porPaused,
    porStalled]

/-- A host error ends the channel with 10. -/
theorem Dev.burstDone_hostError (hmove : (d.pch c).move = some m) (hwait : (d.pch c).wait = some .data) (hstate : d.porState c = porWait)
    (hsrc : m.srcSpace = 1) (herror : x.hostError = true) :
    d.burstDone c x = d.porError c 10 (m.srcAt (d.burstOf m (d.remain c)).off) := by
  simp [Dev.burstDone, hmove, hwait, hstate, hsrc, herror, porWait, porPaused, porStalled]

theorem Dev.porterBarrierMetAct_met {c : Fin 32} (hwait : (d.pch c.val).wait = some .barrier) (hstate : d.porState c.val ≠ porPaused) :
    d.porterBarrierMetAct c = (d.setPch c.val (fun x => { x with outstanding := false })).instrDone c.val :=
  (if_neg (by simp [hwait])).trans (if_neg hstate)

theorem Dev.porterBarrierMetAct_other {c : Fin 32} (hwait : (d.pch c.val).wait ≠ some .barrier) : d.porterBarrierMetAct c = d :=
  if_pos (by simp [hwait])

/-- A counter that has reached its value sets its channel going again. -/
theorem Dev.waitSatisfied_counter {left n v : Nat}
    (he : e = (d.setPch c (fun x => { x with held := true })).putI F.POR_EVCNT_COUNT n (d.getI F.POR_EVCNT_COUNT n - v))
    (hstate : d.porState c = porWait) (hwait : (d.pch c).wait = some (.counter n v)) (hreached : v ≤ d.getI F.POR_EVCNT_COUNT n)
    (hc : c < d.por.ch.length) : d.waitSatisfied c left = e.waitMet c := by
  subst he
  have htaken : (d.setPch c (fun x => { x with held := true })).tryWait c =
      some (((d.setPch c (fun x => { x with held := true })).putI F.POR_EVCNT_COUNT n (d.getI F.POR_EVCNT_COUNT n - v)).waitMet c) := by
    rw [Dev.tryWait_counter (n := n) (v := v) (by rw [Dev.pch_setPch _ hc]; exact hwait)]
    exact if_neg (Nat.not_lt.2 hreached)
  simp [Dev.waitSatisfied, hstate, hwait, htaken, porWait, porPaused, porStalled]

/-- The watchdog of a channel that waits on a counter. -/
theorem Dev.porWatchdog_counter {n v : Nat} (hstate : d.porState c = porWait) (hwait : (d.pch c).wait = some (.counter n v)) :
    d.porWatchdog c = ((d.setPor c porStalled).porChInt c).post 0x3203 [c, d.getI F.POR_C_STAT_LINE c, d.remain c, 1] := by
  simp [Dev.porWatchdog, hwait, hstate]

theorem Dev.porWatchdog_none (hwait : (d.pch c).wait = none) : d.porWatchdog c = d := by
  simp only [Dev.porWatchdog, hwait]

theorem Dev.hostTimeout_none (hmove : (d.pch c).move = none) : d.hostTimeout c = d := by
  simp only [Dev.hostTimeout, hmove]

theorem Dev.hostTimeout_ends (hmove : (d.pch c).move = some m) (hsrc : m.srcSpace = 1) (hwait : (d.pch c).wait = some .data)
    (htimeout : d.hif.noTimeout = false) (hstate : d.porState c ≠ porPaused) :
    d.hostTimeout c = d.porError c 10 (m.srcAt (d.burstOf m (d.remain c)).off) := by
  simp [Dev.hostTimeout, hmove, hsrc, hwait, htimeout, hstate]

end

/-! ### The Porter's registers (R551, R564, R582) -/

section
variable {d : Dev} {c v : Nat}

/-- A software request is counted, up to 255 waiting. -/
theorem Dev.swreqWrite_lines (hlines : (List.range 32).filter (fun i => v.testBit i) = [0, 2]) (h0 : at' d.por.sw 0 0 < 255)
    (h2 : at' d.por.sw 2 0 < 255) : d.swreqWrite v = (d.setSw 0 (at' d.por.sw 0 0 + 1)).setSw 2 (at' d.por.sw 2 0 + 1) := by
  have hsw : at' (d.setSw 0 (at' d.por.sw 0 0 + 1)).por.sw 2 0 = at' d.por.sw 2 0 := at'_set_ne _ _ _ (by decide)
  simp only [Dev.swreqWrite, hlines, Dev.each, List.foldl_cons, List.foldl_nil, if_neg h0.ne, hsw, if_neg h2.ne]

theorem Dev.swreqWrite_overflow {n : Nat} (hlines : (List.range 32).filter (fun i => v.testBit i) = [n]) (hfull : at' d.por.sw n 0 = 255) :
    d.swreqWrite v = (d.put F.POR_INT_STAT_OVERFLOW 1).post 0x3208 [16 + n] := by
  simp only [Dev.swreqWrite, hlines, Dev.each, List.foldl_cons, List.foldl_nil, if_pos hfull]

/-- PC_LO takes a write while its channel rests, and ignores it else. -/
theorem Dev.chanWrite_pcLo : d.chanWrite c 0x08 v = if d.porRests c then d.putI F.POR_C_PC_LO_PC c (v / 32) else d.rwoIgnored c 0x08 := by
  cases h : d.porRests c <;> simp [Dev.chanWrite, h]

end

/-- Settles O44 (log entries 19, 27, 116, 153 and 154): each clause is a branch of the command's operation. -/
theorem porterChannelsRunAndEnd : Obligations.PorterChannelsRunAndEnd := by
  refine ⟨fun _ c byCore v => effect_porterGo c byCore v, ?go, ?goIgnored, fun _ c v => effect_porterAbort c v, ?abort, ?abortRests,
    fun _ c x => effect_porterBurstDone c x, ?burst, ?hostError, fun _ c => effect_porterBarrierMet c, ?barrier, ?noBarrier,
    fun _ c left => effect_porterWaitSatisfied c left, ?satisfied, fun _ c => effect_porterWatchdog c, ?stalls, ?noWait,
    fun _ v => effect_porSwreqWrite v, ?requests, ?overflow, fun _ v => effect_porOwnerWrite v, fun _ c off v => effect_porterRwoWrite c off v,
    ?rwoIgnored, ?rwoTaken, fun _ c => effect_completionTimeout c, ?timeout, ?noMove⟩
  case go =>
    rintro d c _ v e he hrests herests rfl hstop
    subst he
    exact (effect_porterGo c false v hstop).of_eq
      ((Dev.ctrlWrite_rests hrests).trans ((if_pos (ctrl_go_testBit v).1).trans (Dev.porGo_starts herests)))
  case goIgnored =>
    intro d c byCore v hrests hstop
    refine (effect_porterGo c byCore v hstop).of_eq ((Dev.ctrlWrite_runs hrests).trans ?_)
    rw [(ctrl_go_testBit v).1, (ctrl_go_testBit v).2]
    rfl
  case abort =>
    intro d c v hrests hstop
    refine (effect_porterAbort c v hstop).of_eq ((Dev.ctrlWrite_runs hrests).trans ?_)
    rw [(ctrl_abort_testBit v).1, (ctrl_abort_testBit v).2]
    exact Dev.porAbort_ends ((Dev.porRests_rwoIgnored 0).trans hrests)
  case abortRests =>
    intro d c v hrests hstop
    refine (effect_porterAbort c v hstop).of_eq ((Dev.ctrlWrite_rests hrests).trans ?_)
    rw [(ctrl_abort_testBit v).1, Dev.ctrlOpts, slice_two_pow_add _ (by decide), slice_two_pow_add _ (by decide),
      slice_two_pow_add _ (by decide)]
    rfl
  case burst =>
    intro d c x m b e _ hmove hb hwait hstate hsrc hdst hstaged hlow hread hlive
    exact (effect_porterBurstDone c x hlive).of_eq (Dev.burstDone_internal hmove hb hwait hstate hsrc hdst hstaged hlow hread)
  case hostError =>
    intro d c x m hmove hwait hstate hsrc herror hlive
    exact (effect_porterBurstDone c x hlive).of_eq (Dev.burstDone_hostError hmove hwait hstate hsrc herror)
  case barrier =>
    intro d c hwait hstate hlive
    exact (effect_porterBarrierMet c hlive).of_eq (Dev.porterBarrierMetAct_met hwait hstate)
  case noBarrier =>
    intro d c hwait hlive
    exact (effect_porterBarrierMet c hlive).of_eq (Dev.porterBarrierMetAct_other hwait)
  case satisfied =>
    intro d c left n v e he hstate hwait hreached hch hlive
    exact (effect_porterWaitSatisfied c left hlive).of_eq (Dev.waitSatisfied_counter he hstate hwait hreached (hch.symm ▸ c.isLt))
  case stalls =>
    intro d c n v hstate hwait hlive
    exact (effect_porterWatchdog c hlive).of_eq (Dev.porWatchdog_counter hstate hwait)
  case noWait =>
    intro d c hwait hlive
    exact (effect_porterWatchdog c hlive).of_eq (Dev.porWatchdog_none hwait)
  case requests =>
    rintro d _ rfl h0 h2 hstop
    exact (effect_porSwreqWrite 5#32 hstop).of_eq (Dev.swreqWrite_lines (by decide) h0 h2)
  case overflow =>
    rintro d _ rfl hfull hstop
    exact (effect_porSwreqWrite 0x80000000#32 hstop).of_eq (Dev.swreqWrite_overflow (n := 31) (by decide) hfull)
  case rwoIgnored =>
    intro d c off v hoff hrests hstop
    refine (effect_porterRwoWrite c off v hstop).of_eq ?_
    rw [hoff]
    exact Dev.chanWrite_pcLo.trans (if_neg (by simp [hrests]))
  case rwoTaken =>
    intro d c off v hoff hrests hstop
    refine (effect_porterRwoWrite c off v hstop).of_eq ?_
    rw [hoff]
    exact Dev.chanWrite_pcLo.trans (if_pos hrests)
  case timeout =>
    intro d c m hmove hsrc hwait htimeout hstate hlive
    exact (effect_completionTimeout c hlive).of_eq (Dev.hostTimeout_ends hmove hsrc hwait htimeout hstate)
  case noMove =>
    intro d c hmove hlive
    exact (effect_completionTimeout c hlive).of_eq (Dev.hostTimeout_none hmove)

end Sys2Proof.Machine
end

section
/-! SUPPORT. The host link (spec/15): its states and errors, configuration requests and messages, the function reset, the task windows, the completion
rings and the status mirror; from them the statements on all of them. -/

namespace Sys2Proof.Machine

/-! ### The effect of each command: by the link's island, the windows', or CORE (02 R72) -/

theorem effect_linkDetect {d : Dev} (hlive : d.live 0x0E = true) : Effect .linkDetect d (d.linkDetect 0) :=
  effect_island (f := fun d => d.linkDetect 0) hlive (fun _ => rfl) rfl

theorem effect_linkL0 {d : Dev} (w : Fin 4) (r : Fin 5) (rev : Bool) (hlive : d.live 0x0E = true) :
    Effect (.linkL0 w r rev) d (d.linkToL0 (2 ^ w.val) (r.val + 1) rev) :=
  effect_island (f := fun d => d.linkToL0 (2 ^ w.val) (r.val + 1) rev) hlive (fun _ => rfl) rfl

theorem effect_laneFailure {d : Dev} (lane : Fin 8) (hlive : d.live 0x0E = true) : Effect (.laneFailure lane) d (d.laneFail lane.val) :=
  effect_island (f := fun d => d.laneFail lane.val) hlive (fun _ => rfl) rfl

theorem effect_linkError {d : Dev} (e : LinkErr) (hlive : d.live 0x0E = true) : Effect (.linkError e) d (d.linkErrorAct e) :=
  effect_island (f := fun d => d.linkErrorAct e) hlive (fun _ => rfl) rfl

theorem effect_poisonedTlp {d : Dev} (header : BitVec 32) (hlive : d.live 0x0E = true) :
    Effect (.poisonedTlp header) d (d.tlp (fun d => d.uncorrectable 12 header.toNat)) :=
  effect_island (f := fun d => d.tlp (fun d => d.uncorrectable 12 header.toNat)) hlive (fun _ => rfl) rfl

theorem effect_configRequest {d : Dev} (q : ConfigAsk) (hlive : d.live 0x0E = true) :
    Effect (.configRequest q) d (d.request (fun d => d.configAsk q)) :=
  effect_island (f := fun d => d.request (fun d => d.configAsk q)) hlive (fun _ => rfl) rfl

theorem effect_l1Request {d : Dev} (hlive : d.live 0x0E = true) : Effect .l1Request d d.askL1 :=
  effect_island hlive (fun _ => rfl) rfl

theorem effect_functionReset {d : Dev} (kind : Fin 3) (hlive : d.live 0x0E = true) : Effect (.functionReset kind) d (d.functionReset kind.val) :=
  effect_island (f := fun d => d.functionReset kind.val) hlive (fun _ => rfl) rfl

theorem effect_msixTableWrite {d : Dev} (v : Fin 64) (dw : Fin 4) (value : BitVec 32) (hlive : d.live 0x0E = true) :
    Effect (.msixTableWrite v dw value) d (d.tlp (fun d => d.msixWrite v.val dw.val value.toNat)) :=
  effect_island (f := fun d => d.tlp (fun d => d.msixWrite v.val dw.val value.toNat)) hlive (fun _ => rfl) rfl

theorem effect_twnCmdWrite {d : Dev} (w : Fin 256) (start : Fin 16) (l : List (BitVec 32 × BitVec 4)) (hlive : d.live 0x0E = true) :
    Effect (.twnCmdWrite w start l) d (d.tlp (fun d => d.winWrite w.val start.val (l.map (fun x => (x.1.toNat, x.2.toNat))))) :=
  effect_island (f := fun d => d.tlp (fun d => d.winWrite w.val start.val (l.map (fun x => (x.1.toNat, x.2.toNat))))) hlive (fun _ => rfl) rfl

theorem effect_twnGo {d : Dev} (w : Fin 256) (v : BitVec 32) (all : Bool) (hlive : d.live 0x0E = true) :
    Effect (.twnGo w v all) d (d.tlp (fun d => d.writeGo w.val v.toNat all)) :=
  effect_island (f := fun d => d.tlp (fun d => d.writeGo w.val v.toNat all)) hlive (fun _ => rfl) rfl

theorem effect_twnAck {d : Dev} (w : Fin 256) (hlive : d.live 0x0E = true) : Effect (.twnAck w) d (d.tlp (fun d => d.ackWindow w.val)) :=
  effect_island (f := fun d => d.tlp (fun d => d.ackWindow w.val)) hlive (fun _ => rfl) rfl

theorem effect_earlyRead {d : Dev} (bar2 : Bool) (off : BitVec 20) (len : Fin 65) (hlive : d.live 0x0E = true) :
    Effect (.earlyRead bar2 off len) d (d.tlp (fun d => d.barsRead bar2 (if bar2 then off.toNat else off.toNat % 2 ^ 14) len.val)) :=
  effect_island (f := fun d => d.tlp (fun d => d.barsRead bar2 (if bar2 then off.toNat else off.toNat % 2 ^ 14) len.val)) hlive (fun _ => rfl) rfl

theorem effect_twnPauseWrite {d : Dev} (v : Bool) (hstop : d.clk.stopped = false) : Effect (.twnPauseWrite v) d (d.setPause v) :=
  effect_core (f := fun d => d.setPause v) hstop (fun _ => rfl) rfl

theorem effect_ringHeadWrite {d : Dev} (r : Fin 16) (v : BitVec 32) (hlive : d.live 0x0E = true) :
    Effect (.ringHeadWrite r v) d (d.tlp (fun d => d.headWrite r.val v.toNat)) :=
  effect_island (f := fun d => d.tlp (fun d => d.headWrite r.val v.toNat)) hlive (fun _ => rfl) rfl

theorem effect_ringEnable {d : Dev} (r : Fin 16) (v : BitVec 31) (hlive : d.live 0x0E = true) :
    Effect (.ringEnable r v) d (d.tlp (fun d => d.ringCfg r.val (2 ^ 31 + v.toNat))) :=
  effect_island (f := fun d => d.tlp (fun d => d.ringCfg r.val (2 ^ 31 + v.toNat))) hlive (fun _ => rfl) rfl

theorem effect_ringDisable {d : Dev} (r : Fin 16) (v : BitVec 31) (hlive : d.live 0x0E = true) :
    Effect (.ringDisable r v) d (d.tlp (fun d => d.ringCfg r.val v.toNat)) :=
  effect_island (f := fun d => d.tlp (fun d => d.ringCfg r.val v.toNat)) hlive (fun _ => rfl) rfl

theorem effect_ringConfigWrite {d : Dev} (r : Fin 16) (which : Fin 4) (v : BitVec 64) (hlive : d.live 0x0E = true) :
    Effect (.ringConfigWrite r which v) d (d.tlp (fun d => d.ringSet r.val which.val v.toNat)) :=
  effect_island (f := fun d => d.tlp (fun d => d.ringSet r.val which.val v.toNat)) hlive (fun _ => rfl) rfl

theorem effect_completionPost {d : Dev} (n : Nat) (arrived : Bool) (hlive : d.live 0x0F = true) :
    Effect (.completionPost n arrived) d (d.postCompletion n arrived) :=
  effect_island (f := fun d => d.postCompletion n arrived) hlive (fun _ => rfl) rfl

theorem effect_statusMirrorRefresh {d : Dev} (i : Fin 18) (hlive : d.live 0x0F = true) :
    Effect (.statusMirrorRefresh i) d { d with hif := { d.hif with mirror := d.hif.mirror.set i.val (d.mirrorWord i.val) } } :=
  effect_island (f := fun d => { d with hif := { d.hif with mirror := d.hif.mirror.set i.val (d.mirrorWord i.val) } }) hlive (fun _ => rfl) rfl

/-! ### Requests of the host (R585, R592, R593) -/

section
variable {d : Dev} {f : Dev → Dev}

/-- In L0 a request of the host acts. -/
theorem Dev.request_l0 (hl0 : d.get F.HIF_LINK_STATE = 3) : d.request f = f d := by
  simp [Dev.request, Dev.linkUp, Dev.linkWake, hl0, linkL0, linkL1]

/-- In L1 it leaves L1 and acts. -/
theorem Dev.request_l1 (hl1 : d.get F.HIF_LINK_STATE = 5) : d.request f = f (d.put F.HIF_LINK_STATE 3) := by
  simp [Dev.request, Dev.linkUp, Dev.linkWake, hl1, linkL0, linkL1]

theorem Dev.request_detect (hdetect : d.get F.HIF_LINK_STATE = 0) : d.request f = d := by
  simp [Dev.request, Dev.linkUp, hdetect, linkL0, linkL1]

theorem Dev.tlp_l0 (hl0 : d.get F.HIF_LINK_STATE = 3) (hmem : d.hif.memOn = true) : d.tlp f = f d :=
  (if_pos hmem).trans (Dev.request_l0 hl0)

/-- A memory request of the host meets nothing in Detect, or while Memory Space Enable is clear. -/
theorem Dev.tlp_dropped (hdrop : d.get F.HIF_LINK_STATE = 0 ∨ d.hif.memOn = false) : d.tlp f = d := by
  unfold Dev.tlp
  obtain hdetect | hmem := hdrop
  · rw [Dev.request_detect hdetect, ite_self]
  · exact if_neg (by simp [hmem])

end

/-! ### The link's states and its errors (R586 to R592, R619, R620) -/

section
variable {d e : Dev}

theorem Dev.linkDetect_idle {cause : Nat} (hdetect : d.get F.HIF_LINK_STATE = 0) : d.linkDetect cause = d := if_pos hdetect

theorem Dev.linkDetect_falls {cause : Nat} (hup : d.get F.HIF_LINK_STATE ≠ 0) :
    d.linkDetect cause = ((((((d.put F.HIF_LINK_STATE 0).put F.HIF_LINK_WIDTH 0).put F.HIF_LINK_RATE 0).put F.HIF_INT_STAT_LINK 1).post 0x4002
      [d.get F.HIF_LINK_STATE, cause]).porterHostDown).notice 3 :=
  if_neg hup

theorem Dev.linkToL0_clockless {w r : Nat} {rev : Bool}
    (hclock : d.on F.CLK_MON_STAT_ON_ROSC = true ∨ d.onI F.CLK_PLL_STAT_LOCKED 3 = false) : d.linkToL0 w r rev = d := by
  refine if_pos ?_
  obtain hclock | hclock := hclock
  · simp [hclock]
  · simp [hclock]

/-- With no lane failed, the widest width is 8. -/
theorem Dev.widest_whole {rev : Bool} (hlanes : d.get F.HIF_LANES_FAILED = 0) : d.widest rev = 8 := by
  simp [Dev.widest, hlanes]

/-- From Detect's rate 0, with every lane good, the link comes up at the width and the rate asked for. -/
theorem Dev.linkToL0_reaches {w r : Nat} {rev : Bool}
    (he : e = (((((d.put F.HIF_LINK_STATE 3).put F.HIF_LINK_WIDTH w).put F.HIF_LINK_RATE r).flag F.HIF_LANES_REVERSED rev).put
      F.HIF_INT_STAT_LINK 1).post 0x4001 [w, r, rev.toNat])
    (hw : 0 < w ∧ w ≤ 8) (hr : 0 < r ∧ r ≤ 5) (hpower : d.powered 9 = true) (hrosc : d.on F.CLK_MON_STAT_ON_ROSC = false)
    (hlock : d.onI F.CLK_PLL_STAT_LOCKED 3 = true) (hlanes : d.get F.HIF_LANES_FAILED = 0) (htop : d.topRate = 5)
    (hrate : d.get F.HIF_LINK_RATE = 0) :
    d.linkToL0 w r rev = ({ (e.notice 3) with hif := { (e.notice 3).hif with seenL0 := true } } : Dev).linkFlush := by
  obtain ⟨hw0, hw8⟩ := hw
  obtain ⟨hr0, hr5⟩ := hr
  subst he
  simp [Dev.linkToL0, Dev.widest_whole hlanes, htop, hrate, hpower, hrosc, hlock, Nat.min_eq_left hw8, Nat.min_eq_left hr5, hw0.ne', hr0.ne', linkL0]

theorem Dev.laneFail_again {lane : Nat} (hfailed : d.bit F.HIF_LANES_FAILED lane = true) : d.laneFail lane = d := if_pos hfailed

/-- At width 1 only lane 0 is in use. -/
theorem Dev.laneFail_unused {lane : Nat} (hgood : d.bit F.HIF_LANES_FAILED lane = false) (hwidth : d.get F.HIF_LINK_WIDTH = 1)
    (hrev : d.on F.HIF_LANES_REVERSED = false) (hlane : lane ≠ 0) : d.laneFail lane = d.setBit F.HIF_LANES_FAILED lane true := by
  have hunused : (widthLanes 1 false).testBit lane = false := by
    rw [show widthLanes 1 false = 2 ^ 0 from rfl, Nat.testBit_two_pow]
    simpa using hlane.symm
  simp [Dev.laneFail, hgood, hwidth, hrev, hunused]

theorem Dev.correctable_counted {bit : Nat} (hmore : (d.inc F.HIF_AER_CE_COUNT).get F.HIF_AER_CE_COUNT % 1024 ≠ 0) :
    d.correctable bit = d.inc F.HIF_AER_CE_COUNT :=
  if_neg hmore

theorem Dev.askL1_enters (hon : d.hif.l1On = true) (hl0 : d.get F.HIF_LINK_STATE = 3) (hburst : d.hostBurst = false)
    (hdone : d.cmd.ctxs.any (fun (c : Ctx) => c.state == .committed) = false) : d.askL1 = d.put F.HIF_LINK_STATE 5 :=
  if_pos (by simp only [hon, hl0, hburst, hdone]; rfl)

theorem Dev.askL1_off (hoff : d.hif.l1On = false) : d.askL1 = d := if_neg (by simp [hoff])

end

/-! ### Configuration requests and messages (R585, R591, R593, R614) -/

section
variable {d : Dev}

theorem Dev.configAsk_seen (q : ConfigAsk) (hseen : d.hif.seenL0 = true) :
    d.configAsk q = match q with
      | .read dw => (d.configDword dw.val).2.answer ((d.configDword dw.val).1 % 2 ^ 32) .none
      | .bar dw v => d.barWrite dw.val v.toNat
      | .msix e m => ({ d with hif := { d.hif with msixOn := e, fnMask := m } } : Dev).sendPending
      | .command e m => ({ d with hif := { d.hif with memOn := e, master := m } } : Dev).sendPending
      | .linkControl l => { d with hif := { d.hif with l1On := l } }
      | .deviceControl p r => { d with hif := { d.hif with mps := 128 * 2 ^ p.val, mrrs := 128 * 2 ^ r.val } }
      | .timeout off => { d with hif := { d.hif with noTimeout := off } } := by
  refine (if_neg (by simp [hseen])).trans ?_
  cases q <;> rfl

theorem Dev.configAsk_unseen (q : ConfigAsk) (hseen : d.hif.seenL0 = false) : d.configAsk q = d := if_pos (by simp [hseen])

/-- The dwords of no base address register that read zero. -/
theorem Dev.configDword_zero {dw : Nat} (hdw : dw = 8 ∨ dw = 9 ∨ dw = 12) : d.configDword dw = (0, d) := by
  obtain rfl | rfl | rfl := hdw
  · rfl
  · rfl
  · rfl

theorem Dev.msixWrite_data {v value : Nat} (hpend : at' d.hif.pend v false = false) :
    d.msixWrite v 2 value = { d with hif := { d.hif with msix := d.hif.msix.set v { at' d.hif.msix v {} with data := value } } } :=
  if_neg (by simp [hpend])

end

/-! ### The function reset (R590; 16 R649) -/

@[simp] theorem Dev.each_nil {α : Type} (d : Dev) (g : Dev → α → Dev) : d.each [] g = d := rfl

/-- With no command, stream, band or program in progress, a reset clears the rings, the windows and the messages, and is recorded. -/
theorem Dev.functionReset_quiet {d e1 e2 e3 : Dev} {kind : Nat}
    (he1 : e1 = ({ d with cmd := { d.cmd with ctxs := [], posted := [], series := false } } : Dev).put F.DRV_CONTEXTS_IN_USE 0)
    (he2 : e2 = (e1.put F.DRV_LOCKS_IN_USE 0).each (List.range 16) (fun x r =>
      (x.putI F.HIF_RING_CFG_ENABLE r 0).putI F.HIF_RING_STAT_WAITING r 0))
    (he3 : e3 = { e2 with hif := { e2.hif with
      wins := List.replicate 256 {}, armed := List.replicate 16 false, full := List.replicate 16 false, msix := List.replicate 64 {},
      pend := List.replicate 64 false, memOn := false, bars := [0, 0], msixOn := false, fnMask := false, master := false, l1On := false,
      noTimeout := false, mrrs := 512, mps := 128 } })
    (hctxs : d.cmd.ctxs = []) (hact : d.cmd.act = none) (hstreams : d.streams = []) (hseals : d.drv.seals = []) (hwb : d.drv.wb = [])
    (hunprog : d.drv.unprog = []) :
    d.functionReset kind = ((e3.post 0x4106 [0, d.cmd.posted.length]).put F.HIF_INT_STAT_RESET 1).post 0x4007 [kind] := by
  subst he1 he2 he3
  unfold Dev.functionReset
  extract_lets count tags early stopped drv unwaited cmd dropped unlocked paused closed drv' unsealed rings hif cleared noted
  have hcount : count = 0 := by simp [count, hctxs]
  have htags : tags = d.cmd.posted.length := by simp [tags, Dev.tagsInUse, hctxs]
  have hearly : early = false := by simp [early, hact]
  have hstopped : stopped = d := by simp [stopped, hctxs]
  have hunwaited : unwaited = d := by
    simp only [unwaited, drv, hstopped, hwb, hunprog, List.map_nil]
    rw [← hwb, ← hunprog]
  have hdropped : dropped = { d with cmd := { d.cmd with ctxs := [], posted := [], series := false } } := by
    simp only [dropped, cmd, hunwaited, hearly, Bool.false_eq_true, if_false]
  have hpaused : paused = (dropped.put F.DRV_CONTEXTS_IN_USE 0).put F.DRV_LOCKS_IN_USE 0 := by
    simp [paused, unlocked, hearly, hdropped, Dev.countLocks]
  have hclosed : closed = paused := by simp [closed, hpaused, hdropped, hstreams]
  have hunsealed : unsealed = paused := by
    have hempty : paused.drv.seals = [] := by simp [hpaused, hdropped, hseals]
    simp only [unsealed, drv', hclosed, hempty, List.map_nil]
    rw [← hempty]
  have hclear : cleared = { rings with hif := { rings.hif with
      wins := List.replicate 256 {}, armed := List.replicate 16 false, full := List.replicate 16 false, msix := List.replicate 64 {},
      pend := List.replicate 64 false, memOn := false, bars := [0, 0], msixOn := false, fnMask := false, master := false, l1On := false,
      noTimeout := false, mrrs := 512, mps := 128 } } := rfl
  have hrings : rings = paused.each (List.range 16) fun x r =>
      (x.putI F.HIF_RING_CFG_ENABLE r 0).putI F.HIF_RING_STAT_WAITING r 0 := by rw [← hunsealed]
  change (Dev.put (Dev.post cleared 0x4106 [count, tags]) _ _).post _ _ = _
  rw [hcount, htags, hclear, hrings, hpaused, hdropped]

/-- Settles O45 (log entries 14, 15, 16, 19, 32, 66 and 109): each clause is a branch of the command's operation. -/
theorem linkStatesErrorsAndResets : Obligations.LinkStatesErrorsAndResets := by
  refine ⟨fun _ => effect_linkDetect, ?inDetect, ?detects, fun _ w r rev => effect_linkL0 w r rev, ?clockless, ?reaches,
    fun _ lane => effect_laneFailure lane, ?failedLane, ?unusedLane, fun _ e => effect_linkError e, ?uncorrectable, ?correctable,
    fun _ header => effect_poisonedTlp header, ?poisoned, ?poisonedDropped, fun _ q => effect_configRequest q, ?linkControl, ?timeout, ?unseen,
    ?readBar, ?readZero, ?writeBar, ?command, fun _ => effect_l1Request, ?entersL1, ?l1Off, fun _ kind => effect_functionReset kind, ?resets,
    fun _ v dw value => effect_msixTableWrite v dw value, ?msix⟩
  case inDetect =>
    intro d hdetect hlive
    exact (effect_linkDetect hlive).of_eq (Dev.linkDetect_idle hdetect)
  case detects =>
    intro d hup hlive
    exact (effect_linkDetect hlive).of_eq (Dev.linkDetect_falls hup)
  case clockless =>
    intro d w r rev hclock hlive
    exact (effect_linkL0 w r rev hlive).of_eq (Dev.linkToL0_clockless hclock)
  case reaches =>
    intro d w r rev e he hpower hrosc hlock hlanes htop hrate hlive
    have hw : 2 ^ w.val ≤ 2 ^ 3 := Nat.pow_le_pow_right (by decide) (by omega)
    exact (effect_linkL0 w r rev hlive).of_eq
      (Dev.linkToL0_reaches he ⟨Nat.two_pow_pos _, hw⟩ ⟨by omega, by omega⟩ hpower hrosc hlock hlanes htop hrate)
  case failedLane =>
    intro d lane hfailed hlive
    exact (effect_laneFailure lane hlive).of_eq (Dev.laneFail_again hfailed)
  case unusedLane =>
    intro d lane hgood hwidth hrev hlane hlive
    exact (effect_laneFailure lane hlive).of_eq (Dev.laneFail_unused hgood hwidth hrev fun h => hlane (Fin.ext h))
  case uncorrectable =>
    rintro d _ b h rfl hlive
    exact effect_linkError (.uncorrectable b h) hlive
  case correctable =>
    rintro d _ b rfl hmore hlive
    exact (effect_linkError (.correctable b) hlive).of_eq (Dev.correctable_counted hmore)
  case poisoned =>
    intro d header hl0 hmem hlive
    exact (effect_poisonedTlp header hlive).of_eq (Dev.tlp_l0 hl0 hmem)
  case poisonedDropped =>
    intro d header hdrop hlive
    exact (effect_poisonedTlp header hlive).of_eq (Dev.tlp_dropped hdrop)
  case linkControl =>
    rintro d _ m hl0 rfl hseen hlive
    exact (effect_configRequest (.linkControl m) hlive).of_eq ((Dev.request_l0 hl0).trans (Dev.configAsk_seen _ hseen))
  case timeout =>
    rintro d _ m hl0 rfl hseen hlive
    exact (effect_configRequest (.timeout m) hlive).of_eq ((Dev.request_l0 hl0).trans (Dev.configAsk_seen _ hseen))
  case unseen =>
    intro d q hl0 hseen hlive
    exact (effect_configRequest q hlive).of_eq ((Dev.request_l0 hl0).trans (Dev.configAsk_unseen q hseen))
  case readBar =>
    rintro d _ _ rfl rfl hl1 hseen hlive
    exact (effect_configRequest (.read 4) hlive).of_eq ((Dev.request_l1 hl1).trans (Dev.configAsk_seen _ hseen))
  case readZero =>
    rintro d _ dw hl0 rfl hdw hseen hlive
    refine (effect_configRequest (.read dw) hlive).of_eq ((Dev.request_l0 hl0).trans ((Dev.configAsk_seen _ hseen).trans ?_))
    simp only [Dev.configDword_zero hdw, Nat.zero_mod]
  case writeBar =>
    rintro d _ _ v hl0 rfl rfl hseen hlive
    exact (effect_configRequest (.bar 6 v) hlive).of_eq ((Dev.request_l0 hl0).trans (Dev.configAsk_seen _ hseen))
  case command =>
    rintro d _ e m hl0 rfl hseen hlive
    exact (effect_configRequest (.command e m) hlive).of_eq ((Dev.request_l0 hl0).trans (Dev.configAsk_seen _ hseen))
  case entersL1 =>
    intro d hon hl0 hburst hdone hlive
    exact (effect_l1Request hlive).of_eq (Dev.askL1_enters hon hl0 hburst hdone)
  case l1Off =>
    intro d hoff hlive
    exact (effect_l1Request hlive).of_eq (Dev.askL1_off hoff)
  case resets =>
    intro d kind e1 e2 e3 he1 he2 he3 hctxs hact hstreams hseals hwb hunprog hlive
    exact (effect_functionReset kind hlive).of_eq (Dev.functionReset_quiet he1 he2 he3 hctxs hact hstreams hseals hwb hunprog)
  case msix =>
    rintro d v _ value hl0 hmem rfl hpend hlive
    exact (effect_msixTableWrite v 2 value hlive).of_eq ((Dev.tlp_l0 hl0 hmem).trans (Dev.msixWrite_data hpend))

end Sys2Proof.Machine
end

section
/-! SUPPORT. The task windows, the completion rings and the status mirror (15 R594 to R617), and the statement on them. -/

namespace Sys2Proof.Machine

/-! ### Windows (R594 to R605) -/

section
variable {d : Dev} {w : Nat}

theorem Dev.winWrite_free {start v : Nat} (hstart : start < 12) (hfree : d.winPhase w = 0) :
    d.winWrite w start [(v, 15)] = d.setWin w (fun x => { x with words := x.words.set start (mergeBytes (at' x.words start 0) v 15) }) := by
  have hfits : ¬16 < start + 1 := by omega
  simp [Dev.winWrite, Dev.winDwords, hstart, hfree, hfits]

/-- A window that does not read FREE keeps its command; the write is counted. -/
theorem Dev.winWrite_ignored {start v : Nat} (hstart : start < 12) (hheld : d.winPhase w ≠ 0) :
    d.winWrite w start [(v, 15)] = d.inc F.TWN_IGNORED_COUNT := by
  have hfits : ¬16 < start + 1 := by omega
  have hpast : 1 ≤ 12 - start := by omega
  simp [Dev.winWrite, Dev.winDwords, hstart, hheld, hfits, List.drop_eq_nil_of_le (as := [(v, 15)]) hpast]

theorem Dev.writeGo_partial {v : Nat} : d.writeGo w v false = d := rfl

/-- A write of GO without ACK and with all its bytes is the GO. -/
theorem Dev.writeGo_go {v : Nat} (hgo : v.testBit 31 = true) (hack : v.testBit 30 = false) : d.writeGo w v true = d.go w v := by
  simp [Dev.writeGo, hgo, hack]

theorem Dev.go_held {v : Nat} (hheld : (d.win w).phase ≠ 0) :
    d.go w v = ((d.inc F.TWN_IGNORED_COUNT).put F.TWN_INT_STAT_IGNORED 1).post 0x4008 [w, (d.win w).phase] :=
  if_pos (by simpa using hheld)

theorem Dev.go_free {v : Nat} {k : Ctx} (hfree : (d.win w).phase = 0)
    (hk : k = { num := 0, words := (d.win w).words, window := w, ring := v % 16, hold := v.testBit 29 }) :
    d.go w v = if d.goReason k (v / 16 % 2 ^ 25 != 0) = 0 then d.acceptGo k else d.refuseGo k (d.goReason k (v / 16 % 2 ^ 25 != 0)) := by
  subst hk
  exact if_neg (by simp [hfree])

theorem Dev.ackWindow_done (hdone : (d.win w).phase = 2) :
    d.ackWindow w = d.setWin w (fun x => { x with phase := 0, answer := 0, reason := 0, early := 0, lo := 0, hi := 0 }) :=
  if_neg (by simp [hdone])

theorem Dev.ackWindow_else (hundone : (d.win w).phase ≠ 2) : d.ackWindow w = d := if_pos (by simpa using hundone)

theorem Dev.barsRead_dword {bar2 : Bool} {off : Nat} (hal : off % 4 = 0) (hearly : d.earlyWindow bar2 off = none) :
    d.barsRead bar2 off 4 = d.answer (d.barRead bar2 off % 2 ^ 32) .none := by
  simp [Dev.barsRead, hal, hearly]

theorem Dev.barsRead_length {bar2 : Bool} {off len : Nat} (h4 : len ≠ 4) (h8 : len ≠ 8) : d.barsRead bar2 off len = d.answer 0 .none := by
  simp [Dev.barsRead, h4, h8]

theorem Dev.setPause_sets (hrun : d.on F.TWN_CTRL_PAUSE = false) :
    d.setPause true = ((d.put F.TWN_CTRL_PAUSE 1).post 0x400B [1, d.busyWindows]).notice 4 :=
  if_neg (by simp [hrun])

theorem Dev.setPause_same {v : Bool} (hsame : d.on F.TWN_CTRL_PAUSE = v) : d.setPause v = d := if_pos (by simp [hsame])

end

/-! ### Rings (R607 to R613) -/

section
variable {d e : Dev} {r v : Nat}

/-- A field takes its low bits alone. -/
theorem Dev.putI_congr (d : Dev) {f : Field} {i a b : Nat} (h : a % 2 ^ f.width = b % 2 ^ f.width) : d.putI f i a = d.putI f i b := by
  rw [Dev.putI, h, Dev.putI]

theorem Dev.onI_of_one {f : Field} {i : Nat} (h : d.getI f i = 1) : d.onI f i = true := by simp [Dev.onI, h]

theorem Dev.onI_of_zero {f : Field} {i : Nat} (h : d.getI f i = 0) : d.onI f i = false := by simp [Dev.onI, h]

theorem Dev.headWrite_past (hpast : d.ringSize r ≤ v % 2 ^ 16) :
    d.headWrite r v =
      ((d.putI F.HIF_RING_STAT_HEAD_BAD r 1).put F.TWN_INT_STAT_HEAD_BAD 1).post 0x4009 [r, v % 2 ^ 16, d.getI F.HIF_RING_TAIL_TAIL r] := by
  simp only [Dev.headWrite, hpast, decide_true, Bool.true_or, if_true]

/-- A HEAD that consumes the one entry of a disabled ring of 16. -/
theorem Dev.headWrite_consumes {e2 : Dev} (he : e = d.putI F.HIF_RING_HEAD_HEAD r 2)
    (he2 : e2 = { e with
      cmd := { e.cmd with posted := consumeTags r 1 d.cmd.posted }
      hif := { e.hif with full := e.hif.full.set r false } })
    (hoff : d.getI F.HIF_RING_CFG_ENABLE r = 0) (hsize : d.ringSize r = 16) (hhead : d.getI F.HIF_RING_HEAD_HEAD r = 1)
    (htail : d.getI F.HIF_RING_TAIL_TAIL r = 2) : d.headWrite r 2 = (e2.drainWaiting r).ringMessage r := by
  subst he
  have hfull : d.headWrite r 2 = ((if e2.onI F.HIF_RING_CFG_ENABLE r && e2.onI F.HIF_RING_CFG_IEN r then
      { e2 with hif := { e2.hif with armed := e2.hif.armed.set r true } } else e2).drainWaiting r).ringMessage r := by
    subst he2
    simp only [Dev.headWrite, hsize, hhead, htail]
    rfl
  have hdisabled : e2.onI F.HIF_RING_CFG_ENABLE r = false := by
    subst he2
    exact (Dev.onI_putI_ne (f := F.HIF_RING_HEAD_HEAD) d r 2 r (by decide)).trans (Dev.onI_of_zero hoff)
  rw [hfull, hdisabled]
  rfl

/-- The configuration of a disabled ring with ENABLE written 1: the fields are taken and the ring starts empty. -/
theorem Dev.ringCfg_enables {e2 : Dev} (hv : v < 2 ^ 31)
    (he : e = ((d.putI F.HIF_RING_CFG_IEN r (v / 2 ^ 30)).putI F.HIF_RING_CFG_VECTOR r (v / 2 ^ 16)).putI F.HIF_RING_CFG_LOG2 r v)
    (he2 : e2 = (((e.putI F.HIF_RING_HEAD_HEAD r 0).putI F.HIF_RING_TAIL_TAIL r 0).putI F.HIF_RING_TAIL_PHASE r 1).putI F.HIF_RING_CFG_ENABLE r 1)
    (hoff : d.getI F.HIF_RING_CFG_ENABLE r = 0) (hlo : 4 ≤ v % 32) (hhi : v % 32 ≤ 16) :
    d.ringCfg r (2 ^ 31 + v) =
      { e2 with hif := { e2.hif with armed := e2.hif.armed.set r (v.testBit 30), full := e2.hif.full.set r false } } := by
  have hien : ∀ x : Dev, x.putI F.HIF_RING_CFG_IEN r ((2 ^ 31 + v) / 2 ^ 30) = x.putI F.HIF_RING_CFG_IEN r (v / 2 ^ 30) := fun x =>
    x.putI_congr (show (2 ^ 31 + v) / 2 ^ 30 % 2 = v / 2 ^ 30 % 2 by omega)
  have hvector : ∀ x : Dev, x.putI F.HIF_RING_CFG_VECTOR r ((2 ^ 31 + v) / 2 ^ 16) = x.putI F.HIF_RING_CFG_VECTOR r (v / 2 ^ 16) := fun x =>
    x.putI_congr (show (2 ^ 31 + v) / 2 ^ 16 % 64 = v / 2 ^ 16 % 64 by omega)
  have hlog : ∀ x : Dev, x.putI F.HIF_RING_CFG_LOG2 r (2 ^ 31 + v) = x.putI F.HIF_RING_CFG_LOG2 r v := fun x =>
    x.putI_congr (show (2 ^ 31 + v) % 32 = v % 32 by omega)
  have hlow : (2 ^ 31 + v) % 32 = v % 32 := by omega
  have henable : (2 ^ 31 + v).testBit 31 = true := by rw [Nat.testBit_two_pow_add_eq, Nat.testBit_lt_two_pow hv]; rfl
  have harm : (2 ^ 31 + v).testBit 30 = v.testBit 30 := Nat.testBit_two_pow_add_gt (by decide) v
  have hsized : ¬(v % 32 < 4 ∨ 16 < v % 32) := by omega
  subst he he2
  simp only [Dev.ringCfg, Dev.onI_of_zero hoff, hlow, hien, hvector, hlog, henable, Dev.ringOn, harm]
  rw [if_neg Bool.false_ne_true, if_neg (by simpa using hsized)]
  rfl

/-- An enabled ring keeps its configuration while ENABLE is written 1. -/
theorem Dev.ringCfg_enabled (hv : v < 2 ^ 31) (hon : d.getI F.HIF_RING_CFG_ENABLE r = 1) : d.ringCfg r (2 ^ 31 + v) = d.ringIgnored r 8 := by
  have henable : (2 ^ 31 + v).testBit 31 = true := by rw [Nat.testBit_two_pow_add_eq, Nat.testBit_lt_two_pow hv]; rfl
  simp only [Dev.ringCfg, Dev.onI_of_one hon, henable, Bool.true_or, if_true]

/-- With no command of the ring unconsumed, ENABLE written 0 disables it. -/
theorem Dev.ringCfg_disables (hv : v < 2 ^ 31) (he : e = (d.ringIgnored r 8).putI F.HIF_RING_CFG_ENABLE r 0)
    (hon : d.getI F.HIF_RING_CFG_ENABLE r = 1) (hctxs : d.cmd.ctxs = []) (hposted : d.cmd.posted = []) :
    d.ringCfg r v = { e with hif := { e.hif with armed := e.hif.armed.set r false } } := by
  have hidle : (d.ringIgnored r 8).ringBusy r = false := by simp [Dev.ringBusy, Dev.ringIgnored, hctxs, hposted]
  subst he
  simp [Dev.ringCfg, Dev.onI_of_one hon, Nat.testBit_lt_two_pow hv, hidle]

theorem Dev.ringSet_enabled {which : Nat} (hwhich : which ≠ 2) (hon : d.getI F.HIF_RING_CFG_ENABLE r = 1) :
    d.ringSet r which v = d.ringIgnored r (4 * (which % 3)) := by
  simp [Dev.ringSet, hwhich, Dev.onI_of_one hon]

theorem Dev.ringSet_low (hoff : d.getI F.HIF_RING_CFG_ENABLE r = 0) :
    d.ringSet r 0 v = d.putI F.HIF_RING_BASE_LO_ADDR r (v % 2 ^ 32 / 64) := by
  simp [Dev.ringSet, Dev.onI_of_zero hoff]

theorem Dev.ringSet_both (hoff : d.getI F.HIF_RING_CFG_ENABLE r = 0) :
    d.ringSet r 3 v = (d.putI F.HIF_RING_BASE_LO_ADDR r (v % 2 ^ 32 / 64)).putI F.HIF_RING_BASE_HI_ADDR r (v / 2 ^ 32) := by
  simp [Dev.ringSet, Dev.onI_of_zero hoff]

end

/-- A completion that may be written, for which its ring has room, is written. -/
theorem Dev.tryEntry_ready {d : Dev} {n : Nat} {x : Ctx} (hctx : d.ctx n = some x) (hready : d.entryReady x = true)
    (hroom : d.ringFull x.ring = false) : d.tryEntry n = d.writeEntry x := by
  simp [Dev.tryEntry, hctx, hready, hroom]

theorem Dev.tryEntry_absent {d : Dev} {n : Nat} (hctx : d.ctx n = none) : d.tryEntry n = d := by simp [Dev.tryEntry, hctx]

/-- Settles O46 (log entries 14, 19, 62, 63, 64 and 120): each clause is a branch of the command's operation. -/
theorem windowsRingsAndMirror : Obligations.WindowsRingsAndMirror := by
  refine ⟨fun _ w start l => effect_twnCmdWrite w start l, ?words, ?wordsIgnored, fun _ w v all => effect_twnGo w v all, ?partialGo, ?held,
    ?refuses, ?accepts, fun _ w => effect_twnAck w, ?acks, ?acksNone, fun _ bar2 off len => effect_earlyRead bar2 off len, ?early, ?dword,
    ?length, fun _ v => effect_twnPauseWrite v, ?pauses, ?pauseSame, fun _ r v => effect_ringHeadWrite r v, ?headPast, ?headTaken,
    fun _ r v => effect_ringEnable r v, ?enables, ?enabled, fun _ r v => effect_ringDisable r v, ?disables,
    fun _ r which v => effect_ringConfigWrite r which v, ?baseLow, ?baseBoth, ?baseIgnored, fun _ n arrived => effect_completionPost n arrived,
    ?posts, ?postsNone, fun _ i => effect_statusMirrorRefresh i⟩
  case words =>
    rintro d w start _ v hl0 hmem hstart rfl hfree hlive
    exact (effect_twnCmdWrite w start _ hlive).of_eq ((Dev.tlp_l0 hl0 hmem).trans (Dev.winWrite_free hstart hfree))
  case wordsIgnored =>
    rintro d w start _ v hl0 hmem hstart rfl hheld hlive
    exact (effect_twnCmdWrite w start _ hlive).of_eq ((Dev.tlp_l0 hl0 hmem).trans (Dev.winWrite_ignored hstart hheld))
  case partialGo =>
    rintro d w v _ hl0 hmem rfl hlive
    exact (effect_twnGo w v false hlive).of_eq (Dev.tlp_l0 hl0 hmem)
  case held =>
    rintro d w v _ hl0 hmem rfl hgo hack hheld hlive
    exact (effect_twnGo w v true hlive).of_eq ((Dev.tlp_l0 hl0 hmem).trans ((Dev.writeGo_go hgo hack).trans (Dev.go_held hheld)))
  case refuses =>
    rintro d w v _ k hl0 hmem rfl hgo hack hfree hk hwhy hlive
    exact (effect_twnGo w v true hlive).of_eq
      ((Dev.tlp_l0 hl0 hmem).trans ((Dev.writeGo_go hgo hack).trans ((Dev.go_free hfree hk).trans (if_neg hwhy))))
  case accepts =>
    rintro d w v _ k hl0 hmem rfl hgo hack hfree hk hwhy hlive
    exact (effect_twnGo w v true hlive).of_eq
      ((Dev.tlp_l0 hl0 hmem).trans ((Dev.writeGo_go hgo hack).trans ((Dev.go_free hfree hk).trans (if_pos hwhy))))
  case acks =>
    intro d w hl0 hmem hdone hlive
    exact (effect_twnAck w hlive).of_eq ((Dev.tlp_l0 hl0 hmem).trans (Dev.ackWindow_done hdone))
  case acksNone =>
    intro d w hl0 hmem hundone hlive
    exact (effect_twnAck w hlive).of_eq ((Dev.tlp_l0 hl0 hmem).trans (Dev.ackWindow_else hundone))
  case early =>
    intro d bar2 off len w hl0 hmem hlen hal hearly hlive
    have hlen' : len.val = 4 ∨ len.val = 8 := hlen.imp (congrArg Fin.val) (congrArg Fin.val)
    exact (effect_earlyRead bar2 off len hlive).of_eq ((Dev.tlp_l0 hl0 hmem).trans (Dev.barsRead_early d hlen' hal hearly))
  case dword =>
    rintro d bar2 off _ hl0 hmem rfl hal hearly hlive
    exact (effect_earlyRead bar2 off 4 hlive).of_eq ((Dev.tlp_l0 hl0 hmem).trans (Dev.barsRead_dword hal hearly))
  case length =>
    intro d bar2 off len hl0 hmem h4 h8 hlive
    exact (effect_earlyRead bar2 off len hlive).of_eq
      ((Dev.tlp_l0 hl0 hmem).trans (Dev.barsRead_length (fun h => h4 (Fin.ext h)) (fun h => h8 (Fin.ext h))))
  case pauses =>
    rintro d _ hrun rfl hstop
    exact (effect_twnPauseWrite true hstop).of_eq (Dev.setPause_sets hrun)
  case pauseSame =>
    intro d v hsame hstop
    exact (effect_twnPauseWrite v hstop).of_eq (Dev.setPause_same hsame)
  case headPast =>
    intro d r v hl0 hmem hpast hlive
    exact (effect_ringHeadWrite r v hlive).of_eq ((Dev.tlp_l0 hl0 hmem).trans (Dev.headWrite_past hpast))
  case headTaken =>
    intro d r v e e2 he he2 hl0 hmem hoff hsize hv hhead htail hlive
    refine (effect_ringHeadWrite r v hlive).of_eq ((Dev.tlp_l0 hl0 hmem).trans ?_)
    rw [hv]
    exact Dev.headWrite_consumes he he2 hoff hsize hhead htail
  case enables =>
    intro d r v e e2 he he2 hl0 hmem hoff hlo hhi hlive
    exact (effect_ringEnable r v hlive).of_eq ((Dev.tlp_l0 hl0 hmem).trans (Dev.ringCfg_enables v.isLt he he2 hoff hlo hhi))
  case enabled =>
    intro d r v hl0 hmem hon hlive
    exact (effect_ringEnable r v hlive).of_eq ((Dev.tlp_l0 hl0 hmem).trans (Dev.ringCfg_enabled v.isLt hon))
  case disables =>
    intro d r v e he hl0 hmem hon hctxs hposted hlive
    exact (effect_ringDisable r v hlive).of_eq ((Dev.tlp_l0 hl0 hmem).trans (Dev.ringCfg_disables v.isLt he hon hctxs hposted))
  case baseLow =>
    rintro d r _ v hl0 hmem hoff rfl hlive
    exact (effect_ringConfigWrite r 0 v hlive).of_eq ((Dev.tlp_l0 hl0 hmem).trans (Dev.ringSet_low hoff))
  case baseBoth =>
    rintro d r _ v hl0 hmem hoff rfl hlive
    exact (effect_ringConfigWrite r 3 v hlive).of_eq ((Dev.tlp_l0 hl0 hmem).trans (Dev.ringSet_both hoff))
  case baseIgnored =>
    rintro d r _ v hl0 hmem hon rfl hlive
    exact (effect_ringConfigWrite r 1 v hlive).of_eq ((Dev.tlp_l0 hl0 hmem).trans (Dev.ringSet_enabled (by decide) hon))
  case posts =>
    rintro d n _ x rfl hctx hready hroom hlive
    exact (effect_completionPost n false hlive).of_eq (Dev.tryEntry_ready hctx hready hroom)
  case postsNone =>
    rintro d n _ rfl hctx hlive
    exact (effect_completionPost n false hlive).of_eq (Dev.tryEntry_absent hctx)

end Sys2Proof.Machine
end

section
/-! SUPPORT. The host's commands at their dispatch (spec/16 R626 to R672; 18 R757, R758): each command's effect on its domain, and what a
dispatched context does; from them the statements on all of them. -/

namespace Sys2Proof.Machine

/-! ### The effect of each command: by the Porter's island (02 R72), or by CORE -/

theorem effect_read {d : Dev} (n : Nat) (v : HostView) (bad : List Nat) (hlive : d.live 0x10 = true) :
    Effect (.read n v bad) d (d.readAct n v bad) :=
  effect_island (f := fun d => d.readAct n v bad) hlive (fun _ => rfl) rfl

theorem effect_verify {d : Dev} (n : Nat) (bad : List Nat) (hlive : d.live 0x10 = true) : Effect (.verify n bad) d (d.verifyAct n bad) :=
  effect_island (f := fun d => d.verifyAct n bad) hlive (fun _ => rfl) rfl

theorem effect_hostWrite {d : Dev} (n : Nat) (v : HostView) (hlive : d.live 0x10 = true) : Effect (.write n v) d (d.writeAct n v) :=
  effect_island (f := fun d => d.writeAct n v) hlive (fun _ => rfl) rfl

theorem effect_flush {d : Dev} (n : Nat) (hlive : d.live 0x10 = true) : Effect (.flush n) d (d.flushAct n) :=
  effect_island (f := fun d => d.flushAct n) hlive (fun _ => rfl) rfl

theorem effect_release {d : Dev} (n : Nat) (hlive : d.live 0x10 = true) : Effect (.release n) d (d.releaseAct n) :=
  effect_island (f := fun d => d.releaseAct n) hlive (fun _ => rfl) rfl

section
variable {d : Dev} (n : Nat) (v : HostView) (hstop : d.clk.stopped = false)
include hstop

theorem effect_abort : Effect (.abort n) d (d.abortAct n) := effect_core (f := fun d => d.abortAct n) hstop (fun _ => rfl) rfl

theorem effect_streamOpen : Effect (.streamOpen n) d (d.streamOpenAct n) :=
  effect_core (f := fun d => d.streamOpenAct n) hstop (fun _ => rfl) rfl

theorem effect_streamClose : Effect (.streamClose n) d (d.streamCloseAct n) :=
  effect_core (f := fun d => d.streamCloseAct n) hstop (fun _ => rfl) rfl

theorem effect_sealBandCreate : Effect (.sealBandCreate n) d (d.sealBandCreateAct n) :=
  effect_core (f := fun d => d.sealBandCreateAct n) hstop (fun _ => rfl) rfl

theorem effect_sealBandClose : Effect (.sealBandClose n) d (d.sealBandCloseAct n) :=
  effect_core (f := fun d => d.sealBandCloseAct n) hstop (fun _ => rfl) rfl

theorem effect_identify : Effect (.identify n v) d (d.identifyAct n v) :=
  effect_core (f := fun d => d.identifyAct n v) hstop (fun _ => rfl) rfl

theorem effect_logRead (lost : List Nat) : Effect (.logRead n v lost) d (d.logReadAct n v lost) :=
  effect_core (f := fun d => d.logReadAct n v lost) hstop (fun _ => rfl) rfl

theorem effect_featureGet : Effect (.featureGet n) d (d.featureGetAct n) :=
  effect_core (f := fun d => d.featureGetAct n) hstop (fun _ => rfl) rfl

theorem effect_featurePowerMode : Effect (.featurePowerMode n) d (d.featurePowerModeAct n) :=
  effect_core (f := fun d => d.featurePowerModeAct n) hstop (fun _ => rfl) rfl

theorem effect_featureEaseIdle : Effect (.featureEaseIdle n) d (d.featureEaseIdleAct n) :=
  effect_core (f := fun d => d.featureEaseIdleAct n) hstop (fun _ => rfl) rfl

theorem effect_featureRestIdle : Effect (.featureRestIdle n) d (d.featureRestIdleAct n) :=
  effect_core (f := fun d => d.featureRestIdleAct n) hstop (fun _ => rfl) rfl

theorem effect_featureEaseRpm : Effect (.featureEaseRpm n) d (d.featureEaseRpmAct n) :=
  effect_core (f := fun d => d.featureEaseRpmAct n) hstop (fun _ => rfl) rfl

theorem effect_featureKeyRotate : Effect (.featureKeyRotate n) d (d.featureKeyRotateAct n) :=
  effect_core (f := fun d => d.featureKeyRotateAct n) hstop (fun _ => rfl) rfl

theorem effect_featureDebugUnlock : Effect (.featureDebugUnlock n) d (d.featureDebugUnlockAct n) :=
  effect_core (f := fun d => d.featureDebugUnlockAct n) hstop (fun _ => rfl) rfl

theorem effect_featureSvnFloor : Effect (.featureSvnFloor n) d (d.featureSvnFloorAct n) :=
  effect_core (f := fun d => d.featureSvnFloorAct n) hstop (fun _ => rfl) rfl

theorem effect_featureUnsealBand : Effect (.featureUnsealBand n) d (d.featureUnsealBandAct n) :=
  effect_core (f := fun d => d.featureUnsealBandAct n) hstop (fun _ => rfl) rfl

theorem effect_fwDownload : Effect (.fwDownload n v) d (d.fwDownloadAct n v) :=
  effect_core (f := fun d => d.fwDownloadAct n v) hstop (fun _ => rfl) rfl

theorem effect_fwActivate : Effect (.fwActivate n) d (d.fwActivateAct n) :=
  effect_core (f := fun d => d.fwActivateAct n) hstop (fun _ => rfl) rfl

theorem effect_activationTimeout : Effect .activationTimeout d d.activationTimeoutAct :=
  effect_core hstop (fun _ => rfl) rfl

theorem effect_resync : Effect (.resync n v) d (d.resyncAct n v) := effect_core (f := fun d => d.resyncAct n v) hstop (fun _ => rfl) rfl

theorem effect_attestFresh : Effect (.attestFresh n v) d (d.attestFreshAct n v) :=
  effect_core (f := fun d => d.attestFreshAct n v) hstop (fun _ => rfl) rfl

theorem effect_attestBootRecord : Effect (.attestBootRecord n v) d (d.attestBootRecordAct n v) :=
  effect_core (f := fun d => d.attestBootRecordAct n v) hstop (fun _ => rfl) rfl

theorem effect_driveMakerCommand (a : PolicyAnswer) : Effect (.driveMakerCommand n v a) d (d.driveMakerCommandAct n v a) :=
  effect_core (f := fun d => d.driveMakerCommandAct n v a) hstop (fun _ => rfl) rfl

end

/-- A command whose operation is a dispatch does, where its context may be dispatched, what the dispatched context does. -/
theorem Effect.dispatched {cmd : Instr} {d x e r : Dev} {n o : Nat} {p : Ctx → Bool} {g : Dev → Ctx → Dev} {c : Ctx}
    (heffect : Effect cmd d (x.onDispatch n o p g)) (he : e = x.dispatch n) (hctx : x.ctx n = some c) (hop : c.opcode = o)
    (hp : p c = true) (hmay : x.mayDispatch c = true) (hclean : x.metaPoisoned c = false) (hbody : g e c = r) : Effect cmd d r := by
  subst he
  exact heffect.of_eq ((onDispatch_runs g hctx hop hp hmay hclean).trans hbody)

/-! ### Data commands (16 R641 to R647) -/

/-- Settles O47 (log entries 70, 101 and 118): each clause is a branch of what the dispatched context does, past its data list where it has one. -/
theorem commandsMoveData : Obligations.CommandsMoveData := by
  refine ⟨fun _ n v bad => effect_read n v bad, ?readServes, ?readFails, ?readBadList, fun _ n bad => effect_verify n bad, ?verifies,
    fun _ n v => effect_hostWrite n v, ?writes, ?writeFails, fun _ n => effect_flush n, ?flushes, fun _ n => effect_release n, ?releases,
    ?releasesTwice⟩
  case readServes =>
    intro d n v bad c c' w e he hctx hop hctx' hw hbad herr hmay hclean hlive
    exact (effect_read n v bad hlive).dispatched he hctx hop rfl hmay hclean
      ((withList_ok _ hctx' hw.symm hbad).trans (by rw [herr]))
  case readFails =>
    intro d n v bad c c' w k e he hctx hop hctx' hw hbad herr hmay hclean hlive
    exact (effect_read n v bad hlive).dispatched he hctx hop rfl hmay hclean
      ((withList_ok _ hctx' hw.symm hbad).trans (by rw [herr]))
  case readBadList =>
    intro d n v bad c c' w e he hctx hop hctx' hw hbad hmay hclean hlive
    exact (effect_read n v bad hlive).dispatched he hctx hop rfl hmay hclean (withList_bad (e := (0, 4)) _ hctx' hw.symm hbad)
  case verifies =>
    intro d n bad c e he hctx hop hmay hclean hlive
    exact (effect_verify n bad hlive).dispatched he hctx hop rfl hmay hclean rfl
  case writes =>
    intro d n v c c' w e he hctx hop hwrite hmay hclean hctx' hw hbad herr hlive
    exact (effect_hostWrite n v hlive).dispatched he hctx hop hwrite hmay hclean
      ((withList_ok _ hctx' hw.symm hbad).trans (by rw [herr]))
  case writeFails =>
    intro d n v c c' w k e he hctx hop hwrite hmay hclean hctx' hw hbad herr hlive
    exact (effect_hostWrite n v hlive).dispatched he hctx hop hwrite hmay hclean
      ((withList_ok _ hctx' hw.symm hbad).trans (by rw [herr]))
  case flushes =>
    intro d n c e l he hl hctx hop hplain hleft hmay hclean hlive
    refine (effect_flush n hlive).dispatched he hctx hop rfl hmay hclean ?_
    subst hl
    simp only [hplain, Bool.false_eq_true, if_false, hleft, bne_self_eq_false, Dev.when]
  case releases =>
    intro d n c e he hctx hop hcount hmay hclean hlive
    exact (effect_release n hlive).dispatched he hctx hop rfl hmay hclean (by simp only [hcount, if_false])
  case releasesTwice =>
    intro d n c e he hctx hop hcount hmay hclean hlive
    exact (effect_release n hlive).dispatched he hctx hop rfl hmay hclean (by simp only [hcount, if_true])

/-! ### Management commands (16 R648 to R660) -/

/-- A value in its key's range takes effect; a speed in EASE is the Miller's new target besides (05 R193). -/
theorem Dev.featureIdle_taken {d : Dev} {n f v : Nat} (hok : d.idleOk f v = true) (hspeed : f ≠ 4 ∨ d.mod.mode ≠ Mode.ease) :
    d.featureIdle n f v = (d.put (idleField f) v).featureDone n f (d.get (idleField f)) v := by
  have hplain : (f == 4 && d.mod.mode == Mode.ease) = false := by
    rw [Bool.and_eq_false_iff]
    exact hspeed.imp (by simp) (by simp)
  simp only [Dev.featureIdle, Dev.idleWrite, hok, hplain, Dev.when]
  rfl

theorem Dev.featureIdle_refused {d : Dev} {n f v : Nat} (hout : d.idleOk f v = false) :
    d.featureIdle n f v = ((d.put F.MOD_STAT_REQ_REFUSED 1).put F.MOD_INT_STAT_REQ_REFUSED 1).featureRefused n f 1 := by
  simp only [Dev.featureIdle, Dev.idleWrite, hout]
  rfl

/-- Settles O48 (log entries 67, 74, 77 and 100): each clause is a branch of what the dispatched context does. -/
theorem commandsManage : Obligations.CommandsManage := by
  refine ⟨fun _ n => effect_abort n, ?abortNowhere, ?abortPosted, ?abortProtected, ?abortCommitted, ?abortQueued, ?abortDispatched,
    fun _ n => effect_streamOpen n, ?opens, fun _ n => effect_streamClose n, ?closes, fun _ n => effect_sealBandCreate n, ?creates, ?written,
    fun _ n => effect_sealBandClose n, ?closesBand, ?noBand, fun _ n v => effect_identify n v, ?identifies,
    fun _ n v lost hstop => effect_logRead n v hstop lost, ?logPage, ?logRecords, fun _ n => effect_featureGet n, ?gets,
    fun _ n => effect_featurePowerMode n, ?powerMode, ?powerModeRefused, fun _ n => effect_featureEaseIdle n, ?easeIdle, ?easeIdleRefused,
    fun _ n => effect_featureRestIdle n, ?restIdle, ?restIdleRefused, fun _ n => effect_featureEaseRpm n, ?easeRpm, ?easeRpmRefused⟩
  case abortNowhere =>
    intro d n c e he hctx hop hp hmay hclean htarget hposted hstop
    exact (effect_abort n hstop).dispatched he hctx hop hp hmay hclean
      (by simp only [htarget, hposted, Bool.false_eq_true, if_false])
  case abortPosted =>
    intro d n c e he hctx hop hp hmay hclean htarget hposted hstop
    exact (effect_abort n hstop).dispatched he hctx hop hp hmay hclean (by simp only [htarget, hposted, if_true])
  case abortProtected =>
    intro d n c x e he hctx hop hp hmay hclean htarget hheld hstop
    exact (effect_abort n hstop).dispatched he hctx hop hp hmay hclean (by simp only [htarget, hheld, if_true])
  case abortCommitted =>
    intro d n c x e he hctx hop hp hmay hclean htarget hfree hstate hstop
    exact (effect_abort n hstop).dispatched he hctx hop hp hmay hclean
      (by simp only [htarget, hfree, hstate, Bool.false_eq_true, if_false, if_true])
  case abortQueued =>
    intro d n c x e he hctx hop hp hmay hclean htarget hfree hstate hstop
    refine (effect_abort n hstop).dispatched he hctx hop hp hmay hclean ?_
    simp only [htarget, hfree]
    simp [hstate]
  case abortDispatched =>
    intro d n c x e he hctx hop hp hmay hclean htarget hfree hstate hflush hstop
    refine (effect_abort n hstop).dispatched he hctx hop hp hmay hclean ?_
    simp only [htarget, hfree]
    simp [hstate, hflush]
  case opens =>
    intro d n c e he hctx hop hmay hclean hstop
    exact (effect_streamOpen n hstop).dispatched he hctx hop rfl hmay hclean rfl
  case closes =>
    intro d n c e he hctx hop hmay hclean hstop
    exact (effect_streamClose n hstop).dispatched he hctx hop rfl hmay hclean rfl
  case creates =>
    intro d n c i e he hctx hop hp2 hfind hunwritten hbands hmay hclean hstop
    refine (effect_sealBandCreate n hstop).dispatched he hctx hop (by simp [hp2]) hmay hclean ?_
    simp only [hfind, hunwritten, hbands]
    rfl
  case written =>
    intro d n c e he hctx hop hp2 hwritten hmay hclean hstop
    refine (effect_sealBandCreate n hstop).dispatched he hctx hop (by simp [hp2]) hmay hclean ?_
    simp only [hwritten, Bool.true_or, if_true]
    split
    · rfl
    · rfl
  case closesBand =>
    intro d n c b e he hctx hop hp2 hfind hmay hclean hstop
    exact (effect_sealBandClose n hstop).dispatched he hctx hop (by simp [hp2]) hmay hclean (by simp only [hfind])
  case noBand =>
    intro d n c e he hctx hop hp2 hfind hmay hclean hstop
    exact (effect_sealBandClose n hstop).dispatched he hctx hop (by simp [hp2]) hmay hclean (by simp only [hfind])
  case identifies =>
    intro d n v c c' w x e he hctx hop hctx' hw hbad hx hsegs herr hmay hclean hstop
    exact (effect_identify n v hstop).dispatched he hctx hop rfl hmay hclean
      ((withList_ok _ hctx' hw.symm hbad).trans (by simp only [hsegs, herr]))
  case logPage =>
    intro d n v lost c e he hctx hop hpage hmay hclean hstop
    have hother : ¬0x40 ≤ c.p0 := by omega
    exact (effect_logRead n v hstop lost).dispatched he hctx hop rfl hmay hclean (by simp [hother])
  case logRecords =>
    intro d n v lost c e g he hg hctx hop hpage hmay hclean hstop
    exact (effect_logRead n v hstop lost).dispatched he hctx hop rfl hmay hclean (by simp [hpage, hg])
  case gets =>
    intro d n c e he hctx hop hmay hclean hstop
    exact (effect_featureGet n hstop).dispatched he hctx hop rfl hmay hclean rfl
  case powerMode =>
    intro d n c e he hctx hop hp0 hwhy hmay hclean hstop
    exact (effect_featurePowerMode n hstop).dispatched he hctx hop (by simp [hp0]) hmay hclean (by simp only [hwhy])
  case powerModeRefused =>
    intro d n c why e he hctx hop hp0 hwhy hmay hclean hstop
    exact (effect_featurePowerMode n hstop).dispatched he hctx hop (by simp [hp0]) hmay hclean (by simp only [hwhy])
  case easeIdle =>
    intro d n c e he hctx hop hp0 hmax hmay hclean hstop
    exact (effect_featureEaseIdle n hstop).dispatched he hctx hop (by simp [hp0]) hmay hclean
      (Dev.featureIdle_taken (by simp [Dev.idleOk, hmax]) (.inl (by decide)))
  case easeIdleRefused =>
    intro d n c e he hctx hop hp0 hpast hmay hclean hstop
    exact (effect_featureEaseIdle n hstop).dispatched he hctx hop (by simp [hp0]) hmay hclean
      (Dev.featureIdle_refused (by simp [Dev.idleOk, hpast]))
  case restIdle =>
    intro d n c e he hctx hop hp0 hmin hmax hmay hclean hstop
    exact (effect_featureRestIdle n hstop).dispatched he hctx hop (by simp [hp0]) hmay hclean
      (Dev.featureIdle_taken (by simp [Dev.idleOk, hmin, hmax]) (.inl (by decide)))
  case restIdleRefused =>
    intro d n c e he hctx hop hp0 hvalue hmay hclean hstop
    exact (effect_featureRestIdle n hstop).dispatched he hctx hop (by simp [hp0]) hmay hclean
      (Dev.featureIdle_refused (by simp [Dev.idleOk, hvalue]))
  case easeRpm =>
    intro d n c e he hctx hop hp0 hmin hmax hmode hmay hclean hstop
    exact (effect_featureEaseRpm n hstop).dispatched he hctx hop (by simp [hp0]) hmay hclean
      (Dev.featureIdle_taken (by simp [Dev.idleOk, hmin, hmax]) (.inr hmode))
  case easeRpmRefused =>
    intro d n c e he hctx hop hp0 hpast hmay hclean hstop
    exact (effect_featureEaseRpm n hstop).dispatched he hctx hop (by simp [hp0]) hmay hclean
      (Dev.featureIdle_refused (by simp [Dev.idleOk, hpast]))

/-! ### Protected features (18 R757, R758) -/

section
variable {d x : Dev} {n f kind : Nat} {payload : List Nat}

/-- A request that is taken waits for its entry. -/
theorem Dev.featureAsk_waits (hx : x = d.talAsk kind payload (some n)) (hreq : x.tal.req.isSome = true) : d.featureAsk n f kind payload = x := by
  subst hx
  exact if_pos hreq

/-- A request refused at once refuses the feature, reason 6. -/
theorem Dev.featureAsk_refused (hx : x = d.talAsk kind payload (some n)) (hreq : x.tal.req.isSome = false) :
    d.featureAsk n f kind payload = x.featureRefused n f 6 := by
  subst hx
  exact if_neg (by simp [hreq])

end

/-- Settles O49 (log entry 108): each clause is a branch of what the dispatched context does. -/
theorem protectedFeaturesAskTheTally : Obligations.ProtectedFeaturesAskTheTally := by
  refine ⟨fun _ n => effect_featureKeyRotate n, ?rotates, ?rotateLast, ?rotateOther, fun _ n => effect_featureDebugUnlock n, ?unlocks,
    ?unlockRefused, ?locks, ?unlockOther, fun _ n => effect_featureSvnFloor n, ?raises, ?floorLow, ?floorHigh,
    fun _ n => effect_featureUnsealBand n, ?unseals, ?unsealsNone⟩
  case rotates =>
    intro d n c e he hctx hop hp0 hreq hlast hvalue hmay hclean hstop
    exact (effect_featureKeyRotate n hstop).dispatched he hctx hop (by simpa [hp0] using hreq) hmay hclean
      (by simp only [hlast, hvalue, if_false, bne_self_eq_false, Bool.false_eq_true])
  case rotateLast =>
    intro d n c e he hctx hop hp0 hreq hlast hmay hclean hstop
    exact (effect_featureKeyRotate n hstop).dispatched he hctx hop (by simpa [hp0] using hreq) hmay hclean (by simp only [hlast, if_true])
  case rotateOther =>
    intro d n c e he hctx hop hp0 hreq hlast hvalue hmay hclean hstop
    exact (effect_featureKeyRotate n hstop).dispatched he hctx hop (by simpa [hp0] using hreq) hmay hclean
      (by simp only [hlast, if_false, bne_iff_ne.mpr hvalue, if_true])
  case unlocks =>
    intro d n c e x he hx hctx hop hp0 hreq hvalue htaken hmay hclean hstop
    refine (effect_featureDebugUnlock n hstop).dispatched he hctx hop (by simpa [hp0, hvalue] using hreq) hmay hclean ?_
    simp only [hvalue]
    exact Dev.featureAsk_waits hx htaken
  case unlockRefused =>
    intro d n c e x he hx hctx hop hp0 hreq hvalue hrefused hmay hclean hstop
    refine (effect_featureDebugUnlock n hstop).dispatched he hctx hop (by simpa [hp0, hvalue] using hreq) hmay hclean ?_
    simp only [hvalue]
    exact Dev.featureAsk_refused hx hrefused
  case locks =>
    intro d n c e he hctx hop hp0 hvalue hmay hclean hstop
    exact (effect_featureDebugUnlock n hstop).dispatched he hctx hop (by simp [hp0, hvalue]) hmay hclean (by simp only [hvalue, if_true])
  case unlockOther =>
    intro d n c e he hctx hop hp0 hreq hvalue hmay hclean hstop
    have hset : c.value ≠ 0 := by omega
    have hother : c.value ≠ 1 := by omega
    exact (effect_featureDebugUnlock n hstop).dispatched he hctx hop (by simp [hp0, hreq]) hmay hclean
      (by simp only [hset, hother, if_false])
  case raises =>
    intro d n c e x he hx hctx hop hp0 hreq hold hsvn htaken hmay hclean hstop
    refine (effect_featureSvnFloor n hstop).dispatched he hctx hop (by simp [hp0, hreq]) hmay hclean ?_
    simp only [Nat.not_le.mpr hold, Nat.not_lt.mpr hsvn, if_false]
    exact Dev.featureAsk_waits hx htaken
  case floorLow =>
    intro d n c e he hctx hop hp0 hreq hlow hmay hclean hstop
    exact (effect_featureSvnFloor n hstop).dispatched he hctx hop (by simp [hp0, hreq]) hmay hclean (by simp only [hlow, if_true])
  case floorHigh =>
    intro d n c e he hctx hop hp0 hreq hold hsvn hmay hclean hstop
    exact (effect_featureSvnFloor n hstop).dispatched he hctx hop (by simp [hp0, hreq]) hmay hclean
      (by simp only [Nat.not_le.mpr hold, hsvn, if_false, if_true])
  case unseals =>
    intro d n c b e x he hx hctx hop hp0 hreq hfind htaken hmay hclean hstop
    refine (effect_featureUnsealBand n hstop).dispatched he hctx hop (by simp [hp0, hreq]) hmay hclean ?_
    simp only [hfind]
    exact Dev.featureAsk_waits hx htaken
  case unsealsNone =>
    intro d n c e he hctx hop hp0 hreq hfind hmay hclean hstop
    exact (effect_featureUnsealBand n hstop).dispatched he hctx hop (by simp [hp0, hreq]) hmay hclean (by simp only [hfind])

/-! ### Firmware, RESYNC, ATTEST, drive-maker commands (16 R661 to R672) -/

section
variable {d : Dev} {a : Activation}

theorem Dev.activationTimeoutAct_none (hact : d.cmd.act = none) : d.activationTimeoutAct = d := by
  simp [Dev.activationTimeoutAct, hact]

/-- With no command QUEUED the timeout ends none. -/
theorem Dev.activationTimeoutAct_idle (hact : d.cmd.act = some a) (hstep : a.step = 2)
    (hqueued : d.cmd.ctxs.filter (fun (x : Ctx) => x.state == CtxState.queued) = []) :
    d.activationTimeoutAct = d.setAct { a with ended := 0 } := by
  simp only [Dev.activationTimeoutAct, hact, hstep, hqueued]
  rfl

/-- The one command QUEUED ends ABORTED_ACTIVATION. -/
theorem Dev.activationTimeoutAct_one {x : Ctx} (hact : d.cmd.act = some a) (hstep : a.step = 2)
    (hqueued : d.cmd.ctxs.filter (fun (x : Ctx) => x.state == CtxState.queued) = [x]) :
    d.activationTimeoutAct = ((d.commit x.num stAbortedActivation 0 0).setAct { a with ended := 1 }).post 0x4108 [1] := by
  simp only [Dev.activationTimeoutAct, hact, hstep, hqueued]
  rfl

/-- A status that the policy code may not decide leaves the command. -/
theorem Dev.driveMakerCommandAct_status {n : Nat} {v : HostView} {p : PolicyAnswer} (hstatus : policyStatus p.status.toNat = false) :
    d.driveMakerCommandAct n v p = d := by
  unfold Dev.driveMakerCommandAct
  split
  · rfl
  · exact if_pos (by simp [hstatus])

/-- A drive-maker opcode with a status that it may decide is dispatched as any other command. -/
theorem Dev.driveMakerCommandAct_vendor {n : Nat} {v : HostView} {p : PolicyAnswer} {c : Ctx} (hctx : d.ctx n = some c) (hop : 0xC0 ≤ c.opcode)
    (hstatus : policyStatus p.status.toNat = true) (hbytes : p.bytes = []) :
    ∃ g, d.driveMakerCommandAct n v p = d.onDispatch n c.opcode (fun _ => true) g ∧
      ∀ (e : Dev) (x : Ctx), g e x = e.commit n p.status.toNat p.detail.toNat p.hi.toNat := by
  simp only [Dev.driveMakerCommandAct, hctx, hstatus, Nat.not_lt.mpr hop, decide_false, Bool.not_true, Bool.or_false, Bool.false_eq_true,
    if_false]
  exact ⟨_, rfl, fun _ _ => if_pos (by simp [hbytes])⟩

end

/-- Settles O50 (log entries 19, 66, 73, 93 and 102): each clause is a branch of what the dispatched context does, past its data list where it
has one. -/
theorem firmwareResyncAttestAndVendor : Obligations.FirmwareResyncAttestAndVendor := by
  refine ⟨fun _ n v => effect_fwDownload n v, ?noSelector, ?pastSlot, ?programs, ?transferFails, fun _ n => effect_fwActivate n, ?activates,
    ?activatesSafe, fun _ => effect_activationTimeout, ?timeoutIdle, ?timeoutOne, ?timeoutNone, fun _ n v => effect_resync n v, ?resyncs,
    ?resyncsPage, fun _ n v => effect_attestFresh n v, ?attests, fun _ n v => effect_attestBootRecord n v, ?noRecord, ?record,
    fun _ n v a hstop => effect_driveMakerCommand n v hstop a, ?vendor, ?vendorStatus⟩
  case noSelector =>
    intro d n v c e he hctx hop hsel hmay hclean hstop
    exact (effect_fwDownload n v hstop).dispatched he hctx hop rfl hmay hclean (by simp only [hsel])
  case pastSlot =>
    intro d n v c sel e he hctx hop hsel hpast hmay hclean hstop
    exact (effect_fwDownload n v hstop).dispatched he hctx hop rfl hmay hclean (by simp only [hsel, hpast, if_true])
  case programs =>
    intro d n v c c' w sel e he hctx hop hctx' hw hbad hsel hfits herr hmay hclean hstop
    refine (effect_fwDownload n v hstop).dispatched he hctx hop rfl hmay hclean ?_
    simp only [hsel, Nat.not_lt.mpr hfits, if_false]
    exact (withList_ok _ hctx' hw.symm hbad).trans (by rw [herr])
  case transferFails =>
    intro d n v c c' w sel k e he hctx hop hctx' hw hbad hsel hfits herr hmay hclean hstop
    refine (effect_fwDownload n v hstop).dispatched he hctx hop rfl hmay hclean ?_
    simp only [hsel, Nat.not_lt.mpr hfits, if_false]
    exact (withList_ok _ hctx' hw.symm hbad).trans (by rw [herr])
  case activates =>
    intro d n c e he hctx hop hrecovery hmode hmay hclean hstop
    refine (effect_fwActivate n hstop).dispatched he hctx hop rfl hmay hclean ?_
    have hplain : (e.mod.mode == Mode.safe) = false := by simpa using hmode
    simp only [hrecovery, hplain]
    rfl
  case activatesSafe =>
    intro d n c e he hctx hop hmode hrecovery hmay hclean hstop
    refine (effect_fwActivate n hstop).dispatched he hctx hop rfl hmay hclean ?_
    simp [hrecovery, hmode]
  case timeoutIdle =>
    intro d a hact hstep hqueued hstop
    exact (effect_activationTimeout hstop).of_eq (Dev.activationTimeoutAct_idle hact hstep hqueued)
  case timeoutOne =>
    intro d a x hact hstep hqueued hstop
    exact (effect_activationTimeout hstop).of_eq (Dev.activationTimeoutAct_one hact hstep hqueued)
  case timeoutNone =>
    intro d hact hstop
    exact (effect_activationTimeout hstop).of_eq (Dev.activationTimeoutAct_none hact)
  case resyncs =>
    intro d n v c e he hctx hop hp2 hmay hclean hstop
    exact (effect_resync n v hstop).dispatched he hctx hop rfl hmay hclean (by simp only [hp2, if_true])
  case resyncsPage =>
    intro d n v c e he hctx hop hp2 hmay hclean hstop
    exact (effect_resync n v hstop).dispatched he hctx hop rfl hmay hclean (by simp only [hp2]; rfl)
  case attests =>
    intro d n v c c' w e he hctx hop hctx' hw hbad hp0 hreq herr hmay hclean hstop
    exact (effect_attestFresh n v hstop).dispatched he hctx hop (by simp [hp0, hreq]) hmay hclean
      ((withList_ok _ hctx' hw.symm hbad).trans (by rw [herr]))
  case noRecord =>
    intro d n v c e he hctx hop hp0 hfind hmay hclean hstop
    exact (effect_attestBootRecord n v hstop).dispatched he hctx hop (by simp [hp0]) hmay hclean (by simp only [hfind])
  case record =>
    intro d n v c x e he hctx hop hp0 hfind hmay hclean hstop
    exact (effect_attestBootRecord n v hstop).dispatched he hctx hop (by simp [hp0]) hmay hclean (by simp only [hfind])
  case vendor =>
    intro d n v a c e he hctx hop hstatus hmay hclean hbytes hstop
    obtain ⟨g, hdispatch, hbody⟩ := Dev.driveMakerCommandAct_vendor hctx hop hstatus hbytes
    exact ((effect_driveMakerCommand n v hstop a).of_eq hdispatch).dispatched he hctx rfl rfl hmay hclean (hbody e c)
  case vendorStatus =>
    intro d n v a c hctx hstatus hstop
    exact (effect_driveMakerCommand n v hstop a).of_eq (Dev.driveMakerCommandAct_status hstatus)

end Sys2Proof.Machine
end

section
/-! SUPPORT. The Drover (spec/17): decision points, the journal and its checkpoints, the restore of the map, rebuilds and surfaces; from them
the statement on them. -/

namespace Sys2Proof.Machine

/-! ### The effect of each command, by the Porter's island (02 R72) -/

section
variable {d : Dev} (hlive : d.live 0x10 = true)
include hlive

theorem effect_decisionPoint (st : Fin 8) (bad : List Nat) : Effect (.decisionPoint st bad) d (d.decisionPointAct st bad) :=
  effect_island (f := fun d => d.decisionPointAct st bad) hlive (fun _ => rfl) rfl

theorem effect_journalProgram : Effect .journalProgram d d.journalProgramAct := effect_island hlive (fun _ => rfl) rfl

theorem effect_checkpoint : Effect .checkpoint d d.checkpointAct := effect_island hlive (fun _ => rfl) rfl

theorem effect_mapRestore (bad : Fin 4) (stop : Option Nat) (ms : Nat) : Effect (.mapRestore bad stop ms) d (d.mapRestoreAct bad stop ms) :=
  effect_island (f := fun d => d.mapRestoreAct bad stop ms) hlive (fun _ => rfl) rfl

theorem effect_rebuildDone (stripe member : Nat) (bad : List Nat) : Effect (.rebuildDone stripe member bad) d (d.rebuildDone stripe member bad) :=
  effect_island (f := fun d => d.rebuildDone stripe member bad) hlive (fun _ => rfl) rfl

theorem effect_surfaceRebuildEnd : Effect .surfaceRebuildEnd d d.surfaceRebuildEndAct := effect_island hlive (fun _ => rfl) rfl

end

/-! ### The journal (R711, R712) -/

section
variable {d : Dev}

/-- Outside a Harvest, once the map is restored, the tail is programmed. -/
theorem Dev.journalProgramAct_restored (hcalm : d.harvesting = false) (hrestored : d.drv.restored = true) :
    d.journalProgramAct = (d.tailToLog d.tailMax).flushProgress :=
  if_neg (by simp [hcalm, hrestored])

theorem Dev.journalProgramAct_idle (hidle : d.drv.restored = false ∨ d.harvesting = true) : d.journalProgramAct = d := by
  refine if_pos ?_
  obtain hunrestored | hharvest := hidle
  · simp [hunrestored]
  · simp [hharvest]

/-- A tail that the log takes leaves it for whole blocks. -/
theorem Dev.tailToLog_takes {keep : Nat} {b : List JBlock} {e : Dev}
    (he : e = { d with drv := { d.drv with
      tail := []
      tailMs := 0
      unprog := []
      jseq := (d.drv.jseq - d.drv.tail.length) + 127 * b.length
      jrn := { d.drv.jrn with blocks := d.drv.jrn.blocks ++ b, erased := false } } })
    (htail : d.drv.tail.isEmpty = false) (hb : b = journalBlocks (d.drv.jseq - d.drv.tail.length) d.drv.tail.length d.drv.tail)
    (hroom : 4096 * (d.drv.jrn.blocks.length + b.length) + keep ≤ d.logSize) :
    d.tailToLog keep = (e.put F.DRV_TAIL_BYTES 0).showJseq := by
  subst hb he
  exact if_neg (by simpa [htail] using hroom)

theorem Dev.tailToLog_full {keep : Nat} {b : List JBlock}
    (hb : b = journalBlocks (d.drv.jseq - d.drv.tail.length) d.drv.tail.length d.drv.tail)
    (hfull : d.logSize < 4096 * (d.drv.jrn.blocks.length + b.length) + keep) : d.tailToLog keep = d := by
  subst hb
  exact if_pos (by simp [hfull])

theorem Dev.tailToLog_empty {keep : Nat} (htail : d.drv.tail = []) : d.tailToLog keep = d := if_pos (by simp [htail])

theorem Dev.checkpointAct_low (hlow : 2 * 4096 * d.drv.jrn.blocks.length < d.logSize) : d.checkpointAct = d := if_pos (by simp [hlow])

theorem Dev.checkpointAct_due (hcalm : d.harvesting = false) (hrestored : d.drv.restored = true)
    (hdue : d.logSize ≤ 2 * 4096 * d.drv.jrn.blocks.length) : d.checkpointAct = d.checkpoint.flushProgress :=
  if_neg (by simpa [hcalm, hrestored] using hdue)

/-- A checkpoint goes into the area and the superblock copy that are not in use. -/
theorem Dev.checkpoint_other {k n a m : Nat} {p q r : Dev} (hp : p = d.tailToLog d.tailMax)
    (hq : q = { p with drv := { p.drv with jrn := { p.drv.jrn with
      areas := p.drv.jrn.areas.set (1 - a) (some p.ckpt)
      supers := p.drv.jrn.supers.set (1 - k) (some (n + 1, 1 - a, p.drv.jseq))
      blocks := p.drv.jrn.blocks.filter (fun (b : JBlock) => p.drv.jseq < b.first + b.recs.length) } } })
    (hr : r = (q.tailToLog q.tailMax).appendRec recCheckpoint (leBytes 4 (1 - a) ++ leBytes 8 p.drv.jseq))
    (hsuper : p.drv.jrn.super = some (k, n, a, m)) :
    d.checkpoint =
      (r.appendRec recSurface (leBytes 4 (r.get F.GRN_TITHE_RETIRED_VALUE))).appendRec recSeq (leBytes 6 r.drv.reserved) := by
  unfold Dev.checkpoint
  rw [← hp]
  subst hr hq
  simp only [hsuper]
  rfl

end

/-! ### The restore of the map (R713, R714) -/

section
variable {d : Dev} {bad : Fin 4} {stop : Option Nat} {ms : Nat}

theorem Dev.mapRestoreAct_runs (hdue : d.drv.restored = false) (hcalm : d.harvesting = false) (hmode : d.mod.mode ≠ Mode.safe)
    (hhold : d.mod.recovery = false) (hphase : d.get F.CFG_STAT_PHASE = 5) : d.mapRestoreAct bad stop ms = d.restoreMap bad.val stop ms :=
  if_neg (by simp [hdue, hcalm, hmode, hhold, hphase])

theorem Dev.mapRestoreAct_restored (hrestored : d.drv.restored = true) : d.mapRestoreAct bad stop ms = d := if_pos (by simp [hrestored])

/-- A partition that was never formatted, and reads erased, is formatted. -/
theorem Dev.restoreMap_formats {b : Nat} (hsupers : d.drv.jrn.supers = [none, none]) (herased : d.drv.jrn.erased = true) :
    d.restoreMap b stop ms = d.formatJournal ms := by
  simp [Dev.restoreMap, Journal.super, hsupers, herased, at']

/-- With neither superblock copy valid, a partition that is not erased is reported. -/
theorem Dev.restoreMap_reports (hfull : d.drv.jrn.erased = false) :
    d.restoreMap 3 stop ms = d.fresh.2.post 0x420E [d.fresh.1 % 2 ^ 32] := by
  simp [Dev.restoreMap, Journal.super, hfull, at', show Nat.testBit 3 1 = true by decide]

end

/-! ### Rebuilds (R715, R718) -/

section
variable {d : Dev} {stripe member : Nat} {bad : List Nat} {r : Recovery}

theorem Dev.rebuildDone_none (hnone : d.det.recov = []) : d.rebuildDone stripe member bad = d := by simp [Dev.rebuildDone, hnone]

/-- A rebuild waits for every peer, and for its tiles' migration. -/
theorem Dev.rebuildDone_waits (hfind : d.det.recov.find? (fun (r : Recovery) => r.op.rung == 3 && recovAt stripe member r) = some r)
    (hwait : r.got.length < r.peers ∨ r.got.any d.tileMigrates = true) : d.rebuildDone stripe member bad = d := by
  unfold Dev.rebuildDone
  rw [hfind]
  exact if_pos (by simpa using hwait)

/-- A fold whose step keeps the value at each element keeps it. -/
theorem foldl_fixed_mem {α β : Type} {f : α → β → α} {a : α} {l : List β} (hfix : ∀ b ∈ l, f a b = a) : l.foldl f a = a := by
  induction l with
  | nil => rfl
  | cons b l ih =>
    rw [List.foldl_cons, hfix b List.mem_cons_self]
    exact ih fun x hx => hfix x (List.mem_cons_of_mem b hx)

/-- With every peer read and good, the sector is their XOR. -/
theorem Dev.rebuildDone_good {e : Dev} (he : e = (d.each r.got Dev.freeTile).dropRecov stripe member)
    (hfind : d.det.recov.find? (fun (r : Recovery) => r.op.rung == 3 && recovAt stripe member r) = some r)
    (hall : r.peers ≤ r.got.length) (hstill : r.got.any d.tileMigrates = false)
    (hgood : ∀ t ∈ r.got, d.tileUse t 2 (!bad.contains t) = (d, .good)) :
    d.rebuildDone stripe member bad =
      ((e.inc F.DRV_RUNG3_COUNT).post 0x4204 [r.op.sec.lba % 2 ^ 32, r.op.sec.lba / 2 ^ 32 % 2 ^ 16, stripe % 2 ^ 32]).rebuilt r
        (xorTiles (r.got.map d.tileBytes)) := by
  subst he
  unfold Dev.rebuildDone
  simp only [hfind, Nat.not_lt.mpr hall, hstill, decide_false, Bool.or_self, Bool.false_eq_true, if_false]
  rw [foldl_fixed_mem (a := (d, true)) fun t ht => by simp only [hgood t ht, Bool.and_self]]
  rfl

theorem Dev.surfaceRebuildEndAct_none (hnone : d.drv.surf = none) : d.surfaceRebuildEndAct = d := by
  simp [Dev.surfaceRebuildEndAct, hnone]

theorem Dev.surfaceRebuildEndAct_last {x : SurfaceRebuild} (hsurf : d.drv.surf = some x) (hlast : d.bandCount ≤ x.band)
    (hidle : d.rebuildBusy = false) : d.surfaceRebuildEndAct = (d.post 0x4208 [x.surface, x.sectors % 2 ^ 32, x.seconds]).nextSurface := by
  simp [Dev.surfaceRebuildEndAct, hsurf, hlast, hidle]

theorem Dev.surfaceRebuildEndAct_short {x : SurfaceRebuild} (hsurf : d.drv.surf = some x) (hbusy : d.rebuildBusy = true)
    (hfree : d.freeBands = 0) (hopen : d.openBand = none) :
    d.surfaceRebuildEndAct = (d.post 0x420F [x.surface, d.get F.GRN_TITHE_PERMILLE]).nextSurface := by
  simp [Dev.surfaceRebuildEndAct, hsurf, hbusy, hfree, hopen]

end

/-- Settles O51 (log entries 19, 47, 48, 117, 118, 129 and 155): each clause is a branch of the command's operation. -/
theorem droverDecidesJournalsAndRestores : Obligations.DroverDecidesJournalsAndRestores := by
  refine ⟨fun _ st bad hlive => effect_decisionPoint hlive st bad, ?decides, ?decidesNot, fun _ => effect_journalProgram, ?programs, ?full, ?held,
    ?empty, fun _ => effect_checkpoint, ?low, ?due, fun _ bad stop ms hlive => effect_mapRestore hlive bad stop ms, ?formats, ?reports,
    ?restored, fun _ stripe member bad hlive => effect_rebuildDone hlive stripe member bad, ?peerMissing, ?migrates, ?noRebuild, ?rebuilds,
    fun _ => effect_surfaceRebuildEnd, ?lastBand, ?noFreeBand, ?noSurface⟩
  case decides =>
    intro d st bad hmay hlive
    exact (effect_decisionPoint hlive st bad).of_eq (if_neg (by simp [hmay]))
  case decidesNot =>
    intro d st bad hmay hlive
    exact (effect_decisionPoint hlive st bad).of_eq (if_pos (by simp [hmay]))
  case programs =>
    intro d b e he hcalm hrestored htail hb hroom hlive
    exact (effect_journalProgram hlive).of_eq ((Dev.journalProgramAct_restored hcalm hrestored).trans
      (congrArg Dev.flushProgress (Dev.tailToLog_takes he htail hb hroom)))
  case full =>
    intro d b hcalm hrestored hfull hb hlive
    exact (effect_journalProgram hlive).of_eq ((Dev.journalProgramAct_restored hcalm hrestored).trans
      (congrArg Dev.flushProgress (Dev.tailToLog_full hb hfull)))
  case held =>
    intro d hidle hlive
    exact (effect_journalProgram hlive).of_eq (Dev.journalProgramAct_idle hidle)
  case empty =>
    intro d hcalm hrestored htail hlive
    exact (effect_journalProgram hlive).of_eq ((Dev.journalProgramAct_restored hcalm hrestored).trans
      (congrArg Dev.flushProgress (Dev.tailToLog_empty htail)))
  case low =>
    intro d hlow hlive
    exact (effect_checkpoint hlive).of_eq (Dev.checkpointAct_low hlow)
  case due =>
    intro d k n a m p q r hp hq hr hcalm hrestored hdue hsuper hlive
    exact (effect_checkpoint hlive).of_eq ((Dev.checkpointAct_due hcalm hrestored hdue).trans
      (congrArg Dev.flushProgress (Dev.checkpoint_other hp hq hr hsuper)))
  case formats =>
    intro d bad stop ms hdue hcalm hmode hhold hphase hsupers herased hlive
    exact (effect_mapRestore hlive bad stop ms).of_eq ((Dev.mapRestoreAct_runs hdue hcalm hmode hhold hphase).trans
      (Dev.restoreMap_formats hsupers herased))
  case reports =>
    rintro d _ stop ms hdue hcalm hmode hhold hphase rfl hfull hlive
    exact (effect_mapRestore hlive 3 stop ms).of_eq ((Dev.mapRestoreAct_runs hdue hcalm hmode hhold hphase).trans
      (Dev.restoreMap_reports hfull))
  case restored =>
    intro d bad stop ms hrestored hlive
    exact (effect_mapRestore hlive bad stop ms).of_eq (Dev.mapRestoreAct_restored hrestored)
  case peerMissing =>
    intro d stripe member bad r hfind hmissing hlive
    exact (effect_rebuildDone hlive stripe member bad).of_eq (Dev.rebuildDone_waits hfind (.inl hmissing))
  case migrates =>
    intro d stripe member bad r hfind hmigrates hlive
    exact (effect_rebuildDone hlive stripe member bad).of_eq (Dev.rebuildDone_waits hfind (.inr hmigrates))
  case noRebuild =>
    intro d stripe member bad hnone hlive
    exact (effect_rebuildDone hlive stripe member bad).of_eq (Dev.rebuildDone_none hnone)
  case rebuilds =>
    intro d stripe member bad r e he hfind hall hstill hgood hlive
    exact (effect_rebuildDone hlive stripe member bad).of_eq (Dev.rebuildDone_good he hfind hall hstill hgood)
  case lastBand =>
    intro d x hsurf hlast hidle hlive
    exact (effect_surfaceRebuildEnd hlive).of_eq (Dev.surfaceRebuildEndAct_last hsurf hlast hidle)
  case noFreeBand =>
    intro d x hsurf hbusy hfree hopen hlive
    exact (effect_surfaceRebuildEnd hlive).of_eq (Dev.surfaceRebuildEndAct_short hsurf hbusy hfree hopen)
  case noSurface =>
    intro d hnone hlive
    exact (effect_surfaceRebuildEnd hlive).of_eq (Dev.surfaceRebuildEndAct_none hnone)

end Sys2Proof.Machine
end

section
/-! SUPPORT. The Tally's appends and requests, its mirror, and the Seal engine (18 R730 to R765); from them the statements on them. -/

namespace Sys2Proof.Machine

/-! ### The effect of each command: by the Tally's island, by the Seal engine's (02 R72), or by CORE -/

section
variable {d : Dev}

theorem effect_talAppendBoot (how : AppendEnd) (hlive : d.live 0x11 = true) :
    Effect (.talAppendBoot how) d (if d.bootRecordDue && !d.harvesting then d.talBoot how else d) :=
  effect_island (f := fun d => if d.bootRecordDue && !d.harvesting then d.talBoot how else d) hlive (fun _ => rfl) rfl

theorem effect_talAppendKeyRotate (hstop : d.clk.stopped = false) : Effect .talAppendKeyRotate d (d.talStart kindRotate none) :=
  effect_core (f := fun d => d.talStart kindRotate none) hstop (fun _ => rfl) rfl

theorem effect_talAppendSvnFloor (hstop : d.clk.stopped = false) : Effect .talAppendSvnFloor d (d.talStart kindFloor none) :=
  effect_core (f := fun d => d.talStart kindFloor none) hstop (fun _ => rfl) rfl

theorem effect_talAppendDebugUnlock (hstop : d.clk.stopped = false) : Effect .talAppendDebugUnlock d (d.talStart kindDebug none) :=
  effect_core (f := fun d => d.talStart kindDebug none) hstop (fun _ => rfl) rfl

theorem effect_talAppendUnsealBand (hstop : d.clk.stopped = false) : Effect .talAppendUnsealBand d (d.talStart kindUnseal none) :=
  effect_core (f := fun d => d.talStart kindUnseal none) hstop (fun _ => rfl) rfl

theorem effect_talAppendAttestation (hstop : d.clk.stopped = false) : Effect .talAppendAttestation d (d.talStart kindAttest none) :=
  effect_core (f := fun d => d.talStart kindAttest none) hstop (fun _ => rfl) rfl

theorem effect_talRequestDone (how : AppendEnd) (bad : List (BitVec 32)) (hlive : d.live 0x11 = true) :
    Effect (.talRequestDone how bad) d (d.talRequestDoneAct how bad) :=
  effect_island (f := fun d => d.talRequestDoneAct how bad) hlive (fun _ => rfl) rfl

theorem effect_mirrorProgram (hlive : d.live 0x11 = true) : Effect .mirrorProgram d d.mirrorProgramAct :=
  effect_island hlive (fun _ => rfl) rfl

theorem effect_sealComputationDone (agree : Bool) (stored : List (BitVec 8)) (hlive : d.live 0x12 = true) :
    Effect (.sealComputationDone agree stored) d (d.compDone agree (stored.map (fun b => b.toNat))) :=
  have hexec : ∀ s : State, exec (.sealComputationDone agree stored) s = execSealComputationDone agree stored s := fun _ => rfl
  effect_island hlive hexec rfl

theorem effect_seaJobGo (v : BitVec 31) (hstop : d.clk.stopped = false) : Effect (.seaJobGo v) d (d.jobWrite (2 ^ 31 + v.toNat)) :=
  effect_core (f := fun d => d.jobWrite (2 ^ 31 + v.toNat)) hstop (fun _ => rfl) rfl

theorem effect_seaDataWrite (v : BitVec 64) (hstop : d.clk.stopped = false) : Effect (.seaDataWrite v) d (d.seaData v.toNat) :=
  effect_core (f := fun d => d.seaData v.toNat) hstop (fun _ => rfl) rfl

theorem effect_seaJobFinish (v : BitVec 30) (hstop : d.clk.stopped = false) : Effect (.seaJobFinish v) d (d.jobWrite (2 ^ 30 + v.toNat)) :=
  effect_core (f := fun d => d.jobWrite (2 ^ 30 + v.toNat)) hstop (fun _ => rfl) rfl

end

/-! ### Appends (R733 to R737, R744) -/

section
variable {d : Dev} {kind : Nat} {payload : List Nat}

theorem Dev.talAppend_failed : d.talAppend kind payload .failed = (d.post 0x5013 [kind, d.get F.TAL_INDEX_VALUE], none) := by
  simp [Dev.talAppend]

theorem Dev.talAppend_good : (d.talAppend kind payload .good).2 = some (d.get F.TAL_INDEX_VALUE) := by
  simp [Dev.talAppend]

/-- An append to a chain whose cores disagree twice appends nothing. -/
theorem Dev.talAppend_disagreed (hlast : d.talLast.isSome = true) :
    d.talAppend kind payload .disagreed =
      (((d.disagree 0 false).disagree 0 true).post 0x5013 [kind, d.get F.TAL_INDEX_VALUE], none) := by
  simp [Dev.talAppend, hlast]

/-- With no seal entry pending the boot record is the append itself: one that fails leaves it due. -/
theorem Dev.talBoot_fails {how : AppendEnd} {r : Dev} (hpending : d.tal.pending = [])
    (hnone : d.talAppend kindBoot (d.digestRegs F.TAL_ROOT_BYTES) how = (r, none)) : d.talBoot how = r := by
  simp [Dev.talBoot, hpending, hnone]

/-- One that ends well is recorded with its index. -/
theorem Dev.talBoot_appends {how : AppendEnd} {i : Nat} (hpending : d.tal.pending = [])
    (hsome : (d.talAppend kindBoot (d.digestRegs F.TAL_ROOT_BYTES) how).2 = some i) {r : Dev}
    (hr : r = (d.talAppend kindBoot (d.digestRegs F.TAL_ROOT_BYTES) how).1) :
    d.talBoot how = ({ r with mod := { r.mod with bootRecorded := true } } : Dev).post 0x5001
      [i, d.get F.TAL_BOOT_COUNT_VALUE, d.tal.sections, d.tal.flags] := by
  subst hr
  simp [Dev.talBoot, hpending, hsome]

/-- The append of a due boot record outside a Harvest. -/
theorem effect_bootRecord {how : AppendEnd} (hdue : d.bootRecordDue = true) (hcalm : d.harvesting = false) (hlive : d.live 0x11 = true) :
    Effect (.talAppendBoot how) d (d.talBoot how) :=
  (effect_talAppendBoot how hlive).of_eq (if_pos (by simp [hdue, hcalm]))

end

/-! ### Requests (R757, R764) -/

section
variable {d p : Dev} {kind : Nat} {ctx : Option Nat}

/-- A request in progress keeps its place: the GO sets KIND alone. -/
theorem Dev.talStart_busy (hbusy : d.tal.req.isSome = true) : d.talStart kind ctx = d.put F.TAL_APPEND_KIND kind := if_pos hbusy

/-- A protected KIND is taken under presence and without TAMPER. -/
theorem Dev.talStart_present (hkind : 4 ≤ kind ∧ kind ≤ 7) (hp : p = d.put F.TAL_APPEND_KIND kind) (hreq : d.tal.req = none)
    (hpresent : d.on F.PRS_STAT_PRESENT = true) (htamper : d.on F.PRS_STAT_TAMPER = false) :
    d.talStart kind ctx =
      ({ p with tal := { p.tal with req := some ⟨kind, p.digestRegs F.TAL_PAYLOAD_BYTES, ctx⟩ } } : Dev).put F.TAL_STAT_BUSY 1 := by
  have hp' : p.on F.PRS_STAT_PRESENT = true := by rw [hp, Dev.on_put_ne _ _ (by decide), hpresent]
  have ht' : p.on F.PRS_STAT_TAMPER = false := by rw [hp, Dev.on_put_ne _ _ (by decide), htamper]
  have hidle : p.tal.req = none := by rw [hp, Dev.put_tal, hreq]
  unfold Dev.talStart
  rw [← hp]
  simp [hidle, hp', ht', kindRotate, kindUnseal, hkind]

theorem Dev.talStart_absent (hkind : 4 ≤ kind ∧ kind ≤ 7) (hreq : d.tal.req = none)
    (habsent : d.on F.PRS_STAT_PRESENT = false ∨ d.on F.PRS_STAT_TAMPER = true) :
    d.talStart kind ctx = ((d.put F.TAL_APPEND_KIND kind).put F.TAL_STAT_RESULT 1).put F.TAL_INT_STAT_REFUSED 1 := by
  have hp' : (d.put F.TAL_APPEND_KIND kind).on F.PRS_STAT_PRESENT = d.on F.PRS_STAT_PRESENT := Dev.on_put_ne _ _ (by decide)
  have ht' : (d.put F.TAL_APPEND_KIND kind).on F.PRS_STAT_TAMPER = d.on F.PRS_STAT_TAMPER := Dev.on_put_ne _ _ (by decide)
  simp only [Dev.talStart, Dev.put_tal, hreq, hp', ht', kindRotate, kindUnseal, hkind]
  obtain habsent | htamper := habsent
  · simp [habsent]
  · simp [htamper]

/-- An attestation needs no presence. -/
theorem Dev.talStart_attest (hp : p = d.put F.TAL_APPEND_KIND 16) (hreq : d.tal.req = none) :
    d.talStart kindAttest ctx =
      ({ p with tal := { p.tal with req := some ⟨16, p.digestRegs F.TAL_PAYLOAD_BYTES, ctx⟩ } } : Dev).put F.TAL_STAT_BUSY 1 := by
  subst hp
  simp [Dev.talStart, hreq, kindRotate, kindUnseal, kindAttest]

theorem Dev.talRequestDoneAct_idle {how : AppendEnd} (hreq : d.tal.req = none) : d.talRequestDoneAct how [] = d := by
  simp [Dev.talRequestDoneAct, hreq]

theorem Dev.talRequestDoneAct_ends {how : AppendEnd} {r : TalReq} (hreq : d.tal.req = some r) : d.talRequestDoneAct how [] = d.talDone r how := by
  simp [Dev.talRequestDoneAct, hreq]

/-- The entry of a request of the runtime that is not appended gives RESULT 3. -/
theorem Dev.talDone_floorFailed {q : List Nat} {x : Dev}
    (hx : x = ({ d with tal := { d.tal with req := none } } : Dev).put F.TAL_STAT_BUSY 0) (htamper : d.on F.PRS_STAT_TAMPER = false) :
    d.talDone ⟨kindFloor, q, none⟩ .failed =
      ((x.post 0x5013 [kindFloor, x.get F.TAL_INDEX_VALUE]).put F.TAL_STAT_RESULT 3).put F.TAL_INT_STAT_DONE 1 := by
  have hx' : x.on F.PRS_STAT_TAMPER = false := by
    rw [hx, Dev.on_put_ne _ _ (by decide)]
    exact htamper
  unfold Dev.talDone
  rw [← hx]
  simp [hx', Dev.talAppend_failed, kindFloor, kindUnseal, kindAttest]

/-- A debug entry appended sets DEBUG. -/
theorem Dev.talDone_debug {q : List Nat} {x y : Dev}
    (hx : x = ({ d with tal := { d.tal with req := none } } : Dev).put F.TAL_STAT_BUSY 0) (hy : y = (x.talAppend kindDebug q .good).1)
    (htamper : d.on F.PRS_STAT_TAMPER = false) :
    d.talDone ⟨kindDebug, q, none⟩ .good =
      (((y.setDebug true).post 0x5009 [x.get F.TAL_INDEX_VALUE]).put F.TAL_STAT_RESULT 0).put F.TAL_INT_STAT_DONE 1 := by
  have hx' : x.on F.PRS_STAT_TAMPER = false := by
    rw [hx, Dev.on_put_ne _ _ (by decide)]
    exact htamper
  unfold Dev.talDone
  rw [← hx]
  subst hy
  simp only [if_neg (show ¬kindDebug = kindUnseal by decide), hx', Dev.talAppend_good]
  rfl

theorem Dev.mirrorProgramAct_homeless (hsel : d.cfg.sel = none) : d.mirrorProgramAct = d := if_pos (by simp [hsel])

/-- In BOOT the mirror takes every entry it lacks; here one. -/
theorem Dev.mirrorProgramAct_boot {i : Nat} (hsel : d.cfg.sel.isSome = true) (hlack : d.tal.lacking = [i]) (hcalm : d.harvesting = false)
    (hmode : d.mod.mode = Mode.boot) : d.mirrorProgramAct = (d.mirrorPut i).post 0x5010 [1] := by
  have hhome : d.cfg.sel.isNone = false := by simpa [← Option.not_isSome] using hsel
  simp only [Dev.mirrorProgramAct, hhome, hlack, hcalm, hmode]
  rfl

theorem Dev.mirrorProgramAct_oldest {i : Nat} {l : List Nat} (hsel : d.cfg.sel.isSome = true) (hlack : d.tal.lacking = i :: l)
    (hcalm : d.harvesting = false) (hmode : d.mod.mode ≠ Mode.boot) : d.mirrorProgramAct = d.mirrorPut i := by
  have hhome : d.cfg.sel.isNone = false := by simpa [← Option.not_isSome] using hsel
  simp only [Dev.mirrorProgramAct, hhome, hlack, hcalm, hmode]
  rfl

end

/-- Settles O53 (log entries 19, 41, 92, 107, 108 and 156): each clause is a branch of the append, of the request or of the mirror. -/
theorem tallyRecordsAndRequests : Obligations.TallyRecordsAndRequests := by
  refine ⟨fun _ how => effect_talAppendBoot how, ?bootFailed, ?bootGood, ?bootDisagreed, ?bootNotDue,
    fun _ => effect_talAppendKeyRotate, ?rotate, ?rotateAbsent, fun _ => effect_talAppendSvnFloor, ?floor, ?floorAbsent,
    fun _ => effect_talAppendDebugUnlock, ?debug, ?debugAbsent, fun _ => effect_talAppendUnsealBand, ?unseals, ?unsealsAbsent,
    fun _ => effect_talAppendAttestation, ?attest, ?busy, fun _ how bad => effect_talRequestDone how bad, ?doneIdle, ?doneFailed, ?doneDebug,
    fun _ => effect_mirrorProgram, ?mirrorHomeless, ?mirrorBoot, ?mirrorOldest⟩
  case bootFailed =>
    rintro d _ hdue hcalm hpending rfl hlive
    exact (effect_bootRecord hdue hcalm hlive).of_eq (Dev.talBoot_fails hpending Dev.talAppend_failed)
  case bootGood =>
    rintro d _ r hr hdue hcalm hpending rfl hlive
    exact (effect_bootRecord hdue hcalm hlive).of_eq (Dev.talBoot_appends hpending Dev.talAppend_good hr)
  case bootDisagreed =>
    rintro d _ hdue hcalm hpending hlast rfl hlive
    exact (effect_bootRecord hdue hcalm hlive).of_eq (Dev.talBoot_fails hpending (Dev.talAppend_disagreed hlast))
  case bootNotDue =>
    intro d how hdue hlive
    exact (effect_talAppendBoot how hlive).of_eq (if_neg (by simp [hdue]))
  case rotate =>
    intro d p hp hreq hpresent htamper hstop
    exact (effect_talAppendKeyRotate hstop).of_eq (Dev.talStart_present (by decide) hp hreq hpresent htamper)
  case rotateAbsent =>
    intro d hreq habsent hstop
    exact (effect_talAppendKeyRotate hstop).of_eq (Dev.talStart_absent (by decide) hreq habsent)
  case floor =>
    intro d p hp hreq hpresent htamper hstop
    exact (effect_talAppendSvnFloor hstop).of_eq (Dev.talStart_present (by decide) hp hreq hpresent htamper)
  case floorAbsent =>
    intro d hreq habsent hstop
    exact (effect_talAppendSvnFloor hstop).of_eq (Dev.talStart_absent (by decide) hreq habsent)
  case debug =>
    intro d p hp hreq hpresent htamper hstop
    exact (effect_talAppendDebugUnlock hstop).of_eq (Dev.talStart_present (by decide) hp hreq hpresent htamper)
  case debugAbsent =>
    intro d hreq habsent hstop
    exact (effect_talAppendDebugUnlock hstop).of_eq (Dev.talStart_absent (by decide) hreq habsent)
  case unseals =>
    intro d p hp hreq hpresent htamper hstop
    exact (effect_talAppendUnsealBand hstop).of_eq (Dev.talStart_present (by decide) hp hreq hpresent htamper)
  case unsealsAbsent =>
    intro d hreq habsent hstop
    exact (effect_talAppendUnsealBand hstop).of_eq (Dev.talStart_absent (by decide) hreq habsent)
  case attest =>
    intro d p hp hreq hstop
    exact (effect_talAppendAttestation hstop).of_eq (Dev.talStart_attest hp hreq)
  case busy =>
    intro d hbusy hstop
    exact (effect_talAppendSvnFloor hstop).of_eq (Dev.talStart_busy hbusy)
  case doneIdle =>
    rintro d how _ rfl hreq hlive
    exact (effect_talRequestDone how [] hlive).of_eq (Dev.talRequestDoneAct_idle hreq)
  case doneFailed =>
    rintro d _ _ p x hx rfl hreq htamper rfl hlive
    exact (effect_talRequestDone .failed [] hlive).of_eq ((Dev.talRequestDoneAct_ends hreq).trans (Dev.talDone_floorFailed hx htamper))
  case doneDebug =>
    rintro d _ _ p x y hx hy rfl hreq htamper rfl hlive
    exact (effect_talRequestDone .good [] hlive).of_eq ((Dev.talRequestDoneAct_ends hreq).trans (Dev.talDone_debug hx hy htamper))
  case mirrorHomeless =>
    intro d hsel hlive
    exact (effect_mirrorProgram hlive).of_eq (Dev.mirrorProgramAct_homeless hsel)
  case mirrorBoot =>
    intro d i hsel hlack hcalm hmode hlive
    exact (effect_mirrorProgram hlive).of_eq (Dev.mirrorProgramAct_boot hsel hlack hcalm hmode)
  case mirrorOldest =>
    intro d i l hsel hlack hcalm hmode hlive
    exact (effect_mirrorProgram hlive).of_eq (Dev.mirrorProgramAct_oldest hsel hlack hcalm hmode)

/-! ### The Seal engine (R743 to R751) -/

/-- An event posted does not look at the Seal engine. -/
theorem Dev.post_setSea (d : Dev) (s : Sea) (code : Nat) (ps : List Nat) :
    ({ d with sea := s } : Dev).post code ps = { d.post code ps with sea := s } := by
  unfold Dev.post
  cases hsev : Events.severity code with
  | none => rfl
  | some sev =>
    by_cases hlow : sev < 3
    · by_cases hroom : (at' d.wat.ports (Events.port code) {}).ordinary.length < 8
      · simp only [if_pos hlow, if_pos hroom]
      · simp only [if_pos hlow, if_neg hroom]
        rfl
    · simp only [if_neg hlow]
      rfl

section
variable {d e : Dev} {agree : Bool} {stored : List Nat} {x : Comp}

theorem Dev.compDone_none (hcur : d.sea.cur = none) : d.compDone agree stored = d := by simp [Dev.compDone, hcur]

/-- A class 3 job still open is not delivered. -/
theorem Dev.compDone_open (hcur : d.sea.cur = some x) (hcls : x.cls = 3) (hopen : d.sea.finished = false) : d.compDone agree stored = d := by
  simp [Dev.compDone, hcur, hcls, hopen]

/-- A computation of another class on which the cores agreed is counted and delivered. -/
theorem Dev.compDone_agreed (hcur : d.sea.cur = some x) (hcls : x.cls ≠ 3) :
    d.compDone true stored = ((d.inc F.SEA_COUNT_COUNT).nextComp).deliverComp x stored := by
  simp [Dev.compDone, hcur, hcls]

/-- A first disagreement begins it again. -/
theorem Dev.compDone_again (he : e = (d.inc F.SEA_DISAGREE_COUNT).put F.SEA_INT_STAT_DISAGREE 1) (hcur : d.sea.cur = some x) (hcls : x.cls ≠ 3)
    (hfirst : x.redo = false) :
    d.compDone false stored = ({ e with sea := { e.sea with cur := some { x with redo := true } } } : Dev).post 0x5011 [x.cls] := by
  have hsea : (d.disagree x.cls false).sea = e.sea := by subst he; simp [Dev.disagree]
  rw [Dev.post_setSea, ← hsea]
  subst he
  simp only [Dev.compDone, hcur, hfirst]
  simp [hcls, Dev.disagree]

/-- A second one drops it. -/
theorem Dev.compDone_dropped (he : e = (d.inc F.SEA_DISAGREE_COUNT).put F.SEA_INT_STAT_DISAGREE 1) (hcur : d.sea.cur = some x) (hcls : x.cls ≠ 3)
    (hsecond : x.redo = true) : d.compDone false stored = (e.post 0x5012 [x.cls]).nextComp := by
  subst he
  simp only [Dev.compDone, hcur, hsecond]
  simp [hcls, Dev.disagree, Dev.when]

theorem Dev.deliverComp_check (hcls : x.cls = 1) : d.deliverComp x stored = d.checkSealed x stored := if_pos hcls

theorem Dev.deliverComp_value (hcls : x.cls = 2) : d.deliverComp x stored = d.keepTag x.band x.lba (sealValue x.band x.lba x.data) := by
  simp [Dev.deliverComp, hcls]

/-- A write of SEA_JOB with GO alone: its fields, then the job. -/
theorem Dev.jobWrite_go {v : Nat} (he : e = d.jobFields (2 ^ 31 + v)) (hv : v < 2 ^ 29) :
    d.jobWrite (2 ^ 31 + v) =
      if e.on F.SEA_STAT_JOB then e.put F.SEA_JOB_WR_IGN 1
      else (({ e with sea := { e.sea with input := [], finished := false } } : Dev).put F.SEA_STAT_JOB 1).askComp { cls := 3, data := e.sea.key } := by
  have hclear : (2 ^ 31 + v).testBit 29 = false := by
    rw [Nat.testBit_two_pow_add_gt (by decide), Nat.testBit_lt_two_pow hv]
  have hfinish : (2 ^ 31 + v).testBit 30 = false := by
    rw [Nat.testBit_two_pow_add_gt (by decide), Nat.testBit_lt_two_pow (by omega)]
  have hgo : (2 ^ 31 + v).testBit 31 = true := by
    rw [Nat.testBit_two_pow_add_eq, Nat.testBit_lt_two_pow (by omega)]
    rfl
  simp only [Dev.jobWrite, hclear, hfinish, hgo, he]
  rfl

/-- A write of SEA_JOB with FINISH alone: its fields, then the end of the input. -/
theorem Dev.jobWrite_finish {v : Nat} (he : e = d.jobFields (2 ^ 30 + v)) (hv : v < 2 ^ 29) :
    d.jobWrite (2 ^ 30 + v) =
      if !e.on F.SEA_STAT_JOB || e.sea.finished then e.put F.SEA_JOB_WR_IGN 1 else { e with sea := { e.sea with finished := true } } := by
  have hclear : (2 ^ 30 + v).testBit 29 = false := by
    rw [Nat.testBit_two_pow_add_gt (by decide), Nat.testBit_lt_two_pow hv]
  have hgo : (2 ^ 30 + v).testBit 31 = false := Nat.testBit_lt_two_pow (by omega)
  have hfinish : (2 ^ 30 + v).testBit 30 = true := by
    rw [Nat.testBit_two_pow_add_eq, Nat.testBit_lt_two_pow (by omega)]
    rfl
  simp only [Dev.jobWrite, hclear, hfinish, hgo, he]
  rfl

theorem Dev.seaData_taken {v : Nat} (hjob : d.on F.SEA_STAT_JOB = true) (hopen : d.sea.finished = false) :
    d.seaData v = { d with sea := { d.sea with input := d.sea.input ++ leBytes 8 v } } :=
  if_pos (by simp [hjob, hopen])

theorem Dev.seaData_ignored {v : Nat} (hclosed : d.on F.SEA_STAT_JOB = false ∨ d.sea.finished = true) : d.seaData v = d.put F.SEA_JOB_WR_IGN 1 := by
  refine if_neg ?_
  obtain hjob | hfinished := hclosed
  · simp [hjob]
  · simp [hfinished]

end

/-- Settles O54 (log entries 5, 19, 108 and 156): each clause is a branch of the computation's end or of the register's write. -/
theorem sealEngineComputesAndChecksItself : Obligations.SealEngineComputesAndChecksItself := by
  refine ⟨fun _ agree stored => effect_sealComputationDone agree stored, ?value, ?check, ?again, ?dropped, ?stillOpen, ?idle,
    fun _ v => effect_seaJobGo v, ?goes, ?goesBusy, fun _ v => effect_seaDataWrite v, ?data, ?dataIgnored, fun _ v => effect_seaJobFinish v,
    ?finishes, ?finishesIdle⟩
  case value =>
    rintro d _ stored x hcur rfl hcls hlive
    exact (effect_sealComputationDone true stored hlive).of_eq
      ((Dev.compDone_agreed hcur (by simp [hcls])).trans (Dev.deliverComp_value hcls))
  case check =>
    rintro d _ stored x hcur rfl hcls hlive
    exact (effect_sealComputationDone true stored hlive).of_eq
      ((Dev.compDone_agreed hcur (by simp [hcls])).trans (Dev.deliverComp_check hcls))
  case again =>
    rintro d _ stored x e he hcur rfl hcls hfirst hlive
    exact (effect_sealComputationDone false stored hlive).of_eq (Dev.compDone_again he hcur hcls hfirst)
  case dropped =>
    rintro d _ stored x e he hcur rfl hcls hsecond hlive
    exact (effect_sealComputationDone false stored hlive).of_eq (Dev.compDone_dropped he hcur hcls hsecond)
  case stillOpen =>
    intro d agree stored x hcur hcls hopen hlive
    exact (effect_sealComputationDone agree stored hlive).of_eq (Dev.compDone_open hcur hcls hopen)
  case idle =>
    intro d agree stored hcur hlive
    exact (effect_sealComputationDone agree stored hlive).of_eq (Dev.compDone_none hcur)
  case goes =>
    intro d v e he hv hidle hidle' hstop
    exact (effect_seaJobGo v hstop).of_eq ((Dev.jobWrite_go he hv).trans (if_neg (by simp [hidle'])))
  case goesBusy =>
    intro d v e he hv hbusy hbusy' hstop
    exact (effect_seaJobGo v hstop).of_eq ((Dev.jobWrite_go he hv).trans (if_pos hbusy'))
  case data =>
    intro d v hjob hopen hstop
    exact (effect_seaDataWrite v hstop).of_eq (Dev.seaData_taken hjob hopen)
  case dataIgnored =>
    intro d v hclosed hstop
    exact (effect_seaDataWrite v hstop).of_eq (Dev.seaData_ignored hclosed)
  case finishes =>
    intro d v e he hv hjob hopen hstop
    exact (effect_seaJobFinish v hstop).of_eq ((Dev.jobWrite_finish he hv).trans (if_neg (by simp [hjob, hopen])))
  case finishesIdle =>
    intro d v e he hv hidle hstop
    exact (effect_seaJobFinish v hstop).of_eq ((Dev.jobWrite_finish he hv).trans (if_pos (by simp [hidle])))

end Sys2Proof.Machine
end

section
/-! SUPPORT. Physical presence, the seal loop and the JTAG port (18 R753 to R762; 21 R866); from them the statement on them. -/

namespace Sys2Proof.Machine

/-! ### The effect of each command: always-on, by CORE, or by the Tally's island (02 R72) -/

section
variable (d : Dev)

theorem effect_presSample (low : Bool) : Effect (.presSample low) d (if !d.mod.porstHigh then d else (d.msTick).presSample low) := fun _ => rfl

theorem effect_presenceExpire : Effect .presenceExpire d (d.presenceEnds 0) := fun _ => rfl

theorem effect_prsRevokeWrite {d : Dev} (hstop : d.clk.stopped = false) : Effect .prsRevokeWrite d (d.presenceEnds 1) :=
  effect_core (f := fun d => d.presenceEnds 1) hstop (fun _ => rfl) rfl

theorem effect_sealLoopSample (b : Bool) : Effect (.sealLoopSample b) d (if d.mod.porstHigh then d.sealSample b else d) := fun _ => rfl

theorem effect_sealEntryAppend {d : Dev} (how : AppendEnd) (hlive : d.live 0x11 = true) :
    Effect (.sealEntryAppend how) d (if !d.powered 1 || d.harvesting then d else d.talPendingOne how) :=
  effect_island (f := fun d => if !d.powered 1 || d.harvesting then d else d.talPendingOne how) hlive (fun _ => rfl) rfl

theorem effect_jtagBypass : Effect .jtagBypass d { d with pins := { d.pins with ir := 0xFF, dr := 0 } } := fun _ => rfl

theorem effect_jtagIdcode : Effect .jtagIdcode d { d with pins := { d.pins with ir := 1, dr := 0x08420547 } } := fun _ => rfl

theorem effect_jtagTapReset : Effect .jtagTapReset d { d with pins := { d.pins with ir := 1, dr := 0x08420547 } } := fun _ => rfl

theorem effect_jtagSamplePreload (pattern : Nat) : Effect (.jtagSamplePreload pattern) d (d.jtagSamplePreloadAct pattern) := fun _ => rfl

theorem effect_jtagExtest (pattern : Nat) : Effect (.jtagExtest pattern) d (d.jtagExtestAct pattern) := fun _ => rfl

theorem effect_jtagDbg : Effect .jtagDbg d (d.gatedIr (fun d => d.captureIr jtagDbg)) := fun _ => rfl

theorem effect_jtagOtpprog (digest : BitVec 512) : Effect (.jtagOtpprog digest) d (d.jtagOtpprogAct digest) := fun _ => rfl

end

/-! ### Presence (R753 to R755) -/

section
variable {d m n : Dev}

/-- A low sample without presence that brings HOLD_MS to 2,000 begins presence. -/
theorem Dev.presSample_begins (hn : n = (m.put F.PRS_STAT_JUMPER 1).put F.PRS_HOLD_MS 2000) (hhold : m.get F.PRS_HOLD_MS = 1999)
    (habsent : m.on F.PRS_STAT_PRESENT = false) (harmed : m.on F.PRS_STAT_REARM_WAIT = false) :
    m.presSample true = ({ n with prs := { n.prs with highRun := 0 } } : Dev).presenceBegins := by
  have hjumper : (m.flag F.PRS_STAT_JUMPER true).get F.PRS_HOLD_MS = 1999 := (Dev.get_put_other m 1 (by decide)).trans hhold
  have hn' : n = (m.flag F.PRS_STAT_JUMPER true).put F.PRS_HOLD_MS 2000 := hn
  have hget : n.get F.PRS_HOLD_MS = 2000 := by rw [hn, Dev.get_put_self]; rfl
  have hpresent : n.on F.PRS_STAT_PRESENT = false := by
    rw [hn, Dev.on_put_ne _ _ (by decide), Dev.on_put_ne _ _ (by decide), habsent]
  have hrearm : n.on F.PRS_STAT_REARM_WAIT = false := by
    rw [hn, Dev.on_put_ne _ _ (by decide), Dev.on_put_ne _ _ (by decide), harmed]
  have hframe : ∀ (f : Field), ({ n with prs := { n.prs with highRun := 0 } } : Dev).on f = n.on f := fun _ => rfl
  have hframe' : ({ n with prs := { n.prs with highRun := 0 } } : Dev).get F.PRS_HOLD_MS = n.get F.PRS_HOLD_MS := rfl
  simp only [Dev.presSample, hjumper, if_true, Bool.false_eq_true, if_false, show min 65535 (1999 + 1) = 2000 from rfl, ← hn', hframe, hframe', hpresent, hrearm, Bool.false_and, hget]
  rfl

/-- A high sample without presence clears HOLD_MS. -/
theorem Dev.presSample_high (hn : n = (m.put F.PRS_STAT_JUMPER 0).put F.PRS_HOLD_MS 0) (habsent : m.on F.PRS_STAT_PRESENT = false)
    (harmed : m.on F.PRS_STAT_REARM_WAIT = false) :
    m.presSample false = { n with prs := { n.prs with highRun := min 100 (n.prs.highRun + 1) } } := by
  have hn' : n = (m.flag F.PRS_STAT_JUMPER false).put F.PRS_HOLD_MS 0 := hn
  have hget : n.get F.PRS_HOLD_MS = 0 := by rw [hn, Dev.get_put_self]; rfl
  have hpresent : n.on F.PRS_STAT_PRESENT = false := by
    rw [hn, Dev.on_put_ne _ _ (by decide), Dev.on_put_ne _ _ (by decide), habsent]
  have hrearm : n.on F.PRS_STAT_REARM_WAIT = false := by
    rw [hn, Dev.on_put_ne _ _ (by decide), Dev.on_put_ne _ _ (by decide), harmed]
  have hframe : ∀ (f : Field) (k : Nat), ({ n with prs := { n.prs with highRun := k } } : Dev).on f = n.on f := fun _ _ => rfl
  have hframe' : ∀ k : Nat, ({ n with prs := { n.prs with highRun := k } } : Dev).get F.PRS_HOLD_MS = n.get F.PRS_HOLD_MS := fun _ => rfl
  simp only [Dev.presSample, Bool.false_eq_true, if_false, ← hn', hframe, hframe', hpresent, hrearm, Bool.false_and, hget]
  rfl

theorem Dev.presenceEnds_present {cause : Nat} (hn : n = ((d.put F.PRS_STAT_PRESENT 0).put F.PRS_STAT_REMAIN_S 0).put F.PRS_STAT_REARM_WAIT 1)
    (hpresent : d.on F.PRS_STAT_PRESENT = true) :
    d.presenceEnds cause =
      (({ n with prs := { n.prs with msLeft := 0, highRun := 0 } } : Dev).put F.PRS_INT_STAT_ENDED 1).post 0x5003 [cause] := by
  subst hn
  exact if_neg (by simp [hpresent])

theorem Dev.presenceEnds_absent {cause : Nat} (habsent : d.on F.PRS_STAT_PRESENT = false) : d.presenceEnds cause = d := if_pos (by simp [habsent])

/-- The fourth difference in a row finds the loop open. -/
theorem Dev.sealSample_opens {b : Bool} {e : Dev}
    (he : e = { d with
      pins := { d.pins with sealA := d.prs.lfsr % 2 == 1 }
      prs := { d.prs with lfsr := lfsrNext d.prs.lfsr, differ := 4, same := 0 } })
    (hfitted : d.on F.PRS_STAT_LOOP_FITTED = true) (hdiffers : b ≠ (d.prs.lfsr % 2 == 1)) (hthree : d.prs.differ = 3) :
    d.sealSample b = (e.inc F.PRS_LOOP_MISMATCH).loopChanged true := by
  have hunequal : ((d.prs.lfsr % 2 == 1) == b) = false := by simpa using hdiffers.symm
  subst he
  simp only [Dev.sealSample, hfitted, hunequal, hthree]
  rfl

theorem Dev.sealSample_unfitted {b : Bool} (hunfitted : d.on F.PRS_STAT_LOOP_FITTED = false) :
    d.sealSample b = { d with pins := { d.pins with sealA := false } } :=
  if_pos (by simp [hunfitted])

/-! ### The oldest seal entry (R736, R762) -/

theorem Dev.talPendingOne_none {how : AppendEnd} (hpending : d.tal.pending = []) : d.talPendingOne how = d := by
  simp [Dev.talPendingOne, hpending]

/-- An entry appended leaves the pending ones. -/
theorem Dev.talPendingOne_appends {x : Nat} {l : List (Bool × Nat)} {r : Dev} (hr : r = (d.talAppend kindOpened (leBytes 8 x) .good).1)
    (hpending : d.tal.pending = (true, x) :: l) : d.talPendingOne .good = { r with tal := { r.tal with pending := l } } := by
  subst hr
  simp [Dev.talPendingOne, hpending, Dev.talAppend_good]

theorem Dev.talPendingOne_fails {x : Nat} {l : List (Bool × Nat)} (hpending : d.tal.pending = (false, x) :: l) :
    d.talPendingOne .failed = d.post 0x5013 [kindClosed, d.get F.TAL_INDEX_VALUE] := by
  simp [Dev.talPendingOne, hpending, Dev.talAppend_failed]

/-! ### The JTAG port (R759) -/

theorem Dev.gatedIr_debug {f : Dev → Dev} (hdebug : d.on F.TAL_STAT_DEBUG = true) : d.gatedIr f = f d := if_pos hdebug

theorem Dev.gatedIr_locked {f : Dev → Dev} (hlocked : d.on F.TAL_STAT_DEBUG = false) : d.gatedIr f = d.bypass := if_neg (by simp [hlocked])

theorem Dev.jtagOtpprogAct_present {g : BitVec 512} {e : Dev} (he : e = d.putDigest F.TAL_ROOT_BYTES (leBytes 64 g.toNat))
    (hopen : d.on F.TAL_STAT_ROOT_LOCK = false) (hpresent : d.on F.PRS_STAT_PRESENT = true) :
    d.jtagOtpprogAct g = (((({ e with pins := { e.pins with ir := 0x20, dr := 0 } } : Dev).put F.TAL_STAT_ROOT_LOCK 1).put
      F.TAL_SVN_FLOOR_FLOOR 0).put F.TAL_INDEX_VALUE 0).put F.PRS_COUNT_OPENINGS 0 := by
  subst he
  exact if_neg (by simp [hopen, hpresent])

theorem Dev.jtagOtpprogAct_locked {g : BitVec 512} (hlocked : d.on F.TAL_STAT_ROOT_LOCK = true) : d.jtagOtpprogAct g = d.bypass :=
  if_pos (by simp [hlocked])

end

/-- Settles O55 (log entries 19, 42, 43, 44 and 105): each clause is a branch of the sample, of the append or of the instruction. -/
theorem presenceLoopAndJtag : Obligations.PresenceLoopAndJtag := by
  refine ⟨effect_presSample, ?sampleReset, ?begins, ?high, effect_presenceExpire, ?expires, ?expiresNot, fun _ => effect_prsRevokeWrite,
    ?revokes, effect_sealLoopSample, ?opens, ?unfitted, fun _ how => effect_sealEntryAppend how, ?noEntry, ?entry, ?entryFails,
    effect_jtagBypass, effect_jtagIdcode, effect_jtagTapReset, effect_jtagSamplePreload, ?sampleLocked, ?sample, effect_jtagExtest,
    ?extest, ?extestLocked, effect_jtagDbg, ?dbg, effect_jtagOtpprog, ?otpprog, ?otpprogLocked⟩
  case sampleReset =>
    intro d low hreset
    exact (effect_presSample d low).of_eq (if_pos (by simp [hreset]))
  case begins =>
    rintro d _ m n rfl hn hhigh rfl hhold habsent harmed
    exact (effect_presSample d true).of_eq ((if_neg (by simp [hhigh])).trans (Dev.presSample_begins hn hhold habsent harmed))
  case high =>
    rintro d _ m n rfl hn hhigh rfl habsent harmed
    exact (effect_presSample d false).of_eq ((if_neg (by simp [hhigh])).trans (Dev.presSample_high hn habsent harmed))
  case expires =>
    intro d e he hpresent
    exact (effect_presenceExpire d).of_eq (Dev.presenceEnds_present he hpresent)
  case expiresNot =>
    intro d habsent
    exact (effect_presenceExpire d).of_eq (Dev.presenceEnds_absent habsent)
  case revokes =>
    intro d e he hpresent hstop
    exact (effect_prsRevokeWrite hstop).of_eq (Dev.presenceEnds_present he hpresent)
  case opens =>
    intro d b e he hhigh hfitted hdiffers hthree
    exact (effect_sealLoopSample d b).of_eq ((if_pos hhigh).trans (Dev.sealSample_opens he hfitted hdiffers hthree))
  case unfitted =>
    intro d b hhigh hunfitted
    exact (effect_sealLoopSample d b).of_eq ((if_pos hhigh).trans (Dev.sealSample_unfitted hunfitted))
  case noEntry =>
    intro d how hpending hlive
    exact (effect_sealEntryAppend how hlive).of_eq (by rw [Dev.talPendingOne_none hpending, ite_self])
  case entry =>
    rintro d _ x l r hr hpending hpower hcalm rfl hlive
    exact (effect_sealEntryAppend .good hlive).of_eq ((if_neg (by simp [hpower, hcalm])).trans (Dev.talPendingOne_appends hr hpending))
  case entryFails =>
    rintro d _ x l hpending hpower hcalm rfl hlive
    exact (effect_sealEntryAppend .failed hlive).of_eq ((if_neg (by simp [hpower, hcalm])).trans (Dev.talPendingOne_fails hpending))
  case sampleLocked =>
    intro d p hlocked
    exact (effect_jtagSamplePreload d p).of_eq (Dev.gatedIr_locked hlocked)
  case sample =>
    intro d p hdebug
    exact (effect_jtagSamplePreload d p).of_eq (Dev.gatedIr_debug hdebug)
  case extest =>
    intro d p hdebug hmode
    refine (effect_jtagExtest d p).of_eq ((Dev.gatedIr_debug hdebug).trans ?_)
    rw [if_pos hmode]
    rfl
  case extestLocked =>
    intro d p hlocked
    exact (effect_jtagExtest d p).of_eq (Dev.gatedIr_locked hlocked)
  case dbg =>
    intro d hdebug
    exact (effect_jtagDbg d).of_eq (Dev.gatedIr_debug hdebug)
  case otpprog =>
    intro d g e he hopen hpresent
    exact (effect_jtagOtpprog d g).of_eq (Dev.jtagOtpprogAct_present he hopen hpresent)
  case otpprogLocked =>
    intro d g hlocked
    exact (effect_jtagOtpprog d g).of_eq (Dev.jtagOtpprogAct_locked hlocked)

end Sys2Proof.Machine
end

section
/-! SUPPORT. The Watch and the Day-Book (spec/19): events reported, taken and discarded, core watchdogs, register faults, freezes, commits, the
window and the seconds; from them the statements on them. -/

namespace Sys2Proof.Machine

/-! ### The effect of each command: always-on, or by CORE -/

section
variable (d : Dev)

theorem effect_eventReport (code : BitVec 16) (p0 p1 p2 p3 : BitVec 32) :
    Effect (.eventReport code p0 p1 p2 p3) d (d.eventReportAct code p0 p1 p2 p3) := fun _ => rfl

theorem effect_watchTake : Effect .watchTake d d.watchTake := fun _ => rfl

theorem effect_discardReport : Effect .discardReport d d.discardReportAct := fun _ => rfl

theorem effect_faultnPulseEnd : Effect .faultnPulseEnd d (d.put F.WAT_STAT_PULSE 0) := fun _ => rfl

theorem effect_watchRegFault (off byte : BitVec 32) : Effect (.watchRegFault off byte) d (d.watchRegFaultAct off byte) := fun _ => rfl

theorem effect_coreWatchdogExpire (n : Fin 4) :
    Effect (.coreWatchdogExpire n) d (if at' d.wat.armed n.val false then d.coreFence n.val 0 else d) := fun _ => rfl

theorem effect_freezeExpire : Effect .freezeExpire d (if d.on F.DBK_STAT_FROZEN then d.endFreeze true else d) := fun _ => rfl

theorem effect_daybookCommit (ok : Bool) : Effect (.daybookCommit ok) d (if d.on F.DBK_STAT_FROZEN then d else d.commitStaged ok) :=
  fun _ => rfl

theorem effect_repeatCommit (ok : Bool) : Effect (.repeatCommit ok) d (d.repeatCommitAct ok) := fun _ => rfl

theorem effect_tokenRefill : Effect .tokenRefill d d.refill := fun _ => rfl

theorem effect_dbkWindowRefilled (readable : Bool) : Effect (.dbkWindowRefilled readable) d (d.dbkWindowRefilledAct readable) := fun _ => rfl

theorem effect_opsecTick : Effect .opsecTick d d.opsecTickAct := fun _ => rfl

theorem effect_opsecCommit : Effect .opsecCommit d { d with dbk := { d.dbk with opsecNv := d.get F.DBK_OPSEC_SECONDS } } := fun _ => rfl

end

section
variable {d : Dev} (hstop : d.clk.stopped = false)
include hstop

theorem effect_watForceSafe : Effect .watForceSafe d d.forceSafe := effect_core hstop (fun _ => rfl) rfl

theorem effect_watKickWrite (n : Fin 4) : Effect (.watKickWrite n) d (d.watWrite (fun d => d.kick n.val)) :=
  effect_core (f := fun d => d.watWrite (fun d => d.kick n.val)) hstop (fun _ => rfl) rfl

theorem effect_watFaultnWrite (level : Bool) : Effect (.watFaultnWrite level) d (d.faultnWrite level) :=
  effect_core (f := fun d => d.faultnWrite level) hstop (fun _ => rfl) rfl

theorem effect_dbkFreezeWrite : Effect .dbkFreezeWrite d d.startFreeze := effect_core hstop (fun _ => rfl) rfl

theorem effect_dbkThawWrite : Effect .dbkThawWrite d (d.endFreeze false) :=
  effect_core (f := fun d => d.endFreeze false) hstop (fun _ => rfl) rfl

theorem effect_dbkCursorWrite (v : BitVec 48) : Effect (.dbkCursorWrite v) d (d.writeCursor v.toNat) :=
  effect_core (f := fun d => d.writeCursor v.toNat) hstop (fun _ => rfl) rfl

theorem effect_dbkNextWrite : Effect .dbkNextWrite d d.nextRecord := effect_core hstop (fun _ => rfl) rfl

end

/-! ### Events reported and taken (R769 to R773) -/

/-- The twenty ports with nothing in them. -/
def emptyPorts : List Port := List.replicate 20 {}

theorem at'_replicate {α : Type} (n m : Nat) (a : α) : at' (List.replicate n a) m a = a := by
  by_cases hm : m < n
  · simp [at', hm]
  · simp [at', hm]

/-- The ports with one thing in one of them: that port, or an empty one. -/
theorem at'_emptyPorts_set {n : Nat} (p : Port) (hn : n < 20) (m : Nat) : at' (emptyPorts.set n p) m {} = if m = n then p else {} := by
  split
  case isTrue h => rw [h, at'_set_self _ _ (by simpa [emptyPorts] using hn)]
  case isFalse h =>
    rw [at'_set_ne _ _ _ h]
    exact at'_replicate 20 m _

theorem emptyPorts_set_empty {n : Nat} (p : Port) : (emptyPorts.set n p).set n {} = emptyPorts := by
  rw [List.set_set, emptyPorts, List.set_replicate_self]

section
variable {d : Dev}

theorem Dev.eventReportAct_posts {code : BitVec 16} {p0 p1 p2 p3 : BitVec 32}
    (hport : [0x0103, 0x0104, 0x0105, 0x0106, 0x6003].contains code.toNat = false)
    (hruns : d.clk.stopped = false ∨ aonReporter code.toNat = true) :
    d.eventReportAct code p0 p1 p2 p3 = d.post code.toNat [p0.toNat, p1.toNat, p2.toNat, p3.toNat] := by
  have hreports : (d.clk.stopped && !aonReporter code.toNat) = false := by
    obtain hruns | haon := hruns
    · simp [hruns]
    · simp [haon]
  simp only [Dev.eventReportAct, hreports, hport, Bool.false_eq_true, if_false]

theorem Dev.eventReportAct_stopped {code : BitVec 16} {p0 p1 p2 p3 : BitVec 32} (hstop : d.clk.stopped = true)
    (hisland : aonReporter code.toNat = false) : d.eventReportAct code p0 p1 p2 p3 = d :=
  if_pos (by simp [hstop, hisland])

theorem portTake_empty (sev : Nat) : portTake {} sev = none := by simp [portTake]

/-- A port with one ordinary event of severity 0 gives it at that severity alone. -/
theorem portTake_one {e : Event} (hsev : Events.severity e.code = some 0) (sev : Nat) :
    portTake { ordinary := [e] } sev = if sev = 0 then some (e, 0, {}) else none := by
  unfold portTake
  split_ifs with hfault hzero hzero
  · omega
  · simp
  · simp [hsev, hzero]
  · simp [hsev, Ne.symm hzero]

/-- The round robin comes to every port. -/
theorem findSome?_only {α β : Type} [DecidableEq α] {l : List α} {f : α → Option β} {a : α} {b : β} (hmem : a ∈ l) (hhit : f a = some b)
    (hmiss : ∀ x ∈ l, x ≠ a → f x = none) : l.findSome? f = some b := by
  induction l with
  | nil => simp at hmem
  | cons x l ih =>
    by_cases hx : x = a
    · simp [hx, hhit]
    · rw [List.findSome?_cons, hmiss x List.mem_cons_self hx]
      exact ih ((List.mem_cons.mp hmem).resolve_left (Ne.symm hx)) fun y hy => hmiss y (List.mem_cons_of_mem x hy)

theorem mem_roundRobin (served : Nat) {n : Nat} (hn : n < 20) : n ∈ (List.range 20).map (fun i => (served + 1 + i) % 20) := by
  refine List.mem_map.mpr ⟨(n + 20 - (served + 1) % 20) % 20, List.mem_range.mpr (Nat.mod_lt _ (by decide)), ?_⟩
  omega

/-- The one event that waits is taken, from whichever port holds it. -/
theorem Dev.watchTake_one {n : Nat} {e : Event} (hn : n < 20) (hports : d.wat.ports = emptyPorts.set n { ordinary := [e] })
    (hsev : Events.severity e.code = some 0) :
    d.watchTake = ({ d with wat := { d.wat with ports := d.wat.ports.set n {}, served := n } } : Dev).stage e 0 := by
  have htake : ∀ m sev : Nat, (if d.portBlocked (at' d.wat.ports m {}) then none else (portTake (at' d.wat.ports m {}) sev).map (fun x => (m, x))) =
      if m = n ∧ sev = 0 then some (n, e, 0, {}) else none := by
    intro m sev
    have hopen : d.portBlocked (at' d.wat.ports m {}) = false := by
      rw [hports, at'_emptyPorts_set _ hn]
      split_ifs
      · rfl
      · rfl
    rw [hopen, hports, at'_emptyPorts_set _ hn]
    by_cases hm : m = n
    · by_cases hs : sev = 0
      · simp [hm, hs, portTake_one hsev]
      · simp [hm, hs, portTake_one hsev]
    · simp [hm, portTake_empty]
  have hround : ∀ sev : Nat, ((List.range 20).map (fun i => (d.wat.served + 1 + i) % 20)).findSome? (fun m =>
      if m = n ∧ sev = 0 then some (n, e, 0, ({} : Port)) else none) = if sev = 0 then some (n, e, 0, {}) else none := by
    intro sev
    by_cases hs : sev = 0
    · rw [if_pos hs]
      exact findSome?_only (mem_roundRobin d.wat.served hn) (by simp [hs]) fun m _ hm => by simp [hm]
    · simp [hs]
  have hhit : [4, 3, 2, 1, 0].findSome? (fun sev => if sev = 0 then some (n, e, 0, ({} : Port)) else none) = some (n, e, 0, {}) := rfl
  unfold Dev.watchTake
  simp only [htake, hround, hhit]
  simp [Dev.taken, hsev]

/-- DISCARD_REPORT's part for one port. -/
def Dev.discardPort (d : Dev) (n : Nat) : Dev :=
  if (at' d.wat.ports n {}).dropped = 0 then d
  else ({ d with wat := { d.wat with ports := d.wat.ports.set n { (at' d.wat.ports n {}) with dropped := 0 } } } : Dev).post 0x6007
    [n, (at' d.wat.ports n {}).dropped]

theorem Dev.discardReportAct_eq (d : Dev) : d.discardReportAct = d.each (List.range 20) Dev.discardPort := rfl

/-- The report of a discard leaves no port with events discarded. -/
theorem Dev.post_discard_ports {ps : List Nat} (hports : d.wat.ports = emptyPorts) :
    (d.post 0x6007 ps).wat.ports = emptyPorts.set 17 { ordinary := [mkEvent 0x6007 ps] } := by
  have hsev : Events.severity 0x6007 = some 1 := by decide
  simp only [Dev.post, hsev, hports]
  rfl

/-- A port below twenty parts the twenty in those before it and those after it. -/
theorem range_twenty_split : ∀ n : Fin 20, List.range 20 = List.range n ++ n.val :: List.range' (n + 1) (19 - n) := by decide

/-- The one port with events discarded reports their number. -/
theorem Dev.discardReportAct_one {n : Fin 20} {k : Nat} (hports : d.wat.ports = emptyPorts.set n.val { dropped := k + 1 }) :
    d.discardReportAct = ({ d with wat := { d.wat with ports := emptyPorts } } : Dev).post 0x6007 [n.val, k + 1] := by
  have hbefore : (List.range n).foldl Dev.discardPort d = d := foldl_fixed_mem fun m hm => if_pos (by
    rw [hports, at'_emptyPorts_set _ n.isLt, if_neg (List.mem_range.mp hm).ne])
  have hhere : d.discardPort n = ({ d with wat := { d.wat with ports := emptyPorts } } : Dev).post 0x6007 [n.val, k + 1] := by
    have hcount : at' d.wat.ports n.val {} = { dropped := k + 1 } := by rw [hports, at'_emptyPorts_set _ n.isLt, if_pos rfl]
    unfold Dev.discardPort
    rw [hcount, hports, emptyPorts_set_empty]
    rfl
  have hafter : ∀ l : List Nat, l.foldl Dev.discardPort (({ d with wat := { d.wat with ports := emptyPorts } } : Dev).post 0x6007 [n.val, k + 1]) =
      ({ d with wat := { d.wat with ports := emptyPorts } } : Dev).post 0x6007 [n.val, k + 1] := fun l =>
    foldl_fixed_mem fun m _ => if_pos (by
      rw [Dev.post_discard_ports rfl, at'_emptyPorts_set _ (by decide)]
      split_ifs
      · rfl
      · rfl)
  rw [Dev.discardReportAct_eq, Dev.each, range_twenty_split n, List.foldl_append, hbefore, List.foldl_cons, hhere, hafter]

end

/-! ### The Watch's registers, core watchdogs and register faults (R778 to R789) -/

section
variable {d : Dev}

theorem Dev.watWrite_takes {f : Dev → Dev} (hgood : d.on F.WAT_STAT_REG_FAULT = false) : d.watWrite f = f d := if_neg (by simp [hgood])

theorem Dev.watWrite_ignored {f : Dev → Dev} (hfault : d.on F.WAT_STAT_REG_FAULT = true) : d.watWrite f = d := if_pos hfault

theorem Dev.kick_arms {n : Nat} (hunfenced : d.bit F.WAT_CORES_FENCED n = false) (hdone : d.get F.CFG_STAT_PHASE = 5) :
    d.kick n = { d with wat := { d.wat with armed := d.wat.armed.set n true } } :=
  if_neg (by simp [hunfenced, hdone])

theorem Dev.faultnWrite_takes {b : Bool} (hgood : d.on F.WAT_STAT_REG_FAULT = false) :
    d.faultnWrite b = { d.flag F.WAT_FAULTN_LEVEL b with wat := { d.wat with driven := d.wat.driven || !b } } := by
  refine (Dev.watWrite_takes hgood).trans ?_
  cases b with
  | true => simp only [Bool.not_true, Bool.or_false, if_true]; rfl
  | false => simp only [Bool.not_false, Bool.or_true, Bool.false_eq_true, if_false]; rfl

/-- Outside a Harvest and SAFE, with no decision due, a register fault makes the SAFE decision due. -/
theorem Dev.watchRegFaultAct_due {off byte : BitVec 32} {e : Dev}
    (he : e = (d.put F.WAT_STAT_REG_FAULT 1).stageDirect 0x6003 [off.toNat, byte.toNat]) (hcalm : e.harvesting = false)
    (hsafe : e.on F.WAT_STAT_SAFE = false) (hdue : e.wat.safeDue = none) :
    d.watchRegFaultAct off byte = { e with wat := { e.wat with driven := true, safeDue := some (0x6003, 0) } } := by
  unfold Dev.watchRegFaultAct
  rw [← he]
  simp [hcalm, hsafe, hdue]

theorem Dev.coreFence_unfenced {n cause : Nat} (hunfenced : d.bit F.WAT_CORES_FENCED n = false) :
    d.coreFence n cause =
      let e : Dev := { ((d.setBit F.WAT_CORES_FENCED n true).put F.WAT_INT_STAT_CORE 1) with
        wat := { d.wat with armed := d.wat.armed.set n false }
        bus := { d.bus with resv := d.bus.resv.set n none, cores := d.bus.cores.set n {} } }
      let left := 4 - popCount 4 (e.get F.WAT_CORES_FENCED)
      let e := e.post 0x6005 [n, cause, left]
      if left < 3 then e.post 0x6006 [e.get F.WAT_CORES_FENCED] else e :=
  if_neg (by simp [hunfenced])

end

/-- Settles O56 (log entries 19, 103 and 157): each clause is a branch of the command's operation. -/
theorem watchTakesEventsAndWrites : Obligations.WatchTakesEventsAndWrites := by
  refine ⟨effect_eventReport, ?reports, ?reportsStopped, effect_watchTake, ?takes, effect_discardReport, ?discards, effect_faultnPulseEnd,
    fun _ => effect_watForceSafe, ?forces, ?forcesFaulted, fun _ n hstop => effect_watKickWrite hstop n, ?kicks,
    fun _ level hstop => effect_watFaultnWrite hstop level, ?drives, effect_watchRegFault, ?faults, effect_coreWatchdogExpire, ?fences,
    ?unarmed⟩
  case reports =>
    intro d code p0 p1 p2 p3 hport hruns
    exact (effect_eventReport d code p0 p1 p2 p3).of_eq (Dev.eventReportAct_posts hport hruns)
  case reportsStopped =>
    intro d code p0 p1 p2 p3 hstop hisland
    exact (effect_eventReport d code p0 p1 p2 p3).of_eq (Dev.eventReportAct_stopped hstop hisland)
  case takes =>
    intro d n e hports hsev _
    exact (effect_watchTake d).of_eq (Dev.watchTake_one n.isLt hports hsev)
  case discards =>
    intro d n k hports
    exact (effect_discardReport d).of_eq (Dev.discardReportAct_one hports)
  case forces =>
    intro d hgood hstop
    exact (effect_watForceSafe hstop).of_eq (Dev.watWrite_takes hgood)
  case forcesFaulted =>
    intro d hfault hstop
    exact (effect_watForceSafe hstop).of_eq (Dev.watWrite_ignored hfault)
  case kicks =>
    intro d n hgood hunfenced hdone hstop
    exact (effect_watKickWrite hstop n).of_eq ((Dev.watWrite_takes hgood).trans (Dev.kick_arms hunfenced hdone))
  case drives =>
    intro d b hgood hstop
    exact (effect_watFaultnWrite hstop b).of_eq (Dev.faultnWrite_takes hgood)
  case faults =>
    intro d off byte hcalm hsafe hdue
    exact (effect_watchRegFault d off byte).of_eq (Dev.watchRegFaultAct_due rfl hcalm hsafe hdue)
  case fences =>
    intro d n harmed hunfenced
    exact (effect_coreWatchdogExpire d n).of_eq ((if_pos harmed).trans (Dev.coreFence_unfenced hunfenced))
  case unarmed =>
    intro d n hidle
    exact (effect_coreWatchdogExpire d n).of_eq (if_neg (by simp [hidle]))

/-! ### The Day-Book (R793 to R807) -/

section
variable {d : Dev}

theorem Dev.startFreeze_thawed (hthawed : d.on F.DBK_STAT_FROZEN = false) :
    d.startFreeze = (((((d.put F.DBK_STAT_FROZEN 1).put F.DBK_CTRL_FREEZE 1).put F.DBK_FROZEN_SEV01 0).put F.DBK_FROZEN_SEV2 0).put
      F.DBK_FROZEN_SEV3 0).put F.DBK_FROZEN_SEV4 0 :=
  if_neg (by simp [hthawed])

/-- A device with a freeze's registers cleared, which ends the freeze with nothing staged: the counts of events missed are recorded where one is not
zero. -/
theorem Dev.endFreeze_unstaged {timed : Bool} {e : Dev} {l : List Nat}
    (he : e = ((d.put F.DBK_STAT_FROZEN 0).put F.DBK_CTRL_FREEZE 0).when timed (fun d => d.put F.DBK_INT_STAT_FREEZE_END 1))
    (hl : l = [d.get F.DBK_FROZEN_SEV01, d.get F.DBK_FROZEN_SEV2, d.get F.DBK_FROZEN_SEV3, d.get F.DBK_FROZEN_SEV4])
    (hfrozen : d.on F.DBK_STAT_FROZEN = true) (hstaged : d.dbk.staged = []) :
    d.endFreeze timed = if l.all (fun x => x == 0) then e else e.post 0x6102 l := by
  have hget : ∀ f : Field, F.DBK_STAT_FROZEN.key ≠ f.key → F.DBK_CTRL_FREEZE.key ≠ f.key → F.DBK_INT_STAT_FREEZE_END.key ≠ f.key →
      e.get f = d.get f := by
    intro f hstat hctrl hend
    have hbase : ((d.put F.DBK_STAT_FROZEN 0).put F.DBK_CTRL_FREEZE 0).get f = d.get f := by
      rw [Dev.get_put_other _ _ hctrl, Dev.get_put_other _ _ hstat]
    rw [he, ← hbase]
    exact Dev.when_keeps (fun x => x.get f) timed _ _ (Dev.get_put_other _ _ hend)
  have hempty : e.dbk.staged = [] := by
    rw [he, ← hstaged]
    exact Dev.when_keeps (fun x => x.dbk.staged) timed _ _ rfl
  unfold Dev.endFreeze
  rw [if_neg (by simp [hfrozen]), ← he]
  simp only [hempty, List.length_nil, List.range_zero, Dev.each_nil]
  rw [hget _ (by decide) (by decide) (by decide), hget _ (by decide) (by decide) (by decide), hget _ (by decide) (by decide) (by decide),
    hget _ (by decide) (by decide) (by decide), ← hl]

theorem Dev.commitStaged_empty {ok : Bool} (hstaged : d.dbk.staged = []) : d.commitStaged ok = d := by simp [Dev.commitStaged, hstaged]

/-- A repeat of the newest record is gathered with it. -/
theorem Dev.commitStaged_repeat {ok : Bool} {x y : Rec} {l : List Rec} {n q : Nat} (hstaged : d.dbk.staged = x :: l)
    (htokens : d.get F.DBK_BUDGET_TOKENS ≠ 0) (hnewest : d.newestRow = some (n, q, y)) (hsame : y.event = x.event) :
    d.commitStaged ok = { d with dbk := { d.dbk with staged := l, gathered := d.dbk.gathered + 1 + x.rep } } := by
  simp [Dev.commitStaged, hstaged, htokens, hnewest, hsame]

/-- With no repeats gathered only the window follows. -/
theorem Dev.repeatCommitAct_none {ok : Bool} {y : Rec} {n q : Nat} (hthawed : d.on F.DBK_STAT_FROZEN = false)
    (hnewest : d.newestRow = some (n, q, y)) (hsev : 2 ≤ y.sev) (hgathered : d.dbk.gathered = 0) :
    d.repeatCommitAct ok = d.windowLive := by
  have hexempt : ¬y.sev < 2 := by omega
  simp [Dev.repeatCommitAct, Dev.commitRepeats, hthawed, hnewest, hexempt, hgathered]

theorem Dev.refill_full (hfilled : d.dbk.emptied = false) :
    d.refill = d.put F.DBK_BUDGET_TOKENS (min 32768 (d.get F.DBK_BUDGET_TOKENS + d.policy 0x6101 2000)) :=
  if_pos (by simp [hfilled])

theorem Dev.dbkWindowRefilledAct_readable (hbusy : d.on F.DBK_STAT_WIN_BUSY = true) :
    d.dbkWindowRefilledAct true = (d.put F.DBK_STAT_WIN_BUSY 0).showWindow :=
  if_neg (by simp [hbusy])

theorem Dev.dbkWindowRefilledAct_lost {n : Nat} (hbusy : d.on F.DBK_STAT_WIN_BUSY = true) (hrow : d.windowRow = some n) :
    d.dbkWindowRefilledAct false = ((d.rowUnreadable n).put F.DBK_STAT_WIN_BUSY 0).showWindow := by
  simp [Dev.dbkWindowRefilledAct, hbusy, hrow]

end

/-- Settles O57 (log entries 19, 104 and 157): each clause is a branch of the command's operation. -/
theorem dayBookFreezesAndCursor : Obligations.DayBookFreezesAndCursor := by
  refine ⟨fun _ => effect_dbkFreezeWrite, ?freezes, fun _ => effect_dbkThawWrite, ?thaws, effect_freezeExpire, ?expires,
    effect_daybookCommit, ?commitsNothing, ?commitsRepeat, effect_repeatCommit, ?repeatsNone, effect_tokenRefill, ?refills,
    fun _ v hstop => effect_dbkCursorWrite hstop v, fun _ => effect_dbkNextWrite, effect_dbkWindowRefilled, ?window, ?windowLost,
    effect_opsecTick, ?ticks, effect_opsecCommit⟩
  case freezes =>
    intro d hthawed hstop
    exact (effect_dbkFreezeWrite hstop).of_eq (Dev.startFreeze_thawed hthawed)
  case thaws =>
    intro d hfrozen hstaged hstop
    exact (effect_dbkThawWrite hstop).of_eq (Dev.endFreeze_unstaged rfl rfl hfrozen hstaged)
  case expires =>
    intro d hfrozen hstaged
    exact (effect_freezeExpire d).of_eq ((if_pos hfrozen).trans (Dev.endFreeze_unstaged rfl rfl hfrozen hstaged))
  case commitsNothing =>
    intro d ok hnothing
    refine (effect_daybookCommit d ok).of_eq ?_
    obtain hfrozen | hstaged := hnothing
    · exact if_pos hfrozen
    · rw [Dev.commitStaged_empty hstaged, ite_self]
  case commitsRepeat =>
    intro d ok x l n q y hthawed hstaged htokens hnewest hsame
    exact (effect_daybookCommit d ok).of_eq ((if_neg (by simp [hthawed])).trans (Dev.commitStaged_repeat hstaged htokens hnewest hsame))
  case repeatsNone =>
    intro d ok n q y hthawed hnewest hsev hgathered
    exact (effect_repeatCommit d ok).of_eq (Dev.repeatCommitAct_none hthawed hnewest hsev hgathered)
  case refills =>
    intro d hfilled
    exact (effect_tokenRefill d).of_eq (Dev.refill_full hfilled)
  case window =>
    rintro d _ hbusy rfl
    exact (effect_dbkWindowRefilled d true).of_eq (Dev.dbkWindowRefilledAct_readable hbusy)
  case windowLost =>
    rintro d _ n hbusy rfl hrow
    exact (effect_dbkWindowRefilled d false).of_eq (Dev.dbkWindowRefilledAct_lost hbusy hrow)
  case ticks =>
    intro d hhigh
    exact (effect_opsecTick d).of_eq (if_neg (by simp [hhigh]))

end Sys2Proof.Machine
end

section
/-! SUPPORT. The balls, the UART and the GPIO registers (spec/21), and the temperatures' samples (spec/20); from them the statements on them. -/

namespace Sys2Proof.Machine

/-! ### The effect of each command: by CORE, or by the balls' island or the sensors' (02 R72) -/

section
variable {d : Dev}

theorem effect_uartTxWrite (b : BitVec 8) (hstop : d.clk.stopped = false) : Effect (.uartTxWrite b) d (d.uartTx b.toNat) :=
  effect_core (f := fun d => d.uartTx b.toNat) hstop (fun _ => rfl) rfl

theorem effect_uartByteSent (hlive : d.live 0x17 = true) : Effect .uartByteSent d d.uartSent := effect_island hlive (fun _ => rfl) rfl

theorem effect_uartRxByte (b : BitVec 8) (stop : Bool) (hlive : d.live 0x17 = true) : Effect (.uartRxByte b stop) d (d.uartRx b.toNat stop) :=
  effect_island (f := fun d => d.uartRx b.toNat stop) hlive (fun _ => rfl) rfl

theorem effect_uartPopWrite (hstop : d.clk.stopped = false) : Effect .uartPopWrite d d.uartPop := effect_core hstop (fun _ => rfl) rfl

theorem effect_pioUartCfgWrite (v : BitVec 32) (hstop : d.clk.stopped = false) : Effect (.pioUartCfgWrite v) d (d.uartCfg v.toNat) :=
  effect_core (f := fun d => d.uartCfg v.toNat) hstop (fun _ => rfl) rfl

theorem effect_pioGpioFnWrite (v : BitVec 32) (hstop : d.clk.stopped = false) : Effect (.pioGpioFnWrite v) d (d.gpioFn v.toNat) :=
  effect_core (f := fun d => d.gpioFn v.toNat) hstop (fun _ => rfl) rfl

theorem effect_pioGpioPullWrite (v : BitVec 32) (hstop : d.clk.stopped = false) : Effect (.pioGpioPullWrite v) d (d.gpioPull v.toNat) :=
  effect_core (f := fun d => d.gpioPull v.toNat) hstop (fun _ => rfl) rfl

theorem effect_thermalSample (l : List Int) (hlive : d.live 0x16 = true) :
    Effect (.thermalSample l) d (if d.mod.porstHigh then d.thermalSample l else d) :=
  effect_island (f := fun d => if d.mod.porstHigh then d.thermalSample l else d) hlive (fun _ => rfl) rfl

theorem effect_enclosureSample (code : Fin 4096) (hlive : d.live 0x16 = true) :
    Effect (.enclosureSample code) d (if d.mod.porstHigh then d.enclosureSample code.val else d) :=
  effect_island (f := fun d => if d.mod.porstHigh then d.enclosureSample code.val else d) hlive (fun _ => rfl) rfl

theorem effect_stepStale (hstop : d.clk.stopped = false) :
    Effect .stepStale d ({ d with thm := { d.thm with stale := true } } : Dev).updateCeiling :=
  effect_core (f := fun d => ({ d with thm := { d.thm with stale := true } } : Dev).updateCeiling) hstop (fun _ => rfl) rfl

end

/-! ### The UART (R867 to R875) -/

section
variable {d : Dev} {b c : Nat} {l : List Nat}

theorem Dev.uartTx_queues (hroom : d.pins.tx.length < 64) :
    d.uartTx b = ({ d with pins := { d.pins with tx := d.pins.tx ++ [b] } } : Dev).put F.PIO_UART_STAT_TX_LEVEL (d.pins.tx.length + 1) := by
  rw [Dev.uartTx, if_neg (Nat.not_le.mpr hroom), Dev.setTx, List.length_append, List.length_singleton]

theorem Dev.uartTx_drops (hfull : 64 ≤ d.pins.tx.length) : d.uartTx b = (d.put F.PIO_UART_STAT_TX_DROP 1).put F.PIO_INT_STAT_ERR 1 :=
  if_pos hfull

theorem Dev.uartSent_more (htx : d.pins.tx = b :: c :: l) (hon : d.on F.PIO_UART_CFG_EN = true) :
    d.uartSent = ({ d with pins := { d.pins with tx := c :: l } } : Dev).put F.PIO_UART_STAT_TX_LEVEL (l.length + 1) := by
  simp only [Dev.uartSent, htx, hon]
  rfl

/-- The last byte sent empties the queue. -/
theorem Dev.uartSent_last (htx : d.pins.tx = [b]) (hon : d.on F.PIO_UART_CFG_EN = true) :
    d.uartSent =
      (({ d with pins := { d.pins with tx := [] } } : Dev).put F.PIO_UART_STAT_TX_LEVEL 0).put F.PIO_INT_STAT_TX_EMPTY 1 := by
  simp only [Dev.uartSent, htx, hon]
  rfl

theorem Dev.uartRx_first (hon : d.on F.PIO_UART_CFG_EN = true) (hrx : d.pins.rx = []) :
    d.uartRx b true = (((({ d with pins := { d.pins with rx := [b] } } : Dev).put F.PIO_UART_STAT_RX_LEVEL 1).put F.PIO_UART_RX_VALID 1).put
      F.PIO_UART_RX_DATA b).put F.PIO_INT_STAT_RX 1 := by
  simp only [Dev.uartRx, hon, hrx]
  rfl

theorem Dev.uartRx_unstopped (hon : d.on F.PIO_UART_CFG_EN = true) :
    d.uartRx b false = (d.put F.PIO_UART_STAT_FRAME_ERR 1).put F.PIO_INT_STAT_ERR 1 := by
  simp only [Dev.uartRx, hon]
  rfl

theorem Dev.uartPop_none (hrx : d.pins.rx = []) : d.uartPop = d.put F.PIO_INT_STAT_WR_IGN 1 := if_pos (by simp [hrx])

theorem Dev.uartPop_drops (hrx : d.pins.rx = b :: c :: l) :
    d.uartPop = ((({ d with pins := { d.pins with rx := c :: l } } : Dev).put F.PIO_UART_STAT_RX_LEVEL (l.length + 1)).put
      F.PIO_UART_RX_VALID 1).put F.PIO_UART_RX_DATA c := by
  simp only [Dev.uartPop, hrx]
  rfl

theorem Dev.uartCfg_takes {v : Nat} (hdiv : 8 ≤ slice v 4 16) :
    d.uartCfg v = ((d.put F.PIO_UART_CFG_EN (v / 2 ^ 31)).put F.PIO_UART_CFG_DIV_INT (slice v 4 16)).put F.PIO_UART_CFG_DIV_FRAC (slice v 0 4) :=
  if_neg (Nat.not_lt.mpr hdiv)

theorem Dev.uartCfg_ignored {v : Nat} (hdiv : slice v 4 16 < 8) : d.uartCfg v = d.put F.PIO_INT_STAT_WR_IGN 1 := by
  simp only [Dev.uartCfg, hdiv, if_true, Dev.pioIgnored]

end

/-! ### The GPIO registers and the states held (R844, R845, R851, R871) -/

section
variable {d : Dev} {v : Nat}

theorem Dev.gpioFn_takes {f : Nat → Nat} (hf : f = fun i => slice v (4 * i) 4) (hall : ∀ i < 8, slice v (4 * i) 4 ≤ 5) :
    d.gpioFn v = (((((((d.put F.PIO_GPIO_FN_FN0 (f 0)).put F.PIO_GPIO_FN_FN1 (f 1)).put F.PIO_GPIO_FN_FN2 (f 2)).put
      F.PIO_GPIO_FN_FN3 (f 3)).put F.PIO_GPIO_FN_FN4 (f 4)).put F.PIO_GPIO_FN_FN5 (f 5)).put F.PIO_GPIO_FN_FN6 (f 6)).put
      F.PIO_GPIO_FN_FN7 (f 7) := by
  subst hf
  refine if_neg ?_
  rw [List.any_eq_true]
  rintro ⟨i, hi, hpast⟩
  exact absurd (hall i (List.mem_range.mp hi)) (Nat.not_le.mpr (of_decide_eq_true hpast))

theorem Dev.gpioFn_ignored {i : Nat} (hi : i < 8) (hpast : 5 < slice v (4 * i) 4) : d.gpioFn v = d.put F.PIO_INT_STAT_WR_IGN 1 :=
  if_pos (List.any_eq_true.mpr ⟨i, List.mem_range.mpr hi, decide_eq_true hpast⟩)

theorem Dev.gpioPull_takes (hone : slice v 8 8 &&& slice v 0 8 = 0) :
    d.gpioPull v = (d.put F.PIO_GPIO_PULL_UP (slice v 8 8)).put F.PIO_GPIO_PULL_DOWN (slice v 0 8) :=
  if_neg (by simp [hone])

theorem Dev.gpioPull_ignored (hboth : slice v 8 8 &&& slice v 0 8 ≠ 0) : d.gpioPull v = d.put F.PIO_INT_STAT_WR_IGN 1 :=
  if_pos (by simpa using hboth)

/-- An output whose supply is below its range is high-impedance. -/
theorem Dev.heldState_unsupplied {s : Signal} (hdrives : s.row.1.drives = true) (hlow : d.pins.rails.testBit s.row.2.1.place = true) :
    d.heldState s = some .highZ :=
  if_pos (by simp [hdrives, hlow])

/-- With its supply in range, a ball of a domain that is off holds its state of R844. -/
theorem Dev.heldState_unpowered {s : Signal} (hsupply : d.pins.rails.testBit s.row.2.1.place = false) (hoff : d.powered s.row.2.2.1 = false) :
    d.heldState s = some s.row.2.2.2 := by
  simp [Dev.heldState, hsupply, hoff]

end

/-- Settles O58 (log entries 79, 115 and 159): each clause is a branch of the register's write, of the byte's, or of the state held. -/
theorem ballsUartGpio : Obligations.BallsUartGpio := by
  refine ⟨fun _ b => effect_uartTxWrite b, ?queues, ?drops, fun _ => effect_uartByteSent, ?sendsMore, ?sendsLast,
    fun _ b stop => effect_uartRxByte b stop, ?receives, ?unstopped, fun _ => effect_uartPopWrite, ?popsNone, ?pops,
    fun _ v => effect_pioUartCfgWrite v, ?config, ?configIgnored, fun _ v => effect_pioGpioFnWrite v, ?functions, ?functionsIgnored,
    fun _ v => effect_pioGpioPullWrite v, ?pulls, ?pullsIgnored, ?preamp, ?spindle, ?unsupplied⟩
  case queues =>
    intro d b hroom hstop
    exact (effect_uartTxWrite b hstop).of_eq (Dev.uartTx_queues hroom)
  case drops =>
    intro d b hfull hstop
    exact (effect_uartTxWrite b hstop).of_eq (Dev.uartTx_drops hfull)
  case sendsMore =>
    intro d b c l htx hon hlive
    exact (effect_uartByteSent hlive).of_eq (Dev.uartSent_more htx hon)
  case sendsLast =>
    intro d b htx hon hlive
    exact (effect_uartByteSent hlive).of_eq (Dev.uartSent_last htx hon)
  case receives =>
    rintro d b _ hon rfl hrx hlive
    exact (effect_uartRxByte b true hlive).of_eq (Dev.uartRx_first hon hrx)
  case unstopped =>
    rintro d b _ hon rfl hlive
    exact (effect_uartRxByte b false hlive).of_eq (Dev.uartRx_unstopped hon)
  case popsNone =>
    intro d hrx hstop
    exact (effect_uartPopWrite hstop).of_eq (Dev.uartPop_none hrx)
  case pops =>
    intro d b c l hrx hstop
    exact (effect_uartPopWrite hstop).of_eq (Dev.uartPop_drops hrx)
  case config =>
    intro d v hdiv hstop
    exact (effect_pioUartCfgWrite v hstop).of_eq (Dev.uartCfg_takes hdiv)
  case configIgnored =>
    intro d v hdiv hstop
    exact (effect_pioUartCfgWrite v hstop).of_eq (Dev.uartCfg_ignored hdiv)
  case functions =>
    intro d v hall hstop
    exact (effect_pioGpioFnWrite v hstop).of_eq (Dev.gpioFn_takes (f := fun i => slice v.toNat (4 * i) 4) rfl hall)
  case functionsIgnored =>
    intro d v i hpast hstop
    exact (effect_pioGpioFnWrite v hstop).of_eq (Dev.gpioFn_ignored i.isLt hpast)
  case pulls =>
    intro d v hone hstop
    exact (effect_pioGpioPullWrite v hstop).of_eq (Dev.gpioPull_takes hone)
  case pullsIgnored =>
    intro d v hboth hstop
    exact (effect_pioGpioPullWrite v hstop).of_eq (Dev.gpioPull_ignored hboth)
  case preamp =>
    intro d n k _ hoff hio
    refine ⟨Dev.heldState_unpowered hio hoff, Dev.heldState_unpowered hio hoff, Dev.heldState_unpowered hio hoff, ?_⟩
    cases hch : d.pins.rails.testBit 2 with
    | true => exact Dev.heldState_unsupplied rfl hch
    | false => exact Dev.heldState_unpowered hch hoff
  case spindle =>
    intro d p high hoff hio
    exact Dev.heldState_unpowered hio hoff
  case unsupplied =>
    intro d s hdrives hlow
    exact Dev.heldState_unsupplied hdrives hlow

/-! ### Temperatures (20 R820 to R829) -/

section
variable {d : Dev}

/-- The device with the readings of a sample in the sensors' registers, its step fed. -/
def Dev.sampled (d : Dev) (l : List Int) : Dev :=
  { (d.each (List.range 14) (fun e i => e.putI F.THM_SENSOR_TEMP i (tempBits (at' l i 0)))) with thm := { d.thm with stale := false } }

/-- A sample with at least seven sensors valid, while the step is fed, reports the highest of them. -/
theorem Dev.thermalSample_reports {l : List Int} {x : Nat × Int} (hfed : d.thm.stale = false) (hreport : (d.sampled l).report l = some x)
    (hvalid : 7 ≤ popCount 14 ((d.sampled l).get F.THM_VALID_VALID)) :
    d.thermalSample l =
      let e := (((d.sampled l).put F.THM_STAT_GUARD 0).put F.THM_MAX_VALID 1).put F.THM_MAX_TEMP (tempBits x.2)
      let e := ((((e.countStep x.2).stepCheck).tripCheck x.1 x.2)).judgeSensors l
      e.flag F.THM_STAT_LEARNING (e.thm.samples.any (fun n => decide (n < 64))) := by
  have hthm : (d.each (List.range 14) (fun e i => e.putI F.THM_SENSOR_TEMP i (tempBits (at' l i 0)))).thm = d.thm :=
    Dev.each_keeps (fun x => x.thm) (fun e i => e.putI F.THM_SENSOR_TEMP i (tempBits (at' l i 0))) (fun _ _ => rfl) d (List.range 14)
  have hsampled : ({ (d.each (List.range 14) (fun e i => e.putI F.THM_SENSOR_TEMP i (tempBits (at' l i 0)))) with
      thm := { (d.each (List.range 14) (fun e i => e.putI F.THM_SENSOR_TEMP i (tempBits (at' l i 0)))).thm with stale := false } } : Dev) =
      d.sampled l := by rw [hthm]; rfl
  have hmany : decide (popCount 14 ((d.sampled l).get F.THM_VALID_VALID) < 7) = false := by simpa using hvalid
  unfold Dev.thermalSample
  extract_lets e0 fed thm e1 r few guarded thm' warned reported judged shown stepped
  have hfed' : fed = false := by rw [← hfed]; exact congrArg Thm.stale hthm
  have he1 : e1 = d.sampled l := by simp only [e1, thm, hfed', Dev.when]; exact hsampled
  have hr : r = some x := by simp only [r, he1, hreport]
  have hfew : decide few = false := by simpa only [few, he1] using hmany
  have hguarded : guarded = (d.sampled l).put F.THM_STAT_GUARD 0 := by simp only [guarded, he1, hfew]; rfl
  have hwarned : warned = guarded := by simp only [warned, hfew]; rfl
  have hjudged : judged = stepped := by simp only [judged, reported, hr, hwarned, hguarded, stepped, shown]
  rw [hjudged]

/-- At or above the enclosure limit the hold is set. -/
theorem Dev.enclosureSample_hot {code : Nat} {t : Int} (htemp : d.enclosureTemp code = some t) (hhot : (16 * d.policy 0x700A 60 : Nat) ≤ t) :
    d.enclosureSample code = (((({ d with thm := { d.thm with encBad := false } } : Dev).put F.THM_ENC_VALID 1).put F.THM_ENC_TEMP (tempBits t)).put
      F.THM_STAT_ENC_HOLD 1).stepCheck := by
  simp only [Dev.enclosureSample, htemp, hhot, if_true]

end

/-- Settles O59 (log entries 19, 49, 75 and 158): each clause is a branch of the sample. -/
theorem thermalSamplesMoveTheStep : Obligations.ThermalSamplesMoveTheStep := by
  refine ⟨fun _ l => effect_thermalSample l, ?reports, ?inReset, fun _ code => effect_enclosureSample code, ?hot, fun _ => effect_stepStale⟩
  case reports =>
    intro d l x hhigh hfed hreport hvalid hlive
    exact (effect_thermalSample l hlive).of_eq ((if_pos hhigh).trans (Dev.thermalSample_reports hfed hreport hvalid))
  case inReset =>
    intro d l hreset hlive
    exact (effect_thermalSample l hlive).of_eq (if_neg (by simp [hreset]))
  case hot =>
    intro d code t hhigh htemp hhot hlive
    exact (effect_enclosureSample code hlive).of_eq ((if_pos hhigh).trans (Dev.enclosureSample_hot htemp hhot))

end Sys2Proof.Machine
end
